-- ==== Sys2Proof/Word.lean ====
section
/-! DEFINITION. The machine's word types (R8, R9). -/

namespace Sys2Proof

/-- One byte. -/
abbrev Byte := BitVec 8
/-- One register or OTP word. -/
abbrev Word := BitVec 32
/-- One doubleword pair: addresses, results and event details. -/
abbrev DWord := BitVec 64
/-- An RTC timestamp: bits [47:14] seconds since 2000-01-01, bits [13:0] 1/16,384 s (R72). -/
abbrev Stamp := BitVec 48

end Sys2Proof
end

