-- ==== Sys2Proof/Syntax.lean ====
section
/-! DEFINITION. The commands of the block: one constructor per row of spec/opcode_table.json, with its operands. Times,
measurements and answers from outside are operands (R35, R67, R97). -/

namespace Sys2Proof

/-- The path by which a register access reaches the device (R13): PCIe, the sideband port, or the MP. -/
inductive Via where
  | host | sideband | mp
  deriving DecidableEq, Repr

/-- Bytes that a requester has stored in its own memory before a command: address and bytes. -/
abbrev Stores := List (Nat × List Byte)

/-- Who submits a command: the host through SQn, or the MP, with what it has stored in MP SRAM before (R34, R70). -/
inductive Requester where
  | host (sq : Fin 4)
  | mp (stores : Stores)
  deriving DecidableEq, Repr

/-- A submission descriptor without its OPCODE (Table 2-7). Operand byte k stands in bits [8(k − 16) + 7:8(k − 16)]. -/
structure Desc where
  fence : Bool
  quiet : Bool
  rsv : BitVec 6
  tag : BitVec 16
  target : BitVec 32
  addr : BitVec 64
  ops : BitVec 384
  deriving DecidableEq, Repr

/-- The plain descriptor: everything 0. -/
def Desc.zero : Desc := { fence := false, quiet := false, rsv := 0, tag := 0, target := 0, addr := 0, ops := 0 }

/-- What a rail senses in CLK_REG cycles that follow one another with the same values (R317–R319): how many cycles of 4 ns, sense voltage
in µV, and per phase the IMON input, as a current in nA in STAGE mode and as V_IMON − V_VSPn in nV in DCR mode, and switch-node samples
from the last quarter of an on-pulse in mV. -/
structure RailSample where
  cycles : Nat
  vs : Int
  imon : List (Nat × Int)
  vin : List (Nat × Nat)
  deriving DecidableEq, Repr

/-- Sense voltage in mV and rail current in 0.1 A in the cycle of an event (Table 7-9), the number of that CLK_REG cycle, which two rows of
one cycle share (R346), and the µs since the last common start, for SEQ_CLOCK of an EV41 that the event raises (R382). -/
structure RailMeas where
  mv : BitVec 16
  ia : BitVec 16
  cycle : Nat
  us : Nat
  deriving DecidableEq, Repr

/-- What the charger measures and its regulators report in one control tick of 1 ms (R447–R449, Table 10-6). -/
structure ChgSample where
  /-- Voltage at CHG_CSPA, 10 mV. -/
  va : BitVec 16
  /-- Voltages across RSNS_A and RSNS_B, signed µV: into the stage, and from CHG_CSPB to ground. -/
  shuntA : BitVec 32
  shuntB : BitVec 32
  /-- VBAK, mV. -/
  vbak : BitVec 16
  /-- Die temperature at the charger, signed 0.1 °C. -/
  tj : BitVec 16
  /-- Bias ratio of BNTC, in units of 2⁻¹⁶ (R462). -/
  bntc : BitVec 16
  /-- The demands of the CV, port A current and port A voltage regulators on the stage for their references, 10 mA (R449). -/
  cv : BitVec 16
  iin : BitVec 16
  vin : BitVec 16
  /-- The least, over 16 consecutive switching cycles since the last tick, of a cycle's greatest current at the source side, 10 mA. -/
  peak : BitVec 16
  /-- The lowest bootstrap voltage while switching, mV. -/
  boot : BitVec 16
  /-- The greatest VA that held for 100 µs since the last tick, 10 mV. -/
  vaHeld : BitVec 16
  deriving DecidableEq, Repr

/-- A reset or a loss of power cuts an OTP command, or the MP's own programming, at the word with this number of its sequence (R544, R547,
R553), which is left reading so. The command does not complete. -/
structure OtpCut where
  step : Nat
  normal : BitVec 39
  high : BitVec 39
  low : BitVec 39
  deriving DecidableEq, Repr

/-- The raw bits of an OTP word at the normal, margin-high and margin-low references (R524), where they differ from what was
programmed. -/
structure MarginRead where
  word : Nat
  normal : BitVec 39
  high : BitVec 39
  low : BitVec 39
  deriving DecidableEq, Repr

/-- What returns to a link port on its trains (Tables 4-3, 4-5 and 4-12; R175, R187, R190, R193, R196). -/
inductive LinkReturn where
  /-- Lock on pair B within 2 ms of step 1: the ring is whole; or none. -/
  | lock (whole : Bool)
  /-- COUNT of an ENUMERATE on pair B. -/
  | count (n : Nat)
  /-- The counts of discovery from both ends. -/
  | discovery (na nb : Nat)
  /-- An ECHO's turned-back train on the ring or chain A, or on chain B, in bit times after the first bit sent. -/
  | echo (chainB : Bool) (rt : Nat)
  /-- A node segment as symbols of the line, SOS to the last CRC character, at the running disparity before it (`true`: positive);
  a symbol's bit 9 is its code bit "a" (R158, R173). -/
  | segment (rd : Bool) (syms : List (BitVec 10))
  /-- A train returned intact without a segment of this position. -/
  | silent (pos : Fin 32)
  /-- A header or command whose CRC fails. -/
  | badHeader
  deriving DecidableEq, Repr

/-- The commands of the block: one constructor per row of the table of operations and events. -/
inductive Instr where
  /-- `NOP` (R85): Command that does nothing and completes with SUCCESS, proving the queue path. -/
  | nop (rq : Requester) (d : Desc)
  /-- `CHIP_RESET` (R86): Command that posts its completion and then makes a chip-level reset within 10 µs. -/
  | chipReset (rq : Requester) (d : Desc)
  /-- `POWER_STATE` (R425): Command that requests a power domain to go on, to retention or off, and completes when the state is reached. -/
  | powerState (rq : Requester) (d : Desc)
  /-- `CT_ATTACH` (R117): Command that attaches the channel table, either reading and checking every entry afresh or resuming the attached generation. -/
  | ctAttach (rq : Requester) (d : Desc) (hostFault : Bool) (bad : List Nat)
  /-- `CT_FLUSH` (R139): Command that writes back the dirty cached entries of a range and optionally drops the unpinned ones. -/
  | ctFlush (rq : Requester) (d : Desc)
  /-- `CE_UPDATE` (R128): Command that merges masked source bytes into one channel entry, increments WRITE_SEQ and marks the entry dirty. -/
  | ceUpdate (rq : Requester) (d : Desc) (hostFault : Bool) (tableFault : Bool) (bad : List Nat)
  /-- `CE_INVALIDATE` (R130): Command that drops the cached entries of a range, pinned ones included, optionally writing dirty ones back first. -/
  | ceInvalidate (rq : Requester) (d : Desc)
  /-- `CT_REBUILD` (R144): Command that starts a Mule rebuild of generation g + 1 from a shadow template and completes on acceptance. -/
  | ctRebuild (rq : Requester) (d : Desc) (hostFault : Bool)
  /-- `CE_PIN` (R126): Command that pins or unpins the channels of a range in the cache, within the limits on pinned entries. -/
  | cePin (rq : Requester) (d : Desc) (tableFault : Bool) (bad : List Nat)
  /-- `LINK_ENUMERATE` (R187): Command that enumerates one port or all ports through the steps of Table 4-12. -/
  | linkEnumerate (rq : Requester) (d : Desc)
  /-- `NODE_AUTH` (R198): Command that authenticates one node with a fresh challenge. -/
  | nodeAuth (rq : Requester) (d : Desc)
  /-- `NODE_PROFILE_LOAD` (R226): Command that writes the masked limit profiles to one node, or to every node and every port image. -/
  | nodeProfileLoad (rq : Requester) (d : Desc) (hostFault : Bool)
  /-- `CAPTURE_ARM` (R255): Command that arms or disarms load-step capture and sets its threshold. -/
  | captureArm (rq : Requester) (d : Desc)
  /-- `CAPTURE_FORCE` (R256): Command that emits CAPT at once, whether or not capture is armed. -/
  | captureForce (rq : Requester) (d : Desc)
  /-- `EST_RESTORE` (R311): Command that checks a snapshot and replaces the backup gauge state or the parking state with it. -/
  | estRestore (rq : Requester) (d : Desc) (hostFault : Bool)
  /-- `EST_SNAPSHOT` (R310): Command that writes a snapshot of the backup gauge state or the parking state to a destination. -/
  | estSnapshot (rq : Requester) (d : Desc)
  /-- `RAIL_SET_VOLTAGE` (R333): Command that sets a rail's target voltage and ramps the reference to it according to the rail's state. -/
  | railSetVoltage (rq : Requester) (d : Desc)
  /-- `RAIL_ENABLE` (R335): Command that starts or stops a rail according to its state. -/
  | railEnable (rq : Requester) (d : Desc)
  /-- `RAIL_MODE` (R336): Command that selects continuous, auto-burst or diode-emulation operation for a rail. -/
  | railMode (rq : Requester) (d : Desc)
  /-- `SEQ_UP` (R376): Command that requests an up sequence, acting by the sequencer's state. -/
  | seqUp (rq : Requester) (d : Desc)
  /-- `SEQ_DOWN` (R376): Command that requests a down sequence, acting by the sequencer's state. -/
  | seqDown (rq : Requester) (d : Desc)
  /-- `SEQ_LOAD` (R366): Command that reads, checks and loads a 512-byte sequence table. -/
  | seqLoad (rq : Requester) (d : Desc) (hostFault : Bool)
  /-- `CHG_CONFIG` (R452): Command that checks a 64-byte charger configuration block and puts it in force at the next control tick. -/
  | chgConfig (rq : Requester) (d : Desc) (hostFault : Bool)
  /-- `CHG_REVERSE` (R472): Command that starts, retargets or ends reverse maintenance charging. -/
  | chgReverse (rq : Requester) (d : Desc)
  /-- `NVM_READ` (R557): Command that reads NVM bytes to a destination. -/
  | nvmRead (rq : Requester) (d : Desc)
  /-- `NVM_WRITE` (R558): Command that writes 1–64 bytes into one NVM page through the page-write procedure. -/
  | nvmWrite (rq : Requester) (d : Desc) (hostFault : Bool)
  /-- `OTP_READ` (R554): Command that reads OTP words with their check bits and status flags. -/
  | otpRead (rq : Requester) (d : Desc) (reads : List MarginRead)
  /-- `OTP_PROGRAM` (R552): Command that programs and verifies one OTP word, subject to the ordered checks of Table 12-11. -/
  | otpProgram (rq : Requester) (d : Desc) (before verify : Option MarginRead) (cut : Option OtpCut)
  /-- `OTP_LOCK_REGION` (R543): Command that computes the digest of a region and programs its digest word and its lock word. -/
  | otpLockRegion (rq : Requester) (d : Desc) (cut : Option OtpCut)
  /-- `LC_ADVANCE` (R547): Command that seals the regions due for sealing and programs the next life-cycle step word. -/
  | lcAdvance (rq : Requester) (d : Desc) (cut : Option OtpCut)
  /-- `RTC_SET` (R578): Command that stages both calendar words and commits them in one operation. -/
  | rtcSet (rq : Requester) (d : Desc)
  /-- `RTC_GET` (R577): Command that returns the time and date words captured in one CLK_RTC cycle. -/
  | rtcGet (rq : Requester) (d : Desc)
  /-- `ALARM_SET` (R588): Command that checks an alarm time and arms it, or disarms the alarm. -/
  | alarmSet (rq : Requester) (d : Desc)
  /-- `PERIODIC_SET` (R591): Command that starts the periodic timer with a period, or stops it. -/
  | periodicSet (rq : Requester) (d : Desc)
  /-- `GOOSE_CONFIG` (R507): Command that sets a Goose instance's period and task mask, starting the instance if it is not yet started. -/
  | gooseConfig (rq : Requester) (d : Desc) (t : Nat)
  /-- `FW_STAGE` (R602): Command that erases a firmware slot, copies an image into it and verifies it. -/
  | fwStage (rq : Requester) (d : Desc) (hostFault : Bool) (timeout : Bool)
  /-- `FW_COMMIT` (R603): Command that makes a verified slot preferred on trial and then restarts the MP. -/
  | fwCommit (rq : Requester) (d : Desc)
  /-- `LOG_READ` (R626): Command that reads the event log in logical order. -/
  | logRead (rq : Requester) (d : Desc)
  /-- `MARGIN_PLAN_GET` (R619): Command that writes the 24 margin item records of the current revision. -/
  | marginPlanGet (rq : Requester) (d : Desc)
  /-- `MARGIN_PLAN_ACCEPT` (R620): Command that starts the application of a pending margin plan. -/
  | marginPlanAccept (rq : Requester) (d : Desc)
  /-- `SET_POINTER` (R97): Sideband Write Word that sets the register pointer to a BAR0 offset. -/
  | setPointer (code : Byte) (bytes : List Byte) (pecOk : Bool)
  /-- `REG_DATA_WRITE` (R98): Sideband Block Write that writes the register at the pointer and advances the pointer by 4. -/
  | regDataWrite (bytes : List Byte) (pecOk : Bool)
  /-- `REG_DATA_READ` (R98): Sideband Block Read that reads the register at the pointer and advances the pointer by 4. -/
  | regDataRead (clock : Nat)
  /-- `MBX_IN` (R99): Sideband Block Write that posts one message to the MP, or is NACKed while the mailbox is busy or the MP is not running. -/
  | mbxIn (bytes : List Byte) (pecOk : Bool)
  /-- `MBX_OUT` (R100): Sideband Block Read that returns the MP's pending message and releases MALERT_N. -/
  | mbxOut
  /-- `MBX_STATUS` (R97): Sideband Read Byte that returns the mailbox and device status bits. -/
  | mbxStatus
  /-- `NVM_ADDRESS_WRITE` (R102): Sideband write to the NVM address that writes 1–64 bytes wrapping within one page. -/
  | nvmAddressWrite (hi : Byte) (lo : Byte) (bytes : List Byte) (pecOk : Bool)
  /-- `NVM_ADDRESS_READ` (R102): Sideband read at the NVM address that returns bytes from the address onward. -/
  | nvmAddressRead (hi : Byte) (lo : Byte) (len : Nat)
  /-- `ALERT_RESPONSE` (R100): SMBus Alert Response Address read, answered with the management address. -/
  | alertResponse
  /-- `REGISTER_WRITE` (R11): Write to a register field without a row of its own, applied by its access type and change class. -/
  | registerWrite (via : Via) (bar2 : Bool) (off : BitVec 16) (whole : Bool) (w : Word)
  /-- `RC_FIELD_READ` (R13): Read of a read-clear field that returns its value and clears it. `clock` is where the counter behind the
  register stands at the read: the cycle of the running period for GOOSEn_STATUS and GOOSEn_TIME, µs since the last common start for
  SEQ_CLOCK; another register heeds none. -/
  | rcFieldRead (via : Via) (bar2 : Bool) (off : BitVec 16) (whole : Bool) (clock : Nat)
  /-- `SQ_TAIL_DOORBELL` (R76): Doorbell write of an SQ tail index, accepted or refused. -/
  | sqTailDoorbell (n : Fin 4) (w : Word) (stores : Stores)
  /-- `CQ_HEAD_DOORBELL` (R76): Doorbell write of a CQ head index that frees consumed completion entries. -/
  | cqHeadDoorbell (n : Fin 4) (w : Word)
  /-- `EQ_HEAD_DOORBELL` (R76): Doorbell write of the EQ head index that frees consumed event entries. -/
  | eqHeadDoorbell (w : Word)
  /-- `BUFFER_RETURN_DOORBELL` (R76): Doorbell write that hands TS or TSC buffers to the device. -/
  | bufferReturnDoorbell (n : Fin 17) (w : Word)
  /-- `QE_RUN_START` (R64): Write of QE_CTRL.RUN = 1 that starts the queue engine when the queue configuration is valid. -/
  | qeRunStart (via : Via) (stores : Stores)
  /-- `QE_RUN_STOP` (R66): Write of QE_CTRL.RUN = 0 that stops fetching, drains dispatched commands and closes open buffers. -/
  | qeRunStop (via : Via)
  /-- `DETACH` (R153): Write of CT_CTRL.DETACH that ends the epoch, writes back dirty entries, drops all entries and pins and clears ATTACHED. -/
  | detach (via : Via) (w : Word)
  /-- `LP_COMMIT` (R165): Write of LP_CTRL.COMMIT that captures the staged link fields for the next cycle boundary. -/
  | lpCommit (via : Via) (w : Word)
  /-- `OX_COMMIT` (R313): Write of OX_CTRL.COMMIT that captures the staged OCV table for the next epoch boundary. -/
  | oxCommit (via : Via) (w : Word)
  /-- `RAIL_COMMIT` (R323): Write of RAIL_CTRL.COMMIT that captures the staged loop fields for the rail's next switching cycle. -/
  | railCommit (via : Via) (rail : Fin 8) (w : Word)
  /-- `LP_RUN` (R206): Write of LP_CTRL.RUN that starts or stops cycles on enabled, enumerated ports. -/
  | lpRun (via : Via) (w : Word)
  /-- `LP_PI_CFG_WRITE` (R206): Change of PI_EN or PI_NODE that sends SHUNT_STREAM to the old and the new node at the next boundary. -/
  | lpPiCfgWrite (via : Via) (w : Word)
  /-- `GLB_SB_REQUEST_WRITE` (R61): Sideband write to GLB_SB_REQUEST that raises EV60 with the value written. -/
  | glbSbRequestWrite (w : Word) (pecOk : Bool)
  /-- `PWR_REQ_WRITE` (R426): Write to a PWR_REQn register that requests a domain transition without a completion. -/
  | pwrReqWrite (via : Via) (dom : Fin 13) (w : Word)
  /-- `FLT_STATUS_CLEAR` (R490): Write of 1 to an FLT_STATUS bit that clears it, the source latching again when its line is still asserted. -/
  | fltStatusClear (via : Via) (w : Word)
  /-- `FIRST_CLR` (R490): Write of FLT_CTRL.FIRST_CLR that clears FLT_FIRST, FLT_FIRST_TIME and FLT_OVF outside the fault state. -/
  | firstClr (via : Via)
  /-- `FLT_TEST` (R487): Write of FLT_TEST with the key that asserts the TEST fault source. -/
  | fltTest (via : Via) (w : Word)
  /-- `FLT_REACT_WRITE` (R493): Write to a reaction register that may raise a class and refuses any lowering with LOWER_REJECT. -/
  | fltReactWrite (via : Via) (hi : Bool) (w : Word)
  /-- `GOOSE_CHECKIN` (R508): Write to GOOSEn_CHECKIN that checks in a task or is a violation. -/
  | gooseCheckin (inst : Fin 2) (t : Nat) (w : Word)
  /-- `GOOSE_SERVICE` (R509): Write to GOOSEn_SERVICE that is a valid service or a violation. -/
  | gooseService (inst : Fin 2) (t : Nat) (w : Word)
  /-- `SWEEP_NOW` (R468): Write of CHG_CTRL.SWEEP_NOW that starts an MPPT sweep while the panel is the source. -/
  | sweepNow (via : Via) (w : Word)
  /-- `AUTH_NOW` (R483): Write of CHG_CTRL.AUTH_NOW that starts a backup-pack authentication run. -/
  | authNow (via : Via) (w : Word)
  /-- `CHG_HOLD` (R475): Write of CHG_CTRL.HOLD = 1 that ends forward charging with reason HOLD. -/
  | chgHold (via : Via) (w : Word)
  /-- `RTC_TIME_WRITE` (R578): Write to RTC_TIME that stages the time and starts its commit with the staged or present date. -/
  | rtcTimeWrite (via : Via) (w : Word)
  /-- `RTC_DATE_WRITE` (R578): Write to RTC_DATE that stages the date and sets DATE_STAGED. -/
  | rtcDateWrite (via : Via) (w : Word)
  /-- `RTC_TIME_READ` (R576): Read of RTC_TIME that captures the date and fraction into the holding registers. -/
  | rtcTimeRead (via : Via)
  /-- `CHG_QB_LO_READ` (R477): Read of CHG_QB_LO that captures CHG_QB_HI for a following read. -/
  | chgQbLoRead (via : Via)
  /-- `EVR_LAST_LO_READ` (R644): Read of EVR_LAST_LO that captures EVR_LAST_HI of the same occurrence. -/
  | evrLastLoRead (via : Via)
  /-- `EVR_MASK_WRITE` (R640): Write to an event mask register, where a mask bit taking 0 routes or holds its pending event. -/
  | evrMaskWrite (via : Via) (hi : Bool) (w : Word)
  /-- `EVR_PEND_CLEAR` (R640): Write of 1 to an EVR_PEND bit that discards the pending occurrence. -/
  | evrPendClear (via : Via) (hi : Bool) (w : Word)
  /-- `EVR_OPEN_WRITE` (R636): Write of EVR_CTRL.OPEN that enables or disables event routing. -/
  | evrOpenWrite (via : Via) (w : Word)
  /-- `REPLAN` (R617): Write of MP_MARGIN_CFG.REPLAN that requests a margin re-plan. -/
  | replan (via : Via) (w : Word) (inputs : List (Nat × Int))
  /-- `TMON_EN_WRITE` (R345): Write of TMON_EN = 0 that clears the TMON flags and releases the STG_EN hold. -/
  | tmonEnWrite (via : Via) (w : Word)
  /-- `POWER_ON_RESET` (R442): Power-on reset that restarts the device from step 1 of Table 9-11. -/
  | powerOnReset (back : Option (BitVec 16 × BitVec 16))
  /-- `BROWN_OUT` (R438): VSYS_BOR with PD_AON kept that resets everything except PD_AON, PD_BKP and the power path. -/
  | brownOut
  /-- `RESET_N` (R439): A low pulse on RESET_N that causes the pin reset of Table 9-10. -/
  | resetN
  /-- `PERST_N_ASSERT` (R92): Assertion of PERST_N that resets PD_PCIE and the queue state. -/
  | perstNAssert
  /-- `PERST_N_RELEASE` (R430): Release of PERST_N that brings PD_PCIE on and starts link training. -/
  | perstNRelease
  /-- `LINK_DOWN` (R92): PCIe hot reset or link-down that resets PD_PCIE and the queue state. -/
  | linkDown (refclk : Bool)
  /-- `FUNCTION_LEVEL_RESET` (R93): Function-level reset with the effect of R92 without retraining. -/
  | functionLevelReset
  /-- `REFCLK_RETURN` (R51): Return of the PCIe reference clock that restarts link training within 1 ms. -/
  | refclkReturn
  /-- `VSYS_SAVE` (R419): VSYS falling below 7.0 V starts the save at power-down. -/
  | vsysSave (flagging : Bool)
  /-- `SAVE_DONE` (R568): The save set has been written to the spare image and SAVE_DONE is set. -/
  | saveDone
  /-- `VSYS_START_AFTER_SAVE` (R422): VSYS_START met again after SAVE_DONE that clears SAVE_ACTIVE and restores the domains. -/
  | vsysStartAfterSave
  /-- `VMAIN_LOW` (R407): VMAIN_LOW or VMAIN_MARGIN with VBAK_PRESENT that switches the path from MAIN to BAK. -/
  | vmainLow (vmain : BitVec 16) (vbak : BitVec 16)
  /-- `VMAIN_OV` (R407): VMAIN over-voltage that switches the path from MAIN to BAK or HOLD. -/
  | vmainOv (vmain : BitVec 16) (vbak : BitVec 16)
  /-- `VBAK_LOST` (R407): VBAK_PRESENT clearing in BAK without VMAIN_QUAL that switches the path to HOLD. -/
  | vbakLost (vmain : BitVec 16) (vbak : BitVec 16)
  /-- `VBAK_PRESENT` (R407): VBAK_PRESENT rising in HOLD without VMAIN_QUAL that switches the path to BAK. -/
  | vbakPresent (vmain : BitVec 16) (vbak : BitVec 16)
  /-- `VMAIN_QUAL_GAINED` (R408): VMAIN_QUAL becoming true that starts the 100 ms return timer. -/
  | vmainQualGained (vmain vbak : BitVec 16) (us : Nat)
  /-- `VMAIN_QUAL_LOST` (R408): Loss of VMAIN_QUAL that stops the return timer and sets it to zero. -/
  | vmainQualLost (vmain : BitVec 16) (vbak : BitVec 16)
  /-- `RETURN_TIMER_EXPIRY` (R407): 100 ms of VMAIN_QUAL that returns the path to MAIN. -/
  | returnTimerExpiry (vmain vbak : BitVec 16) (us : Nat)
  /-- `SUPPLY_UV` (R415): Internal supply under-voltage that holds its domains off and asserts the supply under-voltage line. -/
  | supplyUv (k : Fin 8)
  /-- `SUPPLY_OV` (R415): Internal supply over-voltage that asserts the supply over-voltage line. -/
  | supplyOv (k : Fin 8)
  /-- `PLL_LOSS_OF_LOCK` (R47): PLL lock detector reporting loss of lock, after which the root-derived clocks are gated off. -/
  | pllLossOfLock
  /-- `CLK_CORE_LOSS` (R46): The CLK_CORE monitor declares loss after two failing windows and asserts the loss line. -/
  | clkCoreLoss
  /-- `CLK_SAFE_LOSS` (R49): Loss of CLK_SAFE or CLK_AON declared and latched through the CLK_AON path. -/
  | clkSafeLoss (aon : Bool)
  /-- `CLK_LRX_LOSS` (R50): Loss of a port's recovered receive clock, reported as a port status change. -/
  | clkLrxLoss (p : Fin 16)
  /-- `OSC_STOP` (R586): Stop detector declaring the 32.768 kHz crystal stopped. -/
  | oscStop
  /-- `OSC_START_TIMEOUT` (R443): The 25 MHz oscillator not started within 10 ms, stopping start-up at step 5. -/
  | oscStartTimeout
  /-- `DOMAIN_STAGE_READY` (R433): A power-domain bring-up or power-down stage sets or clears its ready bit and the next stage starts. -/
  | domainStageReady (k : Fin 13)
  /-- `DOMAIN_STAGE_TIMEOUT` (R435): A stage failing to set its ready bit in time, which takes the domain to off. -/
  | domainStageTimeout (k : Fin 13)
  /-- `OTP_LOAD_COMPLETE` (R525): Completion of the OTP load, after which the configured values come into force. -/
  | otpLoadComplete (reads : List MarginRead) (unary : List (Nat × Nat))
  /-- `MP_BOOT` (R599): At each LOGIC_RDY of PD_MP the boot ROM runs boot control and starts a verifying slot. -/
  | mpBoot (inputs : List (Nat × Int))
  /-- `MP_SELF_RESTART` (R438): Restart of PD_MP alone at the MP's request or by Goose 1. -/
  | mpSelfRestart
  /-- `MP_DATA_PAGE_FILL` (R598): Fill of a firmware data page into the MP cache, checked against its page hash. -/
  | mpDataPageFill (page : Nat)
  /-- `FW_CONFIRM` (R601): Confirmation of the running slot after 60 s of valid Goose 1 services. -/
  | fwConfirm (cut : Option OtpCut)
  /-- `ROLLBACK_RETRY` (R604): Hourly retry of anti-rollback counter programming refused earlier. -/
  | rollbackRetry (cut : Option OtpCut)
  /-- `FAULT_LATCH` (R488): An asserted error line latches its source, which acts by its reaction class. -/
  | faultLatch (k : Fin 32) (detail : Word)
  /-- `GOOSE_PERIOD_EXPIRY` (R510): A Goose period reaching its expiry cycle without a valid service, which is an EXPIRED violation. -/
  | goosePeriodExpiry (g0 : Bool) (g1 : Bool)
  /-- `GOOSE_EARLY_WARNING` (R512): Cycle 3,500 × P of a Goose 0 period without a valid service, which raises EV48. -/
  | gooseEarlyWarning
  /-- `HOST_RST_N_RELEASE` (R514): End of a HOST_RST_N assertion, which begins a Goose 0 boot period and restarts WDI supervision. -/
  | hostRstNRelease (wdi : Bool) (us : Nat)
  /-- `GOOSE_CHIP_RESTART` (R388): Goose chip restart taking effect, after the down sequence for Goose 0. -/
  | gooseChipRestart
  /-- `RAIL_PRESTART_DECISION` (R327): Pre-start check decision that enters SOFTSTART or FAULT with reason HSS. -/
  | railPrestartDecision (n : Fin 8) (vpre : BitVec 16) (ia : BitVec 16) (cycle : Nat) (us : Nat) (samples : List (Nat × List Nat))
  /-- `RAIL_PULSE` (R319): Loop trigger that starts a COT pulse on the next eligible phase. -/
  | railPulse (n : Fin 8) (samples : List RailSample)
  /-- `RAIL_FREQ_TRIM` (R321): The 1 ms update of the frequency trim k_f. -/
  | railFreqTrim (n : Fin 8)
  /-- `RAIL_REF_AT_TARGET` (R328): The soft-start reference reaching the target, where the rail leaves diode emulation. -/
  | railRefAtTarget (n : Fin 8)
  /-- `RAIL_PG_GAINED` (R329): The sense voltage within ±PG_MV for 16 µs, so the rail gains PG. -/
  | railPgGained (n : Fin 8) (m : RailMeas)
  /-- `RAIL_PG_LOST` (R329): The sense voltage outside ±PG_MV for 16 µs, so the rail loses PG. -/
  | railPgLost (n : Fin 8) (m : RailMeas)
  /-- `RAIL_START_TIMEOUT` (R330): PG not gained by SS_TIMEOUT, so the rail enters FAULT. -/
  | railStartTimeout (n : Fin 8) (m : RailMeas)
  /-- `RAIL_STOP_DONE` (R331): End of a stop ramp, where the phases go tri-state and the rail is OFF. -/
  | railStopDone (n : Fin 8)
  /-- `RAIL_SLEW_DONE` (R333): The reference reaching a new target, where the waiting RAIL_SET_VOLTAGE completes. -/
  | railSlewDone (n : Fin 8)
  /-- `RAIL_OV` (R343): Output over-voltage for 1 µs, so the rail enters FAULT and its phases are driven low. -/
  | railOv (n : Fin 8) (m : RailMeas)
  /-- `RAIL_OV_DRIVE_END` (R343): End of the over-voltage low drive, after which the phases go tri-state. -/
  | railOvDriveEnd (n : Fin 8)
  /-- `RAIL_UV` (R344): Output under-voltage for UV_TIME, so the rail enters FAULT. -/
  | railUv (n : Fin 8) (m : RailMeas)
  /-- `TMON_WARN` (R345): Filtered TMON at or above WARN_C, which sets TMON_WARN and raises STAGE_WARN events. -/
  | tmonWarn (mv : BitVec 16)
  /-- `TMON_SHUTDOWN` (R345): TMON at or above SHDN_C or above 2.5 V, which faults every active rail and holds STG_EN low. -/
  | tmonShutdown (mv : BitVec 16) (cycle : Nat) (us : Nat)
  /-- `TMON_LOST` (R345): TMON below 0.3 V for 1 ms, which sets TMON_LOST and raises events. -/
  | tmonLost (mv : BitVec 16) (us : Nat)
  /-- `TMON_CLEAR` (R345): TMON back within its clearing threshold, which clears TMON_WARN, TMON_SHDN or TMON_LOST. -/
  | tmonClear (mv : BitVec 16) (us : Nat)
  /-- `RAIL_ILIM` (R342): ILIM_ACTIVE held for 1 ms, which raises EV32 + n with kind ILIM. -/
  | railIlim (n : Fin 8) (m : RailMeas)
  /-- `PHASE_SHED` (R349): Eight consecutive open or sense cycles, so the phase is shed. -/
  | phaseShed (n : Fin 8) (m : RailMeas)
  /-- `RAIL_BURST_ENTER` (R339): Averaged rail current below BURST_ENTER, so the rail enters burst. -/
  | railBurstEnter (n : Fin 8)
  /-- `RAIL_BURST_EXIT` (R339): A burst exit condition, so the rail leaves burst. -/
  | railBurstExit (n : Fin 8)
  /-- `RAIL_BURST_SLEEP` (R339): The sense voltage reaching reference + BURST_HYST_MV, so the rail sleeps. -/
  | railBurstSleep (n : Fin 8) (mv : BitVec 16)
  /-- `RAIL_BURST_WAKE` (R339): The sense voltage falling below the reference, so a sleeping rail wakes. -/
  | railBurstWake (n : Fin 8) (mv : BitVec 16)
  /-- `RAIL_TELEMETRY_RENEW` (R356): The 1 ms renewal of the rail and phase telemetry means. -/
  | railTelemetryRenew (n : Fin 8) (tmon : BitVec 16)
  /-- `SEQ_ON_INSTANT` (R370): Common start + ON_DELAY of a member, where its on action is taken and its slot opens. -/
  | seqOnInstant (k : Fin 16)
  /-- `SEQ_SLOT_CLOSE` (R370): Close of a member's slot, where it reaches on or has a DEADLINE fault. -/
  | seqSlotClose (k : Fin 16)
  /-- `PG_PIN_CHANGE` (R371): A change of a member's PG pin, which starts the debounce or counts a chatter. -/
  | pgPinChange (pin : Fin 8) (level : Bool) (us : Nat)
  /-- `PG_DEBOUNCE_DONE` (R371): PG held active, or inactive, for PG_DEBOUNCE. -/
  | pgDebounceDone (k : Fin 16) (us : Nat)
  /-- `SEQ_OFF_INSTANT` (R374): Common start + OFF_DELAY of a member, where its off action is taken. -/
  | seqOffInstant (k : Fin 16)
  /-- `SEQ_MEMBER_OFF_REACHED` (R375): A member meeting its off condition of Table 8-1. -/
  | seqMemberOffReached (k : Fin 16) (us : Nat)
  /-- `SEQ_OFF_TIMEOUT` (R374): OFF_TIMEOUT expiring before a member reached off. -/
  | seqOffTimeout (k : Fin 16)
  /-- `WDI_TOGGLE` (R383): A counted toggle of WDI, which sets the next due time. -/
  | wdiToggle (level : Bool) (us : Nat)
  /-- `WDI_MISS` (R384): A WDI toggle not made by its due time, which applies WDI_REACT. -/
  | wdiMiss (us : Nat)
  /-- `FLOCK_PING` (R392): Addressed PING frame, answered by the follower with its status. -/
  | flockPing (bytes : List Byte)
  /-- `FLOCK_PING_REPLY` (R400): A follower reply received by the bellwether, updating presence, faults, requests and arming. -/
  | flockPingReply (addr : Fin 32) (bytes : List Byte) (fsync : Bool)
  /-- `FLOCK_UP_ARM` (R395): UP_ARM broadcast that arms a DOWN follower with a loaded table. -/
  | flockUpArm (bytes : List Byte)
  /-- `FLOCK_DOWN_ARM` (R396): DOWN_ARM broadcast announcing a down start. -/
  | flockDownArm (bytes : List Byte)
  /-- `FLOCK_CANCEL` (R397): CANCEL broadcast that disarms followers. -/
  | flockCancel (bytes : List Byte)
  /-- `FLOCK_ACK_REQ` (R399): ACK_REQ frame that clears a follower's request bits. -/
  | flockAckReq (bytes : List Byte)
  /-- `FSYNC_EDGE` (R394): FSYNC falling edge taken as an up or down common start. -/
  | fsyncEdge
  /-- `FLOCK_ARM_TIMEOUT` (R395): ARM_TIMEOUT_MS passing without every follower armed, or ending a follower's arm. -/
  | flockArmTimeout (us : Nat)
  /-- `FLOCK_POLL` (R400): POLL_MS timer, at which the bellwether PINGs each expected follower. -/
  | flockPoll (us : Nat) (fsync : Bool)
  /-- `FLOCK_MASTER_LOST` (R401): No valid frame for 100 ms at a follower, which sets MASTER_LOST. -/
  | flockMasterLost (us : Nat)
  /-- `FLOCK_BUS_ERROR` (R402): FDA or FSYNC low for more than 1 ms while released, which sets BUS_ERROR. -/
  | flockBusError (fsync : Bool)
  /-- `CYCLE_TICK` (R162): Start of a sample cycle, where SYNC is emitted on every running port. -/
  | cycleTick
  /-- `MICROFRAME_TRAIN` (R166): Start of a microframe, where the port sends a train with its header, quota and command. -/
  | microframeTrain (p : Fin 16) (chainB : Bool)
  /-- `SEGMENT_RECEIVED` (R175): A node segment received on a returning train, kept or discarded on its CRC. -/
  | segmentReceived (p : Fin 16) (r : LinkReturn)
  /-- `ENUMERATION_COMPLETE` (R187): Step 9 of enumeration, where the port enters ring or dual-chain mode and EV5 + port is raised. -/
  | enumerationComplete (p : Fin 16)
  /-- `TRAIN_FAILED` (R192): A train not returned intact by the next microframe, eight of which start recovery. -/
  | trainFailed (p : Fin 16)
  /-- `DUAL_CHAIN_START` (R193): First qualifying cycle boundary after recovery, where dual-chain operation begins. -/
  | dualChainStart (p : Fin 16)
  /-- `FAR_LOCK_HEALED` (R195): Chain B end node reporting FAR_LOCK, so the port sets HEALED. -/
  | farLockHealed (p : Fin 16)
  /-- `NODE_RESPONSE` (R182): A RESP sub-block from a node, acted on by its status. -/
  | nodeResponse (p : Fin 16) (pos : Fin 32) (fault : Bool)
  /-- `COMMAND_RETRY_TIMEOUT` (R186): No response after 8 trains, so the node command is resent or failed. -/
  | commandRetryTimeout (p : Fin 16) (chainB : Bool)
  /-- `NODE_RESTORE` (R196): RESET_SEEN, or 3 trains without a segment, so the node is restored. -/
  | nodeRestore (a : Fin 512) (supplyLost : Bool)
  /-- `AUTH_RENEWAL` (R197): 24 h after a node's last pass, which starts a new authentication. -/
  | authRenewal (a : Fin 512)
  /-- `CYCLE_RECORD_COMPLETE` (R240): A node cycle record received complete and written to telemetry. -/
  | cycleRecordComplete (a : Fin 512)
  /-- `ACC_RECORD_COMPLETE` (R233): A complete accumulator record that yields per-tap charge deltas. -/
  | accRecordComplete (a : Fin 512)
  /-- `PI_SAMPLE` (R247): A pack-current PI sample received and judged for step detection. -/
  | piSample (t : Nat) (delay : Nat)
  /-- `CAPTURE_PIECE` (R261): A CAP piece received and written into its reserved TSC record. -/
  | capturePiece (a : Fin 512)
  /-- `CAPTURE_TIMEOUT` (R258): TIMEOUT_MS after a capture became oldest, so it completes with zero-filled records. -/
  | captureTimeout
  /-- `TS_BUFFER_FLUSH` (R74): FLUSH_MS after a buffer's first record, so the buffer is closed. -/
  | tsBufferFlush (m : Fin 17)
  /-- `EPOCH_BOUNDARY` (R267): An epoch boundary every 1,000 ms, starting the next epoch's stream. -/
  | epochBoundary
  /-- `BATCH_FETCH` (R123): A batch reserves cache ways all at once and fetches its entries. -/
  | batchFetch (errs : List (Nat × Nat)) (fault : Bool) (bad : List Nat)
  /-- `BATCH_PASS` (R268): The pass of a batch, which updates and writes back its channels. -/
  | batchPass (errs : List (Nat × Nat)) (fault : Bool)
  /-- `EPOCH_END` (R271): The last batch of an epoch written back, which raises EV27. -/
  | epochEnd
  /-- `FIT_COMPUTE` (R273): Impedance fit of one cell tap from a completed node capture record. -/
  | fitCompute
  /-- `CACHE_SCRUB` (R134): Background scrub of every cache way once per 10 s. -/
  | cacheScrub (errs : List (Nat × Nat)) (fault : Bool)
  /-- `MULE_PREPARE` (R145): Rate-limited read of the template entries, which builds the second directory. -/
  | mulePrepare (fault : Bool) (bad : List Nat)
  /-- `MULE_SWITCH` (R150): At the end of the copy epoch the delta log is replayed and generation g + 1 installed. -/
  | muleSwitch (fault : Bool) (bad : List Nat)
  /-- `DESCRIPTOR_FETCH` (R78): Fetch of a descriptor from an SQ when a CQ entry is reserved, then dispatch. -/
  | descriptorFetch (fails : Bool)
  /-- `COALESCE_TIMEOUT` (R641): TIME_US after the first counted occurrence, so the MSI-X message is sent. -/
  | coalesceTimeout (v : Fin 64)
  /-- `CHG_CONTROL_TICK` (R447): 1 ms charger control tick that updates measurements, loops and faults. -/
  | chgControlTick (x : ChgSample)
  /-- `CHG_SOURCE_QUALIFIED` (R456): End of the 1 s qualification, where a source is selected. -/
  | chgSourceQualified
  /-- `CHG_SOURCE_RETRY` (R455): 60 s after no candidate qualified, so qualification is tried again. -/
  | chgSourceRetry
  /-- `CHG_SOURCE_LOST` (R457): A source-loss condition, which ends the session with both gates off. -/
  | chgSourceLost
  /-- `MPPT_STEP` (R466): The 250 ms perturb-and-observe move of V_REF. -/
  | mpptStep
  /-- `SWEEP_STEP` (R467): A 20 ms step of an MPPT sweep, with V_REF set at its end. -/
  | sweepStep
  /-- `PERIODIC_SWEEP` (R468): A periodic sweep due 10 min after the last sweep. -/
  | periodicSweep
  /-- `CHG_BAND_UPDATE` (R462): The 100 ms BNTC conversion and temperature band update. -/
  | chgBandUpdate (ratio : BitVec 16)
  /-- `SAFETY_TIMER_EXPIRY` (R465): The safety timer reaching TIMER_H, which latches SAFETY_TIMER. -/
  | safetyTimerExpiry
  /-- `PRECHARGE_TIMER` (R460): Time in PRECHARGE exceeding PRE_MIN, which latches PRECHARGE_TIMER. -/
  | prechargeTimer
  /-- `CHG_TERMINATION` (R461): IB below ITERM for 60 s in CV, which ends the session DONE. -/
  | chgTermination
  /-- `RECHARGE_CONDITION` (R459): VB below RECHG_MV for 10 s, or SOC below RECHG_SOC, which clears WAIT_RECHG. -/
  | rechargeCondition
  /-- `REVERSE_CHECK` (R473): The CHECK_MIN pause in reverse mode, which tests the vehicle battery's presence. -/
  | reverseCheck (va : BitVec 16)
  /-- `AUTH_ATTEMPT` (R483): A BAUTH IDENT and CHALLENGE attempt whose answer, or lack of one, decides the run. -/
  | authAttempt (ident : Option (List Byte)) (resp : Option (List Byte))
  /-- `GAUGE_CAPTURE` (R479): A 2 A step in IB, which records a backup gauge capture. -/
  | gaugeCapture (samples : List (Int × Int))
  /-- `QB_WAKE` (R481): CHG_QB at or below the wake value, which wakes PD_MP. -/
  | qbWake
  /-- `GAUGE_EPOCH` (R312): The 1 s backup gauge epoch run by the MP. -/
  | gaugeEpoch
  /-- `OTP_MARGIN_PASS` (R526): Hourly margin-read pass over all OTP words. -/
  | otpMarginPass (reads : List MarginRead)
  /-- `NVM_PAGE_WRITE_DONE` (R558): Commit of a page write, which completes its request. -/
  | nvmPageWriteDone
  /-- `SPARE_ERASE_DONE` (R568): The spare save image erased, which sets SPARE_READY. -/
  | spareEraseDone
  /-- `CHECKPOINT_SAVE` (R569): Hourly checkpoint save of the volatile shadows. -/
  | checkpointSave
  /-- `RTC_COMMIT` (R579): Calendar commit edge, which takes the staged fields or is rejected under R580. -/
  | rtcCommit (edge : Nat)
  /-- `ALARM_FIRE` (R589): Calendar at or after the alarm time, so the alarm fires and disarms. -/
  | alarmFire
  /-- `PERIODIC_WAKE` (R591): Count of P ticks reached, so EV55 is raised and PD_MP woken. -/
  | periodicWake (edge : Nat)
  /-- `RTC_COMPENSATION` (R583): The 64 s crystal temperature measurement that updates CORR. -/
  | rtcCompensation (temp : BitVec 16)
  /-- `PARKING_START` (R605): PD_CORE reaching retention or off with groups to park, which starts parking. -/
  | parkingStart
  /-- `PARKING_SCAN` (R607): The once-per-second scan of a parked link group. -/
  | parkingScan (g : Fin 4) (recs : List (Nat × BitVec 11552)) (acc : Option (BitVec 48 × Nat)) (lost : List Nat) (auths : List (Nat × BitVec 128)) (ms : Nat)
  /-- `AGEING_MEASURE` (R612): Hourly measurement of the ageing monitors. -/
  | ageingMeasure (monitors : List (Nat × Nat × Nat)) (lost : List Nat) (gate : Int) (drifts : List Int)
  /-- `DIE_TEMP_WARN` (R613): Highest die temperature rising through WARN_C, which raises EV61. -/
  | dieTempWarn (sensor : Fin 8) (t : BitVec 16)
  /-- `MARGIN_REPLAN_PERIODIC` (R617): Re-plan at each 100 hours of PD_MP on-time. -/
  | marginReplanPeriodic (inputs : List (Nat × Int))
  /-- `MARGIN_APPLY_DONE` (R621): End of a margin-plan application, which stores the plan and clears APPLYING and PENDING. -/
  | marginApplyDone (inputs : List (Nat × Int))
  /-- `RESET_N_RELEASE` (R441): Release of RESET_N, at which start-up resumes at step 5 of Table 9-11. -/
  | resetNRelease
  /-- `VSYS_START_AFTER_BROWN_OUT` (R438): VSYS_START met after a brown-out, at which start-up resumes at step 2. -/
  | vsysStartAfterBrownOut
  /-- `SUPPLY_RECOVERS` (R359): An internal supply returns above its under-voltage threshold and its domains return to their requested states. -/
  | supplyRecovers (k : Fin 8)
  /-- `VRTC_OK_CHANGE` (R417): VRTC crosses VRTC_OK, changing the PD_BKP supply choice and, with VSYS_POR, losing PD_BKP. -/
  | vrtcOkChange (ok : Bool)
  /-- `CRYSTAL_RESTART` (R586): The first CLK_RTC edge after a crystal stop, from which the calendar and periodic count resume. -/
  | crystalRestart
  /-- `SECOND_BOUNDARY` (R575): A calendar second boundary, which advances the calendar, applies the compensation accumulator and wraps after 2399 setting TIME_INVALID. -/
  | secondBoundary
  /-- `ALIVE_EDGE` (R499): End of a 4,000 CLK_SAFE-cycle ALIVE phase, at which ALIVE toggles. -/
  | aliveEdge
  /-- `LINK_TRAINING_COMPLETE` (R636): The PCIe link reaches L0, so the channel table becomes reachable and event routing may run. -/
  | linkTrainingComplete (speed : Nat) (width : Nat)
  /-- `PCIE_CONFIG_WRITE` (R56): A host configuration write to Bus Master Enable, the device power state or MSI-X Enable. -/
  | pcieConfigWrite (off : BitVec 12) (be : BitVec 4) (w : Word)
  /-- `SMBUS_TIMEOUT` (R686): MSCL low for 25–35 ms, at which the sideband port releases MSDA and abandons the transaction. -/
  | smbusTimeout
  /-- `MP_MAILBOX_TAKE` (R99): The MP takes the posted sideband message, clearing IN_BUSY. -/
  | mpMailboxTake
  /-- `MP_MESSAGE_POST` (R100): The MP posts an outgoing message or alert request, setting OUT_READY and asserting MALERT_N. -/
  | mpMessagePost (msg : Option (List Byte)) (alert : Bool)
  /-- `PACK_AUTH_RENEWAL` (R483): 24 h after the last passing backup-pack authentication, a new authentication run starts while AUTH_REQ is 1. -/
  | packAuthRenewal
  /-- `ON_TIME_SECOND` (R624): Each second of PD_MP on-time, which adds to the lifetime histograms and the phase stress hours. -/
  | onTimeSecond (sensors : List (Nat × Int))
  deriving DecidableEq, Repr

end Sys2Proof
end

