-- ==== Sys2Proof/Config.lean ====
section
/-! DEFINITION. What an implementation fixes, and the free values: constants without a body, applied to a
counter of the state or to operands, so that nothing can be proved of what they give. -/

namespace Sys2Proof.Config

/-- Bits [13:0] of a timestamp or of RTC_SUBSEC: the calendar's fraction of a second at the instant asked, which the
commands do not carry (R72, log 2). -/
opaque freeFraction : Nat → BitVec 14

/-- A random 64-bit nonce (R550, log 2). -/
opaque freeNonce : Nat → BitVec 64

/-- A random 128-bit challenge (R198, R482, log 2). -/
opaque freeChallenge : Nat → BitVec 128

/-- What a read of host memory that never completed leaves in the data taken (log 2). -/
opaque freeByte : Nat → Byte

/-- STEP_LETTER of the modelled stepping A0 (Table 2-3, log 1). -/
def stepLetter : Nat := 0

/-- STEP_DIGIT of the modelled stepping A0 (Table 2-3, log 1). -/
def stepDigit : Nat := 0

/-- A measured word that the command does not carry: sense voltage in mV in [15:0], rail current in 0.1 A in [31:16], sampled in
the cycle of a rail event (R355, log 24); or another measurement named at its use. -/
opaque freeMeasure : Nat → BitVec 32

/-- A quotient by 0, by its dividend: ordinary data can bring a configured resistance, capacity or sum of 0 into a formula of
the spec, which states no result there (log 52). -/
opaque freeQuotient : Rat → Rat

/-- The logarithm of a number that is not positive, likewise (log 52). -/
opaque freeLog : Rat → Rat

/-- BEHAVIOUR_LEVEL: stepping A0 implements level 1 only (R537). -/
def behaviourLevel : Nat := 1

/-- MP_LEVELS of stepping A0 (Table 15-5). -/
def mpLevels : Nat := 2

end Sys2Proof.Config
end

