-- ==== Sys2Proof/Machine/Bits.lean ====
section
/-! DEFINITION. Bit fields, bytes, saturating counts, sparse tables and byte memories: the plain
helpers that every block of the model uses (R8, R9, R10). -/

namespace Sys2Proof.Machine

/-- The field of `len` bits from bit `lo`, as a number (R9). -/
def bitsOf {n : Nat} (w : BitVec n) (lo len : Nat) : Nat := (w.extractLsb' lo len).toNat

/-- Bit `i` of a word (R9). -/
def bitOf {n : Nat} (w : BitVec n) (i : Nat) : Bool := w.getLsbD i

/-- The field of `len` bits from bit `lo`, as two's complement (R10). -/
def sbitsOf {n : Nat} (w : BitVec n) (lo len : Nat) : Int := (w.extractLsb' lo len).toInt

/-- A mask of `len` ones from bit `lo`. -/
def maskOf (n lo len : Nat) : BitVec n := BitVec.ofNat n ((2 ^ len - 1) * 2 ^ lo)

/-- `w` with the field of `len` bits from bit `lo` replaced by `v`. -/
def putBits {n : Nat} (w : BitVec n) (lo len v : Nat) : BitVec n :=
  (w &&& ~~~ maskOf n lo len) ||| BitVec.ofNat n ((v % 2 ^ len) * 2 ^ lo)

/-- A word built from fields (lowest bit, length, value); all other bits 0. -/
def pack (n : Nat) : List (Nat × Nat × Nat) → BitVec n
  | [] => 0
  | (lo, len, v) :: fs => BitVec.ofNat n ((v % 2 ^ len) * 2 ^ lo) ||| pack n fs

/-- 1 for true, 0 for false. -/
def b2n (b : Bool) : Nat := if b then 1 else 0

/-- An integer as the two's complement number of `len` bits (R10). -/
def toTwos (len : Nat) (v : Int) : Nat := (v % (2 ^ len : Int)).toNat

/-- The new bits of `w` under `mask`, the old ones of `old` elsewhere. -/
def mergeMask {n : Nat} (old w mask : BitVec n) : BitVec n := (old &&& ~~~ mask) ||| (w &&& mask)

/-- Add to a count that stops at its greatest value (a saturating count of Table 0-8). -/
def satAdd {n : Nat} (c : BitVec n) (k : Nat) : BitVec n :=
  if c.toNat + k < 2 ^ n then BitVec.ofNat n (c.toNat + k) else BitVec.allOnes n

/-- One more, saturating. -/
def satInc {n : Nat} (c : BitVec n) : BitVec n := satAdd c 1

/-- The lower 16 bits of a saturated number. -/
def sat16 (k : Nat) : Nat := if k < 65536 then k else 65535

/-- `v` held between two ends: a value outside acts as the nearest end. -/
def clampN (lo hi v : Nat) : Nat := if v < lo then lo else if hi < v then hi else v

/-- `v` held between two ends, signed. -/
def clampI (lo hi v : Int) : Int := if v < lo then lo else if hi < v then hi else v

/-- `a / b` rounded to nearest, half away from zero, for `b > 0`. -/
def roundDiv (a : Int) (b : Nat) : Int :=
  if 0 ≤ a then ((2 * a + b) / (2 * b : Int)) else - ((2 * (- a) + b) / (2 * b : Int))

/-- Absolute value as a number. -/
def absI (a : Int) : Nat := a.natAbs

/-! ### Bytes, least significant first (R8) -/

/-- The `k` lowest bytes of a number, least significant first. -/
def leBytes : Nat → Nat → List Byte
  | 0, _ => []
  | k + 1, v => BitVec.ofNat 8 (v % 256) :: leBytes k (v / 256)

/-- The number that bytes spell, least significant first. -/
def leNat : List Byte → Nat
  | [] => 0
  | b :: bs => b.toNat + 256 * leNat bs

/-- `k` bytes of value 0. -/
def zeroBytes (k : Nat) : List Byte := List.replicate k 0

/-- The part of a byte list from `off`, `len` long, as a number. -/
def leField (bs : List Byte) (off len : Nat) : Nat := leNat ((bs.drop off).take len)

/-- A byte list with the bytes from `off` on replaced by `ns`. -/
def putBytes (bs : List Byte) (off : Nat) (ns : List Byte) : List Byte :=
  bs.take off ++ ns ++ bs.drop (off + ns.length)

/-! ### Sparse tables: key and value pairs with rising keys -/

/-- A table whose absent keys have no value. -/
abbrev Sparse (β : Type) := List (Nat × β)

/-- The value at a key. -/
def Sparse.get? {β : Type} : Sparse β → Nat → Option β
  | [], _ => none
  | (k, v) :: t, a => if k = a then some v else Sparse.get? t a

/-- Put a value at a key, keeping the keys in rising order. -/
def Sparse.set {β : Type} : Sparse β → Nat → β → Sparse β
  | [], a, b => [(a, b)]
  | (k, v) :: t, a, b =>
    if k = a then (a, b) :: t
    else if a < k then (a, b) :: (k, v) :: t
    else (k, v) :: Sparse.set t a b

/-- Take a key out. -/
def Sparse.del {β : Type} (t : Sparse β) (a : Nat) : Sparse β := t.filter fun e => e.1 ≠ a

/-- The value at a key, or a default. -/
def Sparse.getD {β : Type} (t : Sparse β) (a : Nat) (d : β) : β := (Sparse.get? t a).getD d

/-- Change the value at a key, a default standing for an absent one. -/
def Sparse.modify {β : Type} (t : Sparse β) (a : Nat) (d : β) (f : β → β) : Sparse β :=
  Sparse.set t a (f (Sparse.getD t a d))

/-- The keys rise strictly. -/
def Sparse.sorted {β : Type} : Sparse β → Bool
  | [] => true
  | [_] => true
  | (a, _) :: (b, v) :: t => decide (a < b) && Sparse.sorted ((b, v) :: t)

/-! ### Byte memories: cells with rising addresses, none equal to what an unlisted address reads as -/

/-- What an address holds; `d` is what an unlisted one reads as. -/
def Mem.get (d : Byte) : List Host.Cell → Nat → Byte
  | [], _ => d
  | (k, v) :: t, a => if k = a then v else Mem.get d t a

/-- Write one byte, keeping the canonical form. -/
def Mem.set (d : Byte) : List Host.Cell → Nat → Byte → List Host.Cell
  | [], a, b => if b = d then [] else [(a, b)]
  | (k, v) :: t, a, b =>
    if k = a then (if b = d then t else (a, b) :: t)
    else if a < k then (if b = d then (k, v) :: t else (a, b) :: (k, v) :: t)
    else (k, v) :: Mem.set d t a b

/-- Read `n` bytes from `a`. -/
def Mem.read (d : Byte) (m : List Host.Cell) (a : Nat) : Nat → List Byte
  | 0 => []
  | n + 1 => Mem.get d m a :: Mem.read d m (a + 1) n

/-- Write bytes from `a` on. -/
def Mem.write (d : Byte) (m : List Host.Cell) (a : Nat) : List Byte → List Host.Cell
  | [] => m
  | b :: bs => Mem.write d (Mem.set d m a b) (a + 1) bs

/-- Every address is above `lo`, the addresses rise, and no cell holds the default. -/
def Mem.wfFrom (d : Byte) : Nat → List Host.Cell → Bool
  | _, [] => true
  | lo, (k, v) :: t => decide (lo ≤ k) && decide (v ≠ d) && Mem.wfFrom d (k + 1) t

/-- The canonical form of a memory. -/
def Mem.wf (d : Byte) (m : List Host.Cell) : Bool := Mem.wfFrom d 0 m

/-! ### List helpers -/

/-- Replace the element at an index (no change beyond the end). -/
def listSet {α : Type} : List α → Nat → α → List α
  | [], _, _ => []
  | _ :: t, 0, b => b :: t
  | a :: t, i + 1, b => a :: listSet t i b

/-- Fold a state change over the numbers 0 … n − 1 in ascending order. -/
def forUpTo {σ : Type} : Nat → (Nat → σ → σ) → σ → σ
  | 0, _, s => s
  | n + 1, f, s => f n (forUpTo n f s)

/-- Fold a state change over a list. -/
def forEach {α σ : Type} : List α → (α → σ → σ) → σ → σ
  | [], _, s => s
  | a :: t, f, s => forEach t f (f a s)

/-- The number of elements that pass a test. -/
def countIf {α : Type} (p : α → Bool) (l : List α) : Nat := (l.filter p).length

/-- The sum of a list of integers. -/
def sumI (l : List Int) : Int := l.foldl (· + ·) 0

/-- Put an element into a vector at a number (no change beyond its end). -/
def vput {α : Type} {n : Nat} (v : Vector α n) (i : Nat) (a : α) : Vector α n :=
  if h : i < n then v.set i a h else v

/-- The element of a vector at a number, or a default beyond its end. -/
def vget {α : Type} {n : Nat} (v : Vector α n) (i : Nat) (d : α) : α :=
  if h : i < n then v[i]'h else d

/-! ### Check codes -/

/-- One bit of a right-shifting CRC register. -/
def crcStep (poly : Nat) (c : Nat) : Nat := if c % 2 = 1 then (c / 2) ^^^ poly else c / 2

/-- One byte of a reflected CRC. -/
def crcByte (poly : Nat) (c : Nat) (b : Byte) : Nat :=
  let c0 := c ^^^ b.toNat
  crcStep poly (crcStep poly (crcStep poly (crcStep poly
    (crcStep poly (crcStep poly (crcStep poly (crcStep poly c0)))))))

/-- One bit of a left-shifting CRC register of `w` bits. -/
def crcStepL (w poly : Nat) (c : Nat) : Nat :=
  if c / 2 ^ (w - 1) % 2 = 1 then ((c * 2) % 2 ^ w) ^^^ poly else (c * 2) % 2 ^ w

/-- One byte of an unreflected CRC of `w` bits. -/
def crcByteL (w poly : Nat) (c : Nat) (b : Byte) : Nat :=
  let c0 := c ^^^ (b.toNat * 2 ^ (w - 8))
  crcStepL w poly (crcStepL w poly (crcStepL w poly (crcStepL w poly
    (crcStepL w poly (crcStepL w poly (crcStepL w poly (crcStepL w poly c0)))))))

end Sys2Proof.Machine
end

