-- ==== Sys2Proof/Machine/Reals.lean ====
section
/-! DEFINITION. Logarithm, exponential and square root of rationals, in fixed point with 64 fractional bits, where the spec's
formulas need them (log 34). -/

namespace Sys2Proof.Machine

/-- The unit of the fixed point. -/
def fxOne : Int := 18446744073709551616

/-- ln 2 in fixed point. -/
def fxLn2 : Int := 12786308645202655660

/-- A rational in fixed point, rounded down. -/
def toFx (q : Rat) : Int := (q.num * fxOne) / (q.den : Int)

/-- A fixed-point number as a rational. -/
def ofFx (x : Int) : Rat := (x : Rat) / (fxOne : Rat)

/-- z + z³/3 + z⁵/5 + …, from the term of odd number `n`; `t` is that power of z. -/
def fxAtanh : Nat → Int → Int → Int → Int
  | 0, _, _, _ => 0
  | k + 1, z2, t, n => t / n + fxAtanh k z2 (t * z2 / fxOne) (n + 2)

/-- Natural logarithm of a positive rational; 0 for other arguments, which no formula reaches. -/
def lnQ (q : Rat) : Rat :=
  if q.num ≤ 0 then 0
  else
    let e : Int := (Nat.log2 q.num.toNat : Int) - (Nat.log2 q.den : Int)
    let m : Rat := if 0 ≤ e then q / ((2 ^ e.toNat : Nat) : Rat) else q * ((2 ^ (-e).toNat : Nat) : Rat)
    -- m lies in (1/2, 2)
    let z := toFx ((m - 1) / (m + 1))
    ofFx (2 * fxAtanh 32 (z * z / fxOne) z 1 + e * fxLn2)

/-- 1 + r/n·(1 + r/(n+1)·(…)): the exponential series in Horner form. -/
def fxExp : Nat → Int → Int → Int
  | 0, _, _ => fxOne
  | k + 1, r, n => fxOne + r * fxExp k r (n + 1) / (n * fxOne)

/-- The exponential of a rational. -/
def expQ (q : Rat) : Rat :=
  let x := toFx q
  let k := x / fxLn2
  let v := ofFx (fxExp 28 (x - k * fxLn2) 1)
  if 0 ≤ k then v * ((2 ^ k.toNat : Nat) : Rat) else v / ((2 ^ (-k).toNat : Nat) : Rat)

/-- The square root of a rational that is not negative. -/
def sqrtQ (q : Rat) : Rat :=
  if q.num ≤ 0 then 0 else ofFx (Nat.sqrt (q.num.toNat * 2 ^ 128 / q.den))

/-- A quotient of the spec's formulas; by 0 a free value (log 52). -/
def divQ (a b : Rat) : Rat := if b = 0 then Config.freeQuotient a else a / b

/-- A logarithm of the spec's formulas; of a number that is not positive a free value (log 52). -/
def lnF (q : Rat) : Rat := if q ≤ 0 then Config.freeLog q else lnQ q

/-- A natural number as a rational. -/
def natQ (n : Nat) : Rat := ((n : Int) : Rat)

/-- A rational rounded to the nearest integer, halves away from zero (log 11). -/
def roundQ (q : Rat) : Int := roundDiv q.num q.den

end Sys2Proof.Machine
end

