-- ==== Sys2Proof/Machine/StHost.lean ====
section
/-! DEFINITION. State of the host side: PCIe endpoint, identity block, queue engine, event routing and
sideband port (02_host_rings.md, 15_events_and_register_index.md). -/

namespace Sys2Proof.Machine

/-- One MSI-X table entry (Table 2-1; PCI Express). -/
structure MsixEntry where
  addr : DWord
  data : Word
  masked : Bool
  deriving DecidableEq, Repr

/-- The reset value of an MSI-X entry: address and data 0, vector control 1 (Table 15-5). -/
def MsixEntry.reset : MsixEntry := { addr := 0, data := 0, masked := true }

/-- The writable fields of the configuration space that no other rule of the model reads (Table 2-1; PCI Express, log 102). -/
structure PciConfig where
  /-- Memory Space Enable, and the other writable bits of Command. -/
  command : BitVec 16
  cacheLine : Byte
  intLine : Byte
  /-- Bases of BAR0 (64 KiB) and BAR2 (4 KiB); their low bits stay 0. -/
  bar0 : DWord
  bar2 : DWord
  /-- Device Control: maximum payload and read request size, error reporting enables. -/
  devCtl : BitVec 16
  /-- Link Control: ASPM and the other writable bits. -/
  linkCtl : BitVec 16
  /-- Device Control 2: completion timeout value and disable. -/
  devCtl2 : BitVec 16
  /-- PME_En. -/
  pmeEn : Bool
  /-- AER: uncorrectable mask and severity, correctable mask, ECRC control. -/
  aerUncMask : Word
  aerSeverity : Word
  aerCorMask : Word
  deriving DecidableEq, Repr

/-- The configuration fields at reset (R92; the values PCI Express gives, log 102). -/
def PciConfig.reset : PciConfig :=
  { command := 0, cacheLine := 0, intLine := 0, bar0 := 0, bar2 := 0, devCtl := 0x2810, linkCtl := 0, devCtl2 := 0, pmeEn := false,
    aerUncMask := 0, aerSeverity := 0x00462030, aerCorMask := 0x2000 }

/-- The PCIe endpoint function and its link (R54–R56, R92–R96). -/
structure Pcie where
  /-- PERST_N is asserted (the pin's level). -/
  perst : Bool
  /-- The link is in L0. -/
  linkUp : Bool
  /-- The link is in training. -/
  training : Bool
  /-- The 100 MHz reference clock is present (R51). -/
  refclk : Bool
  /-- What the link trained at (Table 2-1): generation 1–3 and 1 or 2 lanes. -/
  speed : Nat
  width : Nat
  /-- Bus Master Enable (R56). -/
  busMaster : Bool
  /-- The function is in D3hot (R56). -/
  d3hot : Bool
  /-- MSI-X Enable of the function (R643). -/
  msixEnable : Bool
  /-- Function Mask of MSI-X (R643). -/
  msixFuncMask : Bool
  /-- The last configuration request was answered with Configuration Request Retry Status (R444). -/
  retry : Bool
  /-- The rest of the configuration space (R54). -/
  config : PciConfig
  /-- Writes to host memory that wait until the function may master again, oldest first (R56). -/
  posted : List (Nat × List Byte)
  /-- The 64 MSI-X table entries at BAR0 0xC000. -/
  msix : Vector MsixEntry 64
  /-- The pending-bit array at BAR0 0xD000 (R647). -/
  pba : BitVec 64
  deriving DecidableEq, Repr

/-- The configuration space, table and PBA at their reset values (R92); the pin and clock kept. -/
def Pcie.resetFunction (p : Pcie) : Pcie :=
  { p with busMaster := false, d3hot := false, msixEnable := false, msixFuncMask := false, retry := false, config := PciConfig.reset,
           posted := [], msix := Vector.replicate 64 MsixEntry.reset, pba := 0 }

def Pcie.reset : Pcie :=
  { perst := true, linkUp := false, training := false, refclk := true, speed := 0, width := 0, busMaster := false,
    d3hot := false, msixEnable := false, msixFuncMask := false, retry := false, config := PciConfig.reset, posted := [],
    msix := Vector.replicate 64 MsixEntry.reset, pba := 0 }

/-- The identity and global block's own state (Table 2-3); its RW fields stand in the register file. -/
structure Glb where
  /-- GLB_RST_CAUSE bits [9:0]. -/
  rstCause : BitVec 10
  accessErr : Bool
  mpRunning : Bool
  otpLoaded : Bool
  sbRequest : Word
  deriving DecidableEq, Repr

/-- The state of one queue window that the device itself keeps (Table 2-5, +0x10 to +0x1C). -/
structure QWin where
  head : BitVec 12
  tail : BitVec 12
  discards : BitVec 16
  fetchErr : Bool
  doorbellErr : Bool
  phase : Bool
  /-- A doorbell has been recorded since the queue engine stopped (R77), and the value accepted before it (R76; the model's own). -/
  recorded : Bool
  before : BitVec 12
  /-- SQ: halted by a failed fetch until the next start (R84). -/
  halted : Bool
  deriving DecidableEq, Repr

def QWin.reset : QWin :=
  { head := 0, tail := 0, discards := 0, fetchErr := false, doorbellErr := false, phase := false, recorded := false, before := 0,
    halted := false }

/-- A telemetry buffer that is being filled (R73, R74). -/
structure OpenBuf where
  /-- Bytes used, header included. -/
  used : Nat
  records : Nat
  firstTs : Stamp
  lossBefore : Bool
  deriving DecidableEq, Repr

/-- A filled TSC buffer that closes once every record reserved in it is written (R261). -/
structure LateBuf where
  addr : Nat
  phase : Bool
  seq : Word
  buf : OpenBuf
  flushed : Bool
  deriving DecidableEq, Repr

/-- What a telemetry stream keeps beside its window (R73, R261). -/
structure Stream where
  openBuf : Option OpenBuf
  late : List LateBuf
  /-- Sequence number of the next buffer. -/
  seq : Word
  /-- Records were discarded since the previous buffer. -/
  loss : Bool
  deriving DecidableEq, Repr

def Stream.reset : Stream := { openBuf := none, late := [], seq := 0, loss := false }

/-- A command whose completion is outstanding, in the order of its fetch (R66, R78, R82). -/
structure InFlight where
  id : Nat
  sq : Nat
  opcode : Nat
  /-- The 64 descriptor bytes as fetched. -/
  desc : BitVec 512
  /-- It has gone to its executing block. -/
  dispatched : Bool
  deriving DecidableEq, Repr

/-- A completion that waits until the function may master host memory again (R56, R82). -/
structure CqWait where
  id : Nat
  sq : Nat
  opcode : Nat
  tag : BitVec 16
  status : Nat
  result : DWord
  deriving DecidableEq, Repr

/-- The queue engine (R62–R84). Windows: 0–3 SQ, 4–7 CQ, 8 EQ, 9–24 TS0–TS15, 25 TSC. -/
structure QueueEngine where
  win : Vector QWin 26
  streams : Vector Stream 17
  running : Bool
  /-- RUN was written to 0 and dispatched commands are draining (R66). -/
  stopping : Bool
  hostAccessErr : Bool
  cfgReject : Bool
  startErr : Bool
  /-- The SQ served last by the round robin of R82 (log 100). -/
  lastSq : Nat
  /-- Fetched and dispatched commands without a completion; each holds one CQ entry (R78). -/
  inflight : List InFlight
  /-- Completions that wait for host memory, oldest first (R56). -/
  cqWait : List CqWait
  /-- The number given to the next fetched command (the model's own). -/
  nextId : Nat
  deriving DecidableEq, Repr

def QueueEngine.reset : QueueEngine :=
  { win := Vector.replicate 26 QWin.reset, streams := Vector.replicate 17 Stream.reset,
    running := false, stopping := false, hostAccessErr := false, cfgReject := false,
    startErr := false, lastSq := 3, inflight := [], cqWait := [], nextId := 0 }

/-- One occurrence of an event: its time and its detail word (R72, R630). -/
structure Occ where
  ts : Stamp
  detail : DWord
  deriving DecidableEq, Repr

/-- The last routed occurrence of an event and the count since the last read (Table 15-3). -/
structure LastOcc where
  detail : DWord
  count : BitVec 16
  deriving DecidableEq, Repr

/-- Event routing (R632–R644). Masks, routes and coalescing limits stand in the register file. -/
structure Evr where
  open_ : Bool
  /-- QE_STATUS.RUNNING has been 1 since OPEN last changed from 0 to 1 (R636). -/
  ranSinceOpen : Bool
  /-- Pending occurrences of masked events, by event number (R639). -/
  pend : Sparse Occ
  /-- Merges counted under R639. -/
  merged : BitVec 16
  last : Sparse LastOcc
  /-- EVR_LAST_HI as captured by the last read of EVR_LAST_LO. -/
  lastHi : Word
  /-- Occurrences counted toward each vector since its last message (R641). -/
  coal : Sparse Nat
  /-- Routing ran at the last look (R636), and PD_CORE has returned from retention since (R641). -/
  routing : Bool
  resume : Bool
  deriving DecidableEq, Repr

def Evr.reset : Evr :=
  { open_ := false, ranSinceOpen := false, pend := [], merged := 0, last := [], lastHi := 0, coal := [], routing := false, resume := false }

/-- The latches of PD_AON for events that occur while routing does not run (R637). -/
structure HeldEvents where
  latches : Sparse Occ
  merged : BitVec 16
  deriving DecidableEq, Repr

/-- The sideband management port and its mailbox (R97–R102). -/
structure Sideband where
  pointer : BitVec 16
  /-- IN_BUSY and the message the MP has not yet taken. -/
  inMsg : Option (List Byte)
  /-- OUT_READY and the MP's pending message. -/
  outMsg : Option (List Byte)
  /-- The MP requests an alert (R100). -/
  alertReq : Bool
  /-- The last transaction was acknowledged. -/
  acked : Bool
  /-- The bytes the port returned in the last transaction. -/
  reply : List Byte
  deriving DecidableEq, Repr

def Sideband.reset : Sideband :=
  { pointer := 0, inMsg := none, outMsg := none, alertReq := false, acked := false, reply := [] }

/-- A completion delivered to the MP through its own port (R70). -/
structure MpCompletion where
  tag : BitVec 16
  opcode : Nat
  status : Nat
  result : DWord
  deriving DecidableEq, Repr

/-- A command that waits in its executing block: whom it completes to, and what it was (R86). -/
inductive Ticket where
  /-- A host command, by its place in the in-flight list. -/
  | host (id sq : Nat) (opcode : Nat) (tag : BitVec 16) (quiet : Bool)
  /-- A command of the MP. -/
  | mp (opcode : Nat) (tag : BitVec 16) (quiet : Bool)
  deriving DecidableEq, Repr

end Sys2Proof.Machine
end

