-- ==== Sys2Proof/Machine/StSafe.lean ====
section
/-! DEFINITION. State of the fault collector, Goose, ALIVE, OTP, NVM, the calendar and the management
processor (11_faults_and_watchdogs.md, 12_otp_and_nvm.md, 13_calendar_clock.md, 14_management_and_ageing.md). -/

namespace Sys2Proof.Machine

/-- The fault collector and ALIVE (Table 11-6); reactions and limits stand in the register file. -/
structure Faults where
  status : Word
  /-- Error lines asserted or held under R43, with the detail to be captured at the latch. -/
  lines : Sparse Word
  /-- Lines whose condition persists, so that a cleared source latches again (R490). -/
  active : Word
  /-- Captured details, by source (R488). -/
  details : Sparse Word
  firstValid : Bool
  firstSource : Nat
  firstTime : Stamp
  ovf : Bool
  lowerReject : Bool
  faultState : Bool
  /-- SAFE_N asserted (R500). -/
  safeN : Bool
  /-- ALIVE's level, and whether it toggles (R499). -/
  aliveHigh : Bool
  aliveRun : Bool
  /-- CLK_SAFE runs. -/
  clkSafe : Bool
  /-- PLL loss of lock was reported before the CLK_CORE loss. -/
  pllFirst : Bool
  /-- The root-clock override of R40. -/
  rootOverride : Bool
  deriving DecidableEq, Repr

def Faults.reset : Faults :=
  { status := 0, lines := [], active := 0, details := [], firstValid := false, firstSource := 0, firstTime := 0,
    ovf := false, lowerReject := false, faultState := false, safeN := true, aliveHigh := false, aliveRun := false,
    clkSafe := true, pllFirst := false, rootOverride := false }

/-- One Goose instance (R502–R518). -/
structure Goose where
  started : Bool
  /-- Period and mask in force (of the last normal period started), and those for the next period. -/
  period : Nat
  mask : BitVec 16
  nextPeriod : Nat
  nextMask : BitVec 16
  /-- A GOOSE_CONFIG has been accepted. -/
  configured : Bool
  boot : Bool
  /-- Cycle number of the latest write or event in the running period (CLK_SAFE cycles). -/
  t : Nat
  checked : BitVec 16
  dup : Bool
  bad : Bool
  /-- Goose 0 is held (R514); Goose 1 counts no period while PD_MP is in retention (R431). -/
  hold : Bool
  level : Nat
  lastViol : Nat
  violations : BitVec 16
  services : BitVec 16
  /-- EV48 has been raised in this period (R512). -/
  warned : Bool
  /-- The period began in the cycle of a violation: a write ordered after it in that cycle is ignored (R520). -/
  violated : Bool
  /-- A valid service in every period since the firmware started (R601). -/
  clean : Bool
  deriving DecidableEq, Repr

def Goose.reset : Goose :=
  { started := false, period := 0, mask := 0, nextPeriod := 0, nextMask := 0, configured := false, boot := false,
    t := 0, checked := 0, dup := false, bad := false, hold := false, level := 0, lastViol := 0, violations := 0,
    services := 0, warned := false, violated := false, clean := false }

/-- A Goose chip restart that has been requested: the instances, and whether it waits for the down sequence of R388. -/
structure Restart where
  g0 : Bool
  g1 : Bool
  waitDown : Bool
  deriving DecidableEq, Repr

/-- Retained records of PD_BKP beside the calendar (R497, R517). -/
structure Retained where
  prevValid : Bool
  prevSource : Nat
  resetCount : BitVec 16
  lastPending : Bool
  lastRecord : BitVec 11
  /-- EV49 detail of the pending escalation. -/
  lastDetail : DWord
  streak0 : Nat
  streak1 : Nat
  /-- Accepted backup pack serial (R485, Table 14-1). -/
  packSerial : Option (BitVec 64)
  /-- Parking summary at 0xD100 (R610). -/
  summary : List Byte
  deriving DecidableEq, Repr

def Retained.zero : Retained :=
  { prevValid := false, prevSource := 0, resetCount := 0, lastPending := false, lastRecord := 0, lastDetail := 0,
    streak0 := 0, streak1 := 0, packSerial := none, summary := [] }

/-- One OTP word: its 39 raw bits, d0–d31 in [31:0] and c0–c6 in [38:32] (R521). -/
abbrev Raw39 := BitVec 39

/-- What the array holds of a word: its 39 raw bits at the normal, margin-high and margin-low references (R524). -/
structure OtpCell where
  normal : Raw39
  high : Raw39
  low : Raw39
  deriving DecidableEq, Repr

/-- A word that reads alike at the three references. -/
def OtpCell.clean (r : Raw39) : OtpCell := { normal := r, high := r, low := r }

/-- The OTP array and its controller (Table 12-13). -/
structure Otp where
  /-- Programmed words, by number; an absent word reads 0 at every reference (R523). -/
  cells : Sparse OtpCell
  /-- Marginal words of the last load (R554). -/
  loadMarginal : List Nat
  /-- Values the load yields, held in PD_AON: valid CONFIG records by BAR0 offset (R533). -/
  records : Sparse Word
  /-- Registers whose records are restrictive (R534). -/
  restrictive : List Nat
  /-- Device items by number, and items that are restrictive. -/
  items : Sparse Word
  itemsRestrictive : List Nat
  /-- CONFIG as a whole is restrictive. -/
  allRestrictive : Bool
  cfgBad : Bool
  lcMarginal : Bool
  scanActive : Bool
  loadRegions : BitVec 6
  digestFail : BitVec 6
  locked : BitVec 6
  progLock : BitVec 6
  readLock : BitVec 6
  loadCount : BitVec 16
  runCount : BitVec 16
  lastAtLoad : Bool
  lastWord : BitVec 10
  nonce : BitVec 64
  /-- LC_STATE in force. -/
  lcState : Nat
  /-- Words of the anti-rollback counter counted programmed (R539). -/
  rollback : Nat
  debugOpen : Bool
  /-- Keys usable since the load: NODE_ROOT, PACK_ROOT, FW_KEY_HASH, FIELD_AUTH (R531). -/
  keyOk : BitVec 4
  /-- The words of Table 12-5 as the load yields them, by number: restrictive ones read 0, or GRADE 0x51 (R530). -/
  identity : Sparse Word
  /-- VENDOR_TRIM words whose trims stand at their untrimmed nominal settings since the load (Table 12-9). -/
  untrimmed : List Nat
  deriving DecidableEq, Repr

def Otp.blank : Otp :=
  { cells := [], loadMarginal := [], records := [], restrictive := [], items := [], itemsRestrictive := [],
    allRestrictive := false, cfgBad := false, lcMarginal := false, scanActive := false, loadRegions := 0,
    digestFail := 0, locked := 0, progLock := 0, readLock := 0, loadCount := 0, runCount := 0, lastAtLoad := false,
    lastWord := 0, nonce := 0, lcState := 0, rollback := 0, debugOpen := false, keyOk := 0, identity := [], untrimmed := [] }

/-- A commit flag at the three references (R557, R559). -/
inductive CommitFlag where
  | clear | unclean | set
  deriving DecidableEq, Repr

/-- One physical slot of a page (R557). -/
structure Slot where
  data : BitVec 512
  seq : BitVec 16
  commit : CommitFlag
  crc : BitVec 16
  deriving DecidableEq, Repr

/-- One NVM page: its two slots, none for an erased one, and its wear (R557, R563). -/
structure Page where
  a : Option Slot
  b : Option Slot
  wear : Nat
  deriving DecidableEq, Repr

def Page.fresh : Page := { a := none, b := none, wear := 0 }

/-- Who asked for a page write. -/
inductive NvmAsk where
  | command (t : Ticket) (bytes : Nat) | sideband | internal
  deriving DecidableEq, Repr

/-- A page write in progress or waiting (R558, R560). -/
structure PageWrite where
  page : Nat
  off : Nat
  data : List Byte
  ask : NvmAsk
  deriving DecidableEq, Repr

/-- A read that waits behind a page write: whom it completes to, by the MP, byte offset, length and destination (R35, R560). -/
structure NvmReadReq where
  ticket : Ticket
  byMp : Bool
  off : Nat
  len : Nat
  dest : Nat
  deriving DecidableEq, Repr

/-- A request that waits in the NVM controller. -/
inductive NvmReq where
  | write (w : PageWrite)
  | read (r : NvmReadReq)
  deriving DecidableEq, Repr

/-- The NVM controller (Table 12-13). -/
structure Nvm where
  /-- Pages ever written or erased. -/
  pages : Sparse Page
  /-- Remapped pages of 96–767 (R621): page to the physical page used. -/
  remap : Sparse Nat
  /-- The page write in progress, with its slot programmed up to the commit flag. -/
  busy : Option PageWrite
  queue : List NvmReq
  /-- A save is being written; a checkpoint (false) or a power-down save (true). -/
  saving : Option Bool
  pageErr : Bool
  saveSkipped : Bool
  spareReady : Bool
  /-- The spare is to be erased: a load or a checkpoint has ended (R568). -/
  eraseDue : Bool
  torn : Bool
  tornCount : BitVec 16
  tornPage : BitVec 10
  errPage : BitVec 10
  /-- SSEQ of the image last loaded or written, and which image is the spare (true: A). -/
  sseq : BitVec 16
  spareA : Bool
  saves : BitVec 16
  deriving DecidableEq, Repr

def Nvm.fresh : Nvm :=
  { pages := [], remap := [], busy := none, queue := [], saving := none, pageErr := false, saveSkipped := false,
    spareReady := false, eraseDue := false, torn := false, tornCount := 0, tornPage := 0, errPage := 0, sseq := 0, spareA := true, saves := 0 }

/-- A calendar time (Table 13-1). -/
structure Cal where
  year : Nat
  month : Nat
  day : Nat
  hour : Nat
  min : Nat
  sec : Nat
  deriving DecidableEq, Repr

/-- 2000-01-01 00:00:00. -/
def Cal.epoch : Cal := { year := 0, month := 1, day := 1, hour := 0, min := 0, sec := 0 }

/-- What is crossing into PD_BKP (R579, R581). -/
inductive RtcOp where
  /-- A register write of RTC_TIME: staged time word; by the MP. -/
  | time (w : Word) (mp : Bool)
  /-- A register write of RTC_DATE. -/
  | date (w : Word)
  /-- A W1C write of RTC_STATUS. -/
  | status (w : Word)
  | set (t : Ticket) (time date : Word) (mp : Bool)
  | alarm (t : Ticket) (arm : Bool) (time date : Word)
  | periodic (t : Ticket) (p : Nat)
  deriving DecidableEq, Repr

/-- The calendar (Table 13-3), all in PD_BKP. -/
structure Rtc where
  cal : Cal
  /-- The prescaler: counted CLK_RTC edges of the present second, 0–32,767, at the latest instant known (R584). -/
  edge : Nat
  /-- Now is the instant of that edge (the model's own; it holds within the effect of a command that names its edge). -/
  exact : Bool
  timeInvalid : Bool
  oscStopped : Bool
  invalidWrite : Bool
  alarmByAdjust : Bool
  alarmFired : Bool
  alarmArmed : Bool
  /-- RTC_DATE staged by a register write. -/
  dateStaged : Option Word
  /-- Holding registers loaded by a read of RTC_TIME (R576). -/
  holdDate : Option Word
  holdFrac : BitVec 14
  alarmTime : Word
  alarmDate : Word
  period : Nat
  /-- Periodic wakes since PERIODIC_SET, and the whole 1/64 s ticks counted since the last of them (R591). -/
  wakes : Word
  ticks : Nat
  temp : Int
  corr : Int
  ageing : Int
  /-- The accumulator of R584. -/
  accum : Int
  /-- Seconds since the last measurement of the crystal temperature (R583). -/
  compSecs : Nat
  curve : Word
  offset : Int
  /-- The crystal is stopped (R586). -/
  stopped : Bool
  /-- Writes and commands crossing, in order of arrival. -/
  crossing : List RtcOp
  /-- Seconds at the last RTC_SET, for R616. -/
  lastSet : Option Nat
  deriving DecidableEq, Repr

/-- The calendar after a loss of PD_BKP (Table 13-3, "after loss"). -/
def Rtc.lost : Rtc :=
  { cal := Cal.epoch, edge := 0, exact := false, timeInvalid := true, oscStopped := false, invalidWrite := false,
    alarmByAdjust := false, alarmFired := false, alarmArmed := false, dateStaged := none, holdDate := none,
    holdFrac := 0, alarmTime := 0, alarmDate := 0, period := 0, wakes := 0, ticks := 0, temp := 0, corr := 0, ageing := 0,
    accum := 0, compSecs := 64, curve := 0x015409C4, offset := 0, stopped := false, crossing := [], lastSet := none }

/-- One margin item (Table 14-6). -/
structure MarginItem where
  present : Int
  planned : Int
  limit : Int
  atLimit : Bool
  baselineLost : Bool
  deriving DecidableEq, Repr

/-- The volatile shadows of the save image (Table 14-10). -/
structure Shadows where
  dieHist : List Nat
  vmainHist : List Nat
  railHist : List (List Nat)
  faultEntries : List Nat
  /-- Stress of PH0–PH11 in units of (I ÷ VLY_LIM)² seconds. -/
  stress : List Rat
  /-- Ageing monitors 0–23, ppm; bandgap drifts, 0.001 %. -/
  ageing : List Nat
  bandgap : List Int
  /-- The estimator summary: the backup gauge's record of 64 bytes. -/
  gauge : List Byte
  deriving DecidableEq, Repr

def Shadows.zero : Shadows :=
  { dieHist := List.replicate 16 0, vmainHist := List.replicate 16 0,
    railHist := List.replicate 8 (List.replicate 16 0), faultEntries := List.replicate 32 0,
    stress := List.replicate 12 0, ageing := List.replicate 24 0, bandgap := List.replicate 3 0, gauge := List.replicate 64 0 }

/-- What waits to be written to NVM by the MP within 1 s of its cause (R623, R625): a log entry of a type with its time and
data, or an increment of a lifetime counter. -/
inductive MpTodo where
  | log (type : Nat) (ts : Stamp) (data : BitVec 128)
  | count (k : Nat)
  deriving DecidableEq, Repr

/-- Parking (R605–R610). -/
structure Parking where
  active : Bool
  groups : BitVec 4
  scans : Nat
  start : Stamp
  charge : Int
  lastCode : Nat
  node : Nat
  /-- Consecutive scans in which each check of Table 14-4 held, and whether it has woken the host, by 4 × group + check. -/
  runs : List Nat
  woken : List Bool
  /-- A wake brings PD_REGC on first and then issues SEQ_UP (R38). -/
  wakeWait : Bool
  /-- Groups whose LINK_ENUMERATE of the start has been issued (R605). -/
  tried : BitVec 4
  /-- Accumulator value of tap 504, and its time in ms, at the last latch (R608). -/
  accLast : Option (BitVec 48 × Nat)
  /-- When the next scan of each group falls due, in ms of CLK_AON since the start of parking (R607). -/
  dueMs : List Nat
  /-- Remainders of q_ref in mA·s by channel (R608). -/
  rem : Sparse Int
  /-- Parking constants and weights (R606). -/
  consts : BitVec 128
  weights : List Nat
  deriving DecidableEq, Repr

def Parking.zero : Parking :=
  { active := false, groups := 0, scans := 0, start := 0, charge := 0, lastCode := 0, node := 0,
    runs := List.replicate 16 0, woken := List.replicate 16 false, wakeWait := false, tried := 0, accLast := none, dueMs := [0, 0, 0, 0], rem := [], consts := 0, weights := [] }

/-- The management processor (Table 14-12). -/
structure Mp where
  /-- BOOT_STATE: 0 boot ROM, 1 slot A, 2 slot B, 3 no image. -/
  bootState : Nat
  preferred : Nat
  trial : Bool
  failCount : Nat
  confirmed : Bool
  versionA : Word
  versionB : Word
  fwLevels : BitVec 16
  /-- The running image's header, kept with its code and page-hash table in MP SRAM. -/
  image : List Byte
  parkScans : BitVec 16
  lastCode : Nat
  parkNode : Nat
  /-- Latest sensor values by item (Table 14-5). -/
  sensors : Sparse Int
  dieMax : Int
  dieSensor : Nat
  /-- EV61 is armed (R613). -/
  dieArmed : Bool
  /-- Degradation of each monitor, ppm; its baseline is lost. -/
  monitors : Sparse Nat
  baselineLost : List Nat
  items : List MarginItem
  revision : Word
  /-- Measured inputs of the plan that no other state holds, by item (R614). -/
  inputs : Sparse Int
  /-- An application runs (R621), and the number of items it changes. -/
  applying : Bool
  applyCount : Nat
  /-- TRIM on its way, one step per 1 ms (R416), and the application's further items that wait for it (R621). -/
  trimGoal : Option Int
  itemsWait : Bool
  pending : Bool
  /-- A REPLAN write is held until the work in progress ends (R617). -/
  replanHeld : Bool
  /-- Seconds of PD_MP on-time. -/
  onSeconds : Nat
  /-- PD_MP on-time at the start of the firmware (R601), and the hours at which the OTP pass, the checkpoint, the ageing measurement, the
  rollback retry (each hour) and the periodic re-plan (each 100 hours) were last made. -/
  bootSeconds : Nat
  hourPass : Nat
  hourSave : Nat
  hourAge : Nat
  hourRoll : Nat
  hourPlan : Nat
  /-- Rate of R616 for the next re-plan. -/
  rate : Option Int
  /-- Marginal words that passes found since the last re-plan (item 23). -/
  passWords : Nat
  /-- The log's next LSEQ and the entries it holds, which the NVM yields at every boot (R625). -/
  lseq : BitVec 16
  logCount : Nat
  /-- Anti-rollback target still to be programmed (R604). -/
  rollbackGoal : Nat
  rollbackSlot : Nat
  todo : List MpTodo
  /-- Completions delivered to the MP's own port, oldest first (R70). -/
  completions : List MpCompletion
  shadows : Shadows
  parking : Parking
  deriving DecidableEq, Repr

/-- A margin item before the first plan. -/
def MarginItem.zero (limit : Int) : MarginItem :=
  { present := 0, planned := 0, limit := limit, atLimit := false, baselineLost := false }

/-- Default limits of Table 14-6, items 0–23. -/
def marginLimits : List Int :=
  [8, 510, 100, 32, 10, 10, 10, 10, 10, 10, 10, 10, 10, 10, 10, 10, 1000, 800, 3, 3, 30, 30, 1000, 1]

def Mp.reset : Mp :=
  { bootState := 0, preferred := 0, trial := false, failCount := 0, confirmed := false, versionA := 0, versionB := 0,
    fwLevels := 0, image := [], parkScans := 0, lastCode := 0, parkNode := 0, sensors := [], dieMax := 0,
    dieSensor := 0, dieArmed := true, monitors := [], baselineLost := [], items := marginLimits.map MarginItem.zero,
    revision := 0, inputs := [], applying := false, applyCount := 0, trimGoal := none, itemsWait := false, pending := false, replanHeld := false,
    onSeconds := 0, bootSeconds := 0, hourPass := 0, hourSave := 0, hourAge := 0, hourRoll := 0, hourPlan := 0, rate := none, passWords := 0, lseq := 0, logCount := 0, rollbackGoal := 0, rollbackSlot := 0, todo := [],
    completions := [], shadows := Shadows.zero, parking := Parking.zero }

end Sys2Proof.Machine
end

