-- ==== Sys2Proof/Machine/CalOps.lean ====
section
/-! DEFINITION. Calendar arithmetic: leap years, days, seconds since 2000-01-01 and back (R72, R571–R575). -/

namespace Sys2Proof.Machine

/-- Year 2000 + `y` is a leap year of the calendar (R572). -/
def isLeap (y : Nat) : Bool := y % 4 = 0 && (y % 100 ≠ 0 || y % 400 = 0)

/-- Days of a month (R572). -/
def monthDays (y m : Nat) : Nat :=
  match m with
  | 1 => 31 | 2 => if isLeap y then 29 else 28 | 3 => 31 | 4 => 30 | 5 => 31 | 6 => 30
  | 7 => 31 | 8 => 31 | 9 => 30 | 10 => 31 | 11 => 30 | 12 => 31 | _ => 0

/-- Days of the year before the month. -/
def daysBeforeMonth (y : Nat) : Nat → Nat
  | 0 => 0
  | m + 1 => if m = 0 then 0 else daysBeforeMonth y m + monthDays y m

/-- Days from 2000-01-01 to the first of January of 2000 + `y`. -/
def daysBeforeYear (y : Nat) : Nat := 365 * y + (y + 3) / 4 - (y + 99) / 100 + (y + 399) / 400

/-- Days since 2000-01-01. -/
def Cal.dayNumber (c : Cal) : Nat := daysBeforeYear c.year + daysBeforeMonth c.year c.month + (c.day - 1)

/-- Seconds since 2000-01-01 00:00:00 (R72). -/
def Cal.seconds (c : Cal) : Nat := c.dayNumber * 86400 + c.hour * 3600 + c.min * 60 + c.sec

/-- WDAY: 1 Monday to 7 Sunday; 2000-01-01 is a Saturday, WDAY 6 (R573). -/
def Cal.weekday (c : Cal) : Nat := (c.dayNumber + 5) % 7 + 1

/-- The next second; the year wraps after 399 (R575). -/
def Cal.next (c : Cal) : Cal :=
  if c.sec + 1 < 60 then { c with sec := c.sec + 1 }
  else if c.min + 1 < 60 then { c with sec := 0, min := c.min + 1 }
  else if c.hour + 1 < 24 then { c with sec := 0, min := 0, hour := c.hour + 1 }
  else if c.day + 1 ≤ monthDays c.year c.month then { c with sec := 0, min := 0, hour := 0, day := c.day + 1 }
  else if c.month + 1 ≤ 12 then { c with sec := 0, min := 0, hour := 0, day := 1, month := c.month + 1 }
  else { sec := 0, min := 0, hour := 0, day := 1, month := 1, year := (c.year + 1) % 400 }

/-- Every field in its range of Table 13-1 (R571, R580). -/
def Cal.valid (c : Cal) : Bool :=
  c.year ≤ 399 && 1 ≤ c.month && c.month ≤ 12 && 1 ≤ c.day && c.day ≤ monthDays c.year c.month &&
  c.hour ≤ 23 && c.min ≤ 59 && c.sec ≤ 59

/-- The time word of a calendar time (Table 13-1), with the TIME_INVALID copy. -/
def Cal.timeWord (c : Cal) (invalid : Bool) : Word :=
  pack 32 [(0, 6, c.sec), (8, 6, c.min), (16, 5, c.hour), (24, 3, c.weekday), (31, 1, b2n invalid)]

/-- The date word of a calendar time (Table 13-1). -/
def Cal.dateWord (c : Cal) : Word := pack 32 [(0, 5, c.day), (8, 4, c.month), (16, 9, c.year)]

/-- The calendar time that a time word and a date word spell (Table 13-1). -/
def Cal.ofWords (t d : Word) : Cal :=
  { sec := bitsOf t 0 6, min := bitsOf t 8 6, hour := bitsOf t 16 5,
    day := bitsOf d 0 5, month := bitsOf d 8 4, year := bitsOf d 16 9 }

end Sys2Proof.Machine
end

