-- ==== Sys2Proof/Machine/Regs.lean ====
section
/-! DEFINITION. The register file: every RW field of the spec's field tables and every field loaded from OTP, by BAR0
offset (R11, R22, R533–R536, R645; Tables 2-3 to 15-3). -/

namespace Sys2Proof.Machine

/-- A register's stored fields: masks by change class (Table 0-9), the mask of the fields loaded from OTP (R533), the
reset or unprogrammed value and the restrictive value (R534, R535). -/
structure RegDef where
  live : Word
  staged : Word
  idle : Word
  otp : Word
  rst : Word
  restr : Word
  deriving DecidableEq, Repr

/-- A register with LIVE fields only. -/
def RegDef.ofLive (m r : Word) : RegDef := { live := m, staged := 0, idle := 0, otp := 0, rst := r, restr := r }
/-- A register with IDLE fields only. -/
def RegDef.ofIdle (m r : Word) : RegDef := { live := 0, staged := 0, idle := m, otp := 0, rst := r, restr := r }
/-- A register with STAGED fields only. -/
def RegDef.ofStaged (m r : Word) : RegDef := { live := 0, staged := m, idle := 0, otp := 0, rst := r, restr := r }
/-- LIVE fields, some of them loaded from OTP. -/
def RegDef.liveOtp (m o r x : Word) : RegDef := { live := m, staged := 0, idle := 0, otp := o, rst := r, restr := x }
/-- LIVE and IDLE fields, some loaded from OTP; no restrictive value of its own (R535). -/
def RegDef.mixOtp (m i o r : Word) : RegDef := { live := m, staged := 0, idle := i, otp := o, rst := r, restr := r }
/-- Read-only fields loaded from OTP. -/
def RegDef.roOtp (o r x : Word) : RegDef := { live := 0, staged := 0, idle := 0, otp := o, rst := r, restr := x }

/-- Table 2-5: the stored words of a queue window; `ts` for a telemetry or capture stream. -/
def windowDef (ts : Bool) (w : Nat) : Option RegDef :=
  match w with
  | 0x00 => some (.ofIdle 0xFFFFF000 0)
  | 0x04 => some (.ofIdle 0xFFFFFFFF 0)
  | 0x08 => some (.ofIdle (if ts then 0x001F010F else 0x0000010F) 0)
  | 0x0C => if ts then some (.ofLive 0x0000013F 0) else none
  | 0x18 => if ts then some (.ofLive 0x03FF0FFF 0x00640000) else none
  | _ => none

/-- Table 7-11: the stored words of a rail window. -/
def railDef (w : Nat) : Option RegDef :=
  match w with
  | 0x00 => some (.mixOtp 0x00010000 0x00007FFF 0x00017FFF 0x00011000)
  | 0x04 => some (.mixOtp 0 0xFFFF1FFF 0xFFFF1FFF 0x2EE003E8)
  | 0x08 => some (.mixOtp 0xFFFF0000 0x00000FFF 0xFFFF0FFF 0x00000258)
  | 0x0C => some { live := 0, staged := 0xFFFFFFFF, idle := 0, otp := 0xFFFFFFFF, rst := 0x141400C8, restr := 0x141400C8 }
  | 0x10 => some (.mixOtp 0xFFFF0FFF 0 0xFFFF0FFF 0x40C80258)
  | 0x14 => some (.mixOtp 0x0FFFFFFF 0 0x0FFFFFFF 0x03219096)
  | 0x18 => some (.mixOtp 0x00FF07FF 0 0x00FF07FF 0x001E079E)
  | 0x1C => some (.mixOtp 0xFFFFFFFF 0 0xFFFFFFFF 0x00140A0A)
  | 0x20 => some (.ofLive 0xFFFFFFFF 0x0A0A0050)
  | 0x24 => some (.mixOtp 0x00000003 0 0x00000003 0)
  | 0x28 => some (.mixOtp 0x00000FFF 0 0x00000FFF 0x000007D0)
  | 0x4C => some (.roOtp 0x0003FFFF 0 0)
  | _ => none

/-- Table 7-12: the stored words of a phase window. -/
def phaseDef (w : Nat) : Option RegDef :=
  match w with
  | 0x00 => some (.mixOtp 0 0xFFFFFF01 0xFFFFFF01 0x00000F00)
  | 0x04 => some (.mixOtp 0xFFFFFFFF 0 0xFFFFFFFF 0)
  | 0x08 => some (.mixOtp 0x000003FF 0 0x000003FF 0x000001F4)
  | _ => none

/-- Registers of single offsets (Tables 2-3 to 15-3). -/
def singleDef (off : Nat) : Option RegDef :=
  match off with
  | 0x0010 => some (.ofLive 0x3 0x3)
  | 0x001C => some (.ofLive 0xFFFFFFFF 0)
  | 0x1800 => some (.ofLive 0x1 0)
  | 0x2000 => some (.ofLive 0x6 0x6)
  | 0x200C => some (.ofIdle 0xFFFF 0)
  | 0x2014 => some (.ofIdle 0x3F 0)
  | 0x2028 => some (.ofLive 0x7F 0x40)
  | 0x2030 => some (.ofIdle 0xFFFFF000 0)
  | 0x2034 => some (.ofIdle 0xFFFFFFFF 0)
  | 0x2040 => some (.ofLive 0x010701FF 0)
  | 0x2800 => some (.ofLive 0x1 0x1)
  | 0x280C => some (.ofLive 0x03FFFFFF 0x01F40064)
  | 0x2810 => some (.ofLive 0xFFFFFFFF 0x32AF00C8)
  | 0x2814 => some (.ofLive 0x0000FF0F 0x00003205)
  | 0x2868 => some (.ofStaged 0x0000FFFF 0)
  | 0x3000 => some (.ofLive 0x1 0)
  | 0x3004 => some (.ofStaged 0x7F 10)
  | 0x300C => some (.ofIdle 0xFFFF 0)
  | 0x3010 => some (.ofLive 0x3FF 16)
  | 0x3014 => some (.liveOtp 0xFFFFFFFF 0xFFFFFFFF 0 0)
  | 0x3018 => some (.liveOtp 0x00FF0FFF 0xFF 0x000803FF 0x000803FF)
  | 0x301C => some (.ofLive 0x000081FF 0)
  | 0x3810 => some (.ofLive 0x1FFF 0xBB8)
  | 0x3818 => some (.ofLive 0x3 0x3)
  | 0x4000 => some (.liveOtp 0x3FF01 0x30001 0x1401 0x1401)
  | 0x4008 => some (.liveOtp 0xFFFF 0xFFFF 0x826E 0x826E)
  | 0x5000 => some (.liveOtp 0x70300 0x70301 0x100 0x100)
  | 0x5014 => some (.ofLive 0xF 0)
  | 0x5020 => some (.liveOtp 0xE0FF3FFF 0xE0FF3FFF 0x000A03E8 0x000A03E8)
  | 0x5024 => some (.liveOtp 0xFFFF 0xFFFF 0x1388 0x1388)
  | 0x5040 => some (.mixOtp 0x00FF0200 0xFF000000 0xFF0002DF 0x140A0200)
  | 0x5044 => some (.mixOtp 0 0xFFFFFFFF 0xFFFFFFFF 0)
  | 0x6000 => some (.ofLive 0x1 0)
  | 0x6024 => some (.ofLive 0xFFFFFFFF 0x323C55F0)
  | 0x6040 => some (.ofLive 0xFFFFFFFF 0)
  | 0x6044 => some (.ofLive 0x8000FFFF 0)
  | 0x604C => some (.roOtp 0x1 0 0)
  | 0x7020 => some (.liveOtp 0xFFFFFFFF 0xFFFFFFFF 0x5556A6AA 0xAAAAAAAA)
  | 0x7024 => some (.liveOtp 0xFFFFFFFF 0xFFFFFFFF 0x028295A6 0xAAAAAAAA)
  | 0x702C => some (.ofLive 0x1F 0)
  | 0x7034 => some (.liveOtp 0xFFFFF 0xFFFFF 0x30000 0x10000)
  | 0x7038 => some (.liveOtp 0xFFFFF 0xFFFFF 0 0)
  | 0x703C => some (.liveOtp 0xFF 0xFF 155 125)
  | 0x7180 => some (.roOtp 0x00FF00F7 0x000A0032 0x000A0097)
  | 0x7184 => some (.roOtp 0xFFFFFFFF 0x13882710 0x13882710)
  | 0x8044 => some (.ofLive 0x1 0x1)
  | 0x8050 => some (.ofLive 0x3FF 0)
  | 0xA010 => some (.ofLive 0xF1F 0x200)
  | 0xA014 => some (.ofLive 0xFFFFFFFF 0x09C40E42)
  | 0xA018 => some (.ofLive 0xFFFFFFFF 0)
  | 0xA024 => some (.ofLive 0xFF 125)
  | 0xA028 => some (.ofLive 0x3F 0)
  | 0xA030 => some (.ofLive 0xFF 30)
  | 0xA034 => some (.liveOtp 0x3 0x3 1 2)
  | 0xB000 => some (.ofLive 0xFFFFFFFF 0)
  | 0xB004 => some (.ofLive 0xFFFFFFFF 0)
  | 0xB018 => some (.ofLive 0x3F 0)
  | 0xE010 => some (.liveOtp 0x1 0x1 0 0)
  | _ => none

/-- The stored fields of the register at a BAR0 offset. -/
def regDef (off : Nat) : Option RegDef :=
  if 0x1000 ≤ off ∧ off < 0x1120 then windowDef false (off % 0x20)
  else if 0x1200 ≤ off ∧ off < 0x1420 then windowDef true (off % 0x20)
  else if 0x2100 ≤ off ∧ off < 0x2200 then
    some (.ofIdle (if off % 8 = 0 then 0xFFE00000 else 0xFFFFFFFF) 0)
  else if 0x2840 ≤ off ∧ off < 0x2868 then some (.ofStaged 0xFFFFFFFF 0)
  else if 0x3100 ≤ off ∧ off < 0x3500 then
    (match off % 0x40 with
     | 0x00 => some (.ofLive 0x3F 0)
     | 0x20 => some (.ofLive 0x1F 0)
     | _ => none)
  else if 0x4100 ≤ off ∧ off < 0x4500 then railDef (off % 0x80)
  else if 0x4600 ≤ off ∧ off < 0x4780 then phaseDef (off % 0x20)
  else if 0xB100 ≤ off ∧ off < 0xB200 then some (.ofLive 0x33F 0)
  else if 0xB200 ≤ off ∧ off < 0xB300 then some (.ofLive 0xFFFF00FF 0)
  else singleDef off

/-- The reset value of a register under the OTP values in force (R22, R533–R536): every "OTP" field takes the record's
bits, the unprogrammed value without a record, the restrictive value where R534 asks for it. R494: a marginal value word
of either FLT_REACT register takes every source to SAFE. -/
def regReset (o : Otp) (off : Nat) : Word :=
  match regDef off with
  | none => 0
  | some d =>
    let hit := o.allRestrictive || o.restrictive.contains off ||
      ((off = 0x7020 || off = 0x7024) && (o.restrictive.contains 0x7020 || o.restrictive.contains 0x7024))
    if hit then mergeMask d.rst d.restr d.otp
    else match Sparse.get? o.records off with
      | some w => mergeMask d.rst w d.otp
      | none => d.rst

/-- The registers as software has left them. -/
structure RegFile where
  /-- Values in force of the stored fields, by offset; an absent one holds its reset value. -/
  inForce : Sparse Word
  /-- LIVE writes that wait for their block's cycle boundary, oldest first: offset and word (R16). -/
  late : List (Nat × Word)
  /-- Shadows of STAGED registers that have been written (R17). -/
  shadow : Sparse Word
  /-- Shadows captured by COMMIT and not yet applied (R18). -/
  captured : Sparse Word
  deriving DecidableEq, Repr

def RegFile.reset : RegFile := { inForce := [], late := [], shadow := [], captured := [] }

/-- Drop what a test on the offset selects: those registers read their reset values again. -/
def RegFile.drop (r : RegFile) (p : Nat → Bool) : RegFile :=
  { inForce := r.inForce.filter (fun e => !p e.1), late := r.late.filter (fun e => !p e.1),
    shadow := r.shadow.filter (fun e => !p e.1), captured := r.captured.filter (fun e => !p e.1) }

/-- The value in force of a register. -/
def RegFile.get (r : RegFile) (o : Otp) (off : Nat) : Word := Sparse.getD r.inForce off (regReset o off)

/-- Put the bits of `w` under `mask` into the register in force. -/
def RegFile.put (r : RegFile) (o : Otp) (off : Nat) (w mask : Word) : RegFile :=
  { r with inForce := Sparse.set r.inForce off (mergeMask (r.get o off) w mask) }

/-- A write to STAGED fields goes to the shadow (Table 0-9); a shadow never written holds the value in force. -/
def RegFile.putShadow (r : RegFile) (o : Otp) (off : Nat) (w mask : Word) : RegFile :=
  { r with shadow := Sparse.set r.shadow off (mergeMask (Sparse.getD r.shadow off (r.get o off)) w mask) }

/-- COMMIT: capture the shadows of the offsets that a test selects (R18). -/
def RegFile.capture (r : RegFile) (p : Nat → Bool) : RegFile :=
  { r with captured := (r.captured.filter (fun e => !p e.1)) ++ r.shadow.filter (fun e => p e.1) }

/-- The cycle boundary of a block: its captured stage is applied (R18). -/
def RegFile.applyCaptured (r : RegFile) (o : Otp) (p : Nat → Bool) : RegFile :=
  let mine := r.captured.filter (fun e => p e.1)
  let r1 : RegFile := { r with captured := r.captured.filter (fun e => !p e.1) }
  forEach mine (fun e q => q.put o e.1 e.2 (match regDef e.1 with | some d => d.staged | none => 0)) r1

/-- The cycle boundary of a block: its waiting LIVE writes take effect together, in order (R16). -/
def RegFile.applyLate (r : RegFile) (o : Otp) (p : Nat → Bool) : RegFile :=
  let mine := r.late.filter (fun e => p e.1)
  let r1 : RegFile := { r with late := r.late.filter (fun e => !p e.1) }
  forEach mine (fun e q => q.put o e.1 e.2 (match regDef e.1 with | some d => d.live | none => 0)) r1

end Sys2Proof.Machine
end

