-- ==== Sys2Proof/Machine/Codes.lean ====
section
/-! DEFINITION. The characters of the Sirdatan line: 8b/10b coding with running disparity, the control characters of Table 4-2, and the
frame that a segment's characters spell (04_sirdatan_link.md, R158–R160, R173; the code's tables are those of IEEE 802.3 clause 36, log 112).
A symbol's bit 9 is its code bit "a", which is sent first. -/

namespace Sys2Proof.Machine

/-- A character on the line (Table 4-2). -/
inductive LineChar where
  | data (b : Byte)
  | idle | sot | eot | sos | sync | capt | err
  deriving DecidableEq, Repr

/-- Code bits abcdei of D.x at negative running disparity. -/
def codes6 : List Nat :=
  [0x27, 0x1D, 0x2D, 0x31, 0x35, 0x29, 0x19, 0x38, 0x39, 0x25, 0x15, 0x34, 0x0D, 0x2C, 0x1C, 0x17] ++
    [0x1B, 0x23, 0x13, 0x32, 0x0B, 0x2A, 0x1A, 0x3A, 0x33, 0x26, 0x16, 0x36, 0x0E, 0x2E, 0x1E, 0x2B]

/-- Code bits fghj of D.x.y at negative running disparity. -/
def codes4 : List Nat := [0xB, 0x9, 0x5, 0xC, 0xD, 0xA, 0x6, 0xE]

/-- Ones among the low `n` bits. -/
def onesOf (n v : Nat) : Nat := countIf (Nat.testBit v) (List.range n)

/-- The 5b/6b part: its code bits and the running disparity after it (`true`: positive). -/
def enc6 (rd : Bool) (x : Nat) : Nat × Bool :=
  let c := (codes6[x]?).getD 0
  let even := onesOf 6 c = 3
  (if rd && (!even || x = 7) then 63 - c else c, if even then rd else !rd)

/-- The alternate code of D.x.7 is due (IEEE 802.3 clause 36). -/
def alt7 (rd : Bool) (x : Nat) : Bool := if rd then x = 11 || x = 13 || x = 14 else x = 17 || x = 18 || x = 20

/-- The 3b/4b part after D.x. -/
def enc4 (rd : Bool) (x y : Nat) : Nat × Bool :=
  let c := if y = 7 && alt7 rd x then 0x7 else (codes4[y]?).getD 0
  let even := onesOf 4 c = 2
  (if rd && (!even || y = 3) then 15 - c else c, if even then rd else !rd)

/-- The control characters in use, at negative running disparity (Table 4-2). -/
def controls : List (LineChar × Nat) :=
  [(.idle, 0x0FA), (.sot, 0x368), (.eot, 0x2E8), (.sos, 0x0F5), (.sync, 0x0F9), (.capt, 0x0F4), (.err, 0x1E8)]

/-- A character as a symbol, and the running disparity after it. -/
def encodeChar (rd : Bool) (c : LineChar) : BitVec 10 × Bool :=
  match c with
  | .data b =>
    let x := b.toNat % 32
    let h := enc6 rd x
    let l := enc4 h.2 x (b.toNat / 32)
    (BitVec.ofNat 10 (h.1 * 16 + l.1), l.2)
  | _ =>
    let v := match controls.find? (fun e => e.1 = c) with | some e => e.2 | none => 0
    (BitVec.ofNat 10 (if rd then 1023 - v else v), if onesOf 10 v = 5 then rd else !rd)

/-- Characters as symbols. -/
def encodeLine : Bool → List LineChar → List (BitVec 10)
  | _, [] => []
  | rd, c :: t => (encodeChar rd c).1 :: encodeLine (encodeChar rd c).2 t

/-- A symbol read at a running disparity: `err` for a symbol that is no character there, for a disparity error and for a control
character not in Table 4-2 (R158); the disparity afterwards is that of the symbol's own ones. -/
def decodeChar (rd : Bool) (w : BitVec 10) : LineChar × Bool :=
  match controls.find? (fun e => (encodeChar rd e.1).1 = w) with
  | some e => (e.1, (encodeChar rd e.1).2)
  | none =>
    match (List.range 32).find? (fun x => (enc6 rd x).1 = w.toNat / 16) with
    | none => (.err, if onesOf 10 w.toNat = 5 then rd else 5 < onesOf 10 w.toNat)
    | some x =>
      let h := enc6 rd x
      match (List.range 8).find? (fun y => (enc4 h.2 x y).1 = w.toNat % 16) with
      | some y => (.data (BitVec.ofNat 8 (32 * y + x)), (enc4 h.2 x y).2)
      | none => (.err, if onesOf 10 w.toNat = 5 then rd else 5 < onesOf 10 w.toNat)

/-- Symbols as characters. -/
def decodeLine : Bool → List (BitVec 10) → List LineChar
  | _, [] => []
  | rd, w :: t => (decodeChar rd w).1 :: decodeLine (decodeChar rd w).2 t

/-- Receivers remove SYNC and CAPT, each with its two number characters, before framing (R159). -/
def dropTriggers : Nat → List LineChar → List LineChar
  | 0, cs => cs
  | _ + 1, [] => []
  | n + 1, c :: t => if c = .sync || c = .capt then dropTriggers n (t.drop 2) else c :: dropTriggers n t

/-- The bytes of data characters; none where another stands among them. -/
def dataBytes : List LineChar → Option (List Byte)
  | [] => some []
  | .data b :: t => (dataBytes t).map (b :: ·)
  | _ :: _ => none

/-- The characters of a segment from SOS to its last CRC character, framed. -/
def segmentChars (rd : Bool) (syms : List (BitVec 10)) : List LineChar := dropTriggers syms.length (decodeLine rd syms)

/-! ### FDA of the Flock bus (R390, R391) -/

/-- What stands on FDA: START, a bit at a rising edge of FCK, a bit time with FDA released, STOP. -/
inductive FdaBit where
  | start
  | bit (b : Bool)
  | release
  | stop
  deriving DecidableEq, Repr

/-- A byte, most significant bit first. -/
def fdaByte (b : Byte) : List FdaBit := (List.range 8).map fun i => .bit (bitOf b (7 - i))

/-- A frame: START, its bytes, STOP. -/
def fdaFrame (bytes : List Byte) : List FdaBit := .start :: (bytes.flatMap fdaByte ++ [.stop])

/-- An addressed PING with the follower's reply: two bit times of turn-round after the CRC byte, the 5 bytes, STOP. -/
def fdaPing (bytes reply : List Byte) : List FdaBit :=
  .start :: (bytes.flatMap fdaByte ++ [.release, .release] ++ reply.flatMap fdaByte ++ [.stop])

/-- The bytes that a run of sampled bits spells; none where it is no whole number of bytes. -/
def fdaBytes : List Bool → Option (List Byte)
  | [] => some []
  | a :: b :: c :: d :: e :: f :: g :: h :: t =>
    match fdaBytes t with
    | some bs => some (pack 8 [(7, 1, b2n a), (6, 1, b2n b), (5, 1, b2n c), (4, 1, b2n d), (3, 1, b2n e), (2, 1, b2n f), (1, 1, b2n g), (0, 1, b2n h)] :: bs)
    | none => none
  | _ => none

/-- POS_BYTE to SCRC of a segment, or none with a code error (R173, R175). -/
def segmentBytes (rd : Bool) (syms : List (BitVec 10)) : Option (List Byte) :=
  match segmentChars rd syms with
  | .sos :: t => dataBytes t
  | _ => none

/-- The position that a segment names, as far as it can be read. -/
def segmentPos (rd : Bool) (syms : List (BitVec 10)) : Option Nat :=
  match segmentChars rd syms with
  | _ :: .data b :: _ => some (b.toNat % 32)
  | _ => none

/-- A train of the device on the line: SOT, the bytes of header and command, EOT (R170, R172). -/
def trainChars (bytes : List Byte) : List LineChar := .sot :: (bytes.map .data ++ [.eot])

/-- IDLE (Table 4-2): K28.5, then D21.5. -/
def idleChars : List LineChar := [.idle, .data 0xB5]

/-- SYNC of cycle `c` and CAPT of capture `n` (Table 4-2). -/
def syncChars (c : Byte) : List LineChar := [.sync, .data c, .data (~~~ c)]
def captChars (n : Byte) : List LineChar := [.capt, .data n, .data (~~~ n)]

/-- The sub-blocks of a segment's body: KIND and content, up to one that is cut short or has a KIND above 15 (R173). -/
def subBlocks : Nat → List Byte → List (Nat × List Byte)
  | 0, _ => []
  | _ + 1, [] => []
  | _ + 1, [_] => []
  | n + 1, k :: l :: t =>
    if 16 ≤ k.toNat || t.length < l.toNat then []
    else (k.toNat, t.take l.toNat) :: subBlocks n (t.drop l.toNat)

end Sys2Proof.Machine
end

