-- ==== Sys2Proof/Machine/StLink.lean ====
section
/-! DEFINITION. State of the Sirdatan link ports, their nodes, and of measurement and load-step capture
(04_sirdatan_link.md, 05_cell_measurement.md). -/

namespace Sys2Proof.Machine

/-- A command for a node, as MICROFRAME_TRAIN puts it into a train (Table 4-4). -/
structure NodeCmd where
  pos : Nat
  bcast : Bool
  /-- It goes into the trains of chain B. -/
  chainB : Bool
  ncmd : Nat
  param : List Byte
  /-- Why it is sent: 1 enumeration, 2 node restore, 3 renewal, 4 NODE_AUTH, 5 profile load,
  6 tap profiles, 7 capture, 8 shunt stream, 9 recovery. -/
  why : Nat
  /-- Sends so far (R186). -/
  sends : Nat
  deriving DecidableEq, Repr

/-- A node command that awaits its response (R186). -/
structure SentCmd where
  cmd : NodeCmd
  seq : Byte
  /-- Trains of its chain since the one that carried it. -/
  trains : Nat
  deriving DecidableEq, Repr

/-- Progress of an enumeration (Table 4-12) or of the recovery after a break (R193). -/
structure EnumState where
  recovery : Bool
  /-- 2 waits for lock, 4 for the counts, 5 IDENT_READ, 6 ECHO, 7 SET_TIMING, 8 authentication and profiles, 9 ready. -/
  stage : Nat
  /-- The ring is whole; else discovery from both ends. -/
  whole : Bool
  deriving DecidableEq, Repr

/-- One link port (Table 4-16 and R154–R195). -/
structure Port where
  /-- MODE: 0 down, 1 ring, 2 dual-chain, 3 enumerating, 4 recovering. -/
  mode : Nat
  breakSeen : Bool
  healed : Bool
  countMismatch : Bool
  hopLimit : Bool
  excess : Bool
  nodes : Nat
  na : Nat
  nb : Nat
  /-- Positions 0 to span − 1 are numbered: N, or the EXPECT that chain B counts down from (R184; the model's own). -/
  span : Nat
  quotaA : Nat
  quotaB : Nat
  /-- RDIV code: 0: 1, 1: 2, 2: 4, 3: 8. -/
  rdiv : Nat
  rdivShort : Bool
  codeErrs : BitVec 16
  /-- Device seconds of the last 101 code errors, latest first (Table 14-6, item 18). -/
  errTimes : List Nat
  crcErrs : BitVec 16
  recordsLost : BitVec 16
  trainsLost : BitVec 16
  missing : BitVec 32
  unsync : BitVec 32
  quarantine : BitVec 32
  /-- Consecutive failed trains (R192), the start of the first of them in 125 µs units of the grid, and the cycle boundaries since (R193). -/
  failRun : Nat
  breakAt : Nat
  bounds : Nat
  enum : Option EnumState
  /-- Commands waiting for a train. -/
  queue : List NodeCmd
  /-- The command that awaits its response on the ring or chain A, and on chain B. -/
  sentA : Option SentCmd
  sentB : Option SentCmd
  /-- SEQ of the next command. -/
  seq : Byte
  /-- Index of the microframe under way, and whether the train of the ring or chain A, and of chain B, has gone out in it. -/
  mf : Nat
  mfA : Bool
  mfB : Bool
  /-- QUOTA of the last train of each. -/
  askA : Nat
  askB : Nat
  /-- LATCH of the first train of this cycle (R231). -/
  latch : Bool
  /-- Header and command bytes of the last train sent (Table 4-3, Table 4-4). -/
  train : List Byte
  /-- The train sent last has not been reported as failed (R192). -/
  trainOut : Bool
  /-- CAPT goes before the next train of chain A, and of chain B: of a dual-chain port (R179), and behind the SYNC that is due with it on a
  ring (R250). -/
  captA : Option Byte
  captB : Option Byte
  /-- Trigger characters directly before the last train sent (R162, R179, R250). -/
  lead : List LineChar
  /-- Trigger characters that a ring-mode port has sent since, at once (R159, R249). -/
  tail : List LineChar
  /-- The port's 512-byte profile image, and whether a NODE_PROFILE_LOAD has written it (R226, R703). -/
  image : BitVec 4096
  imageSet : Bool
  deriving DecidableEq, Repr

/-- A profile of R223, in 32 bytes: it never sets a flag. -/
def plainProfile : BitVec 256 :=
  BitVec.ofNat 256 (0x7FFFF + 0xFFF80000 * 2 ^ 32 + 1 * 2 ^ 80 + 1 * 2 ^ 88)

/-- Sixteen of them (log 46). -/
def plainImage : BitVec 4096 := BitVec.ofNat 4096 ((List.range 16).foldl (fun a i => a + plainProfile.toNat * 2 ^ (256 * i)) 0)

def Port.reset : Port :=
  { mode := 0, breakSeen := false, healed := false, countMismatch := false, hopLimit := false,
    excess := false, nodes := 0, na := 0, nb := 0, span := 0, quotaA := 0, quotaB := 0, rdiv := 0,
    rdivShort := false, codeErrs := 0, errTimes := [], crcErrs := 0, recordsLost := 0, trainsLost := 0, missing := 0,
    unsync := 0, quarantine := 0, failRun := 0, breakAt := 0, bounds := 0, enum := none, queue := [],
    sentA := none, sentB := none, seq := 0, mf := 0, mfA := false, mfB := false, askA := 0, askB := 0, latch := false, train := [],
    trainOut := false, captA := none, captB := none, lead := [], tail := [], image := plainImage, imageSet := false }

/-- A latched accumulator set as received (R177, R233). -/
structure AccSet where
  /-- Number of the latch, and the grid time of its instant in ms. -/
  ms : Nat
  /-- 500 values of 48 bits in tap order 0–495, 504–507. -/
  values : BitVec 24000
  deriving DecidableEq, Repr

/-- What the device keeps for one node address (R196–R201, R203, R228, R233). -/
structure Node where
  /-- Addressed at the last enumeration. -/
  present : Bool
  chainB : Bool
  /-- SYNC_HOLD sent and D_k, in bit times. -/
  hold : BitVec 16
  delay : BitVec 16
  /-- The accepted serial (R201). -/
  serial : Option (BitVec 64)
  /-- An authentication has passed since chip reset. -/
  everPassed : Bool
  /-- 0 never, 1 passed, 2 quarantined. -/
  auth : Nat
  /-- Device seconds at the last pass, and its time (LAST_AUTH, Table 3-3). -/
  passAt : Nat
  passTs : Option Stamp
  /-- The challenge due 24 h after that pass has been asked for (R197; the model's own). -/
  renewed : Bool
  /-- Challenge under way and its occasion (Table 15-2). -/
  challenge : Option (BitVec 128 × Nat)
  /-- The node's last NSTAT. -/
  nstat : BitVec 8
  /-- Trains without a segment while trains return intact (R196). -/
  silent : Nat
  /-- It has reported RESET_SEEN or missed 3 trains and is not restored since; and a restore is under way (R196). -/
  unrestored : Bool
  restoring : Bool
  /-- Response data of IDENT_READ and of STATUS_READ as last received (Table 4-11). -/
  ident : List Byte
  statusData : List Byte
  /-- Sub-blocks received and not yet acted on: RESP as SEQ, STATUS and data; PI; CAP as number, offset and bytes (Table 4-6). -/
  resp : List (Byte × Byte × List Byte)
  pi : List (BitVec 24 × Byte)
  caps : List (Byte × Nat × List Byte)
  /-- The cycle and the accumulator record whose pieces are arriving: number and bytes, none once a piece is missing. -/
  cycIn : Option (Byte × Option (List Byte))
  accIn : Option (Byte × Option (List Byte))
  /-- Records complete and not yet acted on. -/
  cycDone : List (BitVec 11552)
  accDone : List (BitVec 24032)
  /-- Flags of the last delivered record, 2 bits per tap (R228). -/
  flags : BitVec 1024
  /-- Tap codes of the last delivered record (R236). -/
  samples : BitVec 10240
  /-- Runs of delivered records beyond the limits, inputs G0–G7, over then under (R203). -/
  ovRun : Vector Nat 8
  uvRun : Vector Nat 8
  /-- Runs of delivered records with a TEMPS code at or below HOT_CODE, inputs T0–T15 (CELL_OT, Table 11-1). -/
  otRun : Vector Nat 16
  acc : Option AccSet
  /-- Sums of the cycle samples weighted by C ms since the last complete latch, in the order of the accumulators (empty: all
  0), the grid time in ms up to which they run, and their values at the later latches (R236). -/
  substitute : List Int
  subMs : Nat
  marks : List (Nat × List Int)
  /-- The accumulators restarted since the last complete latch (R236). -/
  accLost : Bool
  /-- A record has completed for the latest LATCH. -/
  accSeen : Bool
  /-- Segments discarded and resets seen since chip-level reset (Table 3-3, log 48). -/
  linkErrs : Nat
  resets : Nat
  deriving DecidableEq, Repr

def Node.reset : Node :=
  { present := false, chainB := false, hold := 0, delay := 0, serial := none, everPassed := false,
    auth := 0, passAt := 0, passTs := none, renewed := false, challenge := none, nstat := 0, silent := 0, unrestored := false, restoring := false,
    ident := [], statusData := [], resp := [], pi := [], caps := [], cycIn := none, accIn := none, cycDone := [], accDone := [], flags := 0,
    samples := 0, ovRun := Vector.replicate 8 0, uvRun := Vector.replicate 8 0, otRun := Vector.replicate 16 0, acc := none,
    substitute := [], subMs := 0, marks := [], accLost := false, accSeen := true,
    linkErrs := 0, resets := 0 }

/-- The link-port command that waits for the link (R86). -/
inductive LinkWait where
  /-- Ports still to finish, the ports named, and the status so far. -/
  | enumerate (t : Ticket) (open_ : BitVec 16) (named : BitVec 16) (status : Nat)
  | auth (t : Ticket) (node : Nat)
  /-- PROFILE_WRITE commands still unanswered, and the status so far. -/
  | profiles (t : Ticket) (left : Nat) (status : Nat)
  deriving DecidableEq, Repr

/-- A link-port command in order of arrival (R35). -/
inductive LinkJob where
  | enumerate (t : Ticket) (target : Nat)
  | auth (t : Ticket) (node : Nat)
  | profiles (t : Ticket) (target : Nat) (mask : BitVec 16) (block : BitVec 4096)
  | arm (t : Ticket) (on : Bool) (thresh : Nat)
  | force (t : Ticket)
  deriving DecidableEq, Repr

/-- A cycle tick: its cycle number, its instant in ms, its length C, the length of the cycle before it and its timestamp. -/
structure Tick where
  cycle : Word
  ms : Nat
  len : Nat
  before : Nat
  ts : Stamp
  deriving DecidableEq, Repr

/-- The link-port block (Table 4-15). -/
structure Links where
  running : Bool
  cfgReject : Bool
  /-- Consecutive cycle ends with more nodes without synchronisation than the limit. -/
  syncRun : Nat
  /-- The captured stage of LP_CTRL.COMMIT waits for the next cycle boundary (R18). -/
  commit : Bool
  /-- The device's 32-bit cycle count (R239). -/
  cycle : Word
  /-- Grid time of the last cycle tick, in ms. -/
  ms : Nat
  /-- LP_PI_CFG as the nodes were last told of it by SHUNT_STREAM (Table 4-15). -/
  piSent : Word
  /-- The cycles whose first train carried LATCH, latest first (R232). -/
  latches : List Tick
  /-- An epoch boundary has passed whose LATCH has not been sent (R231). -/
  latchDue : Bool
  /-- Violations and open reports of this cycle: count, lowest node, its lowest tap, flag (R229). -/
  viol : Option (Nat × Nat × Nat × Nat)
  opens : Option (Nat × Nat × Nat × Nat)
  /-- The last 64 ticks, latest first; and those whose pack-current record is due, oldest first, with the samples received
  for them: instant in 125 µs units and PI layout (R241). -/
  ticks : List Tick
  piDue : List Tick
  piCycle : List (Nat × BitVec 32)
  ports : Vector Port 16
  nodes : Sparse Node
  /-- The command in progress, and those behind it. -/
  wait : Option LinkWait
  jobs : List LinkJob
  deriving DecidableEq, Repr

def Links.reset : Links :=
  { running := false, cfgReject := false, syncRun := 0, commit := false, cycle := 0,
    ms := 0, piSent := 0, latches := [], latchDue := false, viol := none, opens := none, ticks := [], piDue := [], piCycle := [],
    ports := Vector.replicate 16 Port.reset, nodes := [], wait := none, jobs := [] }

/-- One node's part in an outstanding capture (R251–R262). -/
structure CapNode where
  node : Nat
  /-- Host address of the space reserved in an open TSC buffer, none when discarded. -/
  place : Option Nat
  /-- Pieces received: offset and bytes. -/
  pieces : List (Nat × List Byte)
  unsync : Bool
  /-- Timestamp of the node's trigger. -/
  ts : Stamp
  /-- POST_OFFSET in ms. -/
  post : Nat
  /-- Its record is written (complete). -/
  done : Bool
  /-- A CAP_REREAD has been refused or has failed: what is missing is asked for no more (R182, R186). -/
  given : Bool
  deriving DecidableEq, Repr

/-- An outstanding capture (R253). -/
structure Capture where
  seq : Word
  forced : Bool
  /-- Reference grid instant, in ms of the grid. -/
  ref : Nat
  refTs : Stamp
  /-- Timestamp of CAPT. -/
  captTs : Stamp
  /-- When it became the oldest outstanding, in µs of the grid (R258). -/
  since : Nat
  steps : Nat
  d : Nat
  nodes : List CapNode
  excluded : Nat
  /-- PI samples of the summary window received so far: instant and PI layout. -/
  pi : List (Nat × BitVec 32)
  deriving DecidableEq, Repr

/-- Measurement and capture (Table 5-7, R246–R266). -/
structure Measure where
  armed : Bool
  thresh : BitVec 10
  noPack : Bool
  piLost : Bool
  /-- Consecutive PI samples received since the last gap. -/
  piRun : Nat
  /-- d of the last PI sample received had reached the threshold (R247, log 120). -/
  above : Bool
  /-- Consecutive PI samples at or above PACK_LIM (PACK_OC, Table 11-1). -/
  ocRun : Nat
  /-- Sample count of the last PI sample received. -/
  piLast : Option Byte
  /-- Latest instant known, in µs of the grid, which goes on while the links do not run (log 53). -/
  now : Nat
  /-- Instant of the last CAPT, in the same unit. -/
  lastCapt : Option Nat
  lastSeq : Word
  declined : BitVec 16
  partialCount : BitVec 16
  threshCode : BitVec 20
  subst : BitVec 16
  missed : BitVec 16
  notSent : BitVec 32
  /-- PI samples of the last 32 ms and more: instant in 125 µs units and PI layout, latest first. -/
  hist : List (Nat × BitVec 32)
  captures : List Capture
  /-- On-chip copies of T_FILT in 0.01 °C by node × 16 + input (R219). -/
  tfilt : Sparse Int
  deriving DecidableEq, Repr

def Measure.reset : Measure :=
  { armed := false, thresh := 200, noPack := true, piLost := false, piRun := 0, above := false, ocRun := 0, piLast := none, now := 0,
    lastCapt := none, lastSeq := 0, declined := 0, partialCount := 0, threshCode := 0, subst := 0,
    missed := 0, notSent := 0, hist := [], captures := [], tfilt := [] }

end Sys2Proof.Machine
end

