-- ==== Sys2Proof/Machine/StTable.lean ====
section
/-! DEFINITION. State of the channel table, the channel cache and the Mule (03_channel_table.md). -/

namespace Sys2Proof.Machine

/-- A channel entry's 256 bytes; byte k stands in bits [8k + 7:8k] (R105–R112). -/
abbrev Entry := BitVec 2048

/-- A node's directory entry (R116): first index and count of each kind. -/
structure DirEntry where
  cellFirst : Nat
  cellCount : Nat
  groupFirst : Nat
  groupCount : Nat
  tempFirst : Nat
  tempCount : Nat
  packCh : Option Nat
  nodeCh : Option Nat
  deriving DecidableEq, Repr

def DirEntry.empty : DirEntry :=
  { cellFirst := 0, cellCount := 0, groupFirst := 0, groupCount := 0, tempFirst := 0,
    tempCount := 0, packCh := none, nodeCh := none }

/-- One occupied cache way; channel c lies in set c mod 256 (R121, R122). -/
structure Line where
  data : Entry
  way : Nat
  dirty : Bool
  pinned : Bool
  /-- Reserved for a batch in flight. -/
  reserved : Bool
  /-- Time of last use, for the choice of a victim (R124). -/
  used : Nat
  deriving DecidableEq, Repr

/-- The last refusal by attach or preparation (CT_FIRST_BAD). -/
structure FirstBad where
  reason : Nat
  index : Nat
  deriving DecidableEq, Repr

/-- The Mule (R140–R152). -/
structure Mule where
  /-- PHASE of Table 3-5: 0 idle, 1 preparing, 2 waiting, 3 copying, 4 replaying. -/
  phase : Nat
  nextGen : BitVec 16
  /-- The shadow chunk list, its chunk count and the new channel count. -/
  chunks : List DWord
  count : Nat
  /-- The second directory. -/
  dir : Sparse DirEntry
  /-- The next template index to be read by the preparation. -/
  prepNext : Nat
  copyEpochs : Nat
  restarts : Nat
  /-- WRITE_SEQ of the template's CARRY entries, PARENT of its CELL entries and CAPACITY of its GROUP and PACK entries, as the
  preparation read them. -/
  tseq : Sparse Nat
  parents : Sparse Nat
  caps : Sparse Nat
  /-- Template entries that fail R131 when they are read again for their copy: excluded from the switch on (log 123). -/
  failed : List Nat
  /-- Template entries written in this copy epoch, by g + 1 index. -/
  copied : List Nat
  /-- Pending delta-log records, oldest first: g index, g + 1 index (R148). -/
  log : List (Nat × Nat)
  /-- Shadow chunks whose second copy is not finished (R149). -/
  recopy : List Nat
  /-- The copy epoch was cut: the next epoch copies the whole table (R152). -/
  again : Bool
  deriving DecidableEq, Repr

def Mule.reset : Mule :=
  { phase := 0, nextGen := 0, chunks := [], count := 0, dir := [], prepNext := 0, copyEpochs := 0,
    restarts := 0, tseq := [], parents := [], caps := [], failed := [], copied := [], log := [], recopy := [], again := false }

/-- A command of the channel table in order of arrival (R35, R124, R130): kind 0 flush, 1 update, 2 invalidate, 3 pin, 4 attach,
5 rebuild. -/
structure CtWait where
  ticket : Ticket
  kind : Nat
  first : Nat
  count : Nat
  /-- INVALIDATE, WRITEBACK_FIRST, pin or RESUME. -/
  bit : Bool
  src : Entry
  mask : BitVec 256
  /-- The shadow chunk list of a rebuild, and its chunk count. -/
  chunks : List DWord
  nChunks : Nat
  /-- The read of the command's own host memory fails, or a read of table memory does. -/
  srcFault : Bool
  tabFault : Bool
  /-- Channels whose entry arrives corrupted, once for each bad read (R131). -/
  bad : List Nat
  deriving DecidableEq, Repr

/-- The channel table block (Table 3-6). -/
structure ChanTable where
  attached : Bool
  hold : Bool
  gen : BitVec 16
  count : Nat
  firstBad : Option FirstBad
  genErrs : BitVec 16
  crcErrs : BitVec 16
  uncorr : BitVec 16
  corr : BitVec 16
  logOverflow : Bool
  hostAccessErr : Bool
  cfgReject : Bool
  /-- The attached directory, by node address. -/
  dir : Sparse DirEntry
  /-- The occupied cache ways, by channel index. -/
  cache : Sparse Line
  /-- Copies of the GROUP and PACK entries taken on chip at an attach, a generation switch and each pass (log 108). -/
  calib : Sparse Entry
  /-- PARENT of each CELL channel, as of an attach, a switch and each pass (R269, R286). -/
  parents : Sparse Nat
  /-- Pinned channels dropped by an uncorrectable error whose refetch waits for the table to be reached (R127). -/
  repin : List Nat
  /-- Counts cache uses, for the choice of a victim. -/
  clock : Nat
  /-- Channels excluded from estimation until repaired (R132). -/
  excluded : List Nat
  /-- The model's own: the table reads of the row that is running end in an error (its operand `fault`); false between rows. -/
  fails : Bool
  /-- Commands of the block that wait, oldest first. -/
  waits : List CtWait
  mule : Mule
  deriving DecidableEq, Repr

def ChanTable.reset : ChanTable :=
  { attached := false, hold := false, gen := 0, count := 0, firstBad := none,
    genErrs := 0, crcErrs := 0, uncorr := 0, corr := 0, logOverflow := false, hostAccessErr := false,
    cfgReject := false, dir := [], cache := [], calib := [], parents := [], repin := [], clock := 0, excluded := [], fails := false, waits := [], mule := Mule.reset }

end Sys2Proof.Machine
end

