-- ==== Sys2Proof/Machine/StOx.lean ====
section
/-! DEFINITION. State of the Ox engine and of the backup gauge's estimator (06_state_estimation.md). -/

namespace Sys2Proof.Machine

/-- What a PACK channel has counted since the attach: the charge of the deltas applied in mA·s, their number and their time in ms (R286). -/
structure PackSum where
  charge : Rat
  count : Nat
  ms : Nat
  deriving DecidableEq, Repr

def PackSum.zero : PackSum := { charge := 0, count := 0, ms := 0 }

/-- The result of one impedance fit (R273–R276). -/
structure Fit where
  rs : Rat
  rp : Rat
  /-- τ in seconds. -/
  tau : Rat
  q : Nat
  cRs : Nat
  cRp : Nat
  cTau : Nat
  capture : Word
  refTs : Stamp
  /-- Mean of du[96..127] in volts (in amperes for the backup gauge). -/
  mean : Rat
  deriving DecidableEq, Repr

/-- An accumulator delta that waits for its channel's pass: code sum, grid instants, latch time in ms. -/
structure Delta where
  sum : Int
  n : Nat
  latch : Nat
  ts : Stamp
  deriving DecidableEq, Repr

/-- What is held on chip for one channel until its batch next passes (R125). -/
structure ChanPend where
  deltas : List Delta
  violations : Nat
  /-- An open report has been counted since the channel's previous pass (R281). -/
  openReport : Bool
  /-- The tap's flag has left 3 in a delivered record since it was last 3, and a SHARE update since OPEN_LINK was last set has given
  at least 2 × OPEN_SHARE (R281). -/
  flagLeft3 : Bool
  shareUp : Bool
  /-- The tap code (of a TEMP channel the TEMPS code) of the last delivered cycle, and its cycle tick (R220). -/
  sample : Option (Int × Stamp)
  /-- Valid TEMPS codes delivered in the epoch (R218). -/
  temps : List Nat
  /-- Reference grid instant of the last capture whose node record includes the channel (R109). -/
  lastCapt : Option Stamp
  fit : Option Fit
  /-- The link ports filled NODE housekeeping: DIE_T, SUPPLY. -/
  house : Option (Int × Nat)
  /-- The channel is to be reinitialised (R201). -/
  reinit : Bool
  deriving DecidableEq, Repr

def ChanPend.empty : ChanPend :=
  { deltas := [], violations := 0, openReport := false, flagLeft3 := false, shareUp := false, sample := none, temps := [],
    lastCapt := none, fit := none, house := none, reinit := false }

/-- On-chip working values of one GROUP or PACK channel (Table 6-2, R290–R301). -/
structure GroupWork where
  /-- Charge pending from child passes, µA·s, and the children that contributed, each once. -/
  pendCharge : Rat
  pendKids : List Nat
  /-- The longest time of the deltas that a child has brought, in ms: the time over which the group's current is a mean (R302). -/
  pendMs : Nat
  /-- Conductance (1/µΩ) and CONF_RS of each child with FIT_VALID set, as of its last pass. -/
  cond : Sparse (Rat × Nat)
  /-- Copies taken at the last pass. -/
  eodMv : Nat
  eocMv : Nat
  capacity : Nat
  capEst : Nat
  rsEff : Nat
  socInt : Nat
  socRep : Nat
  charge : Int
  socConf : Nat
  status : Nat
  energy : Nat
  anchorKind : Nat
  anchorTime : Stamp
  /-- Voltage-anchor candidate: per-cell volts, group amperes, its epoch (R291). -/
  cand : Option (Rat × Rat × Nat)
  /-- Learning reference (0.01 %) and charge since it, mA·s. -/
  sRef : Option Nat
  qRef : Rat
  /-- Device seconds of the last voltage anchor. -/
  lastV : Option Nat
  /-- Fraction of SOC_REP kept on chip, 0.01 %. -/
  frac : Rat
  /-- Mean group current of the last epoch, A. -/
  iMean : Rat
  /-- Last delivered cycle: per-cell volts and group amperes (R299). -/
  lastCycle : Option (Rat × Rat)
  /-- Consecutive cycles that met the EOD and EOC thresholds; declared and not yet applied (R295). -/
  eodRun : Nat
  eocRun : Nat
  eodDecl : Bool
  eocDecl : Bool
  /-- RS_EFF has been set (R291). -/
  rsSet : Bool
  /-- Rest anchors that have fallen due in the present rest, and one that waits for the group's next pass (R290). -/
  restTaken : Nat
  restAsked : Bool
  /-- Start of the present rest and the latest delivered cycle, in ms of the grid (R290). -/
  restFrom : Option Nat
  restNow : Nat
  deriving DecidableEq, Repr

def GroupWork.empty : GroupWork :=
  { pendCharge := 0, pendKids := [], pendMs := 0, cond := [], eodMv := 0, eocMv := 0, capacity := 0,
    capEst := 0, rsEff := 0, socInt := 0, socRep := 0, charge := 0, socConf := 0, status := 0, energy := 0,
    anchorKind := 0, anchorTime := 0, cand := none, sRef := none, qRef := 0, lastV := none, frac := 0, iMean := 0,
    lastCycle := none, eodRun := 0, eocRun := 0, eodDecl := false, eocDecl := false, rsSet := false, restTaken := 0,
    restAsked := false, restFrom := none, restNow := 0 }

/-- A complete node capture record whose fits are still to be computed (R277): its CELL taps in order, and its bytes. -/
structure FitJob where
  capture : Word
  refTs : Stamp
  node : Nat
  taps : List Nat
  pieces : List (Nat × List Byte)
  deriving DecidableEq, Repr

/-- One record of the parking state (R309). -/
structure ParkRec where
  chan : Nat
  charge : Int
  socRep : Nat
  socConf : Nat
  status : Nat
  sRef : Nat
  qRef : Int
  /-- RESERVE_FLOOR, which the parking state keeps beside the record's STATUS byte; none from a snapshot (log 55). -/
  floor : Option Bool
  deriving DecidableEq, Repr

/-- The parking state in retained SRAM (R307, Table 6-8). -/
structure ParkState where
  time : Stamp
  gen : Nat
  recs : List ParkRec
  deriving DecidableEq, Repr

/-- The Ox engine (Table 6-10). -/
structure Ox where
  commit : Bool
  overruns : BitVec 8
  parkValid : Bool
  /-- Records whose fits wait to be computed, oldest first (FIT_BUSY). -/
  fits : List FitJob
  epoch : Word
  rejected : BitVec 16
  dropped : BitVec 16
  computed : Word
  /-- An epoch is in progress. -/
  active : Bool
  /-- The first boundary after an attach starts the first epoch. -/
  started : Bool
  /-- The next batch to be fetched, and the batches in flight. -/
  nextBatch : Nat
  inFlight : List Nat
  /-- Batches allowed in flight this epoch (R30). -/
  maxBatches : Nat
  overran : Bool
  paused : Bool
  fitsApplied : Nat
  /-- Per-channel values held until the next pass. -/
  pend : Sparse ChanPend
  work : Sparse GroupWork
  /-- The sums of each PACK channel, and each GROUP channel's PACK channel with its sums as seen at the group's last pass (R286). -/
  packSum : Sparse PackSum
  seen : Sparse (Nat × PackSum)
  /-- Calendar day number at each CELL channel's last WEAK_TREND shift. -/
  trendDay : Sparse Nat
  /-- Channels of the parking state whose first pass is still to come (R308). -/
  parkLeft : List Nat
  deriving DecidableEq, Repr

def Ox.reset : Ox :=
  { commit := false, overruns := 0, parkValid := false, fits := [], epoch := 0, rejected := 0, dropped := 0,
    computed := 0, active := false, started := false, nextBatch := 0, inFlight := [], maxBatches := 6,
    overran := false, paused := false, fitsApplied := 0, pend := [], work := [], packSum := [], seen := [], trendDay := [], parkLeft := [] }

/-- The backup gauge's state in retained SRAM (Table 6-8 gauge record, Table 6-9). -/
structure Gauge where
  charge : Int
  capEst : Nat
  rs : Nat
  rp : Nat
  tau : Nat
  confRs : Nat
  socInt : Nat
  socRep : Nat
  socConf : Nat
  anchorKind : Nat
  status : Nat
  anchorTime : Stamp
  sRef : Option Nat
  qRef : Rat
  /-- Equivalent full cycles in 0.01. -/
  cycles : Nat
  /-- Usable energy, 0.1 Wh (R302). -/
  energy : Nat
  /-- Rest seconds, epochs since the last voltage anchor, end-threshold runs and the fraction of SOC_REP. -/
  restSec : Nat
  lastV : Option Nat
  frac : Rat
  eodRun : Nat
  eocRun : Nat
  /-- Throughput not yet counted into `cycles`, mA·s. -/
  through : Rat
  rsSet : Bool
  /-- CHG_QB at the previous gauge epoch (R477). -/
  lastQb : BitVec 48
  /-- PD_CHG has been off since the previous gauge epoch, and COUNT_GAP (R478). -/
  gap : Bool
  countGap : Bool
  /-- The initial state waits for the first configuration, which gives its CAPACITY (R304). -/
  fresh : Bool
  deriving DecidableEq, Repr

/-- The gauge before its initial state: HISTORY_UNKNOWN and ANCHOR_AGED set (R304, Table 6-7 with CAPACITY 0). -/
def Gauge.zero : Gauge :=
  { charge := 0, capEst := 0, rs := 0, rp := 0, tau := 0, confRs := 0, socInt := 5000, socRep := 5000, socConf := 0,
    anchorKind := 0, status := 33, anchorTime := 0, sRef := none, qRef := 0, cycles := 0, energy := 0, restSec := 0, lastV := none,
    frac := 0, eodRun := 0, eocRun := 0, through := 0, rsSet := false, lastQb := 0, gap := true, countGap := false, fresh := true }

end Sys2Proof.Machine
end

