-- ==== Sys2Proof/Machine/StPower.lean ====
section
/-! DEFINITION. State of the supplies, the power path, the power domains and of the charger
(09_supplies_and_domains.md, 10_backup_pack_and_charger.md). -/

namespace Sys2Proof.Machine

/-- The power-path states of Table 9-3. -/
inductive Path where
  | main | bak | hold
  deriving DecidableEq, Repr

/-- PATH of Table 9-3. -/
def Path.code : Path → Nat
  | .main => 0 | .bak => 1 | .hold => 2

/-- The states of a power domain (Table 9-7). -/
inductive DomState where
  | on | retention | off
  deriving DecidableEq, Repr

/-- STATE and REQ_STATE: 0 on, 1 retention, 2 off. -/
def DomState.code : DomState → Nat
  | .on => 0 | .retention => 1 | .off => 2

/-- A request for a domain transition (R425–R427). -/
structure DomReq where
  target : DomState
  byMp : Bool
  ticket : Option Ticket
  /-- Requested by the host, so that parking ends with it (R37). -/
  byHost : Bool
  deriving DecidableEq, Repr

/-- A transition in progress (R433, R434). -/
structure DomMove where
  req : DomReq
  /-- Stage whose ready bit changes next: 1 REG, 2 CLK, 3 MEM, 4 LOGIC. -/
  stage : Nat
  /-- A failed stage takes the domain to off (R435). -/
  failed : Nat
  /-- It came from off (memories lost) rather than from retention. -/
  fromOff : Bool
  deriving DecidableEq, Repr

/-- One power domain (PWR_DSTATn). -/
structure Domain where
  state : DomState
  /-- REQ_STATE of PWR_REQn. -/
  req : DomState
  regRdy : Bool
  clkRdy : Bool
  memRdy : Bool
  logicRdy : Bool
  byMp : Bool
  result : Nat
  failedStage : Nat
  move : Option DomMove
  /-- The request that waits for the transition in progress (R427). -/
  waiting : Option DomReq
  deriving DecidableEq, Repr

/-- A domain at the start of the device: off with its requested state. -/
def Domain.init (req : DomState) : Domain :=
  { state := .off, req := req, regRdy := false, clkRdy := false, memRdy := false, logicRdy := false, byMp := false,
    result := 0, failedStage := 0, move := none, waiting := none }

/-- A domain of codes 0–2: always on. -/
def Domain.always : Domain :=
  { state := .on, req := .on, regRdy := true, clkRdy := true, memRdy := true, logicRdy := true, byMp := false,
    result := 0, failedStage := 0, move := none, waiting := none }

/-- The wake record (R437). -/
structure WakeRec where
  host : Bool
  code : Byte
  time : Stamp
  deriving DecidableEq, Repr

/-- Supplies, power path and domains (Table 9-12). -/
structure Power where
  path : Path
  /-- HOLD was entered through VMAIN_OV: GMAIN stays off (R409). -/
  holdByOv : Bool
  /-- The return timer runs (R408). -/
  retTiming : Bool
  /-- When the return timer started, in µs of the sender's clock (the model's own). -/
  retFrom : Nat
  vmainQual : Bool
  vmainOv : Bool
  vbakPresent : Bool
  vrtcOk : Bool
  /-- VSYS_BOR is clear. -/
  vsysOk : Bool
  saveActive : Bool
  /-- The save of this SAVE_ACTIVE has ended (R422, R569). -/
  saveEnded : Bool
  returns : BitVec 16
  switchovers : BitVec 16
  uvFlags : Byte
  ovFlags : Byte
  /-- Supplies below their under-voltage threshold now (Table 9-5 order). -/
  uvNow : Byte
  trim : Int
  saveDone : Bool
  saveIncomplete : Bool
  bkpLost : Bool
  wake : WakeRec
  /-- The PLL is in lock and its output ungated (R44, R47). -/
  pllRuns : Bool
  /-- RESET_N is held low (R441). -/
  resetLow : Bool
  /-- Start-up: 0 over, else the step of Table 9-11 reached (6 while the OTP load runs); 7 stopped at step 5 (R443). -/
  startStep : Nat
  doms : Vector Domain 13
  deriving DecidableEq, Repr

/-- Table 9-7: the domains at the start of every start-up. -/
def initDomains : Vector Domain 13 :=
  #v[Domain.always, Domain.always, Domain.always, Domain.init .on, Domain.init .off, Domain.init .on,
     Domain.init .off, Domain.init .off, Domain.init .off, Domain.init .off, Domain.init .off, Domain.init .off,
     Domain.init .off]

/-- The charger's states (Table 10-4). -/
inductive ChgState where
  | disabled | idle | qualifying | precharge | cc | cv | done | suspended | reverse
  deriving DecidableEq, Repr

/-- CHG_STATUS.STATE. -/
def ChgState.code : ChgState → Nat
  | .disabled => 0 | .idle => 1 | .qualifying => 2 | .precharge => 3 | .cc => 4 | .cv => 5 | .done => 6
  | .suspended => 7 | .reverse => 8

/-- A charge source. -/
inductive Source where
  | none | panel | vehicle
  deriving DecidableEq, Repr

/-- CHG_STATUS.SOURCE. -/
def Source.code : Source → Nat
  | .none => 0 | .panel => 1 | .vehicle => 2

/-- An MPPT sweep in progress (R467). -/
structure Sweep where
  /-- ms of the stop that measures Voc still to go, before step 0 (R468). -/
  vocMs : Nat
  /-- Next step k; 64 ends the sweep. -/
  step : Nat
  /-- Best step so far: its voltage (10 mV) and its power (0.1 mW). -/
  best : Option (Nat × Int)
  vref0 : Nat
  deriving DecidableEq, Repr

/-- A gauge capture that waits for the MP (R479). -/
structure GaugeCap where
  /-- Pairs IB (10 mA) and VB (mV), 128 samples at 1 kHz. -/
  samples : List (Int × Int)
  deriving DecidableEq, Repr

/-- How the four-switch stage runs (R448). -/
inductive StageMode where
  | stopped | buck | boost | buckBoost
  deriving DecidableEq, Repr

/-- The charger (Table 10-9). -/
structure Charger where
  state : ChgState
  mode : StageMode
  /-- The charge-current reference, which approaches the set current, 10 mA (R449). -/
  iRef : Nat
  /-- References of the CV loop (mV), the port A current loop (10 mA) and the port A voltage loop (mV); 0 while the stage stands. -/
  cvRef : Nat
  iinRef : Nat
  vinRef : Nat
  /-- The 64-byte configuration block in force. -/
  cfg : Option (BitVec 512)
  /-- Blocks accepted, in force at the next control tick, and the commands they complete (R452). -/
  cfgNext : List (BitVec 512 × Ticket)
  faults : BitVec 11
  source : Source
  pvGate : Bool
  vehGate : Bool
  /-- Candidate being qualified and ms since the start of QUALIFYING. -/
  cand : Source
  qualMs : Nat
  /-- Candidates tried and failed in this round (R455). -/
  tried : List Source
  /-- No candidate has qualified, and for how many ms the next try has been waited for (60 s, R455). -/
  retryWait : Bool
  retryMs : Nat
  loop : Nat
  waitRechg : Bool
  timerSlow : Bool
  band : Nat
  /-- ms since the last conversion of BNTC (R462). -/
  bandMs : Nat
  /-- Measurements of the last tick: 10 mV, 10 mA, mV, 10 mA, 0.1 °C. -/
  va : Nat
  ia : Int
  vb : Nat
  ib : Int
  tBntc : Int
  tj : Int
  pIn : Nat
  vref : Nat
  voc : Nat
  /-- ms since the last sweep. -/
  sweepMs : Nat
  sweep : Option Sweep
  mpptDown : Bool
  mpptLast : Option Int
  /-- Session and safety timers in ms and half-ms. -/
  sessionMs : Nat
  timerHalf : Nat
  preMs : Nat
  timerH : Nat
  preMin : Nat
  /-- Runs of ticks for the changes between PRECHARGE and CC (R460). -/
  preUpMs : Nat
  preDownMs : Nat
  revV : Nat
  revI : Nat
  /-- Output reference and current of the ramp (10 mV, 10 mA). -/
  revVNow : Nat
  revINow : Nat
  /-- ms for which VA has stayed below 10.0 V (R457), IB below 0.1 A under a port A loop (R457), VB below RECHG_MV with the stage
  stopped (R459), IB below ITERM under the CV loop (R461). -/
  vaLowMs : Nat
  weakMs : Nat
  rechgMs : Nat
  termMs : Nat
  /-- ms of MPPT_ACTIVE since the last move (R466), of the sweep's step (R467), of reverse mode since its last check (R473). -/
  mpptMs : Nat
  stepMs : Nat
  revMs : Nat
  /-- VA of the last 100 ms and VA × IA (0.1 mW) of the last 250 ms, the newest first (R456, R466, R467). -/
  vas : List Nat
  powers : List Int
  /-- Ticks until a start of reverse mode is judged again (R450, R472); 0 when none is on the way. -/
  revStart : Nat
  revTickets : List Ticket
  endReason : Nat
  authBlock : Bool
  authResult : Nat
  authAttempts : Nat
  authRunning : Bool
  /-- An attempt of the run was answered. -/
  authAnswered : Bool
  keyUnusable : Bool
  serialChanged : Bool
  /-- The accepted serial as CHG_AUTH_SER shows it: 0 from PD_CHG on from off until a run passes (R486). -/
  serial : BitVec 64
  /-- Device seconds at the last passing authentication. -/
  authPassAt : Option Nat
  /-- SERIAL of the run's last IDENT. -/
  authSerial : BitVec 64
  /-- ms since the run's last attempt (R483), and the requests that it sent on BAUTH (R482). -/
  authMs : Nat
  authSent : List Byte
  /-- CHG_QB, 1 mA·s. -/
  qb : BitVec 48
  qbRem : Int
  qbHi : BitVec 16
  sessions : BitVec 16
  doneCount : BitVec 16
  capture : Option GaugeCap
  socLowArmed : Bool
  socCritArmed : Bool
  deriving DecidableEq, Repr

def Charger.reset : Charger :=
  { state := .disabled, mode := .stopped, iRef := 0, cvRef := 0, iinRef := 0, vinRef := 0, serial := 0, vaLowMs := 0, weakMs := 0, rechgMs := 0, termMs := 0, mpptMs := 0, stepMs := 0,
    revMs := 0, vas := [], powers := [], cfg := none, cfgNext := [], faults := 0, source := .none, pvGate := false,
    vehGate := false, cand := .none, qualMs := 0, tried := [], retryWait := false, retryMs := 0, loop := 0, waitRechg := false,
    timerSlow := false, band := 0, bandMs := 0, va := 0, ia := 0, vb := 0, ib := 0, tBntc := 0, tj := 0, pIn := 0, vref := 0,
    voc := 0, sweepMs := 0, sweep := none, mpptDown := true, mpptLast := none, sessionMs := 0, timerHalf := 0,
    preMs := 0, timerH := 0, preMin := 0, preUpMs := 0, preDownMs := 0, revV := 0, revI := 0,
    revVNow := 0, revINow := 0, revStart := 0, revTickets := [], endReason := 0, authBlock := false, authResult := 0,
    authAttempts := 0, authRunning := false, authAnswered := false, keyUnusable := false, serialChanged := false, authPassAt := none,
    authSerial := 0, authMs := 0, authSent := [], qb := 0, qbRem := 0, qbHi := 0, sessions := 0, doneCount := 0, capture := none,
    socLowArmed := true, socCritArmed := true }

end Sys2Proof.Machine
end

