-- ==== Sys2Proof/Machine/StRail.lean ====
section
/-! DEFINITION. State of rail control: eight rails and twelve phase controllers (07_rail_control.md). -/

namespace Sys2Proof.Machine

/-- The rail states of Table 7-3, by STATE. -/
inductive RailState where
  | off | precheck | softstart | regulating | slewing | stopping | fault
  deriving DecidableEq, Repr

/-- STATE of Table 7-3. -/
def RailState.code : RailState → Nat
  | .off => 0 | .precheck => 1 | .softstart => 2 | .regulating => 3 | .slewing => 4 | .stopping => 5 | .fault => 6

/-- The three states of a PWM output (R314). -/
inductive Pwm where
  | high | low | tri
  deriving DecidableEq, Repr

/-- The modes of RAIL_MODE (R336). -/
inductive RailMode where
  | continuous | autoBurst | diode
  deriving DecidableEq, Repr

/-- Mode code of R336. -/
def RailMode.code : RailMode → Nat
  | .continuous => 0 | .autoBurst => 1 | .diode => 2

/-- The slew of a ramp: SS_SLEW, OFF_SLEW, or a command's, in 0.1 mV/µs of output (R328, R331, R333). -/
inductive Slew where
  | ss | off
  | cmd (v : Nat)
  deriving DecidableEq, Repr

/-- What a rail does at the end of the stop in progress. -/
inductive AfterStop where
  | stay | start
  deriving DecidableEq, Repr

/-- One rail (Table 7-11). -/
structure Rail where
  state : RailState
  pg : Bool
  mode : RailMode
  /-- Target in output mV. -/
  target : Nat
  /-- Present reference in sense volts. -/
  ref : Rat
  /-- The reference is moving towards this sense voltage, at this slew. -/
  ramp : Option (Rat × Slew)
  /-- V_pre lay above the target at the start: no pulse until the sense voltage falls to the reference (R328). -/
  preHold : Bool
  /-- CLK_REG cycles since the start's acceptance, and the wait of STG_WAKE_US that it needs because it raised STG_EN (R316, R326). -/
  preCycles : Nat
  wake : Bool
  /-- CLK_REG cycles since the reference first equalled the target (R330). -/
  sinceTarget : Nat
  /-- Consecutive CLK_REG cycles inside and outside ±PG_MV (R329), above the over-voltage limit (R343) and below the under-voltage one (R344). -/
  pgIn : Nat
  pgOut : Nat
  ovRun : Nat
  uvRun : Nat
  /-- CLK_REG cycles of the low drive after an over-voltage (R343). -/
  lowCycles : Nat
  /-- Latest sense voltage in µV. -/
  vs : Int
  /-- Pulses of continuous conduction still due after a falling ramp (R340). -/
  ccmPulses : Nat
  /-- The rail has reached its target once since its start (R328). -/
  reachedTarget : Bool
  safeActive : Bool
  /-- A start has been accepted since PD_REGC came on: ACTIVE and ILIM_EFF, Reset 0, count from then (R359). -/
  started : Bool
  ilimActive : Bool
  /-- An ILIM event has been raised for this spell (R342). -/
  ilimRaised : Bool
  /-- CLK_REG cycles since the trigger last waited for an eligible phase, and since ILIM_ACTIVE became 1 (R342). -/
  ilimCycles : Nat
  ilimHeld : Nat
  /-- CLK_REG cycles and pulses since the last update of the frequency trim, and whether its conditions have held through them (R321). -/
  trimCycles : Nat
  trimPulses : Nat
  trimOk : Bool
  /-- CLK_REG cycles since the last renewal of telemetry, and the sums of sense voltage in µV and rail current in A over them, and the pulses (R356). -/
  msCycles : Nat
  msVs : Int
  msCur : Rat
  msPulses : Nat
  burst : Bool
  asleep : Bool
  burstPulses : Nat
  /-- Rail current at each of the last 64 pulses, latest first; and the charge, in A × CLK_REG cycles, and the cycles of the burst and sleep
  under way and of the last one (R339). -/
  pulseCur : List Rat
  burstNow : Rat × Nat
  burstLast : Option (Rat × Nat)
  /-- Last phase pulsed. -/
  lastPhase : Option Nat
  iLp : Rat
  vInt : Rat
  /-- Blanking left, in s. -/
  blank : Rat
  kf : Rat
  /-- Its phases are driven low after an over-voltage (R343). -/
  ovLow : Bool
  reason : Nat
  /-- CLK_REG cycle of the entry to FAULT and the state before it (R346). -/
  faultCycle : Option Nat
  faultFrom : RailState
  faultMv : Nat
  faultPhases : Nat
  vinMv : Nat
  voutMv : Nat
  fswMeas : Nat
  iout : Int
  /-- Sum of IOUT over the renewals of the present second of PD_MP on-time, and their number (R624). -/
  secSum : Int
  secN : Nat
  sheds : BitVec 16
  ilimMs : BitVec 16
  /-- COMMIT captured and not yet applied (R18). -/
  commit : Bool
  /-- RAIL_SET_VOLTAGE waiting, with its slew. -/
  waitSet : Option Ticket
  waitOn : List Ticket
  waitOff : List Ticket
  waitMode : List (Ticket × RailMode)
  /-- A mode chosen by RAIL_MODE takes effect at the next switching cycle. -/
  modeNext : Option RailMode
  after : AfterStop
  /-- The stop or start was asked by the sequencer. -/
  bySeq : Bool
  deriving DecidableEq, Repr

def Rail.reset : Rail :=
  { state := .off, pg := false, mode := .continuous, target := 0, ref := 0, ramp := none,
    preHold := false, preCycles := 0, wake := false, sinceTarget := 0, pgIn := 0, pgOut := 0, ovRun := 0, uvRun := 0, lowCycles := 0, vs := 0,
    ccmPulses := 0, reachedTarget := false, safeActive := false, started := false, ilimActive := false, ilimRaised := false, ilimCycles := 0, ilimHeld := 0,
    trimCycles := 0, trimPulses := 0, trimOk := true, msCycles := 0, msVs := 0, msCur := 0, msPulses := 0, burst := false,
    asleep := false, burstPulses := 0, pulseCur := [], burstNow := (0, 0), burstLast := none, lastPhase := none, iLp := 0, vInt := 0, blank := 0, kf := 0, ovLow := false,
    reason := 0, faultCycle := none, faultFrom := .off, faultMv := 0, faultPhases := 0, vinMv := 0, voutMv := 0, fswMeas := 0, iout := 0, secSum := 0, secN := 0, sheds := 0,
    ilimMs := 0, commit := false, waitSet := none, waitOn := [], waitOff := [], waitMode := [], modeNext := none,
    after := .stay, bySeq := false }

/-- One phase controller (Table 7-12). -/
structure Phase where
  pwm : Pwm
  shed : Bool
  shedReason : Nat
  /-- Balance term b_p (R322). -/
  bal : Rat
  /-- Latest valley sample, A. -/
  valley : Rat
  /-- On-time of its last pulse, and time since that pulse began, s. -/
  ton : Rat
  age : Rat
  /-- V_in samples since the start (last 64), mV (R318). -/
  vin : List Nat
  openRun : Nat
  senseRun : Nat
  /-- A pulse has begun since the start. Of the switching cycle under way: the current has reached 0 A, the low side stays off until the
  next pulse (R338), a limit of R348 has been passed, and the lowest and highest current in A. -/
  pulsed : Bool
  zero : Bool
  rest : Bool
  beyond : Bool
  curMin : Rat
  curMax : Rat
  /-- Sum of its current in A and its pulses since the last renewal of telemetry (R356). -/
  msCur : Rat
  msPulses : Nat
  /-- Sum of IPH over the renewals of the present second of PD_MP on-time, and their number (R614). -/
  secSum : Int
  secN : Nat
  iPh : Int
  fswKhz : Nat
  vinMv : Nat
  deriving DecidableEq, Repr

def Phase.reset : Phase :=
  { pwm := .tri, shed := false, shedReason := 0, bal := 0, valley := 0, ton := 0, age := 1, vin := [], openRun := 0,
    senseRun := 0, pulsed := false, zero := false, rest := false, beyond := false, curMin := 0, curMax := 0, msCur := 0, msPulses := 0, secSum := 0, secN := 0, iPh := 0, fswKhz := 0, vinMv := 0 }

/-- Rail control (Table 7-10). -/
structure RailCtl where
  rails : Vector Rail 8
  phases : Vector Phase 12
  tmonWarn : Bool
  tmonShdn : Bool
  tmonLost : Bool
  cfgErr : Bool
  cfgReject : Bool
  /-- TMON temperature in 0.1 °C. -/
  temp : Int
  deriving DecidableEq, Repr

def RailCtl.reset : RailCtl :=
  { rails := Vector.replicate 8 Rail.reset, phases := Vector.replicate 12 Phase.reset, tmonWarn := false,
    tmonShdn := false, tmonLost := false, cfgErr := false, cfgReject := false, temp := 0 }

end Sys2Proof.Machine
end

