-- ==== Sys2Proof/Machine/StSeq.lean ====
section
/-! DEFINITION. State of the sequencer, WDI supervision and the Flock bus (08_sequencing_and_flock.md). -/

namespace Sys2Proof.Machine

/-- The sequencer's states (Table 8-4), by SEQ_STATUS.STATE. -/
inductive SeqState where
  | empty | down | upRunning | up | downRunning | safe
  deriving DecidableEq, Repr

/-- SEQ_STATUS.STATE. -/
def SeqState.code : SeqState → Nat
  | .empty => 0 | .down => 1 | .upRunning => 2 | .up => 3 | .downRunning => 4 | .safe => 5

/-- MSTATE of Table 8-7. -/
inductive MState where
  | unused | off | waitOn | inSlot | on | waitOff | switchingOff | offTimeout | failed
  deriving DecidableEq, Repr

/-- SEQ_MSTATE.MSTATE. -/
def MState.code : MState → Nat
  | .unused => 0 | .off => 1 | .waitOn => 2 | .inSlot => 3 | .on => 4 | .waitOff => 5 | .switchingOff => 6
  | .offTimeout => 7 | .failed => 8

/-- One member record of the sequence table (Table 8-3). -/
structure SeqRec where
  mtype : Nat
  index : Nat
  enPin : Nat
  enHigh : Bool
  enOd : Bool
  pgPin : Nat
  pgHigh : Bool
  onDelay : Nat
  offDelay : Nat
  pgDebounce : Nat
  pgDeadline : Nat
  offMv : Nat
  offTimeout : Nat
  chatterLim : Nat
  safe : Nat
  deriving DecidableEq, Repr

/-- One member while a table is loaded (R370–R375). -/
structure Member where
  cfg : SeqRec
  state : MState
  /-- Its slot is open. -/
  slot : Bool
  pgGood : Bool
  /-- When its PG last changed its level, in µs since the common start; none when that was before it (R371, log 114). -/
  pgAt : Option Nat
  chatters : Nat
  /-- 0.1 ms from the on instant to the first good PG. -/
  pgTime : Nat
  pgSeen : Bool
  /-- A fault of the member has been decided in this slot (R372). -/
  faulted : Bool
  /-- It reached on in this up sequence and is not since switched off. -/
  on : Bool
  deriving DecidableEq, Repr

/-- A SEQIO pin as the sequencer drives it (R363). -/
inductive PinDrive where
  | input | drivenLow | drivenHigh | released
  deriving DecidableEq, Repr

/-- The sequencer (Table 8-7). -/
structure Seq where
  state : SeqState
  members : Vector (Option Member) 16
  tableCrc : Word
  bootBad : Bool
  cfgReject : Bool
  retries : Nat
  failed : BitVec 16
  offTimeout : BitVec 16
  /-- A common start has been taken since chip-level reset; SEQ_CLOCK counts from it. -/
  started : Bool
  /-- The latest instant known, in µs since the common start. -/
  us : Nat
  /-- Tickets of the sequence in progress. -/
  ups : List Ticket
  downs : List Ticket
  /-- The up request held behind a down sequence (R378). -/
  held : Bool
  heldTickets : List Ticket
  viaFlock : Bool
  /-- The down sequence in progress is one of DOWN_UP, whose retry is judged at its end (R380). -/
  retryUp : Bool
  /-- A fault occurred in the present up sequence (R381). -/
  upFault : Bool
  pins : Vector PinDrive 8
  /-- Levels at the SEQIO pins. -/
  levels : BitVec 8
  /-- HOST_RST_N asserted by the sequencer as a member or while EMPTY (R362). -/
  hostRst : Bool
  /-- HOST_RST_N asserted for a WDI HOST_RESTART pulse (R384). -/
  wdiPulse : Bool
  /-- When that pulse began, in µs since the common start; none when that was before it (log 114). -/
  pulseAt : Option Nat
  wdiArmed : Bool
  /-- Counted level of WDI, and the instant in µs since the common start by which the next toggle is due. -/
  wdiLevel : Bool
  wdiDue : Option Nat
  wdiMisses : BitVec 16
  /-- AUTO_UP waits for PD_REGC (R368), or the boot table is to come up whatever AUTO_UP is (R388). -/
  autoWait : Bool
  bootUp : Bool
  deriving DecidableEq, Repr

def Seq.reset : Seq :=
  { state := .empty, members := Vector.replicate 16 none, tableCrc := 0, bootBad := false, cfgReject := false,
    retries := 0, failed := 0, offTimeout := 0, started := false, us := 0, ups := [], downs := [], held := false,
    heldTickets := [], viaFlock := false, retryUp := false, upFault := false,
    pins := Vector.replicate 8 PinDrive.input, levels := 0, hostRst := true, wdiPulse := false, pulseAt := none, wdiArmed := false,
    wdiLevel := false, wdiDue := none, wdiMisses := 0, autoWait := false, bootUp := false }

/-- What the bellwether is doing on the bus (R395, R396). -/
inductive FlockJob where
  | none | arming | up | down (upAfter : Bool)
  deriving DecidableEq, Repr

/-- The Flock bus (Table 8-7, R389–R402). -/
structure Flock where
  /-- Followers marked lost (R400). -/
  lost : BitVec 32
  up : BitVec 32
  faulted : BitVec 32
  /-- Followers armed with the present ARM_SEQ. -/
  armedBy : BitVec 32
  crcErrs : BitVec 16
  armSeq : Byte
  reqDown : Bool
  reqDownUp : Bool
  busError : Bool
  masterLost : Bool
  armed : Bool
  /-- A sequence fault since the last up start (SEQ_FAULT of R392). -/
  seqFault : Bool
  /-- Consecutive PINGs without a reply, by follower address. -/
  misses : Sparse Nat
  /-- Followers PINGed and not yet heard. -/
  pinged : BitVec 32
  job : FlockJob
  /-- FSYNC has been low since the last start and is not yet high again (R402). -/
  fsyncStuck : Bool
  /-- The device drives FSYNC low (R394). -/
  driveFsync : Bool
  /-- The latest instants known, in µs since the common start, of the last UP_ARM, PING round and valid frame; none when that was before it
  (R395, R400, R401, log 114). -/
  armAt : Option Nat
  pollAt : Option Nat
  heardAt : Option Nat
  /-- The bytes the device last sent on FDA. -/
  sent : List Byte
  deriving DecidableEq, Repr

def Flock.reset : Flock :=
  { lost := 0, up := 0, faulted := 0, armedBy := 0, crcErrs := 0, armSeq := 0, reqDown := false,
    reqDownUp := false, busError := false, masterLost := false, armed := false,
    seqFault := false, misses := [], pinged := 0, job := .none, fsyncStuck := false, driveFsync := false, armAt := some 0, pollAt := some 0, heardAt := some 0, sent := [] }

end Sys2Proof.Machine
end

