-- ==== Sys2Proof/Machine/State.lean ====
section
/-! DEFINITION. The block's whole state as plain data, the reasons a step can stop, and the state right after the
power-on reset is released (R438, Table 9-11 step 1). -/

namespace Sys2Proof.Machine

/-- Why a step stops with a fault. -/
inductive Fault where
  /-- Raised by REGISTER_WRITE at an open debug register (0xF004–0xFFFF), whose effect is specific to the stepping and
  covered by no behaviour level (R646). Safe: the model stops where the device goes on. -/
  | debugRegister
  deriving DecidableEq, Repr

/-- Why a step refuses a command. -/
inductive Refusal where
  /-- Raised by `exec` for a command without a meaning. Safe: the model stops. -/
  | notModelled (mnemonic : String)
  deriving DecidableEq, Repr

/-- The VXL9250: every block's registers, buffers, counters, modes and pins, the memories it reaches, and the commands
that wait. -/
structure State where
  /-- Commands that wait, first in, first out. -/
  pending : List Instr
  /-- The stored RW and OTP-loaded register fields. -/
  regs : RegFile
  pcie : Pcie
  glb : Glb
  qe : QueueEngine
  evr : Evr
  held : HeldEvents
  sb : Sideband
  ct : ChanTable
  lp : Links
  mc : Measure
  ox : Ox
  /-- Parking state and backup gauge, in retained SRAM (Table 6-8). -/
  park : Option ParkState
  gauge : Gauge
  rc : RailCtl
  seq : Seq
  flk : Flock
  pwr : Power
  chg : Charger
  flt : Faults
  goose0 : Goose
  goose1 : Goose
  /-- A Goose chip restart that waits for its down sequence (R388). -/
  restart : Option Restart
  ret : Retained
  otp : Otp
  nvm : Nvm
  rtc : Rtc
  mp : Mp
  /-- Host memory, MP SRAM and the QSPI flash as far as they have been written. -/
  hostMem : List Host.Cell
  mpSram : List Host.Cell
  flash : List Host.Cell
  /-- Requesters of WAKE_N (Table 1-5). -/
  wakePcie : Bool
  wakeMp : Bool
  /-- Goose 0 asserts HOST_RST_N (Table 1-5). -/
  g0Reset : Bool
  /-- The latest instant known when that pulse began, in µs since the sequencer's common start; none when a common start has come since
  (the model's own, log 114). -/
  g0ResetAt : Option Nat
  /-- Seconds since the chip-level reset, for ages (the model's own). -/
  upSeconds : Nat
  /-- Counts the free values taken (the model's own). -/
  free : Nat
  /-- What the last register read returned to its reader (the model's own output port). -/
  readData : Word
  deriving DecidableEq, Repr

/-- An unlisted host-memory or MP-SRAM address reads 0 (log 5). -/
def ramByte : Byte := 0

/-- An erased flash byte (log 5). -/
def flashByte : Byte := 0xFF

/-- The identity block after power-on: every cause cleared, then POR (R60). -/
def Glb.reset : Glb :=
  { rstCause := 1, accessErr := false, mpRunning := false, otpLoaded := false, sbRequest := 0 }

/-- The latches of PD_AON at power-on (R637). -/
def HeldEvents.reset : HeldEvents := { latches := [], merged := 0 }

/-- The supplies and domains at the release of the power-on reset: step 1 of Table 9-11, nothing qualified yet. -/
def Power.reset : Power :=
  { path := .hold, holdByOv := false, retTiming := false, retFrom := 0, vmainQual := false, vmainOv := false, vbakPresent := false,
    vrtcOk := false, vsysOk := true, saveActive := false, saveEnded := false, returns := 0, switchovers := 0, uvFlags := 0, ovFlags := 0, uvNow := 0,
    trim := 0, saveDone := false, saveIncomplete := false, bkpLost := true,
    wake := { host := false, code := 0, time := 0 }, pllRuns := false, resetLow := false, startStep := 1, doms := initDomains }

/-- The machine right after the power-on reset is released. -/
def State.reset : State :=
  { pending := [], regs := RegFile.reset, pcie := Pcie.reset, glb := Glb.reset, qe := QueueEngine.reset, evr := Evr.reset,
    held := HeldEvents.reset, sb := Sideband.reset, ct := ChanTable.reset, lp := Links.reset, mc := Measure.reset,
    ox := Ox.reset, park := none, gauge := Gauge.zero, rc := RailCtl.reset, seq := Seq.reset, flk := Flock.reset,
    pwr := Power.reset, chg := Charger.reset, flt := Faults.reset, goose0 := Goose.reset, goose1 := Goose.reset,
    restart := none, ret := Retained.zero, otp := Otp.blank, nvm := Nvm.fresh, rtc := Rtc.lost, mp := Mp.reset,
    hostMem := [], mpSram := [], flash := [], wakePcie := false, wakeMp := false, g0Reset := false, g0ResetAt := none, upSeconds := 0,
    free := 0, readData := 0 }

end Sys2Proof.Machine
end

