-- ==== Sys2Proof/Machine/Ops.lean ====
section
/-! DEFINITION. The named operations that every family shares: register fields, free values, host memory, MSI-X
messages, event routing, telemetry buffers and completions (02_host_rings.md, 15_events_and_register_index.md). -/

namespace Sys2Proof.Machine

/-! ### Register fields -/

/-- The value in force of a stored register. -/
def rd (s : State) (off : Nat) : Word := s.regs.get s.otp off

/-- A field of a stored register, in force. -/
def fld (s : State) (off lo len : Nat) : Nat := bitsOf (rd s off) lo len

/-- A one-bit field of a stored register, in force. -/
def flag (s : State) (off i : Nat) : Bool := bitOf (rd s off) i

/-- Put bits of a stored register into force. -/
def wr (s : State) (off : Nat) (w mask : Word) : State := { s with regs := s.regs.put s.otp off w mask }

/-- Put one field of a stored register into force. -/
def wrFld (s : State) (off lo len v : Nat) : State := wr s off (BitVec.ofNat 32 (v % 2 ^ len * 2 ^ lo)) (maskOf 32 lo len)

/-! ### Domains, clocks and memories -/

/-- Power domain `k` (Table 9-7 code) is on with its logic released (R24, R433, R434). -/
def domOn (s : State) (k : Nat) : Bool :=
  (vget s.pwr.doms k Domain.always).state = .on && (vget s.pwr.doms k Domain.always).logicRdy

/-- The always-on supply is in regulation, so that PD_AON and PD_SAFE run (R652, R654). -/
def powered (s : State) : Bool := domOn s 1

/-- What happens while the always-on supply is in regulation. -/
def whilePowered (s : State) (f : State → State) : State := if powered s then f s else s

/-- Power domain `k` is off. -/
def domOff (s : State) (k : Nat) : Bool := (vget s.pwr.doms k Domain.always).state = .off

/-- The domain code of link port `p`'s link group. -/
def groupDom (p : Nat) : Nat := 6 + p / 4

/-- The root-derived clocks run and no root-clock override stops them (R40, R44, R47). -/
def rootAlive (s : State) : Bool := s.pwr.pllRuns && !s.flt.rootOverride

/-- What happens while the root-derived clocks run: all of them stop together (R47). -/
def whileRooted (s : State) (f : State → State) : State := if rootAlive s then f s else s

/-- The function may master host memory (R29, R56). -/
def canMaster (s : State) : Bool :=
  domOn s 5 && s.pcie.linkUp && s.pcie.busMaster && !s.pcie.d3hot

/-- Read host memory. -/
def hostRead (s : State) (a n : Nat) : List Byte := Mem.read ramByte s.hostMem a n

/-- Bytes arrive in host memory. -/
def hostWrite (s : State) (a : Nat) (bs : List Byte) : State := { s with hostMem := Mem.write ramByte s.hostMem a bs }

/-- The device writes host memory: a posted write (R31), which waits its turn while the function may not master (R56). -/
def hostPost (s : State) (a : Nat) (bs : List Byte) : State :=
  if canMaster s && s.pcie.posted.isEmpty then hostWrite s a bs
  else { s with pcie := { s.pcie with posted := s.pcie.posted ++ [(a, bs)] } }

/-- The writes that waited go out in order once the function may master again (R56). -/
def hostKick (s : State) : State :=
  if canMaster s then forEach s.pcie.posted (fun e q => hostWrite q e.1 e.2) { s with pcie := { s.pcie with posted := [] } } else s

/-- Read MP SRAM. -/
def sramRead (s : State) (a n : Nat) : List Byte := Mem.read ramByte s.mpSram a n

/-- Write MP SRAM. -/
def sramWrite (s : State) (a : Nat) (bs : List Byte) : State := { s with mpSram := Mem.write ramByte s.mpSram a bs }

/-- What the host has stored in its memory on its own. -/
def hostStores (s : State) (w : Stores) : State := forEach w (fun e q => hostWrite q e.1 e.2) s

/-- What the MP has stored in its SRAM on its own. -/
def sramStores (s : State) (w : Stores) : State := forEach w (fun e q => sramWrite q e.1 e.2) s

/-- Count one free value as taken. -/
def takeFree (s : State) : State := { s with free := s.free + 1 }

/-- Seconds of the calendar (R72, R574). -/
def calSeconds (s : State) : Nat := s.rtc.cal.seconds

/-- The fraction of the second in 1/16,384 s, two CLK_RTC edges each (R574): the prescaler's where the command names its edge, else
free (log 2). -/
def rtcFraction (s : State) : BitVec 14 := if s.rtc.exact then BitVec.ofNat 14 (s.rtc.edge / 2) else Config.freeFraction s.free

/-- The RTC timestamp of now (R72, R574). -/
def stamp (s : State) : Stamp := BitVec.ofNat 48 (calSeconds s * 16384 + (rtcFraction s).toNat)

/-- An hour of PD_MP on-time has ended since the hour `last`. -/
def hourDue (s : State) (last : Nat) : Bool := decide (last < s.mp.onSeconds / 3600)

/-! ### Lifetime records (R623, R625) -/

/-- An entry of the event log falls due; the MP writes it within 1 s. -/
def noteLog (s : State) (type : Nat) (data : BitVec 128) : State :=
  takeFree { s with mp := { s.mp with todo := s.mp.todo ++ [.log type (stamp s) data] } }

/-- A lifetime counter is to be incremented. -/
def noteCount (s : State) (k : Nat) : State := { s with mp := { s.mp with todo := s.mp.todo ++ [.count k] } }

/-! ### MSI-X messages (R641–R643, R647) -/

/-- Send the message of a vector that falls due: dropped, kept in the PBA, or written (R643). -/
def msixSend (s : State) (v : Nat) : State :=
  if !s.pcie.msixEnable then s
  else
    let e := vget s.pcie.msix v MsixEntry.reset
    if e.masked || s.pcie.msixFuncMask || !canMaster s then
      { s with pcie := { s.pcie with pba := s.pcie.pba ||| maskOf 64 v 1 } }
    else hostWrite s e.addr.toNat (leBytes 4 e.data.toNat)

/-- Send the pending message of a vector if it may be sent now (R647). -/
def msixFlush (v : Nat) (s : State) : State :=
  let e := vget s.pcie.msix v MsixEntry.reset
  if bitOf s.pcie.pba v && s.pcie.msixEnable && !e.masked && !s.pcie.msixFuncMask && canMaster s then
    hostWrite { s with pcie := { s.pcie with pba := s.pcie.pba &&& ~~~ maskOf 64 v 1 } } e.addr.toNat (leBytes 4 e.data.toNat)
  else s

/-- Send every pending message that may be sent now, in ascending vector number (R643, R647). -/
def msixFlushAll (s : State) : State := forUpTo 64 msixFlush s

/-- The message of a vector is due: its counter returns to 0 (R641). -/
def coalSend (v : Nat) (s : State) : State :=
  msixSend { s with evr := { s.evr with coal := Sparse.del s.evr.coal v } } v

/-- One more occurrence is counted toward a vector (R641, R642). -/
def coalCount (s : State) (v : Nat) : State :=
  let c := Sparse.getD s.evr.coal v 0 + 1
  let time := fld s (0xB200 + 4 * v) 16 16
  let lim := fld s (0xB200 + 4 * v) 0 8
  if time = 0 || lim ≤ c then coalSend v s
  else { s with evr := { s.evr with coal := Sparse.set s.evr.coal v c } }

/-! ### Queue windows (Table 2-5). Windows: 0–3 SQ, 4–7 CQ, 8 EQ, 9–24 TS, 25 TSC -/

/-- BAR0 offset of a queue window. -/
def winBase (w : Nat) : Nat := if w < 9 then 0x1000 + 0x20 * w else 0x1200 + 0x20 * (w - 9)

/-- A queue window's own state. -/
def win (s : State) (w : Nat) : QWin := vget s.qe.win w QWin.reset

/-- Change a queue window's own state. -/
def setWin (s : State) (w : Nat) (q : QWin) : State := { s with qe := { s.qe with win := vput s.qe.win w q } }

/-- Q_ENABLE. -/
def winEnabled (s : State) (w : Nat) : Bool := flag s (winBase w + 8) 8

/-- Depth of the ring, 2^LOG2_DEPTH. -/
def winDepth (s : State) (w : Nat) : Nat := 2 ^ fld s (winBase w + 8) 0 4

/-- Buffer size of a stream, 2^LOG2_BUF. -/
def winBuf (s : State) (w : Nat) : Nat := 2 ^ fld s (winBase w + 8) 16 5

/-- Base address of the ring. -/
def winAddr (s : State) (w : Nat) : Nat :=
  (rd s (winBase w + 4)).toNat * 2 ^ 32 + fld s (winBase w) 12 20 * 4096

/-- `(a − b) mod depth`. -/
def ringDiff (d : Nat) (a b : BitVec 12) : Nat := (a.toNat + d - b.toNat % d) % d

/-- The next index of a ring. -/
def ringNext (d : Nat) (a : BitVec 12) : BitVec 12 := if a.toNat + 1 < d then BitVec.ofNat 12 (a.toNat + 1) else 0

/-- Commands that hold a reserved entry of CQn (R78). -/
def cqReserved (s : State) (n : Nat) : Nat :=
  countIf (fun i => i.sq = n) s.qe.inflight + countIf (fun i => i.sq = n) s.qe.cqWait

/-- Entries written and not yet consumed. -/
def ringUsed (s : State) (w : Nat) : Nat := ringDiff (winDepth s w) (win s w).tail (win s w).head

/-- Free entries of CQn that nothing reserves; one entry of a ring always stays free (R78, log 6). -/
def cqFree (s : State) (n : Nat) : Nat := winDepth s (4 + n) - 1 - ringUsed s (4 + n) - cqReserved s n

/-- Free entries of the EQ (R81, log 6). -/
def eqFree (s : State) : Nat := winDepth s 8 - 1 - ringUsed s 8

/-- Write one 16-byte entry at the ring's write index and advance it, inverting the phase at the wrap (R80). -/
def pushEntry (s : State) (w : Nat) (bs : List Byte) : State :=
  let q := win s w
  let nx := ringNext (winDepth s w) q.tail
  setWin (hostWrite s (winAddr s w + 16 * q.tail.toNat) bs) w
    { q with tail := nx, phase := if nx = 0 then !q.phase else q.phase }

/-! ### Event routing (R632–R643) -/

/-- Bit k of the mask registers (R639). -/
def evMasked (s : State) (k : Nat) : Bool := if k < 32 then flag s 0xB000 k else flag s 0xB004 (k - 32)

/-- Bytes of an event entry (Table 2-9). -/
def eventEntry (k : Nat) (phase : Bool) (ts : Stamp) (detail : DWord) : List Byte :=
  leBytes 1 (k % 64) ++ leBytes 1 (b2n phase) ++ leBytes 6 ts.toNat ++ leBytes 8 detail.toNat

/-- The routing conditions of R636; routing runs on CLK_CORE, which a stop of the root clocks stops (R47). -/
def routingCond (s : State) : Bool :=
  domOn s 4 && rootAlive s && canMaster s && s.evr.open_ && (s.qe.running || s.evr.ranSinceOpen)

/-- A masked occurrence: pending, or merged (R639). -/
def evPend (s : State) (k : Nat) (o : Occ) : State :=
  let had := (Sparse.get? s.evr.pend k).isSome
  { s with evr := { s.evr with pend := Sparse.set s.evr.pend k o, merged := if had then satInc s.evr.merged else s.evr.merged } }

/-- Record a routed occurrence for EVR_LAST_LO, EVR_LAST_HI and EVR_LAST_CNT (R632, R644). -/
def evRecord (s : State) (k : Nat) (detail : DWord) : State :=
  let c := (Sparse.getD s.evr.last k { detail := 0, count := 0 }).count
  { s with evr := { s.evr with last := Sparse.set s.evr.last k { detail := detail, count := satInc c } } }

/-- The MSI-X part of a routed occurrence (R632). -/
def evMsix (s : State) (k : Nat) : State :=
  if flag s (0xB100 + 4 * k) 8 then coalCount s (fld s (0xB100 + 4 * k) 0 6) else s

/-- Route an occurrence of EV4, whose EQ entry R81 alone has written (R633). -/
def routeEv4 (s : State) (o : Occ) : State :=
  if evMasked s 4 then evPend s 4 o else evMsix (evRecord s 4 o.detail) 4

/-- Write the EQ entry of an occurrence: the last free entry becomes an EV4 entry, and with none free the event is
discarded and counted (R81). The event that the EV4 entry displaces is not counted in DISCARDS: R81 counts those discarded after it
(DESIGN CHOICE, log 103). While the queue engine is stopped nothing is written or counted (R66, R635). -/
def eqPost (s : State) (k : Nat) (o : Occ) : State :=
  if !s.qe.running || !winEnabled s 8 then s
  else if eqFree s = 0 then setWin s 8 { win s 8 with discards := satInc (win s 8).discards }
  else if eqFree s = 1 then
    let e : Occ := { ts := stamp s, detail := BitVec.ofNat 64 (k % 64) }
    routeEv4 (takeFree (pushEntry s 8 (eventEntry 4 (win s 8).phase e.ts e.detail))) e
  else pushEntry s 8 (eventEntry k (win s 8).phase o.ts o.detail)

/-- Route one occurrence under the mask and the route register in force (R632–R635, R639). -/
def evRoute (s : State) (k : Nat) (o : Occ) : State :=
  if evMasked s k then evPend s k o
  else
    let s1 := evRecord s k o.detail
    let s2 := if flag s (0xB100 + 4 * k) 9 && k != 4 then eqPost s1 k o else s1
    evMsix s2 k

/-- Hold an occurrence while routing does not run (R637). -/
def evHold (s : State) (k : Nat) (o : Occ) : State :=
  let had := (Sparse.get? s.held.latches k).isSome
  { s with held := { latches := Sparse.set s.held.latches k o, merged := if had then satInc s.held.merged else s.held.merged } }

/-- Deliver the held latches in ascending event number (R638). -/
def evDeliver (s : State) : State :=
  forEach s.held.latches (fun e q => evRoute q e.1 e.2) { s with held := { s.held with latches := [] } }

/-- EV49 of a chip restart that Goose made is raised when routing next runs, among the held events (R518, R638). -/
def evGooseLast (s : State) : State :=
  if s.ret.lastPending then
    let s1 := takeFree { s with ret := { s.ret with lastPending := false } }
    evHold s1 49 { ts := stamp s, detail := s.ret.lastDetail }
  else s

/-- Look at the routing conditions again: a start of routing sends kept counters and delivers held events (R636, R638,
R641). -/
def evUpdate (s : State) : State :=
  let seen := s.evr.ranSinceOpen || (s.evr.open_ && s.qe.running)
  let s1 := { s with evr := { s.evr with ranSinceOpen := seen } }
  let now := routingCond s1
  if now && !s1.evr.routing then
    let s2 := { s1 with evr := { s1.evr with routing := true, resume := false } }
    let s3 := if s1.evr.resume then forEach (s2.evr.coal.map Prod.fst) coalSend s2 else s2
    evDeliver (evGooseLast s3)
  else { s1 with evr := { s1.evr with routing := now } }

/-- An occurrence at a known time (R630): routed, or held in PD_AON while routing does not run or its clock stands still (R47, R637). -/
def occur (s : State) (k : Nat) (o : Occ) : State := if s.evr.routing && rootAlive s then evRoute s k o else evHold s k o

/-- Raise event `k` now with a detail word (R630, R72). -/
def raise (s : State) (k : Nat) (detail : DWord) : State := occur (takeFree s) k { ts := stamp s, detail := detail }

/-- The mask bit of a pending event takes the value 0 (R640). -/
def evUnmask (k : Nat) (s : State) : State :=
  match Sparse.get? s.evr.pend k with
  | none => s
  | some o =>
    if evMasked s k then s
    else
      let s1 := { s with evr := { s.evr with pend := Sparse.del s.evr.pend k } }
      if s1.evr.routing then evRoute s1 k o
      else
        match Sparse.get? s1.held.latches k with
        | none => { s1 with held := { s1.held with latches := Sparse.set s1.held.latches k o } }
        | some h => { s1 with held := { latches := Sparse.set s1.held.latches k (if o.ts < h.ts then h else o),
                                        merged := satInc s1.held.merged } }

/-! ### Telemetry buffers (R73, R74, R245). Stream 0–15 is TS0–TS15, 16 is TSC -/

/-- A stream's own state. -/
def strm (s : State) (m : Nat) : Stream := vget s.qe.streams m Stream.reset

/-- Change a stream's own state. -/
def setStrm (s : State) (m : Nat) (t : Stream) : State := { s with qe := { s.qe with streams := vput s.qe.streams m t } }

/-- Buffers the device holds (R76). -/
def tsHeld (s : State) (m : Nat) : Nat := ringDiff (winDepth s (9 + m)) (win s (9 + m)).tail (win s (9 + m)).head

/-- Free buffers: those held that are not being filled (log 7). -/
def tsFree (s : State) (m : Nat) : Nat := tsHeld s m - b2n (strm s m).openBuf.isSome

/-- Records of a stream are discarded and counted (R29, R243). -/
def tsDiscard (s : State) (m k : Nat) : State :=
  let w := win s (9 + m)
  setStrm (setWin s (9 + m) { w with discards := satAdd w.discards k }) m { strm s m with loss := true }

/-- The 32-byte header of Table 2-10. -/
def tsHeader (phase : Bool) (m used records seq : Nat) (first : Stamp) (loss flushed : Bool) : List Byte :=
  leBytes 1 (b2n phase) ++ leBytes 1 m ++ zeroBytes 2 ++ leBytes 4 used ++ leBytes 4 records ++ leBytes 4 seq ++
    leBytes 6 first.toNat ++ leBytes 1 (b2n loss + 2 * b2n flushed) ++ zeroBytes 9

/-- Address of the buffer being filled or filled next. -/
def tsAddr (s : State) (m : Nat) : Nat := winAddr s (9 + m) + winBuf s (9 + m) * (win s (9 + m)).head.toNat

/-- A node capture record reserved in these bytes is not yet written (R261). -/
def capOwes (s : State) (a n : Nat) : Bool :=
  s.mc.captures.any fun c => c.nodes.any fun k =>
    match k.place with
    | some p => decide (a ≤ p) && decide (p < a + n) && !k.done
    | none => false

/-- Write a buffer's header, after every record; the stream's message follows (R74, R83, R642). -/
def tsFinish (m : Nat) (l : LateBuf) (s : State) : State :=
  let w := 9 + m
  let s1 := hostPost s l.addr (tsHeader l.phase m l.buf.used l.buf.records l.seq.toNat l.buf.firstTs l.buf.lossBefore l.flushed)
  if flag s (winBase w + 0xC) 8 then coalCount s1 (fld s (winBase w + 0xC) 0 6) else s1

/-- Close the open buffer of a stream (R74); a TSC buffer with records still to be written closes later (R261). -/
def tsClose (flushed : Bool) (m : Nat) (s : State) : State :=
  match (strm s m).openBuf with
  | none => s
  | some b =>
    let w := 9 + m
    let q := win s w
    let t := strm s m
    let l : LateBuf := { addr := tsAddr s m, phase := q.phase, seq := t.seq, buf := b, flushed := flushed }
    let nx := ringNext (winDepth s w) q.head
    let s1 := setWin s w { q with head := nx, phase := if nx = 0 then !q.phase else q.phase }
    let s2 := setStrm s1 m { t with openBuf := none, seq := t.seq + 1 }
    if m = 16 && capOwes s l.addr (winBuf s w) then setStrm s2 m { strm s2 m with late := t.late ++ [l] } else tsFinish m l s2

/-- Close the filled TSC buffers in which every record is now written (R261). -/
def tsLate (s : State) : State :=
  let t := strm s 16
  let due := t.late.filter fun l => !capOwes s l.addr (winBuf s 25)
  forEach due (tsFinish 16) (setStrm s 16 { t with late := t.late.filter fun l => capOwes s l.addr (winBuf s 25) })

/-- The spaces reserved for capture records not yet written are given up. -/
def capGiveUp (s : State) : State :=
  { s with mc := { s.mc with captures := s.mc.captures.map fun c => { c with nodes := c.nodes.map fun k => if k.done then k else { k with place := none } } } }

/-- Close every open buffer as the engine stops (R66); what is missing of reserved records is not written (log 45). -/
def tsStop (s : State) : State := tsLate (forUpTo 17 (tsClose false) (capGiveUp s))

/-- A record of `n` bytes may be placed now: streams run, host memory is reachable and the buffer is large enough. While the engine
drains (RUN 0, RUNNING still 1) no record is taken any more: a record that arrives then is discarded and counted (DESIGN CHOICE, log
104; R66 closes the open buffers and says nothing of records that arrive). -/
def tsMay (s : State) (m n : Nat) : Bool :=
  s.qe.running && !s.qe.stopping && canMaster s && domOn s 4 && winEnabled s (9 + m) && 32 + n ≤ winBuf s (9 + m)

/-- Open the next buffer of a stream, and raise EV31 when the free buffers fall to LOWWATER (R245). -/
def tsOpen (s : State) (m : Nat) (ts : Stamp) : State :=
  let t := strm s m
  let s1 := setStrm s m { t with openBuf := some { used := 32, records := 0, firstTs := ts, lossBefore := t.loss }, loss := false }
  if tsFree s1 m = fld s (winBase (9 + m) + 0x18) 0 12 then
    raise s1 31 (pack 64 [(0, 5, m), (16, 12, tsFree s1 m)])
  else s1

/-- Reserve room for a record of `n` bytes: the state and the record's host address, or none where it must be discarded
(R73, R74). A full buffer is closed first. -/
def tsReserve (s : State) (m n : Nat) (ts : Stamp) : State × Option Nat :=
  if !tsMay s m n then (s, none)
  else
    let s1 := match (strm s m).openBuf with
      | some b => if b.used + n ≤ winBuf s (9 + m) then s else tsClose false m s
      | none => s
    let s2 := if (strm s1 m).openBuf.isNone && tsHeld s1 m ≠ 0 then tsOpen s1 m ts else s1
    match (strm s2 m).openBuf with
    | none => (s2, none)
    | some b =>
      (setStrm s2 m { strm s2 m with openBuf := some { b with used := b.used + n, records := b.records + 1 } },
       some (tsAddr s2 m + b.used))

/-- Write a record to a stream, or discard and count it (R29, R73). -/
def tsRecord (s : State) (m : Nat) (ts : Stamp) (bs : List Byte) : State :=
  match tsReserve s m bs.length ts with
  | (s1, some a) => hostPost s1 a bs
  | (s1, none) => tsDiscard s1 m 1

/-! ### Completions (R71, R78, R82, R86, R91) -/

/-- Status codes of Table 2-13. -/
def stSuccess : Nat := 0x00
def stInvalidOpcode : Nat := 0x01
def stInvalidField : Nat := 0x02
def stAlignment : Nat := 0x03
def stAccessDenied : Nat := 0x04
def stNotPowered : Nat := 0x05
def stFaultState : Nat := 0x06
def stRange : Nat := 0x07
def stNotPresent : Nat := 0x08
def stRefused : Nat := 0x09
def stOverridden : Nat := 0x0A
def stLimit : Nat := 0x0B
def stHostAccess : Nat := 0x0C
def stCrcError : Nat := 0x0D
def stSignature : Nat := 0x0E
def stAuthFailed : Nat := 0x0F
def stStale : Nat := 0x10
def stTimeout : Nat := 0x11
def stDeclined : Nat := 0x12
def stSuperseded : Nat := 0x13
def stAborted : Nat := 0x14
def stDeviceError : Nat := 0x15

/-- RESULT is 0 unless STATUS is SUCCESS or SUPERSEDED (Table 2-8). -/
def resultOf (status : Nat) (r : DWord) : DWord := if status = stSuccess || status = stSuperseded then r else 0

/-- Bytes of a completion entry (Table 2-8). -/
def cqEntry (tag status : Nat) (phase : Bool) (head opcode : Nat) (r : DWord) : List Byte :=
  leBytes 2 tag ++ leBytes 1 status ++ leBytes 1 (b2n phase) ++ leBytes 2 head ++ leBytes 1 opcode ++ leBytes 1 0 ++
    leBytes 8 r.toNat

/-- Write a completion entry to CQn and raise EVn (R71, R80, R83; Table 15-2). -/
def cqWrite (s : State) (n : Nat) (tag status opcode : Nat) (r : DWord) : State :=
  let q := win s (4 + n)
  let e := cqEntry tag status q.phase (win s n).head.toNat opcode (resultOf status r)
  raise (pushEntry s (4 + n) e) n (pack 64 [(0, 12, q.tail.toNat), (16, 8, status), (24, 8, opcode), (32, 16, tag)])

/-- Write a waiting completion. -/
def cqPost (s : State) (c : CqWait) : State := cqWrite s c.sq c.tag.toNat c.status c.opcode c.result

/-- Post every waiting completion in order, once host memory may be written (R56, R82). -/
def cqKick (s : State) : State :=
  if canMaster s && domOn s 4 && rootAlive s then forEach s.qe.cqWait (fun c q => cqPost q c) { s with qe := { s.qe with cqWait := [] } }
  else s

/-- RUN was written to 0: once every command has its completion, the open buffers are closed, and RUNNING becomes 0 when what was
still to be written has gone out (R56, R66). -/
def qeDrain (s : State) : State :=
  if s.qe.stopping && s.qe.inflight.isEmpty && s.qe.cqWait.isEmpty then
    let s1 := tsStop s
    if !s1.pcie.posted.isEmpty then s1 else
    evUpdate { s1 with qe := { s1.qe with running := false, stopping := false, win := s1.qe.win.map fun w => { w with recorded := false } } }
  else s

/-- The opcodes of Table 2-12. -/
def knownOpcodes : List Nat :=
  [0x00, 0x01, 0x02, 0x10, 0x11, 0x12, 0x13, 0x14, 0x15, 0x20, 0x21, 0x22, 0x28, 0x29, 0x30, 0x31, 0x40, 0x41, 0x42, 0x48,
   0x49, 0x4A, 0x50, 0x51, 0x60, 0x61, 0x68, 0x69, 0x6A, 0x6B, 0x70, 0x71, 0x72, 0x73, 0x78, 0x80, 0x81, 0x82, 0x88, 0x89]

/-- A fetched descriptor may be dispatched: every earlier one of its SQ has been, and with FENCE has completed (Table 2-7,
R82). -/
def mayDispatch : List InFlight → InFlight → Bool
  | [], _ => false
  | i :: t, r =>
    if i.id = r.id then true
    else if i.sq = r.sq && (!i.dispatched || bitOf r.desc 8) then false
    else mayDispatch t r

/-- A fetched descriptor may be dispatched in the present state: with FENCE, the completions of its SQ that wait for host memory are
not yet posted and hold it back too (R56, R66, Table 2-7). -/
def dispatchable (s : State) (r : InFlight) : Bool :=
  mayDispatch s.qe.inflight r && !(bitOf r.desc 8 && s.qe.cqWait.any fun c => c.sq = r.sq)

/-- Finish a host command: its record leaves the list and its completion is posted or waits (R82); a QUIET one with SUCCESS releases its
reservation there and then (R78). A command whose record R92 has discarded posts nothing. -/
def finishHost (s : State) (id sq opcode : Nat) (tag : BitVec 16) (quiet : Bool) (status : Nat) (r : DWord) : State :=
  if s.qe.inflight.any (fun i => i.id = id) then
    let c : CqWait := { id := id, sq := sq, opcode := opcode, tag := tag, status := status, result := r }
    cqKick { s with qe := { s.qe with inflight := s.qe.inflight.filter (fun i => i.id ≠ id),
                                      cqWait := if quiet && status = stSuccess then s.qe.cqWait else s.qe.cqWait ++ [c] } }
  else s

/-- A fetched descriptor with an opcode that Table 2-12 does not list completes with INVALID_OPCODE in its turn (R85). -/
def dropUnknown (s : State) : State :=
  match s.qe.inflight.find? (fun i => !i.dispatched && !knownOpcodes.contains i.opcode && dispatchable s i) with
  | none => s
  | some i => finishHost s i.id i.sq i.opcode (i.desc.extractLsb' 16 16) (bitOf i.desc 9) stInvalidOpcode 0

/-- Complete every unknown descriptor whose turn has come. -/
def dropUnknowns : Nat → State → State
  | 0, s => s
  | k + 1, s => dropUnknowns k (dropUnknown s)

/-- What follows a completion in the queue engine: unknown opcodes whose turn has come, and the end of a stop. -/
def qeSettle (s : State) : State := qeDrain (dropUnknowns s.qe.inflight.length s)

/-- Complete a command (R70, R78, R86). Under the root-clock override what the queue engine or the MP holds stays unfinished (R40). -/
def complete (s : State) (t : Ticket) (status : Nat) (r : DWord) : State :=
  if s.flt.rootOverride then s else
  match t with
  | .host id sq op tag quiet => qeSettle (finishHost s id sq op tag quiet status r)
  | .mp op tag quiet =>
    if quiet && status = stSuccess then s
    else { s with mp := { s.mp with completions := s.mp.completions ++
      [{ tag := tag, opcode := op, status := status, result := resultOf status r }] } }

/-- Complete several commands alike. -/
def completeAll (s : State) (ts : List Ticket) (status : Nat) (r : DWord) : State :=
  forEach ts (fun t q => complete q t status r) s

/-! ### Fault lines (R43, R488) -/

/-- Assert error line `k` with the detail its source captures at the latch; a line already asserted keeps its first
detail (R43). -/
def assertLine (s : State) (k : Nat) (detail : Word) : State :=
  if (Sparse.get? s.flt.lines k).isSome then s
  else { s with flt := { s.flt with lines := Sparse.set s.flt.lines k detail } }

/-- The switchable domain that drives error line `k` (Tables 1-3 and 11-1): PD_CORE or PD_MP for the memories it names, PD_MP for the OTP
load and the MP itself, PD_REGC, PD_CHG, and the link group of the node that a check names or that streams the pack current. The count of
R205 runs over all groups, in PD_SAFE (log 119). -/
def lineDomain (s : State) (k : Nat) (detail : Word) : Option Nat :=
  if k = 5 then (match bitsOf detail 0 4 with | 1 => some 4 | 4 => some 4 | 2 => some 3 | _ => none)
  else if 9 ≤ k && k ≤ 14 then some 10
  else if k = 15 then some 11
  else if k = 6 || k = 21 then some 3
  else if (18 ≤ k && k ≤ 20) || k = 23 then some (6 + bitsOf detail 0 9 / 128)
  else if k = 24 then some (6 + fld s 0x301C 0 9 / 128)
  else none

/-- Line `k` can be read: while its domain is in retention or off it reads inactive (R24). -/
def lineReads (s : State) (k : Nat) (detail : Word) : Bool :=
  match lineDomain s k detail with | some d => domOn s d | none => true

/-- The lines of a domain that goes off are lost with it (R24, R43). -/
def linesLost (s : State) (dom : Nat) : State :=
  { s with flt := { s.flt with lines := s.flt.lines.filter fun e => lineDomain s e.1 e.2 ≠ some dom } }

/-- A line whose condition persists until told otherwise (R490). -/
def holdLine (s : State) (k : Nat) (detail : Word) : State :=
  let s1 := assertLine s k detail
  { s1 with flt := { s1.flt with active := s1.flt.active ||| maskOf 32 k 1 } }

/-- Error line `k` is asserted: held under R43, or because its condition persists. -/
def lineUp (s : State) (k : Nat) : Bool := (Sparse.get? s.flt.lines k).isSome || bitOf s.flt.active k

/-- The condition of a persisting line has ended. -/
def endLine (s : State) (k : Nat) : State :=
  { s with flt := { s.flt with active := s.flt.active &&& ~~~ maskOf 32 k 1 } }

/-! ### Submitting a command (R34, R67–R70, R91) -/

/-- What Table 2-12 says of an opcode: the descriptor bits it uses, the alignment of ADDR (0: not used), the MP column and
the domain of the executing block (none: always on, or judged by the command itself). -/
structure OpSpec where
  opcode : Nat
  target : Word
  align : Nat
  ops : BitVec 384
  mpOk : Bool
  dom : Option Nat
  /-- Refused in the fault state (R90). -/
  fsRefused : Bool
  /-- TARGET may also be 0xFFFF_FFFF, for all. -/
  all : Bool := false
  deriving DecidableEq, Repr

/-- The 64 descriptor bytes of a command (Table 2-7). -/
def descBits (op : Nat) (d : Desc) : BitVec 512 :=
  d.ops.setWidth 512 <<< 128 ||| d.addr.setWidth 512 <<< 64 ||| d.target.setWidth 512 <<< 32 ||| d.tag.setWidth 512 <<< 16 |||
    d.rsv.setWidth 512 <<< 10 ||| BitVec.ofNat 512 (b2n d.quiet * 512 + b2n d.fence * 256 + op)

/-- The operand field of `len` bits from bit `lo` of descriptor byte `byte`. -/
def opn (d : Desc) (byte lo len : Nat) : Nat := bitsOf d.ops (8 * (byte - 16) + lo) len

/-- The common checks of R91 in order, from INVALID_FIELD on. -/
def commonCheck (s : State) (sp : OpSpec) (rq : Requester) (d : Desc) : Option Nat :=
  let isMp := match rq with | .mp _ => true | .host _ => false
  if d.rsv ≠ 0 || (d.target &&& ~~~ sp.target ≠ 0 && !(sp.all && d.target = 0xFFFFFFFF)) || d.ops &&& ~~~ sp.ops ≠ 0 || (sp.align = 0 && d.addr ≠ 0) then some stInvalidField
  else if sp.align ≠ 0 && d.addr.toNat % sp.align ≠ 0 then some stAlignment
  else if isMp && !sp.mpOk then some stAccessDenied
  else match sp.dom with
    | some k => if domOn s k then (if sp.fsRefused && s.flt.faultState then some stFaultState else none) else some stNotPowered
    | none => if sp.fsRefused && s.flt.faultState then some stFaultState else none

/-- The queue engine can take a command from SQn: it runs, both queues are enabled and host memory is reachable. -/
def sqRuns (s : State) (n : Nat) : Bool :=
  domOn s 4 && rootAlive s && s.qe.running && canMaster s && winEnabled s n && winEnabled s (4 + n)

/-- SQn holds a descriptor that may be fetched now (R78, R82, R84). -/
def sqReady (s : State) (n : Nat) : Bool :=
  winEnabled s n && winEnabled s (4 + n) && !(win s n).halted && (win s n).head ≠ (win s n).tail && 0 < cqFree s n

/-- The SQ to be fetched from next: one descriptor from each in turn, empty SQs skipped (R82). -/
def nextSq (s : State) : Option Nat :=
  [s.qe.lastSq + 1, s.qe.lastSq + 2, s.qe.lastSq + 3, s.qe.lastSq + 4].map (· % 4) |>.find? (sqReady s)

/-- The host has put a descriptor at the tail of SQn and rung its doorbell (R75, R79). -/
def sqPut (s : State) (n : Nat) : State :=
  setWin s n { win s n with tail := ringNext (winDepth s n) (win s n).tail }

/-- A command arrives at its executing block: the ticket it completes to, or none where it cannot arrive now (log 8). A
host command is dispatched from the in-flight list. One never fetched is put into its SQ by this row, and fetched and dispatched at
once: its SQ must be empty, so that it stands at the SQ's head, and it must be that SQ's turn (R82). -/
def arrive (s : State) (op : Nat) (rq : Requester) (d : Desc) : Option (State × Ticket) :=
  match rq with
  | .mp w =>
    if domOn s 3 && rootAlive s && s.glb.mpRunning then some (sramStores s w, .mp op d.tag d.quiet) else none
  | .host n =>
    if !(domOn s 4 && rootAlive s && s.qe.running) then none
    else match s.qe.inflight.find? (fun i => i.sq = n.val && !i.dispatched && i.desc = descBits op d) with
    | some i =>
      if dispatchable s i then
        some ({ s with qe := { s.qe with inflight := s.qe.inflight.map fun j => if j.id = i.id then { j with dispatched := true } else j } },
              .host i.id n.val op d.tag d.quiet)
      else none
    | none =>
      let outstanding := s.qe.inflight.any (fun i => i.sq = n.val && (!i.dispatched || d.fence)) ||
        (d.fence && s.qe.cqWait.any fun c => c.sq = n.val)
      let s0 := sqPut s n.val
      if !sqRuns s n.val || s.qe.stopping || (win s n.val).head ≠ (win s n.val).tail || nextSq s0 ≠ some n.val || outstanding then none
      else
        let s1 := setWin s0 n.val { win s0 n.val with head := (win s0 n.val).tail }
        some ({ s1 with qe := { s1.qe with
                  lastSq := n.val
                  inflight := s1.qe.inflight ++ [{ id := s1.qe.nextId, sq := n.val, opcode := op, desc := descBits op d, dispatched := true }],
                  nextId := s1.qe.nextId + 1 } },
              .host s.qe.nextId n.val op d.tag d.quiet)

/-- Whether the requester is the MP. -/
def reqIsMp : Requester → Bool
  | .mp _ => true
  | .host _ => false

/-- The command needs host memory, which the function may not master now, so that it waits (R56). -/
def hostWaits (s : State) (sp : OpSpec) (rq : Requester) : Bool := sp.align ≠ 0 && !reqIsMp rq && !canMaster s

/-- A command arrives; a common check that fails completes it, and else its block acts on it with the ticket. A command that needs host
memory stays where it is while the function may not master. -/
def command (sp : OpSpec) (rq : Requester) (d : Desc) (act : State → Ticket → State) (s : State) : State :=
  match arrive s sp.opcode rq d with
  | none => s
  | some (s1, t) =>
    match commonCheck s1 sp rq d with
    | some st => complete s1 t st 0
    | none => if hostWaits s1 sp rq then s else act s1 t

/-- Data a command reads at its ADDR: host memory, or MP SRAM for the MP (R70). -/
def cmdRead (s : State) (rq : Requester) (a n : Nat) : List Byte :=
  if reqIsMp rq then sramRead s a n else hostRead s a n

/-- Data a command writes at its ADDR (R32, R70). -/
def cmdWrite (s : State) (rq : Requester) (a : Nat) (bs : List Byte) : State :=
  if reqIsMp rq then sramWrite s a bs else hostPost s a bs

end Sys2Proof.Machine
end

