-- ==== Sys2Proof/Machine/HostOps.lean ====
section
/-! DEFINITION. Operations of the host interface: the resets of the queue state, the start and stop of the queue
engine, descriptor fetches, doorbells, the routing masks and the paths of register access (02_host_rings.md,
15_events_and_register_index.md). -/

namespace Sys2Proof.Machine

/-- Set a cause in GLB_RST_CAUSE, leaving the others (R60). -/
def setCause (s : State) (b : Nat) : State :=
  { s with glb := { s.glb with rstCause := s.glb.rstCause ||| maskOf 10 b 1 } }

/-- OPEN takes the value 0 or 1; RUNNING counts only from the change (R636). -/
def setOpen (s : State) (v : Bool) : State :=
  if v && !s.evr.open_ then evUpdate { s with evr := { s.evr with open_ := true, ranSinceOpen := false } }
  else evUpdate { s with evr := { s.evr with open_ := v } }

/-- Records of the buffers of a stream that are not yet closed. -/
def openRecords (s : State) (m : Nat) : Nat :=
  (match (strm s m).openBuf with
  | some b => b.records
  | none => 0) + ((strm s m).late.map fun l => l.buf.records).foldl (· + ·) 0

/-- The windows of Table 2-5 at their reset values, the records of abandoned buffers counted as discarded (R92). -/
def queueWindowsReset (s : State) : Vector QWin 26 :=
  Vector.ofFn fun (w : Fin 26) =>
    if 9 ≤ w.val then { QWin.reset with discards := satAdd 0 (openRecords s (w.val - 9)) } else QWin.reset

/-- The queue state after an event of R92: registers at reset, fetched and dispatched commands forgotten (their
completions are discarded), open buffers abandoned. -/
def queueStateReset (s : State) : State :=
  { capGiveUp s with
    regs := s.regs.drop (fun off => 0x1000 ≤ off && off < 0x2000)
    qe := { QueueEngine.reset with
            win := queueWindowsReset s
            streams := Vector.ofFn fun (m : Fin 17) => { Stream.reset with loss := openRecords s m.val ≠ 0 }
            nextId := s.qe.nextId }
    ct := { s.ct with hold := s.ct.hold || !domOff s 4 }
    ox := { s.ox with paused := s.ox.paused || s.ox.active }
    evr := { s.evr with open_ := false, ranSinceOpen := false } }

/-- R92: PD_PCIE's function and the queue state take their reset values. -/
def pcieReset (s : State) (cause : Nat) : State :=
  evUpdate (queueStateReset { setCause s cause with pcie := s.pcie.resetFunction })

/-- Link training starts when PD_PCIE is on, PERST_N is released and the reference clock is present (R51, R685). -/
def startTraining (s : State) : State :=
  if domOn s 5 && !s.pcie.perst && s.pcie.refclk && !s.pcie.linkUp then { s with pcie := { s.pcie with training := true } } else s

/-- The link goes down. -/
def dropLink (s : State) : State := { s with pcie := { s.pcie with linkUp := false, training := false } }

/-- A host access reaches the device's registers (R56, R444). -/
def hostReach (s : State) : Bool := domOn s 5 && s.pcie.linkUp && !s.pcie.d3hot && s.glb.otpLoaded

/-- The sideband port cannot act: its clock is stopped by the override, or the device is unpowered (R40, R654). -/
def sbDead (s : State) : Bool := s.flt.rootOverride || !powered s

/-- A register access of a path reaches the device now (R40, R45). -/
def viaReach (s : State) (v : Via) : Bool :=
  match v with
  | .host => hostReach s
  | .sideband => powered s && !s.flt.rootOverride
  | .mp => domOn s 3 && rootAlive s && s.glb.mpRunning

/-- Every enabled queue has legal sizes (R64). -/
def qeStartOk (s : State) : Bool :=
  (List.range 26).all fun w =>
    !winEnabled s w ||
      (4 ≤ fld s (winBase w + 8) 0 4 && fld s (winBase w + 8) 0 4 ≤ 12 &&
        (w < 9 || (12 ≤ fld s (winBase w + 8) 16 5 && fld s (winBase w + 8) 16 5 ≤ 21)))

/-- A window whose head a doorbell gives: CQ or EQ. -/
def headWin (w : Nat) : Bool := 4 ≤ w && w < 9

/-- A window at a start: index 0, phase 1, the recorded doorbell checked, on a queue that is not enabled too (R65, R76, R77). -/
def winStart (s : State) (w : Nat) : QWin :=
  let q := win s w
  if !winEnabled s w then
    (if !q.recorded then q
     else if headWin w then { q with head := q.before, doorbellErr := true } else { q with tail := q.before, doorbellErr := true })
  else
    let keep := q.recorded && q.tail.toNat < winDepth s w
    if w < 4 ∨ 9 ≤ w then
      { q with head := 0, tail := if keep then q.tail else 0, phase := true, halted := false,
               doorbellErr := q.doorbellErr || (q.recorded && !keep) }
    else
      { q with head := 0, tail := 0, phase := true, doorbellErr := q.doorbellErr || (q.recorded && q.head ≠ 0) }

/-- RUN = 1: the queue engine starts when its configuration is valid (R64, R65, R77, R638). A stream's buffer sequence number goes on
through a stop and a start (DESIGN CHOICE, log 105): R65 lists what a start sets and Table 2-10 counts SEQ per buffer. -/
def qeStart (s : State) : State :=
  if s.qe.running then { s with qe := { s.qe with stopping := false } }
  else if !qeStartOk s then { s with qe := { s.qe with startErr := true } }
  else
    evUpdate { s with qe := { s.qe with
      win := Vector.ofFn fun (w : Fin 26) => winStart s w.val
      streams := s.qe.streams.map fun t => { t with openBuf := none, late := [] }
      running := true, stopping := false, lastSq := 3 } }

/-- RUN = 0: fetching stops and the engine drains (R66). -/
def qeStop (s : State) : State :=
  if s.qe.running then qeSettle { s with qe := { s.qe with stopping := true } } else s

/-- A write to QE_CTRL (Table 2-6). While PERST_N is asserted the queue engine is held in reset (R96). -/
def qeCtrlWrite (s : State) (w : Word) : State :=
  if s.pcie.perst then s else
  let s1 := wr s 0x1800 w 0x1
  if bitOf w 0 then qeStart s1 else qeStop s1

/-- Fetch one descriptor (R78, R82, R84). A failed read halts the SQ and posts HOST_ACCESS with TAG 0xFFFF; its OPCODE byte
is a free value, no descriptor having been read (log 9). -/
def fetchDescriptor (s : State) (fails : Bool) : State :=
  if !(domOn s 4 && rootAlive s && s.qe.running && !s.qe.stopping && canMaster s) then s
  else match nextSq s with
  | none => s
  | some n =>
    let q := win s n
    let s0 := { s with qe := { s.qe with lastSq := n } }
    if fails then
      let s1 := setWin s0 n { q with fetchErr := true, halted := true }
      let s2 := { s1 with qe := { s1.qe with hostAccessErr := true } }
      cqWrite (takeFree s2) n 0xFFFF stHostAccess (Config.freeByte s.free).toNat 0
    else
      let bytes := hostRead s (winAddr s n + 64 * q.head.toNat) 64
      let desc : BitVec 512 := BitVec.ofNat 512 (leNat bytes)
      let s1 := setWin s0 n { q with head := ringNext (winDepth s n) q.head }
      qeSettle { s1 with qe := { s1.qe with
        inflight := s1.qe.inflight ++ [{ id := s1.qe.nextId, sq := n, opcode := bitsOf desc 0 8, desc := desc, dispatched := false }]
        nextId := s1.qe.nextId + 1 } }

/-! ### Doorbells (R75–R77). A refused value keeps the previous one and sets DOORBELL_ERR -/

/-- Refuse a doorbell. -/
def refuseDoorbell (s : State) (w : Nat) : State := setWin s w { win s w with doorbellErr := true }

/-- A doorbell write reaches the queue engine (R75). -/
def doorbellReach (s : State) : Bool := hostReach s && domOn s 4 && rootAlive s

/-- A doorbell written while the queue engine is stopped is recorded, to be checked at the start (R77). The index is 12 bits wide (R75):
a longer value is none, and is refused (log 15). -/
def recordDoorbell (s : State) (w : Nat) (v : Word) : State :=
  let q := win s w
  if 4096 ≤ v.toNat then refuseDoorbell s w
  else if headWin w then setWin s w { q with head := v.setWidth 12, recorded := true, before := if q.recorded then q.before else q.head }
  else setWin s w { q with tail := v.setWidth 12, recorded := true, before := if q.recorded then q.before else q.tail }

/-- An SQ tail (Table 2-11). -/
def sqDoorbell (s : State) (n : Nat) (v : Word) : State :=
  if !doorbellReach s then s
  else if !s.qe.running then recordDoorbell s n v
  else if !(winEnabled s n && v.toNat < winDepth s n) then refuseDoorbell s n
  else setWin s n { win s n with tail := v.setWidth 12 }

/-- A CQ or EQ head; window 4–8. While running it may not pass an entry not yet written. -/
def headDoorbell (s : State) (w : Nat) (v : Word) : State :=
  if !doorbellReach s then s
  else if !s.qe.running then recordDoorbell s w v
  else if !(winEnabled s w && v.toNat < winDepth s w) then refuseDoorbell s w
  else if ringDiff (winDepth s w) (win s w).tail (win s w).head < ringDiff (winDepth s w) (v.setWidth 12) (win s w).head then
    refuseDoorbell s w
  else setWin s w { win s w with head := v.setWidth 12 }

/-- A buffer return of stream `m`. While running it may not take back a buffer the device holds. -/
def returnDoorbell (s : State) (m : Nat) (v : Word) : State :=
  let w := 9 + m
  if !doorbellReach s then s
  else if !s.qe.running then recordDoorbell s w v
  else if !(winEnabled s w && v.toNat < winDepth s w) then refuseDoorbell s w
  else if ringDiff (winDepth s w) (v.setWidth 12) (win s w).head < tsHeld s m then refuseDoorbell s w
  else setWin s w { win s w with tail := v.setWidth 12 }

/-- The queue window a BAR2 offset rings (Table 2-11). -/
def doorbellWindow (off : Nat) : Option Nat :=
  if off < 0x20 && off % 8 = 0 then some (off / 8)
  else if 0x100 ≤ off && off < 0x120 && off % 8 = 0 then some (4 + (off - 0x100) / 8)
  else if off = 0x200 then some 8
  else if 0x300 ≤ off && off ≤ 0x340 && off % 4 = 0 then some (9 + (off - 0x300) / 4)
  else none

/-- A write to a BAR2 offset; other offsets are discarded. -/
def bar2Write (s : State) (off : Nat) (v : Word) : State :=
  match doorbellWindow off with
  | none => s
  | some w => if w < 4 then sqDoorbell s w v else if w < 9 then headDoorbell s w v else returnDoorbell s (w - 9) v

/-- What a BAR2 read returns: the last value accepted (R75). -/
def bar2Read (s : State) (off : Nat) : Word :=
  if !domOn s 4 then 0
  else match doorbellWindow off with
  | none => 0
  | some w => if 4 ≤ w ∧ w < 9 then (win s w).head.setWidth 32 else (win s w).tail.setWidth 32

/-! ### Routing masks (R639, R640) -/

/-- A write to EVR_MASK_LO or EVR_MASK_HI: events whose bit takes the value 0 are delivered in ascending number. -/
def maskWrite (s : State) (hi : Bool) (w : Word) : State :=
  let s1 := wr s (if hi then 0xB004 else 0xB000) w 0xFFFFFFFF
  forEach (s1.evr.pend.map Prod.fst) evUnmask s1

/-- A write to EVR_PEND_LO or EVR_PEND_HI: each 1 discards a pending occurrence. -/
def pendClear (s : State) (hi : Bool) (w : Word) : State :=
  { s with evr := { s.evr with pend := s.evr.pend.filter fun e =>
      !(if hi then 32 ≤ e.1 && bitOf w (e.1 - 32) else e.1 < 32 && bitOf w e.1) } }

/-- EVR_LAST_LO: the selected event's last detail, whose upper half is captured (R644). -/
def lastLoRead (s : State) : State × Word :=
  let o := Sparse.getD s.evr.last (fld s 0xB018 0 6) { detail := 0, count := 0 }
  ({ s with evr := { s.evr with lastHi := o.detail.extractLsb' 32 32 } }, o.detail.setWidth 32)

/-- The function may master again or a mask has changed: waiting writes, completions and messages go out, routing is looked at
(R56, R636, R643). -/
def masterAgain (s : State) : State := evUpdate (msixFlushAll (qeSettle (cqKick (hostKick s))))

/-! ### Sideband identity (R97, R101; Table 12-8 item 1) -/

/-- The management address in force. -/
def sbAddress (s : State) : Nat :=
  let a := bitsOf (Sparse.getD s.otp.items 1 0x5C) 0 7
  if a < 0x08 || 0x76 < a || a = 0x0C || a + 1 = 0x0C then 0x5C else a

/-- Packet error checking is enabled. -/
def sbPec (s : State) : Bool := bitOf (Sparse.getD s.otp.items 1 0x5C) 8

/-- End a transaction of the port. -/
def sbEnd (s : State) (ack : Bool) (reply : List Byte) : State :=
  { s with sb := { s.sb with acked := ack, reply := reply } }

/-- Command codes of the management address (Table 2-14). -/
def sbSetPointer : Nat := 0x01
def sbRegData : Nat := 0x02
def sbMbxIn : Nat := 0x10
def sbMbxOut : Nat := 0x11
def sbMbxStatus : Nat := 0x12

/-- The port accepts a command code (R97). -/
def sbCodeKnown (code : Nat) : Bool := [sbSetPointer, sbRegData, sbMbxIn, sbMbxOut, sbMbxStatus].contains code

/-- The PEC of bytes on the bus: SMBus's CRC-8 with polynomial x⁸ + x² + x + 1 (log 106). -/
def pecOf (bs : List Byte) : Nat := bs.foldl (crcByteL 8 0x07) 0

/-- What a Block Read of a command code returns on the bus (Table 2-14, R101): the byte count, the data and, with packet error
checking, the PEC over the whole transaction from the address byte on. -/
def sbBlock (s : State) (code : Nat) (data : List Byte) : List Byte :=
  let sent := BitVec.ofNat 8 data.length :: data
  if sbPec s then
    sent ++ [BitVec.ofNat 8 (pecOf ([BitVec.ofNat 8 (2 * sbAddress s), BitVec.ofNat 8 code, BitVec.ofNat 8 (2 * sbAddress s + 1)] ++ sent))]
  else sent

/-- MALERT_N is asserted (R100). The MP's alert request is an output of PD_MP, inactive while that domain is not on (R24). -/
def malert (s : State) : Bool := flag s 0x0010 1 && (s.sb.outMsg.isSome || (s.sb.alertReq && domOn s 3))

/-- What the sideband window lets a register do (Table 2-15): 0 nothing, 1 read, 2 write, 3 both. -/
def sbWindow (off : Nat) : Nat :=
  if off % 4 ≠ 0 then 0
  else if off < 0x18 then 1
  else if off = 0x18 then 2
  else if (0x5000 ≤ off && off < 0x8000) || (0x9000 ≤ off && off < 0xB000) then 1
  else if 0xE000 ≤ off && off < 0xF000 then 3
  else 0

end Sys2Proof.Machine
end

