-- ==== Sys2Proof/Machine/TableOps.lean ====
section
/-! DEFINITION. Operations of the channel table, the channel cache and the Mule (03_channel_table.md). -/

namespace Sys2Proof.Machine

/-! ### Entries (R105–R114) -/

/-- An entry field of `len` bytes, unsigned. -/
def eN (e : Entry) (byte len : Nat) : Nat := bitsOf e (8 * byte) (8 * len)

/-- An entry field of `len` bytes, signed. -/
def eI (e : Entry) (byte len : Nat) : Int := sbitsOf e (8 * byte) (8 * len)

/-- Replace an entry field. -/
def ePut (e : Entry) (byte len v : Nat) : Entry := putBits e (8 * byte) (8 * len) v

/-- Replace a signed entry field. -/
def ePutI (e : Entry) (byte len : Nat) (v : Int) : Entry := putBits e (8 * byte) (8 * len) (toTwos (8 * len) v)

/-- KIND, EXCLUDE, CARRY, NODE, TAP, GENERATION and PARENT (Table 3-1). -/
def eKind (e : Entry) : Nat := bitsOf e 0 3
def eExclude (e : Entry) : Bool := bitOf e 8
def eCarry (e : Entry) : Bool := bitOf e 9
def eNode (e : Entry) : Nat := bitsOf e 16 9
def eTap (e : Entry) : Nat := bitsOf e 32 9
def eGroupIndex (e : Entry) : Nat := eN e 6 2
def eGen (e : Entry) : Nat := eN e 10 2
def eParent (e : Entry) : Nat := eN e 12 4

/-- A STATUS bit (R108), and its change. -/
def eStatus (e : Entry) (i : Nat) : Bool := bitOf e (8 * 156 + i)
def eSetStatus (e : Entry) (i : Nat) (v : Bool) : Entry := putBits e (8 * 156 + i) 1 (b2n v)

/-- CRC-32 of IEEE 802.3 (R112). -/
def crc32 (bs : List Byte) : Nat := (bs.foldl (crcByte 0xEDB88320) 0xFFFFFFFF) ^^^ 0xFFFFFFFF

/-- The host-private bytes 224–247 taken as zero (R110, R112). -/
def eClean (e : Entry) : Entry := putBits e (8 * 224) 192 0

/-- The CRC of an entry (R112). -/
def eCrc (e : Entry) : Nat := crc32 (leBytes 252 (eClean e).toNat)

/-- One change of an entry: WRITE_SEQ + 1 and a new CRC (R111, R112). -/
def eSeal (e : Entry) : Entry :=
  let e1 := ePut e 248 4 ((eN e 248 4 + 1) % 2 ^ 32)
  ePut e1 252 4 (eCrc e1)

/-- The bytes of an entry that the device writes: 0–223 and 248–255 (R114). -/
def ePrivate : Entry := maskOf 2048 (8 * 224) 192

/-! ### The table in host memory (R103, R104) -/

/-- Entry k of the attached chunk list. -/
def chunkAddr (s : State) (k : Nat) : Nat := (rd s (0x2104 + 8 * k)).toNat * 2 ^ 32 + fld s (0x2100 + 8 * k) 21 11 * 2 ^ 21

/-- Host address of a channel of the attached table. -/
def entryAddr (s : State) (c : Nat) : Nat := chunkAddr s (c / 8192) + c % 8192 * 256

/-- Host address of a channel of the shadow table. -/
def shadowAddr (s : State) (c : Nat) : Nat := ((s.ct.mule.chunks[c / 8192]?).getD 0).toNat + c % 8192 * 256

/-- Read the 256 bytes of an entry, the host-private ones discarded (R33, R110). -/
def entryAt (s : State) (a : Nat) : Entry := eClean (BitVec.ofNat 2048 (leNat (hostRead s a 256)))

/-- Write an entry: two posted writes, bytes 0–223 and then 248–255 (R114). -/
def entryPut (s : State) (a : Nat) (e : Entry) : State :=
  hostPost (hostPost s a (leBytes 224 e.toNat)) (a + 248) (leBytes 8 (eN e 248 8))

/-- The attached table can be reached (R29, R95). -/
def tableReach (s : State) : Bool := s.ct.attached && !s.ct.hold && canMaster s && domOn s 4 && rootAlive s

/-! ### The node directory (R115, R116) -/

/-- First tap of a kind (R115). -/
def kindTap (k : Nat) : Nat := match k with | 1 => 0 | 2 => 496 | 3 => 0 | 4 => 504 | 5 => 508 | _ => 0

/-- Greatest number of channels of a kind on one node. -/
def kindMax (k : Nat) : Nat := match k with | 1 => 496 | 2 => 8 | 3 => 16 | 4 => 1 | 5 => 1 | _ => 0

/-- First index and count of a kind in a directory entry. -/
def dirKind (d : DirEntry) (k : Nat) : Nat × Nat :=
  match k with
  | 1 => (d.cellFirst, d.cellCount)
  | 2 => (d.groupFirst, d.groupCount)
  | 3 => (d.tempFirst, d.tempCount)
  | 4 => (d.packCh.getD 0, b2n d.packCh.isSome)
  | 5 => (d.nodeCh.getD 0, b2n d.nodeCh.isSome)
  | _ => (0, 0)

/-- A directory entry with a kind's run replaced. -/
def dirSetKind (d : DirEntry) (k first count : Nat) : DirEntry :=
  match k with
  | 1 => { d with cellFirst := first, cellCount := count }
  | 2 => { d with groupFirst := first, groupCount := count }
  | 3 => { d with tempFirst := first, tempCount := count }
  | 4 => { d with packCh := some first }
  | 5 => { d with nodeCh := some first }
  | _ => d

/-- The channel of tap `t` of kind `k` on a node (R116). -/
def dirChannel (dir : Sparse DirEntry) (k node t : Nat) : Option Nat :=
  match Sparse.get? dir node with
  | none => none
  | some d =>
    let r := dirKind d k
    if kindTap k ≤ t && t - kindTap k < r.2 then some (r.1 + (t - kindTap k)) else none

/-- The kind, node and tap that a directory implies for a channel (R131). -/
def dirIdentity (dir : Sparse DirEntry) (c : Nat) : Option (Nat × Nat × Nat) :=
  dir.findSome? fun e =>
    [1, 2, 3, 4, 5].findSome? fun k =>
      let r := dirKind e.2 k
      if r.1 ≤ c && c < r.1 + r.2 then some (k, e.1, kindTap k + (c - r.1)) else none

/-- Every channel of a node. -/
def dirChannels (dir : Sparse DirEntry) (node : Nat) : List Nat :=
  match Sparse.get? dir node with
  | none => []
  | some d => [1, 2, 3, 4, 5].flatMap fun k => (List.range (dirKind d k).2).map (· + (dirKind d k).1)

/-- Add an entry to a directory, or the reason of CT_FIRST_BAD: 4 kind or tap range, 5 duplicate, 6 R115. Excluded entries
inside a run count as its channels (log 10). -/
def dirAdd (dir : Sparse DirEntry) (excluded : List Nat) (c : Nat) (e : Entry) : Except Nat (Sparse DirEntry) :=
  let k := eKind e
  let t := eTap e
  if 6 ≤ k || t < kindTap k || kindMax k ≤ t - kindTap k then .error 4
  else
    let d := Sparse.getD dir (eNode e) DirEntry.empty
    let r := dirKind d k
    let n := t - kindTap k
    if 0 < r.2 && n < r.2 then .error 5
    else
      let base := if r.2 = 0 then c - n else r.1
      if n ≤ c && base + n = c && ((List.range (n - r.2)).all fun i => excluded.contains (base + r.2 + i)) then
        .ok (Sparse.set dir (eNode e) (dirSetKind d k base (n + 1)))
      else .error 6

/-! ### The cache (R121–R127, R131–R136) -/

/-- The cached line of a channel. -/
def line (s : State) (c : Nat) : Option Line := Sparse.get? s.ct.cache c

/-- Replace the cached line of a channel. -/
def setLine (s : State) (c : Nat) (l : Line) : State := { s with ct := { s.ct with cache := Sparse.set s.ct.cache c l } }

/-- Drop the cached line of a channel. -/
def dropLine (s : State) (c : Nat) : State := { s with ct := { s.ct with cache := Sparse.del s.ct.cache c } }

/-- Write a dirty line back and make it clean. -/
def writeBack (c : Nat) (s : State) : State :=
  match line s c with
  | none => s
  | some l => if l.dirty then setLine (entryPut s (entryAddr s c) l.data) c { l with dirty := false } else s

/-- The lines of a set, by channel. -/
def setLines (s : State) (c : Nat) : Sparse Line := s.ct.cache.filter fun e => e.1 % 256 = c % 256

/-- A free way of a set. -/
def freeWay (s : State) (c : Nat) : Option Nat :=
  (List.range 12).find? fun w => !(setLines s c).any fun e => e.2.way = w

/-- The least recently used line that may be a victim (R124). -/
def victim (s : State) (c : Nat) : Option (Nat × Line) :=
  ((setLines s c).filter fun e => !e.2.pinned && !e.2.reserved).foldl
    (fun b e => match b with
      | none => some e
      | some m => if e.2.used < m.2.used then some e else some m) none

/-- A way for channel `c`, a dirty victim written back first (R124); none when no way qualifies. -/
def takeWay (s : State) (c : Nat) : Option (State × Nat) :=
  match freeWay s c with
  | some w => some (s, w)
  | none =>
    match victim s c with
    | none => none
    | some (v, l) => some (dropLine (writeBack v s) v, l.way)

/-- Use a line: every use has a time of its own (R124). -/
def useLine (s : State) (c : Nat) (l : Line) : State :=
  let s1 := setLine s c { l with used := s.ct.clock }
  { s1 with ct := { s1.ct with clock := s1.ct.clock + 1 } }

/-- Put an entry into a way. -/
def putLine (s : State) (c w : Nat) (e : Entry) (dirty pinned reserved : Bool) : State :=
  useLine s c { data := e, way := w, dirty := dirty, pinned := pinned, reserved := reserved, used := 0 }

/-- The reason a fetched entry fails R131: 1 CRC, 2 generation, 3 identity. -/
def fetchFault (s : State) (c : Nat) (e : Entry) : Option Nat :=
  if eN e 252 4 ≠ eCrc e then some 1
  else if eGen e ≠ s.ct.gen.toNat then some 2
  else if dirIdentity s.ct.dir c ≠ some (eKind e, eNode e, eTap e) then some 3
  else none

/-- Every read of channel `c` that R131 allows arrives corrupted: one read, and a second one when CRC_RETRY is 1. `bad` names a
channel once for each bad read. -/
def readsBad (s : State) (bad : List Nat) (c : Nat) : Bool := decide (b2n (flag s 0x2000 1) < bad.count c)

/-- The reason a fetch fails R131 after its second read, if any. -/
def readFault (s : State) (bad : List Nat) (c : Nat) (e : Entry) : Option Nat :=
  if readsBad s bad c then some 1 else fetchFault s c e

/-- A fetched entry failed: EV29, a count, and exclusion (R132). -/
def excludeChannel (s : State) (c reason : Nat) : State :=
  let ct := s.ct
  let s1 := { s with ct := { ct with
    crcErrs := if reason = 1 then satInc ct.crcErrs else ct.crcErrs
    genErrs := if reason = 1 then ct.genErrs else satInc ct.genErrs
    excluded := if ct.excluded.contains c then ct.excluded else c :: ct.excluded } }
  raise s1 29 (pack 64 [(0, 18, c), (20, 4, reason), (32, 16, ct.gen.toNat)])

/-- PINNED: the pinned ways, and the pinned entries whose refetch is still due (R127). -/
def pinnedCount (s : State) : Nat := countIf (fun e => e.2.pinned) s.ct.cache + s.ct.repin.length

/-- A table or log access of the device ended in an error (Table 3-6). -/
def ctHostErr (s : State) : State := { s with ct := { s.ct with hostAccessErr := true } }

/-- Run a part of a row whose table reads all end in an error where `fault` is set, and none of whose reads does where it is not (log 108). -/
def withReads (fault : Bool) (f : State → State) (s : State) : State :=
  let s1 := f { s with ct := { s.ct with fails := fault } }
  { s1 with ct := { s1.ct with fails := s.ct.fails } }

/-- Fetch a channel into the cache, keeping one already there: the state, and whether the entry is cached (R124, R131,
R132). The middle result tells that no way qualified, that the table cannot be reached, or that the read ended in an error (log 108).
`bad` is as in `readsBad`. -/
def fetchChannel (s : State) (bad : List Nat) (c : Nat) (pinned reserved : Bool) : State × Option Bool :=
  match line s c with
  | some l => (useLine s c { l with pinned := l.pinned || pinned, reserved := l.reserved || reserved }, some true)
  | none =>
    if !tableReach s then (s, none)
    else if s.ct.fails then (ctHostErr s, none)
    else match takeWay s c with
    | none => (s, none)
    | some (s1, w) =>
      let e := entryAt s1 (entryAddr s1 c)
      match readFault s1 bad c e with
      | none => (putLine s1 c w e false pinned reserved, some true)
      | some r => (excludeChannel s1 c r, some false)

/-- One entry read without keeping it: the cached one, else the host copy where it can be reached and passes R131, else the copy
on chip of a GROUP or PACK channel (DESIGN CHOICE, log 108). A host copy that fails, its second read included, has the steps of R132;
an excluded channel is not fetched (R123). -/
def takeEntry (s : State) (c : Nat) : State × Option Entry :=
  let kept := Sparse.get? s.ct.calib c
  match line s c with
  | some l => (s, some l.data)
  | none =>
    if !tableReach s || s.ct.excluded.contains c then (s, kept)
    else if s.ct.fails then (ctHostErr s, kept)
    else
      let e := entryAt s (entryAddr s c)
      match readFault s [] c e with
      | none => (s, some e)
      | some r => (excludeChannel s c r, kept)

/-- What `takeEntry` reads. -/
def seeEntry (s : State) (c : Nat) : Option Entry := (takeEntry s c).2

/-- Entries about to be used are read: those that fail R131 have the steps of R132. -/
def seeAll (cs : List Nat) (s : State) : State := forEach cs (fun c q => (takeEntry q c).1) s

/-- The copy on chip of a GROUP or PACK entry. -/
def calOf (s : State) (c : Nat) : Option Entry := Sparse.get? s.ct.calib c

/-- Pinned entries dropped by an uncorrectable error are fetched again into their set and held pinned; one whose refetch fails a
check of R131 loses its pin (R127). -/
def refetchPinned (s : State) : State :=
  if !tableReach s then s
  else forEach s.ct.repin (fun c q =>
    match fetchChannel q [] c true false with
    | (q1, none) => q1
    | (q1, some _) => { q1 with ct := { q1.ct with repin := q1.ct.repin.filter (· ≠ c) } }) s

/-- Drop one way with an uncorrectable error: EV30; dirty contents are lost and the cache error line is asserted (R135, R136). A
pinned entry is fetched again when the table can be reached (R127), a reserved one at once. -/
def dropBadLine (tag : Bool) (c : Nat) (s : State) : State :=
  match line s c with
  | none => s
  | some l =>
    let s1 := dropLine { s with ct := { s.ct with uncorr := satInc s.ct.uncorr, repin := if l.pinned then s.ct.repin ++ [c] else s.ct.repin } } c
    let s2 := raise s1 30 (pack 64 [(0, 8, c % 256), (8, 4, l.way), (16, 1, 1), (17, 1, b2n l.dirty), (18, 1, b2n tag)])
    let s3 := refetchPinned (if l.dirty then assertLine s2 5 1 else s2)
    if l.reserved then (fetchChannel s3 [] c false true).1 else s3

/-- An uncorrectable error of the line of channel `c` (R127, R135, R136). An error in the tag of a set that holds a dirty way affects
every way of the set, since the tags no longer tell which channel a way holds (DEDUCED, log 109). -/
def cacheUncorrectable (s : State) (c : Nat) (tag : Bool) : State :=
  if (line s c).isNone then s
  else if tag && (setLines s c).any (fun e => e.2.dirty) then forEach ((setLines s c).map Prod.fst) (dropBadLine true) s
  else dropBadLine tag c s

/-- A corrected single-bit error (R134). -/
def cacheCorrected (s : State) : State := { s with ct := { s.ct with corr := satInc s.ct.corr } }

/-- Cache errors found while lines are read: channel, and 0 single-bit, 1 uncorrectable, 2 uncorrectable in the tag. -/
def cacheErrors (s : State) (errs : List (Nat × Nat)) : State :=
  forEach errs (fun e q => if e.2 = 0 then (if (line q e.1).isSome then cacheCorrected q else q) else cacheUncorrectable q e.1 (e.2 = 2)) s

/-- Write back every dirty line, in ascending channel. -/
def flushAll (s : State) : State := forEach (s.ct.cache.map Prod.fst) writeBack s

/-! ### The Mule (R140–R152) -/

/-- End a rebuild: EV28 with a status code (R146, R151, R152). RESTARTS and COPY_EPOCHS, counts of 'this rebuild', read 0 after it (DESIGN
CHOICE, log 123). -/
def muleEnd (s : State) (status replayed : Nat) : State :=
  let m := s.ct.mule
  raise { s with ct := { s.ct with mule := { Mule.reset with nextGen := m.nextGen } } } 28
    (pack 64 [(0, 16, s.ct.gen.toNat), (16, 8, status), (24, 8, if m.copyEpochs < 255 then m.copyEpochs else 255), (32, 16, sat16 replayed)])

/-- Abandon a rebuild in progress (R152). -/
def muleAbort (s : State) : State := if s.ct.mule.phase = 0 then s else muleEnd s stAborted 0

/-- The g + 1 counterpart of a g channel (R142). -/
def counterpart (s : State) (c : Nat) : Option Nat :=
  match dirIdentity s.ct.dir c with
  | none => none
  | some (k, n, t) => dirChannel s.ct.mule.dir k n t

/-- The initial state of R304 in the bytes that Tables 3-3 and 3-4 give the kind, reserved ones as fetched (R113); `cap` is the
CAPACITY of a CELL's parent, 0 without one. NODE keeps the fields that the link ports fill. -/
def initEntry (e : Entry) (cap : Nat) : Entry :=
  let zero := fun (x : Entry) (byte len : Nat) => ePut x byte len 0
  -- STATUS keeps its reserved bits; MIN, MAX, the times, VIOLATIONS, FITS, LAST_CAPTURE and WEAK_TREND
  let st := putBits e (8 * 156) 9 0
  let h := zero (zero (ePut (ePut st 160 4 0x7FFFFFFF) 164 4 0x80000000) 168 26) 196 16
  match eKind e with
  | 1 =>
    let share := if cap = 0 then 0 else (roundDiv ((1000000 * eN e 34 2 : Nat) : Int) cap).toNat
    eSetStatus (ePut (ePut (zero h 64 46) 92 4 share) 96 4 share) 0 true
  | 3 => eSetStatus (ePutI h 64 2 (-32768)) 0 true
  | 5 => eSetStatus h 0 true
  | _ =>
    let c := eN e 38 4
    let kept := putBits (zero (zero h 64 18) 84 16) (8 * 82) 2 0
    let g := ePut (ePutI kept 64 8 ((1800 * c : Nat) : Int)) 72 4 c
    eSetStatus (eSetStatus (ePut (ePut g 76 2 5000) 78 2 5000) 0 true) 5 true

/-- The template entries in a list of corrupted reads are numbered from 262,144 on, behind every channel of the attached table. -/
def shadowBad (bad : List Nat) : List Nat := (bad.filter fun x => 262144 ≤ x).map fun x => x - 262144

/-- The reason a template entry read again fails R131; GENERATION is that of the table being read. -/
def shadowFault (s : State) (bad : List Nat) (h : Nat) (e : Entry) : Option Nat :=
  if readsBad s (shadowBad bad) h || eN e 252 4 ≠ eCrc e then some 1
  else if eGen e ≠ s.ct.mule.nextGen.toNat then some 2
  else if dirIdentity s.ct.mule.dir h ≠ some (eKind e, eNode e, eTap e) then some 3
  else none

/-- A template entry failed when it was read again: EV29 and a count; its copy is not made, the host copy stays unwritten, and the channel is
excluded once g + 1 is attached (R132; DEDUCED, log 123: R146 speaks of the preparation only). -/
def shadowExclude (s : State) (h reason : Nat) : State :=
  let ct := s.ct
  raise { s with ct := { ct with
    crcErrs := if reason = 1 then satInc ct.crcErrs else ct.crcErrs
    genErrs := if reason = 1 then ct.genErrs else satInc ct.genErrs
    mule := { ct.mule with failed := if ct.mule.failed.contains h then ct.mule.failed else h :: ct.mule.failed } } } 29
    (pack 64 [(0, 18, h), (20, 4, reason), (32, 16, ct.mule.nextGen.toNat)])

/-- The template entry of `h`, read again for its copy; none where it has no CARRY, or its read or check fails. -/
def shadowTake (s : State) (bad : List Nat) (h : Nat) : State × Option Entry :=
  if (Sparse.get? s.ct.mule.tseq h).isNone || s.ct.mule.failed.contains h then (s, none)
  else if s.ct.fails then (ctHostErr s, none)
  else
    let e := entryAt s (shadowAddr s h)
    match shadowFault s bad h e with
    | none => (s, some e)
    | some r => (shadowExclude s h r, none)

/-- Write the carried bytes 64–223 of `src t` into the g + 1 entry `h`, `t` its template, WRITE_SEQ the template's plus 1 (R147). A replay
writes the same WRITE_SEQ again, the copy being one change of the template's (DESIGN CHOICE, log 123: R111 counts changes, R150 gives no
number). -/
def carryInto (bad : List Nat) (h : Nat) (src : Entry → Entry) (s0 : State) : State :=
  match shadowTake s0 bad h with
  | (s, none) => s
  | (s, some t) =>
    let e := eSeal (ePut (putBits t (8 * 64) (8 * 160) (bitsOf (src t) (8 * 64) (8 * 160))) 248 4 (Sparse.getD s.ct.mule.tseq h 0))
    let a := shadowAddr s h
    let s1 := hostPost (hostPost s (a + 64) (leBytes 160 (bitsOf e (8 * 64) (8 * 160)))) (a + 248) (leBytes 8 (eN e 248 8))
    { s1 with ct := { s1.ct with mule := { s1.ct.mule with copied := if s1.ct.mule.copied.contains h then s1.ct.mule.copied else h :: s1.ct.mule.copied } } }

/-- The kind's initial state is carried into `h` (R142), with the CAPACITY that the preparation read of its parent. -/
def carryFresh (bad : List Nat) (h : Nat) (s : State) : State :=
  carryInto bad h (fun t => initEntry t (Sparse.getD s.ct.mule.caps (eParent t) 0)) s

/-- The channel of the attached table that a g + 1 channel continues. -/
def muleSource (s : State) (h : Nat) : Option Nat :=
  match dirIdentity s.ct.mule.dir h with
  | none => none
  | some (k, n, t) => dirChannel s.ct.dir k n t

/-- Write one g + 1 entry: from its g entry, fetched by the rules of the cache, or from the initial state where there is none or it
is excluded (R124, R142). No change where the fetch must wait. -/
def carryOne (bad : List Nat) (h : Nat) (s : State) : State :=
  if (dirIdentity s.ct.mule.dir h).isNone then s
  else match muleSource s h with
  | none => carryFresh bad h s
  | some c =>
    if s.ct.excluded.contains c then carryFresh bad h s
    else match fetchChannel s bad c false false with
    | (s1, none) => s1
    | (s1, some false) => carryFresh bad h s1
    | (s1, some true) => match line s1 c with | some l => carryInto bad h (fun _ => l.data) s1 | none => s1

/-- A g + 1 entry is written, or is no entry to write: unused, without CARRY, or failed. -/
def carryDone (s : State) (h : Nat) : Bool :=
  let m := s.ct.mule
  m.copied.contains h || m.failed.contains h || (dirIdentity m.dir h).isNone || (Sparse.get? m.tseq h).isNone

/-- The Mule's part of a batch's write-back in the copy epoch (R147). -/
def muleCopy (c : Nat) (s : State) : State :=
  if s.ct.mule.phase ≠ 3 then s
  else match counterpart s c with
  | none => s
  | some h => carryOne [] h s

/-- The g + 1 channels of a shadow chunk. -/
def chunkChannels (s : State) (k : Nat) : List Nat :=
  ((List.range 8192).map (· + 8192 * k)).filter fun h => decide (h < s.ct.mule.count)

/-- Go on with the second copies of R149. A chunk whose entries are all written again takes part in the log like any other. -/
def muleRecopy (s : State) : State :=
  if !tableReach s then s
  else forEach s.ct.mule.recopy (fun k q =>
    let q1 := forEach ((chunkChannels q k).filter fun h => !q.ct.mule.copied.contains h) (carryOne []) q
    if (chunkChannels q1 k).all (carryDone q1) then
      { q1 with ct := { q1.ct with mule := { q1.ct.mule with recopy := q1.ct.mule.recopy.filter (· ≠ k) } } }
    else q1) s

/-- Host address of record `i` of the delta-log area. -/
def logAddr (s : State) (i : Nat) : Nat := (rd s 0x2034).toNat * 2 ^ 32 + fld s 0x2030 12 20 * 4096 + 8 * i

/-- The pending records in order: those spilled are read back from the log area, the latest 1,024 stand on chip (R152). -/
def logRecords (s : State) : List (Nat × Nat) :=
  let l := s.ct.mule.log
  let spilled := (List.range (l.length - 1024)).map fun i =>
    let w : DWord := BitVec.ofNat 64 (leNat (hostRead s (logAddr s i) 8))
    (bitsOf w 0 18, bitsOf w 32 18)
  spilled ++ l.drop spilled.length

/-- A change of a g entry other than the stream's own, from the start of the copy epoch to the switch (R148, R149). The log keeps its
latest 1,024 records on chip: each further one spills the oldest of those (R152). A log that is full makes the device copy the
chunk again at once; while that is under way no record is appended for the chunk, and an entry of it already written again counts as not
yet copied once more. -/
def logChange (c : Nat) (s : State) : State :=
  let m := s.ct.mule
  if m.phase ≠ 3 && m.phase ≠ 4 then s
  else match counterpart s c with
  | none => s
  | some h =>
    if !m.copied.contains h || m.log.any (fun r => r.2 = h) then s
    else if m.recopy.contains (h / 8192) then { s with ct := { s.ct with mule := { m with copied := m.copied.filter (· ≠ h) } } }
    else if m.log.length < 65536 then
      let s1 := { s with ct := { s.ct with mule := { m with log := m.log ++ [(c, h)] } } }
      if 1024 ≤ m.log.length then
        let i := m.log.length - 1024
        let r := m.log.getD i (0, 0)
        hostPost s1 (logAddr s i) (leBytes 8 (r.1 + r.2 * 2 ^ 32))
      else s1
    else
      muleRecopy { s with ct := { s.ct with logOverflow := true, mule := { m with
        recopy := m.recopy ++ [h / 8192], restarts := m.restarts + 1, copied := m.copied.filter (fun x => x / 8192 ≠ h / 8192) } } }

/-- CAPACITY of the parent of an entry in the attached table, from its copy on chip; 0 without one. -/
def parentCapacity (s : State) (e : Entry) : Nat := match calOf s (eParent e) with | some p => eN p 38 4 | none => 0

/-- A channel is held for reinitialisation at its next pass, or reinitialised in the cache at once where the table can be
reached and its batch is not in flight (R125, R148, R201; log 49). What is held on chip for it is dropped. -/
def reinitChannel (c : Nat) (s : State) : State :=
  let hold := fun (q : State) => { q with ox := { q.ox with pend := Sparse.set q.ox.pend c { ChanPend.empty with reinit := true } } }
  let s0 := { s with ox := { s.ox with pend := Sparse.del s.ox.pend c, work := Sparse.del s.ox.work c
                                       parkLeft := s.ox.parkLeft.filter (fun x => x ≠ c) } }
  if s0.ct.excluded.contains c || !tableReach s0 || s0.ox.inFlight.contains (c / 496) then hold s0
  else
    let r := fetchChannel s0 [] c false false
    match r.2, line r.1 c with
    | some true, some l =>
      logChange c (setLine r.1 c { l with data := eSeal (initEntry l.data (parentCapacity r.1 l.data)), dirty := true })
    | _, _ => hold r.1

/-- The children of a GROUP channel in the attached table: its CELL channels, excluded ones too (R286, R288; log 108). -/
def kidCount (s : State) (c : Nat) : Nat := countIf (fun e : Nat × Nat => e.2 = c) s.ct.parents

end Sys2Proof.Machine
end

