-- ==== Sys2Proof/Machine/PowerBase.lean ====
section
/-! DEFINITION. Requests for power domains, the parking state written when PD_CORE goes down, and the wake record
(09_supplies_and_domains.md, R307, R606). -/

namespace Sys2Proof.Machine

/-- A domain's record. -/
def dom (s : State) (k : Nat) : Domain := vget s.pwr.doms k Domain.always

/-- Change a domain's record. -/
def setDom (s : State) (k : Nat) (d : Domain) : State := { s with pwr := { s.pwr with doms := vput s.pwr.doms k d } }

/-! ### Parking state (R307, R309, R606) -/

/-- The PACK channel: the first one in ascending node address. -/
def packChannel (s : State) : Option Nat := s.ct.dir.findSome? fun e => e.2.packCh

/-- Every GROUP channel, in ascending index. -/
def groupChannels (s : State) : List Nat :=
  ((s.ct.dir.flatMap fun e => (List.range e.2.groupCount).map (· + e.2.groupFirst)).map fun c => (c, ())).foldl
    (fun (t : Sparse Unit) e => Sparse.set t e.1 e.2) [] |>.map Prod.fst

/-- The parking record of a PACK or GROUP channel: on-chip values where held, the entry's otherwise (R307, R309); none for a channel
that neither gives (an excluded one). -/
def parkRecord (s : State) (c : Nat) : Option ParkRec :=
  match Sparse.get? s.ox.work c, seeEntry s c with
  | some w, _ =>
    some { chan := c, charge := w.charge, socRep := w.socRep, socConf := w.socConf, status := w.status % 256,
           sRef := w.sRef.getD 0xFFFF, qRef := roundDiv (w.qRef.num) (w.qRef.den * 1000), floor := some (Nat.testBit w.status 8) }
  | none, some e =>
    some { chan := c, charge := eI e 64 8, socRep := eN e 78 2, socConf := eN e 80 2, status := eN e 156 1, sRef := 0xFFFF, qRef := 0
           floor := some (eStatus e 8) }
  | none, none => none

/-- The parking constants of R606: bytes 0–15. -/
def parkConsts (s : State) : BitVec 128 :=
  match (packChannel s).bind (seeEntry s) with
  | none => 0
  | some e => pack 128 [(0, 32, eN e 16 4), (32, 16, eN e 20 2), (48, 16, eN e 28 2), (64, 16, eN e 30 2), (80, 16, fld s 0x301C 0 9)]

/-- CAPACITY of a GROUP or PACK channel; 0 where it cannot be read. -/
def capacityOf (s : State) (c : Nat) : Nat := match seeEntry s c with | some e => eN e 38 4 | none => 0

/-- The weights of R606 for the GROUP records, in units of 2⁻¹⁶. -/
def parkWeight (s : State) (packCap c : Nat) : Nat :=
  if packCap = 0 then 0 else sat16 (roundDiv (capacityOf s c * 65536 : Nat) packCap).toNat

/-- The channels of the parking state: the PACK channel, then at most 2,039 GROUP channels (R309). -/
def parkChannels (s : State) : List Nat :=
  (match packChannel s with | some c => [c] | none => []) ++ (groupChannels s).take 2039

/-- The Ox engine writes back every dirty entry, then the parking state and constants (R307, R606). -/
def parkWrite (s : State) : State :=
  if !tableReach s then s
  else
    let s1 := seeAll (parkChannels s) (flushAll s)
    let recs := (parkChannels s1).filterMap (parkRecord s1)
    let cap := match packChannel s1 with | some c => capacityOf s1 c | none => 0
    let s2 := { s1 with
      park := some { time := stamp s1, gen := s1.ct.gen.toNat, recs := recs }
      ox := { s1.ox with parkValid := true }
      mp := { s1.mp with parking := { s1.mp.parking with
        consts := parkConsts s1
        weights := recs.map fun r => if packChannel s1 = some r.chan then 0xFFFF else parkWeight s1 cap r.chan } } }
    takeFree s2

/-! ### Transitions (R424–R431) -/

/-- A rail is in a state other than OFF or FAULT (R359). -/
def anyRailBusy (s : State) : Bool := s.rc.rails.toList.any fun r => r.state ≠ .off && r.state ≠ .fault

/-- Why a request is refused: the status of POWER_STATE and RESULT of PWR_DSTATn (R425, R426, R359). -/
def domRefusal (s : State) (k : Nat) (target : DomState) (byMp : Bool) : Option (Nat × Nat) :=
  if target = .retention && k = 10 then some (stRange, 1)
  else if k ≤ 2 && target ≠ .on then some (stRefused, 1)
  else if k = 3 && !byMp && target ≠ .on then some (stAccessDenied, 3)
  else if k = 10 && target = .off && anyRailBusy s then some (stRefused, 1)
  else none

/-- RESULT [7:0] of POWER_STATE: the state in force. -/
def domResult (s : State) (k : Nat) : DWord := BitVec.ofNat 64 (dom s k).state.code

/-- Complete a waiting POWER_STATE. -/
def domTicket (s : State) (t : Option Ticket) (status : Nat) (r : DWord) : State :=
  match t with
  | none => s
  | some x => complete s x status r

/-- What the start of a transition to retention or off does (R307, R428, R429). -/
def domDownStart (s : State) (k : Nat) (save : Bool) : State :=
  if k = 4 then (if save then s else if domOn s 4 then parkWrite s else s)
  else if k = 5 then
    (let up := s.pcie.linkUp || s.pcie.training
     let s1 := dropLink s
     if up then pcieReset s1 4
     else evUpdate (queueStateReset { s1 with pcie := s1.pcie.resetFunction }))
  else s

/-- No domain may come on: the start-up is before step 5 (R440, R442), VSYS has browned out, RESET_N is held low (R441), or the
oscillator has not started and PD_MP waits for the next chip-level reset (R443). -/
def startBarred (s : State) (k : Nat) : Bool :=
  !s.pwr.vsysOk || s.pwr.resetLow || (1 ≤ s.pwr.startStep && s.pwr.startStep ≤ 4) || (k = 3 && s.pwr.startStep = 7)

/-- Start a transition. POWER_STATE taking PD_PCIE or PD_CORE down completes before it starts (R86). -/
def domStart (s : State) (k : Nat) (r : DomReq) (save : Bool) : State :=
  if r.target = .on && startBarred s k then domTicket s r.ticket stTimeout 0 else
  let early := (k = 4 || k = 5) && r.target ≠ .on
  let s1 := if early then domTicket s r.ticket stSuccess (BitVec.ofNat 64 r.target.code) else s
  let r1 : DomReq := if early then { r with ticket := none } else r
  let s2 := if r.target = .on then s1 else domDownStart s1 k save
  let d := dom s2 k
  setDom s2 k { d with move := some { req := r1, stage := if r.target = .on then 1 else 4, failed := 0, fromOff := d.state = .off },
                       waiting := none, byMp := r.byMp }

/-- A request for a domain (R425–R427). -/
def domRequest (s : State) (k : Nat) (r : DomReq) : State :=
  match domRefusal s k r.target r.byMp with
  | some (st, code) =>
    domTicket (setDom s k { dom s k with result := code }) r.ticket st 0
  | none =>
    let d := dom s k
    let s1 := setDom s k { d with req := r.target, byMp := r.byMp }
    if d.move.isSome then
      let s2 := match d.waiting with
        | some w => domTicket (setDom s1 k { dom s1 k with result := 4 }) w.ticket stSuperseded (domResult s1 k)
        | none => s1
      setDom s2 k { dom s2 k with waiting := some r }
    else if d.state = r.target then domTicket s1 r.ticket stSuccess (domResult s1 k)
    else domStart s1 k r false

/-- A request without a command. -/
def domAsk (s : State) (k : Nat) (target : DomState) (byMp byHost : Bool) : State :=
  domRequest s k { target := target, byMp := byMp, ticket := none, byHost := byHost }

/-! ### Wakes (R437) -/

/-- Write the wake record. -/
def recordWake (s : State) (host : Bool) (code : Nat) : State :=
  takeFree { s with pwr := { s.pwr with wake := { host := host, code := BitVec.ofNat 8 code, time := stamp s } } }

/-- PD_MP is on or on its way there, a request that waits behind a transition included. -/
def mpRising (s : State) : Bool :=
  let d := dom s 3
  match d.move, d.waiting with
  | none, _ => d.state = .on
  | some _, some w => w.target = .on
  | some m, none => m.req.target = .on && m.failed = 0

/-- The wake record takes a code where PD_MP is to come on from retention or off, not where the start-up or RESET_N keeps it off: what
follows then is the coming on of a chip-level reset (R437). -/
def wakeNote (s : State) (code : Nat) : State :=
  if mpRising s || startBarred s 3 then s else recordWake s false code

/-- Wake PD_MP with a wake code when it is in retention or off, or on its way there, and not already coming on. -/
def wakeMpDomain (s : State) (code : Nat) : State :=
  if mpRising s then s else domAsk (wakeNote s code) 3 .on false false

/-- PD_MP comes on for a cause to which Table 9-9 gives no code, the save at power-down or the recovery of a supply: the code is free
(log 118). -/
def wakeOther (s : State) : State := wakeNote (takeFree s) (Config.freeByte s.free).toNat

end Sys2Proof.Machine
end

