-- ==== Sys2Proof/Machine/RtcOps.lean ====
section
/-! DEFINITION. Operations of the calendar clock (13_calendar_clock.md). -/

namespace Sys2Proof.Machine

/-- Fields of the time word and of the date word that a write carries (Table 13-1). -/
def timeMask : Word := 0x001F3F3F
def dateMask : Word := 0x01FF0F1F

/-- Queue a write or command behind those that cross already (R579, R581). -/
def rtcCross (s : State) (o : RtcOp) : State := { s with rtc := { s.rtc with crossing := s.rtc.crossing ++ [o] } }

/-- A calendar time from a pair of words, and whether every field is in range (R571, R580). -/
def alarmCal (s : State) : Cal := Cal.ofWords s.rtc.alarmTime s.rtc.alarmDate

/-- The alarm wakes PD_MP; where the periodic timer has done so on this very CLK_RTC edge, the wake record takes code 0x10 (R589, R592). -/
def alarmWake (s : State) : State :=
  let d := dom s 3
  let rising := d.state ≠ .on && (match d.move with | some m => decide (m.req.target = .on) | none => false)
  if rising && s.rtc.exact && s.pwr.wake.code = 0x11 && s.pwr.wake.time = stamp s then
    { s with pwr := { s.pwr with wake := { s.pwr.wake with code := 0x10 } } }
  else wakeMpDomain s 0x10

/-- The alarm fires (R589, R590, R592): it disarms, EV54 is raised and PD_MP is woken. -/
def alarmFire (s : State) (byAdjust atArm : Bool) : State :=
  let r := s.rtc
  let s1 := { s with rtc := { r with alarmArmed := false, alarmFired := true, alarmByAdjust := r.alarmByAdjust || byAdjust } }
  alarmWake (raise s1 54 (pack 64 [(0, 1, b2n byAdjust), (1, 1, b2n atArm), (32, 32, r.alarmDate.toNat)]))

/-- The armed alarm is due (R589). -/
def alarmDue (s : State) : Bool := s.rtc.alarmArmed && (alarmCal s).seconds ≤ calSeconds s

/-- While the crystal is stopped no CLK_RTC edge comes, so an alarm waits for the restart (R589, R704). -/
def alarmCheck (s : State) (byAdjust atArm : Bool) : State :=
  if alarmDue s && !s.rtc.stopped then alarmFire s byAdjust atArm else s

/-- EV56 of kind INVALID_WRITE (R580, R587). -/
def rtcReject (s : State) (requester : Nat) (date : Word) : State :=
  let s1 := { s with rtc := { s.rtc with dateStaged := none, invalidWrite := true } }
  raise s1 56 (pack 64 [(0, 2, 1), (2, 2, requester), (32, 32, date.toNat)])

/-- A whole staged write reaches the commit instant (R579, R580, R582, R590, R704). -/
def rtcCommitCal (s : State) (time date : Word) (requester : Nat) (clears : Bool) : State × Bool :=
  let c := Cal.ofWords time date
  if !c.valid then (rtcReject s requester date, false)
  else
    let back := c.seconds < calSeconds s
    let r := s.rtc
    let s1 := { s with rtc := { r with
      cal := c, edge := 0, exact := true
      timeInvalid := if r.stopped then r.timeInvalid else false
      oscStopped := if r.stopped then r.oscStopped else false
      dateStaged := if clears then none else r.dateStaged } }
    (if back then s1 else alarmCheck s1 true false, true)

/-- The rate observed at a host RTC_SET, in 0.1 ppm (R616): the step back of the calendar over the time since the previous
RTC_SET, when that exceeds 7 days and the step is below 10 s. -/
def rtcRate (s : State) (new : Nat) : Option Int :=
  match s.rtc.lastSet with
  | none => none
  | some l =>
    let now := calSeconds s
    let frac : Int := (rtcFraction s).toNat
    let step : Int := ((now : Int) - new) * 16384 + frac
    if l + 604800 < now && absI step < 163840 then some (roundDiv (step * 10000000) ((now - l) * 16384)) else none

/-- The date that a write of RTC_TIME commits (R578). -/
def stagedDate (s : State) : Word := s.rtc.dateStaged.getD s.rtc.cal.dateWord

/-- Apply one write or command that has crossed (R578–R591). -/
def rtcApply (s : State) (o : RtcOp) : State :=
  match o with
  | .time w mp => (rtcCommitCal s w (stagedDate s) (if mp then 3 else 0) true).1
  | .date w => { s with rtc := { s.rtc with dateStaged := some w } }
  | .status w => { s with rtc := { s.rtc with
      alarmFired := s.rtc.alarmFired && !bitOf w 3, alarmByAdjust := s.rtc.alarmByAdjust && !bitOf w 4
      invalidWrite := s.rtc.invalidWrite && !bitOf w 5, oscStopped := s.rtc.oscStopped && !bitOf w 6 } }
  | .set t time date mp =>
    match rtcCommitCal s time date (if mp then 2 else 1) true with
    | (s1, true) =>
      let r := if mp then none else rtcRate s (Cal.ofWords time date).seconds
      complete (takeFree { s1 with rtc := { s1.rtc with lastSet := some (calSeconds s1) },
                                   mp := { s1.mp with rate := if r.isSome then r else s1.mp.rate } }) t stSuccess 0
    | (s1, false) => complete s1 t stRange 0
  | .alarm t arm time date =>
    if arm && !(Cal.ofWords time date).valid then complete s t stRange 0
    else
      let r := s.rtc
      let s1 := { s with rtc := if arm then { r with alarmArmed := true, alarmTime := time, alarmDate := date, dateStaged := none }
                                else { r with alarmArmed := false, dateStaged := none } }
      complete (if alarmDue s1 then alarmFire s1 false true else s1) t stSuccess 0
  | .periodic t p => complete { s with rtc := { s.rtc with period := p, wakes := 0, ticks := 0 } } t stSuccess 0

/-- The instant of the command's edge is over. -/
def rtcPast (s : State) : State := { s with rtc := { s.rtc with exact := false } }

/-- The periodic timer reaches its count at prescaler edge `e`: EV55, the wake, the count from 0 again (R591). -/
def periodicDue (s : State) (e : Nat) : State :=
  let n := s.rtc.wakes + 1
  let s1 := raise { s with rtc := { s.rtc with wakes := n, edge := e, exact := true } } 55
    (pack 64 [(0, 23, s.rtc.period), (32, 32, n.toNat)])
  wakeMpDomain s1 0x11

/-- The ticks of 1/64 s from the known edge on up to edge `e` of the same second are counted, each 512 counted edges (R591). -/
def rtcTo (s : State) (e : Nat) : State :=
  let r := s.rtc
  let k := e / 512 - r.edge / 512
  if r.period = 0 then { s with rtc := { r with edge := e } }
  else
    let s1 := forUpTo ((r.ticks + k) / r.period) (fun j q => periodicDue q (512 * (r.edge / 512 + (j + 1) * r.period - r.ticks))) s
    { s1 with rtc := { s1.rtc with ticks := (r.ticks + k) % r.period, edge := e } }

/-- The tick that ends with the second, at edge 0 of the next one. -/
def rtcTickZero (s : State) : State :=
  let r := s.rtc
  if r.period = 0 then s
  else if r.ticks + 1 < r.period then { s with rtc := { r with ticks := r.ticks + 1 } }
  else periodicDue { s with rtc := { r with ticks := 0 } } 0

/-- The prescaler can stand at edge `e` of the present second. -/
def rtcMay (s : State) (e : Nat) : Bool := s.rtc.edge ≤ e && e < 32768

/-- The first crossing write or command takes effect at edge `e`, 32,768 being that of a second boundary, which a commit discards
(R579, R581, R591). While the crystal is stopped the detector's own oscillator gives the edges (R704). -/
def rtcCommit (s : State) (e : Nat) : State :=
  match s.rtc.crossing with
  | [] => s
  | o :: t =>
    let go := fun (q : State) => rtcApply { q with rtc := { q.rtc with crossing := t } } o
    if s.rtc.stopped then rtcPast (go s)
    else if e = 32768 then
      let s1 := go (rtcTo s 32767)
      rtcPast (if s1.rtc.edge = 0 then rtcTickZero s1 else s1)
    else if rtcMay s e then
      let s1 := rtcTo s e
      rtcPast (go { s1 with rtc := { s1.rtc with exact := true } })
    else s

/-- The second boundary: the calendar advances, the accumulator of R584 takes its step and gives up each whole edge, an armed
alarm may fire, and the tick that ends with the second is counted after it (R592). -/
def secondBoundary (s : State) : State :=
  if s.rtc.stopped then s
  else
    let s0 := rtcTo s 32767
    let r := s0.rtc
    let nx := r.cal.next
    let a := r.accum + 32768 * r.corr
    let wrap := nx.year = 0 && r.cal.year ≠ 0
    rtcPast (rtcTickZero (alarmCheck { s0 with rtc := { r with
      cal := nx, edge := 0, exact := true, accum := a.tmod 10000000, compSecs := r.compSecs + 1
      timeInvalid := r.timeInvalid || wrap } } false false))

/-- The stop detector declares a stop (R586, R587). -/
def oscStop (s : State) : State :=
  if s.rtc.stopped then s
  else raise { s with rtc := { s.rtc with stopped := true, oscStopped := true, timeInvalid := true, exact := false } } 56 2

/-- The first edge after the crystal restarts (R586, R589, R704). -/
def crystalRestart (s : State) : State :=
  if !s.rtc.stopped then s
  else alarmCheck { s with rtc := { s.rtc with stopped := false } } (s.rtc.alarmArmed) false

/-- The prescaler reaches edge `e`, at which the periodic timer falls due (R591). -/
def periodicWake (s : State) (e : Nat) : State :=
  if s.rtc.stopped || s.rtc.period = 0 || !rtcMay s e then s else rtcPast (rtcTo s e)

/-- The compensation of R583 for a measured temperature in 0.01 °C. D is exact; CORR is D rounded to 0.1 ppm, half away from
zero (log 11), and clamped. -/
def rtcCompensate (s : State) (temp : Int) : State :=
  let r := s.rtc
  let dt := temp - sbitsOf r.curve 0 16
  -- CURV·0.0001·(ΔT·0.01)² ppm = CURV·ΔT² ÷ 10⁸ ppm = CURV·ΔT² ÷ 10⁷ in 0.1 ppm
  let d := roundDiv (-(bitsOf r.curve 16 16 : Int) * dt * dt + (r.offset + r.ageing) * 10000000) 10000000
  { s with rtc := { r with compSecs := 0, temp := temp, corr := clampI (-10000) 10000 d } }

/-- A read of RTC_TIME captures date and fraction (R576). -/
def rtcTimeRead (s : State) : State × Word :=
  let frac : BitVec 14 := rtcFraction s
  (takeFree { s with rtc := { s.rtc with holdDate := some s.rtc.cal.dateWord, holdFrac := frac } },
   s.rtc.cal.timeWord s.rtc.timeInvalid)

/-- A read of RTC_SUBSEC: the holding register once loaded, the live fraction before (R576). -/
def rtcSubsec (s : State) : BitVec 14 :=
  if s.rtc.holdDate.isSome then s.rtc.holdFrac
  else rtcFraction s

/-- The RESULT of RTC_GET: time word first (R577). -/
def rtcGetResult (s : State) : DWord :=
  (s.rtc.cal.dateWord.setWidth 64 <<< 32) ||| (s.rtc.cal.timeWord s.rtc.timeInvalid).setWidth 64

end Sys2Proof.Machine
end

