-- ==== Sys2Proof/Machine/RailOps.lean ====
section
/-! DEFINITION. Operations of rail control (07_rail_control.md): configuration, starts, stops, faults, the safe profiles and
the constant on-time loop. -/

namespace Sys2Proof.Machine

/-! ### Access -/

def rail (s : State) (n : Nat) : Rail := vget s.rc.rails n Rail.reset
def setRail (s : State) (n : Nat) (r : Rail) : State := { s with rc := { s.rc with rails := vput s.rc.rails n r } }
def phs (s : State) (p : Nat) : Phase := vget s.rc.phases p Phase.reset
def setPhs (s : State) (p : Nat) (x : Phase) : State := { s with rc := { s.rc with phases := vput s.rc.phases p x } }

/-- Offset of rail n's window and of phase p's window (R358). -/
def railBase (n : Nat) : Nat := 0x4100 + 0x80 * n
def phBase (p : Nat) : Nat := 0x4600 + 0x20 * p

/-- A rail or phase field, held between the ends of its range (R357). -/
def rfld (s : State) (n off lo len mn mx : Nat) : Nat := clampN mn mx (fld s (railBase n + off) lo len)

def phaseMask (s : State) (n : Nat) : Nat := fld s (railBase n) 0 12
def minPhases (s : State) (n : Nat) : Nat := rfld s n 0x00 12 3 1 6
def divRatio (s : State) (n : Nat) : Nat := rfld s n 0x04 0 13 1000 8000
def fswKhz (s : State) (n : Nat) : Nat := rfld s n 0x08 0 12 200 2000
def ilimRail (s : State) (n : Nat) : Nat := rfld s n 0x10 0 12 10 3600
def pgMv (s : State) (n : Nat) : Nat := rfld s n 0x18 16 8 5 255

/-- The phases of a mask, in ascending order. -/
def maskPhases (m : Nat) : List Nat := (List.range 12).filter fun p => m.testBit p

/-- The phases of rail n, and those not shed. -/
def railPhases (s : State) (n : Nat) : List Nat := maskPhases (phaseMask s n)
def activePhases (s : State) (n : Nat) : List Nat := (railPhases s n).filter fun p => !(phs s p).shed

/-- A rail is in a state from PRECHECK to STOPPING. -/
def railBusy (r : Rail) : Bool := r.state ≠ .off && r.state ≠ .fault

/-- A rail is switching (Table 7-3). A stop with OFF_MODE = 0 does not pass through STOPPING (R331). -/
def railSwitching (s : State) (n : Nat) : Bool :=
  match (rail s n).state with
  | .softstart => true
  | .regulating => true
  | .slewing => true
  | .stopping => true
  | _ => false

/-- Rail n is a member of the loaded sequence table (R337). -/
def railOwned (s : State) (n : Nat) : Bool :=
  s.seq.state ≠ .empty && s.seq.members.toList.any fun m => match m with
    | some x => x.cfg.mtype = 1 && x.cfg.index = n
    | none => false

/-- A voltage in output mV as a reference of whole sense mV (R332). -/
def refMvOf (s : State) (n v : Nat) : Nat := (roundDiv (v * 1000 : Nat) (divRatio s n)).toNat

/-- A reference in sense volts as output mV, rounded. -/
def outMvOf (s : State) (n : Nat) (r : Rat) : Nat :=
  let x := r * (divRatio s n : Nat)
  (roundDiv x.num x.den).toNat

/-- The target as a reference in sense volts. -/
def targetRef (s : State) (n : Nat) : Rat := (refMvOf s n (rail s n).target : Nat) / (1000 : Rat)

/-- The present reference in whole sense mV, for comparisons with measured mV. -/
def refMv (r : Rail) : Rat := r.ref * 1000

/-! ### STG_EN (R316, R354, Table 1-5) -/

/-- Group g of the smart stages (PH0–PH5, PH6–PH11). -/
def groupMask (g : Nat) : Nat := if g = 0 then 0x03F else 0xFC0

/-- The level of STG_ENg. -/
def stgEn (s : State) (g : Nat) : Bool :=
  domOn s 10 && !s.flt.rootOverride && !(s.rc.tmonShdn && flag s 0x4000 0) &&
  !(s.flt.faultState && flag s 0x4000 (16 + g)) &&
  (List.range 8).any fun n => (phaseMask s n &&& groupMask g ≠ 0) &&
    (railBusy (rail s n) || ((rail s n).state = .fault && (rail s n).ovLow))

/-! ### Events (R355, Table 7-9) -/

/-- Raise EV32 + n with the STATE after the event. A measurement the command does not carry is a free value (log 24). -/
def railEventAs (s : State) (n : Nat) (st : RailState) (kind sub phases : Nat) (m : Option RailMeas) : State :=
  let w := Config.freeMeasure s.free
  let mv := match m with | some x => x.mv.toNat | none => bitsOf w 0 16
  let ia := match m with | some x => x.ia.toNat | none => bitsOf w 16 16
  let s1 := if m.isSome then s else takeFree s
  raise s1 (32 + n) (pack 64 [(0, 4, kind), (4, 4, sub), (8, 12, phases), (20, 3, st.code), (32, 16, mv), (48, 16, ia)])

/-- Raise EV32 + n of an event that has left the rail in its present state. -/
def railEvent (s : State) (n kind sub phases : Nat) (m : Option RailMeas) : State := railEventAs s n (rail s n).state kind sub phases m

/-- PG takes the value 0, with its event when it changes. -/
def losePg (s : State) (n : Nat) (m : Option RailMeas) : State :=
  if (rail s n).pg then railEvent (setRail s n { rail s n with pg := false }) n 2 0 (phaseMask s n) m else s

/-- Phases of a rail take a PWM level and leave rotation. -/
def drivePhases (s : State) (n : Nat) (v : Pwm) : State :=
  forEach (railPhases s n) (fun p q => setPhs q p { phs q p with pwm := v }) s

/-- The LIVE writes and the captured commit of a rail's window and phases take effect (R18, R357). -/
def railBoundary (s : State) (n : Nat) : State :=
  let mine := fun off => (railBase n ≤ off && off < railBase n + 0x80) ||
    (railPhases s n).any fun p => phBase p ≤ off && off < phBase p + 0x20
  { s with regs := (s.regs.applyLate s.otp mine).applyCaptured s.otp mine
           rc := { s.rc with rails := vput s.rc.rails n { rail s n with commit := false } } }

/-- A mode chosen by RAIL_MODE takes effect and its commands complete (R336). -/
def applyMode (s : State) (n : Nat) : State :=
  forEach (rail s n).waitMode (fun e q =>
    complete (setRail q n { rail q n with mode := e.2, burst := (rail q n).burst && e.2 = .autoBurst, asleep := (rail q n).asleep && e.2 = .autoBurst }) e.1 stSuccess 0) (setRail s n { rail s n with waitMode := [] })

/-- A rail that stops switching: waiting LIVE writes and a mode take effect at once (R336, R357). -/
def railSettle (s : State) (n : Nat) : State := if railSwitching s n then s else applyMode (railBoundary s n) n

/-! ### Faults (R346, R347) -/

/-- The fault source of a rail fault reason (Table 7-7, Table 11-1). -/
def reasonLine (reason n : Nat) : Nat :=
  (match reason with | 1 => 13 | 2 => 9 | _ => 11) + (if 4 ≤ n then 1 else 0)

/-- The state in which a row finds a rail: one whose rail entered FAULT in the same CLK_REG cycle finds it as it was (R346). -/
def stateAt (r : Rail) (cycle : Nat) : RailState := if r.state = .fault && r.faultCycle = some cycle then r.faultFrom else r.state

/-- A further reason of the cycle in which the rail entered FAULT: its line too is asserted, REASON keeps the highest (R346), and an
over-voltage among them drives the phases low whatever the reason recorded (R343). -/
def railFaultToo (s : State) (n reason phases : Nat) (m : Option RailMeas) : State :=
  let r := rail s n
  let s1 := assertLine s (reasonLine reason n) (maskOf 32 n 1)
  let mv := match m with | some x => x.mv.toNat | none => r.faultMv
  let s2 := if reason < r.reason then setRail s1 n { r with reason := reason, faultPhases := phases, faultMv := mv } else s1
  if reason = 2 && !r.ovLow then drivePhases (setRail s2 n { rail s2 n with ovLow := true, lowCycles := 0, faultMv := mv }) n .low else s2

/-- A rail that switches no more reports 0 for current and frequency, and so do its phases (R356). -/
def railQuiet (s : State) (n : Nat) : State :=
  forEach (railPhases s n) (fun p q => setPhs q p { phs q p with iPh := 0, fswKhz := 0, msCur := 0, msPulses := 0 })
    (setRail s n { rail s n with iout := 0, fswMeas := 0, msCur := 0, msPulses := 0 })

/-- Entry to FAULT: the event, the error line, and the end of the rail's waiting commands. -/
def railFault (s : State) (n reason phases : Nat) (m : Option RailMeas) (cycle : Option Nat) : State :=
  let r := rail s n
  if r.state = .fault then railFaultToo s n reason phases m
  else
    let mv := match m with | some x => x.mv.toNat | none => bitsOf (Config.freeMeasure s.free) 0 16
    let s0 := if m.isSome then s else takeFree s
    let s1 := setRail s0 n { r with
      state := .fault, reason := reason, faultCycle := cycle, faultFrom := r.state, faultMv := mv, faultPhases := phases, ramp := none
      burst := false, asleep := false, ovLow := reason = 2, lowCycles := 0, waitSet := none, waitOn := [], waitOff := [], after := .stay
      ilimActive := false }
    let s2 := railQuiet (drivePhases (losePg s1 n m) n (if reason = 2 then .low else .tri)) n
    let s3 := railEvent s2 n 3 reason (phaseMask s2 n) m
    let s4 := assertLine s3 (reasonLine reason n) (maskOf 32 n 1)
    let s5 := match r.waitSet with | some t => complete s4 t stAborted 0 | none => s4
    let s6 := completeAll s5 r.waitOff stSuccess 0
    railSettle (completeAll s6 r.waitOn stRefused 0) n

/-! ### Starts and stops (R315, R326, R331, R335) -/

/-- The status of the first failing row of Table 7-1; none when every check passes. -/
def startCheck (s : State) (n : Nat) : Option Nat :=
  let mask := phaseMask s n
  let cnt := (maskPhases mask).length
  let shared := (List.range 8).any fun j => j ≠ n && railBusy (rail s j) && phaseMask s j &&& mask ≠ 0
  let dcrBad := (maskPhases mask).any fun p => flag s (phBase p) 0 && divRatio s n ≠ 1000
  if mask = 0 then some stNotPresent
  else if 6 < cnt || shared || cnt < minPhases s n || dcrBad || (rail s n).target = 0 then some stRefused
  else none

/-- Begin a start that has passed its checks: PRECHECK, or FAULT while TMON_SHDN holds the stages off (R316, R326, R345). -/
def railBegin (s : State) (n : Nat) (bySeq : Bool) : State :=
  let r := rail s n
  let wake := (List.range 2).any fun g => decide (phaseMask s n &&& groupMask g ≠ 0) && !stgEn s g
  let s1 := setRail s n { r with
    state := .precheck, reason := 0, faultCycle := none, faultMv := 0, faultPhases := 0, ref := 0, ramp := none, preHold := false, preCycles := 0
    wake := wake, sinceTarget := 0, pgIn := 0, pgOut := 0, ovRun := 0, uvRun := 0, ccmPulses := 0, reachedTarget := false
    burst := false, asleep := false, burstPulses := 0, pulseCur := [], burstNow := (0, 0), burstLast := none, lastPhase := none, iLp := 0
    vInt := 0, blank := 0, kf := 0, trimCycles := 0, trimPulses := 0, trimOk := true, ovLow := false
    ilimActive := false, ilimRaised := false, ilimCycles := 0, ilimHeld := 0, after := .stay, bySeq := bySeq, started := true }
  let s2 := forEach (railPhases s1 n) (fun p q => setPhs q p { Phase.reset with iPh := (phs q p).iPh, fswKhz := (phs q p).fswKhz, vinMv := (phs q p).vinMv }) s1
  if s2.rc.tmonShdn && flag s2 0x4000 0 then railFault s2 n 3 0 none none else s2

/-- A start request: the state, and the status of a refusal (R315). -/
def railStart (s : State) (n : Nat) (bySeq : Bool) : State × Option Nat :=
  match startCheck s n with
  | some st => (if st = stRefused then { s with rc := { s.rc with cfgErr := true } } else s, some st)
  | none => (railBegin s n bySeq, none)

/-- The rail reaches OFF: its waiting offs complete; a start held behind the stop follows (R331, R335). -/
def railOff (s : State) (n : Nat) : State :=
  let r := rail s n
  let s1 := setRail s n { r with state := .off, ref := 0, ramp := none, burst := false, asleep := false, ovLow := false,
                                 ilimActive := false, waitOff := [], after := .stay, safeActive := false }
  let s2 := railSettle (completeAll (railQuiet (drivePhases s1 n .tri) n) r.waitOff stSuccess 0) n
  if r.after = .start then
    match railStart s2 n r.bySeq with
    | (s3, some st) => completeAll (setRail s3 n { rail s3 n with waitOn := [] }) (rail s3 n).waitOn st 0
    | (s3, none) => s3
  else s2

/-- A stop under R331: pending RAIL_SET_VOLTAGE and RAIL_ENABLE on end with ABORTED (R335). -/
def railStop (s : State) (n : Nat) : State :=
  let r := rail s n
  match r.state with
  | .off => s
  | .fault => railOff (setRail s n { r with after := .stay }) n
  | .stopping => completeAll (setRail s n { r with after := .stay, waitOn := [] }) r.waitOn stAborted 0
  | _ =>
    let ramps := flag s (railBase n) 16 && r.state ≠ .precheck
    let s0 := losePg (setRail s n { r with state := if ramps then .stopping else .off, waitSet := none, waitOn := [], burst := false, asleep := false, after := .stay,
                                           ramp := some (0, .off), ccmPulses := 64 }) n none
    let s1 := match r.waitSet with | some t => complete s0 t stAborted 0 | none => s0
    let s2 := completeAll s1 r.waitOn stAborted 0
    if ramps then s2 else railOff s2 n

/-! ### Safe profiles (R353, R354) -/

/-- Every pending rail command completes with ABORTED. -/
def railAbort (s : State) (n : Nat) : State :=
  let r := rail s n
  let s1 := setRail s n { r with waitSet := none, waitOn := [], waitOff := [], waitMode := [] }
  let ts := (match r.waitSet with | some t => [t] | none => []) ++ r.waitOn ++ r.waitOff ++ r.waitMode.map Prod.fst
  completeAll s1 ts stAborted 0

/-- A ramp from the present reference to the target; a lowering one runs in continuous conduction, and any ramp ends a burst (R339, R340). -/
def rampTo (s : State) (n : Nat) (slew : Slew) : State :=
  let r := rail s n
  setRail s n { r with ramp := some (targetRef s n, slew), preHold := false
                       ccmPulses := if targetRef s n < r.ref then 64 else r.ccmPulses, burst := false, asleep := false }

/-- SAFE_STG takes the rail's phases: they go tri-state at once and the rail is OFF, out of FAULT too (R354). -/
def railStgOff (s : State) (n : Nat) : State :=
  railOff (losePg (setRail s n { rail s n with after := .stay, state := .off }) n none) n

/-- A group whose SAFE_STG is 1 holds a phase of the rail. -/
def railStgSafe (s : State) (n : Nat) : Bool :=
  (List.range 2).any fun g => flag s 0x4000 (16 + g) && phaseMask s n &&& groupMask g ≠ 0

/-- The rail's part of the fault state is noted. -/
def railSafeNote (s : State) (n : Nat) : State :=
  railEvent (setRail s n { rail s n with safeActive := true }) n 8 0 (phaseMask s n) none

/-- Apply the safe profile of a rail (Table 7-8); its held start is aborted with its command (R353). -/
def railSafe (n : Nat) (s : State) : State :=
  let s1 := railAbort s n
  let s0 := setRail s1 n { rail s1 n with after := .stay }
  let r := rail s0 n
  if railStgSafe s0 n && r.state ≠ .off then (if r.state = .fault then railStgOff s0 n else railSafeNote (railStgOff s0 n) n)
  else if !railBusy r then s0
  else
    let running := r.state = .regulating || r.state = .slewing
    railSafeNote (
      match fld s0 (railBase n + 0x24) 0 2 with
      | 1 => if running then setRail s0 n { r with state := .regulating, ramp := none } else s0
      | 2 =>
        let boot := fld s0 (railBase n + 0x4C) 0 16
        if running then
          rampTo (setRail s0 n { r with target := boot, state := .slewing }) n .ss
        else if r.state = .precheck || r.state = .softstart then
          (let s2 := setRail s0 n { r with target := boot }
           if r.state = .softstart then rampTo s2 n .ss else s2)
        else s0
      | _ => railStop s0 n) n

/-- SAFE_STG has been written in the fault state: the rails of a group that it takes go off (R354). -/
def railStgWritten (s : State) : State :=
  if s.flt.faultState then
    forUpTo 8 (fun n q => if railStgSafe q n && (rail q n).state ≠ .off then railStgOff q n else q) s
  else s

/-- Phases that belong to no rail in a state other than OFF are tri-state (R314). -/
def phasesFree (s : State) : State :=
  forUpTo 12 (fun p q =>
    if (List.range 8).any fun n => (rail q n).state ≠ .off && (phaseMask q n).testBit p then q
    else setPhs q p { phs q p with pwm := .tri }) s

/-- Rail control after PD_REGC comes on: every field at reset, targets and modes from BOOT (R333, R336, R359). -/
def railBoot (s : State) : State :=
  { s with rc := { RailCtl.reset with rails := Vector.ofFn fun (n : Fin 8) =>
      { Rail.reset with target := fld s (railBase n.val + 0x4C) 0 16
                        mode := match fld s (railBase n.val + 0x4C) 16 2 with | 1 => .autoBurst | 2 => .diode | _ => .continuous } } }

/-- PD_REGC loses its supply or goes off: rails stop, every waiting rail command ends with ABORTED, no event is raised (R359). -/
def railLost (s : State) : State :=
  let s1 := forUpTo 8 (fun n q => railAbort q n) s
  { s1 with rc := RailCtl.reset, regs := s1.regs.drop (fun off => 0x4000 ≤ off && off < 0x5000) }

/-! ### The loop (R318–R323, R338–R342) -/

/-- V_in of a phase in volts (R318). -/
def phaseVin (s : State) (n p : Nat) : Rat :=
  let xs := (phs s p).vin
  if xs.length < 16 then (rfld s n 0x04 16 16 4500 16000 : Nat) / (1000 : Rat)
  else (xs.foldl (· + ·) 0 : Nat) / ((1000 * xs.length : Nat) : Rat)

/-- Phase inductance in H. -/
def phaseL (s : State) (p : Nat) : Rat := (clampN 1 255 (fld s (phBase p) 8 8) : Nat) / (100000000 : Rat)

/-- Hold a rational between two ends. -/
def clampQ (lo hi v : Rat) : Rat := if v < lo then lo else if hi < v then hi else v

/-- Resolve a time to 125 ps, to the nearest (log 25). -/
def to125ps (t : Rat) : Rat := (roundQ (t * 8000000000) : Rat) / 8000000000

/-- The on-time of phase p for its current in A (R320). -/
def onTime (s : State) (n p : Nat) (i : Rat) : Rat :=
  let f : Rat := (fswKhz s n * 1000 : Nat)
  let vOut := (rail s n).ref * ((divRatio s n : Nat) / (1000 : Rat))
  let rl : Rat := (fld s (railBase n + 8) 16 16 : Nat) / (1000000 : Rat)
  let t := (vOut + i * rl) / (phaseVin s n p * f) * (1 + (rail s n).kf) * (1 + (phs s p).bal)
  to125ps (clampQ (20 / 1000000000) (1 / f - 80 / 1000000000) t)

/-- The modelled ripple ΔI_p (R323). -/
def rippleOf (s : State) (n p : Nat) (ton : Rat) : Rat :=
  (phaseVin s n p - (rail s n).ref * ((divRatio s n : Nat) / (1000 : Rat))) * ton / phaseL s p

/-- ILIM_RAIL ÷ n_cfg in A. -/
def ilimUnit (s : State) (n : Nat) : Rat := (ilimRail s n : Nat) / ((10 * (railPhases s n).length : Nat) : Rat)

/-- VLY_LIM in A (Table 7-12). -/
def vlyLim (s : State) (p : Nat) : Rat := (clampN 10 600 (fld s (phBase p + 8) 0 10) : Nat) / (10 : Rat)

/-- The valley limit of phase p in A (R341). -/
def valleyLimit (s : State) (n p : Nat) (ton : Rat) : Rat :=
  let b := ilimUnit s n - rippleOf s n p ton / 2
  if vlyLim s p < b then vlyLim s p else b

/-- The ramp under way lowers the reference. -/
def lowering (r : Rail) : Bool := match r.ramp with | some (t, _) => decide (t < r.ref) | none => false

/-- Continuous conduction: a falling ramp, whatever the mode, and 64 pulses after it, a stop, and the mode once the reference has reached
the target (R328, R331, R340). -/
def continuousNow (r : Rail) : Bool :=
  if lowering r || r.state = .stopping || 0 < r.ccmPulses then true
  else if r.state = .softstart && !r.reachedTarget then false
  else r.mode = .continuous

/-! ### Phase currents (R317) -/

/-- The temperature T of Table 7-2 in °C. -/
def dcrTemp (s : State) : Rat := if flag s 0x4000 0 && !s.rc.tmonLost then ((s.rc.temp : Int) : Rat) / 10 else 25

/-- The ends of the IMON input: nA in STAGE mode, nV in DCR mode. -/
def imonEnds (s : State) (p : Nat) : Int × Int :=
  if flag s (phBase p) 0 then (-150000000, 150000000) else (-100000, 400000)

/-- The IMON input of a phase in a sample, held within its range. -/
def imonOf (s : State) (x : RailSample) (p : Nat) : Int :=
  clampI (imonEnds s p).1 (imonEnds s p).2 (match x.imon.find? (fun e => e.1 = p) with | some e => e.2 | none => 0)

/-- The IMON input lies at a limit of its range (R348). -/
def imonLimit (s : State) (x : RailSample) (p : Nat) : Bool := imonOf s x p = (imonEnds s p).1 || imonOf s x p = (imonEnds s p).2

/-- I_raw in A (Table 7-2). A DCR of 0 gives a free quotient (log 52). -/
def rawAmps (s : State) (p : Nat) (v : Int) : Rat :=
  if flag s (phBase p) 0 then
    divQ ((v : Rat) / 1000000000) (((fld s (phBase p) 16 16 : Nat) : Rat) / 1000000 * (1 + 39 / 10000 * (dcrTemp s - 25)))
  else (v : Rat) / 5000

/-- A phase's current in A: I_raw × (1 + GAIN_TRIM × 10⁻⁶) + OFFSET × 10 mA (R317). -/
def sampleCur (s : State) (x : RailSample) (p : Nat) : Rat :=
  let trim := rd s (phBase p + 4)
  rawAmps s p (imonOf s x p) * (1 + ((trim.setWidth 16).toInt : Rat) / 1000000) + ((trim.extractLsb' 16 16).toInt : Rat) / 100

/-! ### One CLK_REG cycle (R319–R323, R338–R342) -/

/-- A phase with eight consecutive open cycles, or sense cycles (R349). -/
def shedDue (h : Phase) : Bool := 8 ≤ h.openRun || 8 ≤ h.senseRun

/-- The phases in the order of the rotation after the last one pulsed; only the lowest active one in burst (R319, R339). A phase that is to be
shed starts no cycle more (R349). -/
def rotation (s : State) (n : Nat) : List Nat :=
  let act := (activePhases s n).filter fun p => !shedDue (phs s p)
  if (rail s n).burst then act.take 1
  else match (rail s n).lastPhase with
    | none => act
    | some l => act.filter (fun p => l < p) ++ act.filter (fun p => p ≤ l)

/-- A slew in force, in 0.1 mV/µs of output. -/
def slewOf (s : State) (n : Nat) (k : Slew) : Nat :=
  match k with
  | .ss => rfld s n 0x1C 0 8 1 200
  | .off => rfld s n 0x1C 8 8 1 200
  | .cmd v => v

/-- One CLK_REG cycle's worth of ramp: 4 ns (log 26). -/
def rampStep (s : State) (n : Nat) : State :=
  let r := rail s n
  match r.ramp with
  | none => s
  | some (tgt, k) =>
    -- slew in output mV per µs; 4 ns of it in sense volts
    let d := (slewOf s n k : Rat) / 10 * (4 / 1000000) / ((divRatio s n : Nat) / (1000 : Rat))
    let nx := if r.ref < tgt then (if tgt < r.ref + d then tgt else r.ref + d) else (if r.ref - d < tgt then tgt else r.ref - d)
    setRail s n { r with ref := nx }

/-- The mean of the active phases' latest valley samples. -/
def meanValley (s : State) (n : Nat) : Rat :=
  let act := activePhases s n
  (act.foldl (fun (a : Rat) q => a + (phs s q).valley) 0) / ((if act.length = 0 then 1 else act.length : Nat) : Rat)

/-- The switching cycle of phase `p` that a new pulse ends is checked (R348): the runs of open and of sense cycles after it, for the
valley current `i` and the rail current in A. A cycle that is not checked breaks both runs (log 113). -/
def phaseCheck (s : State) (n p : Nat) (i iRail : Rat) : Nat × Nat :=
  let h := phs s p
  let r := rail s n
  if !h.pulsed || !(r.state = .regulating || r.state = .slewing) || r.burst || h.zero then (0, 0)
  else
    let floor : Rat := (3 * ilimRail s n : Nat) / (100 : Rat)
    let open_ := floor < iRail && i < meanValley s n / 10
    let dI := rippleOf s n p h.ton
    let off := h.curMax - h.curMin - dI
    let sense := h.beyond || dI * 2 / 5 < (if off < 0 then -off else off)
    (if open_ then h.openRun + 1 else 0, if sense then h.senseRun + 1 else 0)

/-- Start a pulse on phase p (R319, R322, R339, R340). -/
def firePulse (s : State) (n p : Nat) (i ton iRail : Rat) : State :=
  let act := activePhases s n
  let s0 := setPhs s p { phs s p with valley := i }
  let runs := phaseCheck s0 n p i iRail
  let s1 := setPhs s0 p { phs s0 p with
    ton := ton, age := 0, pwm := .high, openRun := runs.1, senseRun := runs.2, pulsed := true, zero := i ≤ 0, rest := false, beyond := false
    curMin := i, curMax := i, msPulses := (phs s0 p).msPulses + 1 }
  let b := clampQ (-1 / 5) (1 / 5) ((phs s1 p).bal - (rfld s n 0x10 28 4 0 15 : Nat) / (256 : Rat) * (i - meanValley s1 n) / ilimUnit s n)
  let r := rail s1 n
  let s2 := if continuousNow r && !r.burst then setPhs s1 p { phs s1 p with bal := b } else s1
  setRail s2 n { r with blank := ton / ((if act.length = 0 then 1 else act.length : Nat) : Rat), lastPhase := some p
                        ccmPulses := if lowering r then r.ccmPulses else r.ccmPulses - 1, pulseCur := (iRail :: r.pulseCur).take 64
                        trimPulses := r.trimPulses + 1, msPulses := r.msPulses + 1
                        burstPulses := if r.burst then r.burstPulses + 1 else r.burstPulses }

/-- PWM outputs between pulses: high for t_on, then the low side; in diode emulation tri-state from 0 A to the next pulse and before the
first, in continuous conduction the low side again (R331, R340), and off below −NEG_ILIM (R314, R338, Table 7-11). What R348 asks of the
switching cycle is noted. -/
def driveCycle (s : State) (n : Nat) (x : RailSample) : State :=
  let ccm := continuousNow (rail s n) && !(rail s n).burst
  let neg : Rat := (rfld s n 0x10 16 12 0 4095 : Nat) / (10 : Rat)
  forEach (activePhases s n) (fun p q =>
    let h := phs q p
    let i := sampleCur q x p
    let on := decide (h.age < h.ton)
    let rest := !ccm && (h.rest || !h.pulsed || (!on && decide (i ≤ 0)))
    let v : Pwm := if shedDue h then .tri else if on then .high else if rest || i < -neg then .tri else .low
    setPhs q p { h with
      pwm := v, age := h.age + 4 / 1000000000, rest := rest, zero := h.zero || i ≤ 0
      beyond := h.beyond || i < -ilimUnit q n || 3 / 2 * vlyLim q p < i || imonLimit q x p
      curMin := if i < h.curMin then i else h.curMin, curMax := if h.curMax < i then i else h.curMax, msCur := h.msCur + i }) s

/-- Switch-node samples of on-pulses of at least 40 ns join the phase's last 64 (R318). -/
def takeVin (s : State) (x : RailSample) : State :=
  forEach x.vin (fun e q =>
    if (40 / 1000000000 : Rat) ≤ (phs q e.1).ton then setPhs q e.1 { phs q e.1 with vin := (e.2 :: (phs q e.1).vin).take 64 } else q) s

/-- The sum of the active phases' currents in A. -/
def railAmps (s : State) (n : Nat) (x : RailSample) : Rat := (activePhases s n).foldl (fun (a : Rat) p => a + sampleCur s x p) 0

/-- A pulse of phase `p` is due, at the rail's next switching cycle: waiting LIVE values, a commit and a mode take effect (R18, R336, R357).
A stop whose OFF_MODE has become 0 ends (R331). The check of the cycle that a pulse ends comes first: its eighth open or sense cycle keeps the
phase from another (R349). -/
def pulseDue (s0 : State) (n p : Nat) (x : RailSample) (iRail : Rat) : State :=
  let s := applyMode (railBoundary s0 n) n
  if (rail s n).state = .stopping && !flag s (railBase n) 16 then railOff s n
  else
    let i := sampleCur s x p
    let runs := phaseCheck (setPhs s p { phs s p with valley := i }) n p i iRail
    if 8 ≤ runs.1 || 8 ≤ runs.2 then setPhs s p { phs s p with valley := i, openRun := runs.1, senseRun := runs.2 }
    else firePulse s n p i (onTime s n p i) iRail

/-- The loop of a switching rail (R319). -/
def railLoop (n : Nat) (x : RailSample) (s : State) : State :=
  let s1 := takeVin (rampStep s n) x
  let iRail := railAmps s1 n x
  let r := rail s1 n
  let dt : Rat := 4 / 1000000000
  let injTau : Rat := (rfld s1 n 0x0C 16 8 1 100 : Nat) / (1000000 : Rat)
  let intTau : Rat := (rfld s1 n 0x0C 24 8 1 255 : Nat) / (1000000 : Rat)
  let rInj : Rat := (rfld s1 n 0x0C 0 16 1 65535 : Nat) / (1000000 : Rat)
  let k : Rat := (divRatio s1 n : Nat) / (1000 : Rat)
  let vS : Rat := (x.vs : Int) / (1000000 : Rat)
  let iLp := r.iLp + (iRail - r.iLp) * dt / injTau
  let vInj := rInj * (iRail - iLp) / k
  let vInt := clampQ (-1 / 20) (1 / 20) (r.vInt + (r.ref - vS) * dt / intTau)
  let hold := r.preHold && r.ref < vS
  let s2 := setRail s1 n { r with iLp := iLp, vInt := vInt, preHold := hold }
  let s3 :=
    if vS + vInj < r.ref + vInt && r.blank = 0 && !hold then
      match (rotation s2 n).find? fun p =>
        let i := sampleCur s2 x p
        (80 / 1000000000 : Rat) ≤ (phs s2 p).age - (phs s2 p).ton && i < valleyLimit s2 n p (onTime s2 n p i) with
      | some p => pulseDue s2 n p x iRail
      | none => setRail s2 n { rail s2 n with ilimActive := true, ilimCycles := 0 }
    else s2
  if !railSwitching s3 n then s3 else
  let s4 := driveCycle s3 n x
  let b := (rail s4 n).blank - dt
  setRail s4 n { rail s4 n with blank := if b < 0 then 0 else b, msCur := (rail s4 n).msCur + iRail
                                burstNow := ((rail s4 n).burstNow.1 + iRail, (rail s4 n).burstNow.2) }

/-- A sense voltage in mV lies within ±PG_MV of the reference. -/
def pgInside (s : State) (n : Nat) (mv : Rat) : Bool :=
  let p : Rat := (pgMv s n : Nat)
  refMv (rail s n) - p ≤ mv && mv ≤ refMv (rail s n) + p

/-- The over-voltage limit in sense mV of a rail in state `st` (R343). -/
def ovLimit (s : State) (n : Nat) (st : RailState) : Rat :=
  let r := rail s n
  let base : Rat := if st = .precheck || st = .softstart then (r.target * 1000 : Nat) / ((divRatio s n : Nat) : Rat) else refMv r
  let a : Rat := (rfld s n 0x18 0 11 400 2000 : Nat)
  let b := base + (rfld s n 0x14 0 10 10 500 : Nat)
  if a < b then a else b

/-- The under-voltage limit in sense mV (R344). -/
def uvLimit (s : State) (n : Nat) : Rat := refMv (rail s n) - (rfld s n 0x14 10 10 10 500 : Nat)

/-- CLK_REG cycles in 1 µs and in 1 ms (Table 1-3: 250 MHz). -/
def usCycles : Nat := 250
def msCycles : Nat := 250000

/-- What a rail times, one CLK_REG cycle on (R321, R326, R329, R330, R339, R342–R344, R356). The 16 µs to PG run from the reference's
reaching the target (R329, Table 7-14). -/
def railWatch (n : Nat) (x : RailSample) (s : State) : State :=
  let r := rail s n
  let mv : Rat := (x.vs : Int) / (1000 : Rat)
  let inside := pgInside s n mv
  let gaining := inside && (r.state = .regulating || r.state = .slewing || (r.state = .softstart && r.ref = targetRef s n))
  let next := fun (b : Bool) (k : Nat) => if b then k + 1 else 0
  let held := r.ilimActive && r.ilimCycles + 1 < msCycles
  setRail s n { r with
    vs := x.vs, preCycles := next (r.state = .precheck) r.preCycles, sinceTarget := next r.reachedTarget r.sinceTarget
    pgIn := next gaining r.pgIn, pgOut := next (!inside) r.pgOut
    ovRun := next (railBusy r && ovLimit s n r.state < mv) r.ovRun, uvRun := next (mv < uvLimit s n) r.uvRun
    lowCycles := next r.ovLow r.lowCycles, ilimActive := held, ilimRaised := r.ilimRaised && held, ilimCycles := next held r.ilimCycles
    ilimHeld := next held r.ilimHeld
    trimCycles := r.trimCycles + 1, trimOk := r.trimOk && r.state = .regulating && continuousNow r && !r.burst && !r.ilimActive
    msCycles := r.msCycles + 1, msVs := r.msVs + x.vs, burstNow := (r.burstNow.1, r.burstNow.2 + 1) }

/-- Time goes on for the phases and the blanking of a sleeping rail (R319, R339). -/
def railSleep (s : State) (n : Nat) : State :=
  let b := (rail s n).blank - 4 / 1000000000
  forEach (activePhases s n) (fun p q => setPhs q p { phs q p with age := (phs q p).age + 4 / 1000000000 })
    (setRail s n { rail s n with blank := if b < 0 then 0 else b })

/-- One CLK_REG cycle of a rail; a sleeping or silent one only watches. -/
def railCycle (n : Nat) (x : RailSample) (s : State) : State :=
  let s1 := railWatch n x s
  if !railSwitching s1 n then s1 else if (rail s1 n).asleep then railSleep s1 n else railLoop n x s1

/-! ### TMON (R345) -/

/-- TMON in 0.1 °C from mV: 600 mV at 0 °C, 8 mV/°C. -/
def tmonTemp (mv : Nat) : Int := roundDiv (((mv : Int) - 600) * 10) 8

/-- Raise an event of each rail in a state from PRECHECK to STOPPING. -/
def eachBusy (s : State) (kind : Nat) : State :=
  forUpTo 8 (fun n q => if railBusy (rail q n) then railEvent q n kind 0 (phaseMask q n) none else q) s

/-- TMON_EN takes the value 0: the flags clear and the hold of STG_EN is released. -/
def tmonOff (s : State) : State := { s with rc := { s.rc with tmonWarn := false, tmonShdn := false, tmonLost := false } }

end Sys2Proof.Machine
end

