-- ==== Sys2Proof/Machine/SeqOps.lean ====
section
/-! DEFINITION. Operations of the sequencer, of WDI supervision and of the Flock bus (08_sequencing_and_flock.md), and the
hold of Goose 0 by HOST_RST_N (R514). -/

namespace Sys2Proof.Machine

/-! ### HOST_RST_N (Table 1-5, R362, R514) -/

/-- HOST_RST_N is asserted by any requester. -/
def hostRstLow (s : State) : Bool := s.seq.hostRst || s.seq.wdiPulse || s.g0Reset

/-- The boot length of a Goose instance (R503, R506). -/
def gooseBootMs (s : State) (i : Nat) : Nat :=
  let v := if i = 0 then fld s 0x7184 0 16 else fld s 0x7184 16 16
  if v < 100 then 100 else v

/-- A period starts: check-ins are cleared (R508). -/
def goosePeriod (s : State) (i : Nat) (g : Goose) (boot : Bool) : Goose :=
  { g with boot := boot, period := if boot then gooseBootMs s i else g.nextPeriod, mask := if boot then g.mask else g.nextMask,
           t := 0, checked := 0, warned := false, violated := false, started := true, hold := false }

/-- Look at HOST_RST_N again: Goose 0 is held while it is asserted and begins a boot period at its release (R514). -/
def hostRstUpdate (s : State) : State :=
  let g := s.goose0
  if !g.started then s
  else if hostRstLow s then { s with goose0 := { g with hold := true } }
  else if g.hold then { s with goose0 := goosePeriod s 0 g true }
  else s

/-! ### Members (R360–R363) -/

def member (s : State) (i : Nat) : Option Member := vget s.seq.members i none
def setMember (s : State) (i : Nat) (m : Member) : State :=
  { s with seq := { s.seq with members := vput s.seq.members i (some m) } }

/-- The member has a PG (Table 8-1). -/
def hasPg (c : SeqRec) : Bool := c.mtype = 1 || (c.mtype = 2 && c.pgPin < 8)

/-- The PG of a member at its active level. -/
def pgRaw (s : State) (c : SeqRec) : Bool :=
  if c.mtype = 1 then (rail s c.index).pg
  else if c.mtype = 2 && c.pgPin < 8 then bitOf s.seq.levels c.pgPin = c.pgHigh
  else false

/-- How an EN pin is driven for its active or inactive level (R363). -/
def enDrive (c : SeqRec) (active : Bool) : PinDrive :=
  let high := active = c.enHigh
  if c.enOd then (if high then .released else .drivenLow) else (if high then .drivenHigh else .drivenLow)

/-- Drive the EN pin of a member. -/
def driveEn (s : State) (c : SeqRec) (active : Bool) : State :=
  if c.mtype = 2 && c.enPin < 8 then { s with seq := { s.seq with pins := vput s.seq.pins c.enPin (enDrive c active) } } else s

/-- The sequencer asserts or releases HOST_RST_N. -/
def seqHostRst (s : State) (v : Bool) : State := hostRstUpdate { s with seq := { s.seq with hostRst := v } }

/-- RAIL_ENABLE on by the sequencer, without a completion (R337, Table 7-6). -/
def railSeqOn (s : State) (n : Nat) : State :=
  match (rail s n).state with
  | .off => (railStart s n true).1
  | .stopping => setRail s n { rail s n with after := .start, bySeq := true }
  | _ => s

/-- Rail control runs: PD_REGC is on and CLK_REG alive; otherwise its rails hold what they are (R24, R40). -/
def railRuns (s : State) : Bool := domOn s 10 && rootAlive s

/-- The on action and the off action of a member (Table 8-1). -/
def onAction (s : State) (c : SeqRec) : State :=
  match c.mtype with
  | 1 => if railRuns s then railSeqOn s c.index else s
  | 2 => driveEn s c true
  | 3 => seqHostRst s false
  | _ => s
def offAction (s : State) (c : SeqRec) : State :=
  match c.mtype with
  | 1 => if railRuns s then railStop s c.index else s
  | 2 => driveEn s c false
  | 3 => seqHostRst s true
  | _ => s

/-- A mask of the members that pass a test. -/
def memberMask (s : State) (p : Member → Bool) : Nat :=
  ((List.range 16).filter fun i => match member s i with | some m => p m | none => false).foldl (fun a i => a + 2 ^ i) 0

/-- SEQ_MEMBERS.ON. -/
def membersOn (s : State) : Nat := memberMask s (fun m => m.on)

/-- The loaded table has a rail member. -/
def hasRailMember (s : State) : Bool := memberMask s (fun m => m.cfg.mtype = 1) ≠ 0

/-- Change every member. -/
def mapMembers (s : State) (f : Member → Member) : State :=
  { s with seq := { s.seq with members := s.seq.members.map (Option.map f) } }

/-! ### WDI (R383–R385) -/

def wdiTimeout (s : State) : Nat := clampN 1 10000 (fld s 0x5020 0 14)
def wdiFirst (s : State) : Nat := fld s 0x5024 0 16 + wdiTimeout s

/-- WDI is armed while WDI_EN is 1 and the state is UP. -/
def wdiUpdate (s : State) : State :=
  let on := flag s 0x5020 31 && s.seq.state = .up
  if on && !s.seq.wdiArmed then { s with seq := { s.seq with wdiArmed := true, wdiDue := some (s.seq.us + 1000 * wdiFirst s) } }
  else if !on && s.seq.wdiArmed then { s with seq := { s.seq with wdiArmed := false, wdiDue := none } }
  else s

/-- The sequencer takes a state. -/
def seqState (s : State) (x : SeqState) : State := wdiUpdate { s with seq := { s.seq with state := x } }

/-! ### The Flock bus: role and frames (R389–R393) -/

/-- ROLE: 1 bellwether, 2 follower, otherwise NONE. -/
def flkRole (s : State) : Nat := let r := fld s 0x5040 6 2; if r = 3 then 0 else r
def flkAddr (s : State) : Nat := fld s 0x5040 0 5

/-- The followers expected: the bellwether's own bit is ignored. -/
def flkExpect (s : State) : BitVec 32 := rd s 0x5044 &&& ~~~ maskOf 32 (flkAddr s) 1

/-- CRC-8 of R391. -/
def crc8 (bs : List Byte) : Nat := bs.foldl (crcByteL 8 0x07) 0

/-- A frame: three header bytes, payload and CRC (R391). -/
def flkFrame (ftype : Nat) (bcast : Bool) (addr : Nat) (arm : Byte) (payload : List Byte) : List Byte :=
  let h := [BitVec.ofNat 8 (ftype + 16 * b2n bcast), BitVec.ofNat 8 addr, arm] ++ payload
  h ++ [BitVec.ofNat 8 (crc8 h)]

def flkSend (s : State) (bs : List Byte) : State := { s with flk := { s.flk with sent := bs } }

/-- EV42. -/
def ev42 (s : State) (kind addr : Nat) : State := raise s 42 (pack 64 [(0, 4, kind), (4, 5, addr)])

/-! ### Sequences (R370–R378) -/

/-- SEQ_CLOCK where the command carries it, else a free value (log 24). -/
def seqClock (s : State) (clk : Option Word) : Word := clk.getD (Config.freeMeasure s.free)

/-- EV41 (R382). -/
def ev41 (s : State) (kind i react : Nat) (clk : Option Word) : State :=
  raise (takeFree s) 41 (pack 64 [(0, 4, kind), (4, 4, i), (8, 2, react), (10, 3, clampN 0 7 s.seq.retries), (32, 32, (seqClock s clk).toNat)])

/-- `d` µs have passed at the instant `us` since an instant kept. One from before the last common start stands aside: when that start came is
not known, and the row itself says that the time has passed (log 114). -/
def waited (at_ : Option Nat) (d us : Nat) : Bool := match at_ with | some a => decide (a + d ≤ us) | none => true

/-- The bellwether announces and drives an FSYNC edge for a bus-wide down (R396). -/
def flkDown (s : State) (upAfter : Bool) : State :=
  { s with flk := { s.flk with job := .down upAfter, sent := flkFrame 3 true 0 s.flk.armSeq [], driveFsync := true } }

/-- FSYNC has been read: high ends its having been stuck (R402). -/
def fsyncRead (s : State) (high : Bool) : State := { s with flk := { s.flk with fsyncStuck := s.flk.fsyncStuck && !high } }

/-- The bellwether has announced a down whose edge is still to come (R396). -/
def downDue (s : State) : Bool := flkRole s = 1 && (match s.flk.job with | .down _ => true | _ => false)

/-- Drive the FSYNC edge when FSYNC reads high: every expected follower reports armed (R395), or a down still waits for an edge that FSYNC
held low kept from coming (R402; DESIGN CHOICE, log 124). -/
def flkTryEdge (s : State) : State :=
  if ((s.flk.job = .arming && flkExpect s &&& ~~~ s.flk.armedBy = 0) || downDue s) && !s.flk.fsyncStuck then { s with flk := { s.flk with driveFsync := true } } else s

/-- A PING of every expected follower. -/
def flkPings (s : State) (a : Byte) : List Byte :=
  (List.range 32).flatMap fun i => if bitOf (flkExpect s) i then flkFrame 1 false i a [] else []

/-- The bellwether arms the followers with a new ARM_SEQ, never 0, and PINGs each (R395, log 29). -/
def flkArm (s : State) : State :=
  let a : Byte := if s.flk.armSeq = 255 then 1 else s.flk.armSeq + 1
  flkTryEdge { s with flk := { s.flk with job := .arming, armSeq := a, armAt := some s.seq.us, armedBy := 0, pinged := flkExpect s
                                          sent := flkFrame 2 true 0 a [] ++ flkPings s a } }

/-- The up request of the bellwether completes once every expected follower reports UP, or with TIMEOUT on SEQ_FAULT
(R398). -/
def flkUpCheck (s : State) : State :=
  if s.flk.job = .up && flkExpect s &&& ~~~ s.flk.up = 0 then
    completeAll { s with flk := { s.flk with job := .none }, seq := { s.seq with ups := [] } } s.seq.ups stSuccess (BitVec.ofNat 64 (membersOn s))
  else s

/-- The end of an up sequence: no member waits and no slot is open (R373, Table 8-5 row 0, R381). -/
def seqUpEnd (s : State) : State :=
  if s.seq.state = .upRunning && memberMask s (fun m => m.state = .waitOn || m.slot) = 0 then
    let s1 := seqState (if s.seq.upFault then s else { s with seq := { s.seq with retries := 0 } }) .up
    let s2 := raise s1 40 (pack 64 [(0, 16, membersOn s1), (32, 1, 1), (33, 1, b2n s1.seq.viaFlock)])
    -- a down announced on the bus still comes: its start ends what is pending (R377, R396)
    if downDue s2 then s2
    else if s2.seq.upFault then
      completeAll { s2 with seq := { s2.seq with ups := [] }, flk := { s2.flk with job := .none } } s2.seq.ups stTimeout 0
    else if flkRole s2 = 1 then flkUpCheck { s2 with flk := { s2.flk with job := .up } }
    else completeAll { s2 with seq := { s2.seq with ups := [] } } s2.seq.ups stSuccess (BitVec.ofNat 64 (membersOn s2))
  else s

/-- A common start: instants are counted from it. -/
def clockAnew (s : State) : State :=
  { s with seq := { s.seq with us := 0, pulseAt := none }, flk := { s.flk with armAt := none, pollAt := none, heardAt := none }, g0ResetAt := none }

/-- An up sequence starts with this instant as its common start (R370). -/
def seqUpStart (s : State) (flock : Bool) : State :=
  let s1 := mapMembers (clockAnew s) fun m => { m with state := .waitOn, slot := false, pgAt := none, chatters := 0, pgTime := 0, pgSeen := false, faulted := false, on := false }
  seqUpEnd (seqState { s1 with
    seq := { s1.seq with failed := 0, upFault := false, started := true, viaFlock := flock }
    flk := { s1.flk with seqFault := false, armed := false, up := 0 } } .upRunning)

/-- An up sequence is to begin: locally, or bus-wide from the bellwether (R395, R398). Without PD_REGC for a rail member it
is refused (Table 8-4). -/
def seqUpBegin (s : State) (ts : List Ticket) : State :=
  if hasRailMember s && !domOn s 10 then completeAll s ts stRefused 0
  else
    let s1 := { s with seq := { s.seq with ups := s.seq.ups ++ ts } }
    if flkRole s1 = 1 then flkArm s1 else seqUpStart s1 false

/-- The up of DOWN_UP, unless RETRY_MAX retries have been used (R380). -/
def seqRetry (s : State) (ts : List Ticket) : State :=
  if fld s 0x5000 16 3 ≤ s.seq.retries then completeAll s ts stAborted 0
  else seqUpBegin { s with seq := { s.seq with retries := s.seq.retries + 1 } } ts

/-- The end of a down sequence: every member is off or timed out (R375, R378, R380). -/
def seqDownEnd (s : State) : State :=
  if s.seq.state = .downRunning && memberMask s (fun m => m.state = .waitOff || m.state = .switchingOff) = 0 then
    let off := memberMask s (fun m => m.state = .off)
    let to_ := memberMask s (fun m => m.state = .offTimeout)
    let s1 := seqState s .down
    let s2 := raise s1 40 (pack 64 [(0, 16, membersOn s1), (16, 16, to_), (33, 1, b2n s1.seq.viaFlock)])
    let s3 := completeAll { s2 with seq := { s2.seq with downs := [], viaFlock := false } } s2.seq.downs stSuccess
      (pack 64 [(0, 16, off), (16, 16, to_)])
    let q := s3.seq
    let s4 := { s3 with seq := { q with held := false, heldTickets := [], retryUp := false } }
    if s.restart.isSome then completeAll s4 q.heldTickets stAborted 0
    else if q.retryUp then seqRetry s4 q.heldTickets
    else if q.held then seqUpBegin s4 q.heldTickets
    else s4
  else s

/-- A down sequence starts with this instant as its common start; the up in progress ends with ABORTED (R374, R377). -/
def seqDownStart (s : State) (flock : Bool) : State :=
  let ups := s.seq.ups
  let s1 := mapMembers (clockAnew s) fun m =>
    { m with state := match m.state with | .off => .off | .waitOn => .off | .unused => .unused | _ => .waitOff, slot := false, pgAt := none }
  let s2 := seqState { s1 with seq := { s1.seq with ups := [], started := true, viaFlock := flock, offTimeout := 0 }
                               flk := { s1.flk with job := .none, armed := false } } .downRunning
  seqDownEnd (completeAll s2 ups stAborted 0)

/-- A reaction that calls for a down, then for an up (Table 8-5, R384, R399). `up`: 0 none, 1 a retry, 2 an uncounted up. -/
def seqReact (s : State) (up : Nat) : State :=
  if flkRole s = 2 then
    (if up = 0 then { s with flk := { s.flk with reqDown := true } } else { s with flk := { s.flk with reqDownUp := true } })
  else if s.seq.state = .down then
    -- there is nothing to take down: the up follows at once
    (if up = 1 then seqRetry s [] else if up = 2 then seqUpBegin s [] else s)
  else
    let s1 := { s with seq := { s.seq with retryUp := up = 1, held := up = 2 } }
    seqDownStart (if flkRole s1 = 1 then flkDown s1 false else s1) (flkRole s = 1)

/-- FAULT_REACT in force; 3 acts as 1. -/
def faultReact (s : State) : Nat := let r := fld s 0x5000 8 2; if r = 3 then 1 else r

/-- A sequence fault of a member (R372, R380–R382). Kinds: 1 DEADLINE, 2 CHATTER, 3 PG_LOST, 4 RAIL_FAULT. Under EVENT a failed member does
not count as reached on. -/
def seqFault (s : State) (i kind : Nat) (clk : Option Word) : State :=
  match member s i with
  | none => s
  | some m =>
    if m.faulted || !(s.seq.state = .upRunning || s.seq.state = .up) then s
    else
      let react := faultReact s
      let s1 := setMember s i { m with faulted := true, state := .failed, on := m.on && react ≠ 0 }
      let s2 := { s1 with seq := { s1.seq with failed := s1.seq.failed ||| maskOf 16 i 1, upFault := true }
                          flk := { s1.flk with seqFault := true } }
      let s3 := assertLine (ev41 s2 kind i react clk) 25 (pack 32 [(0, 4, kind), (4, 4, i)])
      if react = 0 then s3 else seqReact s3 (if react = 2 then 1 else 0)

/-- A member's PG has counted as good (R371). -/
def pgBecomesGood (s : State) (i : Nat) (clk : Option Word) : State :=
  match member s i with
  | none => s
  | some m =>
    let t := match clk with
      | some c => c.toNat - m.cfg.onDelay
      | none => bitsOf (Config.freeMeasure s.free) 0 16
    setMember (if clk.isSome then s else takeFree s) i
      { m with pgGood := true, pgTime := if m.slot && !m.pgSeen then sat16 t else m.pgTime, pgSeen := m.pgSeen || m.slot }

/-- The PG of a member has changed its level: the debounce starts, a good PG that breaks counts as a chatter (R371). Without
a debounce time its end follows at once. -/
def pgChange (s0 : State) (i : Nat) (clk : Option Word) : State :=
  match member s0 i with
  | none => s0
  | some m0 =>
    let m := { m0 with pgAt := some s0.seq.us }
    let s := setMember s0 i m
    if pgRaw s m.cfg then (if m.cfg.pgDebounce = 0 then pgBecomesGood s i clk else s)
    else
      let chat := m.slot && m.pgGood
      let m1 := { m with pgGood := false, chatters := if chat then m.chatters + 1 else m.chatters }
      let s1 := setMember s i m1
      if chat && m.cfg.chatterLim < m1.chatters then seqFault s1 i 2 clk
      else if !m.slot && m.cfg.pgDebounce = 0 && (m.state = .on || m.state = .failed) then seqFault s1 i 3 clk
      else s1

/-- PG held for PG_DEBOUNCE: good, or lost after the slot has closed (R371, R372). -/
def pgDebounced (s : State) (i : Nat) (clk : Option Word) : State :=
  match member s i with
  | none => s
  | some m =>
    if !hasPg m.cfg || !waited m.pgAt m.cfg.pgDebounce s.seq.us then s
    else if pgRaw s m.cfg then (if m.pgGood then s else pgBecomesGood s i clk)
    else if !m.slot && (m.state = .on || m.state = .failed) then seqFault s i 3 clk
    else s

/-- The instants of the sequence in progress that are still to come, in µs since the common start (R370, R374). -/
def seqInstants (s : State) : List Nat :=
  (List.range 16).flatMap fun i =>
    match member s i with
    | none => []
    | some m =>
      (if s.seq.state = .upRunning then
        (if m.state = .waitOn then [100 * m.cfg.onDelay] else []) ++ (if m.slot then [100 * (m.cfg.onDelay + m.cfg.pgDeadline)] else [])
       else if s.seq.state = .downRunning then
        (if m.state = .waitOff then [100 * m.cfg.offDelay]
         else if m.state = .switchingOff then [100 * (m.cfg.offDelay + m.cfg.offTimeout)] else [])
       else [])

/-- No earlier instant of the sequence is still to come. -/
def seqNext (s : State) (t : Nat) : Bool := (seqInstants s).all fun u => decide (t ≤ u)

/-- The sequence clock has reached `t` µs. -/
def seqAt (s : State) (t : Nat) : State := { s with seq := { s.seq with us := if s.seq.us < t then t else s.seq.us } }

/-- SEQ_CLOCK at an instant: 0.1 ms, saturating (Table 8-7). -/
def clockOf (us : Nat) : Word := BitVec.ofNat 32 (clampN 0 0xFFFFFFFF (us / 100))

/-- The on instant of a member (R361, R370): its action is taken and its slot opens, or closes at once without a PG. -/
def seqOnInstant (s0 : State) (i : Nat) : State :=
  match member s0 i with
  | none => s0
  | some m =>
    if s0.seq.state ≠ .upRunning || m.state ≠ .waitOn || !seqNext s0 (100 * m.cfg.onDelay) then s0
    else
      let s := seqAt s0 (100 * m.cfg.onDelay)
      let clk : Word := BitVec.ofNat 32 m.cfg.onDelay
      if hasPg m.cfg then
        let s1 := onAction (setMember s i { m with state := .inSlot, slot := true }) m.cfg
        if m.pgGood || (pgRaw s1 m.cfg && m.cfg.pgDebounce = 0) then pgBecomesGood s1 i (some clk) else s1
      else
        seqUpEnd (onAction (setMember s i { m with state := .on, on := true, pgGood := true, pgSeen := true }) m.cfg)

/-- The close of a member's slot (R370, R372). -/
def seqSlotClose (s0 : State) (i : Nat) : State :=
  match member s0 i with
  | none => s0
  | some m =>
    if s0.seq.state ≠ .upRunning || !m.slot || !seqNext s0 (100 * (m.cfg.onDelay + m.cfg.pgDeadline)) then s0
    else
      let s := seqAt s0 (100 * (m.cfg.onDelay + m.cfg.pgDeadline))
      let clk : Word := BitVec.ofNat 32 (m.cfg.onDelay + m.cfg.pgDeadline)
      if m.pgGood && !m.faulted then seqUpEnd (setMember s i { m with slot := false, state := .on, on := true })
      else seqUpEnd (seqFault (setMember s i { m with slot := false }) i 1 (some clk))

/-- The off instant of a member (R374). Its PG counts as good until it breaks (R371). -/
def seqOffInstant (s0 : State) (i : Nat) : State :=
  match member s0 i with
  | none => s0
  | some m =>
    if s0.seq.state ≠ .downRunning || m.state ≠ .waitOff || !seqNext s0 (100 * m.cfg.offDelay) then s0
    else
      let s := seqAt s0 (100 * m.cfg.offDelay)
      let atOnce := m.cfg.mtype = 3 || (m.cfg.mtype = 2 && !hasPg m.cfg)
      let s1 := offAction (setMember s i { m with state := if atOnce then .off else .switchingOff, on := false, pgGood := m.pgGood && hasPg m.cfg }) m.cfg
      seqDownEnd s1

/-- The off condition of Table 8-1 holds: a rail OFF with its measured output at or below OFF_MV, a PG pin inactive for the debounce time. -/
def offHolds (s : State) (m : Member) : Bool :=
  if m.cfg.mtype = 1 then (rail s m.cfg.index).state = .off && (rail s m.cfg.index).voutMv ≤ m.cfg.offMv
  else !pgRaw s m.cfg && waited m.pgAt m.cfg.pgDebounce s.seq.us

/-- A member reaches off (R375). -/
def seqOffReached (s : State) (i : Nat) : State :=
  match member s i with
  | none => s
  | some m =>
    if s.seq.state = .downRunning && m.state = .switchingOff && offHolds s m then seqDownEnd (setMember s i { m with state := .off }) else s

/-- A member's OFF_TIMEOUT expires before it has reached off (R374). -/
def seqOffTimeout (s : State) (i : Nat) : State :=
  match member s i with
  | none => s
  | some m =>
    let t := 100 * (m.cfg.offDelay + m.cfg.offTimeout)
    if s.seq.state = .downRunning && m.state = .switchingOff && seqNext s t then
      let s1 := setMember (seqAt s t) i { m with state := .offTimeout }
      seqDownEnd { s1 with seq := { s1.seq with offTimeout := s1.seq.offTimeout ||| maskOf 16 i 1 } }
    else s

/-! ### Requests (R376–R378, R398) -/

/-- An up request by state (Table 8-4). AUTO_UP and the retries carry no ticket. On a bellwether in state DOWN that has announced a down to its
followers it is held as behind a down sequence (R378; DESIGN CHOICE, log 124). -/
def seqUpReq (s : State) (ts : List Ticket) : State :=
  match s.seq.state with
  | .empty => completeAll s ts stRefused 0
  | .down =>
    if s.flk.job = .arming then { s with seq := { s.seq with ups := s.seq.ups ++ ts } }
    else if downDue s then { s with seq := { s.seq with held := true, heldTickets := s.seq.heldTickets ++ ts } }
    else seqUpBegin s ts
  | .upRunning => { s with seq := { s.seq with ups := s.seq.ups ++ ts } }
  | .up =>
    if s.flk.job = .up then { s with seq := { s.seq with ups := s.seq.ups ++ ts } }
    else completeAll s ts stSuccess (BitVec.ofNat 64 (membersOn s))
  | .downRunning => { s with seq := { s.seq with held := true, heldTickets := s.seq.heldTickets ++ ts } }
  | .safe => completeAll s ts stFaultState 0

/-- Cancel an up request that is held behind a down sequence or while the followers arm. -/
def seqCancelHeld (s : State) : State :=
  let ts := s.seq.heldTickets ++ (if s.flk.job = .arming then s.seq.ups else [])
  let s1 := if s.flk.job = .arming then
      { s with flk := { s.flk with job := .none, driveFsync := false, sent := flkFrame 4 true 0 s.flk.armSeq [] }, seq := { s.seq with ups := [] } }
    else s
  completeAll { s1 with seq := { s1.seq with held := false, heldTickets := [], retryUp := false } } ts stAborted 0

/-- A down request by state (Table 8-4). -/
def seqDownReq (s : State) (ts : List Ticket) : State :=
  match s.seq.state with
  | .empty => completeAll s ts stSuccess 0
  | .down => completeAll (seqCancelHeld s) ts stSuccess 0
  | .safe => completeAll s ts stOverridden 0
  | .downRunning =>
    let s1 := seqCancelHeld s
    { s1 with seq := { s1.seq with downs := s1.seq.downs ++ ts } }
  | _ =>
    let s1 := { s with seq := { s.seq with downs := s.seq.downs ++ ts } }
    if flkRole s1 = 1 then flkDown s1 false else seqDownStart s1 false

/-- What an FSYNC falling edge starts (R394, R397). -/
def fsyncEdge (s : State) : State :=
  if flkRole s = 2 then
    let s0 := { s with flk := { s.flk with fsyncStuck := false, armed := false } }
    if s.flk.armed then
      (if s0.seq.state = .down && !(hasRailMember s0 && !domOn s0 10) then seqUpStart s0 true else s0)
    else
      match s0.seq.state with
      | .upRunning => seqDownStart s0 true
      | .up => seqDownStart s0 true
      | .downRunning => seqCancelHeld s0
      | _ => s0
  else if flkRole s = 1 && s.flk.driveFsync then
    let s0 := { s with flk := { s.flk with fsyncStuck := false, driveFsync := false, job := .none } }
    match s.flk.job with
    | .arming => if s0.seq.state = .down then seqUpStart s0 true else s0
    | .down upAfter =>
      let s1 := { s0 with seq := { s0.seq with retryUp := s0.seq.retryUp || upAfter } }
      (match s0.seq.state with
       | .upRunning => seqDownStart s1 true
       | .up => seqDownStart s1 true
       | .downRunning => s1
       | .down =>
         let ts := s0.seq.heldTickets
         let s2 := { s0 with seq := { s0.seq with held := false, heldTickets := [] } }
         if upAfter then seqRetry s2 ts else if s0.seq.held then seqUpBegin s2 ts else s2
       | _ => s0)
    | _ => s0
  else if flkRole s = 1 then { s with flk := { s.flk with fsyncStuck := false } }
  else s

/-! ### Rails as members (R371, R372) -/

/-- What the sequencer sees of rails that have changed: an entry to FAULT first, then a change of PG; `us` is the instant since the common start
where the row gives it. -/
def seqWatch (old s : State) (us : Option Nat) : State :=
  if s.seq.state = .empty || s.seq.state = .safe then s
  else forUpTo 16 (fun i q =>
    match member q i with
    | none => q
    | some m =>
      if m.cfg.mtype ≠ 1 then q
      else
        let a := rail old m.cfg.index
        let b := rail s m.cfg.index
        let at_ := fun (x : State) => match us with | some t => seqAt x t | none => x
        let clk := us.map clockOf
        let q1 := if b.state = .fault && a.state ≠ .fault then seqFault (at_ q) i 4 clk else q
        if a.pg ≠ b.pg then pgChange (at_ q1) i clk else q1) s

/-! ### Table, fault state and chip-level reset (R362–R367, R386, R387) -/

/-- Record i of a table. -/
def seqRecord (bs : List Byte) (i : Nat) : List Byte := (bs.drop (32 + 30 * i)).take 30

/-- The member record that 30 bytes spell (Table 8-3). -/
def seqRecOf (r : List Byte) : SeqRec :=
  let en := leField r 2 1
  let pg := leField r 3 1
  { mtype := leField r 0 1 % 4, index := leField r 1 1, enPin := en % 16, enHigh := en.testBit 4, enOd := en.testBit 5,
    pgPin := pg % 16, pgHigh := pg.testBit 4, onDelay := leField r 4 2, offDelay := leField r 6 2, pgDebounce := leField r 8 2,
    pgDeadline := leField r 10 2, offMv := leField r 12 2, offTimeout := leField r 14 2, chatterLim := leField r 16 1 % 16,
    safe := leField r 17 1 % 4 }

/-- One record passes the checks of R366 that concern it alone. -/
def seqRecOk (r : List Byte) : Bool :=
  let c := seqRecOf r
  let pinOk := fun p => p < 8 || p = 15
  let pg := hasPg c
  if leField r 0 1 = 0 then r.all (· = 0)
  else
    leField r 0 1 < 4 && leField r 2 1 < 64 && leField r 3 1 < 32 && leField r 16 1 < 16 && leField r 17 1 < 2 && leField r 18 12 = 0 &&
    pinOk c.enPin && pinOk c.pgPin && (c.enPin ≠ 15 || (!c.enHigh && !c.enOd)) && (c.pgPin ≠ 15 || !c.pgHigh) &&
    (match c.mtype with
     | 1 => c.index ≤ 7 && c.enPin = 15 && c.pgPin = 15 && c.safe = 0
     | 2 => c.index ≤ 6 && !(c.enPin = 15 && c.pgPin = 15)
     | _ => c.index = 0 && c.enPin = 15 && c.pgPin = 15) &&
    (c.mtype = 1 || c.offMv = 0) && (if pg then 1 ≤ c.pgDeadline else c.pgDeadline = 0 && c.pgDebounce = 0 && c.chatterLim = 0) &&
    c.pgDebounce ≤ 1000 && 1 ≤ c.offTimeout

/-- No number of a list repeats. -/
def noRepeat : List Nat → Bool
  | [] => true
  | a :: t => !t.contains a && noRepeat t

/-- The CRC of a table (Table 8-2). -/
def seqTableCrc (bs : List Byte) : Nat := crc32 (bs.take 28 ++ bs.drop 32)

/-- The members a table spells, or the status of the first failing check of R366. -/
def seqParse (bs : List Byte) : Except Nat (List (Option SeqRec)) :=
  let recs := (List.range 16).map (seqRecord bs)
  let used := (recs.filter fun r => leField r 0 1 ≠ 0).map seqRecOf
  if seqTableCrc bs ≠ leField bs 28 4 then .error stCrcError
  else if leField bs 0 2 = 0x0801 && leField bs 2 26 = 0 && recs.all seqRecOk &&
      noRepeat (used.map fun c => c.mtype * 256 + c.index) &&
      noRepeat ((used.flatMap fun c => [c.enPin, c.pgPin]).filter (· < 8)) then
    .ok (recs.map fun r => if leField r 0 1 = 0 then none else some (seqRecOf r))
  else .error stInvalidField

/-- A table is loaded (R362, R363, R366). -/
def seqInstall (s : State) (ms : List (Option SeqRec)) (crc : Nat) : State :=
  let fresh : SeqRec → Member := fun c =>
    { cfg := c, state := .off, slot := false, pgGood := false, pgAt := none, chatters := 0, pgTime := 0, pgSeen := false, faulted := false, on := false }
  let s1 := seqState { s with seq := { s.seq with
    members := Vector.ofFn fun (i : Fin 16) => ((ms[i.val]?).getD none).map fresh
    tableCrc := BitVec.ofNat 32 crc, pins := Vector.replicate 8 PinDrive.input } } .down
  let s2 := forEach ms (fun m q => match m with | some c => driveEn q c false | none => q) s1
  seqHostRst s2 (ms.any fun m => match m with | some c => c.mtype = 3 | none => false)

/-- The state forbids a load: a sequence, UP, SAFE, or a rail member neither OFF nor FAULT (R366). -/
def seqLoadRefused (s : State) (ms : List (Option SeqRec)) : Bool :=
  let busy := fun c : SeqRec => c.mtype = 1 && railBusy (rail s c.index)
  !(s.seq.state = .empty || s.seq.state = .down) ||
    ms.any (fun m => match m with | some c => busy c | none => false) || memberMask s (fun m => busy m.cfg) ≠ 0

/-- SEQ_LOAD's effect: the status. -/
def seqLoad (s : State) (bs : List Byte) : State × Nat :=
  match seqParse bs with
  | .error st => (s, st)
  | .ok ms => if seqLoadRefused s ms then (s, stRefused) else (seqInstall s ms (leField bs 28 4), stSuccess)

/-- AUTO_UP: an up sequence, after PD_REGC where the table has a rail member (R368). -/
def seqAutoUp (s : State) : State :=
  if flkRole s = 2 then s
  else if hasRailMember s && !domOn s 10 then domAsk { s with seq := { s.seq with autoWait := true } } 10 .on false false
  else seqUpReq { s with seq := { s.seq with retries := 0 } } []

/-- The boot table at step 5 of Table 1-10 (R367, R368, R388). SEQ_CLOCK is 0, no common start having been taken since the reset. -/
def seqBoot (s : State) (bs : List Byte) : State :=
  match seqParse bs with
  | .error _ => ev41 { s with seq := { s.seq with bootBad := true } } 6 0 0 (some 0)
  | .ok ms =>
    let s1 := seqInstall s ms (leField bs 28 4)
    if flag s1 0x5000 0 || s1.seq.bootUp then seqAutoUp { s1 with seq := { s1.seq with bootUp := false } } else s1

/-- PD_REGC has reached LOGIC_RDY: the AUTO_UP that waited for it starts (R368). -/
def seqRegcReady (s : State) : State :=
  if s.seq.autoWait then
    let s1 := { s with seq := { s.seq with autoWait := false, retries := 0 } }
    if s1.seq.state = .down then seqUpReq s1 [] else s1
  else s

/-- The level that a held HOST_RST_N member keeps: a pulse in force is held too, since the member changes only at chip-level reset. -/
def hostHeld (s : State) : Bool := s.seq.hostRst || s.seq.wdiPulse

/-- A member abandoned with its sequence: one whose on instant has not come is off, one whose off instant has not come is on as it was, and no slot
is open any more. What MSTATE shows of a member held in between is as it stood (DESIGN CHOICE, log 124). -/
def abandonMember (m : Member) : Member :=
  { m with slot := false, state := match m.state with | .waitOn => .off | .waitOff => (if m.on then .on else .failed) | x => x }

/-- A member that the fault state has driven off. -/
def memberDrivenOff (i : Nat) (s : State) : State :=
  match member s i with | some m => setMember s i { m with state := .off, on := false, slot := false } | none => s

/-- Rail members whose safe profile stops them are switched off with it (R386, R353). -/
def safeRailMembers (s : State) : State :=
  if s.seq.state ≠ .safe then s
  else forUpTo 16 (fun i q => match member q i with
    | some m => if m.cfg.mtype = 1 && m.on && !((rail q m.cfg.index).state = .regulating || (rail q m.cfg.index).state = .slewing) then
        setMember q i { m with on := false, state := if (rail q m.cfg.index).state = .stopping then .switchingOff else .off } else q
    | none => q) s

/-- The fault state: sequences are abandoned, members take their safe levels (R386). -/
def seqSafe (s : State) : State :=
  let ts := s.seq.ups ++ s.seq.downs ++ s.seq.heldTickets
  let s1 := completeAll (seqState { mapMembers s abandonMember with
    seq := { (mapMembers s abandonMember).seq with ups := [], downs := [], held := false, heldTickets := [], retryUp := false, autoWait := false }
    flk := { s.flk with job := .none, driveFsync := false, armed := false } } .safe) ts stAborted 0
  forUpTo 16 (fun i q =>
    match member q i with
    | none => q
    | some m =>
      if m.cfg.safe = 1 then
        (if m.cfg.mtype = 3 then { q with seq := { q.seq with hostRst := hostHeld q, wdiPulse := false } } else q)
      else match m.cfg.mtype with
        | 2 => memberDrivenOff i (driveEn q m.cfg false)
        | 3 => memberDrivenOff i (seqHostRst q true)
        | _ => q) s1

/-- Chip-level reset of the sequencer (R387): every member off without a sequence; pin levels stay what they are. -/
def seqReset (s : State) : State :=
  { s with seq := { Seq.reset with levels := s.seq.levels, wdiLevel := s.seq.wdiLevel }, flk := Flock.reset }

end Sys2Proof.Machine
end

