-- ==== Sys2Proof/Machine/GooseOps.lean ====
section
/-! DEFINITION. Operations of the two Goose instances (R502–R520). -/

namespace Sys2Proof.Machine

/-- Instance 0 or 1. -/
def goose (s : State) (i : Nat) : Goose := if i = 0 then s.goose0 else s.goose1
def setGoose (s : State) (i : Nat) (g : Goose) : State := if i = 0 then { s with goose0 := g } else { s with goose1 := g }

/-- STREAKn. -/
def streak (s : State) (i : Nat) : Nat := if i = 0 then s.ret.streak0 else s.ret.streak1
def setStreak (s : State) (i v : Nat) : State :=
  if i = 0 then { s with ret := { s.ret with streak0 := v } } else { s with ret := { s.ret with streak1 := v } }

/-- The window fraction in percent, strict mode and escalation limit in force (R506). -/
def gooseWindow (s : State) : Nat := match fld s 0x7180 0 2 with | 1 => 25 | 2 => 50 | _ => 75
def gooseStrict (s : State) : Bool := flag s 0x7180 2
def gooseN (s : State) : Nat := let n := fld s 0x7180 4 3; if n = 0 then 1 else n

/-- First cycle of the window: a boot period has it open from its start (R504, R505). -/
def windowFrom (s : State) (g : Goose) : Nat := if g.boot then 0 else 40 * g.period * gooseWindow s
def expiryAt (g : Goose) : Nat := 4000 * g.period

/-- The instance counts a period now (R514, R520): started, not held, no chip restart of its own on the way. -/
def gooseCounts (s : State) (i : Nat) : Bool :=
  (goose s i).started && !(goose s i).hold && s.flt.clkSafe &&
    (match s.restart with | none => true | some r => if i = 0 then !r.g0 else !r.g1)

/-- A boot period of its boot length begins. -/
def gooseBoot (s : State) (i : Nat) : State := setGoose s i (goosePeriod s i (goose s i) true)

/-- The boot period that follows a violation in its own cycle (R515, R520). -/
def gooseAfter (s : State) (i : Nat) : State := setGoose s i { goosePeriod s i (goose s i) true with violated := true }

/-- A check-in or service at cycle `t` of the running period is heeded: the instance counts, the cycle lies ahead of the latest and before
the expiry, and is not that of a violation (R505, R520). -/
def gooseHeeds (s : State) (i t : Nat) : Bool :=
  gooseCounts s i && (goose s i).t ≤ t && t < expiryAt (goose s i) && !((goose s i).violated && t = 0)

/-- The programmed G1_BOOT_MS is that of a boot period of Goose 1 already running when the OTP has been loaded (R503). -/
def goose1Loaded (s : State) : State :=
  if s.goose1.started && s.goose1.boot then { s with goose1 := { s.goose1 with period := gooseBootMs s 1 } } else s

/-- Goose 1 starts at LOGIC_RDY of PD_MP, and a held instance counts again with a boot period (R503). -/
def goose1Start (s : State) : State := gooseBoot { s with goose1 := { s.goose1 with clean := true } } 1

/-- A transition of PD_MP in progress turns to off (R434): its own request is replaced, one to on waiting for what follows. -/
def mpTurnOff (s : State) (m : DomMove) : State :=
  let s1 := if m.req.target = .retention then domTicket s m.req.ticket stSuperseded (domResult s 3) else s
  let r : DomReq := { m.req with target := .off, ticket := if m.req.target = .off then m.req.ticket else none }
  setDom s1 3 { dom s1 3 with move := some { m with req := r, stage := if m.req.target = .on && m.failed = 0 then 4 else m.stage } }

/-- PD_MP alone restarts: through off and on again, with MP_RESTART among the causes (R434, R433, R438). A transition in progress turns
to off first; a request that waited is replaced (R427). The coming on is a wake (R437). -/
def mpRestart (s0 : State) : State :=
  let s := recordWake { s0 with glb := { s0.glb with rstCause := s0.glb.rstCause ||| maskOf 10 9 1 } } false 0x70
  let d := dom s 3
  let s1 := match d.waiting with | some w => domTicket (setDom s 3 { d with result := 4 }) w.ticket stSuperseded (domResult s 3) | none => s
  let up := match d.move with | some m => if m.req.target = .on then m.req.ticket else none | none => none
  let s2 := match d.move with
    | some m => mpTurnOff s1 m
    | none => domStart s1 3 { target := .off, byMp := true, ticket := none, byHost := false } false
  setDom s2 3 { dom s2 3 with waiting := some { target := .on, byMp := true, ticket := up, byHost := false } }

/-- What an escalation does, for one violation (Table 11-4). -/
inductive Escal where
  | pulse | mpRestart | chip | final
  deriving DecidableEq, Repr

def escalOf (s : State) (i : Nat) : Escal :=
  if (goose s i).level = 0 then (if i = 0 then .pulse else .mpRestart)
  else if streak s i < gooseN s then .chip else .final

def Escal.action : Escal → Nat
  | .pulse => 1 | .chip => 2 | .mpRestart => 3 | .final => 4

/-- EV49's detail (R518). -/
def ev49 (s : State) (i : Nat) (e : Escal) (kind : Nat) (checked : BitVec 16) : DWord :=
  pack 64 [(0, 1, i), (1, 3, e.action), (4, 3, kind), (8, 3, streak s i), (16, 16, s.ret.resetCount.toNat), (32, 16, checked.toNat)]

/-- The violation is recorded (R513, R515). -/
def gooseRecord (s : State) (i kind : Nat) : State :=
  let g := goose s i
  setGoose s i { g with violations := satInc g.violations, lastViol := kind, clean := false }

/-- GOOSE_LAST takes the escalation (R518, log 33). -/
def gooseLast (s : State) (d : DWord) (pending : Bool) : State :=
  { s with ret := { s.ret with lastRecord := d.setWidth 11, lastPending := s.ret.lastPending || pending,
                               lastDetail := if pending then d else s.ret.lastDetail } }

/-- GOOSE_RESET_COUNT (R517). -/
def resetCountInc (s : State) : State := { s with ret := { s.ret with resetCount := satInc s.ret.resetCount } }

/-- A chip restart is requested: Goose 0's waits for a down sequence of the loaded table, outside SAFE (R388, R516). -/
def requestRestart (s : State) (g0 g1 : Bool) : State :=
  let old := match s.restart with | some r => r | none => { g0 := false, g1 := false, waitDown := false }
  let runs := s.seq.state = .up || s.seq.state = .upRunning || s.seq.state = .downRunning
  let s1 := { s with restart := some { g0 := old.g0 || g0, g1 := old.g1 || g1, waitDown := (old.waitDown || (g0 && runs)) && !(g1 && !g0) } }
  if !g0 then s1
  else match s.seq.state with
    | .up => seqDownStart s1 false
    | .upRunning => seqDownStart s1 false
    | .downRunning => seqCancelHeld s1
    | _ => s1

/-- Carry out one escalation. -/
def escalate (s : State) (i : Nat) (e : Escal) (kind : Nat) : State :=
  let checked := (goose s i).checked
  let s0 := noteCount (gooseRecord s i kind) 4
  match e with
  | .pulse =>
    let s1 := resetCountInc (setGoose s0 i { goose s0 i with level := 1 })
    let d := ev49 s1 i e kind checked
    let s1 := noteLog s1 4 (d.setWidth 128)
    hostRstUpdate { raise (gooseLast s1 d false) 49 d with g0Reset := true, g0ResetAt := some s.seq.us }
  | .mpRestart =>
    let s1 := resetCountInc (setGoose s0 i { goose s0 i with level := 1 })
    let d := ev49 s1 i e kind checked
    let s1 := noteLog s1 4 (d.setWidth 128)
    let s2 := raise (gooseLast s1 d false) 49 d
    mpRestart { s2 with goose1 := { s2.goose1 with hold := true } }
  | .chip =>
    let s1 := resetCountInc (setStreak s0 i (streak s0 i + 1))
    let d := ev49 s1 i e kind checked
    requestRestart (gooseLast (noteLog s1 4 (d.setWidth 128)) d true) (i = 0) (i = 1)
  | .final =>
    let d := ev49 s0 i e kind checked
    let s1 := assertLine (raise (gooseLast (noteLog s0 4 (d.setWidth 128)) d false) 49 d) (7 + i) (pack 32 [(0, 3, kind), (4, 3, streak s0 i)])
    gooseAfter s1 i

/-- A violation of one instance (R513). -/
def gooseViolate (s : State) (i kind : Nat) : State := escalate s i (escalOf s i) kind

/-- An instance whose chip restart is suppressed by a final escalation of the other (R515). -/
def gooseSuppressed (s : State) (i kind : Nat) : State := gooseAfter (gooseRecord s i kind) i

/-- Violations of both instances in one CLK_SAFE cycle (R515): unless either is final, whatever they call for is one chip restart of both. -/
def gooseBoth (s : State) (kind : Nat) : State :=
  let e0 := escalOf s 0
  let e1 := escalOf s 1
  if e0 = .chip && e1 = .final then escalate (gooseSuppressed s 0 kind) 1 e1 kind
  else if e0 = .final && e1 = .chip then gooseSuppressed (escalate s 0 e0 kind) 1 kind
  else if e0 ≠ .final && e1 ≠ .final then
    let s1 := noteCount (gooseRecord (gooseRecord s 0 kind) 1 kind) 4
    let s2 := resetCountInc (setStreak (setStreak s1 0 (clampN 0 7 (streak s1 0 + 1))) 1 (clampN 0 7 (streak s1 1 + 1)))
    let d := ev49 s2 0 .chip kind s.goose0.checked
    requestRestart (gooseLast (noteLog s2 4 (d.setWidth 128)) d true) true true
  else escalate (escalate s 0 e0 kind) 1 e1 kind

/-- Cycle of EV48 in a Goose 0 period (R512). -/
def warnAt (g : Goose) : Nat := 3500 * g.period

/-- EV48, once for the period (R512). -/
def gooseWarn (s : State) : State :=
  let g := s.goose0
  raise { s with goose0 := { g with warned := true, t := if g.t < warnAt g then warnAt g else g.t } } 48
    (pack 64 [(0, 16, g.checked.toNat), (16, 16, g.mask.toNat), (32, 16, g.period)])

/-- The period has reached cycle `t`: a Goose 0 period passes its cycle 3,500 × P on the way (R512). -/
def gooseTo (s : State) (i t : Nat) : State :=
  if i = 0 && gooseCounts s 0 && !s.goose0.warned && s.goose0.t ≤ warnAt s.goose0 && warnAt s.goose0 < t then gooseWarn s else s

/-- A check-in (R508, R510). -/
def gooseCheckin (s0 : State) (i t : Nat) (w : Word) : State :=
  if !gooseHeeds s0 i t then s0
  else
    let s := gooseTo s0 i t
    let g := goose s i
    let s1 := setGoose s i { g with t := t }
    let g1 := goose s1 i
    let k := bitsOf w 0 4
    if bitsOf w 16 16 ≠ 0x6005 then gooseViolate s1 i 6
    else if g1.boot then setGoose s1 i { g1 with checked := g1.checked ||| maskOf 16 k 1 }
    else if !bitOf g1.mask k then
      (let s2 := setGoose s1 i { g1 with bad := true }
       if gooseStrict s then gooseViolate s2 i 5 else s2)
    else if bitOf g1.checked k then
      (let s2 := setGoose s1 i { g1 with dup := true }
       if gooseStrict s then gooseViolate s2 i 4 else s2)
    else setGoose s1 i { g1 with checked := g1.checked ||| maskOf 16 k 1 }

/-- A valid service (R504, R509). -/
def gooseServe (s : State) (i : Nat) : State :=
  let g := goose s i
  setGoose (setStreak s i 0) i
    (if g.boot && !g.configured then { goosePeriod s i g true with level := 0, services := satInc g.services }
     else { goosePeriod s i g false with level := 0, services := satInc g.services })

/-- A service write (R509, R510). -/
def gooseService (s0 : State) (i t : Nat) (w : Word) : State :=
  if !gooseHeeds s0 i t then s0
  else
    let s := gooseTo s0 i t
    let g := goose s i
    let s1 := setGoose s i { g with t := t }
    if bitsOf w 16 16 ≠ 0x6005 then gooseViolate s1 i 6
    else if g.boot then gooseServe s1 i
    else if t < windowFrom s g then gooseViolate s1 i 2
    else if g.mask &&& ~~~ g.checked ≠ 0 then gooseViolate s1 i 3
    else gooseServe s1 i

/-- GOOSE_CONFIG's own checks and effect (R507): the status. -/
def gooseConfig (s0 : State) (i p t : Nat) (mask : BitVec 16) : State × Nat :=
  let s := if gooseCounts s0 i && (goose s0 i).t ≤ t && t < expiryAt (goose s0 i) then gooseTo s0 i t else s0
  let g := goose s i
  if p = 0 then (s, stRange)
  else if !g.started then
    let g1 := { g with nextPeriod := p, nextMask := mask, configured := true }
    (hostRstUpdate (setGoose s i (goosePeriod s i g1 false)), stSuccess)
  else if g.hold || (gooseCounts s i && g.t ≤ t && windowFrom s g ≤ t && t < expiryAt g) then
    (setGoose s i { g with nextPeriod := p, nextMask := mask, configured := true, t := if g.hold then g.t else t }, stSuccess)
  else (s, stRefused)

end Sys2Proof.Machine
end

