-- ==== Sys2Proof/Machine/Crypto.lean ====
section
/-! DEFINITION. The standard algorithms that the spec names: SHA-256 (FIPS 180-4), AES-128 (FIPS 197), AES-128-CMAC
(NIST SP 800-38B) and ECDSA P-256 (FIPS 186-4) (R482, R541, R549, R596). PRESUMED, log 41. -/

namespace Sys2Proof.Machine

/-- The number of big-endian bytes. -/
def beNat (bs : List Byte) : Nat := bs.foldl (fun a b => a * 256 + b.toNat) 0

/-- The `k` bytes of a number, most significant first. -/
def beBytes (k v : Nat) : List Byte := (leBytes k v).reverse

/-- Pieces of `n` elements, `k` of them. -/
def pieces {α : Type} (n : Nat) : Nat → List α → List (List α)
  | 0, _ => []
  | k + 1, l => l.take n :: pieces n k (l.drop n)

/-! ### SHA-256 -/

/-- The 64 round constants, K₀ lowest. -/
def shaK : Nat := 0xC67178F2BEF9A3F7A4506CEB90BEFFFA8CC7020884C8781478A5636F748F82EE682E6FF35B9CCA4F4ED8AA4A391C0CB334B0BCB52748774C1E376C0819A4C116106AA070F40E3585D6990624D192E819C76C51A3C24B8B70A81A664BA2BFE8A192722C8581C2C92E766A0ABB650A735453380D134D2C6DFC2E1B213827B70A851429296706CA6351D5A79147C6E00BF3BF597FC7B00327C8A831C66D983E515276F988DA5CB0A9DC4A7484AA2DE92C6F240CA1CC0FC19DC6EFBE4786E49B69C1C19BF1749BDC06A780DEB1FE72BE5D74550C7DC3243185BE12835B01D807AA98AB1C5ED5923F82A459F111F13956C25BE9B5DBA5B5C0FBCF71374491428A2F98

/-- The initial hash value, H₀ lowest. -/
def shaH : Nat := 0x5BE0CD191F83D9AB9B05688C510E527FA54FF53A3C6EF372BB67AE856A09E667

/-- Rotate right. -/
def rotr (w : Word) (n : Nat) : Word := (w >>> n) ||| (w <<< (32 - n))

/-- The next word of the message schedule from the last 16, newest first. -/
def shaNext (w : List Word) : Word :=
  let g := fun i => w.getD i 0
  let s0 := rotr (g 14) 7 ^^^ rotr (g 14) 18 ^^^ (g 14 >>> 3)
  let s1 := rotr (g 1) 17 ^^^ rotr (g 1) 19 ^^^ (g 1 >>> 10)
  g 15 + s0 + g 6 + s1

/-- The 64 words of the schedule. -/
def shaSchedule : Nat → List Word → List Word
  | 0, w => w.reverse
  | k + 1, w => shaSchedule k (shaNext w :: w)

/-- The eight working variables. -/
structure ShaVars where
  a : Word
  b : Word
  c : Word
  d : Word
  e : Word
  f : Word
  g : Word
  h : Word

/-- One round with its constant and its schedule word. -/
def shaRound (v : ShaVars) (kw : Word) : ShaVars :=
  let s1 := rotr v.e 6 ^^^ rotr v.e 11 ^^^ rotr v.e 25
  let ch := (v.e &&& v.f) ^^^ (~~~ v.e &&& v.g)
  let t1 := v.h + s1 + ch + kw
  let s0 := rotr v.a 2 ^^^ rotr v.a 13 ^^^ rotr v.a 22
  let mj := (v.a &&& v.b) ^^^ (v.a &&& v.c) ^^^ (v.b &&& v.c)
  { a := t1 + (s0 + mj), b := v.a, c := v.b, d := v.c, e := v.d + t1, f := v.e, g := v.f, h := v.g }

/-- One block. -/
def shaBlock (v : ShaVars) (blk : List Byte) : ShaVars :=
  let w16 := (pieces 4 16 blk).map fun p => BitVec.ofNat 32 (beNat p)
  let w := shaSchedule 48 w16.reverse
  let ks := (List.range 64).map fun i => BitVec.ofNat 32 (shaK / 2 ^ (32 * i))
  let r := ((ks.zip w).map fun p => p.1 + p.2).foldl shaRound v
  { a := v.a + r.a, b := v.b + r.b, c := v.c + r.c, d := v.d + r.d, e := v.e + r.e, f := v.f + r.f, g := v.g + r.g, h := v.h + r.h }

/-- SHA-256 of bytes. -/
def sha256 (m : List Byte) : List Byte :=
  let n := m.length
  let padded := m ++ (0x80 : Byte) :: zeroBytes ((119 - n % 64) % 64) ++ beBytes 8 (8 * n)
  let i := fun k => BitVec.ofNat 32 (shaH / 2 ^ (32 * k))
  let v := (pieces 64 (padded.length / 64) padded).foldl shaBlock
    { a := i 0, b := i 1, c := i 2, d := i 3, e := i 4, f := i 5, g := i 6, h := i 7 }
  [v.a, v.b, v.c, v.d, v.e, v.f, v.g, v.h].flatMap fun x => beBytes 4 x.toNat

/-! ### AES-128 and CMAC -/

/-- The S-box, entry 0 lowest. -/
def aesBox : Nat :=
  0x16BB54B00F2D99416842E6BF0D89A18CDF2855CEE9871E9B948ED9691198F8E19E1DC186B95735610EF6034866B53E708A8BBD4B1F74DDE8C6B4A61C2E2578BA08AE7A65EAF4566CA94ED58D6D37C8E779E4959162ACD3C25C2406490A3A32E0DB0B5EDE14B8EE4688902A22DC4F816073195D643D7EA7C41744975FEC130CCDD2F3FF1021DAB6BCF5389D928F40A351A89F3C507F02F94585334D43FBAAEFD0CF584C4A39BECB6A5BB1FC20ED00D153842FE329B3D63B52A05A6E1B1A2C830975B227EBE28012079A059618C323C7041531D871F1E5A534CCF73F362693FDB7C072A49CAFA2D4ADF04759FA7DC982CA76ABD7FE2B670130C56F6BF27B777C63

def aesSub (b : Byte) : Byte := BitVec.ofNat 8 (aesBox / 2 ^ (8 * b.toNat))

/-- Multiplication by x in the field of AES. -/
def aesX (b : Byte) : Byte := (b <<< 1) ^^^ (if b.getLsbD 7 then 0x1B else 0)

def xorBytes (a b : List Byte) : List Byte := (a.zip b).map fun p => p.1 ^^^ p.2

/-- The next round key. -/
def aesNextKey (k : List Byte) (rcon : Byte) : List Byte :=
  let g := fun i => k.getD i 0
  let t := [aesSub (g 13) ^^^ rcon, aesSub (g 14), aesSub (g 15), aesSub (g 12)]
  let w0 := xorBytes (k.take 4) t
  let w1 := xorBytes ((k.drop 4).take 4) w0
  let w2 := xorBytes ((k.drop 8).take 4) w1
  w0 ++ w1 ++ w2 ++ xorBytes (k.drop 12) w2

/-- ShiftRows of the 16 state bytes, column by column. -/
def aesShift (s : List Byte) : List Byte :=
  (List.range 16).map fun i => s.getD ((i / 4 + i % 4) % 4 * 4 + i % 4) 0

/-- MixColumns of one column. -/
def aesMix (c : List Byte) : List Byte :=
  let g := fun i => c.getD (i % 4) 0
  (List.range 4).map fun i => aesX (g i) ^^^ (aesX (g (i + 1)) ^^^ g (i + 1)) ^^^ g (i + 2) ^^^ g (i + 3)

/-- Rounds 1 … 9, then the last one. -/
def aesRounds : Nat → Byte → List Byte → List Byte → List Byte
  | 0, rcon, k, s => xorBytes (aesShift (s.map aesSub)) (aesNextKey k rcon)
  | n + 1, rcon, k, s =>
    let k1 := aesNextKey k rcon
    aesRounds n (aesX rcon) k1 (xorBytes ((pieces 4 4 (aesShift (s.map aesSub))).flatMap aesMix) k1)

/-- AES-128 of one block. -/
def aes128 (key blk : List Byte) : List Byte := aesRounds 9 1 key (xorBytes blk key)

/-- Doubling of a block in CMAC. -/
def cmacDouble (b : List Byte) : List Byte :=
  let v := beNat b
  beBytes 16 (((v * 2) % 2 ^ 128) ^^^ (if 2 ^ 127 ≤ v then 0x87 else 0))

/-- AES-128-CMAC. -/
def cmac (key m : List Byte) : List Byte :=
  let k1 := cmacDouble (aes128 key (zeroBytes 16))
  let n := (m.length + 15) / 16
  let full := n ≠ 0 && m.length % 16 = 0
  let head := (n - 1) * 16
  let tail := m.drop head
  let last := if full then xorBytes tail k1
    else xorBytes (tail ++ (0x80 : Byte) :: zeroBytes (15 - tail.length)) (cmacDouble k1)
  let c := (pieces 16 (n - 1) (m.take head)).foldl (fun c b => aes128 key (xorBytes c b)) (zeroBytes 16)
  aes128 key (xorBytes c last)

/-! ### ECDSA P-256 -/

def p256P : Nat := 2 ^ 256 - 2 ^ 224 + 2 ^ 192 + 2 ^ 96 - 1
def p256N : Nat := 0xFFFFFFFF00000000FFFFFFFFFFFFFFFFBCE6FAADA7179E84F3B9CAC2FC632551
def p256B : Nat := 0x5AC635D8AA3A93E7B3EBBD55769886BC651D06B0CC53B0F63BCE3C3E27D2604B
def p256G : Nat × Nat :=
  (0x6B17D1F2E12C4247F8BCE6E563A440F277037D812DEB33A0F4A13945D898C296,
   0x4FE342E2FE1A7F9B8EE7EB4A7C0F9E162BCE33576B315ECECBB6406837BF51F5)

/-- `b ^ e mod m` over `k` bits of `e`. -/
def modPow (m : Nat) : Nat → Nat → Nat → Nat
  | 0, _, _ => 1
  | k + 1, b, e => (if e % 2 = 1 then b else 1) * modPow m k (b * b % m) (e / 2) % m

/-- The inverse modulo a prime. -/
def modInv (m a : Nat) : Nat := modPow m 256 (a % m) (m - 2)

/-- Addition on the curve; none is the point at infinity. -/
def ecAdd : Option (Nat × Nat) → Option (Nat × Nat) → Option (Nat × Nat)
  | none, q => q
  | p, none => p
  | some (x1, y1), some (x2, y2) =>
    if x1 = x2 ∧ (y1 + y2) % p256P = 0 then none
    else
      let l := if x1 = x2 then (3 * x1 * x1 + p256P - 3) * modInv p256P (2 * y1) % p256P
        else (y2 + p256P - y1) * modInv p256P (x2 + p256P - x1) % p256P
      let x3 := (l * l + 2 * p256P - x1 - x2) % p256P
      some (x3, (l * (x1 + p256P - x3) + p256P - y1) % p256P)

/-- Multiplication by the lowest `k` bits of a number. -/
def ecMul : Nat → Nat → Option (Nat × Nat) → Option (Nat × Nat)
  | 0, _, _ => none
  | k + 1, e, p => ecAdd (if e % 2 = 1 then p else none) (ecMul k (e / 2) (ecAdd p p))

/-- ECDSA P-256 over SHA-256: the signature of 64 bytes verifies for the public key of 64 bytes. -/
def ecdsaVerify (key sig m : List Byte) : Bool :=
  let x := beNat (key.take 32)
  let y := beNat ((key.drop 32).take 32)
  let r := beNat (sig.take 32)
  let t := beNat ((sig.drop 32).take 32)
  let onCurve := decide (x < p256P) && decide (y < p256P) && decide ((y * y) % p256P = (x * x * x + (p256P - 3) * x + p256B) % p256P)
  if !onCurve || r = 0 || t = 0 || p256N ≤ r || p256N ≤ t then false
  else
    let w := modInv p256N t
    let u1 := beNat (sha256 m) * w % p256N
    let u2 := r * w % p256N
    match ecAdd (ecMul 256 u1 (some p256G)) (ecMul 256 u2 (some (x, y))) with
    | none => false
    | some (vx, _) => vx % p256N = r

end Sys2Proof.Machine
end

