-- ==== Sys2Proof/Machine/NvmOps.lean ====
section
/-! DEFINITION. Operations of the NVM controller: pages and slots, page writes, the recovery scan and the counters
(12_otp_and_nvm.md, R557–R566). -/

namespace Sys2Proof.Machine

/-! ### Slots and pages (R557) -/

/-- CRC-16 of the link chapter: polynomial 0x1021, initial value 0xFFFF, no reflection. -/
def crc16 (bs : List Byte) : Nat := bs.foldl (crcByteL 16 0x1021) 0xFFFF

/-- The CRC-16 of a slot, over its data and sequence number. -/
def slotCrc (data : BitVec 512) (seq : BitVec 16) : BitVec 16 :=
  BitVec.ofNat 16 (crc16 (leBytes 64 data.toNat ++ leBytes 2 seq.toNat))

/-- A slot programmed with the commit flag clear (R558 step 4). -/
def Slot.programmed (data : BitVec 512) (seq : BitVec 16) : Slot :=
  { data := data, seq := seq, commit := .clear, crc := slotCrc data seq }

def Slot.crcOk (s : Slot) : Bool := s.crc = slotCrc s.data s.seq

/-- Sequence number `a` is later than `b`. -/
def seqLater (a b : BitVec 16) : Bool := 1 ≤ (a - b).toNat && (a - b).toNat ≤ 32767

/-- The valid slot of a slot place, if it is valid. -/
def slotValid (o : Option Slot) : Option Slot :=
  match o with
  | some s => if s.commit = .set && s.crcOk then some s else none
  | none => none

/-- Committed but bad. -/
def slotBad (o : Option Slot) : Bool :=
  match o with
  | some s => s.commit = .set && !s.crcOk
  | none => false

/-- The valid slot with the later sequence number; true: slot A. -/
def Page.best (p : Page) : Option (Bool × Slot) :=
  match slotValid p.a, slotValid p.b with
  | some x, some y => if seqLater y.seq x.seq then some (false, y) else some (true, x)
  | some x, none => some (true, x)
  | none, some y => some (false, y)
  | none, none => none

/-- 64 bytes of 0xFF. -/
def erasedPage : BitVec 512 := BitVec.allOnes 512

/-- What a read of a page gives; none where it fails. -/
def Page.data (p : Page) : Option (BitVec 512) :=
  match p.best with
  | some e => some e.2.data
  | none => if slotBad p.a || slotBad p.b then none else some erasedPage

/-- The physical page behind a page (R621). -/
def physPage (s : State) (n : Nat) : Nat := Sparse.getD s.nvm.remap n n

/-- A page of the NVM. -/
def nvPage (s : State) (n : Nat) : Page := Sparse.getD s.nvm.pages (physPage s n) Page.fresh

def setPage (s : State) (n : Nat) (p : Page) : State :=
  { s with nvm := { s.nvm with pages := Sparse.set s.nvm.pages (physPage s n) p } }

/-- The 64 bytes of a page, none where the read fails. -/
def nvRead (s : State) (n : Nat) : Option (List Byte) := ((nvPage s n).data).map fun d => leBytes 64 d.toNat

/-- A failed read sets PAGE_ERR and records the page. -/
def pageError (s : State) (n : Nat) : State :=
  { s with nvm := { s.nvm with pageErr := true, errPage := BitVec.ofNat 10 n } }

/-- The device reads pages: those whose read fails are reported like any other (R557). -/
def nvLook (ps : List Nat) (s : State) : State := forEach ps (fun p q => if (nvRead q p).isNone then pageError q p else q) s

/-- More erase cycles of a page, saturating (R563). -/
def wearAdd (w k : Nat) : Nat := if w + k < 0xFFFFFF then w + k else 0xFFFFFF

/-- R558 steps 3 and 4: the other slot is erased and programmed with the commit flag clear. -/
def Page.program (p : Page) (data : BitVec 512) : Page :=
  match p.best with
  | some (true, x) => { p with b := some (Slot.programmed data (x.seq + 1)), wear := wearAdd p.wear 1 }
  | some (false, y) => { p with a := some (Slot.programmed data (y.seq + 1)), wear := wearAdd p.wear 1 }
  | none => { a := some (Slot.programmed data 1), b := none, wear := wearAdd p.wear 2 }

/-- Program the commit flag of one slot place. -/
def slotCommit (o : Option Slot) : Option Slot :=
  match o with
  | some s => if s.commit = .clear then some { s with commit := .set } else some s
  | none => none

/-- R558 step 5. -/
def Page.commit (p : Page) : Page := { p with a := slotCommit p.a, b := slotCommit p.b }

/-- Bytes merged into 64, wrapping within the page (R558 step 1). -/
def mergeWrap : List Byte → Nat → List Byte → List Byte
  | old, _, [] => old
  | old, off, b :: bs => mergeWrap (listSet old (off % 64) b) (off + 1) bs

/-! ### Page writes (R558–R562) -/

/-- Every NVM request is turned away while a save is due or running (R569). -/
def nvmShut (s : State) : Bool := s.pwr.saveActive && !s.pwr.saveEnded

/-- A page write ends without a page change or with its commit: its requester is told (R558, R562). -/
def nvmTell (s : State) (w : PageWrite) (skipped : Bool) : State :=
  match w.ask with
  | .command t n => complete s t stSuccess (BitVec.ofNat 64 n)
  | .sideband => raise s 52 (pack 64 [(0, 10, w.page), (10, 1, b2n skipped)])
  | .internal => s

/-- A page write that cannot be made (R558). -/
def nvmFail (s : State) (w : PageWrite) (status : Nat) : State :=
  match w.ask with
  | .command t _ => complete s t status 0
  | .sideband => s
  | .internal => s

/-- Begin a page write: skipped, refused, or in progress. -/
def nvmBegin (s : State) (w : PageWrite) : State :=
  match nvRead s w.page with
  | none =>
    if w.data.length = 64 then
      setPage { s with nvm := { s.nvm with busy := some w } } w.page
        ((nvPage s w.page).program (BitVec.ofNat 512 (leNat (mergeWrap (List.replicate 64 0xFF) w.off w.data))))
    else nvmFail (pageError s w.page) w stDeviceError
  | some old =>
    let new := mergeWrap old w.off w.data
    if new = old then nvmTell s w true
    else setPage { s with nvm := { s.nvm with busy := some w } } w.page ((nvPage s w.page).program (BitVec.ofNat 512 (leNat new)))

/-! ### Reads across pages -/

/-- The pages that a run of bytes touches. -/
def pagesOf (off n : Nat) : List Nat := if n = 0 then [] else (List.range ((off + n - 1) / 64 - off / 64 + 1)).map (· + off / 64)

/-- Bytes read from an offset on; a failing page reads 0xFF and sets PAGE_ERR (R557). A run past the top address goes on at address 0
(DESIGN CHOICE, log 107). -/
def nvBytes (s : State) (off n : Nat) : State × List Byte × Bool :=
  let ps := pagesOf off n
  let bad := ps.filter fun p => (nvRead s (p % 1024)).isNone
  let bytes := ps.flatMap fun p => (nvRead s (p % 1024)).getD (List.replicate 64 0xFF)
  (forEach bad (fun p q => pageError q (p % 1024)) s, (bytes.drop (off % 64)).take n, bad.isEmpty)

/-- NVM_READ's effect (R557): nothing is written where a page cannot be read. -/
def nvmServeRead (s : State) (r : NvmReadReq) : State :=
  let (s1, bytes, ok) := nvBytes s r.off r.len
  if ok then
    let s2 := if r.byMp then sramWrite s1 r.dest bytes else hostPost s1 r.dest bytes
    complete s2 r.ticket stSuccess (BitVec.ofNat 64 r.len)
  else complete s1 r.ticket stDeviceError 0

/-- A request is begun. -/
def nvmServe (s : State) (q : NvmReq) : State :=
  match q with
  | .write w => nvmBegin s w
  | .read r => nvmServeRead s r

/-- A request is turned away. -/
def nvmRefuse (s : State) (q : NvmReq) (status : Nat) : State :=
  match q with
  | .write w => nvmFail s w status
  | .read r => complete s r.ticket status 0

/-- Begin waiting requests until a page write is in progress (R560). -/
def nvmNext : Nat → State → State
  | 0, s => s
  | k + 1, s =>
    match s.nvm.busy, s.nvm.queue with
    | none, q :: qs => nvmNext k (nvmServe { s with nvm := { s.nvm with queue := qs } } q)
    | _, _ => s

/-- A request reaches the controller (R560, R569). -/
def nvmAsk (s : State) (q : NvmReq) : State :=
  if nvmShut s then nvmRefuse s q stRefused
  else
    let s1 := { s with nvm := { s.nvm with queue := s.nvm.queue ++ [q] } }
    nvmNext s1.nvm.queue.length s1

/-- The commit of the page write in progress (R558 step 5). -/
def nvmCommit (s : State) : State :=
  match s.nvm.busy with
  | none => s
  | some w =>
    let s1 := setPage { s with nvm := { s.nvm with busy := none } } w.page (nvPage s w.page).commit
    let s2 := nvmTell s1 w false
    nvmNext s2.nvm.queue.length s2

/-- The device's own write to a page: complete in one where the controller is free (log 43), else it waits its turn (R35, R560). -/
def nvmOwn (s : State) (page off : Nat) (bs : List Byte) : State :=
  if nvmShut s || !domOn s 3 then s
  else if s.nvm.busy.isSome then
    { s with nvm := { s.nvm with queue := s.nvm.queue ++ [.write { page := page, off := off, data := bs, ask := .internal }] } }
  else match nvRead s page with
    | none => if bs.length = 64 then setPage s page ((nvPage s page).program (BitVec.ofNat 512 (leNat bs))).commit else pageError s page
    | some old =>
      let new := mergeWrap old off bs
      if new = old then s else setPage s page ((nvPage s page).program (BitVec.ofNat 512 (leNat new))).commit

/-- SAVE_ACTIVE is set: waiting requests are refused, and the write in progress is finished or abandoned (R569). -/
def nvmSaveStart (s : State) (flagging : Bool) : State :=
  let ws := s.nvm.queue
  let s1 := forEach ws (fun w q => nvmRefuse q w stRefused) { s with nvm := { s.nvm with queue := [] } }
  match s1.nvm.busy with
  | none => s1
  | some w => if flagging then nvmCommit s1 else nvmFail { s1 with nvm := { s1.nvm with busy := none } } w stRefused

/-- A reset or a loss of power cuts what the controller was doing (R559). -/
def nvmCut (s : State) : State := { s with nvm := { s.nvm with busy := none, queue := [], saving := none } }

/-- Pages that the host may write (Table 12-12). -/
def hostPage (p : Nat) : Bool := p ≤ 8 || 768 ≤ p

/-! ### Recovery scan (R559) -/

/-- A torn slot: later than the valid one, its commit flag not clean. -/
def slotTorn (p : Page) (o : Option Slot) : Option (BitVec 16) :=
  match o with
  | none => none
  | some x =>
    if x.commit = .set then none
    else match p.best with
      | none => some x.seq
      | some e => if seqLater x.seq e.2.seq then some x.seq else none

/-- Erase the slots whose commit flag is not clean. -/
def Page.clean (p : Page) : Page :=
  let dirty := fun (o : Option Slot) => match o with | some x => x.commit ≠ .set | none => false
  { a := if dirty p.a then none else p.a, b := if dirty p.b then none else p.b,
    wear := wearAdd p.wear (b2n (dirty p.a) + b2n (dirty p.b)) }

/-- One torn slot is found (R559, Table 14-9, Table 14-11). -/
def tornFound (s : State) (page : Nat) (seq : BitVec 16) : State :=
  let d := pack 64 [(0, 10, page), (16, 16, seq.toNat)]
  let s1 := { s with nvm := { s.nvm with torn := true, tornCount := satInc s.nvm.tornCount, tornPage := BitVec.ofNat 10 page } }
  noteLog (noteCount (raise s1 53 d) 8) 10 (d.setWidth 128)

/-- The scan of one page. -/
def scanPage (n : Nat) (p : Page) (s : State) : State :=
  let torns := [slotTorn p p.a, slotTorn p p.b].filterMap id
  let s1 := forEach (torns.take 1) (fun q st => tornFound st n q) s
  { s1 with nvm := { s1.nvm with pages := Sparse.set s1.nvm.pages n p.clean } }

/-! ### Counters (R564, R565) -/

/-- A written copy of a counter: its page, BASE, CSEQ and the 448 UNARY bits. -/
structure CountCopy where
  page : Nat
  base : Nat
  cseq : BitVec 16
  unary : BitVec 448
  deriving DecidableEq, Repr

/-- A copy in a page; none where the page was never written or cannot be read (log 42). -/
def countCopy (s : State) (page : Nat) : Option CountCopy :=
  match (nvPage s page).best with
  | none => none
  | some e => some { page := page, base := bitsOf e.2.data 0 48, cseq := e.2.data.extractLsb' 48 16, unary := e.2.data.extractLsb' 64 448 }

/-- The current copy. -/
def countCurrent (s : State) (k : Nat) : Option CountCopy :=
  match countCopy s (16 + 2 * k), countCopy s (17 + 2 * k) with
  | some x, some y => if seqLater y.cseq x.cseq then some y else some x
  | some x, none => some x
  | none, y => y

/-- UNARY bits that read 0. -/
def zeroBits (u : BitVec 448) : Nat := countIf (fun i => !bitOf u i) (List.range 448)

/-- The counter's value. -/
def countValue (s : State) (k : Nat) : Nat :=
  match countCurrent s k with
  | none => 0
  | some c => c.base + zeroBits c.unary

/-- The 64 bytes of a copy. -/
def countBytes (base : Nat) (cseq : BitVec 16) (unary : BitVec 448) : List Byte :=
  leBytes 6 base ++ leBytes 2 cseq.toNat ++ leBytes 56 unary.toNat

/-- Program one UNARY bit of the valid slot in place; the slot's check code follows its data (log 42). -/
def Page.clearBit (p : Page) (i : Nat) : Page :=
  let fix := fun (x : Slot) => let d := x.data &&& ~~~ maskOf 512 i 1; { x with data := d, crc := slotCrc d x.seq }
  match p.best with
  | some (true, x) => { p with a := some (fix x) }
  | some (false, y) => { p with b := some (fix y) }
  | none => p

/-- The two pages of a counter (R564). -/
def countPages (k : Nat) : List Nat := [16 + 2 * k, 17 + 2 * k]

/-- The recovery scan over every page, in ascending order; then it completes the UNARY bits of current copies whose three reads differ,
which `unary` names by counter and bit (R559, R566). -/
def recoveryScan (s : State) (unary : List (Nat × Nat)) : State :=
  let s1 := nvLook ((List.range 24).flatMap countPages) (forEach s.nvm.pages (fun e q => scanPage e.1 e.2 q) s)
  forEach unary (fun e q => match countCurrent q e.1 with | some c => setPage q c.page ((nvPage q c.page).clearBit (64 + e.2)) | none => q) s1

/-- The other copy takes over with the value unchanged (R565). -/
def countRollover (s : State) (c : CountCopy) : State :=
  nvmOwn s (if c.page % 2 = 0 then c.page + 1 else c.page - 1) 0 (countBytes (c.base + 448) (c.cseq + 1) (BitVec.allOnes 448))

/-- Program the lowest UNARY bit that reads 1 of the current copy (R565). -/
def countBit (s : State) (k : Nat) : State :=
  match countCurrent s k with
  | none => s
  | some c =>
    match (List.range 448).find? (bitOf c.unary) with
    | some b => if nvmShut s then s else setPage s c.page ((nvPage s c.page).clearBit (64 + b))
    | none => s

/-- One increment (R565, log 42). A rollover keeps the value, so the bit of the increment is programmed after it. -/
def countInc (s0 : State) (k : Nat) : State :=
  let s := nvLook (countPages k) s0
  match countCurrent s k with
  | none => nvmOwn s (16 + 2 * k) 0 (countBytes 0 1 (~~~ (1 : BitVec 448)))
  | some c => if c.unary = 0 then countBit (countRollover s c) k else countBit s k

end Sys2Proof.Machine
end

