-- ==== Sys2Proof/Machine/OtpOps.lean ====
section
/-! DEFINITION. Operations of the OTP controller: check codes, margin reads, the load, digests and rights
(12_otp_and_nvm.md, R521–R556). -/

namespace Sys2Proof.Machine

/-! ### Check codes (R521, R522) -/

/-- The code positions p₀ … p₃₁. -/
def codePos : List Nat := (List.range 39).filter fun p => 3 ≤ p && p ≠ 4 && p ≠ 8 && p ≠ 16 && p ≠ 32

/-- Exclusive-OR of bits. -/
def parity {n : Nat} (w : BitVec n) : Bool := (List.range n).foldl (fun a i => a != bitOf w i) false

/-- c0–c5 of the data. -/
def eccLow (d : Word) : BitVec 6 :=
  BitVec.ofNat 6 ((codePos.zipIdx.filter fun e => bitOf d e.2).foldl (fun a e => a ^^^ e.1) 0)

/-- The 39 bits programmed for a data word. -/
def otpEncode (d : Word) : Raw39 :=
  let c := eccLow d
  let c6 := parity d != parity c
  pack 39 [(0, 32, d.toNat), (32, 6, c.toNat), (38, 1, b2n c6)]

/-- A decoded word (Table 12-1): data, corrected, uncorrectable. -/
structure Decoded where
  data : Word
  corrected : Bool
  uncorr : Bool
  deriving DecidableEq, Repr

/-- Decode 39 bits read. -/
def otpDecode (r : Raw39) : Decoded :=
  let d : Word := r.setWidth 32
  let s := ((eccLow d) ^^^ r.extractLsb' 32 6).toNat
  if parity r then
    if s = 0 || s = 1 || s = 2 || s = 4 || s = 8 || s = 16 || s = 32 then { data := d, corrected := true, uncorr := false }
    else match codePos.findIdx? (· = s) with
      | some j => { data := d ^^^ maskOf 32 j 1, corrected := true, uncorr := false }
      | none => { data := d, corrected := false, uncorr := true }
  else if s = 0 then { data := d, corrected := false, uncorr := false }
  else { data := d, corrected := false, uncorr := true }

/-! ### Margin reads (R523, R524) -/

/-- What the array holds of a word. -/
def otpCell (o : Otp) (w : Nat) : OtpCell := Sparse.getD o.cells w (OtpCell.clean 0)

/-- A margin read of a word: as the command brings it, else what the array holds. -/
def marginRead (o : Otp) (rs : List MarginRead) (w : Nat) : MarginRead :=
  (rs.find? fun r => r.word = w).getD { word := w, normal := (otpCell o w).normal, high := (otpCell o w).high, low := (otpCell o w).low }

/-- A word as judged by its three reads. -/
structure OtpWord where
  prog : Bool
  value : Word
  marginal : Bool
  corrected : Bool
  uncorr : Bool
  hiDiff : Bool
  loDiff : Bool
  deriving DecidableEq, Repr

/-- Judge a word (R523, R524). -/
def judge (r : MarginRead) : OtpWord :=
  let c := otpDecode r.normal
  { prog := r.normal ≠ 0 || r.high ≠ 0 || r.low ≠ 0, value := if c.uncorr then 0 else c.data
    marginal := r.high ≠ r.normal || r.low ≠ r.normal || c.corrected || c.uncorr
    corrected := c.corrected, uncorr := c.uncorr, hiDiff := r.high ≠ r.normal, loDiff := r.low ≠ r.normal }

/-- A word of the load or pass. -/
def look (o : Otp) (rs : List MarginRead) (w : Nat) : OtpWord := judge (marginRead o rs w)

/-- The words that are not unprogrammed, in ascending order. -/
def otpSeen (o : Otp) (rs : List MarginRead) : List Nat :=
  ((o.cells.map fun e => (e.1, ())) ++ (rs.map fun r => (r.word, ()))).foldl
    (fun (t : Sparse Unit) e => if e.1 < 1024 then Sparse.set t e.1 e.2 else t) [] |>.map Prod.fst

/-- The marginal words, in ascending order. -/
def marginals (o : Otp) (rs : List MarginRead) : List Nat := (otpSeen o rs).filter fun w => (look o rs w).marginal

/-- The region of a word (Table 12-3). -/
def otpRegion (w : Nat) : Nat :=
  if w < 256 then 0 else if w < 320 then 1 else if w < 448 then 2 else if w < 768 then 3 else if w < 832 then 4 else 5

/-- First word and number of words of regions 0–3. -/
def regionWords (r : Nat) : Nat × Nat :=
  match r with | 0 => (0, 256) | 1 => (256, 64) | 2 => (320, 128) | _ => (448, 320)

/-- The digest of a region (R541). -/
def otpDigest (o : Otp) (rs : List MarginRead) (r : Nat) : Word :=
  let (a, n) := regionWords r
  let bytes := (List.range n).flatMap fun i => leBytes 4 (look o rs (a + i)).value.toNat
  BitVec.ofNat 32 (leNat ((sha256 (BitVec.ofNat 8 r :: bytes)).take 4))

/-- Bits of the regions that pass a test. -/
def regionBits (p : Nat → Bool) : BitVec 6 := BitVec.ofNat 6 ((List.range 6).foldl (fun a r => a + b2n (p r) * 2 ^ r) 0)

/-- Region `r` counts as locked (R542). -/
def regionLocked (o : Otp) (rs : List MarginRead) (r : Nat) : Bool :=
  r < 4 && ((look o rs (776 + r)).prog || (look o rs (780 + r)).prog)

/-- The digest of region `r` fails at the load (R534, R542). -/
def regionFails (o : Otp) (rs : List MarginRead) (r : Nat) : Bool :=
  let dg := look o rs (776 + r)
  (regionLocked o rs r && (dg.value ≠ otpDigest o rs r || !dg.prog || dg.marginal || (look o rs (780 + r)).marginal)) ||
    (r = 3 && (otpSeen o rs).any fun w => 448 ≤ w && w < 768 && w % 2 = 0 && (look o rs w).marginal)

/-! ### CONFIG records (R532–R538) -/

/-- A register whose record is valid: it has a field whose Reset column reads OTP, and no device item supplies it. -/
def recordReg (off : Nat) : Bool :=
  off = 0x0008 || (match regDef off with | some d => d.otp ≠ 0 | none => false)

/-- A record is ignored and sets CFG_BAD (R533). -/
def recordBad (k : Word) : Bool :=
  bitsOf k 24 8 ≠ 0xC5 || bitsOf k 17 7 ≠ 0 || (if bitOf k 16 then 4 < bitsOf k 0 16 else !recordReg (bitsOf k 0 16))

/-- Apply record `j` (R533, R534). -/
def applyRecord (rs : List MarginRead) (src : Otp) (j : Nat) (o : Otp) : Otp :=
  let k := look src rs (448 + 2 * j)
  if !k.prog then o
  else if recordBad k.value then { o with cfgBad := true }
  else
    let v := look src rs (449 + 2 * j)
    let key := bitsOf k.value 0 16
    if bitOf k.value 16 then
      { o with items := Sparse.set o.items key v.value, itemsRestrictive := if v.marginal then key :: o.itemsRestrictive else o.itemsRestrictive }
    else
      { o with records := Sparse.set o.records key v.value, restrictive := if v.marginal then key :: o.restrictive else o.restrictive }

/-- A key of Table 12-6 is usable (R531). -/
def keyUsable (o : Otp) (rs : List MarginRead) (failed : Bool) (a n : Nat) : Bool :=
  !failed && (List.range n).all fun i => (look o rs (a + i)).prog && !(look o rs (a + i)).marginal

/-- A word of Table 12-5 as the load yields it (R530). -/
def idValue (o : Otp) (rs : List MarginRead) (failed : Bool) (w : Nat) : Word :=
  let x := look o rs w
  if failed || x.marginal then (if w = 261 then 0x51 else 0) else x.value

/-- The rights of Table 12-10: debug access. -/
def debugOpens (lc : Nat) (marginal policy : Bool) : Bool := !marginal && (lc ≠ 3) && (lc ≠ 2 || policy)

/-- The load (R525–R546): the values and judgements it yields. -/
def otpLoad (o : Otp) (rs : List MarginRead) : Otp :=
  let ms := marginals o rs
  let fails := regionFails o rs
  let step := fun i => look o rs (768 + i)
  let lc := countIf (fun i => (step i).prog) (List.range 4)
  let lcM := (List.range 4).any fun i => (step i).marginal
  let o1 : Otp := { o with records := [], restrictive := [], items := [], itemsRestrictive := [], cfgBad := false }
  let o2 := forEach (List.range 160) (applyRecord rs o) o1
  let all := fails 3
  let restrI := fun (i : Nat) => all || o2.itemsRestrictive.contains i
  let items := o2.items.filter fun e => !restrI e.1
  let policy := if restrI 4 then false else bitOf (Sparse.getD items 4 1) 0
  { o2 with
    loadMarginal := ms, allRestrictive := all, items := items
    itemsRestrictive := if all then [0, 1, 2, 3, 4] else o2.itemsRestrictive
    lcMarginal := lcM, lcState := lc
    loadRegions := regionBits fun r => ms.any fun w => otpRegion w = r
    digestFail := regionBits fun r => r < 4 && fails r
    locked := regionBits (regionLocked o rs)
    readLock := if lcM || lc = 3 || lc = 4 then o2.readLock ||| 4 else o2.readLock
    loadCount := satAdd 0 ms.length, lastAtLoad := if ms = [] then o2.lastAtLoad else true
    lastWord := match ms.getLast? with | some w => BitVec.ofNat 10 w | none => o2.lastWord
    rollback := countIf (fun i => (look o rs (832 + i)).prog) (List.range 96)
    debugOpen := debugOpens lc lcM policy
    keyOk := pack 4 [(0, 1, b2n (keyUsable o rs (fails 2) 320 4)), (1, 1, b2n (keyUsable o rs (fails 2) 324 4)),
                     (2, 1, b2n (keyUsable o rs (fails 2) 328 8)), (3, 1, b2n (keyUsable o rs (fails 2) 336 4))]
    identity := (List.range 6).map fun i => (256 + i, idValue o rs (fails 1) (256 + i))
    untrimmed := if fails 0 then List.range 256 else ms.filter fun w => w < 256 }

/-- EV51's detail (R527). -/
def ev51 (o : Otp) (rs : List MarginRead) (atLoad : Bool) (ms : List Nat) (w : Nat) : DWord :=
  let x := look o rs w
  pack 64 [(0, 10, w), (10, 3, otpRegion w), (13, 1, b2n atLoad), (14, 1, b2n x.corrected), (15, 1, b2n x.uncorr),
    (16, 1, b2n x.hiDiff), (17, 1, b2n x.loDiff), (32, 16, sat16 ms.length)]

/-- DEBUG_POLICY.OPEN_IN_PROVISION in force. -/
def debugPolicy (o : Otp) : Bool := if o.itemsRestrictive.contains 4 then false else bitOf (Sparse.getD o.items 4 1) 0

/-- A key's bytes (R531). -/
def keyBytes (o : Otp) (a n : Nat) : List Byte :=
  (List.range n).flatMap fun i => leBytes 4 (otpDecode (otpCell o (a + i)).normal).data.toNat

/-! ### Programming (R543–R552) -/

/-- A host field word (R540). -/
def hostField (w : Nat) : Bool := 928 ≤ w && w < 1024

/-- OTP_PROGRAM may program the word in the life-cycle state (Table 12-10). -/
def mayProgram (lc w : Nat) : Bool :=
  match lc with
  | 1 => w < 320
  | 2 => (320 ≤ w && w < 768) || hostField w
  | 3 => hostField w
  | _ => false

/-- OTP_LOCK_REGION may lock the region in the life-cycle state. -/
def mayLock (lc r : Nat) : Bool :=
  match lc with
  | 1 => r < 2
  | 2 => r = 2 || r = 3
  | _ => false

/-- Put bits into a word of the array; one that reads 0 at the three references stays unprogrammed. -/
def otpPut (s : State) (w : Nat) (c : OtpCell) : State :=
  { s with otp := { s.otp with cells := if c = OtpCell.clean 0 then s.otp.cells else Sparse.set s.otp.cells w c } }

/-- Program a word with its check bits. -/
def otpWrite (s : State) (w : Nat) (d : Word) : State := otpPut s w (OtpCell.clean (otpEncode d))

/-- What a cut leaves in the word being programmed (R553). -/
def cutCell (c : OtpCut) : OtpCell := { normal := c.normal, high := c.high, low := c.low }

/-- Program words in order, up to the one at which a cut falls; whether all were programmed (R543, R547, R553). -/
def otpRun (s : State) : List (Nat × Word) → Option OtpCut → State × Bool
  | [], _ => (s, true)
  | e :: es, none => otpRun (otpWrite s e.1 e.2) es none
  | e :: es, some c => if c.step = 0 then (otpPut s e.1 (cutCell c), false) else otpRun (otpWrite s e.1 e.2) es (some { c with step := c.step - 1 })

/-- A word is programmed: it reads not 0 at one of the three references (R523); `before` is how it reads, where not as the array holds
it. -/
def otpDone (s : State) (w : Nat) (before : Option MarginRead) : Bool := (look s.otp before.toList w).prog

/-- Die temperature outside −20 to +105 °C, by the latest sensor values; or a save is due or running (R552). -/
def otpUnfit (s : State) : Bool :=
  s.pwr.saveActive || (List.range 8).any fun i =>
    match Sparse.get? s.mp.sensors (16 + i) with
    | some t => t < -2000 || 10500 < t
    | none => false

/-- The words that steps 2 and 3 of R543 program for region `r`. -/
def lockWords (s : State) (r : Nat) : List (Nat × Word) := [(776 + r, otpDigest s.otp [] r), (780 + r, BitVec.ofNat 32 (0x4C4B0000 + r))]

/-- Regions count as locked once DIGEST_r or LOCK_r is programmed (R542, R543). -/
def markLocked (s : State) (rs : List Nat) : State :=
  { s with otp := { s.otp with locked := rs.foldl (fun a r => if regionLocked s.otp [] r then a ||| maskOf 6 r 1 else a) s.otp.locked } }

/-- Steps 2 and 3 of R543 for region `r`, and whether they were not cut. -/
def lockRegion (s : State) (r : Nat) (cut : Option OtpCut) : State × Bool :=
  let l := otpRun s (lockWords s r) cut
  (markLocked l.1 [r], l.2)

/-- A new nonce (R550). -/
def newNonce (s : State) : State := takeFree { s with otp := { s.otp with nonce := Config.freeNonce s.free } }

/-- The authorisation of a host field word (R549). -/
def fieldAuth (s : State) (w : Nat) (d : Word) : List Byte :=
  cmac (keyBytes s.otp 336 4)
    ([0x4F, 0x54, 0x50, 0x2D, 0x46, 0x4C, 0x44] ++ leBytes 2 w ++ leBytes 4 d.toNat ++ leBytes 8 s.otp.nonce.toNat)

/-- The status of OTP_PROGRAM before any programming (Table 12-11). -/
def programStatus (s : State) (w : Nat) (data : Word) (auth : Nat) (before : Option MarginRead) : Option Nat :=
  if (768 ≤ w && w < 928) || (w < 1024 && (!mayProgram s.otp.lcState w || bitOf s.otp.locked (otpRegion w) || bitOf s.otp.progLock (otpRegion w))) ||
      s.otp.lcMarginal then some stAccessDenied
  else if !hostField w && auth ≠ 0 then some stInvalidField
  else if 1023 < w || data = 0 then some stRange
  else if otpDone s w before || otpUnfit s then some stRefused
  else if hostField w && (!bitOf s.otp.keyOk 3 || leBytes 16 auth ≠ fieldAuth s w data) then some stSignature
  else none

/-- OTP_PROGRAM: `verify` is what the word reads after it, where it does not read clean (Table 12-11). -/
def otpProgram (s : State) (w : Nat) (data : Word) (auth : Nat) (before verify : Option MarginRead) : State × Nat :=
  let renew := fun q => if hostField w then newNonce q else q
  match programStatus s w data auth before with
  | some st => (renew s, st)
  | none =>
    match verify with
    | none => (renew (otpWrite s w data), stSuccess)
    | some r =>
      let x := judge r
      if x.marginal || x.value ≠ data then (renew (otpPut s w { normal := r.normal, high := r.high, low := r.low }), stDeviceError) else (renew (otpWrite s w data), stSuccess)

/-- The 8 bytes of OTP_READ for a word (R551, R554). -/
def otpReadBytes (s : State) (rs : List MarginRead) (w : Nat) : List Byte :=
  if bitOf s.otp.readLock (otpRegion w) then zeroBytes 5 ++ [0x20, 0, 0]
  else
    let r := marginRead s.otp rs w
    let x := judge r
    leBytes 4 x.value.toNat ++ leBytes 1 (bitsOf r.normal 32 7) ++
      leBytes 1 (b2n x.prog + 2 * b2n x.marginal + 4 * b2n x.corrected + 8 * b2n x.uncorr + 16 * b2n (s.otp.loadMarginal.contains w)) ++ [0, 0]

end Sys2Proof.Machine
end

