-- ==== Sys2Proof/Machine/MpOps.lean ====
section
/-! DEFINITION. Operations of the management processor: flash, image verification, the boot control record, the event log
and the lifetime counters (14_management_and_ageing.md). -/

namespace Sys2Proof.Machine

/-- The MP's firmware runs. -/
def mpRuns (s : State) : Bool := domOn s 3 && rootAlive s && s.glb.mpRunning

/-- A change of the MP. -/
def setMp (s : State) (m : Mp) : State := { s with mp := m }

/-- A change of parking. -/
def setPark (s : State) (p : Parking) : State := setMp s { s.mp with parking := p }

/-! ### QSPI flash (R595) -/

/-- First flash byte of a slot. -/
def slotBase (slot : Nat) : Nat := slot * 0x200000

def flashRead (s : State) (a n : Nat) : List Byte := Mem.read flashByte s.flash a n

/-- Program erased flash. -/
def flashWrite (s : State) (a : Nat) (bs : List Byte) : State := { s with flash := Mem.write flashByte s.flash a bs }

/-- Cells outside a run of addresses. -/
def Mem.outside (a n : Nat) (m : List Host.Cell) : List Host.Cell := m.filter fun c => decide (c.1 < a) || decide (a + n ≤ c.1)

/-- Erase a run of flash. -/
def flashErase (s : State) (a n : Nat) : State := { s with flash := Mem.outside a n s.flash }

/-! ### Images (R596, R597) -/

/-- The header of a slot. -/
def slotHead (s : State) (slot : Nat) : List Byte := flashRead s (slotBase slot) 256

def headCode (h : List Byte) : Nat := leField h 16 4
def headData (h : List Byte) : Nat := leField h 20 4
def headVersion (h : List Byte) : Nat := leField h 8 4
def headRollback (h : List Byte) : Nat := leField h 12 4

/-- Bytes of the page-hash table. -/
def headTable (h : List Byte) : Nat := headData h / 4096 * 32

/-- Slot offset of the data section. -/
def dataStart (h : List Byte) : Nat := (256 + headCode h + headTable h + 4095) / 4096 * 4096

/-- ASCII "VXFW". -/
def fwMagic : List Byte := [0x56, 0x58, 0x46, 0x57]

/-- R597 check 1. -/
def headFormOk (h : List Byte) : Bool :=
  h.take 4 = fwMagic && leField h 4 2 = 0x0E01 && (h.drop 28).take 4 = zeroBytes 4 && (h.drop 224).take 32 = zeroBytes 32

/-- R597 check 2: the lengths and the entry in their ranges, the image within its slot. -/
def headSizeOk (h : List Byte) : Bool :=
  headCode h % 4 = 0 && 4 ≤ headCode h && headCode h ≤ 196608 && headData h % 4096 = 0 && headData h ≤ 1835008 &&
    leField h 24 4 < headCode h && dataStart h + headData h ≤ 0x200000

/-- R597 check 3. -/
def headLevelOk (h : List Byte) : Bool := (leField h 6 2).testBit Config.behaviourLevel

/-- R597 check 5. -/
def headKeyOk (s : State) (h : List Byte) : Bool :=
  bitOf s.otp.keyOk 2 && sha256 ((h.drop 96).take 64) = keyBytes s.otp 328 8

/-- R597 check 7. -/
def imageHashesOk (s : State) (slot : Nat) (h : List Byte) : Bool :=
  sha256 (flashRead s (slotBase slot + 256) (headCode h)) = (h.drop 32).take 32 &&
    sha256 (flashRead s (slotBase slot + 256 + headCode h) (headTable h)) = (h.drop 64).take 32

/-- The hash that the table holds for data page `k`. -/
def tableEntry (s : State) (slot : Nat) (h : List Byte) (k : Nat) : List Byte :=
  flashRead s (slotBase slot + 256 + headCode h + 32 * k) 32

/-- The bytes of data page `k`. -/
def dataPage (s : State) (slot : Nat) (h : List Byte) (k : Nat) : List Byte :=
  flashRead s (slotBase slot + dataStart h + 4096 * k) 4096

/-- R597 check 8. -/
def imagePagesOk (s : State) (slot : Nat) (h : List Byte) : Bool :=
  (List.range (headData h / 4096)).all fun k => sha256 (dataPage s slot h k) = tableEntry s slot h k

/-- The image in a slot verifies (R597): the checks in their order. -/
def verifySlot (s : State) (slot : Nat) : Bool :=
  let h := slotHead s slot
  headFormOk h && headSizeOk h && headLevelOk h && decide (s.otp.rollback ≤ headRollback h) && headKeyOk s h &&
    ecdsaVerify ((h.drop 96).take 64) ((h.drop 160).take 64) (h.take 160) && imageHashesOk s slot h && imagePagesOk s slot h

/-- MP_FW_VER of a slot: the version of a verifying image, 0 for none. -/
def slotVersion (s : State) (slot : Nat) : Word := if verifySlot s slot then BitVec.ofNat 32 (headVersion (slotHead s slot)) else 0

/-- Look at both slots again. -/
def slotVersions (s : State) : State := setMp s { s.mp with versionA := slotVersion s 0, versionB := slotVersion s 1 }

/-- The running slot, if one runs. -/
def runningSlot (s : State) : Option Nat :=
  if s.mp.bootState = 1 then some 0 else if s.mp.bootState = 2 then some 1 else none

/-! ### EV59 (R604) -/

def ev59Detail (s : State) (kind slot version : Nat) : DWord :=
  pack 64 [(0, 3, kind), (3, 1, slot), (4, 8, s.otp.rollback), (32, 32, version)]

/-- EV59 with its entry in the event log (Table 14-11). -/
def ev59 (s : State) (kind slot version : Nat) : State :=
  let d := ev59Detail s kind slot version
  noteLog (raise s 59 d) 7 (d.setWidth 128)

/-! ### Boot control record: NVM page 96 -/

/-- What page 96 holds. -/
structure BootCtl where
  preferred : Nat
  trial : Bool
  fails : Nat
  deriving DecidableEq, Repr

/-- The CRC of a page whose CRC field of 4 bytes stands at `at`: CRC-32 of R112 over the rest. -/
def pageCrc (bs : List Byte) (at_ : Nat) : Nat := crc32 (bs.take at_ ++ (bs.drop (at_ + 4)).take (60 - at_))

/-- The record, with defaults where page 96 is not valid (R599). -/
def bootCtl (s : State) : BootCtl :=
  match nvRead s 96 with
  | some b =>
    if leField b 0 2 = 0x0E02 && leField b 16 4 = pageCrc b 16 then
      { preferred := leField b 2 1 % 2, trial := (leField b 3 1).testBit 0, fails := leField b 4 1 }
    else { preferred := 0, trial := false, fails := 0 }
  | none => { preferred := 0, trial := false, fails := 0 }

/-- The 64 bytes of page 96. -/
def bootBytes (s : State) (c : BootCtl) : List Byte :=
  let head := leBytes 2 0x0E02 ++ leBytes 1 c.preferred ++ leBytes 1 (b2n c.trial) ++ leBytes 1 c.fails ++ zeroBytes 3 ++
    leBytes 4 s.mp.versionA.toNat ++ leBytes 4 s.mp.versionB.toNat
  head ++ leBytes 4 (crc32 (head ++ zeroBytes 44)) ++ zeroBytes 44

/-- What MP_STATUS shows of the record. -/
def bootShow (s : State) (c : BootCtl) : State :=
  setMp s { s.mp with preferred := c.preferred, trial := c.trial, failCount := c.fails }

/-- Write page 96. -/
def bootWrite (s : State) (c : BootCtl) : State := bootShow (nvmOwn s 96 0 (bootBytes s c)) c

/-! ### Event log and lifetime counters (R623, R625) -/

/-- NVM page and byte of log entry `n`. -/
def logPage (n : Nat) : Nat := 256 + n % 1024 / 2
def logOff (n : Nat) : Nat := 32 * (n % 2)

/-- The 32 bytes of a log entry. -/
def logBytes (lseq : BitVec 16) (type : Nat) (ts : Stamp) (data : BitVec 128) : List Byte :=
  leBytes 2 lseq.toNat ++ leBytes 1 type ++ [0] ++ leBytes 6 ts.toNat ++ zeroBytes 6 ++ leBytes 16 data.toNat

/-- Write one thing that waits. -/
def mpTodoDo (e : MpTodo) (s : State) : State :=
  match e with
  | .count k => countInc s k
  | .log type ts data =>
    let n := s.mp.lseq.toNat
    let s1 := nvmOwn s (logPage n) (logOff n) (logBytes s.mp.lseq type ts data)
    setMp s1 { s1.mp with lseq := s.mp.lseq + 1, logCount := if s.mp.logCount < 1024 then s.mp.logCount + 1 else 1024 }

/-- The MP writes what waits, in order, once no other page write is in progress (R560, R625). -/
def mpFlush (s : State) : State :=
  if mpRuns s && !s.pwr.saveActive && s.nvm.busy.isNone then forEach s.mp.todo mpTodoDo (setMp s { s.mp with todo := [] }) else s

/-- An entry still waiting when SAVE_ACTIVE is set is lost (R625). -/
def logLost (s : State) : State :=
  setMp s { s.mp with todo := s.mp.todo.filter fun e => match e with | .log _ _ _ => false | .count _ => true }

/-- The event log in logical order, `off` bytes in: the bytes held of a range, and the pages that could not be read. -/
def logRead (s : State) (off len : Nat) : List Byte × List Nat :=
  let n := s.mp.logCount
  let have_ := if 32 * n ≤ off then 0 else if off + len ≤ 32 * n then len else 32 * n - off
  let first := s.mp.lseq.toNat + 65536 - n
  let entries := if have_ = 0 then [] else (List.range ((off + have_ - 1) / 32 - off / 32 + 1)).map (· + off / 32)
  let read := fun i => (nvRead s (logPage (first + i))).map fun b => (b.drop (logOff (first + i))).take 32
  let got := entries.map read
  (((got.flatMap fun o => o.getD []).drop (off % 32)).take have_,
    (entries.map fun i => logPage (first + i)).filter fun p => (nvRead s p).isNone)

end Sys2Proof.Machine
end

