-- ==== Sys2Proof/Machine/MarginOps.lean ====
section
/-! DEFINITION. Operations of the margin plan: re-planning, applying, storing and re-applying it (R614–R622). -/

namespace Sys2Proof.Machine

/-- An item of the plan. -/
def margin (s : State) (i : Nat) : MarginItem := (s.mp.items[i]?).getD (MarginItem.zero 0)
def setMargin (s : State) (i : Nat) (m : MarginItem) : State := setMp s { s.mp with items := listSet s.mp.items i m }

/-- Items marked "monitor" in Table 14-6. -/
def isMonitor (i : Nat) : Bool := i = 1 || i = 17 || i = 22 || i = 23

/-- EV58 (R622). -/
def ev58 (s : State) (kind item : Nat) (v : Int) : State :=
  raise s 58 (pack 64 [(0, 3, kind), (8, 5, item), (32, 32, toTwos 32 v)])

/-! ### What a re-plan measures (R614) -/

/-- The largest degradation among monitors, ppm. -/
def worstOf (s : State) (ms : List Nat) : Nat := (ms.map fun m => Sparse.getD s.mp.monitors m 0).foldl (fun a b => if a < b then b else a) 0

def wMonitors (i : Nat) : List Nat :=
  if i = 0 then List.range 10 else if i = 19 then (List.range 8).map (· + 10) ++ [20, 21] else []

/-- A measured input that no other state holds: as the command brings it, else the latest, else a free value. -/
def planInput (s : State) (i : Nat) : Int :=
  match Sparse.get? s.mp.inputs i with
  | some v => v
  | none => (Config.freeMeasure (s.free + i)).toInt

/-- Take measured inputs. -/
def takeInputs (s : State) (xs : List (Nat × Int)) : State :=
  setMp s { s.mp with inputs := xs.foldl (fun t e => Sparse.set t e.1 e.2) s.mp.inputs }

/-- Pages of 96–767 that are worn and not yet remapped, in ascending order. -/
def wornPages (s : State) : List Nat :=
  (s.nvm.pages.map Prod.fst).filter fun n =>
    96 ≤ n && n < 768 && (Sparse.get? s.nvm.remap n).isNone && !(s.nvm.remap.any fun e => e.2 = n) &&
      decide (950000 ≤ (Sparse.getD s.nvm.pages n Page.fresh).wear)

/-- The largest deviation of the bandgap references (items 48–50). -/
def bandSpread (s : State) : Int :=
  (([48, 49, 50].map fun i => absI (Sparse.getD s.mp.sensors i 0)).foldl (fun a b => if a < b then b else a) 0 : Nat)

/-- Some port has counted over 100 CODE_ERRS in the last hour. -/
def linkNoisy (s : State) : Bool :=
  s.lp.ports.toList.any fun x => match x.errTimes[100]? with | some t => decide (s.upSeconds < t + 3600) | none => false

/-- The present value of an item. -/
def marginPresent (s : State) (i : Nat) : Int :=
  if i = 0 then s.pwr.trim
  else if i = 1 then planInput s 1
  else if i = 3 then s.nvm.remap.length
  else if i = 16 then s.rtc.ageing
  else if i = 17 then (Sparse.get? s.mp.sensors 51).getD (planInput s 17)
  else if i = 22 then bandSpread s
  else if i = 23 then s.otp.loadCount.toNat + s.mp.passWords
  else (margin s i).present

/-- ceil(W ÷ 4,000). -/
def ceil4000 (w : Nat) : Nat := (w + 3999) / 4000

/-- The planned value of an item, before its limit. -/
def marginWanted (s : State) (i : Nat) : Int :=
  if i = 0 then ceil4000 (worstOf s (wMonitors 0)) + (if marginPresent s 1 < (margin s 1).limit then 1 else 0 : Int)
  else if i = 2 || i = 20 || i = 21 then - planInput s i
  else if i = 3 then ((s.nvm.remap.length + (wornPages s).length : Nat) : Int)
  else if 4 ≤ i && i < 16 then (((s.mp.shadows.stress[i - 4]?).getD 0) / 3600 / 20000).floor
  else if i = 16 then marginPresent s 16 + s.mp.rate.getD 0
  else if i = 18 then marginPresent s 18 + (if linkNoisy s then 1 else 0)
  else if i = 19 then (if 15000 < worstOf s (wMonitors 19) then 1 else 0)
  else marginPresent s i

/-- A value beyond the item's limit (R615). -/
def beyond (i : Nat) (limit v : Int) : Bool :=
  if i = 1 || i = 17 then v < limit
  else if i = 2 || i = 16 || i = 20 || i = 21 then limit < v || v < - limit
  else limit < v

/-- A planned value held at its limit. -/
def marginClamp (i : Nat) (limit v : Int) : Int :=
  if isMonitor i then v
  else if i = 2 || i = 16 || i = 20 || i = 21 then clampI (- limit) limit v
  else if limit < v then limit else v

/-- The item as a re-plan leaves it. -/
def marginPlan (s : State) (i : Nat) : MarginItem :=
  let m := margin s i
  let want := marginWanted s i
  { m with present := marginPresent s i, planned := marginClamp i m.limit want, atLimit := beyond i m.limit want
           baselineLost := (wMonitors i).any fun k => s.mp.baselineLost.contains k }

/-- Items whose planned value differs from the present one. -/
def marginChanges (s : State) : Nat := countIf (fun m => decide (m.planned ≠ m.present)) s.mp.items

/-! ### Application (R621) -/

/-- VLY_LIM of a phase under its derating, while PD_REGC is on. -/
def derateApply (s : State) (p : Nat) : State :=
  let off := 0x4608 + 0x20 * p
  let lim := bitsOf (regReset s.otp off) 0 10 * (100 - (margin s (4 + p)).present.toNat) / 100
  if domOn s 10 && lim < fld s off 0 10 then wrFld s off 0 10 lim else s

/-- Every derating again, at each time PD_REGC comes on. -/
def derateAll (s : State) : State := forUpTo 12 (fun p q => if 0 < (margin q (4 + p)).present then derateApply q p else q) s

/-- A spare page: of 104–255, holding nothing and not yet used (log 69). -/
def sparePage (s : State) : Option Nat :=
  ((List.range 152).map (· + 104)).find? fun n => !(s.nvm.remap.any fun e => e.2 = n) && (Sparse.get? s.nvm.pages n).isNone

/-- Retire one worn page: copied to a spare page and remapped. -/
def retirePage (n : Nat) (s : State) : State :=
  match sparePage s with
  | none => ev58 s 3 3 s.nvm.remap.length
  | some k =>
    let d := nvRead s n
    let s1 := { s with nvm := { s.nvm with remap := Sparse.set s.nvm.remap n k } }
    match d with
    | some b => nvmOwn s1 n 0 b
    | none => pageError s1 n

/-- Write the ageing offset to RTC_AGEING and page 9 (R585, Table 13-2). -/
def ageingWrite (s : State) (v : Int) : State :=
  let head := leBytes 2 0x0D01 ++ leBytes 2 (toTwos 16 v) ++ leBytes 6 (stamp s).toNat ++ leBytes 2 (s.mp.revision.toNat % 65536)
  takeFree (nvmOwn { s with rtc := { s.rtc with ageing := v } } 9 0 (head ++ leBytes 4 (crc32 (head ++ zeroBytes 48)) ++ zeroBytes 48))

/-- TRIM within −16 to +24 (R416). -/
def trimWithin (t : Int) : Int := if t < -16 then -16 else if 24 < t then 24 else t

/-- TRIM moves one step toward where the plan sends it; this falls due once per 1 ms (R416). -/
def trimStep (s : State) : State :=
  match s.mp.trimGoal with
  | none => s
  | some g =>
    let t := trimWithin (if s.pwr.trim < g then s.pwr.trim + 1 else if g < s.pwr.trim then s.pwr.trim - 1 else s.pwr.trim)
    setMp { s with pwr := { s.pwr with trim := t } } { s.mp with trimGoal := if t = g then none else some g }

/-- The plan sends TRIM to a value; the first step is made at once. -/
def trimTo (s : State) (v : Int) : State := trimStep (setMp s { s.mp with trimGoal := some (trimWithin v) })

/-- One item takes its planned value; VCORE_TRIM has reached its own by then. -/
def marginAct (i : Nat) (s : State) : State :=
  let m := margin s i
  if isMonitor i || m.planned = m.present then s
  else
    let s1 := setMargin s i { m with present := if i = 0 then s.pwr.trim else m.planned }
    if i = 3 then
      (let s2 := forEach ((wornPages s).take (m.planned - m.present).toNat) retirePage s1
       setMargin s2 3 { margin s2 3 with present := s2.nvm.remap.length })
    else if 4 ≤ i && i < 16 then derateApply s1 (i - 4)
    else if i = 16 then ageingWrite s1 m.planned
    else s1

/-- The items act in ascending order, once TRIM stands at its planned value (log 68). -/
def marginItems (s : State) : State :=
  if s.mp.itemsWait && s.mp.trimGoal.isNone then forUpTo 24 marginAct (setMp s { s.mp with itemsWait := false }) else s

/-- The application begins (R621): VCORE_TRIM with its first step, the further items after its last. -/
def marginApply (s : State) : State :=
  let s1 := setMp s { s.mp with applying := true, applyCount := marginChanges s, itemsWait := true }
  marginItems (if (margin s 0).planned = (margin s 0).present then s1 else trimTo s1 (margin s 0).planned)

/-- 1 ms goes by for TRIM: at the control tick, the device's row of that period (log 126). -/
def trimTick (s : State) : State := if mpRuns s then marginItems (trimStep s) else s

/-- The steps and items that an application has still to make at its end (log 126). -/
def trimRest (s : State) : State := marginItems (forUpTo 40 (fun _ q => trimStep q) s)

/-! ### Re-planning (R617, R618) -/

/-- POLICY in force: 0 AUTO, 1 PROPOSE, 2 FROZEN. -/
def marginPolicy (s : State) : Nat := let p := fld s 0xA034 0 2; if p = 3 then 2 else p

/-- Compute every planned value; EV58 for each item newly at its limit. -/
def planValues (s : State) : State :=
  let old := s.mp.items
  let new := (List.range 24).map (marginPlan s)
  let s1 := setMp { s with free := s.free + 24 } { s.mp with items := new, revision := s.mp.revision + 1, rate := none, passWords := 0 }
  forUpTo 24 (fun i q =>
    let was := ((old[i]?).map fun (m : MarginItem) => m.atLimit).getD false
    let m := margin q i
    if m.atLimit && !was then ev58 q 2 i (if isMonitor i then m.present else m.planned) else q) s1

/-- What follows a re-plan. -/
def planDecide (s : State) (auto : Bool) : State :=
  let n := marginChanges s
  if n = 0 then setMp s { s.mp with pending := false }
  else if auto || marginPolicy s = 0 then marginApply (setMp s { s.mp with pending := false })
  else if marginPolicy s = 1 then
    raise (setMp s { s.mp with pending := true }) 57 (pack 64 [(0, 32, s.mp.revision.toNat), (32, 5, n)])
  else setMp s { s.mp with pending := false }

/-- A re-plan, with the measured inputs it needs; one that falls due during an application is held (R617). -/
def replan (s : State) (xs : List (Nat × Int)) (auto : Bool) : State :=
  let s0 := takeInputs s xs
  if s0.mp.applying then setMp s0 { s0.mp with replanHeld := true }
  else planDecide (planValues (setMp s0 { s0.mp with replanHeld := false })) auto

/-! ### The stored plan (R619, R622) -/

/-- The 16 bytes of an item record. -/
def marginRecord (i : Nat) (m : MarginItem) : List Byte :=
  leBytes 1 i ++ leBytes 1 (b2n (isMonitor i) + 2 * b2n m.atLimit + 4 * b2n (decide (m.planned ≠ m.present)) + 8 * b2n m.baselineLost) ++
    zeroBytes 2 ++ leBytes 4 (toTwos 32 m.present) ++ leBytes 4 (toTwos 32 m.planned) ++ leBytes 4 (toTwos 32 m.limit)

/-- The 24 records of the current revision. -/
def marginRecords (s : State) : List Byte := (List.range 24).flatMap fun i => marginRecord i (margin s i)

/-- Write the plan: pages 98–103, then the header in page 97. -/
def planStore (s : State) : State :=
  let recs := marginRecords s
  let s1 := forUpTo 6 (fun k q => nvmOwn q (98 + k) 0 ((recs.drop (64 * k)).take 64)) s
  takeFree (nvmOwn s1 97 0 (leBytes 2 0x0E03 ++ leBytes 4 s.mp.revision.toNat ++ leBytes 6 (stamp s).toNat ++ leBytes 1 (marginPolicy s) ++
    leBytes 4 (crc32 recs) ++ zeroBytes 47))

/-- The 384 bytes of the stored plan and its revision, where it is valid. -/
def planStored (s : State) : Option (Nat × List Byte) :=
  match nvRead s 97 with
  | none => none
  | some h =>
    let ps := (List.range 6).map fun k => nvRead s (98 + k)
    let recs := ps.flatMap fun o => o.getD []
    if leField h 0 2 = 0x0E03 && ps.all Option.isSome && leField h 13 4 = crc32 recs then some (leField h 2 4, recs) else none

/-- An item from its record. -/
def marginOf (b : List Byte) : MarginItem :=
  { present := (BitVec.ofNat 32 (leField b 4 4)).toInt, planned := (BitVec.ofNat 32 (leField b 8 4)).toInt
    limit := (BitVec.ofNat 32 (leField b 12 4)).toInt, atLimit := (leField b 1 1).testBit 1, baselineLost := (leField b 1 1).testBit 3 }

/-- The PRESENT values of the stored plan act again. -/
def planReapply (s : State) (rev : Nat) (recs : List Byte) : State :=
  let s1 := setMp s { s.mp with items := (pieces 16 24 recs).map marginOf, revision := BitVec.ofNat 32 rev }
  trimTo (derateAll { s1 with rtc := { s1.rtc with ageing := (margin s1 16).present } }) (margin s1 0).present

/-- What the MP does with the plan at each boot (R622). -/
def planBoot (s0 : State) (xs : List (Nat × Int)) : State :=
  let s := nvLook ((List.range 7).map (· + 97)) s0
  match planStored s with
  | some (rev, recs) => planReapply s rev recs
  | none => replan s xs true

/-- The application ends: the plan and a log entry are written (R621), and a held re-plan follows (R617). -/
def marginDone (s : State) (xs : List (Nat × Int)) : State :=
  let s1 := planStore (trimRest s)
  let s2 := noteLog s1 8 (pack 128 [(0, 32, s.mp.revision.toNat), (32, 32, s.mp.applyCount)])
  let s3 := setMp s2 { s2.mp with applying := false, pending := false }
  if s3.mp.replanHeld then replan s3 xs false else s3

end Sys2Proof.Machine
end

