-- ==== Sys2Proof/Machine/Firmware.lean ====
section
/-! DEFINITION. Meanings of the firmware commands and of the events of the boot ROM and the running firmware
(14_management_and_ageing.md, R594–R604, R622, R626). -/

namespace Sys2Proof.Machine

def specFwStage : OpSpec :=
  { opcode := 0x80, target := 0xFFFFFFFF, align := 4, ops := maskOf 384 0 32, mpOk := false, dom := some 3, fsRefused := false }
def specFwCommit : OpSpec :=
  { opcode := 0x81, target := 0xFFFFFFFF, align := 0, ops := 0, mpOk := false, dom := some 3, fsRefused := false }
def specLogRead : OpSpec :=
  { opcode := 0x82, target := 0xFFFFFFFF, align := 4, ops := maskOf 384 0 32, mpOk := true, dom := some 3, fsRefused := false }

/-- The firmware commands are served by the firmware, and by the boot ROM while there is no image (R600). -/
def fwServed (s : State) : Bool := s.glb.mpRunning || s.mp.bootState = 3

/-- The image's bytes go into the erased slot and are verified (R602 steps 2–4). -/
def fwCopy (s : State) (slot : Nat) (bs : List Byte) : State :=
  flashWrite (flashErase s (slotBase slot) 0x200000) (slotBase slot) bs

/-- `FW_STAGE` (R602); `timeout`: the flash has not finished within 60 s. -/
def execFwStage (rq : Requester) (d : Desc) (hostFault timeout : Bool) (s : State) : Host.Outcome State Fault Refusal :=
  .next (command specFwStage rq d (fun s t =>
    let slot := d.target.toNat
    let n := opn d 16 0 32
    if !fwServed s then complete s t stRefused 0
    else if 1 < slot then complete s t stRange 0
    else if runningSlot s = some slot then complete s t stRefused 0
    else if n < 256 || 2097152 < n then complete s t stRange 0
    else
      let gone := slotVersions (flashErase s (slotBase slot) 0x200000)
      if hostFault then complete gone t stHostAccess 0
      else if timeout then complete gone t stTimeout 0
      else
        let s1 := fwCopy s slot (hostRead s d.addr.toNat n)
        if verifySlot s1 slot then
          let s2 := slotVersions s1
          complete (ev59 s2 1 slot (headVersion (slotHead s2 slot))) t stSuccess 0
        else complete (slotVersions (flashErase s1 (slotBase slot) 4096)) t stSignature 0) s)

/-- `FW_COMMIT` (R603). -/
def execFwCommit (rq : Requester) (d : Desc) (s : State) : Host.Outcome State Fault Refusal :=
  .next (command specFwCommit rq d (fun s t =>
    let slot := d.target.toNat
    if !fwServed s then complete s t stRefused 0
    else if 1 < slot then complete s t stRange 0
    else if runningSlot s = some slot then complete s t stRefused 0
    else if (slotHead s slot).take 4 ≠ fwMagic then complete s t stNotPresent 0
    else if !verifySlot s slot then complete s t stSignature 0
    else
      let s1 := complete (bootWrite s { preferred := slot, trial := true, fails := 0 }) t stSuccess 0
      mpRestart (ev59 s1 2 slot (headVersion (slotHead s1 slot)))) s)

/-- `LOG_READ` (R626). -/
def execLogRead (rq : Requester) (d : Desc) (s : State) : Host.Outcome State Fault Refusal :=
  .next (command specLogRead rq d (fun s t =>
    let off := d.target.toNat
    let n := opn d 16 0 32
    if !s.glb.mpRunning then complete s t stRefused 0
    else if 32767 < off || 32768 < off + n then complete s t stRange 0
    else
      let r := logRead s off n
      match r.2 with
      | p :: _ => complete (pageError s p) t stDeviceError 0
      | [] => complete (cmdWrite s rq d.addr.toNat r.1) t stSuccess (BitVec.ofNat 64 r.1.length)) s)

/-! ### Booting (R598, R599) -/

/-- The boot ROM starts the image of a slot: code to MP SRAM, header and page-hash table kept; the plan is re-applied (R622). -/
def mpStart (s : State) (slot : Nat) (xs : List (Nat × Int)) : State :=
  let h := slotHead s slot
  let code := flashRead s (slotBase slot + 256) (headCode h)
  let table := flashRead s (slotBase slot + 256 + headCode h) (headTable h)
  let s1 := sramWrite { s with glb := { s.glb with mpRunning := true }, goose1 := { s.goose1 with clean := true } } 0 code
  planBoot (setMp s1 { s1.mp with bootState := slot + 1, image := h ++ table, fwLevels := BitVec.ofNat 16 (leField h 6 2), confirmed := !s1.mp.trial, bootSeconds := s1.mp.onSeconds }) xs

/-- No slot verifies (R599, R600). -/
def mpNoImage (s : State) : State := assertLine (setMp s { s.mp with bootState := 3 }) 21 2

/-- The boot control record as a boot leaves it; true: this boot fell back. -/
def bootNext (c : BootCtl) : BootCtl × Bool :=
  if !c.trial then (c, false)
  else if 3 ≤ c.fails then ({ preferred := 1 - c.preferred, trial := false, fails := 0 }, true)
  else ({ c with fails := c.fails + 1 }, false)

/-- R599's steps. -/
def mpBoot (s : State) (xs : List (Nat × Int)) : State :=
  let s0 := slotVersions (nvLook [96] s)
  let c := bootCtl s0
  let (c1, fell) := bootNext c
  let s1 := if c.trial then bootWrite s0 c1 else bootShow s0 c1
  let s2 := if fell then noteCount (ev59 s1 4 c1.preferred (slotVersion s1 c1.preferred).toNat) 12 else s1
  if verifySlot s2 c1.preferred then mpStart s2 c1.preferred xs
  else if verifySlot s2 (1 - c1.preferred) then mpStart s2 (1 - c1.preferred) xs
  else mpNoImage s2

/-- `MP_BOOT` (R599): PD_MP has reached LOGIC_RDY from off, the OTP load is complete and nothing runs yet. -/
def execMpBoot (inputs : List (Nat × Int)) (s : State) : Host.Outcome State Fault Refusal :=
  .next (if domOn s 3 && rootAlive s && s.glb.otpLoaded && s.mp.bootState = 0 && !s.glb.mpRunning then mpBoot s inputs else s)

/-- `MP_SELF_RESTART` (R438). -/
def execMpSelfRestart (s : State) : Host.Outcome State Fault Refusal :=
  .next (if domOn s 3 && rootAlive s then mpRestart s else s)

/-- `MP_DATA_PAGE_FILL` (R598): a page that fails its table entry causes a self-restart. -/
def execMpDataPageFill (page : Nat) (s : State) : Host.Outcome State Fault Refusal :=
  .next (
    match runningSlot s with
    | some slot =>
      let h := s.mp.image.take 256
      if mpRuns s && page < headData h / 4096 && sha256 (dataPage s slot h page) ≠ (s.mp.image.drop (256 + 32 * page)).take 32 then mpRestart s else s
    | none => s)

/-! ### Confirmation and anti-rollback (R601, R604) -/

/-- Word `c` of the anti-rollback counter is programmed; the last of the goal is reported. -/
def rollbackWord (s : State) (c : Nat) : State :=
  let s1 := otpWrite s (832 + c) (BitVec.ofNat 32 (0x52420000 + c))
  let s2 := { s1 with otp := { s1.otp with rollback := c + 1 } }
  if c + 1 = s.mp.rollbackGoal then ev59 (slotVersions s2) 5 s.mp.rollbackSlot (headVersion (s.mp.image.take 256)) else s2

/-- Program rollback words, one at a time in ascending order, until COUNT equals the goal, R552 refuses or a reset cuts one (R553). -/
def rollbackGo : Nat → Option OtpCut → State → State
  | 0, _, s => s
  | k + 1, cut, s =>
    if s.otp.rollback < s.mp.rollbackGoal && !otpUnfit s then
      match cut with
      | none => rollbackGo k none (rollbackWord s s.otp.rollback)
      | some x =>
        if x.step = 0 then otpPut s (832 + s.otp.rollback) (cutCell x)
        else rollbackGo k (some { x with step := x.step - 1 }) (rollbackWord s s.otp.rollback)
    else s

/-- The running slot is confirmed. -/
def fwConfirm (s : State) (slot : Nat) (cut : Option OtpCut) : State :=
  let h := s.mp.image.take 256
  let s1 := bootWrite s { preferred := s.mp.preferred, trial := false, fails := 0 }
  let s2 := noteCount (ev59 (setMp s1 { s1.mp with confirmed := true }) 3 slot (headVersion h)) 11
  let goal := if headRollback h < 96 then headRollback h else 96
  rollbackGo 96 cut (setMp s2 { s2.mp with rollbackGoal := goal, rollbackSlot := slot })

/-- `FW_CONFIRM` (R601): 60 s of operation with a valid Goose 1 service in every period. -/
def execFwConfirm (cut : Option OtpCut) (s : State) : Host.Outcome State Fault Refusal :=
  .next (
    match runningSlot s with
    | some slot => if mpRuns s && s.mp.trial && !s.mp.confirmed && s.goose1.clean && s.mp.bootSeconds + 60 ≤ s.mp.onSeconds then fwConfirm s slot cut else s
    | none => s)

/-- `ROLLBACK_RETRY` (R604): every hour of PD_MP on-time until the counter is complete. -/
def execRollbackRetry (cut : Option OtpCut) (s : State) : Host.Outcome State Fault Refusal :=
  .next (if mpRuns s && hourDue s s.mp.hourRoll then rollbackGo 96 cut (setMp s { s.mp with hourRoll := s.mp.onSeconds / 3600 }) else s)

end Sys2Proof.Machine
end

