-- ==== Sys2Proof/Machine/Ageing.lean ====
section
/-! DEFINITION. Meanings of the margin-plan commands and of the MP's periodic measurements and lifetime records
(14_management_and_ageing.md, R611–R625). -/

namespace Sys2Proof.Machine

def specMarginPlanGet : OpSpec :=
  { opcode := 0x88, target := 0, align := 4, ops := 0, mpOk := false, dom := some 3, fsRefused := false }
def specMarginPlanAccept : OpSpec :=
  { opcode := 0x89, target := 0, align := 0, ops := maskOf 384 0 32, mpOk := false, dom := some 3, fsRefused := false }

/-- `MARGIN_PLAN_GET` (R619). -/
def execMarginPlanGet (rq : Requester) (d : Desc) (s : State) : Host.Outcome State Fault Refusal :=
  .next (command specMarginPlanGet rq d (fun s t =>
    if !s.glb.mpRunning then complete s t stRefused 0
    else complete (hostWrite s d.addr.toNat (marginRecords s)) t stSuccess (s.mp.revision.setWidth 64)) s)

/-- `MARGIN_PLAN_ACCEPT` (R620). -/
def execMarginPlanAccept (rq : Requester) (d : Desc) (s : State) : Host.Outcome State Fault Refusal :=
  .next (command specMarginPlanAccept rq d (fun s t =>
    if !s.glb.mpRunning then complete s t stRefused 0
    else if opn d 16 0 32 ≠ s.mp.revision.toNat then complete s t stStale 0
    else if marginPolicy s ≠ 1 || !s.mp.pending || s.mp.applying then complete s t stRefused 0
    else complete (marginApply s) t stSuccess 0) s)

/-- A register write of MP_MARGIN_CFG: POLICY, and the re-plan that REPLAN asks for. -/
def marginCfgWrite (s : State) (w : Word) (xs : List (Nat × Int)) : State :=
  let s1 := wr s 0xA034 w 0x3
  if bitOf w 2 && s1.glb.mpRunning then replan s1 xs false else s1

/-- `REPLAN` (R617): the write reaches the management block in PD_MP. -/
def execReplan (via : Via) (w : Word) (inputs : List (Nat × Int)) (s : State) : Host.Outcome State Fault Refusal :=
  .next (if via ≠ .sideband && viaReach s via && domOn s 3 && rootAlive s then marginCfgWrite s w inputs else s)

/-- `MARGIN_REPLAN_PERIODIC` (R617): each 100 hours of PD_MP on-time. -/
def execMarginReplanPeriodic (inputs : List (Nat × Int)) (s : State) : Host.Outcome State Fault Refusal :=
  .next (if mpRuns s && s.mp.hourPlan < s.mp.onSeconds / 360000 then
      replan (setMp s { s.mp with hourPlan := s.mp.onSeconds / 360000 }) inputs false
    else s)

/-- `MARGIN_APPLY_DONE` (R621). -/
def execMarginApplyDone (inputs : List (Nat × Int)) (s : State) : Host.Outcome State Fault Refusal :=
  .next (if mpRuns s && s.mp.applying then marginDone s inputs else s)

/-! ### Sensors and monitors (R611–R613) -/

/-- The domain of an ageing monitor (R612). -/
def monitorDom (m : Nat) : Nat :=
  if m < 6 then 4 else if m < 10 then 3 else if m < 18 then 6 + (m - 10) / 2 else if m < 20 then 10 else if m < 22 then 5 else 1

/-- AGE_WARN in ppm; 0 disables. -/
def ageWarn (s : State) : Nat := fld s 0xA030 0 8 * 1000

/-- Degradation 10⁶ × (1 − ρ ÷ ρ₀) in ppm, from the measured ratio and its baseline in one unit; none below 0 (R612). -/
def degradation (rho rho0 : Nat) : Nat := if rho0 = 0 then 0 else (roundDiv (1000000 * ((rho0 : Int) - rho)) rho0).toNat

/-- One monitor's measurement; a monitor whose baseline is lost reads 0. -/
def monitorTake (s : State) (m rho rho0 : Nat) (lost : Bool) : State :=
  let v := if lost then 0 else degradation rho rho0
  let old := Sparse.getD s.mp.monitors m 0
  let keep := s.mp.baselineLost.filter fun k => k ≠ m
  let s1 := setMp s { s.mp with
    monitors := Sparse.set s.mp.monitors m v, baselineLost := if lost then m :: keep else keep
    shadows := { s.mp.shadows with ageing := listSet s.mp.shadows.ageing m v } }
  if ageWarn s ≠ 0 && old < ageWarn s && ageWarn s ≤ v then ev58 s1 1 m v else s1

/-- `AGEING_MEASURE` (R611–R613), each hour of PD_MP on-time: each monitor whose domain is on, by its frequency ratio and the baseline's,
with the monitors whose baseline word is restrictive, the
weakest gate driver in 0.1 %, and the bandgap drifts in 0.001 %. -/
def execAgeingMeasure (monitors : List (Nat × Nat × Nat)) (lost : List Nat) (gate : Int) (drifts : List Int) (s : State) :
    Host.Outcome State Fault Refusal :=
  .next (
    if !mpRuns s || !hourDue s s.mp.hourAge then s
    else
      let all := bitOf s.otp.digestFail 0
      let due := monitors.filter fun e => e.1 < 24 && domOn s (monitorDom e.1)
      let s1 := forEach due (fun e q => monitorTake q e.1 e.2.1 e.2.2 (all || lost.contains e.1)) s
      setMp s1 { s1.mp with sensors := Sparse.set s1.mp.sensors 51 gate, hourAge := s.mp.onSeconds / 3600
                            shadows := { s1.mp.shadows with bandgap := (drifts ++ s1.mp.shadows.bandgap.drop drifts.length).take 3 } })

/-- WARN_C in 0.1 °C, held within its range. -/
def warnTemp (s : State) : Int := 10 * (clampN 60 160 (fld s 0xA024 0 8) : Nat)

/-! ### Histograms and stress (R614, R624) -/

/-- One more second in a bin, saturating at 32 bits. -/
def binAdd (h : List Nat) (k : Nat) : List Nat :=
  listSet h k (let n := (h[k]?).getD 0; if n < 0xFFFFFFFF then n + 1 else n)

/-- The bin of a die temperature in 0.01 °C. -/
def dieBin (t : Int) : Nat := (clampI 0 15 ((t + 4000) / 1250)).toNat

/-- The bin of VMAIN in mV. -/
def vmainBin (mv : Int) : Nat := (clampI 0 15 (mv / 4000)).toNat

/-- The bin of a rail current, in the unit of ILIM_RAIL. -/
def railBin (i : Int) (ilim : Nat) : Nat := (clampI 0 15 (16 * i / ilim)).toNat

/-- The highest die temperature and its sensor, among sensors renewed. -/
def dieHighest (xs : Sparse Int) : Option (Nat × Int) :=
  (List.range 8).foldl (fun (a : Option (Nat × Int)) k =>
    match Sparse.get? xs (16 + k), a with
    | some t, some (j, u) => if u < t then some (k, t) else some (j, u)
    | some t, none => some (k, t)
    | none, _ => a) none

/-- The stress of one second of a phase whose mean current is `i`, in 0.1 A (R614). -/
def stressOf (s : State) (p i : Nat) : Rat :=
  let v := clampN 10 600 (fld s (phBase p + 8) 0 10)
  if v < 2 * i then ((i : Nat) / (v : Nat) : Rat) * ((i : Nat) / (v : Nat) : Rat) else 0

/-- The mean of a second's renewals, in 0.1 A; without one the latest value. -/
def secMean (sum : Int) (n : Nat) (last : Int) : Int := if n = 0 then last else roundDiv sum n

/-- The shadows after one more second. -/
def shadowSecond (s : State) : Shadows :=
  let h := s.mp.shadows
  let die := match dieHighest s.mp.sensors with | some e => binAdd h.dieHist (dieBin e.2) | none => h.dieHist
  let vm := match Sparse.get? s.mp.sensors 1 with
    | some v => if domOn s 12 then binAdd h.vmainHist (vmainBin v) else h.vmainHist
    | none => h.vmainHist
  let rail1 := fun (n : Nat) (t : List (List Nat)) =>
    if railBusy (rail s n) then listSet t n (binAdd ((t[n]?).getD []) (railBin (secMean (rail s n).secSum (rail s n).secN (rail s n).iout) (ilimRail s n))) else t
  let ph1 := fun (p : Nat) (t : List Rat) =>
    listSet t p ((t[p]?).getD 0 + stressOf s p (secMean (phs s p).secSum (phs s p).secN (phs s p).iPh).toNat)
  { h with dieHist := die, vmainHist := vm, railHist := forUpTo 8 rail1 h.railHist, stress := forUpTo 12 ph1 h.stress }

/-- The sums of the second start anew. -/
def secondClear (s : State) : State :=
  { s with rc := { s.rc with rails := s.rc.rails.map fun r => { r with secSum := 0, secN := 0 }
                             phases := s.rc.phases.map fun p => { p with secSum := 0, secN := 0 } } }

/-- EV61: the highest die temperature has risen through WARN_C (R613). -/
def dieWarn (s : State) : State :=
  if s.mp.dieArmed && warnTemp s ≤ s.mp.dieMax then
    raise (setMp s { s.mp with dieArmed := false }) 61 (pack 64 [(0, 3, s.mp.dieSensor), (16, 16, toTwos 16 s.mp.dieMax)])
  else s

/-- `DIE_TEMP_WARN` (R613): the highest die temperature has risen to `t`, in 0.1 °C. -/
def execDieTempWarn (sensor : Fin 8) (t : BitVec 16) (s : State) : Host.Outcome State Fault Refusal :=
  .next (if mpRuns s then dieWarn (setMp s { s.mp with dieMax := t.toInt, dieSensor := sensor.val }) else s)

/-- `ON_TIME_SECOND` (R611, R613, R614, R623–R625): sensor items as renewed; the currents are those of the second's telemetry. -/
def execOnTimeSecond (sensors : List (Nat × Int)) (s : State) : Host.Outcome State Fault Refusal :=
  .next (
    if !(domOn s 3 && rootAlive s) then s
    else
      let s1 := setMp s { s.mp with onSeconds := s.mp.onSeconds + 1
                                    sensors := sensors.foldl (fun t e => Sparse.set t e.1 e.2) s.mp.sensors }
      let s2 := secondClear (setMp s1 { s1.mp with shadows := shadowSecond s1 })
      let s3 := match dieHighest s2.mp.sensors with
        | some (k, t) => dieWarn (setMp s2 { s2.mp with dieMax := roundDiv t 10, dieSensor := k, dieArmed := s2.mp.dieArmed || decide (roundDiv t 10 ≤ warnTemp s2 - 50) })
        | none => s2
      mpFlush (if s3.mp.onSeconds % 3600 = 0 then noteCount s3 17 else s3))

end Sys2Proof.Machine
end

