-- ==== Sys2Proof/Machine/Calendar.lean ====
section
/-! DEFINITION. Meanings of the calendar's commands and events (13_calendar_clock.md). -/

namespace Sys2Proof.Machine

/-- Table 2-12: RTC_SET, RTC_GET, ALARM_SET and PERIODIC_SET. -/
def specRtcSet : OpSpec :=
  { opcode := 0x70, target := 0, align := 0, ops := pack 384 [(0, 32, timeMask.toNat), (32, 32, dateMask.toNat)], mpOk := true, dom := none, fsRefused := false }
def specRtcGet : OpSpec :=
  { opcode := 0x71, target := 0, align := 0, ops := 0, mpOk := true, dom := none, fsRefused := false }
def specAlarmSet : OpSpec :=
  { opcode := 0x72, target := 0, align := 0, ops := pack 384 [(0, 1, 1), (32, 32, timeMask.toNat), (64, 32, dateMask.toNat)], mpOk := true, dom := none, fsRefused := false }
def specPeriodicSet : OpSpec :=
  { opcode := 0x73, target := 0, align := 0, ops := maskOf 384 0 32, mpOk := true, dom := none, fsRefused := false }

/-- RTC_SET crosses into PD_BKP and completes at its commit (R578, R579, R581). -/
def execRtcSet (rq : Requester) (d : Desc) (s : State) : Host.Outcome State Fault Refusal :=
  .next (command specRtcSet rq d (fun q t =>
    rtcCross q (.set t (BitVec.ofNat 32 (opn d 16 0 32)) (BitVec.ofNat 32 (opn d 20 0 32)) (reqIsMp rq))) s)

/-- RTC_GET (R577). -/
def execRtcGet (rq : Requester) (d : Desc) (s : State) : Host.Outcome State Fault Refusal :=
  .next (command specRtcGet rq d (fun q t => complete q t stSuccess (rtcGetResult q)) s)

/-- ALARM_SET (R588). -/
def execAlarmSet (rq : Requester) (d : Desc) (s : State) : Host.Outcome State Fault Refusal :=
  .next (command specAlarmSet rq d (fun q t =>
    if opn d 16 0 1 = 0 && (opn d 20 0 64 ≠ 0) then complete q t stInvalidField 0
    else rtcCross q (.alarm t (opn d 16 0 1 = 1) (BitVec.ofNat 32 (opn d 20 0 32)) (BitVec.ofNat 32 (opn d 24 0 32)))) s)

/-- PERIODIC_SET (R591). -/
def execPeriodicSet (rq : Requester) (d : Desc) (s : State) : Host.Outcome State Fault Refusal :=
  .next (command specPeriodicSet rq d (fun q t =>
    if 5529600 < opn d 16 0 32 then complete q t stRange 0 else rtcCross q (.periodic t (opn d 16 0 32))) s)

/-- A register write that reaches the device; the sideband window is read-only here (Table 2-15). -/
def calWrite (via : Via) (o : RtcOp) (s : State) : State :=
  if via ≠ .sideband && viaReach s via then rtcCross s o else s

/-- Write of RTC_TIME, which commits the staged write (R578, R579). -/
def execRtcTimeWrite (via : Via) (w : Word) (s : State) : Host.Outcome State Fault Refusal :=
  .next (calWrite via (.time (w &&& timeMask) (via = .mp)) s)

/-- Write of RTC_DATE, which is staged (R578). -/
def execRtcDateWrite (via : Via) (w : Word) (s : State) : Host.Outcome State Fault Refusal :=
  .next (calWrite via (.date (w &&& dateMask)) s)

/-- Read of RTC_TIME (R576). -/
def execRtcTimeRead (via : Via) (s : State) : Host.Outcome State Fault Refusal :=
  .next (if viaReach s via then { (rtcTimeRead s).1 with readData := (rtcTimeRead s).2 } else s)

/-- A crossing write or command reaches its commit instant, CLK_RTC edge `edge` of the present second (R579–R581, R704). -/
def execRtcCommit (edge : Nat) (s : State) : Host.Outcome State Fault Refusal := .next (rtcCommit s edge)

/-- The calendar reaches an armed alarm's time (R589). -/
def execAlarmFire (s : State) : Host.Outcome State Fault Refusal := .next (alarmCheck s false false)

/-- The periodic timer reaches its count, at CLK_RTC edge `edge` of the present second (R591). -/
def execPeriodicWake (edge : Nat) (s : State) : Host.Outcome State Fault Refusal := .next (periodicWake s edge)

/-- The measurement made every 64 s; `temp` is the crystal temperature in 0.01 °C (R583). -/
def execRtcCompensation (temp : BitVec 16) (s : State) : Host.Outcome State Fault Refusal :=
  .next (if s.rtc.stopped || s.rtc.compSecs < 64 then s else rtcCompensate s temp.toInt)

/-- The stop detector of PD_BKP declares a stop (R586). -/
def execOscStop (s : State) : Host.Outcome State Fault Refusal := .next (oscStop s)

/-- The 32.768 kHz crystal restarts (R586, R704). -/
def execCrystalRestart (s : State) : Host.Outcome State Fault Refusal := .next (crystalRestart s)

/-- A second boundary of the calendar (R574, R575, R584, R589); ages count these seconds (log 12), and the grid of the links by them while
no cycles run (log 53). -/
def execSecondBoundary (s : State) : Host.Outcome State Fault Refusal :=
  let now := if s.lp.running then s.mc.now else s.mc.now + 1000000
  .next (secondBoundary (if s.rtc.stopped then s else { s with upSeconds := s.upSeconds + 1, mc := { s.mc with now := now } }))

end Sys2Proof.Machine
end

