-- ==== Sys2Proof/Machine/ChargerOps.lean ====
section
/-! DEFINITION. Operations of the charger (10_backup_pack_and_charger.md). -/

namespace Sys2Proof.Machine

/-! ### The configuration block (R451, Table 10-2) -/

def cU (b : BitVec 512) (byte len : Nat) : Nat := bitsOf b (8 * byte) (8 * len)
def cI (b : BitVec 512) (byte : Nat) : Int := sbitsOf b (8 * byte) 8

/-- OCV point `k`, mV per cell. -/
def ocvPoint (b : BitVec 512) (k : Nat) : Nat := cU b 42 2 + 2 * ((List.range k).foldl (fun a i => a + cU b (44 + i) 1) 0)

/-- The first check of R452 that a block fails. -/
def chgCheck (b : BitVec 512) : Option Nat :=
  if cU b 0 2 ≠ 0x0A01 || bitsOf b 22 2 ≠ 0 then some stInvalidField
  else
    let inR := fun v lo hi => lo ≤ v && v ≤ hi
    let cv := cU b 4 2
    let ts := [cI b 17, cI b 18, cI b 19, cI b 20]
    let ok :=
      inR (cU b 3 1) 1 20 && inR cv 14000 14600 && cv % 10 = 0 && inR (cU b 6 2) 50 2000 && inR (cU b 8 1) 1 40 && inR (cU b 9 1) 1 40 &&
      inR (cU b 10 2) 12000 (cv - 200) && inR (cU b 12 2) 50 2000 && inR (cU b 14 2) 10000 60000 && inR (cU b 16 1) 1 255 &&
      ts.all (fun t => decide (-20 ≤ t) && decide (t ≤ 70)) && cI b 17 < cI b 18 && cI b 18 < cI b 19 && cI b 19 < cI b 20 &&
      cI b 18 ≤ cI b 21 && cI b 21 ≤ cI b 20 && inR (cU b 22 1) 0 100 && inR (cU b 23 1) 0 100 && inR (cU b 24 1) 0 60 &&
      inR (cU b 25 1) 0 99 && inR (cU b 26 2) 2500 5000 && inR (cU b 28 2) 500 20000 && inR (cU b 30 2) 500 20000 &&
      inR (cU b 32 4) 1000 1000000 && inR (cU b 36 2) 2000 3200 && inR (cU b 38 2) 3300 3700 && inR (cU b 40 1) 0 100 &&
      inR (cU b 41 1) 0 (cU b 40 1) && inR (cU b 42 2) 1 4000 && ocvPoint b 20 ≠ cU b 42 2
    if ok then none else some stRange

/-- The block in force; all fields 0 without one. -/
def chgBlock (s : State) : BitVec 512 := s.chg.cfg.getD 0
def chgEn (s : State) : Bool := bitOf (chgBlock s) 16
def pvEn (s : State) : Bool := bitOf (chgBlock s) 17
def vehEn (s : State) : Bool := bitOf (chgBlock s) 18
def preferVeh (s : State) : Bool := bitOf (chgBlock s) 19
def authReq (s : State) : Bool := bitOf (chgBlock s) 20
def wakeOnSource (s : State) : Bool := bitOf (chgBlock s) 21
def cvMv (s : State) : Nat := cU (chgBlock s) 4 2

/-- Band current in 10 mA and CV target in mV (Table 10-5). -/
def bandCurrent (s : State) : Nat :=
  let i := cU (chgBlock s) 6 2
  match s.chg.band with
  | 1 => i * cU (chgBlock s) 22 1 / 100
  | 2 => i
  | 3 => i * cU (chgBlock s) 23 1 / 100
  | _ => 0
def cvTarget (s : State) : Nat := if s.chg.band = 3 then cvMv s - 10 * cU (chgBlock s) 24 1 else cvMv s

/-- The set current: in PRECHARGE min(IPRE, band current) (R460, R464), in 10 mA. -/
def setCurrent (s : State) : Nat :=
  if s.chg.state = .precharge then (if 5 * cU (chgBlock s) 8 1 < bandCurrent s then 5 * cU (chgBlock s) 8 1 else bandCurrent s) else bandCurrent s

/-- A change of the charger. -/
def setChg (s : State) (c : Charger) : State := { s with chg := c }

/-- Within a session (R458). -/
def inSession (s : State) : Bool := match s.chg.state with | .precharge => true | .cc => true | .cv => true | .suspended => true | _ => false

/-- ms of reverse mode between the starts of two battery checks: CHECK_MIN minutes (R473). -/
def checkMs (s : State) : Nat := 60000 * (if fld s 0x6024 16 8 = 0 then 1 else fld s 0x6024 16 8)

/-- The stage stands while Voc is measured (R468), and for the 100 ms of a battery check (R473). -/
def stagePause (s : State) : Bool :=
  (s.chg.sweep.any fun w => w.vocMs ≠ 0) || (s.chg.state = .reverse && checkMs s ≤ s.chg.revMs)

/-- The stage runs: a session not suspended, a sweep, or reverse mode, outside their pauses. -/
def stageRuns (s : State) : Bool :=
  (match s.chg.state with
  | .precharge => true | .cc => true | .cv => true | .reverse => true
  | .qualifying => s.chg.sweep.isSome
  | _ => false) && !stagePause s

/-! ### The stage and its demands (R448, R449, R463) -/

/-- f of the thermal loop, from TJ, the BNTC temperature and BNTC_REG (R463). -/
def thermalF (s : State) : Rat :=
  let a : Rat := 1 - ((s.chg.tj : Rat) / 10 - 115) / 15
  let b : Rat := 1 - ((s.chg.tBntc : Rat) / 10 - ((cI (chgBlock s) 21 : Int) : Rat)) / 10
  let m := if a < b then a else b
  if m < 0 then 0 else if 1 < m then 1 else m

/-- The current to which the thermal loop limits IB, 10 mA (R463). -/
def thermalLimit (s : State) : Rat := natQ (bandCurrent s) * thermalF s

/-- The demands of the loops in force, 10 mA, by their LOOP codes (R449): forward all five, backwards those that regulate VA and |IA|
(R473; log 111). A sample brings what the regulators of the CV loop and of port A demand for their references. -/
def loopDemands (s : State) (x : ChgSample) : List (Nat × Rat) :=
  let port := [(4, natQ x.iin.toNat), (5, natQ x.vin.toNat)]
  if s.chg.state = .reverse then port else [(1, natQ s.chg.iRef), (2, natQ x.cv.toNat), (3, thermalLimit s)] ++ port

/-- The least of some demands with its loop, the lowest code where they are alike (log 111). -/
def leastDemand : List (Nat × Rat) → Nat × Rat
  | [] => (0, 0)
  | [d] => d
  | d :: ds => if (leastDemand ds).2 < d.2 then leastDemand ds else d

/-- CHG_STATUS.LOOP (R449): the loop that gives the least demand on the running stage. -/
def loopOf (s : State) (x : ChgSample) : Nat := if stageRuns s then (leastDemand (loopDemands s x)).1 else 0

/-- Buck, boost or four-switch buck-boost, by source and sink in the same unit (R448). -/
def stageMode (src snk : Nat) : StageMode :=
  if 125 * snk < 100 * src then .buck else if 100 * src < 80 * snk then .boost else .buckBoost

/-- The mode of the running stage: port A is the source, or in reverse the pack (R448). -/
def stageModeNow (s : State) : StageMode :=
  if !stageRuns s then .stopped
  else if s.chg.state = .reverse then stageMode s.chg.vb (10 * s.chg.va)
  else stageMode (10 * s.chg.va) s.chg.vb

/-- The current limit in force on the stage's source side, 10 mA: IIN_LIM, or in reverse the pack's 25 A (R448, R473; log 111). -/
def sourceLimit (s : State) : Nat := if s.chg.state = .reverse then 2500 else cU (chgBlock s) 12 2

/-- The limit of each switching cycle, 10 mA: 1.5 times the limit in force (R448). -/
def cycleLimit (s : State) : Nat := sourceLimit s * 3 / 2

/-- The stage stops in a cycle at its limit; 16 such cycles on end, or a bootstrap below 4.0 V, are the STAGE fault (Table 10-6). -/
def stageFault (s : State) (x : ChgSample) : Bool := stageRuns s && (cycleLimit s ≤ x.peak.toNat || x.boot.toNat < 4000)

/-- A value moves toward its goal by at most `d`. -/
def toward (now goal d : Nat) : Nat :=
  if now < goal then (if goal < now + d then goal else now + d) else (if now - d < goal then goal else now - d)

/-- The charge-current reference approaches the set current at 2 A per ms while the stage runs forward (R449). -/
def iRefStep (s : State) : Nat :=
  if stageRuns s && s.chg.state ≠ .reverse then toward s.chg.iRef (setCurrent s) 200 else 0

/-- MPPT_ACTIVE: the panel is the source and LOOP is the port A voltage loop. -/
def mpptActive (s : State) : Bool := s.chg.source = .panel && stageRuns s && s.chg.loop = 5

/-! ### Events (R469, R475) -/

/-- EV46 with its kind, source and reason (log 35). -/
def ev46 (s : State) (kind : Nat) (src : Source) (reason : Nat) : State :=
  let v := if kind = 4 || (src = .panel && inSession s) then s.chg.vref else s.chg.va
  raise s 46 (pack 64 [(0, 4, kind), (4, 2, src.code), (8, 4, reason), (16, 16, v), (32, 16, s.chg.pIn)])

/-- Stop the stage and turn both gates off; V_REF is held (R466). -/
def chgStop (s : State) (st : ChgState) : State :=
  setChg s { s.chg with state := st, source := .none, pvGate := false, vehGate := false, cand := .none, qualMs := 0, loop := 0, mode := .stopped, iRef := 0,
                        vaLowMs := 0, weakMs := 0, termMs := 0, mpptMs := 0, stepMs := 0, revMs := 0, timerSlow := false, sweep := none, preUpMs := 0, preDownMs := 0, tried := []
                        cvRef := 0, iinRef := 0, vinRef := 0 }

/-- End what runs forward: a session with its EV46, or a qualification (R475). -/
def fwdEnd (s : State) (reason : Nat) (st : ChgState) : State :=
  if inSession s then chgStop (ev46 s 3 s.chg.source reason) st
  else if s.chg.state = .qualifying then chgStop s st
  else s

/-- End reverse mode, or a start of it on the way (R474). -/
def revEnd (s : State) (reason : Nat) : State :=
  if s.chg.state = .reverse then
    let s1 := ev46 (setChg s { s.chg with endReason := reason }) 6 .vehicle reason
    chgStop (setChg s1 { s1.chg with revV := 0, revI := 0, revVNow := 0, revINow := 0 }) .idle
  else s

/-- A start of reverse mode on the way is given up. -/
def revCancel (s : State) (status : Nat) : State :=
  if s.chg.revStart = 0 then s
  else
    let s1 := chgStop (setChg s { s.chg with revStart := 0, revTickets := [], revV := 0, revI := 0 }) .idle
    completeAll s1 s.chg.revTickets status 0

/-- Bits that block forward charging, and hard bits (Table 10-6). -/
def fwdBits : BitVec 11 := 0x47F
def hardBits : BitVec 11 := 0x0C8

/-- Latch faults of Table 10-6: the bits, EV45, the error line of hard ones, and the end of what they block. -/
def chgLatch (s : State) (bits : BitVec 11) (fwdReason : Nat) : State :=
  let fresh := bits &&& ~~~ s.chg.faults
  if fresh = 0 then s
  else
    let s1 := setChg s { s.chg with faults := s.chg.faults ||| bits }
    let s2 := raise s1 45 (pack 64 [(0, 11, fresh.toNat), (16, 16, s.chg.vb), (32, 16, s.chg.va)])
    let s3 := if fresh &&& hardBits ≠ 0 then assertLine s2 15 ((fresh &&& hardBits).setWidth 32) else s2
    let s4 := if fresh &&& fwdBits ≠ 0 then fwdEnd s3 fwdReason .disabled else s3
    if fresh &&& hardBits ≠ 0 then revEnd s4 6 else s4

/-- Forward charging is held in DISABLED (Table 10-4). -/
def fwdBlocked (s : State) : Bool :=
  !chgEn s || s.chg.cfg.isNone || flag s 0x6000 0 || s.chg.faults &&& fwdBits ≠ 0 || s.chg.authBlock || s.pwr.saveActive

/-- CHG_FAULT is read: its bits clear; after a timer fault or PACK_UV, WAIT_RECHG is set and the 10 s of a recharge condition begin anew
(R465, R469). -/
def chgFaultRead (s : State) : State :=
  let w := s.chg.faults &&& 0x007 ≠ 0
  setChg s { s.chg with faults := 0, waitRechg := s.chg.waitRechg || w, rechgMs := if w then 0 else s.chg.rechgMs }

/-! ### Sources and sessions (R455–R461) -/

/-- The candidates not yet tried, the preferred one first (R455). -/
def candidates (s : State) : List Source :=
  let veh := if vehEn s && s.pwr.path = .main then [Source.vehicle] else []
  let pan := if pvEn s then [Source.panel] else []
  (if preferVeh s then veh ++ pan else pan ++ veh).filter fun x => !s.chg.tried.contains x

/-- Start to qualify a candidate, or wait 60 s when none is left (R455, R456). -/
def chgTry (s : State) : State :=
  match candidates s with
  | c :: _ => setChg (chgStop s .qualifying) { (chgStop s .qualifying).chg with cand := c, tried := s.chg.tried }
  | [] => setChg (chgStop s .idle) { (chgStop s .idle).chg with retryWait := s.chg.tried ≠ [], retryMs := 0 }

/-- A candidate fails its qualification: the gate goes off at once and the other one is tried (R455, R456). -/
def chgCandFail (s : State) : State := chgTry (setChg s { s.chg with tried := s.chg.cand :: s.chg.tried })

/-- A session starts (R460, R464). -/
def sessionStart (s : State) : State :=
  if s.chg.vb < 6000 then chgLatch s 0x004 5
  else
    let c := s.chg
    let st : ChgState := if c.band = 0 || c.band = 4 then .suspended else if c.vb < 10000 then .precharge else .cc
    setChg s { c with state := st, sessions := satInc c.sessions, sessionMs := 0, timerHalf := 0, preMs := 0, preUpMs := 0, preDownMs := 0,
                      timerH := cU (chgBlock s) 3 1, preMin := cU (chgBlock s) 16 1 }

/-- A lost source ends the session with both gates off (R457). -/
def chgLost (s : State) (reason : Nat) : State :=
  if s.chg.source = .none || s.chg.state = .reverse then s else fwdEnd (ev46 s 2 s.chg.source 0) reason .idle

/-! ### MPPT (R466–R468) -/

/-- The ends of a sweep and its step `k`, in 10 mV. -/
def sweepHi (voc : Nat) : Int := roundDiv (95 * voc : Nat) 100
def sweepLo (voc : Nat) : Int := let x := roundDiv (40 * voc : Nat) 100; if x < 1000 then 1000 else x
def sweepV (voc k : Nat) : Nat := (sweepHi voc - roundDiv ((k : Int) * (sweepHi voc - sweepLo voc)) 63).toNat

/-- Begin a sweep with the Voc held. -/
def sweepBegin (s : State) : State :=
  setChg s { s.chg with sweep := some { vocMs := 0, step := 0, best := none, vref0 := s.chg.vref }, stepMs := 0, vref := sweepV s.chg.voc 0 }

/-- Begin a sweep that first stops the stage for 20 ms to measure Voc; one that cuts a sweep short keeps the V_REF before it (R468,
log 125). -/
def sweepAnew (s : State) : State :=
  setChg s { s.chg with sweep := some { vocMs := 20, step := 0, best := none, vref0 := (s.chg.sweep.map Sweep.vref0).getD s.chg.vref }, stepMs := 0 }

/-- The stop of a sweep goes on; VA at its end is Voc, and the steps begin (R468). -/
def vocTick (s : State) : State :=
  match s.chg.sweep with
  | none => s
  | some w =>
    if w.vocMs = 0 then s
    else if w.vocMs = 1 then setChg s { s.chg with voc := s.chg.va, vref := sweepV s.chg.va 0, stepMs := 0, sweep := some { w with vocMs := 0 } }
    else setChg s { s.chg with sweep := some { w with vocMs := w.vocMs - 1 } }

/-- One step of a sweep ends with its mean power; at the end V_REF takes the best step (R467). -/
def sweepStep (s : State) (power : Int) : State :=
  match s.chg.sweep with
  | none => s
  | some w =>
    let v := sweepV s.chg.voc w.step
    let best := match w.best with
      | none => (v, power)
      | some b => if b.2 < power || (b.2 = power && b.1 < v) then (v, power) else b
    if w.step < 63 then
      setChg s { s.chg with stepMs := 0, sweep := some { w with step := w.step + 1, best := some best }, vref := sweepV s.chg.voc (w.step + 1) }
    else
      let s1 := setChg s { s.chg with sweep := none, vref := best.1, sweepMs := 0, mpptDown := true, mpptLast := none }
      let moved := 5 * w.vref0 < 100 * (((best.1 : Int) - w.vref0).natAbs)
      let s2 := if moved then ev46 s1 4 .panel 0 else s1
      if s2.chg.state = .qualifying then sessionStart s2 else s2

/-- The 250 ms move of perturb and observe (R466). -/
def mpptMove (s : State) (power : Int) : State :=
  let c := s.chg
  let down := match c.mpptLast with
    | none => true
    | some p => if p < power then c.mpptDown else !c.mpptDown
  let d := let x := (roundDiv (5 * c.vref : Nat) 1000).toNat; if x = 0 then 1 else x
  let v := clampN 1000 (if c.voc < 1000 then 1000 else c.voc) (if down then c.vref - d else c.vref + d)
  setChg s { c with vref := v, mpptDown := down, mpptLast := some power, mpptMs := 0 }

/-! ### Temperature bands (R462) -/

/-- The BNTC temperature in 0.1 °C for a bias ratio of 2⁻¹⁶ units, none when INVALID. -/
def bntcTemp (s : State) (ratio : Nat) : Option Int :=
  if ratio * 100 < 3 * 65536 || 97 * 65536 < ratio * 100 then none
  else
    -- R = 10 kΩ · r / (1 − r), so R / R25 = r / (1 − r)
    let x := lnQ (((ratio : Nat) : Rat) / ((65536 - ratio : Nat) : Rat))
    let inv : Rat := 1 / (29815 / 100) + x / ((cU (chgBlock s) 26 2 : Nat) : Rat)
    some (roundQ ((1 / inv - 27315 / 100) * 10))

/-- The band of a temperature in 0.1 °C for given edges in °C. -/
def bandOf (t : Int) (cold cool warm hot : Int) : Nat :=
  if t < cold * 10 then 0 else if t < cool * 10 then 1 else if t < warm * 10 then 2 else if t < hot * 10 then 3 else 4

/-- The next band: one nearer NORMAL is entered only at least 2 °C inside the edge by which it is entered, the next band out where only
that one's edge lies so; any other is entered at its own edge (R462, log 125). -/
def bandNext (s : State) (t : Int) : Nat :=
  let b := chgBlock s
  let raw := bandOf t (cI b 17) (cI b 18) (cI b 19) (cI b 20)
  let above (edge : Int) : Bool := decide ((edge + 2) * 10 ≤ t)
  let below (edge : Int) : Bool := decide (t ≤ (edge - 2) * 10)
  match s.chg.band with
  | 0 =>
    if raw = 0 || raw = 4 then raw
    else if above (cI b 19) && raw = 3 then 3 else if above (cI b 18) && raw = 2 then 2 else if above (cI b 17) && raw ≤ 2 then 1 else 0
  | 1 => if raw = 2 && !above (cI b 18) then 1 else raw
  | 3 => if raw = 2 && !below (cI b 19) then 3 else raw
  | 4 =>
    if raw = 4 || raw = 0 then raw
    else if below (cI b 18) && raw = 1 then 1 else if below (cI b 19) && raw = 2 then 2 else if below (cI b 20) && 2 ≤ raw then 3 else 4
  | _ => raw

/-- A band takes force: COLD and HOT suspend a session, a return resumes it (Table 10-5, R475). -/
def bandApply (s : State) : State :=
  let c := s.chg
  let out := c.band = 0 || c.band = 4
  if inSession s && out then setChg s { c with state := .suspended, loop := 0, timerSlow := false }
  else if c.state = .suspended && !out then setChg s { c with state := if c.vb < 10000 then .precharge else .cc }
  else s

/-- The 100 ms conversion of BNTC sets the band. -/
def bandUpdate (s : State) (ratio : Nat) : State :=
  match bntcTemp s ratio with
  | none => chgLatch (setChg s { s.chg with band := 5 }) 0x020 5
  | some t => bandApply (setChg s { s.chg with band := bandNext s t })

/-! ### Configuration (R452, R453) -/

/-- A block takes effect. -/
def chgPut (s : State) (b : BitVec 512) : State :=
  let a := chgBlock s
  let s1 := setChg s { s.chg with cfg := some b }
  let ends := bitsOf a 17 3 ≠ bitsOf b 17 3 || !bitOf b 16
  let s2 := if ends then fwdEnd s1 10 .idle else s1
  if !bitOf b 18 then revEnd s2 9 else s2

/-- Blocks accepted take effect at the control tick and their commands complete. -/
def chgPutAll (s : State) : State :=
  forEach s.chg.cfgNext (fun e q => complete (chgPut q e.1) e.2 stSuccess 0) (setChg s { s.chg with cfgNext := [] })

/-! ### Reverse maintenance charging (R470–R474) -/

/-- The conditions of R471 but for that of VA; `va` adds it. PORTB_OV, which blocks reverse mode too (Table 10-6), refuses it likewise
(log 36). -/
def revRefused (s : State) (v : Nat) (va : Bool) : Option Nat :=
  if !flag s 0x604C 0 then some stAccessDenied
  else if s.pwr.path ≠ .main || !vehEn s || s.chg.faults &&& 0x1C8 ≠ 0 || s.chg.authBlock ||
      s.gauge.socRep < 100 * clampN 0 100 (fld s 0x6024 24 8) || s.pwr.saveActive ||
      (va && !(fld s 0x6024 0 16 ≤ 10 * s.chg.va && s.chg.va ≤ v)) then some stRefused
  else none

/-- CHG_REVERSE with enable 1, its ranges checked (R471, R472). -/
def chgReverseBegin (s : State) (v i : Nat) (t : Ticket) : State :=
  match revRefused s v false with
  | some st => complete s t st 0
  | none =>
    if s.chg.state = .reverse then complete (setChg s { s.chg with revV := v, revI := i }) t stSuccess 0
    else if s.chg.revStart ≠ 0 then setChg s { s.chg with revV := v, revI := i, revTickets := s.chg.revTickets ++ [t] }
    else
      let s1 := chgStop (fwdEnd s 9 .idle) .idle
      setChg s1 { s1.chg with revV := v, revI := i, revStart := 3, revTickets := [t] }

/-- A start of reverse mode: with every gate off for 1 ms, VEHSEL_G is enabled (R450); then the conditions are judged again with VA, and
the stage starts backwards (R472). -/
def chgReverseTick (s : State) : State :=
  if s.chg.revStart = 0 then s
  else if 1 < s.chg.revStart then setChg s { s.chg with revStart := s.chg.revStart - 1, vehGate := s.chg.revStart = 2 }
  else
    match (if s.flt.faultState then some stFaultState else revRefused s s.chg.revV true) with
    | some st => revCancel s st
    | none =>
      let ts := s.chg.revTickets
      let s1 := setChg s { s.chg with state := .reverse, source := .vehicle, revStart := 0, revTickets := [], revVNow := s.chg.va, revINow := 0, revMs := 0 }
      completeAll (noteCount (ev46 s1 5 .vehicle 0) 16) ts stSuccess 0

/-- The output reference and current approach their targets: 1 V and 2 A per ms. -/
def revRamp (s : State) : State :=
  let c := s.chg
  if c.state = .reverse && stageRuns s then setChg s { c with revVNow := toward c.revVNow c.revV 100, revINow := toward c.revINow c.revI 200 } else s

/-! ### When events meet the charger (Table 10-7) -/

/-- The path changes into or out of MAIN. -/
def chgPathChange (s : State) : State :=
  let s1 := if inSession s then (if s.chg.source = .vehicle && s.pwr.path ≠ .main then chgLost s 4 else fwdEnd s 4 .idle) else if s.chg.state = .qualifying && s.chg.cand = .vehicle then chgCandFail s else s
  revEnd (revCancel s1 stRefused) 3

/-- The save at power-down begins. -/
def chgSave (s : State) : State := revEnd (revCancel (fwdEnd s 7 .disabled) stRefused) 7

/-- The device enters its fault state. -/
def chgFaultState (s : State) : State := revEnd (revCancel s stFaultState) 2

/-- PD_CHG leaves on. -/
def chgPowerDown (s : State) : State :=
  let s1 := revEnd (revCancel (fwdEnd s 8 .idle) stAborted) 8
  completeAll (setChg s1 { s1.chg with cfgNext := [] }) (s1.chg.cfgNext.map Prod.snd) stAborted 0

/-- A run of authentication attempts starts (R483). -/
def authStart (s : State) : State :=
  setChg s { s.chg with authRunning := true, authAttempts := 0, authAnswered := false, authSerial := 0, authMs := 0 }

/-- PD_CHG has come on from off: the boot block is checked, then a run is made where AUTH_REQ asks for it (R454, R483). -/
def chgBoot (s : State) (bytes : List Byte) : State :=
  let b : BitVec 512 := BitVec.ofNat 512 (leNat bytes)
  let s0 := setChg s Charger.reset
  if (chgCheck b).isNone then
    let s1 := setChg s0 { s0.chg with cfg := some b }
    if authReq s1 then authStart s1 else s1
  else chgLatch s0 0x400 5

/-! ### The control tick (R447) -/

/-- CHG_QB adds IB × 1 ms (R477). -/
def qbAdd (s : State) (ib : Int) : State :=
  let x := s.chg.qbRem + ib
  setChg s { s.chg with qb := s.chg.qb + BitVec.ofInt 48 (x / 100), qbRem := x % 100 }

/-- CHG_CTRL writes that wait for the tick: HOLD, SWEEP_NOW and AUTH_NOW (R468, R475, R483). -/
def chgLate (s : State) : State :=
  let ws := (s.regs.late.filter fun e => e.1 = 0x6000).map Prod.snd
  let s1 := { s with regs := s.regs.applyLate s.otp (fun off => 0x6000 ≤ off && off < 0x6100) }
  let s2 := if flag s1 0x6000 0 then fwdEnd s1 6 .disabled else s1
  let s3 := if ws.any (fun w => bitOf w 2) && s2.chg.source = .panel then sweepAnew s2 else s2
  if ws.any (fun w => bitOf w 1) then authStart s3 else s3

/-- PRECHARGE, CC and CV follow VB and LOOP (R458, R460). -/
def chgPhase (s : State) : State :=
  let c := s.chg
  match c.state with
  | .precharge =>
    let up := if 10000 ≤ c.vb then c.preUpMs + 1 else 0
    setChg s (if 100 ≤ up then { c with state := if c.loop = 2 then .cv else .cc, preUpMs := 0 } else { c with preUpMs := up })
  | .cc =>
    let dn := if c.vb < 9800 then c.preDownMs + 1 else 0
    setChg s (if 100 ≤ dn then { c with state := .precharge, preDownMs := 0 } else { c with state := if c.loop = 2 then .cv else .cc, preDownMs := dn })
  | .cv =>
    let dn := if c.vb < 9800 then c.preDownMs + 1 else 0
    setChg s (if 100 ≤ dn then { c with state := .precharge, preDownMs := 0 } else { c with state := if c.loop = 2 then .cv else .cc, preDownMs := dn })
  | _ => s

/-- Session and safety timers (R460, R464). -/
def chgTimers (s : State) : State :=
  let c := s.chg
  if !inSession s then setChg s { c with sweepMs := c.sweepMs + 1 }
  else if c.state = .suspended then setChg s { c with sessionMs := c.sessionMs + 1, sweepMs := c.sweepMs + 1 }
  else
    let slow := (c.loop = 3 || c.loop = 4 || c.loop = 5) && 2 * c.ib < (setCurrent s : Int)
    setChg s { c with sessionMs := c.sessionMs + 1, timerHalf := c.timerHalf + (if slow then 1 else 2), timerSlow := slow,
                      preMs := if c.state = .precharge then c.preMs + 1 else c.preMs, sweepMs := c.sweepMs + 1 }

/-- Faults that a tick finds (Table 10-6), and an over-voltage of port A, which also loses the source (R457). -/
def chgTickFaults (s : State) (x : ChgSample) : State :=
  let c := s.chg
  let s1 := if c.cfg.isSome && cvTarget s + 400 < c.vb then chgLatch s 0x008 5 else s
  let s2 := if stageFault s1 x then chgLatch s1 0x040 5 else s1
  let s3 := if s2.chg.state = .reverse && s2.chg.revV + 200 < x.vaHeld.toNat then chgLatch s2 0x080 5 else s2
  if 6000 < s3.chg.va && (s3.chg.pvGate || s3.chg.vehGate) then
    (if inSession s3 then chgLatch (chgLost s3 2) 0x010 2 else chgLatch s3 0x010 2)
  else s3

/-- QUALIFYING goes on: the gate after 1 ms, then VA within 10.5–60.0 V (Table 10-3). -/
def chgQualTick (s : State) : State :=
  let c := s.chg
  if c.state ≠ .qualifying || c.source ≠ .none then s
  else
    let s1 := setChg s { c with qualMs := c.qualMs + 1, pvGate := c.cand = .panel, vehGate := c.cand = .vehicle }
    if 1 ≤ c.qualMs && !(1050 ≤ c.va && c.va ≤ 6000) || (c.cand = .vehicle && s.pwr.path ≠ .main) then chgCandFail s1 else s1

/-- DISABLED and IDLE: what stops forward charging, and the need and the source that start it (R455, R459). -/
def chgIdle (s : State) : State :=
  let c := s.chg
  if c.state = .reverse || c.revStart ≠ 0 then s
  else if fwdBlocked s then setChg (fwdEnd s 5 .disabled) { (fwdEnd s 5 .disabled).chg with state := .disabled }
  else
    let s1 := if c.state = .disabled then setChg s { c with state := .idle } else s
    if s1.chg.state = .idle && !s1.chg.waitRechg && !s1.chg.retryWait && candidates s1 ≠ [] &&
        !(c.band = 0 || c.band = 4 || c.band = 5) && c.vb + 100 < cvMv s1 then chgTry s1
    else s1

/-- A run of ms for which a condition holds. -/
def runMs (hold : Bool) (n : Nat) : Nat := if hold then n + 1 else 0

/-- The times that a new try of the sources, losses of a source, a recharge condition, the termination, MPPT, the conversions of BNTC, the
checks of reverse mode and the attempts of an authentication wait for (R455, R457, R459, R461, R462, R466, R467, R473, R483). -/
def chgRuns1 (s : State) : State :=
  let c := s.chg
  setChg s { c with
    vaLowMs := runMs (c.source ≠ .none && c.va < 1000) c.vaLowMs
    weakMs := runMs (inSession s && (c.loop = 4 || c.loop = 5) && c.ib < 10) c.weakMs
    rechgMs := runMs (!stageRuns s && c.vb < cU (chgBlock s) 10 2) c.rechgMs
    termMs := runMs (c.state = .cv && c.loop = 2 && c.ib < ((5 * cU (chgBlock s) 9 1 : Nat) : Int)) c.termMs
    mpptMs := runMs (mpptActive s) c.mpptMs
    stepMs := runMs (c.sweep.any fun w => w.vocMs = 0) c.stepMs
    revMs := runMs (c.state = .reverse) c.revMs
    retryMs := runMs c.retryWait c.retryMs
    bandMs := c.bandMs + 1
    authMs := c.authMs + 1 }

/-- A current through a shunt, 10 mA, from µV and µΩ (R447). -/
def shuntAmps (uv : BitVec 32) (micro : Nat) : Int := roundQ (divQ ((uv.toInt * 100 : Int) : Rat) (natQ micro))

/-- The port B sense, which runs in retention too (R25, Table 10-7): VB is VBAK less the voltage at CHG_CSPB, which RSNS_B raises above
ground (R446, R447). -/
def senseB (s : State) (x : ChgSample) : State :=
  let vb : Int := (x.vbak.toNat : Int) - roundDiv x.shuntB.toInt 1000
  setChg s { s.chg with vb := vb.toNat, ib := shuntAmps x.shuntB (cU (chgBlock s) 30 2) }

/-- The temperature of BNTC, as it was where no block gives its beta or the reading is INVALID (log 125). -/
def bntcNow (s : State) (x : ChgSample) : Int := if s.chg.cfg.isSome then (bntcTemp s x.bntc.toNat).getD s.chg.tBntc else s.chg.tBntc

/-- The measurements of a tick (R447). -/
def chgMeasure (s : State) (x : ChgSample) : State :=
  let ia := shuntAmps x.shuntA (cU (chgBlock s) 28 2)
  let s1 := senseB s x
  setChg s1 { s1.chg with
    va := x.va.toNat, ia := ia, tBntc := bntcNow s x, tj := x.tj.toInt
    pIn := (roundDiv ((x.va.toNat : Int) * ia) 1000).natAbs
    vas := (x.va.toNat :: s.chg.vas).take 100, powers := ((x.va.toNat : Int) * ia :: s.chg.powers).take 250 }

/-- The references of the running stage: CV target, IIN_LIM, and V_REF or VEH_VIN_MIN (R449); in reverse those of its ramp (R473). -/
def stageRefs (s : State) : Nat × Nat × Nat :=
  if !stageRuns s then (0, 0, 0)
  else if s.chg.state = .reverse then (0, s.chg.revINow, 10 * s.chg.revVNow)
  else (cvTarget s, cU (chgBlock s) 12 2, if s.chg.source = .panel then 10 * s.chg.vref else cU (chgBlock s) 14 2)

/-- The stage as the tick leaves it: its references, the loop that governs and the mode (R448, R449). -/
def chgStage (s : State) (x : ChgSample) : State :=
  let r := stageRefs s
  let s1 := setChg s { s.chg with iRef := iRefStep s, cvRef := r.1, iinRef := r.2.1, vinRef := r.2.2 }
  setChg s1 { s1.chg with loop := loopOf s1 x, mode := stageModeNow s1 }

/-- SOC_REP has fallen below SOC_FLOOR, so reverse mode ends (R474). -/
def revFloor (s : State) : State :=
  if s.chg.state = .reverse && s.gauge.socRep < 100 * clampN 0 100 (fld s 0x6024 24 8) then revEnd s 4 else s

/-- The whole tick; hard faults come before a configuration and HOLD (R475). In retention the port B sense and the charge counter go on,
whatever the root-derived clocks do (R25, R477). -/
def chgTick (s : State) (x : ChgSample) : State :=
  if domOn s 11 then
    (if !rootAlive s then s
     else
      let s1 := chgMeasure s x
      let s2 := chgTickFaults (qbAdd s1 s1.chg.ib) x
      let s3 := vocTick (chgReverseTick (chgLate (chgPutAll s2)))
      let s4 := revFloor (chgStage (revRamp s3) x)
      chgIdle (chgTimers (chgRuns1 (chgPhase (chgQualTick s4)))))
  else if domOff s 11 then s
  else (let s1 := senseB s x; qbAdd s1 s1.chg.ib)

end Sys2Proof.Machine
end

