-- ==== Sys2Proof/Machine/Chargers.lean ====
section
/-! DEFINITION. Meanings of the charger's commands and events but for the authentication attempt (10_backup_pack_and_charger.md). -/

namespace Sys2Proof.Machine

/-- Table 2-12: CHG_CONFIG and CHG_REVERSE. -/
def specChgConfig : OpSpec :=
  { opcode := 0x50, target := 0, align := 4, ops := 0, mpOk := true, dom := some 11, fsRefused := false }
def specChgReverse : OpSpec :=
  { opcode := 0x51, target := 0, align := 0, ops := pack 384 [(0, 1, 1), (16, 32, 0xFFFFFFFF)], mpOk := true, dom := some 11, fsRefused := false }

/-- CHG_CONFIG (R452). -/
def execChgConfig (rq : Requester) (d : Desc) (hostFault : Bool) (s : State) : Host.Outcome State Fault Refusal :=
  .next (command specChgConfig rq d (fun q t =>
    if hostFault && !reqIsMp rq then complete q t stHostAccess 0
    else
      let b : BitVec 512 := BitVec.ofNat 512 (leNat (cmdRead q rq d.addr.toNat 64))
      match chgCheck b with
      | some st => complete q t st 0
      | none => setChg q { q.chg with cfgNext := q.chg.cfgNext ++ [(b, t)] }) s)

/-- CHG_REVERSE (R90, R470–R474). -/
def execChgReverse (rq : Requester) (d : Desc) (s : State) : Host.Outcome State Fault Refusal :=
  .next (command specChgReverse rq d (fun q t =>
    let v := opn d 18 0 16
    let i := opn d 20 0 16
    if opn d 16 0 1 = 1 then
      (if q.flt.faultState then complete q t stFaultState 0
       else if !flag q 0x604C 0 then complete q t stAccessDenied 0
       else if v < 2000 || 3200 < v || i < 10 || 800 < i then complete q t stRange 0
       else chgReverseBegin q v i t)
    else if v ≠ 0 || i ≠ 0 then complete q t stInvalidField 0
    else complete (revEnd (revCancel q stAborted) 1) t stSuccess 0) s)

/-- The charger runs: PD_CHG is on and CLK_REG is alive. -/
def chgRuns (s : State) : Bool := domOn s 11 && rootAlive s

/-- The 1 ms control tick (R447), with the step of TRIM that falls in it (R416, log 126). -/
def execChgControlTick (x : ChgSample) (s : State) : Host.Outcome State Fault Refusal := .next (chgTick (trimTick s) x)

/-- The mean VA of the last 100 ms (R456). -/
def vocMean (s : State) : Nat := (roundDiv ((s.chg.vas.foldl (· + ·) 0 : Nat) : Int) s.chg.vas.length).toNat

/-- The end of the 1 s qualification, 1.001 s after its start; Voc is the mean VA of the last 100 ms (R456, R476). -/
def execChgSourceQualified (s : State) : Host.Outcome State Fault Refusal :=
  .next (
    let c := s.chg
    if !chgRuns s || c.state ≠ .qualifying || c.source ≠ .none || c.cand = .none || c.qualMs < 1001 then s
    else
      let s1 := setChg s { c with source := c.cand, tried := [], pvGate := c.cand = .panel, vehGate := c.cand = .vehicle
                                  voc := if c.cand = .panel then vocMean s else c.voc }
      let s2 := ev46 s1 1 c.cand 0
      let s3 := if wakeOnSource s2 then wakeMpDomain s2 0x51 else s2
      if c.cand = .panel then sweepBegin s3 else sessionStart s3)

/-- 60 s after no candidate qualified (R455). -/
def execChgSourceRetry (s : State) : Host.Outcome State Fault Refusal :=
  .next (if chgRuns s && 60000 ≤ s.chg.retryMs then setChg s { s.chg with retryWait := false, retryMs := 0 } else s)

/-- A source-loss condition has held (R457): VA below 10.0 V for 10 ms, or for 60 s IB below 0.1 A under a port A loop. -/
def execChgSourceLost (s : State) : Host.Outcome State Fault Refusal :=
  .next (
    let c := s.chg
    if !chgRuns s then s
    else if 10 ≤ c.vaLowMs then chgLost s 2
    else if inSession s && 60000 ≤ c.weakMs then chgLost s 3
    else s)

/-- Power over the last `n` ms: the sum of VA × IA, in the order of its mean. -/
def powerOver (s : State) (n : Nat) : Int := (s.chg.powers.take n).foldl (· + ·) 0

/-- The 250 ms move of perturb and observe, where MPPT_ACTIVE was 1 throughout the interval (R466). -/
def execMpptStep (s : State) : Host.Outcome State Fault Refusal :=
  .next (if chgRuns s && mpptActive s && s.chg.sweep.isNone && 250 ≤ s.chg.mpptMs then mpptMove s (powerOver s 250) else s)

/-- A 20 ms step of a sweep ends, with the power of its last 10 ms (R467). -/
def execSweepStep (s : State) : Host.Outcome State Fault Refusal :=
  .next (if chgRuns s && s.chg.source = .panel && 20 ≤ s.chg.stepMs then sweepStep s (powerOver s 10) else s)

/-- A periodic sweep, at the first 250 ms interval with MPPT_ACTIVE 1 that begins 10 min or more after the last sweep (R468). -/
def execPeriodicSweep (s : State) : Host.Outcome State Fault Refusal :=
  .next (
    if chgRuns s && mpptActive s && inSession s && s.chg.sweep.isNone && 600000 ≤ s.chg.sweepMs then sweepAnew s else s)

/-- The BNTC conversion, every 100 ms, with the bias ratio in units of 2⁻¹⁶ (R462). -/
def execChgBandUpdate (ratio : BitVec 16) (s : State) : Host.Outcome State Fault Refusal :=
  .next (if chgRuns s && s.chg.cfg.isSome && 100 ≤ s.chg.bandMs then bandUpdate (setChg s { s.chg with bandMs := 0 }) ratio.toNat else s)

/-- The safety timer reaches TIMER_H (R465); lifetime counter 15 (Table 14-9). -/
def execSafetyTimerExpiry (s : State) : Host.Outcome State Fault Refusal :=
  .next (
    if chgRuns s && inSession s && s.chg.state ≠ .suspended && s.chg.timerH * 7200000 ≤ s.chg.timerHalf then chgLatch (noteCount s 15) 0x001 5 else s)

/-- The time in PRECHARGE exceeds PRE_MIN (R460, R465). -/
def execPrechargeTimer (s : State) : Host.Outcome State Fault Refusal :=
  .next (if chgRuns s && s.chg.state = .precharge && s.chg.preMin * 60000 < s.chg.preMs then chgLatch s 0x002 5 else s)

/-- IB has stayed below ITERM for 60 s in CV (R461); lifetime counter 14 (Table 14-9). -/
def execChgTermination (s : State) : Host.Outcome State Fault Refusal :=
  .next (
    if chgRuns s && s.chg.state = .cv && 60000 ≤ s.chg.termMs then
      let s1 := fwdEnd s 1 .done
      noteCount (setChg s1 { s1.chg with waitRechg := true, doneCount := satInc s1.chg.doneCount }) 14
    else s)

/-- A recharge condition holds: VB below RECHG_MV for 10 s with the stage stopped, or SOC_REP below RECHG_SOC (R459). -/
def execRechargeCondition (s : State) : Host.Outcome State Fault Refusal :=
  .next (
    let b := chgBlock s
    let low := 10000 ≤ s.chg.rechgMs
    let soc := cU b 25 1 ≠ 0 && s.gauge.socRep < 100 * cU b 25 1
    if chgRuns s && s.chg.waitRechg && (s.chg.state = .idle || s.chg.state = .done) && (low || soc) then
      setChg s { s.chg with waitRechg := false, state := .idle }
    else s)

/-- The end of the 100 ms pause that comes every CHECK_MIN minutes in reverse mode; `va` is VA at it in 10 mV (R473, R474). -/
def execReverseCheck (va : BitVec 16) (s : State) : Host.Outcome State Fault Refusal :=
  .next (
    if !(chgRuns s && s.chg.state = .reverse && checkMs s + 100 ≤ s.chg.revMs) then s
    else
      let s1 := setChg s { s.chg with va := va.toNat, revMs := s.chg.revMs - checkMs s }
      if 10 * va.toNat < fld s 0x6024 0 16 then revEnd (chgLatch s1 0x100 5) 5 else s1)

/-- CHG_QB has fallen to the wake value (R481). -/
def execQbWake (s : State) : Host.Outcome State Fault Refusal :=
  .next (
    let w : BitVec 48 := (rd s 0x6044).extractLsb' 0 16 ++ rd s 0x6040
    if !domOff s 11 && flag s 0x6044 31 && s.chg.qb.toInt ≤ w.toInt then wakeMpDomain s 0x50 else s)

/-- 24 h after the last passing authentication (R483). -/
def execPackAuthRenewal (s : State) : Host.Outcome State Fault Refusal :=
  .next (
    let due := match s.chg.authPassAt with | some t => 86400 + t ≤ s.upSeconds | none => false
    if chgRuns s && authReq s && due && !s.chg.authRunning then authStart s else s)

/-- IB of sample k of a capture. -/
def capIb (xs : List (Int × Int)) (k : Nat) : Int := ((xs[k]?).getD (0, 0)).1

/-- A step of at least 2 A within 2 ms between the 32 samples before and the 96 after it (R479). -/
def execGaugeCapture (samples : List (Int × Int)) (s : State) : Host.Outcome State Fault Refusal :=
  .next (
    let step := fun i j => decide (200 ≤ (capIb samples i - capIb samples j).natAbs)
    if chgRuns s && s.chg.capture.isNone && samples.length = 128 && (step 32 31 || step 32 30 || step 33 31) then
      setChg s { s.chg with capture := some { samples := samples } }
    else s)

end Sys2Proof.Machine
end

