-- ==== Sys2Proof/Machine/FaultOps.lean ====
section
/-! DEFINITION. Operations of the fault collector: latches, reaction classes and the fault state (R487–R500). -/

namespace Sys2Proof.Machine

/-- A change of the fault collector. -/
def setFlt (s : State) (f : Faults) : State := { s with flt := f }

/-- The class in force of a source: 0 RECORD, 1 EVENT, 2 SAFE. Until the OTP load is complete every source is SAFE (R53);
3 acts as SAFE; sources 7 and 8 are SAFE (R493). -/
def fltClass (s : State) (k : Nat) : Nat :=
  if !s.glb.otpLoaded || k = 7 || k = 8 then 2
  else
    let c := if k < 16 then fld s 0x7020 (2 * k) 2 else fld s 0x7024 (2 * (k - 16)) 2
    if c = 3 then 2 else c

/-- What FLT_FIRST reads. -/
def fltFirstWord (s : State) : Word := pack 32 [(0, 5, s.flt.firstSource), (31, 1, b2n s.flt.firstValid)]

/-- The detail captured at a source's latch. -/
def fltDetail (s : State) (k : Nat) : Word := if bitOf s.flt.status k then Sparse.getD s.flt.details k 0 else 0

/-- Entry to the fault state (R353, R386, R495; Tables 11-2 and 10-7). -/
def faultEnter (s : State) : State :=
  if s.flt.faultState then s
  else
    let s1 := setFlt s { s.flt with faultState := true, safeN := true, aliveRun := false }
    let s2 := seqSafe s1
    let s3 := safeRailMembers (if domOn s2 10 && rootAlive s2 then forUpTo 8 railSafe s2 else s2)
    let s4 := if domOn s3 11 then chgFaultState s3 else s3
    let src := s4.flt.firstSource
    let s5 := { s4 with mp := { s4.mp with shadows := { s4.mp.shadows with
                  faultEntries := listSet s4.mp.shadows.faultEntries src ((s4.mp.shadows.faultEntries[src]?).getD 0 + 1) } } }
    noteLog (noteCount s5 6) 3 (pack 128 [(0, 32, (fltFirstWord s5).toNat), (32, 32, (fltDetail s5 src).toNat)])

/-- Source `k` latches with its detail; `timed` is false through the CLK_AON path, which writes no time (R488–R492). -/
def fltLatch (s : State) (k : Nat) (detail : Word) (timed : Bool) : State :=
  let f := s.flt
  let first := !f.firstValid
  let wasSafe := f.faultState
  let s1 := setFlt s { f with
    status := f.status ||| maskOf 32 k 1, details := Sparse.set f.details k detail, lines := Sparse.del f.lines k
    firstValid := true, firstSource := if first then k else f.firstSource
    firstTime := if first then (if timed then stamp s else 0) else f.firstTime, ovf := f.ovf || !first
    rootOverride := f.rootOverride || k = 3 }
  let s2 := takeFree s1
  match fltClass s k with
  | 0 => s2
  | 1 => raise s2 50 (pack 64 [(0, 5, k), (5, 1, b2n first), (6, 1, b2n wasSafe), (32, 32, detail.toNat)])
  | _ => faultEnter s2

/-- The error line of `k` is asserted, its domain is on and its bit is 0, so it latches: its detail (R24, R43, R488, R490). -/
def fltPending (s : State) (k : Nat) : Option Word :=
  if bitOf s.flt.status k || !lineReads s k (Sparse.getD s.flt.lines k 0) then none
  else match Sparse.get? s.flt.lines k with
    | some d => some d
    | none => if bitOf s.flt.active k then some (Sparse.getD s.flt.details k 0) else none

/-- Raise a reaction register's classes; a lower one is refused and counted in LOWER_REJECT (R493). -/
def reactMerge (old w : Word) (fixed : Nat → Bool) : Word × Bool :=
  (List.range 16).foldl (fun (a : Word × Bool) k =>
    let o := bitsOf old (2 * k) 2
    let v := bitsOf w (2 * k) 2
    if fixed k then a
    else if (if o = 3 then 2 else o) ≤ (if v = 3 then 2 else v) then (putBits a.1 (2 * k) 2 v, a.2)
    else (a.1, true)) (old, false)

/-- A write to FLT_REACT0 or FLT_REACT1. -/
def reactWrite (s : State) (hi : Bool) (w : Word) : State :=
  let off := if hi then 0x7024 else 0x7020
  let r := reactMerge (rd s off) w (fun k => !hi && (k = 7 || k = 8))
  let s1 := wr s off r.1 0xFFFFFFFF
  setFlt s1 { s1.flt with lowerReject := s1.flt.lowerReject || r.2 }

/-- FLT_STATUS write-1-to-clear (R490). -/
def fltClear (s : State) (w : Word) : State := setFlt s { s.flt with status := s.flt.status &&& ~~~ w }

/-- FIRST_CLR (R490). -/
def firstClear (s : State) : State :=
  if s.flt.faultState then s
  else setFlt s { s.flt with firstValid := false, firstSource := 0, firstTime := 0, ovf := false }

/-- FLT_TEST (R487). -/
def fltTest (s : State) (w : Word) : State := if bitsOf w 16 16 = 0x7E57 then assertLine s 22 (pack 32 [(0, 16, bitsOf w 0 16)]) else s

end Sys2Proof.Machine
end

