-- ==== Sys2Proof/Machine/LinkBase.lean ====
section
/-! DEFINITION. Ports, nodes, trains and node commands of the Sirdatan link (04_sirdatan_link.md). -/

namespace Sys2Proof.Machine

/-! ### Ports and nodes -/

def port (s : State) (p : Nat) : Port := vget s.lp.ports p Port.reset
def setPort (s : State) (p : Nat) (x : Port) : State := { s with lp := { s.lp with ports := vput s.lp.ports p x } }

/-- A node by its 9-bit address: [8:5] port, [4:0] position. -/
def node (s : State) (a : Nat) : Node := Sparse.getD s.lp.nodes a Node.reset
def setNode (s : State) (a : Nat) (x : Node) : State := { s with lp := { s.lp with nodes := Sparse.set s.lp.nodes a x } }

/-- The port is enabled and its link group is on (R155). -/
def portOn (s : State) (p : Nat) : Bool := flag s 0x300C p && domOn s (groupDom p)

/-- The port carries cycles: enabled, enumerated, running (R162). -/
def portRuns (s : State) (p : Nat) : Bool :=
  s.lp.running && portOn s p && ((port s p).mode = 1 || (port s p).mode = 2)

/-- The port carries the cycle's SYNC and LATCH: so does one that is recovering (R162, R231, Table 4-14 step 6). -/
def portCycles (s : State) (p : Nat) : Bool := portRuns s p || (s.lp.running && portOn s p && (port s p).mode = 4)

/-- The addressed positions of a port, in ascending order. -/
def positions (s : State) (p : Nat) : List Nat := (List.range 32).filter fun k => (node s (32 * p + k)).present

/-- The positions of a chain, in the order of its trains: chain A ascending, chain B from the far end down. A position marked missing is
none of them, so that it counts in neither N nor E (DESIGN CHOICE, log 121). -/
def chainPositions (s : State) (p : Nat) (chainB : Bool) : List Nat :=
  let l := (positions s p).filter fun k => (node s (32 * p + k)).chainB = chainB && !bitOf (port s p).missing k
  if chainB then l.reverse else l

/-- CYCLE_MS in force (Table 4-15). -/
def cycleMs (s : State) : Nat := clampN 5 100 (fld s 0x3004 0 7)

/-- PI_NODE, and whether it streams. -/
def piNode (s : State) : Nat := fld s 0x301C 0 9
def piEn (s : State) : Bool := flag s 0x301C 15

/-- A node is quarantined, unsynchronised or missing. -/
def quarantined (s : State) (a : Nat) : Bool := bitOf (port s (a / 32)).quarantine (a % 32)
def unsynced (s : State) (a : Nat) : Bool := bitOf (port s (a / 32)).unsync (a % 32)
def nodeMissing (s : State) (a : Nat) : Bool := bitOf (port s (a / 32)).missing (a % 32)

/-- A present node whose data count as delivered (R240). -/
def nodeGood (s : State) (a : Nat) : Bool := (node s a).present && !quarantined s a

/-! ### Events and records of status -/

/-- EV5 + port (Table 15-2). -/
def ev5 (s : State) (p kind : Nat) : State :=
  let x := port s p
  raise s (5 + p) (pack 64 [(0, 3, x.mode), (4, 4, kind), (8, 6, x.nodes), (14, 6, x.na), (20, 6, x.nb), (26, 1, b2n x.countMismatch),
    (27, 1, b2n x.hopLimit), (28, 1, b2n x.excess), (32, 32, x.missing.toNat)])

/-- The 16-byte header of a telemetry record (Table 5-4). -/
def recHeader (kind nodeAddr len : Nat) (ts : Stamp) : List Byte :=
  leBytes 1 kind ++ [0] ++ leBytes 2 nodeAddr ++ leBytes 4 len ++ leBytes 6 ts.toNat ++ [0, 0]

/-- A node-state record (R242). -/
def nodeRecord (s : State) (a : Nat) (restored : Bool) : State :=
  if flag s 0x3818 1 then
    let body := leBytes 4 (b2n (nodeMissing s a) + 2 * b2n (unsynced s a) + 4 * b2n (quarantined s a) + 8 * b2n restored) ++ leBytes 4 s.lp.cycle.toNat
    let ts := stamp s
    tsRecord (takeFree s) (a / 32) ts (recHeader 3 a 24 ts ++ body)
  else s

/-- The stream node is missing, unsynchronised or quarantined: PI_LOST is set (R248). -/
def piJudge (s : State) (a : Nat) : State :=
  if piEn s && piNode s = a && (nodeMissing s a || unsynced s a || quarantined s a) then
    { s with mc := { s.mc with piLost := true, piRun := 0 } }
  else s

/-- Set one bit of a port's MISSING (0), UNSYNC (1) or QUARANTINE (2) map; a change writes a record (R242). The PI node set so is lost
(R248). -/
def setNodeBit (s : State) (a which : Nat) (v : Bool) : State :=
  let p := a / 32
  let k := a % 32
  let x := port s p
  let old := match which with | 0 => bitOf x.missing k | 1 => bitOf x.unsync k | _ => bitOf x.quarantine k
  if old = v then s
  else
    let put := fun (m : BitVec 32) => putBits m k 1 (b2n v)
    let y := match which with
      | 0 => { x with missing := put x.missing }
      | 1 => { x with unsync := put x.unsync }
      | _ => { x with quarantine := put x.quarantine }
    let s1 := setPort s p y
    nodeRecord (if v then piJudge s1 a else s1) a false

/-! ### Quotas and RDIV (R166–R169) -/

/-- E: delay to the chain's end node in character times, rounded up. -/
def chainDelay (s : State) (p : Nat) (chainB : Bool) : Nat :=
  match (chainPositions s p chainB).getLast? with
  | none => 0
  | some k => ((node s (32 * p + k)).delay.toNat + 9) / 10

/-- S: the streaming node lies on the ring or chain. -/
def chainStream (s : State) (p : Nat) (chainB : Bool) : Nat :=
  b2n (piEn s && piNode s / 32 = p && (chainPositions s p chainB).contains (piNode s % 32))

/-- The port works as two chains: dual-chain, recovering, or discovery from both ends. -/
def twoChains (x : Port) : Bool :=
  x.mode = 2 || x.mode = 4 || (x.mode = 3 && (match x.enum with | some e => !e.whole | none => false))

/-- QUOTA of a train with a command of `cmd` bytes (R166); 255 with no node. -/
def quota (s : State) (p : Nat) (chainB : Bool) (cmd : Nat) : Nat :=
  let n := (chainPositions s p chainB).length
  if n = 0 then 255
  else
    let q := if twoChains (port s p) then (1514 - 2 * cmd - 2 * chainDelay s p chainB - 6 * chainStream s p chainB) / n
      else (1540 - cmd - 6 * chainStream s p chainB) / n
    if q < 255 then q else 255

/-- RDIV's code and RDIV_SHORT for the least QUOTA0 (R168, R169). -/
def rdivOf (q c : Nat) : Nat × Bool :=
  let ok := fun r => 1600 ≤ (q - 15) * 8 * c * r
  if ok 1 then (0, false) else if ok 2 then (1, false) else if ok 4 then (2, false) else if ok 8 then (3, false) else (3, true)

/-- Recompute quotas and RDIV of a port, at each cycle boundary and mode change; a port that is down has none. -/
def portRates (p : Nat) (s : State) : State :=
  let x := port s p
  if x.mode = 0 then setPort s p { x with quotaA := 0, quotaB := 0, rdiv := 0, rdivShort := false }
  else
    let two := twoChains x
    let qa := quota s p false 0
    let qb := quota s p true 0
    let r := rdivOf (if two && qb < qa then qb else qa) (cycleMs s)
    setPort s p { x with quotaA := qa, quotaB := if two then qb else 0, rdiv := r.1, rdivShort := r.2 }

/-! ### Node commands (R172, R183–R186) -/

/-- Append commands to a port's queue. -/
def enq (s : State) (p : Nat) (cs : List NodeCmd) : State :=
  setPort s p { port s p with queue := (port s p).queue ++ cs }

/-- A command for one position. -/
def nodeCmd (s : State) (a ncmd : Nat) (param : List Byte) (why : Nat) : NodeCmd :=
  { pos := a % 32, bcast := false, chainB := (node s a).chainB, ncmd := ncmd, param := param, why := why, sends := 0 }

/-- A broadcast on a ring or chain. -/
def bcastCmd (chainB : Bool) (ncmd : Nat) (param : List Byte) (why : Nat) : NodeCmd :=
  { pos := 0, bcast := true, chainB := chainB, ncmd := ncmd, param := param, why := why, sends := 0 }

/-- A broadcast to every node of a port: on both chains where there are two. -/
def bcastAll (s : State) (p ncmd : Nat) (param : List Byte) (why : Nat) : List NodeCmd :=
  bcastCmd false ncmd param why :: (if twoChains (port s p) then [bcastCmd true ncmd param why] else [])

/-- The command's bytes in a train (Table 4-4). -/
def cmdBytes (c : NodeCmd) (seq : Byte) : List Byte :=
  let b := leBytes 1 (if c.bcast then 32 else c.pos) ++ leBytes 1 c.ncmd ++ [seq] ++ leBytes 1 c.param.length ++ c.param
  b ++ leBytes 2 (crc16 b)

/-- A fresh challenge is noted for the node as it first goes into a train (R197). -/
def cmdChallenge (s : State) (p : Nat) (c : NodeCmd) : State × NodeCmd :=
  if c.ncmd = 6 && c.sends = 0 then
    let ch := Config.freeChallenge s.free
    let a := 32 * p + c.pos
    let occ := match c.why with | 1 => 1 | 2 => 2 | 3 => 3 | _ => 4
    (takeFree (setNode s a { node s a with challenge := some (ch, occ) }), { c with param := leBytes 16 ch.toNat })
  else (s, c)

/-- The command of the ring or chain A, or of chain B, that awaits its response. -/
def sentOn (x : Port) (chainB : Bool) : Option SentCmd := if chainB then x.sentB else x.sentA
def setSent (x : Port) (chainB : Bool) (k : Option SentCmd) : Port := if chainB then { x with sentB := k } else { x with sentA := k }

/-- The next command for a train: none while one of its chain awaits its response. The two chains take theirs in parallel (R193). -/
def nextCmd (x : Port) (chainB : Bool) : Option NodeCmd :=
  if (sentOn x chainB).isSome then none else x.queue.find? fun c => c.chainB = chainB

/-- The MODE field of a train (Table 4-3). -/
def trainMode (x : Port) (chainB : Bool) (c : Option NodeCmd) : Nat :=
  let echo := match c with | some k => decide (k.ncmd = 4) | none => false
  let disc := match x.enum with | some e => !e.whole && decide (e.stage = 4) | none => false
  if disc then 3
  else if x.mode = 2 || x.mode = 4 || echo then (if chainB then 2 else 1)
  else match x.enum with | some e => if e.whole then 0 else if chainB then 2 else 1 | none => 0

/-- The 8-byte header (Table 4-3). -/
def trainHeader (mode : Nat) (latch : Bool) (rdiv mf q len cycle : Nat) : List Byte :=
  let h := leBytes 1 (mode + 4 * b2n latch + 8 * rdiv) ++ leBytes 2 mf ++ leBytes 1 q ++ leBytes 1 len ++ leBytes 1 cycle
  h ++ leBytes 2 (crc16 h)

/-- The microframe of the next train of a chain: the one under way, or the next where the chain's train has gone out in it. -/
def trainMf (s : State) (x : Port) (chainB : Bool) : Nat :=
  if (if chainB then x.mfB else x.mfA) then (x.mf + 1) % (8 * cycleMs s) else x.mf

/-- Trigger characters directly before a train: SYNC at the start of a running cycle, then CAPT (R162, R179, R250). -/
def trainLead (s : State) (p : Nat) (x : Port) (chainB : Bool) (mf : Nat) : List LineChar :=
  (if mf = 0 && portCycles s p then syncChars (s.lp.cycle.setWidth 8) else []) ++
    (match if chainB then x.captB else x.captA with | some n => captChars n | none => [])

/-- A train goes out on a pair with its command (R166, R170, R172, R186). A broadcast has no response. -/
def sendTrain (s : State) (p : Nat) (chainB : Bool) : State :=
  let x := port s p
  let mf := trainMf s x chainB
  let moved := decide (mf ≠ x.mf)
  let c := nextCmd x chainB
  let r := match c with | some k => cmdChallenge s p k | none => (s, bcastCmd chainB 0 [] 0)
  let bytes := if c.isSome then cmdBytes r.2 x.seq else []
  let wait := (sentOn x chainB).map fun k => { k with trains := k.trains + 1 }
  let sent := if c.isSome && !r.2.bcast then some { cmd := { r.2 with sends := r.2.sends + 1 }, seq := x.seq, trains := 0 : SentCmd } else wait
  let q := quota r.1 p chainB bytes.length
  let h := trainHeader (trainMode x chainB c) (x.latch && mf = 0) x.rdiv mf q bytes.length (s.lp.cycle.toNat % 256)
  let y := setSent (port r.1 p) chainB sent
  setPort r.1 p { y with
    train := h ++ bytes, lead := trainLead s p x chainB mf, tail := [], queue := x.queue.eraseP (fun k => c.isSome && k.chainB = chainB)
    seq := if c.isSome then x.seq + 1 else x.seq
    mf := mf, mfA := if chainB then y.mfA && !moved else true, mfB := if chainB then true else y.mfB && !moved
    askA := if chainB then y.askA else q, askB := if chainB then q else y.askB
    latch := x.latch && mf = 0, failRun := if x.trainOut then 0 else x.failRun, trainOut := true
    captA := if chainB then y.captA else none, captB := if chainB then none else y.captB }

/-- The characters on the line for the train sent last, with the triggers that have gone out since. -/
def trainOnLine (x : Port) : List LineChar := x.lead ++ trainChars x.train ++ x.tail

/-- The device drives a pair (Table 4-1): pair A in every mode but down, pair B where the port works from both ends. -/
def pairDrives (s : State) (p : Nat) (pairB : Bool) : Bool :=
  portOn s p && (port s p).mode ≠ 0 && (!pairB || twoChains (port s p))

/-- What fills a driven pair between trains: IDLE, over and over, on a ring and while a port waits for lock (Tables 4-2 and 4-12); a
half-duplex pair is released after each train (R156). -/
def lineFill (s : State) (p : Nat) (pairB : Bool) : List LineChar :=
  if pairDrives s p pairB && !twoChains (port s p) then idleChars else []

/-! ### Commands of Table 4-11 -/

def cmdEnumerate (fill fromB : Bool) (count expect : Nat) (chainB : Bool) (why : Nat) : NodeCmd :=
  bcastCmd chainB 0x02 ([BitVec.ofNat 8 (b2n fill + 2 * b2n fromB), BitVec.ofNat 8 count] ++ (if fromB then [BitVec.ofNat 8 expect] else [])) why

/-- ROLE of SET_TIMING. -/
def nodeRole (s : State) (a : Nat) : Nat :=
  let p := a / 32
  let n := node s a
  let x := port s p
  if !twoChains x then 0
  else
    let last := (chainPositions s p n.chainB).getLast? = some (a % 32)
    (if n.chainB then 3 else 1) + b2n last

/-- SYNC_HOLD of R191. -/
def syncHold (d : BitVec 16) : BitVec 16 := BitVec.ofNat 16 (6250 - d.toNat)

/-- SET_TIMING; the hold sent is noted. -/
def cmdTiming (s : State) (a why : Nat) : State × NodeCmd :=
  let n := node s a
  let h := syncHold n.delay
  (setNode s a { n with hold := h }, nodeCmd s a 0x05 (leBytes 2 h.toNat ++ leBytes 1 (nodeRole s a)) why)

/-- STATUS_READ, which no rule has the device send on its own (log 48). -/
def cmdStatusRead (s : State) (a why : Nat) : NodeCmd := nodeCmd s a 0x0C [] why

/-- The PROFILE index of a tap: that of its CELL channel, else 0 (R187). -/
def tapProfile (s : State) (a t : Nat) : Nat :=
  if 496 ≤ t then 0
  else match dirChannel s.ct.dir 1 a t with
    | none => 0
    | some c => match seeEntry s c with | some e => bitsOf e 64 4 | none => 0

/-- The CELL channels whose PROFILE a node's tap profiles take. -/
def tapChannels (s : State) (a : Nat) : List Nat :=
  if !s.ct.attached then [] else match Sparse.get? s.ct.dir a with | some d => (List.range d.cellCount).map (· + d.cellFirst) | none => []

/-- The five TAP_PROFILE_WRITE commands of a node. -/
def tapProfiles (s : State) (a why : Nat) : List NodeCmd :=
  if !s.ct.attached then []
  else (List.range 5).map fun i =>
    let first := 120 * i
    let n := if i = 4 then 32 else 120
    let bytes := (List.range (n / 2)).map fun j => BitVec.ofNat 8 (tapProfile s a (first + 2 * j) + 16 * tapProfile s a (first + 2 * j + 1))
    nodeCmd s a 0x08 (leBytes 2 first ++ leBytes 1 n ++ bytes) why

/-- The 16 PROFILE_WRITE commands of an image. -/
def imageWrites (s : State) (a : Nat) (img : BitVec 4096) (mask : BitVec 16) (why : Nat) : List NodeCmd :=
  ((List.range 16).filter (bitOf mask)).map fun i => nodeCmd s a 0x07 (leBytes 1 i ++ leBytes 32 (bitsOf img (256 * i) 256)) why

end Sys2Proof.Machine
end

