-- ==== Sys2Proof/Machine/CaptureOps.lean ====
section
/-! DEFINITION. Load-step detection and capture: threshold, trigger, upload, repair and completion
(05_cell_measurement.md, R246–R265; log 47). -/

namespace Sys2Proof.Machine

/-! ### Pieces of a capture record (Table 4-8) -/

/-- Bytes of a node's capture record. -/
def capLen : Nat := 129032

/-- A delivered byte of a record. -/
def pieceByte (ps : List (Nat × List Byte)) (o : Nat) : Option Byte :=
  ps.findSome? fun e => if e.1 ≤ o then e.2[o - e.1]? else none

/-- Delivered bytes from `o` on, or none where one is missing. -/
def pieceBytes (ps : List (Nat × List Byte)) (o : Nat) : Nat → Option (List Byte)
  | 0 => some []
  | n + 1 =>
    match pieceByte ps o, pieceBytes ps (o + 1) n with
    | some b, some bs => some (b :: bs)
    | _, _ => none

/-- Insert an extent (offset, length) in rising order of offset. -/
def putExtent (e : Nat × Nat) : List (Nat × Nat) → List (Nat × Nat)
  | [] => [e]
  | x :: t => if e.1 ≤ x.1 then e :: x :: t else x :: putExtent e t

/-- The missing ranges from `p` on, given the extents in rising order. -/
def gapsFrom : List (Nat × Nat) → Nat → List (Nat × Nat)
  | [], p => if p < capLen then [(p, capLen - p)] else []
  | (a, n) :: t, p =>
    let q := if p < a + n then a + n else p
    if p < a then (p, a - p) :: gapsFrom t q else gapsFrom t q

/-- The missing ranges of a record. -/
def capGaps (ps : List (Nat × List Byte)) : List (Nat × Nat) :=
  gapsFrom (ps.foldl (fun l e => putExtent (e.1, e.2.length) l) []) 0

/-- Bytes that are missing. -/
def capMissing (ps : List (Nat × List Byte)) : Nat := (capGaps ps).foldl (fun n g => n + g.2) 0

/-! ### The list of outstanding captures -/

/-- Change the capture of a sequence number. -/
def updCapture (s : State) (seq : Word) (f : Capture → Capture) : State :=
  { s with mc := { s.mc with captures := s.mc.captures.map fun c => if c.seq = seq then f c else c } }

/-- Change one node's part of a capture. -/
def updCapNode (s : State) (seq : Word) (a : Nat) (f : CapNode → CapNode) : State :=
  updCapture s seq fun c => { c with nodes := c.nodes.map fun k => if k.node = a then f k else k }

/-- A record reserved in a TSC buffer at `p` will not be written: the buffer's RECORDS no longer counts it (log 47). -/
def capUnplace (s : State) (p : Nat) : State :=
  let t := strm s 16
  let within := fun (a : Nat) => decide (a ≤ p) && decide (p < a + winBuf s 25)
  let less := fun (b : OpenBuf) => { b with records := b.records - 1 }
  tsLate (setStrm s 16 { t with
    openBuf := if within (tsAddr s 16) then t.openBuf.map less else t.openBuf
    late := t.late.map fun l => if within l.addr then { l with buf := less l.buf } else l })

/-- A node leaves every capture in which its record is not complete (R259). -/
def capExclude (a : Nat) (s : State) : State :=
  forEach (s.mc.captures.map Capture.seq) (fun q s1 =>
    match s1.mc.captures.find? (fun c => c.seq = q) with
    | none => s1
    | some c =>
      match c.nodes.find? (fun k => k.node = a && !k.done) with
      | none => s1
      | some k =>
        let s2 := updCapture s1 q fun c => { c with nodes := c.nodes.filter (fun k => k.node ≠ a), excluded := c.excluded + 1 }
        match k.place with
        | some p => capUnplace s2 p
        | none => s2) s

/-! ### Writing and completing records (R258–R263, R272) -/

/-- The 32 bytes before a node's record (R262). -/
def capHead (c : Capture) (k : CapNode) (full : Bool) : List Byte :=
  let unsync := match pieceByte k.pieces 2 with | some b => bitOf b 0 | none => k.unsync
  recHeader 8 k.node 129064 k.ts ++ leBytes 4 c.seq.toNat ++ leBytes 1 (b2n full + 2 * b2n (!full) + 4 * b2n unsync) ++ leBytes 1 k.post ++
    [0, 0] ++ leBytes 4 (capMissing k.pieces) ++ zeroBytes 4

/-- CELL taps whose fit may be computed from a record (R272). -/
def fitTaps (s : State) (k : CapNode) : List Nat :=
  match Sparse.get? s.ct.dir k.node with
  | none => []
  | some d =>
    let have_ := fun (t : Nat) => (pieceBytes k.pieces (8 + 256 * t) 256).isSome
    (List.range d.cellCount).filter fun t =>
      decide (d.groupCount ≠ 0) && have_ t && have_ (if t < 248 || d.groupCount = 1 then 496 else 497)

/-- The fits of a record that has just been written wait to be computed (R272, R277). -/
def fitsDue (s : State) (c : Capture) (k : CapNode) : State :=
  let unsync := match pieceByte k.pieces 2 with | some b => bitOf b 0 | none => k.unsync
  if flag s 0x2800 0 && domOn s 4 && s.ct.attached && !unsync && !(fitTaps s k).isEmpty then
    { s with ox := { s.ox with fits := s.ox.fits ++
      [{ capture := c.seq, refTs := c.refTs, node := k.node, taps := fitTaps s k, pieces := k.pieces }] } }
  else s

/-- Change what is held for a channel's next pass (R125). -/
def pendMod (s : State) (c : Nat) (f : ChanPend → ChanPend) : State :=
  { s with ox := { s.ox with pend := Sparse.modify s.ox.pend c ChanPend.empty f } }

/-- The node's channels of the kinds `ks` were included in a capture whose reference grid instant is `t` (LAST_CAPTURE, R109). -/
def capMark (s : State) (a : Nat) (ks : List Nat) (t : Stamp) : State :=
  match Sparse.get? s.ct.dir a with
  | none => s
  | some d =>
    if !s.ct.attached then s
    else forEach ks (fun kind q =>
      forUpTo (dirKind d kind).2 (fun i q1 => pendMod q1 ((dirKind d kind).1 + i) fun h => { h with lastCapt := some t }) q) s

/-- Write what a record still lacks: its head, and 0 for each missing byte (R258, R262). -/
def capWrite (s : State) (c : Capture) (k : CapNode) (full : Bool) : State :=
  let s1 := match k.place with
    | none => s
    | some p => forEach (capGaps k.pieces) (fun g q => hostPost q (p + 32 + g.1) (zeroBytes g.2)) (hostPost s p (capHead c k full))
  let s2 := updCapNode s1 c.seq k.node fun k => { k with done := true }
  tsLate (capMark (fitsDue s2 c k) k.node [1, 2] c.refTs)

/-- Every running port. -/
def runningPorts (s : State) : List Nat := (List.range 16).filter (portRuns s)

/-- Every port that carries the cycle's SYNC, a recovering one included. -/
def cyclePorts (s : State) : List Nat := (List.range 16).filter (portCycles s)

/-- The 1,024 samples of a capture summary (R241, R263). -/
def capSamples (c : Capture) : List Byte :=
  (List.range 1024).flatMap fun i =>
    leBytes 4 (match c.pi.find? (fun e => e.1 + 256 = 8 * c.ref + i) with | some e => e.2.toNat | none => 0x00800000)

/-- The summary record (R263). -/
def capSummary (c : Capture) (full part excl : Nat) (capt : Stamp) : List Byte :=
  recHeader 9 0 4144 capt ++ leBytes 4 c.seq.toNat ++ leBytes 1 (b2n c.forced) ++ [0] ++ leBytes 2 full ++ leBytes 2 part ++ leBytes 2 excl ++
    leBytes 2 c.steps ++ leBytes 2 (sat16 (c.d / 16)) ++ leBytes 6 c.refTs.toNat ++ [0, 0] ++ zeroBytes 8 ++ capSamples c

/-- The capture after a completed one becomes the oldest outstanding (R258). -/
def capNext (s : State) (cs : List Capture) : List Capture :=
  match cs with
  | [] => []
  | c :: t => { c with since := s.mc.now } :: t

/-- A capture completes (R258). A node of which nothing has arrived has not triggered (R259, log 47). A record that found no buffer is not
written: it counts neither as complete nor as partial (R243, R263). -/
def capEnd (s : State) (c : Capture) : State :=
  let full := countIf (fun k : CapNode => k.done && k.place.isSome) c.nodes
  let part := c.nodes.filter fun k => !k.done && !k.pieces.isEmpty
  let cut := countIf (fun k : CapNode => k.place.isSome) part
  let excl := c.excluded + countIf (fun k : CapNode => !k.done && k.pieces.isEmpty) c.nodes
  let s1 := forEach part (fun k q => capWrite q c k false) s
  let s2 := tsRecord (capMark s1 (piNode s1) [4] c.refTs) 16 c.captTs (capSummary c full cut excl c.captTs)
  let s3 := { s2 with mc := { s2.mc with captures := capNext s2 (s2.mc.captures.filter (fun x => x.seq ≠ c.seq)),
                                         partialCount := satAdd s2.mc.partialCount cut } }
  let s4 := forEach (cyclePorts s3) (fun p q => enq q p (bcastAll q p 0x0A (leBytes 1 c.seq.toNat) 7)) s3
  raise s4 26 (pack 64 [(0, 32, c.seq.toNat), (32, 10, full), (42, 10, cut + excl), (52, 1, b2n c.forced)])

/-- Every triggered node has delivered, and the summary's window has passed. -/
def capReady (s : State) (c : Capture) : Bool := c.nodes.all CapNode.done && decide (1000 * (c.ref + 96) ≤ s.mc.now)

/-- Write records that are complete, and complete captures in order of age, once host memory may be written. -/
def capProgress : Nat → State → State
  | 0, s => s
  | n + 1, s =>
    match s.mc.captures with
    | [] => s
    | c :: _ => if capReady s c then capProgress n (capEnd s c) else s

/-- Write every node record that is complete; what host memory cannot take yet waits its turn (R56). -/
def capPump (s : State) : State :=
  let s1 := forEach s.mc.captures (fun c q =>
    forEach c.nodes (fun k q1 =>
      if !k.done && (capGaps k.pieces).isEmpty then capWrite q1 c k true else q1) q) s
  capProgress (s1.mc.captures.length) s1

/-- CAP_REREAD for a missing range, in lengths of at most 65,535. -/
def rereads (s : State) (a : Nat) (seq : Word) (g : Nat × Nat) : List NodeCmd :=
  let one := fun o n => nodeCmd s a 0x0B (leBytes 1 seq.toNat ++ leBytes 3 o ++ leBytes 2 n) 7
  if g.2 ≤ 65535 then [one g.1 g.2]
  else if g.2 ≤ 131070 then [one g.1 65535, one (g.1 + 65535) (g.2 - 65535)]
  else [one g.1 65535, one (g.1 + 65535) 65535, one (g.1 + 131070) (g.2 - 131070)]

/-- A CAP_REREAD of this node is queued or awaits its response. -/
def rereading (x : Port) (pos : Nat) : Bool :=
  let one := fun (c : NodeCmd) => decide (c.ncmd = 0x0B) && decide (c.pos = pos)
  x.queue.any one || (match x.sentA with | some k => one k.cmd | none => false) || (match x.sentB with | some k => one k.cmd | none => false)

/-- Ask for the ranges that a node's record still lacks, once none asked for is outstanding (R175, R257). -/
def askMissing (s : State) (a : Nat) (c : Capture) : State :=
  match c.nodes.find? (fun k => k.node = a && !k.done && !k.given && !k.pieces.isEmpty) with
  | some k => if rereading (port s (a / 32)) (a % 32) then s else enq s (a / 32) ((capGaps k.pieces).flatMap (rereads s a c.seq))
  | none => s

/-- The node's oldest capture of which pieces have arrived and bytes are missing: it has no more to send of it (log 112). -/
def askOldest (s : State) (a : Nat) : State :=
  match s.mc.captures.find? (fun c => c.nodes.any fun k => k.node = a && !k.done && !k.pieces.isEmpty) with
  | some c => askMissing s a c
  | none => s

/-- A CAP_REREAD is refused or has failed: its range stays missing (R182, R186). -/
def rereadGiven (s : State) (a : Nat) (num : Byte) : State :=
  let f := fun (c : Capture) =>
    if c.seq.setWidth 8 = num then { c with nodes := c.nodes.map fun k => if k.node = a then { k with given := true } else k } else c
  { s with mc := { s.mc with captures := s.mc.captures.map f } }

/-- Reserve the space of a node's record at its first piece; a TSC buffer of less than 256 KiB takes none (R244, R261). -/
def capReserve (s : State) (seq : Word) (k : CapNode) : State :=
  if winBuf s 25 < 2 ^ 18 then tsDiscard s 16 1
  else match tsReserve s 16 129064 k.ts with
    | (q, some p) => updCapNode q seq k.node fun k => { k with place := some p }
    | (q, none) => tsDiscard q 16 1

/-- A node's part of a capture. -/
def capPart (s : State) (seq : Word) (a : Nat) : Option CapNode :=
  (s.mc.captures.find? (fun c => c.seq = seq)).bind fun c => c.nodes.find? fun k => k.node = a

/-- A CAP piece arrives (R257, R261). -/
def capPiece (s : State) (a : Nat) (num : Byte) (off : Nat) (bytes : List Byte) : State :=
  match s.mc.captures.find? (fun c => c.seq.setWidth 8 = num && c.nodes.any fun k => k.node = a && !k.done) with
  | none => s
  | some c =>
    match c.nodes.find? (fun k => k.node = a) with
    | none => s
    | some k =>
      if bytes.isEmpty || capLen < off + bytes.length then s
      else
        let s1 := if k.pieces.isEmpty then capReserve s c.seq k else s
        let s2 := match (capPart s1 c.seq a).bind CapNode.place with
          | some p => hostPost s1 (p + 32 + off) bytes
          | none => s1
        let s3 := updCapNode s2 c.seq a fun k => { k with pieces := k.pieces ++ [(off, bytes)] }
        let s4 := if off + bytes.length = capLen then
            (match s3.mc.captures.find? (fun x => x.seq = c.seq) with | some c1 => askMissing s3 a c1 | none => s3)
          else s3
        capPump s4

/-! ### Trigger and decline (R179, R180, R249–R256) -/

/-- A node of a running port reports CAP_FULL (R180). -/
def capFull (s : State) : Bool :=
  s.lp.nodes.any fun e => portCycles s (e.1 / 32) && e.2.present && !quarantined s e.1 && bitOf e.2.nstat 3

/-- Why no CAPT may go out: 1 five outstanding, 2 CAP_FULL (R253, R264). -/
def captBarred (s : State) : Option Nat :=
  if 5 ≤ s.mc.captures.length then some 1 else if capFull s then some 2 else none

/-- The declined record (R264). -/
def capDecline (s : State) (d reason : Nat) : State :=
  let ts := stamp s
  let body := leBytes 3 d ++ leBytes 1 reason ++ leBytes 1 s.mc.captures.length ++ zeroBytes 11
  let s1 := { s with mc := { s.mc with declined := satInc s.mc.declined } }
  tsRecord (takeFree s1) 16 ts (recHeader 10 0 32 ts ++ body)

/-- CAPT goes to a port (R179, R249, R250): before the next train of a dual-chain port; on a ring at once, behind the SYNC where that falls
due on the same character and has not gone out. -/
def captPort (us : Nat) (n : Byte) (p : Nat) (s : State) : State :=
  let x := port s p
  if x.mode = 2 then setPort s p { x with captA := some n, captB := some n }
  else if us = 1000 * s.lp.ms && x.mf = 0 && !x.mfA then setPort s p { x with captA := some n }
  else setPort s p { x with tail := x.tail ++ captChars n }

/-- CAPT at `us` of the grid: every node of a running port that is not quarantined, missing or being restored triggers.
Ring-mode nodes trigger 50 µs after it, those of dual-chain ports behind the next train (R179, R249, R252). -/
def captEmit (s : State) (us d : Nat) (forced : Bool) : State :=
  let seq := s.mc.lastSeq + 1
  let ref := (us + 50) / 1000 + 1
  let behind := (us + 50 + 124) / 125 * 125
  let captTs := stamp s
  let s0 := takeFree s
  let refTs := stamp s0
  let s1 := takeFree s0
  let ringTs := stamp s1
  let s2 := takeFree s1
  let dualTs := stamp s2
  let s3 := takeFree s2
  let all := s.lp.nodes.filter fun e => e.2.present && portOn s (e.1 / 32)
  let part := all.filter fun e => portRuns s (e.1 / 32) && !quarantined s e.1 && !nodeMissing s e.1 && !e.2.restoring && !e.2.unrestored
  let nodes := part.map fun e =>
    let dual := (port s (e.1 / 32)).mode = 2
    { node := e.1, place := none, pieces := [], unsync := unsynced s e.1, ts := if dual then dualTs else ringTs
      post := if dual then behind / 1000 + 1 - ref else 0, done := false, given := false : CapNode }
  let c : Capture := { seq := seq, forced := forced, ref := ref, refTs := refTs, captTs := captTs, since := us, steps := 0, d := if forced then 0 else d
                       nodes := nodes, excluded := all.length - part.length
                       pi := s.mc.hist.filter fun e => decide (8 * (ref - 32) ≤ e.1) && decide (e.1 < 8 * (ref + 96)) }
  let s4 := { s3 with mc := { s3.mc with captures := s3.mc.captures ++ [c], lastSeq := seq, lastCapt := some us } }
  forEach (runningPorts s) (captPort us (seq.setWidth 8)) s4

/-- A detection (R249, R253, R254). -/
def detection (s : State) (t d delay : Nat) : State :=
  let late := match s.mc.lastCapt with
    | some u => decide (125 * t ≤ u + 96000)
    | none => false
  if late then updCapture s s.mc.lastSeq fun c => { c with steps := c.steps + 1 }
  else match captBarred s with
    | some r => capDecline s d r
    | none => captEmit s (125 * t + delay) d false

/-- MC_CAP_TIMEOUT.TIMEOUT_MS in force (Table 5-7). -/
def capTimeoutMs (s : State) : Nat := clampN 1000 8000 (fld s 0x3810 0 13)

/-- TIMEOUT_MS has passed since the capture became the oldest outstanding (R258). -/
def capTimedOut (s : State) (c : Capture) : Bool := decide (c.since + 1000 * capTimeoutMs s ≤ s.mc.now)

/-- Within 97 ms after the last CAPT. -/
def recording (s : State) : Bool :=
  match s.mc.lastCapt with
  | some u => decide (s.mc.now ≤ u + 97000)
  | none => false

/-! ### The threshold (R246) -/

/-- The PACK channel of the stream node's tap 504. -/
def piChannel (s : State) : Option Nat := if s.ct.attached then dirChannel s.ct.dir 4 (piNode s) 504 else none

/-- THRESH of MAX_DIS as a code through the inverse of R214 at 25 °C, from the PACK channel's entry. -/
def threshCode (s : State) (e : Entry) : Nat :=
  let v : Rat := ((s.mc.thresh.toNat * eN e 42 2 : Nat) : Rat) / 1000 * ((eN e 16 4 : Nat) : Rat) / 1000000000
  let g : Rat := 1 + ((eI e 28 2 : Int) : Rat) / 1000000
  let x := roundQ ((v / g + ((eI e 30 2 : Int) : Rat) / 10000000) * 5000000)
  (clampI 0 1048575 x).toNat

/-- Compute MC_THRESH_CODE and NO_PACK. -/
def threshCompute (s0 : State) : State :=
  let s := seeAll (piChannel s0).toList s0
  match (piChannel s0).bind (seeEntry s0) with
  | some e => { s with mc := { s.mc with noPack := false, threshCode := BitVec.ofNat 20 (threshCode s e) } }
  | none => { s with mc := { s.mc with noPack := true } }

/-! ### Pack-current samples (R210, R211, R241, R247, R248) -/

/-- The pack-current record of a cycle (R241). -/
def piRecord (k : Tick) (s : State) : State :=
  let n := 8 * k.len
  let at_ := fun i => s.lp.piCycle.find? fun e : Nat × BitVec 32 => e.1 = 8 * k.ms + i
  let lost := countIf (fun i => (at_ i).isNone) (List.range n)
  let len := (24 + 4 * n + 7) / 8 * 8
  let body := leBytes 4 k.cycle.toNat ++ leBytes 2 n ++ leBytes 2 lost ++
    (List.range n).flatMap (fun i => leBytes 4 (match at_ i with | some e => e.2.toNat | none => 0x00800000)) ++ zeroBytes (len - 24 - 4 * n)
  let s1 := { s with lp := { s.lp with piCycle := s.lp.piCycle.filter fun e => 8 * (k.ms + k.len) ≤ e.1 } }
  if flag s 0x3818 0 && piEn s then tsRecord s1 (piNode s / 32) k.ts (recHeader 2 0 len k.ts ++ body) else s1

/-- Write the pack-current records that are due and end at or before `ms`. -/
def piFlush (s : State) (ms : Nat) : State :=
  let due := s.lp.piDue.filter fun k => decide (k.ms + k.len ≤ ms)
  forEach due piRecord { s with lp := { s.lp with piDue := s.lp.piDue.filter fun k => decide (ms < k.ms + k.len) } }

/-- d of R247 for a sample of code `x` at `t`. -/
def stepSize (s : State) (t : Nat) (x : BitVec 20) : Nat :=
  s.mc.hist.foldl (fun m e =>
    if e.1 < t && t ≤ e.1 + 16 then
      let v := absI (x.toInt - (e.2.setWidth 20).toInt)
      if m < v then v else m
    else m) 0

/-- A PI sample arrives: count `k`, instant `t` in 125 µs units of the grid. -/
def piReceive (s : State) (t : Nat) (k : Byte) (x : BitVec 20) : State :=
  let word : BitVec 32 := BitVec.ofNat 32 ((x.signExtend 24).toNat + k.toNat * 2 ^ 24)
  let gap := match s.mc.piLast with | some l => (k - l - 1).toNat | none => 0
  let run := if gap = 0 && s.mc.piLast.isSome then s.mc.piRun + 1 else 1
  let bad := nodeMissing s (piNode s) || unsynced s (piNode s) || quarantined s (piNode s)
  let lost := if 8 ≤ gap || bad then true else if 16 ≤ run then false else s.mc.piLost
  let s1 := piFlush s (t / 8)
  { s1 with
    lp := { s1.lp with piCycle := if s1.lp.piDue.any (fun j => 8 * j.ms ≤ t && t < 8 * (j.ms + j.len)) then s1.lp.piCycle ++ [(t, word)] else s1.lp.piCycle }
    mc := { s1.mc with
      piLast := some k, piRun := run, piLost := lost, now := if s1.mc.now < 125 * t then 125 * t else s1.mc.now
      hist := ((t, word) :: s1.mc.hist).take 2048
      captures := s1.mc.captures.map fun c =>
        if 8 * (c.ref - 32) ≤ t && t < 8 * (c.ref + 96) then { c with pi := c.pi ++ [(t, word)] } else c } }

end Sys2Proof.Machine
end

