-- ==== Sys2Proof/Machine/LinkOps.lean ====
section
/-! DEFINITION. Enumeration, authentication, node commands and their commands of the host on the Sirdatan link
(04_sirdatan_link.md, R182–R202; log 50). -/

namespace Sys2Proof.Machine

/-! ### The link-port commands that wait (R35, R86) -/

/-- RESULT of LINK_ENUMERATE (Table 2-12). -/
def enumResult (s : State) (named : BitVec 16) : DWord :=
  let ps := (List.range 16).filter fun p => bitOf named p && ((port s p).mode = 1 || (port s p).mode = 2)
  let mask := fun (l : List Nat) => l.foldl (fun m p => m + 2 ^ p) 0
  pack 64 [(0, 16, mask (ps.filter fun p => (port s p).nodes ≠ 0)), (16, 16, mask (ps.filter fun p => (port s p).mode = 2)),
    (32, 10, (ps.map fun p => (port s p).nodes).foldl (· + ·) 0)]

/-- End the command in progress. -/
def linkFinish (s : State) (t : Ticket) (status : Nat) (r : DWord) : State :=
  complete { s with lp := { s.lp with wait := none } } t status r

/-- A named port has reached step 9 or failed: LINK_ENUMERATE completes with the last one. -/
def enumDone (s : State) (p : Nat) : State :=
  match s.lp.wait with
  | some (.enumerate t op named st) =>
    let o := op &&& ~~~ maskOf 16 p 1
    if o = 0 then linkFinish s t st (enumResult s named)
    else { s with lp := { s.lp with wait := some (.enumerate t o named st) } }
  | _ => s

/-- Of two statuses of one command the one reported: the failing one, and of two the lower (R91). -/
def worse (a b : Nat) : Nat := if a = stSuccess then b else if b = stSuccess then a else if a < b then a else b

/-- A node command that a LINK_ENUMERATE in progress depended on has ended with `status` (R182, R186). -/
def enumNote (s : State) (p status : Nat) : State :=
  match s.lp.wait with
  | some (.enumerate t op named st) => if bitOf op p then { s with lp := { s.lp with wait := some (.enumerate t op named (worse st status)) } } else s
  | _ => s

/-! ### Enumeration (Table 4-12) -/

/-- Commands of an enumeration or a recovery are still to be sent or answered. -/
def stageBusy (x : Port) : Bool :=
  let mine := fun (c : NodeCmd) => decide (c.why = 1) || decide (c.why = 9)
  x.queue.any mine || (match x.sentA with | some k => mine k.cmd | none => false) || (match x.sentB with | some k => mine k.cmd | none => false)

/-- A node that is addressed no more. Its accepted serial and passes stand (R201), and so do the last delivered record, the latched
accumulators and the runs of R203: the node counts on (R185). -/
def forgetNode (n : Node) : Node :=
  { n with present := false, chainB := false, hold := 0, delay := 0, challenge := none, nstat := 0, silent := 0, unrestored := false
           restoring := false, resp := [], pi := [], caps := [], cycIn := none, accIn := none, cycDone := [], accDone := [] }

/-- Forget every node of a port, and that it was missing or unsynchronised (R242). -/
def forgetNodes (p : Nat) (s : State) : State :=
  let s1 := forEach (positions s p) (fun k q => setNodeBit (setNodeBit q (32 * p + k) 0 false) (32 * p + k) 1 false) s
  { s1 with lp := { s1.lp with nodes := s1.lp.nodes.map fun e => if e.1 / 32 = p then (e.1, forgetNode e.2) else e } }

/-- Step 1: MODE 3; the port's captures not yet received are discarded (R187). -/
def enumStart (p : Nat) (s : State) : State :=
  let s1 := forgetNodes p (forEach (positions s p) (fun k q => capExclude (32 * p + k) q) s)
  let x := port s1 p
  portRates p (setPort s1 p { x with
    mode := 3, healed := false, countMismatch := false, hopLimit := false, excess := false, nodes := 0, na := 0, nb := 0
    missing := 0, unsync := 0, failRun := 0, enum := some { recovery := false, stage := 2, whole := true }
    queue := [], sentA := none, sentB := none, trainOut := false, captA := none, captB := none })

/-- Enumeration of a port fails: MODE 0, EV5 + port (R188). -/
def enumFail (s : State) (p : Nat) : State :=
  let x := port s p
  let s1 := portRates p (setPort s p { x with mode := 0, enum := none, queue := [], sentA := none, sentB := none })
  enumDone (ev5 s1 p 2) p

/-- Address `n` nodes of a whole ring, or of both chains. -/
def addressNodes (s : State) (p : Nat) (at_ : Nat → Option Bool) : State :=
  forUpTo 32 (fun k q =>
    match at_ k with
    | none => q
    | some b => setNode q (32 * p + k) { node q (32 * p + k) with present := true, chainB := b }) s

/-- Positions in the order in which they are measured: chain A ascending, chain B from pair B. -/
def measureOrder (s : State) (p : Nat) : List Nat := chainPositions s p false ++ chainPositions s p true

/-- The next stage of an enumeration or recovery once its commands are answered (Table 4-12 steps 5–8, R193). -/
def stageNext (s : State) (p : Nat) : State :=
  let x := port s p
  match x.enum with
  | none => s
  | some e =>
    let why := if e.recovery then 9 else 1
    let go := fun (q : State) (st : Nat) (cs : List NodeCmd) =>
      let y := port q p
      setPort q p { y with enum := some { e with stage := st }, queue := cs ++ y.queue }
    let order := measureOrder s p
    if stageBusy x then s
    else match e.stage with
    | 5 => go s 6 (order.map fun k => nodeCmd s (32 * p + k) 0x04 [] why)
    | 6 =>
      let r := order.foldl (fun (a : State × List NodeCmd) k =>
        let c := cmdTiming a.1 (32 * p + k) why
        (c.1, a.2 ++ [c.2])) (s, [])
      go r.1 7 r.2
    | 7 =>
      if e.recovery then (if x.mode = 2 then setPort s p { x with enum := none } else go s 9 [])
      else
        let one := fun k =>
          let a := 32 * p + k
          nodeCmd s a 0x06 [] why :: ((if x.imageSet then imageWrites s a x.image 0xFFFF why else []) ++ tapProfiles s a why)
        go (seeAll (order.flatMap fun k => tapChannels s (32 * p + k)) s) 8 (order.flatMap one)
    | 8 => go s 9 []
    | _ => s

/-- Run the stages that need no command. -/
def stageRun : Nat → Nat → State → State
  | 0, _, s => s
  | n + 1, p, s => stageRun n p (stageNext s p)

def stages (s : State) (p : Nat) : State := stageRun 5 p s

/-- Step 2: lock on pair B, or discovery from both ends (step 3: RESET_ADDR). -/
def enumLock (s : State) (p : Nat) (whole : Bool) : State :=
  let x := port s p
  match x.enum with
  | some e =>
    if e.stage ≠ 2 then s
    else if whole then
      setPort s p { x with enum := some { e with stage := 4, whole := true }
                           queue := [bcastCmd false 0x01 [] 1, cmdEnumerate false false 0 0 false 1] }
    else setPort s p { x with enum := some { e with stage := 4, whole := false }
                              queue := [bcastCmd false 0x01 [] 1, bcastCmd true 0x01 [] 1] }
  | none => s

/-- COUNT returns on pair B (step 4; R188). On a whole ring NA is N, and NB 0 (DESIGN CHOICE, log 121). -/
def enumCount (s : State) (p n : Nat) : State :=
  let x := port s p
  match x.enum with
  | none => s
  | some e =>
    if e.stage ≠ 4 || !e.whole then s
    else
      let expect := fld s (0x3100 + 0x40 * p) 0 6
      let k := if n < 32 then n else 32
      let y := { x with nodes := k, excess := decide (32 < n), countMismatch := decide (expect ≠ 0) && decide (expect ≠ k) }
      if y.countMismatch then enumFail (setPort s p y) p
      else
        let s1 := addressNodes (setPort s p { y with na := k, span := k, enum := some { e with stage := 5 } }) p fun i => if i < k then some false else none
        stages (enq s1 p ((List.range k).map fun i => nodeCmd s1 (32 * p + i) 0x03 [] 1)) p

/-- The counts of discovery from both ends: in an enumeration the nodes are addressed and identified, in a recovery chain B
is measured (R184, R193, R194). -/
def discovered (s : State) (p na nb : Nat) : State :=
  let x := port s p
  match x.enum with
  | none => s
  | some e =>
    if e.stage ≠ 4 || e.whole then s
    else if e.recovery then
      let n := x.nodes
      let a := if na < n then na else n
      let b := if nb < n - a then nb else n - a
      let s1 := setPort s p { x with na := a, nb := b, enum := some { e with stage := 5 } }
      let s2 := forUpTo 32 (fun k q => if n ≤ k + b && k < n then setNode q (32 * p + k) { node q (32 * p + k) with chainB := true } else q) s1
      let s3 := forUpTo 32 (fun k q => if a ≤ k && k + b < n then setNodeBit q (32 * p + k) 0 true else q) s2
      let y := port s3 p
      let echos := (chainPositions s3 p true).map fun k => nodeCmd s3 (32 * p + k) 0x04 [] 9
      let split := fun (c : NodeCmd) =>
        if c.bcast then [{ c with chainB := false }, { c with chainB := true }] else [{ c with chainB := (node s3 (32 * p + c.pos)).chainB }]
      stages (setPort s3 p { y with enum := some { e with stage := 6 }, queue := echos ++ y.queue.flatMap split }) p
    else
      let expect := fld s (0x3100 + 0x40 * p) 0 6
      let n := clampN 0 32 (if expect = 0 then na + nb else expect)
      let a := if na < n then na else n
      let b := if nb < n - a then nb else n - a
      let s1 := addressNodes (setPort s p { x with nodes := a + b, na := a, nb := b, span := n, excess := decide (32 < na + nb), enum := some { e with stage := 5 } }) p
        fun i => if i < a then some false else if n ≤ i + b && i < n then some true else none
      let ids := (measureOrder s1 p).map fun k => nodeCmd s1 (32 * p + k) 0x03 [] 1
      stages (enq s1 p (cmdEnumerate false false 0 0 false 1 :: cmdEnumerate false true 0 n true 1 :: ids)) p

/-- The node measured before `k` from the same end. -/
def nodeBefore (s : State) (p k : Nat) : Option Nat :=
  let l := chainPositions s p (node s (32 * p + k)).chainB
  (l.takeWhile (fun i => i ≠ k)).getLast?

/-- The device's part of a restore after the delay is known (R196, R227). -/
def restoreRest (s : State) (a : Nat) : State :=
  let r := cmdTiming (seeAll (tapChannels s a) s) a 2
  let x := port s (a / 32)
  enq r.1 (a / 32) (r.2 :: nodeCmd s a 0x06 [] 2 :: (imageWrites s a x.image 0xFFFF 2 ++ tapProfiles s a 2 ++ [nodeCmd s a 0x0D [] 2]))

/-- The turned-back train of an ECHO of a chain returns after `rt` bit times (R190). -/
def echoReturn (s : State) (p : Nat) (chainB : Bool) (rt : Nat) : State :=
  let x := port s p
  match sentOn x chainB with
  | some k =>
    if k.cmd.ncmd ≠ 4 then s
    else
      let a := 32 * p + k.cmd.pos
      let d := (roundDiv ((rt : Int) - 320) 2).toNat
      let s1 := setNode (setPort s p (setSent x chainB none)) a { node s a with delay := BitVec.ofNat 16 d }
      let before := match nodeBefore s1 p k.cmd.pos with | some i => (node s1 (32 * p + i)).delay.toNat | none => 0
      if k.cmd.why = 2 then restoreRest s1 a
      else if k.cmd.why = 1 && 125 < d - before then enumFail (setPort s1 p { port s1 p with hopLimit := true }) p
      else stages s1 p
  | none => s

/-! ### Authentication (R197–R201) -/

/-- ASCII "SDL-NODE". -/
def sdlNode : List Byte := [0x53, 0x44, 0x4C, 0x2D, 0x4E, 0x4F, 0x44, 0x45]

/-- The response that the device computes. -/
def authExpected (s : State) (a : Nat) (ch : BitVec 128) (serial : BitVec 64) : List Byte :=
  let key := cmac (keyBytes s.otp 320 4) (sdlNode ++ leBytes 8 serial.toNat)
  (cmac key (leBytes 16 ch.toNat ++ leBytes 8 serial.toNat ++ leBytes 2 a)).take 8

/-- Complete the NODE_AUTH that waits for node `a`. -/
def authDone (s : State) (a status : Nat) (r : DWord) : State :=
  match s.lp.wait with
  | some (.auth t b) => if a = b then linkFinish s t status r else s
  | _ => s

/-- A failed authentication: quarantine and EV21 (R199). `status` ends a waiting NODE_AUTH. -/
def authFail (s : State) (a reason status : Nat) (serial : BitVec 64) : State :=
  let n := node s a
  let occ := match n.challenge with | some (_, o) => o | none => 0
  let s1 := capExclude a (setNodeBit (setNode s a { n with auth := 2, challenge := none }) a 2 true)
  let s2 := raise s1 21 (pack 64 [(0, 9, a), (10, 2, reason), (12, 4, occ), (32, 32, serial.toNat)])
  if occ = 4 then authDone s2 a status 0 else s2

/-- A changed serial (R201). The log entry's 16 bytes hold the node and 56 bits of each serial (log 51). -/
def serialChanged (s : State) (a : Nat) (old new : BitVec 64) : State :=
  let cs := if s.ct.attached then dirChannels s.ct.dir a else []
  let s1 := raise s 22 (pack 64 [(0, 9, a), (16, 10, cs.length), (32, 32, new.toNat)])
  let s2 := forEach cs reinitChannel s1
  noteCount (noteLog s2 5 (pack 128 [(0, 16, a), (16, 56, old.toNat), (72, 56, new.toNat)])) 9

/-- A passed authentication (R201, Table 3-3). It ends a quarantine at an enumeration or by NODE_AUTH only (R199). -/
def authPass (s00 : State) (a : Nat) (serial : BitVec 64) : State :=
  let n := node s00 a
  let own := if n.serial.isNone && s00.ct.attached then dirChannel s00.ct.dir 5 a 508 else none
  let s := match own with | some c => seeAll [c] s00 | none => s00
  let occ := match n.challenge with | some (_, o) => o | none => 0
  let accepted := match n.serial with
    | some v => v
    | none =>
      match own.bind (seeEntry s00) with | some e => BitVec.ofNat 64 (eN e 16 8) | none => serial
  let ts := stamp s
  let held := quarantined s a && occ ≠ 1 && occ ≠ 4
  let s0 := setNode (takeFree s) a { n with auth := if held then 2 else 1, challenge := none, everPassed := true, passAt := s.upSeconds, passTs := some ts, renewed := false, serial := some serial }
  let s1 := if held then s0 else setNodeBit s0 a 2 false
  let s2 := if accepted = serial then s1 else serialChanged s1 a accepted serial
  if occ = 4 then authDone s2 a stSuccess (pack 64 [(0, 1, 1), (1, 1, b2n (decide (accepted ≠ serial)))]) else s2

/-- The answer to a challenge (R182, R198). One called a bad parameter is no failed authentication: NODE_AUTH ends with DEVICE_ERROR. -/
def authAnswer (s : State) (a status : Nat) (data : List Byte) : State :=
  let n := node s a
  let serial : BitVec 64 := BitVec.ofNat 64 (leField data 8 8)
  if !bitOf s.otp.keyOk 0 then authFail s a 3 stAuthFailed (if status = 0 then serial else 0)
  else if status = 1 then authFail s a 1 stAuthFailed 0
  else match n.challenge with
  | none => s
  | some (ch, occ) =>
    if status ≠ 0 then
      let s1 := setNode s a { n with challenge := none }
      if occ = 4 then authDone s1 a stDeviceError 0 else if occ = 1 then enumNote s1 (a / 32) stDeviceError else s1
    else if data.take 8 = authExpected s a ch serial then authPass s a serial
    else authFail s a 1 stAuthFailed serial

/-! ### Responses and failures of node commands (R182, R186) -/

/-- A PROFILE_WRITE of NODE_PROFILE_LOAD has been answered or has failed with `status`. -/
def profileDone (s : State) (status : Nat) : State :=
  match s.lp.wait with
  | some (.profiles t left st) =>
    let st1 := worse st status
    if left ≤ 1 then linkFinish s t st1 0 else { s with lp := { s.lp with wait := some (.profiles t (left - 1) st1) } }
  | _ => s

/-- The restore of a node has ended (R196, R242). -/
def restoreDone (s : State) (a : Nat) : State :=
  nodeRecord (setNode s a { node s a with unrestored := false, restoring := false, silent := 0 }) a true

/-- A restore is given up: the node stays unrestored, and its data missing (R196). -/
def restoreEnd (s : State) (a : Nat) : State :=
  let x := port s (a / 32)
  setNode (setPort s (a / 32) { x with queue := x.queue.filter fun k => !(k.why = 2 && k.pos = a % 32) }) a { node s a with restoring := false }

/-- A command other than AUTH_CHALLENGE is refused, or fails: what depended on it ends with `status` (R182, R186). -/
def cmdLost (s : State) (p : Nat) (c : NodeCmd) (status : Nat) : State :=
  if c.ncmd = 0x0B then rereadGiven s (32 * p + c.pos) ((c.param[0]?).getD 0)
  else match c.why with
  | 1 => enumNote s p status
  | 2 => restoreEnd s (32 * p + c.pos)
  | 5 => profileDone s status
  | _ => s

/-- A command is answered with a status (Table 4-10, Table 4-11). -/
def nodeAnswer (s : State) (p : Nat) (c : NodeCmd) (status : Nat) (data : List Byte) : State :=
  let a := 32 * p + c.pos
  let s1 :=
    if c.ncmd = 0x06 then authAnswer s a status data
    else if status ≠ 0 then cmdLost s p c stDeviceError
    else match c.ncmd with
    | 0x03 => setNode s a { node s a with ident := data }
    | 0x07 => if c.why = 5 then profileDone s stSuccess else s
    | 0x0C => setNode s a { node s a with statusData := data }
    | 0x0D => if c.why = 2 then restoreDone s a else s
    | _ => s
  stages s1 p

/-- A command fails after three sends without a response (R186). -/
def nodeNoAnswer (s : State) (p : Nat) (c : NodeCmd) : State :=
  let a := 32 * p + c.pos
  let s1 :=
    if c.ncmd = 0x06 then
      let s1 := authFail s a (if bitOf s.otp.keyOk 0 then 2 else 3) stTimeout 0
      if c.why = 1 then enumNote s1 p stTimeout else s1
    else cmdLost s p c stTimeout
  stages s1 p

/-- No response after 8 trains: the command goes out again with a new SEQ, or fails at the third (R186). -/
def retryOrFail (s : State) (p : Nat) (chainB : Bool) : State :=
  let x := port s p
  match sentOn x chainB with
  | none => s
  | some k =>
    if k.trains < 8 then s
    else
      let y := setSent x chainB none
      if k.cmd.sends < 3 then setPort s p { y with queue := k.cmd :: x.queue } else nodeNoAnswer (setPort s p y) p k.cmd

/-! ### Breaks (R192–R195) -/

/-- The 8th failed train in a row starts the recovery. -/
def breakStart (s : State) (p : Nat) : State :=
  let x := port s p
  let again := match x.sentA with | some k => [k.cmd] | none => []
  ev5 (portRates p (setPort s p { x with mode := 4, breakSeen := true, enum := some { recovery := true, stage := 4, whole := false }
                                         sentA := none, queue := again ++ x.queue })) p 3

/-- A train has not returned intact (R192). It breaks the runs of intact trains without a segment (R196). -/
def trainFailed (s : State) (p : Nat) : State :=
  let x := port s p
  if x.mode = 0 then s
  else
    let run := x.failRun + 1
    let s1 := setPort s p { x with
      trainsLost := satInc x.trainsLost, failRun := run, trainOut := false
      breakAt := if x.failRun = 0 then 8 * s.lp.ms + x.mf else x.breakAt, bounds := if x.failRun = 0 then 0 else x.bounds }
    let s2 := { s1 with lp := { s1.lp with nodes := s1.lp.nodes.map fun e => if e.1 / 32 = p then (e.1, { e.2 with silent := 0 }) else e } }
    if x.mode = 1 && 8 ≤ run then breakStart s2 p else s2

/-! ### Node segments (R173–R176, R196, R199) -/

/-- A piece of a record of `full` bytes arrives: what is collected then, how many records have proved incomplete, and the record once it
is whole. Pieces come in ascending order; a record under way is incomplete once a piece of it is missing or the next one begins. -/
def pieceIn (cur : Option (Byte × Option (List Byte))) (full : Nat) (num : Byte) (off : Nat) (bs : List Byte) :
    Option (Byte × Option (List Byte)) × Nat × Option (List Byte) :=
  let open_ := match cur with | some (_, some _) => 1 | _ => 0
  let got := if off = 0 then some bs
    else match cur with
      | some (n, some b) => if n = num && b.length = off then some (b ++ bs) else none
      | _ => none
  match got with
  | some r =>
    let before := if off = 0 then open_ else 0
    if r.length = full then (none, before, some r)
    else if r.length < full then (some (num, some r), before, none)
    else (some (num, none), before + 1, none)
  | none =>
    match cur with
    | some (n, b) => if n = num then (some (num, none), b2n b.isSome, none) else (some (num, none), open_ + 1, none)
    | none => (some (num, none), 1, none)

/-- A sub-block of a kept segment goes to its node (Table 4-6). -/
def subBlockIn (a : Nat) (b : Nat × List Byte) (s : State) : State :=
  let n := node s a
  let body := b.2
  let num := (body[0]?).getD 0
  match b.1 with
  | 1 =>
    if body.length = 4 && piEn s && piNode s = a then setNode s a { n with pi := n.pi ++ [(BitVec.ofNat 24 (leField body 0 3), (body[3]?).getD 0)] } else s
  | 2 => if body.length < 2 then s else setNode s a { n with resp := n.resp ++ [(num, (body[1]?).getD 0, body.drop 2)] }
  | 3 =>
    if body.length < 3 then s
    else
      let r := pieceIn n.cycIn 1444 num (leField body 1 2) (body.drop 3)
      let done := match r.2.2 with | some l => [BitVec.ofNat 11552 (leNat l)] | none => []
      let x := port s (a / 32)
      setPort (setNode s a { n with cycIn := r.1, cycDone := n.cycDone ++ done }) (a / 32) { x with recordsLost := satAdd x.recordsLost r.2.1 }
  | 4 => if body.length < 4 then s else setNode s a { n with caps := n.caps ++ [(num, leField body 1 3, body.drop 4)] }
  | 5 =>
    if body.length < 3 then s
    else
      let r := pieceIn n.accIn 3004 num (leField body 1 2) (body.drop 3)
      let done := match r.2.2 with | some l => [BitVec.ofNat 24032 (leNat l)] | none => []
      setNode s a { n with accIn := r.1, accDone := n.accDone ++ done }
  | _ => s

/-- A kept segment (Table 4-5): the node's state from NSTAT, then its sub-blocks. Of a quarantined node the responses only are taken,
so that it can answer a challenge (R199; log 112). -/
def segmentKept (s : State) (a chars : Nat) (body : List Byte) : State :=
  let n := node s a
  let x := port s (a / 32)
  let blocks := subBlocks body.length (body.drop 2)
  let s1 := setNode s a { n with silent := 0 }
  if quarantined s a then forEach (blocks.filter fun b => b.1 = 2) (subBlockIn a) s1
  else
    let nstat := (body[1]?).getD 0
    let s2 := setNode s1 a { node s1 a with nstat := nstat, unrestored := n.unrestored || (bitOf nstat 1 && decide (x.mode = 1 || x.mode = 2)) }
    let s3 := forEach blocks (subBlockIn a) (setNodeBit (setNodeBit s2 a 0 false) a 1 (bitOf nstat 0))
    if !blocks.any (fun b => b.1 = 4) && chars + 7 ≤ (if n.chainB then x.askB else x.askA) then askOldest s3 a else s3

/-- A segment on a returning train: kept, or counted and discarded where it holds a code error or its CRC fails (R175). Either way the
position has sent one, which ends its run of trains without (R196). -/
def segmentIn (s : State) (p : Nat) (rd : Bool) (syms : List (BitVec 10)) : State :=
  let x := port s p
  let chars := segmentChars rd syms
  let bad := fun (q : State) (k : Option Nat) => match k with
    | some i => if (node q (32 * p + i)).present then
        setNode q (32 * p + i) { node q (32 * p + i) with linkErrs := (node q (32 * p + i)).linkErrs + 1, silent := 0 } else q
    | none => q
  match segmentBytes rd syms with
  | none => bad (setPort s p { x with codeErrs := satInc x.codeErrs, errTimes := (s.upSeconds :: x.errTimes).take 101 }) (segmentPos rd syms)
  | some bytes =>
    let body := bytes.take (bytes.length - 2)
    if bytes.length < 4 || bytes.drop (bytes.length - 2) ≠ leBytes 2 (crc16 body) then
      bad (setPort s p { x with crcErrs := satInc x.crcErrs }) (segmentPos rd syms)
    else
      let a := 32 * p + ((body[0]?).getD 0).toNat % 32
      if (node s a).present then segmentKept s a chars.length body else s

/-- A train returned intact without the segment of a position (R196). -/
def segmentMissing (s : State) (a : Nat) : State :=
  let n := node s a
  if !n.present then s
  else
    let out := decide (3 ≤ n.silent + 1)
    let s1 := setNode s a { n with silent := n.silent + 1, unrestored := n.unrestored || out }
    if out then setNodeBit s1 a 0 true else s1

/-- Restore a node: ENUMERATE with FILL = 1, IDENT_READ and ECHO; the rest follows the measured delay (R184, R196, R227). For a node of
chain B the ENUMERATE has FROM_B set, COUNT 0 and the EXPECT that numbered its chain (DESIGN CHOICE, log 121). A node being restored is
excluded from captures not yet complete (R259). -/
def restoreStart (s : State) (a : Nat) (supplyLost : Bool) : State :=
  let p := a / 32
  let n := node s a
  let s1 := capExclude a (setNode s a { n with restoring := true, accLost := n.accLost || supplyLost, resets := n.resets + b2n (bitOf n.nstat 1) })
  enq s1 p [cmdEnumerate true n.chainB 0 (port s p).span n.chainB 2, nodeCmd s a 0x03 [] 2, nodeCmd s a 0x04 [] 2]

/-! ### The host's commands -/

/-- Some link group is on. -/
def anyGroupOn (s : State) : Bool := (List.range 4).any fun g => domOn s (6 + g)

/-- Start LINK_ENUMERATE on one port, or on every enabled port whose group is on (R187, R703). Of all ports the enabled ones are taken, and
where none is, NOT_PRESENT is the answer (DESIGN CHOICE, log 121). -/
def startEnumerate (s : State) (t : Ticket) (target : Nat) : State :=
  let ps := if target < 16 then [target].filter (portOn s) else (List.range 16).filter (portOn s)
  if target < 16 && !flag s 0x300C target then complete s t stNotPresent 0
  else if ps.isEmpty then complete s t (if target < 16 then stNotPowered else stNotPresent) 0
  else
    let mask : BitVec 16 := BitVec.ofNat 16 (ps.foldl (fun m p => m + 2 ^ p) 0)
    forEach ps enumStart { s with lp := { s.lp with wait := some (.enumerate t mask mask stSuccess) } }

/-- The port takes commands for its nodes: in ring or dual-chain mode, or recovering, when they wait for it. -/
def portTakes (s : State) (p : Nat) : Bool :=
  portOn s p && ((port s p).mode = 1 || (port s p).mode = 2 || (port s p).mode = 4)

/-- A challenge falls due 24 h after the node's last pass, once (R197). -/
def renewalDue (s : State) (n : Node) : Bool :=
  n.everPassed && !n.renewed && n.challenge.isNone && decide (n.passAt + 86400 ≤ s.upSeconds)

/-- A node can be reached by a command: addressed, not missing, on a port that takes commands. -/
def reachable (s : State) (a : Nat) : Bool :=
  (node s a).present && !nodeMissing s a && portTakes s (a / 32)

/-- Start NODE_AUTH (R197, R202). -/
def startAuth (s : State) (t : Ticket) (a : Nat) : State :=
  if !reachable s a then complete s t stNotPresent 0
  else enq { s with lp := { s.lp with wait := some (.auth t a) } } (a / 32) [nodeCmd s a 0x06 [] 4]

/-- Merge the masked profiles of a block into an image. -/
def mergeImage (img block : BitVec 4096) (mask : BitVec 16) : BitVec 4096 :=
  (List.range 16).foldl (fun m i => if bitOf mask i then putBits m (256 * i) 256 (bitsOf block (256 * i) 256) else m) img

/-- Start NODE_PROFILE_LOAD (R226, R703): one node, or every port image and every node that can be reached. -/
def startProfiles (s : State) (t : Ticket) (target : Nat) (mask : BitVec 16) (block : BitVec 4096) : State :=
  let all := 512 ≤ target
  if !all && !reachable s target then complete s t stNotPresent 0
  else
    let s1 := if all then
        forUpTo 16 (fun p q => setPort q p { port q p with image := mergeImage (port q p).image block mask, imageSet := true }) s
      else s
    let nodes := if all then (s1.lp.nodes.map Prod.fst).filter (reachable s1) else [target]
    let s2 := forEach nodes (fun a q => enq q (a / 32) (imageWrites q a block mask 5)) s1
    let left := nodes.length * countIf (bitOf mask) (List.range 16)
    if left = 0 then complete s2 t stSuccess 0
    else { s2 with lp := { s2.lp with wait := some (.profiles t left stSuccess) } }

/-- Start CAPTURE_ARM (R246, R255). -/
def startArm (s : State) (t : Ticket) (on : Bool) (thresh : Nat) : State :=
  if 1000 < thresh then complete s t stRange 0
  else if on && s.mc.noPack then complete s t stNotPresent 0
  else
    let s1 := { s with mc := { s.mc with armed := on, thresh := if thresh = 0 then s.mc.thresh else BitVec.ofNat 10 thresh } }
    complete (if on then threshCompute s1 else s1) t stSuccess 0

/-- Start CAPTURE_FORCE (R253, R256, R264). -/
def startForce (s : State) (t : Ticket) : State :=
  if !s.lp.running then complete s t stRefused 0
  else if (captBarred s).isSome then complete (capDecline s 0 3) t stDeclined 0
  else
    let s1 := captEmit s s.mc.now 0 true
    complete s1 t stSuccess (s1.mc.lastSeq.setWidth 64)

/-- Start a job. -/
def startJob (s : State) (j : LinkJob) : State :=
  match j with
  | .enumerate t n => startEnumerate s t n
  | .auth t a => startAuth s t a
  | .profiles t n m b => startProfiles s t n m b
  | .arm t on th => startArm s t on th
  | .force t => startForce s t

/-- Start the jobs that wait, in order, up to one that must wait for the link (R35). -/
def linkProgress : Nat → State → State
  | 0, s => s
  | n + 1, s =>
    match s.lp.wait, s.lp.jobs with
    | none, j :: t => linkProgress n (startJob { s with lp := { s.lp with jobs := t } } j)
    | _, _ => s

/-- Go on with the jobs after an event. -/
def linkGo (s : State) : State := linkProgress s.lp.jobs.length s

/-- A link-port command arrives behind those that wait. -/
def linkSubmit (s : State) (j : LinkJob) : State := linkGo { s with lp := { s.lp with jobs := s.lp.jobs ++ [j] } }

/-- A link group goes to off: its ports start over in MODE 0 (R207); a command that waits on one of them ends (log 50). -/
def linkGroupOff (g : Nat) (s : State) : State :=
  let s1 := forUpTo 4 (fun i q =>
    let p := 4 * g + i
    let x := port q p
    let q1 := forEach (positions q p) (fun k r => capExclude (32 * p + k) r) q
    let q2 := forgetNodes p q1
    enumDone (portRates p (setPort q2 p { Port.reset with image := x.image, imageSet := x.imageSet, quarantine := x.quarantine })) p) s
  let s2 := match s1.lp.wait with
    | some (.auth t a) => if a / 128 = g then linkFinish s1 t stAborted 0 else s1
    | some (.profiles t _ _) => linkFinish s1 t stAborted 0
    | _ => s1
  linkGo { s2 with regs := s2.regs.drop fun off => 0x3100 + 0x100 * g ≤ off && off < 0x3200 + 0x100 * g }

end Sys2Proof.Machine
end

