-- ==== Sys2Proof/Machine/OxBase.lean ====
section
/-! DEFINITION. Conversions of tap codes, the open-circuit-voltage table, and what a delivered cycle record means for the Ox
engine (05_cell_measurement.md R212–R220, 06_state_estimation.md R289–R295). -/

namespace Sys2Proof.Machine

/-! ### Conversions (R214–R217) -/

/-- The held T_FILT of the TEMP channel `c`, in °C, where TEMP_CH counts as valid (R215, R219). -/
def heldTemp (s : State) (c : Nat) : Option Rat :=
  if s.ct.excluded.contains c then none
  else match dirIdentity s.ct.dir c with
    | some (3, n, i) =>
      let t := Sparse.getD s.mc.tfilt (16 * n + i) (-32768)
      if t = -32768 then none else some ((t : Rat) / 100)
    | _ => none

/-- 1 + GAIN_TRIM × 10⁻⁶. -/
def gainOf (e : Entry) : Rat := 1 + ((eI e 28 2 : Int) : Rat) / 1000000

/-- Link or shunt resistance in ohms at the temperature in force; 25 °C without a valid TEMP_CH. -/
def linkOhms (s : State) (e : Entry) : Rat :=
  let t := match heldTemp s (eN e 22 4) with
    | some t => t + ((eI e 26 2 : Int) : Rat) / 100
    | none => 25
  ((eN e 16 4 : Nat) : Rat) / 1000000000 * (1 + ((eN e 20 2 : Nat) : Rat) / 1000000 * (t - 25))

/-- LSB of a CELL or PACK tap in volts. -/
def tapLsb (e : Entry) : Rat := if eKind e = 4 then 2 / 10000000 else 1 / 10000000

/-- The current of a CELL or PACK code in amperes (R214). -/
def convAmps (s : State) (e : Entry) (x : Rat) : Rat :=
  divQ ((x * tapLsb e - ((eI e 30 2 : Int) : Rat) / 10000000) * gainOf e) (linkOhms s e)

/-- The per-cell voltage of a GROUP code in volts (R216). -/
def convVolts (e : Entry) (x : Rat) : Rat := (x - ((eI e 30 2 : Int) : Rat)) / 100000 * gainOf e

/-- The temperature of a TEMPS code in °C (R217). -/
def convTemp (e : Entry) (k : Nat) : Option Rat :=
  if k = 0 || k = 65535 then none
  else
    let r : Rat := 10000 * ((k : Nat) : Rat) / (((65535 - k : Nat) : Nat) : Rat) * gainOf e
    let r25 : Rat := ((eN e 16 4 : Nat) : Rat) / 10
    some (divQ 1 (1 / (29815 / 100) + divQ (lnF (divQ r r25)) (natQ (eN e 20 2))) - 27315 / 100 + ((eI e 26 2 : Int) : Rat) / 100)

/-! ### The OCV table (R289), as a list of millivolts at 0, 5, … 100 % -/

/-- The host's table in force. -/
def ocvTable (s : State) : List Nat :=
  (List.range 10).flatMap (fun k => [fld s (0x2840 + 4 * k) 0 16, fld s (0x2840 + 4 * k) 16 16]) ++ [fld s 0x2868 0 16]

/-- The points never fall. -/
def rising : List Nat → Bool
  | a :: b :: t => decide (a ≤ b) && rising (b :: t)
  | _ => true

/-- The table counts as valid. -/
def ocvValid (t : List Nat) : Bool := rising t && decide (t.headD 0 ≠ 0) && decide (t.headD 0 < t.getLastD 0)

/-- SOC in 0.01 % and slope in mV per 1 % at a voltage in mV, from the segment that encloses it. -/
def ocvInverse (mv : Rat) : List Nat → Nat → Rat × Rat
  | a :: b :: t, j =>
    let slope : Rat := ((b : Rat) - (a : Rat)) / 5
    if mv ≤ (b : Rat) || t.isEmpty then
      let f : Rat := if a = b then 0 else (mv - (a : Rat)) / ((b : Rat) - (a : Rat))
      let g : Rat := if f < 0 then 0 else if 1 < f then 1 else f
      (((500 * j : Nat) : Rat) + 500 * g, slope)
    else ocvInverse mv (b :: t) (j + 1)
  | _, _ => (0, 0)

/-- The slope factor. -/
def slopeFactor (slope : Rat) : Rat := if 5 < slope then 1 else slope / 5

/-- The open-circuit voltage in mV at a SOC in 0.01 %. -/
def ocvAt (t : List Nat) (soc : Rat) : Rat :=
  let j := (soc / 500).floor.toNat
  let j := if j < 19 then j else 19
  let a : Rat := ((t.getD j 0 : Nat) : Rat)
  let b : Rat := ((t.getD (j + 1) 0 : Nat) : Rat)
  a + (b - a) * (soc - ((500 * j : Nat) : Rat)) / 500

/-- ENERGY of R302 in 0.1 Wh: CAP_EST in mAh, SOC_REP in 0.01 %, the mean current in A, RS_EFF in µΩ. -/
def energyOf (t : List Nat) (capEst socRep : Nat) (i : Rat) (rs : Nat) : Nat :=
  let drop : Rat := if i < 0 then i * (rs : Rat) / 1000 else 0
  let v := fun (soc : Rat) => let x := (ocvAt t soc + drop) / 1000; if x < 0 then (0 : Rat) else x
  let full := socRep / 500
  let whole := (List.range full).foldl (fun (a : Rat) j =>
    a + (v ((500 * j : Nat) : Rat) + v ((500 * (j + 1) : Nat) : Rat)) / 2 * (5 / 100)) 0
  let rest : Rat := (v ((500 * full : Nat) : Rat) + v (socRep : Rat)) / 2 * (((socRep - 500 * full : Nat) : Rat) / 10000)
  (roundQ ((capEst : Rat) / 1000 * (whole + rest) * 10)).toNat

/-! ### A cycle's currents (R290) -/

/-- The pack current of a cycle in amperes: the PI sample nearest its tick, the grid lying 50 µs behind the tick. The calibration is
the PACK channel's copy on chip (log 108). -/
def packAmps (s : State) (k : Tick) : Option Rat :=
  if s.mc.piLost || s.mc.noPack then none
  else match (piChannel s).bind (calOf s) with
    | none => none
    | some cal =>
      let dist := fun (e : Nat × BitVec 32) => absI ((125 * e.1 + 50 : Int) - 1000 * k.ms)
      let best := s.mc.hist.foldl (fun (b : Option (Nat × BitVec 32)) e => match b with
        | none => some e
        | some m => if dist e < dist m then some e else some m) none
      best.map fun e => convAmps s cal (((e.2.setWidth 20).toInt : Int) : Rat)

/-- CAPACITY of the PACK channel in mAh, the 1C rate in mA. -/
def packCapacity (s : State) : Option Nat := ((piChannel s).bind (calOf s)).map fun e => eN e 38 4

/-- The 1C rate in mA by which a group judges rest and anchors: the PACK channel's, and its own CAPACITY where there is no PACK channel
(DESIGN CHOICE, log 54). -/
def oneC (s : State) (w : GroupWork) : Nat := (packCapacity s).getD w.capacity

/-- Pack and group current of a cycle for one group; both are its mean of the last epoch while PI_LOST or NO_PACK is set. -/
def cycleAmps (s : State) (k : Tick) (w : GroupWork) : Rat × Rat :=
  match packAmps s k, packCapacity s with
  | some i, some cap => (i, divQ (i * natQ w.capacity) (natQ cap))
  | _, _ => (w.iMean, w.iMean)

/-- REST_MIN in whole minutes, saturating. -/
def restMin (w : GroupWork) : Nat := match w.restFrom with | some f => sat16 ((w.restNow - f) / 60000) | none => 0

/-- Rest anchors due so far in the present rest: at 20 min, then every 60 min (R290). -/
def restDue (w : GroupWork) : Nat := let m := restMin w; if m < 20 then 0 else 1 + (m - 20) / 60

/-- The rest of R290 after a delivered cycle: at or above 0.5 % of the 1C rate it ends. An anchor that falls due is asked for, and is taken
at the group's next pass though the rest may have ended by then. -/
def restStep (w : GroupWork) (ms : Nat) (i : Rat) (cap : Nat) : GroupWork :=
  let mag : Rat := if i < 0 then -i else i
  if mag * 200000 < (cap : Rat) then
    let w1 := { w with restFrom := some (w.restFrom.getD ms), restNow := ms }
    { w1 with restTaken := restDue w1, restAsked := w.restAsked || decide (w.restTaken < restDue w1) }
  else { w with restFrom := none, restNow := ms, restTaken := 0 }

/-- A GROUP channel's per-cell voltage code in a delivered cycle (R290, R291, R295). -/
def groupCycle (s : State) (k : Tick) (c : Nat) (x : Int) : State :=
  match Sparse.get? s.ox.work c, calOf s c with
  | some w, some e =>
    let v := convVolts e (x : Rat)
    let (ip, ig) := cycleAmps s k w
    let cap := oneC s w
    let mag : Rat := if ip < 0 then -ip else ip
    let w0 := restStep w k.ms ip cap
    let w1 := if mag * 20000 < (cap : Rat) then { w0 with cand := some (v, ig, s.ox.epoch.toNat) } else w0
    let dv : Rat := ig * (w.rsEff : Rat) / 1000
    let mv := v * 1000
    let persist := let n := fld s 0x2814 0 4; if n = 0 then 1 else n
    let eod := if ig < 0 && mv ≤ (w.eodMv : Rat) + dv then w.eodRun + 1 else 0
    let eoc := if 0 < ig && (w.eocMv : Rat) + dv ≤ mv then w.eocRun + 1 else 0
    { s with ox := { s.ox with work := Sparse.set s.ox.work c { w1 with
      lastCycle := some (v, ig), eodRun := eod, eocRun := eoc
      eodDecl := w.eodDecl || decide (persist ≤ eod), eocDecl := w.eocDecl || decide (persist ≤ eoc) } } }
  | _, _ => s

/-- The PACK channel's rest after a delivered cycle of its node (Table 6-6). -/
def packCycle (s : State) (k : Tick) (c : Nat) : State :=
  match Sparse.get? s.ox.work c with
  | some w => { s with ox := { s.ox with work := Sparse.set s.ox.work c (restStep w k.ms (cycleAmps s k w).1 (oneC s w)) } }
  | none => s

/-! ### Samples held for the next pass (R125, R218, R220, R228) -/

/-- A tap code of a delivered record, as signed 20 bits. -/
def recTap (r : BitVec 11552) (t : Nat) : Int := sbitsOf r (32 + 20 * t) 20

/-- A tap's flag in a delivered record. -/
def recFlag (r : BitVec 11552) (t : Nat) : Nat := bitsOf r (8 * 1284 + 2 * t) 2

/-- A TEMPS code. -/
def recTemp (r : BitVec 11552) (i : Nat) : Nat := bitsOf r (8 * 1412 + 16 * i) 16

/-- The codes of one channel of the node, of kind `kind` and tap `t`, held for its pass: they are converted there, with the entry's
calibration and the T_FILT copies then in force (R125, R219; log 108). -/
def holdSample (k : Tick) (r : BitVec 11552) (kind t c : Nat) (s : State) : State :=
  let put := fun (v : Int) (q : State) => pendMod q c fun h => { h with sample := some (v, k.ts) }
  match kind with
  | 1 => put (recTap r t) s
  | 2 => groupCycle (put (recTap r t) s) k c (recTap r t)
  | 3 =>
    let code := recTemp r t
    if code = 0 || code = 65535 then s
    else pendMod (put (code : Int) s) c fun h => { h with temps := h.temps ++ [code] }
  | 4 => packCycle (put (recTap r t) s) k c
  | 5 => pendMod (put (recTap r t) s) c fun h => { h with house := some (recTap r 508, (recTap r 509).toNat) }
  | _ => s

/-- Every channel of the node holds its codes. -/
def holdSamples (s : State) (k : Tick) (a : Nat) (r : BitVec 11552) : State :=
  match Sparse.get? s.ct.dir a with
  | none => s
  | some d =>
    if !s.ct.attached then s
    else forEach [1, 2, 3, 4, 5] (fun kind q =>
      forUpTo (dirKind d kind).2 (fun i q1 =>
        let c := (dirKind d kind).1 + i
        if s.ct.excluded.contains c then q1 else holdSample k r kind (kindTap kind + i) c q1) q) s

/-- The channel of a tap (R116). -/
def tapChannel (s : State) (a t : Nat) : Option Nat :=
  if t < 496 then dirChannel s.ct.dir 1 a t else if t < 504 then dirChannel s.ct.dir 2 a t else if t = 504 then dirChannel s.ct.dir 4 a t
  else if t = 508 then dirChannel s.ct.dir 5 a t else none

end Sys2Proof.Machine
end

