-- ==== Sys2Proof/Machine/MeasureOps.lean ====
section
/-! DEFINITION. The cycle tick, delivered cycle and accumulator records, and the checks fed to the fault collector
(04_sirdatan_link.md R203–R205, 05_cell_measurement.md R224–R243, Table 11-1). -/

namespace Sys2Proof.Machine

/-! ### Checks fed to the fault collector -/

/-- The OTP record behind a register, where one is programmed and not restrictive: the restrictive value of such a field is the
unprogrammed one, which is no value (R534, R535; log 94). -/
def otpRecord (s : State) (off : Nat) : Option Word :=
  if s.otp.allRestrictive || s.otp.restrictive.contains off then none else Sparse.get? s.otp.records off

/-- The effective VA_OV_MV and VA_UV_MV: the stricter of the register and the OTP value (R203). -/
def vaLimits (s : State) : Nat × Nat :=
  let ov := fld s 0x3014 0 16
  let uv := fld s 0x3014 16 16
  match otpRecord s 0x3014 with
  | none => (ov, uv)
  | some w => (if bitsOf w 0 16 < ov then bitsOf w 0 16 else ov, if uv < bitsOf w 16 16 then bitsOf w 16 16 else uv)

/-- Counts for which 0 acts as 1. -/
def atLeast1 (n : Nat) : Nat := if n = 0 then 1 else n

/-- A run of delivered records beyond a limit: one more where the record counts, as it was where it does not, and broken by a value
within the limit, whatever the record (R203). -/
def runStep (run : Nat) (beyond counts : Bool) : Nat := if !beyond then 0 else if counts then run + 1 else run

/-- Group inputs of a delivered record against the voltage limits; it counts where the node is authenticated and synchronised (R203). -/
def voltageCheck (s : State) (a : Nat) (counts : Bool) (r : BitVec 11552) : State :=
  let (ov, uv) := vaLimits s
  let lim := atLeast1 (fld s 0x3018 8 4)
  forUpTo 8 (fun i q =>
    if !flag q 0x3018 i then q
    else
      let n := node q a
      let x := recTap r (496 + i)
      let o := runStep (vget n.ovRun i 0) (decide ((100 * ov : Int) < x)) counts
      let u := runStep (vget n.uvRun i 0) (decide (x < (100 * uv : Int))) counts
      let q1 := setNode q a { n with ovRun := vput n.ovRun i o, uvRun := vput n.uvRun i u }
      let q2 := if counts && lim ≤ o then assertLine q1 18 (pack 32 [(0, 9, a), (9, 3, i)]) else q1
      if counts && lim ≤ u then assertLine q2 19 (pack 32 [(0, 9, a), (9, 3, i)]) else q2) s

/-- TEMPS codes against CELL_OT's limit (Table 11-1): a delivered record that does not count breaks the runs. -/
def heatCheck (s : State) (a : Nat) (counts : Bool) (r : BitVec 11552) : State :=
  let hot := fld s 0x7034 0 16
  let lim := atLeast1 (fld s 0x7034 16 4)
  if hot = 0 then s
  else forUpTo 16 (fun i q =>
    let n := node q a
    let run := if counts && recTemp r i ≤ hot then vget n.otRun i 0 + 1 else 0
    let q1 := setNode q a { n with otRun := vput n.otRun i run }
    if lim ≤ run then assertLine q1 23 (pack 32 [(0, 9, a), (9, 4, i)]) else q1) s

/-- Taps of a record that report OPEN. -/
def openTaps (r : BitVec 11552) : List Nat := (List.range 512).filter fun t => recFlag r t = 3

/-- The open-link cluster (R204). -/
def clusterCheck (s : State) (a : Nat) (r : BitVec 11552) : State :=
  let n := (openTaps r).length
  if atLeast1 (fld s 0x3018 16 8) ≤ n then assertLine s 20 (pack 32 [(0, 9, a), (9, 8, n)]) else s

/-- Nodes of enabled ports that are unsynchronised, missing or quarantined (R200, R205). -/
def badNodes (s : State) : Nat :=
  countIf (fun e : Nat × Node => e.2.present && flag s 0x300C (e.1 / 32) && (unsynced s e.1 || nodeMissing s e.1 || quarantined s e.1)) s.lp.nodes

/-- The end of a cycle: loss of synchronisation (R205). -/
def syncCheck (s : State) : State :=
  let n := badNodes s
  if fld s 0x3010 0 10 < n then
    let run := s.lp.syncRun + 1
    let s1 := { s with lp := { s.lp with syncRun := run } }
    if 3 ≤ run then holdLine s1 17 (pack 32 [(0, 10, n)]) else s1
  else endLine { s with lp := { s.lp with syncRun := 0 } } 17

/-- Every PI sample against PACK_LIM (Table 11-1). -/
def packOcCheck (s : State) (x : BitVec 20) : State :=
  let lim := fld s 0x7038 0 20
  if lim = 0 || s.mc.piLost then { s with mc := { s.mc with ocRun := 0 } }
  else if absI x.toInt < lim then { s with mc := { s.mc with ocRun := 0 } }
  else
    let run := s.mc.ocRun + 1
    let s1 := { s with mc := { s.mc with ocRun := run } }
    if 16 ≤ run then assertLine s1 24 (x.setWidth 32) else s1

/-! ### Flags (R228, R229) -/

/-- One more entry of a cycle's violations or open reports: count, lowest node, its lowest tap, flag. -/
def noteFlag (v : Option (Nat × Nat × Nat × Nat)) (a t f : Nat) : Option (Nat × Nat × Nat × Nat) :=
  match v with
  | none => some (1, a, t, f)
  | some (c, a0, t0, f0) => if a < a0 || (a = a0 && t < t0) then some (c + 1, a, t, f) else some (c + 1, a0, t0, f0)

/-- A tap's flag in a delivered record against the previous one. -/
def flagStep (a : Nat) (old : BitVec 1024) (r : BitVec 11552) (t : Nat) (s : State) : State :=
  let f0 := bitsOf old (2 * t) 2
  let f := recFlag r t
  if f = f0 then s
  else
    let hold := fun (q : State) (g : ChanPend → ChanPend) => match tapChannel q a t with
      | some c => pendMod q c g
      | none => q
    let s1 := if f0 = 3 then hold s fun h => { h with flagLeft3 := true } else s
    if f = 3 then
      hold { s1 with lp := { s1.lp with opens := noteFlag s1.lp.opens a t f } } fun h =>
        { h with violations := h.violations + 1, openReport := true, flagLeft3 := false }
    else if f0 = 0 then hold { s1 with lp := { s1.lp with viol := noteFlag s1.lp.viol a t f } } fun h => { h with violations := h.violations + 1 }
    else s1

/-- The events of a cycle (R229, Table 5-3). -/
def cycleEvents (s : State) : State :=
  let detail := fun (v : Nat × Nat × Nat × Nat) =>
    pack 64 [(0, 9, v.2.1), (9, 9, v.2.2.1), (18, 2, v.2.2.2), (32, 16, sat16 v.1), (48, 16, s.lp.cycle.toNat)]
  let s1 := match s.lp.viol with | some v => raise s 23 (detail v) | none => s
  let s2 := match s.lp.opens with | some v => raise s1 24 (detail v) | none => s1
  { s2 with lp := { s2.lp with viol := none, opens := none } }

/-! ### Cycle records (R236, R239, R240) -/

/-- Accumulated taps in order (R230). -/
def accTaps : List Nat := List.range 496 ++ [504, 505, 506, 507]

/-- Sample of a tap as last delivered. -/
def lastSample (n : Node) (t : Nat) : Int := sbitsOf n.samples (20 * t) 20

/-- Add a sample of every accumulated tap for `ms` − the sums' end (R236). -/
def substAdd (n : Node) (ms : Nat) (v : Nat → Int) : Node :=
  let old := if n.substitute.isEmpty then accTaps.map fun _ => (0 : Int) else n.substitute
  { n with substitute := (old.zip accTaps).map fun e => e.1 + v e.2 * ((ms - n.subMs : Nat) : Int), subMs := ms }

/-- Note the sums at a latch that lies at their end. -/
def substMark (ls : List Tick) (n : Node) : Node :=
  if ls.any (fun l => l.ms = n.subMs) then { n with marks := n.marks ++ [(n.subMs, n.substitute)] } else n

/-- The sums carried to `ms` with the samples last delivered: every cycle without a delivered record takes them (R236). -/
def substCarry (ls : List Tick) (n : Node) (ms : Nat) : Node :=
  let due := (ls.filter fun l => decide (n.subMs < l.ms) && decide (l.ms < ms)).reverse
  let n1 := due.foldl (fun m l => substMark ls (substAdd m l.ms (lastSample m))) n
  if n1.subMs < ms then substMark ls (substAdd n1 ms (lastSample n1)) else n1

/-- A delivered cycle's samples, weighted by the length of the interval that ends at its tick. -/
def substStep (ls : List Tick) (n : Node) (k : Tick) (r : Nat → Int) : Node :=
  if k.ms ≤ n.subMs then n
  else
    let n1 := substCarry ls n (k.ms - k.before)
    substMark ls (substAdd n1 k.ms r)

/-- The sums at the latch `ms`, and the node with its sums starting over from there. -/
def substTake (ls : List Tick) (n : Node) (ms : Nat) : List Int × Node :=
  let n1 := substCarry ls n ms
  let at_ := match n1.marks.find? (fun m => m.1 = ms) with | some m => m.2 | none => n1.substitute
  let less := fun (l : List Int) => (l.zip at_).map fun e => e.1 - e.2
  (at_, { n1 with substitute := less n1.substitute, marks := (n1.marks.filter fun m => decide (ms < m.1)).map fun m => (m.1, less m.2) })

/-- The telemetry record of a cycle record (R239). -/
def cycleTelemetry (s : State) (a : Nat) (k : Tick) (r : BitVec 11552) : State :=
  let body := leBytes 4 k.cycle.toNat ++ [0] ++ leBytes 1 (b2n (unsynced s a)) ++ [0, 0] ++ leBytes 1444 r.toNat ++ zeroBytes 4
  tsRecord s (a / 32) k.ts (recHeader 1 a 1472 k.ts ++ body)

/-- A node's data may be delivered: that of an enumerated node of a powered port, not of a quarantined one, nor of one that is not restored
(R196, R199, R240). -/
def delivers (s : State) (a : Nat) : Bool :=
  nodeGood s a && portOn s (a / 32) && !(node s a).restoring && !(node s a).unrestored

/-- A complete cycle record. One that matches no cycle tick kept is counted as incomplete. -/
def cycleRecord (s : State) (a : Nat) (r : BitVec 11552) : State :=
  if !delivers s a then s
  else match s.lp.ticks.find? (fun k => k.cycle.setWidth 8 = r.setWidth 8) with
  | none => setPort s (a / 32) { port s (a / 32) with recordsLost := satInc (port s (a / 32)).recordsLost }
  | some k =>
    let s1 := cycleTelemetry s a k r
    let old := (node s1 a).flags
    let s2 := forUpTo 512 (flagStep a old r) s1
    let n := node s2 a
    let n1 := substStep s.lp.latches n k (recTap r)
    let s3 := setNode s2 a { n1 with flags := r.extractLsb' (8 * 1284) 1024, samples := r.extractLsb' 32 10240 }
    let s4 := clusterCheck s3 a r
    let counts := n.auth = 1 && !unsynced s a && !bitOf r 8
    holdSamples (heatCheck (voltageCheck s4 a counts r) a counts r) k a r

/-! ### Accumulator records (R231–R237) -/

/-- Value `i` of an accumulator record. -/
def accValue (v : BitVec 24000) (i : Nat) : BitVec 48 := v.extractLsb' (48 * i) 48

/-- The tap of an accumulator: 0–495 its own, 496 the pack-current tap 504. -/
def accTap (i : Nat) : Nat := if i < 496 then i else i + 8

/-- Hold a delta for the channel of accumulator `i`, where it has one (R234). -/
def holdDelta (a : Nat) (d : Nat → Delta) (i : Nat) (s : State) : State :=
  match tapChannel s a (accTap i) with
  | none => s
  | some c =>
    if 496 ≤ i && i ≠ 496 then s
    else pendMod s c fun h => { h with deltas := h.deltas ++ [d i] }

/-- Channels of a node whose delta a substitution replaces (R236, log 94). -/
def substCount (s : State) (a : Nat) : Nat :=
  if s.ct.attached then countIf (fun i => (tapChannel s a (accTap i)).isSome) (List.range 497) else 0

/-- A complete accumulator record, matched to the latest LATCH of its cycle number (R232, R233, R236). -/
def accRecord (s : State) (a : Nat) (r : BitVec 24032) : State :=
  if !delivers s a then s
  else match s.lp.latches.find? (fun k => k.cycle.setWidth 8 = r.setWidth 8) with
  | none => s
  | some k =>
    let n := node s a
    let v : BitVec 24000 := r.extractLsb' 32 24000
    let r := substTake s.lp.latches n k.ms
    let s1 := setNode s a { r.2 with acc := some { ms := k.ms, values := v }, accSeen := true, accLost := false }
    match n.acc with
    | none => s1
    | some p =>
      if k.ms ≤ p.ms then s
      else
        let sum := fun i => if n.accLost then r.1.getD i 0 else (accValue v i - accValue p.values i).toInt
        let s2 := if n.accLost then { s1 with mc := { s1.mc with subst := satAdd s1.mc.subst (substCount s1 a) } } else s1
        if s2.ct.attached then forUpTo 497 (holdDelta a fun i => { sum := sum i, n := k.ms - p.ms, latch := k.ms, ts := k.ts }) s2 else s2

/-! ### The cycle tick (R161, R162, R205, R231, R241, R243) -/

/-- The link and measurement registers. -/
def linkReg (off : Nat) : Bool := decide (0x3000 ≤ off) && decide (off < 0x4000)

/-- The cycle boundary of the link-port registers (R16, R18, R206). -/
def linkBoundary (s : State) : State :=
  { s with regs := (s.regs.applyLate s.otp linkReg).applyCaptured s.otp linkReg, lp := { s.lp with commit := false } }

/-- SHUNT_STREAM to the old and the new node after PI_EN or PI_NODE has changed (Table 4-15): the old one stops, the new one does as
PI_EN says. -/
def shuntTell (s : State) : State :=
  let old := s.lp.piSent
  let new := rd s 0x301C &&& 0x81FF
  if old = new then s
  else
    let tell := fun (q : State) (a : Nat) (on : Bool) =>
      if (node q a).present then enq q (a / 32) [nodeCmd q a 0x09 [BitVec.ofNat 8 (b2n on)] 8] else q
    let s1 := if bitsOf old 0 9 ≠ bitsOf new 0 9 then tell s (bitsOf old 0 9) false else s
    let s2 := tell s1 (bitsOf new 0 9) (bitOf new 15)
    piJudge { s2 with lp := { s2.lp with piSent := new } } (bitsOf new 0 9)

/-- Node-cycles whose record was not sent under RDIV (R243). -/
def notSent (s : State) : Nat :=
  countIf (fun e : Nat × Node => e.2.present && portRuns s (e.1 / 32) &&
    decide (s.lp.cycle.toNat % 2 ^ (port s (e.1 / 32)).rdiv ≠ 0)) s.lp.nodes

/-- What the end of a running cycle does. -/
def cycleEnd (s : State) : State :=
  let s1 := cycleEvents (syncCheck s)
  { s1 with mc := { s1.mc with notSent := satAdd s1.mc.notSent (notSent s) } }

/-- Nodes from which no complete record has come for the latest LATCH (R235). -/
def accMissed (s : State) : Nat := countIf (fun e : Nat × Node => e.2.present && portCycles s (e.1 / 32) && !e.2.accSeen) s.lp.nodes

/-- LATCH = 1 in the first train of this cycle on every running port, a recovering one included (R231). -/
def latchNow (s : State) (k : Tick) : State :=
  let s1 := { s with
    mc := { s.mc with missed := satAdd s.mc.missed (accMissed s) }
    lp := { s.lp with latchDue := false, latches := (k :: s.lp.latches).take 64
                      nodes := s.lp.nodes.map fun e => (e.1, { e.2 with accSeen := !(e.2.present && portCycles s (e.1 / 32)) }) } }
  forEach (cyclePorts s) (fun p q => setPort q p { port q p with latch := true }) s1

/-- A new cycle's first microframe on a port, and one more boundary since its trains began to fail (R193). -/
def portCycle (p : Nat) (s : State) : State :=
  let x := port s p
  portRates p (setPort s p { x with mf := 0, mfA := false, mfB := false, bounds := x.bounds + 1 })

/-- SYNC goes out: cycle `n` starts at grid time `ms`, `before` ms after the one before. -/
def cycleStart (s : State) (n : Word) (ms before : Nat) : State :=
  let k : Tick := { cycle := n, ms := ms, len := cycleMs s, before := before, ts := stamp s }
  let s1 := takeFree { s with lp := { s.lp with cycle := n, ms := ms, ticks := (k :: s.lp.ticks).take 64 }
                              mc := { s.mc with now := if s.mc.now < 1000 * ms then 1000 * ms else s.mc.now } }
  let s2 := piFlush s1 (match s.lp.ticks with | t :: _ => t.ms | [] => 0)
  let s3 := { s2 with lp := { s2.lp with piDue := s2.lp.piDue ++ [k] } }
  let s4 := forUpTo 16 portCycle s3
  let s5 := shuntTell s4
  let s6 := if s5.lp.latchDue then latchNow s5 k else s5
  capProgress s6.mc.captures.length s6

/-- RUNNING becomes 1: the cycle count starts over (R239) at the next whole ms of the grid, which has gone on (log 53). The latches sent,
the latched accumulators and the sums of R236 stand, since the nodes have counted on (R185, R232). -/
def linkStart (s : State) : State :=
  let ms := s.mc.now / 1000 + 1
  let s1 := { s with
    lp := { s.lp with running := true, syncRun := 0, ticks := [], piDue := [], piCycle := [] }
    mc := { s.mc with hist := [], piLast := none, piRun := 0, above := false, ocRun := 0 }
    ox := { s.ox with work := s.ox.work.map fun e => (e.1, { e.2 with restFrom := none, restTaken := 0 }) } }
  cycleStart s1 0 ms 0

/-- RUNNING becomes 0 at a cycle boundary. -/
def linkStop (s : State) : State :=
  endLine (piFlush { s with lp := { s.lp with running := false, syncRun := 0 } } (s.lp.ms + 100)) 17

/-- A cycle tick. -/
def cycleTick (s : State) : State :=
  if !rootAlive s then s
  else if !s.lp.running then (if flag s 0x3000 0 then linkStart (linkBoundary s) else s)
  else
    let len := match s.lp.ticks with | k :: _ => k.len | [] => cycleMs s
    let s1 := linkBoundary (cycleEnd s)
    if flag s1 0x3000 0 then cycleStart s1 (s.lp.cycle + 1) (s.lp.ms + len) len else linkStop s1

end Sys2Proof.Machine
end

