-- ==== Sys2Proof/Machine/Links.lean ====
section
/-! DEFINITION. Meanings of the link-port and measurement commands, their registers' rows, and the events of trains, nodes,
records and captures (04_sirdatan_link.md, 05_cell_measurement.md). -/

namespace Sys2Proof.Machine

/-- A register row reaches the device by PCIe or from the MP; no such register lies in the sideband's write window. -/
def rowReach (s : State) (via : Via) : Bool := via ≠ .sideband && viaReach s via

/-! ### Commands -/

def specLinkEnumerate : OpSpec :=
  { opcode := 0x20, target := 0xFFFFFFFF, align := 0, ops := 0, mpOk := true, dom := none, fsRefused := false }
def specNodeAuth : OpSpec :=
  { opcode := 0x21, target := 0x1FF, align := 0, ops := 0, mpOk := true, dom := none, fsRefused := false }
def specNodeProfileLoad : OpSpec :=
  { opcode := 0x22, target := 0x1FF, all := true, align := 4, ops := maskOf 384 0 16, mpOk := false, dom := none, fsRefused := false }
def specCaptureArm : OpSpec :=
  { opcode := 0x28, target := 0, align := 0, ops := pack 384 [(0, 1, 1), (16, 16, 0xFFFF)], mpOk := false, dom := none, fsRefused := false }
def specCaptureForce : OpSpec :=
  { opcode := 0x29, target := 0, align := 0, ops := 0, mpOk := false, dom := none, fsRefused := false }

/-- `LINK_ENUMERATE` (R187, R703). -/
def execLinkEnumerate (rq : Requester) (d : Desc) (s : State) : Host.Outcome State Fault Refusal :=
  .next (command specLinkEnumerate rq d (fun s t =>
    let n := d.target.toNat
    if d.target = 0xFFFFFFFF then (if anyGroupOn s then linkSubmit s (.enumerate t n) else complete s t stNotPowered 0)
    else if 15 < n then complete s t stRange 0
    else if !domOn s (groupDom n) then complete s t stNotPowered 0
    else linkSubmit s (.enumerate t n)) s)

/-- `NODE_AUTH` (R197, R202). -/
def execNodeAuth (rq : Requester) (d : Desc) (s : State) : Host.Outcome State Fault Refusal :=
  .next (command specNodeAuth rq d (fun s t =>
    let a := d.target.toNat
    if !domOn s (groupDom (a / 32)) then complete s t stNotPowered 0 else linkSubmit s (.auth t a)) s)

/-- `NODE_PROFILE_LOAD` (R189, R226, R703). -/
def execNodeProfileLoad (rq : Requester) (d : Desc) (hostFault : Bool) (s : State) : Host.Outcome State Fault Refusal :=
  .next (command specNodeProfileLoad rq d (fun s t =>
    let a := d.target.toNat
    let all := decide (d.target = 0xFFFFFFFF)
    if (if all then !anyGroupOn s else !domOn s (groupDom (a / 32))) then complete s t stNotPowered 0
    else if hostFault then complete s t (if all || reachable s a then stHostAccess else stNotPresent) 0
    else linkSubmit s (.profiles t a (BitVec.ofNat 16 (opn d 16 0 16)) (BitVec.ofNat 4096 (leNat (cmdRead s rq d.addr.toNat 512))))) s)

/-- `CAPTURE_ARM` (R246, R255). -/
def execCaptureArm (rq : Requester) (d : Desc) (s : State) : Host.Outcome State Fault Refusal :=
  .next (command specCaptureArm rq d (fun s t =>
    if !anyGroupOn s then complete s t stNotPowered 0
    else linkSubmit s (.arm t (bitOf d.ops 0) (opn d 18 0 16))) s)

/-- `CAPTURE_FORCE` (R256). -/
def execCaptureForce (rq : Requester) (d : Desc) (s : State) : Host.Outcome State Fault Refusal :=
  .next (command specCaptureForce rq d (fun s t =>
    if !anyGroupOn s then complete s t stNotPowered 0 else linkSubmit s (.force t)) s)

/-! ### Registers (Table 4-15) -/

/-- A LIVE write of a link-port register: at the next cycle tick while cycles run, at once otherwise (R206). -/
def linkLive (s : State) (off : Nat) (w : Word) : State :=
  if s.lp.running then { s with regs := { s.regs with late := s.regs.late ++ [(off, w)] } }
  else
    let s1 := wr s off w (match regDef off with | some d => d.live | none => 0)
    if off = 0x301C then piJudge s1 (piNode s1) else s1

/-- A write of LP_CTRL: COMMIT captures the shadow (R18, R19), RUN is LIVE. While RUNNING reads 0 both take effect at once (R206). -/
def lpCtrlWrite (s : State) (w : Word) : State :=
  let s1 := if bitOf w 1 && !s.lp.commit then { s with regs := s.regs.capture linkReg, lp := { s.lp with commit := true } } else s
  linkLive (if s.lp.running then s1 else linkBoundary s1) 0x3000 w

/-- `LP_COMMIT` (R165). -/
def execLpCommit (via : Via) (w : Word) (s : State) : Host.Outcome State Fault Refusal :=
  .next (if rowReach s via then lpCtrlWrite s w else s)

/-- `LP_RUN` (R206). -/
def execLpRun (via : Via) (w : Word) (s : State) : Host.Outcome State Fault Refusal :=
  .next (if rowReach s via then lpCtrlWrite s w else s)

/-- `LP_PI_CFG_WRITE` (Table 4-15). -/
def execLpPiCfgWrite (via : Via) (w : Word) (s : State) : Host.Outcome State Fault Refusal :=
  .next (if rowReach s via then linkLive s 0x301C w else s)

/-! ### Ticks, trains and segments -/

/-- `CYCLE_TICK` (R162, R205, R231). -/
def execCycleTick (s : State) : Host.Outcome State Fault Refusal := .next (linkGo (cycleTick s))

/-- `MICROFRAME_TRAIN` (R166, R170, R172): a train goes out on a running, enumerating or recovering port, one a microframe on each
chain. While the port waits for lock it sends IDLE. A train of chain B needs a port with two chains. -/
def execMicroframeTrain (p : Fin 16) (chainB : Bool) (s : State) : Host.Outcome State Fault Refusal :=
  let x := port s p.val
  let waits := match x.enum with | some e => decide (e.stage = 2) | none => false
  .next (if rootAlive s && portOn s p.val && (portRuns s p.val || x.mode = 3 || x.mode = 4) && !waits && (!chainB || twoChains x) then
    sendTrain s p.val chainB else s)

/-- `SEGMENT_RECEIVED` (R158, R173, R175, R187, R190, R193, R196). -/
def execSegmentReceived (p : Fin 16) (r : LinkReturn) (s : State) : Host.Outcome State Fault Refusal :=
  let n := p.val
  let x := port s n
  .next (if !rootAlive s || !portOn s n || x.mode = 0 then s
    else linkGo (match r with
      | .lock whole => enumLock s n whole
      | .count k => enumCount s n k
      | .discovery na nb => discovered s n na nb
      | .echo chainB rt => echoReturn s n chainB rt
      | .segment rd syms => segmentIn s n rd syms
      | .silent pos => segmentMissing s (32 * n + pos.val)
      | .badHeader => setPort s n { x with crcErrs := satInc x.crcErrs }))

/-- This cycle's first train carries LATCH on every port that runs at its boundary (R231): on one that joins then too. -/
def latchJoin (p : Nat) (s : State) : State :=
  if s.lp.running && s.lp.latches.head?.any (fun k => k.ms = s.lp.ms) then
    setPort { s with lp := { s.lp with nodes := s.lp.nodes.map fun e => if e.1 / 32 = p then (e.1, { e.2 with accSeen := !e.2.present }) else e } }
      p { port s p with latch := true }
  else s

/-- `ENUMERATION_COMPLETE` (Table 4-12 step 9): at a cycle boundary, before the cycle's first train, or at once while no cycles run. -/
def execEnumerationComplete (p : Fin 16) (s : State) : Host.Outcome State Fault Refusal :=
  let n := p.val
  let x := port s n
  .next (match x.enum with
    | some e =>
      if rootAlive s && portOn s n && e.stage = 9 && !e.recovery && x.mode = 3 && (!s.lp.running || (x.mf = 0 && !x.mfA && !x.mfB)) then
        let s1 := setPort s n { x with mode := if e.whole then 1 else 2, enum := none, failRun := 0 }
        linkGo (enumDone (ev5 (latchJoin n (portRates n s1)) n 1) n)
      else s
    | none => s)

/-- `TRAIN_FAILED` (R192). -/
def execTrainFailed (p : Fin 16) (s : State) : Host.Outcome State Fault Refusal :=
  .next (if rootAlive s && portOn s p.val then trainFailed s p.val else s)

/-- Dual-chain operation begins at this cycle boundary: the first at least 9.25 ms after the first failed train, once every node has
its role, and in every case the third (R193). Before the cycle's first train the boundary is now. -/
def dualDue (s : State) (x : Port) (e : EnumState) : Bool :=
  s.lp.running && decide (x.mf = 0) && !x.mfA && !x.mfB &&
    (decide (x.breakAt + 74 ≤ 8 * s.lp.ms) && decide (e.stage = 9) || decide (3 ≤ x.bounds))

/-- `DUAL_CHAIN_START` (R193, R194). A recovery not finished by then goes on in dual-chain mode. -/
def execDualChainStart (p : Fin 16) (s : State) : Host.Outcome State Fault Refusal :=
  let n := p.val
  let x := port s n
  .next (match x.enum with
    | some e =>
      if rootAlive s && portOn s n && e.recovery && x.mode = 4 && dualDue s x e then
        ev5 (portRates n (setPort s n { x with mode := 2, enum := if e.stage = 9 then none else some e, failRun := 0 })) n 4
      else s
    | none => s)

/-- `FAR_LOCK_HEALED` (R195). -/
def execFarLockHealed (p : Fin 16) (s : State) : Host.Outcome State Fault Refusal :=
  let x := port s p.val
  .next (if x.mode = 2 && rootAlive s && portOn s p.val && !x.healed then ev5 (setPort s p.val { x with healed := true }) p.val 5 else s)

/-- `CLK_LRX_LOSS` (R50). -/
def execClkLrxLoss (p : Fin 16) (s : State) : Host.Outcome State Fault Refusal :=
  .next (if rootAlive s && portOn s p.val && (port s p.val).mode ≠ 0 then ev5 s p.val 6 else s)

/-! ### Node commands -/

/-- `NODE_RESPONSE` (R182, R186): the node's oldest RESP sub-block not yet acted on; it counts where a command of its SEQ awaits it. An
ECHO is done by its returning train. The table reads that follow from it (SERIAL, reinitialised entries, tap profiles) may end in an error
(`fault`, log 108). -/
def execNodeResponse (p : Fin 16) (pos : Fin 32) (fault : Bool) (s : State) : Host.Outcome State Fault Refusal :=
  let a := 32 * p.val + pos.val
  let n := node s a
  .next (if !rootAlive s then s else match n.resp with
    | [] => s
    | (seq, status, data) :: t =>
      let s1 := setNode s a { n with resp := t }
      let x := port s1 p.val
      match sentOn x n.chainB with
      | some k =>
        if portOn s p.val && k.seq = seq && k.cmd.pos = pos.val && (k.cmd.ncmd ≠ 4 || status ≠ 0) then
          withReads fault (fun q => linkGo (nodeAnswer q p.val k.cmd status.toNat data)) (setPort s1 p.val (setSent x n.chainB none))
        else s1
      | none => s1)

/-- `COMMAND_RETRY_TIMEOUT` (R186): once 8 trains of the chain have gone out since the command's. -/
def execCommandRetryTimeout (p : Fin 16) (chainB : Bool) (s : State) : Host.Outcome State Fault Refusal :=
  .next (if rootAlive s && portOn s p.val then linkGo (retryOrFail s p.val chainB) else s)

/-- `NODE_RESTORE` (R196): the node reports RESET_SEEN, or sent no segment for 3 trains. -/
def execNodeRestore (a : Fin 512) (supplyLost : Bool) (s : State) : Host.Outcome State Fault Refusal :=
  let n := node s a.val
  let x := port s (a.val / 32)
  .next (if rootAlive s && n.present && !n.restoring && portOn s (a.val / 32) && (x.mode = 1 || x.mode = 2) && n.unrestored then
    restoreStart s a.val supplyLost else s)

/-- `AUTH_RENEWAL` (R197): 24 h after the node's last pass, a quarantined node's too. -/
def execAuthRenewal (a : Fin 512) (s : State) : Host.Outcome State Fault Refusal :=
  let n := node s a.val
  .next (if rootAlive s && reachable s a.val && renewalDue s n then
    enq (setNode s a.val { n with renewed := true }) (a.val / 32) [nodeCmd s a.val 0x06 [] 3] else s)

/-! ### Records and samples -/

/-- `CYCLE_RECORD_COMPLETE` (R203, R204, R228, R239, R240): the node's oldest complete record not yet acted on. -/
def execCycleRecordComplete (a : Fin 512) (s : State) : Host.Outcome State Fault Refusal :=
  let n := node s a.val
  .next (if !rootAlive s then s else match n.cycDone with
    | [] => s
    | r :: t => cycleRecord (setNode s a.val { n with cycDone := t }) a.val r)

/-- `ACC_RECORD_COMPLETE` (R232–R237). -/
def execAccRecordComplete (a : Fin 512) (s : State) : Host.Outcome State Fault Refusal :=
  let n := node s a.val
  .next (if !rootAlive s then s else match n.accDone with
    | [] => s
    | r :: t => accRecord (setNode s a.val { n with accDone := t }) a.val r)

/-- `PI_SAMPLE` (R211, R241, R247–R254): the PI node's oldest PI sub-block not yet acted on, with the sample's instant in 125 µs units of
the grid, and the delay in µs to a CAPT that it causes (at most 250, R249). One step is one detection: the sample at which d comes to reach
the threshold (log 120). -/
def execPiSample (t : Nat) (delay : Nat) (s : State) : Host.Outcome State Fault Refusal :=
  let a := piNode s
  let n := node s a
  .next (if !rootAlive s then s else match n.pi with
    | [] => s
    | (code, k) :: rest =>
      let s0 := setNode s a { n with pi := rest }
      if !(piEn s && delivers s a) then s0
      else
        let x : BitVec 20 := code.setWidth 20
        let d := stepSize s0 t x
        let s1 := packOcCheck (piReceive s0 t k x) x
        let seen := s.mc.hist.any fun e => decide (e.1 < t) && decide (t ≤ e.1 + 16)
        let above := seen && decide (s1.mc.threshCode.toNat ≤ d)
        let s1 := { s1 with mc := { s1.mc with above := above } }
        let s2 := if above && !s.mc.above && s1.mc.armed && !s1.mc.noPack && !s1.mc.piLost then
            detection s1 t d (if delay ≤ 250 then delay else 250)
          else s1
        capProgress s2.mc.captures.length s2)

/-- `CAPTURE_PIECE` (R257, R261): the node's oldest CAP sub-block not yet acted on. -/
def execCapturePiece (a : Fin 512) (s : State) : Host.Outcome State Fault Refusal :=
  let n := node s a.val
  .next (if !rootAlive s then s else match n.caps with
    | [] => s
    | (num, off, bytes) :: t =>
      let s1 := setNode s a.val { n with caps := t }
      if delivers s a.val then capPiece s1 a.val num off bytes else s1)

/-- `CAPTURE_TIMEOUT` (R258): the oldest capture completes as it stands once TIMEOUT_MS has passed. -/
def execCaptureTimeout (s : State) : Host.Outcome State Fault Refusal :=
  .next (if !rootAlive s then s else match s.mc.captures with
    | [] => s
    | c :: _ =>
      if capTimedOut s c then
        let s1 := capEnd s c
        capProgress s1.mc.captures.length s1
      else s)

/-- `TS_BUFFER_FLUSH` (R74): FLUSH_MS after the buffer's first record. -/
def execTsBufferFlush (m : Fin 17) (s : State) : Host.Outcome State Fault Refusal :=
  .next (if s.qe.running && canMaster s && domOn s 4 && rootAlive s then tsClose true m.val s else s)

end Sys2Proof.Machine
end

