-- ==== Sys2Proof/Machine/OxPass.lean ====
section
/-! DEFINITION. The pass of a batch of channels and the impedance fit (06_state_estimation.md; logs 54, 55). -/

namespace Sys2Proof.Machine

/-- A batch at its pass: channel and entry, in rising order. -/
abbrev Batch := List (Nat × Entry)

/-- What is held for a channel. -/
def held (s : State) (c : Nat) : ChanPend := Sparse.getD s.ox.pend c ChanPend.empty

/-- The channel's node is quarantined (R306). -/
def chanQuarantined (s : State) (e : Entry) : Bool := quarantined s (eNode e)

/-- A signed value limited to `len` bytes. -/
def satI (len : Nat) (v : Int) : Int := clampI (-(2 ^ (8 * len - 1) : Int)) ((2 ^ (8 * len - 1) : Int) - 1) v

/-! ### Orders 1 to 3: charge, temperature, history (R218, R220, R228, R234) -/

/-- A delta's mean current in amperes, and its charge in µA·s. -/
def deltaAmps (s : State) (e : Entry) (d : Delta) : Rat := convAmps s e (divQ (d.sum : Rat) (natQ d.n))
def deltaCharge (s : State) (e : Entry) (d : Delta) : Rat := deltaAmps s e d * natQ d.n * 1000

/-- Charge of every delta held, in µA·s. -/
def heldCharge (s : State) (e : Entry) (h : ChanPend) : Rat := h.deltas.foldl (fun a d => a + deltaCharge s e d) 0

/-- A sample's code in the units of MIN and MAX (R109, R220); none for a temperature that R217 does not give. -/
def sampleValue (s : State) (e : Entry) (x : Int) : Option Int :=
  match eKind e with
  | 1 => some (roundQ (convAmps s e (x : Rat) * 1000))
  | 2 => some (roundQ (convVolts e (x : Rat) * 1000000))
  | 3 => (convTemp e x.toNat).map fun t => roundQ (t * 100)
  | 4 => some (roundQ (convAmps s e (x : Rat) * 1000))
  | _ => some x

/-- The mean of the valid temperatures of an epoch (R218). -/
def tempMean (e : Entry) (codes : List Nat) : Option Rat :=
  let ts := codes.filterMap (convTemp e)
  if ts.isEmpty then none else some (ts.foldl (· + ·) 0 / natQ ts.length)

/-- A value against MIN and MAX. -/
def histPut (e : Entry) (v : Int) (ts : Stamp) : Entry :=
  let e1 := if v < eI e 160 4 then ePut (ePutI e 160 4 (satI 4 v)) 168 6 ts.toNat else e
  if eI e1 164 4 < v then ePut (ePutI e1 164 4 (satI 4 v)) 174 6 ts.toNat else e1

/-- Orders 1 to 3 for one entry. -/
def passBasics (s : State) (h : ChanPend) (e0 : Entry) : Entry :=
  let e := if h.reinit then initEntry e0 (parentCapacity s e0) else e0
  let k := eKind e
  let e1 := if k = 1 then ePutI e 64 8 (eI e 64 8 + roundQ (heldCharge s e h))
            else if k = 4 then ePutI e 64 8 (eI e 64 8 + roundQ (heldCharge s e h / 1000)) else e
  let e2 := if k = 3 then
      (match tempMean e h.temps with
       | none => e1
       | some m =>
         let t := eI e1 64 2
         let v := if t = -32768 then roundQ (m * 100) else roundQ ((t : Rat) + (m * 100 - (t : Rat)) / 8)
         ePutI e1 64 2 (satI 2 v))
    else e1
  let e3 := match h.sample with
    | some (x, ts) => (match sampleValue s e x with | some v => histPut e2 v ts | none => e2)
    | none => e2
  let e4 := if k = 1 || k = 4 then h.deltas.foldl (fun a d => histPut a (roundQ (deltaAmps s e d * 1000)) d.ts) e3 else e3
  let viol := eN e4 180 4 + h.violations
  let e5 := ePut e4 180 4 (if viol < 2 ^ 32 then viol else 2 ^ 32 - 1)
  let e6 := match h.lastCapt with | some t => ePut e5 188 6 t.toNat | none => e5
  eSetStatus e6 1 false

/-- NODE housekeeping that the link ports fill (Table 3-3; log 48). A node not authenticated since chip reset leaves AUTH_STATE and LAST_AUTH
as they stand. -/
def passNode (s : State) (h : ChanPend) (e : Entry) : Entry :=
  let n := node s (eNode e)
  let e1 := match h.house with | some (t, v) => ePut (ePutI e 64 2 (satI 2 t)) 66 2 (sat16 v) | none => e
  let e2 := ePut (ePut e1 68 4 n.linkErrs) 72 4 n.resets
  let e3 := match n.passTs with | some t => ePut e2 76 6 t.toNat | none => e2
  if n.auth = 0 then e3 else ePut e3 82 1 n.auth

/-! ### Order 4: pending fits (R278, R280) -/

/-- The weight of R278. -/
def blendWeight (c cOld : Nat) : Rat := if c + cOld = 0 then 1 else natQ c / (natQ c + 3 * natQ cOld)

/-- P moved toward its fit value. -/
def blend (p : Nat) (w fit : Rat) : Nat := (roundQ (natQ p + w * (fit - natQ p))).toNat

/-- C moved toward the fit's confidence. -/
def blendConf (cOld c : Nat) : Nat := (roundQ (natQ cOld + (natQ c - natQ cOld) / 8)).toNat

/-- A number held in `len` bytes. -/
def fitN (len n : Nat) : Nat := if n < 2 ^ (8 * len) then n else 2 ^ (8 * len) - 1

/-- A fit applied to a CELL entry. -/
def applyFit (s : State) (f : Fit) (e : Entry) : Entry :=
  let scale := linkOhms s e * 1000000 / gainOf e
  let rsF := f.rs * scale
  let rpF := f.rp * scale
  let tauF : Rat := ((roundQ (f.tau * 10000) : Int) : Rat)
  let first := !eStatus e 3
  let cs := eN e 82 2
  let cp := eN e 84 2
  let ct := eN e 86 2
  let ws := blendWeight f.cRs cs
  let e1 := if first then
      let a := ePut (ePut (ePut e 72 4 (fitN 4 (roundQ rsF).toNat)) 76 4 (fitN 4 (roundQ rpF).toNat)) 80 2 (fitN 2 (roundQ tauF).toNat)
      eSetStatus (ePut (ePut (ePut a 82 2 f.cRs) 84 2 f.cRp) 86 2 f.cTau) 3 true
    else
      let drift := eI e 100 4 + roundQ (ws * 1000000 * divQ (natQ (eN e 72 4) - rsF) rsF)
      let a := ePut (ePut (ePut e 72 4 (fitN 4 (blend (eN e 72 4) ws rsF))) 76 4 (fitN 4 (blend (eN e 76 4) (blendWeight f.cRp cp) rpF)))
        80 2 (fitN 2 (blend (eN e 80 2) (blendWeight f.cTau ct) tauF))
      let b := ePut (ePut (ePut a 82 2 (blendConf cs f.cRs)) 84 2 (blendConf cp f.cRp)) 86 2 (blendConf ct f.cTau)
      ePutI b 100 4 (satI 4 drift)
  let n := eN e1 184 4
  let e2 := ePut (ePut e1 88 2 f.q) 184 4 (if n < 2 ^ 32 - 1 then n + 1 else n)
  ePut (ePut e2 104 6 f.refTs.toNat) 188 6 f.refTs.toNat

/-! ### Order 5: figures of cells (R279–R285) -/

/-- Another CELL channel of the batch with the same PARENT. -/
def sibling (c : Nat) (e : Entry) (x : Nat × Entry) : Bool := decide (x.1 ≠ c) && decide (eKind x.2 = 1) && decide (eParent x.2 = eParent e)

/-- The siblings of a channel. -/
def siblings (b : Batch) (c : Nat) (e : Entry) : Batch := b.filter (sibling c e)

/-- A fit's mean current with its own channel's r and g. -/
def fitAmps (s : State) (e : Entry) (f : Fit) : Rat := divQ (f.mean * gainOf e) (linkOhms s e)

/-- SHARE, where the channel's fit and those of 90 % of its siblings come from one capture (R279). -/
def newShare (s : State) (b : Batch) (c : Nat) (e : Entry) : Option Nat :=
  match (held s c).fit with
  | none => none
  | some f =>
    let sib := siblings b c e
    let same := sib.filterMap fun x => match (held s x.1).fit with
      | some g => if g.capture = f.capture then some (fitAmps s x.2 g) else none
      | none => none
    if 10 * same.length < 9 * sib.length then none
    else
      let own := fitAmps s e f
      let sum := same.foldl (· + ·) own
      some (fitN 4 (roundQ (1000000 * divQ own sum)).toNat)

/-- Charge of the delta of a latch, in µA·s. -/
def latchCharge (s : State) (latch : Nat) (x : Nat × Entry) : Rat :=
  ((held s x.1).deltas.filter fun d => d.latch = latch).foldl (fun a d => a + deltaCharge s x.2 d) 0

/-- CAP_SHARE (R282). -/
def newCapShare (s : State) (b : Batch) (c : Nat) (e : Entry) : Nat :=
  match (held s c).deltas.getLast? with
  | none => eN e 96 4
  | some d =>
    let qk := latchCharge s d.latch (c, e)
    let qs := (siblings b c e).foldl (fun a x => a + latchCharge s d.latch x) qk
    let mag : Rat := if qs < 0 then -qs else qs
    if mag < 1000000 then eN e 96 4
    else
      let cap := match Sparse.get? s.ox.work (eParent e) with | some w => w.capacity | none => parentCapacity s e
      let r := divQ mag (3600000 * natQ cap)
      let w : Rat := if r < 1 then r else 1
      fitN 4 (roundQ (natQ (eN e 96 4) + (1000000 * qk / qs - natQ (eN e 96 4)) * w)).toNat

/-- Put a number into a rising list. -/
def putRising (n : Nat) : List Nat → List Nat
  | [] => [n]
  | m :: t => if n ≤ m then n :: m :: t else m :: putRising n t

/-- The median; for an even count the mean of the middle two (log 54). -/
def median (l : List Nat) : Rat :=
  let r := l.foldl (fun a n => putRising n a) []
  let n := r.length
  if n % 2 = 1 then natQ (r.getD (n / 2) 0) else (natQ (r.getD (n / 2 - 1) 0) + natQ (r.getD (n / 2) 0)) / 2

/-- WEAK_SCORE of a channel (R283), where it has FIT_VALID and 15 siblings with it. -/
def weakScore (s : State) (b : Batch) (c : Nat) (e : Entry) : Option Nat :=
  let sib := (siblings b c e).filter fun x => eStatus x.2 3
  if !eStatus e 3 || sib.length < 15 then none
  else
    let all := (c, e) :: sib
    let med := fun (f : Entry → Nat) => median (all.map fun x => f x.2)
    let z1 := divQ (natQ (eN e 72 4)) (med fun x => eN x 72 4) - 1
    let z2 := 1 - divQ (natQ (eN e 92 4)) (med fun x => eN x 92 4)
    let z3 := 1 - divQ (natQ (eN e 96 4)) (med fun x => eN x 96 4)
    let z := [z1, z2, z3].foldl (fun (m : Rat) v => if m < v then v else m) 0
    let full : Rat := natQ (clampN 1 100 (fld s 0x2810 24 8)) / 100
    let v := z / full
    some (roundQ (1000 * (if v < 1 then v else 1))).toNat

/-- A SHARE update since OPEN_LINK was last set, this pass's included, has given at least 2 × OPEN_SHARE (R281). -/
def shareUpNow (s : State) (b : Batch) (c : Nat) (e : Entry) : Bool :=
  (held s c).shareUp || (match newShare s b c e with | some v => decide (2 * fld s 0x2810 0 14 ≤ v) | none => false)

/-- SHARE, CAP_SHARE and OPEN_LINK of a CELL entry (R279, R281, R282). -/
def passShares (s : State) (b : Batch) (c : Nat) (e : Entry) : Entry :=
  let h := held s c
  let share := newShare s b c e
  let lim := fld s 0x2810 0 14
  let e1 := match share with | some v => ePut e 92 4 v | none => e
  let e2 := ePut e1 96 4 (newCapShare s b c e)
  let set_ := h.openReport || (match share with | some v => decide (v < lim) | none => false)
  let clear_ := h.flagLeft3 && shareUpNow s b c e
  if set_ then eSetStatus e2 2 true else if clear_ then eSetStatus e2 2 false else e2

/-- WEAK_SCORE and WEAK_TREND (R281, R283, R285). -/
def passWeak (s : State) (b : Batch) (day c : Nat) (e : Entry) : Entry :=
  let e1 := match weakScore s b c e with | some v => ePut e 90 2 v | none => e
  let e2 := if eStatus e1 2 then ePut e1 90 2 1000 else e1
  match Sparse.get? s.ox.trendDay c with
  | some d => if d = day then e2 else ePut (ePut e2 198 14 (eN e2 196 14)) 196 2 (eN e2 90 2)
  | none => e2

/-! ### Group working values from the cells (R269, R286, R288) -/

/-- On-chip values of a channel, taken from its entry where none are held. -/
def workOf (s : State) (c : Nat) (e : Entry) : GroupWork :=
  match Sparse.get? s.ox.work c with
  | some w => w
  | none => { GroupWork.empty with
      eodMv := eN e 34 2, eocMv := eN e 36 2, capacity := eN e 38 4, capEst := eN e 72 4, rsEff := eN e 84 4, socInt := eN e 76 2
      socRep := eN e 78 2, charge := eI e 64 8, socConf := eN e 80 2, status := eN e 156 4, energy := eN e 96 4
      anchorKind := eN e 82 2 % 4, anchorTime := BitVec.ofNat 48 (eN e 88 6), rsSet := decide (eN e 84 4 ≠ 0) }

/-- The sums of a PACK channel. -/
def packSums (s : State) (c : Nat) : PackSum := Sparse.getD s.ox.packSum c PackSum.zero

/-- The time of a channel's deltas in ms: one ms for each grid instant. -/
def heldMs (h : ChanPend) : Nat := (h.deltas.map Delta.n).foldl (· + ·) 0

/-- Keep on-chip values. -/
def putWork (s : State) (c : Nat) (w : GroupWork) : State := { s with ox := { s.ox with work := Sparse.set s.ox.work c w } }

/-- A cell leaves the values of a parent that its entry no longer names. -/
def leaveParent (c p : Nat) (s : State) : State :=
  match Sparse.get? s.ct.parents c with
  | some o =>
    if o = p then s
    else match Sparse.get? s.ox.work o with
      | some w => putWork s o { w with cond := Sparse.del w.cond c }
      | none => s
  | none => s

/-- A CELL pass adds to its parent's values; `q` is its charge in µA·s of the deltas in `h`. Its PARENT in force is the
entry's from this pass on. -/
def cellToGroup (c : Nat) (q : Rat) (h : ChanPend) (e : Entry) (s0 : State) : State :=
  let p := eParent e
  let s1 := leaveParent c p s0
  let s := { s1 with ct := { s1.ct with parents := Sparse.set s1.ct.parents c p } }
  match dirIdentity s.ct.dir p, calOf s p with
  | some (2, _, _), some g =>
    let w := workOf s p g
    let w1 := if !h.deltas.isEmpty then
        { w with pendCharge := w.pendCharge + q, pendKids := if w.pendKids.contains c then w.pendKids else c :: w.pendKids
                 pendMs := if w.pendMs < heldMs h then heldMs h else w.pendMs }
      else w
    putWork s p { w1 with cond := if eStatus e 3 then Sparse.set w1.cond c (divQ 1 (natQ (eN e 72 4)), eN e 82 2) else Sparse.del w1.cond c }
  | _, _ => s

/-- The attached channels of a kind, in the order of the directory. -/
def kindChannels (s : State) (k : Nat) : List Nat :=
  s.ct.dir.flatMap fun e => let r := dirKind e.2 k; (List.range r.2).map (· + r.1)

/-- The GROUP channels that name a PACK channel as PARENT, with their copies on chip. -/
def packGroups (s : State) (c : Nat) : Batch := s.ct.calib.filter fun e => eKind e.2 = 2 && eParent e.2 = c

/-! ### Order 6: groups (R286–R302) -/

/-- Anchors, capacity learning and end events work on these values of one estimator. -/
structure Est where
  charge : Int
  capEst : Nat
  socConf : Nat
  status : Nat
  anchorKind : Nat
  anchorTime : Stamp
  anchors : Nat
  sRef : Option Nat
  qRef : Rat
  lastV : Option Nat
  /-- SOC_CONF was 0 and the first anchor has been taken (R301). -/
  firstAnchor : Bool
  deriving DecidableEq, Repr

/-- A status bit and its change. -/
def stBit (st i : Nat) : Bool := Nat.testBit st i
def stPut (st i : Nat) (v : Bool) : Nat := if Nat.testBit st i = v then st else if v then st + 2 ^ i else st - 2 ^ i

/-- A full charge, and the charge at a SOC in 0.01 % (R287). -/
def chargeAt (capEst : Nat) (soc : Rat) : Rat := 36 / 100 * soc * natQ capEst

/-- SOC of a charge in 0.01 %, not limited. -/
def socOf (charge : Rat) (capEst : Nat) : Rat := divQ charge (36 / 100 * natQ capEst)

/-- A reference point at SOC `sv` (R294). -/
def refPoint (x : Est) (sv : Rat) : Est :=
  let y := match x.sRef with
    | none => x
    | some r =>
      let span := sv - natQ r
      let c := x.qRef / (36 / 100 * (if span = 0 then 1 else span))
      let mag : Rat := if span < 0 then -span else span
      if 3000 ≤ mag && natQ x.capEst / 2 ≤ c && c ≤ natQ x.capEst * 3 / 2 then
        { x with capEst := (roundQ (natQ x.capEst + (c - natQ x.capEst) / 4)).toNat, status := stPut x.status 4 false }
      else x
  { y with sRef := some (roundQ sv).toNat, qRef := 0 }

/-- A rest anchor at `mv` per cell (R290, R292, R294). -/
def restAnchor (t : List Nat) (mv : Rat) (ts : Stamp) (x : Est) : Est :=
  let (sr, slope) := ocvInverse mv t 0
  let f := slopeFactor slope
  let conf := (roundQ (1000 * f)).toNat
  let y := { x with
    charge := roundQ ((x.charge : Rat) + f * (chargeAt x.capEst sr - (x.charge : Rat)))
    socConf := if x.socConf < conf then conf else x.socConf
    status := stPut x.status 5 false, anchorKind := 1, anchorTime := ts, anchors := x.anchors + 1
    firstAnchor := x.firstAnchor || (decide (x.socConf = 0) && decide (x.anchors = 0)) }
  if 8 / 10 ≤ f then refPoint y sr else y

/-- A voltage anchor at `mv` compensated, with the mean confidence of the fitted children (R291, R292, Table 6-4). -/
def voltAnchor (t : List Nat) (mv conf : Rat) (ts : Stamp) (now : Nat) (x : Est) : Est :=
  let (sv, slope) := ocvInverse mv t 0
  let w := slopeFactor slope * conf / 4000
  let full := chargeAt x.capEst 10000
  let moved := (x.charge : Rat) + w * (chargeAt x.capEst sv - (x.charge : Rat))
  let kept : Rat := if moved < 0 then 0 else if full < moved then full else moved
  { x with
    charge := roundQ kept, socConf := (roundQ (natQ x.socConf + w * (800 - natQ x.socConf))).toNat
    anchorKind := if stBit x.status 5 then 2 else x.anchorKind, anchorTime := if stBit x.status 5 then ts else x.anchorTime
    anchors := x.anchors + 1, lastV := some now, firstAnchor := x.firstAnchor || (decide (x.socConf = 0) && decide (x.anchors = 0)) }

/-- ANCHOR_AGED after 8 h (R292). -/
def ageAnchor (nowSec : Nat) (x : Est) : Est :=
  if x.anchorKind = 1 && decide (x.anchorTime.toNat / 16384 + 28800 ≤ nowSec) then { x with status := stPut x.status 5 true } else x

/-- SOC_CONF falls with the charge counted, and is held while aged (R293). -/
def wearConf (added : Rat) (x : Est) : Est :=
  let mag : Rat := if added < 0 then -added else added
  let fall := (roundQ (divQ (200 * mag) (3600 * natQ x.capEst))).toNat
  let c := x.socConf - fall
  { x with socConf := if stBit x.status 5 && 600 < c then 600 else c }

/-- Declared ends, and count and voltage in disagreement (R296–R298, Table 6-4). -/
def endEvents (eod eoc : Bool) (added : Rat) (x : Est) : Est :=
  let full := roundQ (chargeAt x.capEst 10000)
  let x1 := if eod then
      let y := refPoint { x with status := stPut (if 0 < x.charge then stPut x.status 4 true else x.status) 6 true } 0
      { y with charge := 0, status := stPut y.status 8 false }
    else x
  let x2 := if eoc then
      let y := refPoint { x1 with status := stPut (if x1.charge < full then stPut x1.status 4 true else x1.status) 7 true } 10000
      { y with charge := roundQ (chargeAt y.capEst 10000), status := stPut y.status 8 false }
    else x1
  if x2.charge ≤ 0 && added < 0 && !stBit x2.status 6 then { x2 with status := stPut (stPut x2.status 8 true) 4 true }
  else if full ≤ x2.charge && 0 < added && !stBit x2.status 7 then { x2 with status := stPut (stPut x2.status 8 true) 4 true }
  else x2

/-- EOD and EOC cleared (R299); `mv` is V − I × RS_EFF of the last delivered cycle. -/
def clearEnds (added : Rat) (mv : Option Rat) (eodMv eocMv hyst : Nat) (x : Est) : Est :=
  match mv with
  | none => x
  | some v =>
    let x1 := if 0 < added && natQ (eodMv + hyst) < v then { x with status := stPut x.status 6 false } else x
    if added < 0 && v < natQ eocMv - natQ hyst then { x1 with status := stPut x1.status 7 false } else x1

/-- SOC_INT (R287). -/
def socInt (charge : Int) (capEst : Nat) : Nat := (clampI 0 10000 (roundQ (socOf (charge : Rat) capEst))).toNat

/-- The next SOC_REP with its fraction (R296–R301): `d` is the change by charge alone in 0.01 %. -/
def nextSocRep (rep : Nat) (frac d : Rat) (int : Nat) (status : Nat) (atFloor atTop first : Bool) : Nat × Rat :=
  if first then (int, 0)
  else
    let gap : Rat := natQ int - natQ rep
    let clamp2 := fun (v : Rat) => if v < 0 then (0 : Rat) else if 2 < v then 2 else v
    let now : Rat := natQ rep + frac
    let eod := stBit status 6 && !(decide (0 < d))
    let eoc := stBit status 7 && !(decide (d < 0))
    let raw : Rat :=
      if eod then (if rep < 10 then 0 else natQ (rep - 10))
      else if eoc then (if 10000 < rep + 10 then 10000 else natQ (rep + 10))
      else if d < 0 then now + d * clamp2 (1 - gap / 500)
      else if 0 < d then now + d * clamp2 (1 + gap / 500)
      else if rep < int then natQ (rep + 1) else if int < rep then natQ (rep - 1) else now
    let hold := stBit status 8
    let low : Rat := if hold && atFloor && !eod then natQ (if rep < 100 then rep else 100) else 0
    let high : Rat := if hold && atTop && !eoc then natQ (if 9900 < rep then rep else 9900) else 10000
    let v := if raw < low then low else if high < raw then high else raw
    (v.floor.toNat, v - natQ v.floor.toNat)

/-- The PACK channel that a GROUP entry names as PARENT. -/
def packOf (s : State) (e : Entry) : Option Nat :=
  match dirIdentity s.ct.dir (eParent e) with
  | some (4, _, _) => some (eParent e)
  | _ => none

/-- What the PACK channel `p` has counted since the last pass of the GROUP channel `c`; nothing at a first pass under that PACK channel. -/
def packSince (s : State) (c p : Nat) : PackSum :=
  let now := packSums s p
  match Sparse.get? s.ox.seen c with
  | some (o, z) => if o = p then { charge := now.charge - z.charge, count := now.count - z.count, ms := now.ms - z.ms } else PackSum.zero
  | none => PackSum.zero

/-- Charge a group takes at its pass in mA·s, and the time over which it was counted in ms (R286). CAPACITY of the PACK channel is its copy
on chip. -/
def groupCharge (s : State) (c : Nat) (e : Entry) (w : GroupWork) : Rat × Nat :=
  if !w.pendKids.isEmpty then (w.pendCharge / 1000 * natQ (kidCount s c) / natQ w.pendKids.length, w.pendMs)
  else match packOf s e with
    | some p =>
      let d := packSince s c p
      match calOf s p with
      | some pe => if d.count = 0 then (0, 0) else (divQ (d.charge * natQ (eN e 38 4)) (natQ (eN pe 38 4)), d.ms)
      | none => (0, 0)
    | none => (0, 0)

/-- The mean current in amperes of a charge in mA·s counted over `ms`; 0 where nothing was counted. -/
def meanAmps (charge : Rat) (ms : Nat) : Rat := if ms = 0 then 0 else charge / natQ ms

/-- A group's pass has seen what its PACK channel has counted. -/
def seePack (s : State) (c : Nat) (e : Entry) : State :=
  { s with ox := { s.ox with seen := match packOf s e with
    | some p => Sparse.set s.ox.seen c (p, packSums s p)
    | none => Sparse.del s.ox.seen c } }

/-- The values of a parking record at a channel's first pass (R308). -/
def unpark (s : State) (c : Nat) (e : Entry) : Entry × Option ParkRec :=
  match s.park with
  | none => (e, none)
  | some p =>
    match p.recs.find? (fun r => r.chan = c) with
    | none => (e, none)
    | some r =>
      let st := fun i (x : Entry) => eSetStatus x i (stBit r.status i)
      let x := st 6 (st 7 (ePut (ePut (ePutI e 64 8 r.charge) 78 2 r.socRep) 80 2 r.socConf))
      ((match r.floor with | some v => eSetStatus x 8 v | none => x), some r)

/-- The values on chip of a GROUP or PACK channel at its first pass with a parking record: s_ref and q_ref are the record's (R308). -/
def unparkWork (s : State) (c : Nat) (e : Entry) (rec : Option ParkRec) : GroupWork :=
  let base := workOf s c e
  match rec with
  | some r => { base with charge := eI e 64 8, socRep := eN e 78 2, socConf := eN e 80 2, status := eN e 156 4
                          sRef := if r.sRef = 0xFFFF then none else some r.sRef, qRef := (r.qRef : Rat) * 1000 }
  | none => base

/-- The parking record that a channel takes at this pass. -/
def parkTaken (s : State) (c : Nat) (e : Entry) : Entry × Option ParkRec :=
  if s.ox.parkLeft.contains c then unpark s c e else (e, none)

/-- A GROUP pass: new entry and on-chip values (`w` at its start). A rest anchor that is due while none may be taken (R289) is not taken
later. -/
def passGroup (s : State) (c : Nat) (e : Entry) (w : GroupWork) : Entry × GroupWork :=
  let t := ocvTable s
  let (added, ms) := groupCharge s c e w
  let m := w.cond.length
  let gSum : Rat := w.cond.foldl (fun a x => a + x.2.1) 0
  let rs := if 1 ≤ m then (roundQ (divQ 1 (gSum * natQ (kidCount s c) / natQ m))).toNat else eN e 84 4
  -- with no fitted child the mean has no value: a free value (log 52)
  let conf : Rat := divQ (natQ (w.cond.foldl (fun a x => a + x.2.2) 0)) (natQ m)
  let rsSet := w.rsSet || decide (1 ≤ m) || decide (eN e 84 4 ≠ 0)
  let x0 : Est := { charge := roundQ (((eI e 64 8 : Int) : Rat) + added), capEst := eN e 72 4, socConf := eN e 80 2, status := eN e 156 4
                    anchorKind := eN e 82 2 % 4, anchorTime := BitVec.ofNat 48 (eN e 88 6), anchors := eN e 184 4
                    sRef := w.sRef, qRef := w.qRef + added, lastV := w.lastV, firstAnchor := false }
  let ok := ocvValid t
  let ts := stamp s
  let x1 := match w.lastCycle with
    | some (v, _) => if ok && w.restAsked then restAnchor t (v * 1000) ts x0 else x0
    | none => x0
  let x2 := ageAnchor (calSeconds s) x1
  let old := match x2.lastV with | some v => decide (v + 60 ≤ s.upSeconds) | none => true
  let x3 := match w.cand with
    | some (v, i, ep) =>
      if ok && old && decide (s.ox.epoch.toNat ≤ ep + 1) && (rsSet || x2.socConf = 0) then
        voltAnchor t (v * 1000 - i * natQ rs / 1000) conf ts s.upSeconds x2
      else x2
    | none => x2
  let x4 := wearConf added x3
  let x5 := endEvents w.eodDecl w.eocDecl added x4
  let vend := w.lastCycle.map fun l => l.1 * 1000 - l.2 * natQ rs / 1000
  let x6 := clearEnds added vend (eN e 34 2) (eN e 36 2) (fld s 0x2814 8 8) x5
  let int := socInt x6.charge x6.capEst
  let full := roundQ (chargeAt x6.capEst 10000)
  let d := socOf added x6.capEst
  let rep := nextSocRep (eN e 78 2) w.frac d int x6.status (decide (x6.charge ≤ 0)) (decide (full ≤ x6.charge)) x6.firstAnchor
  let mean := meanAmps added ms
  let energy := fitN 4 (energyOf t x6.capEst rep.1 mean rs)
  let e1 := ePut (ePutI e 64 8 x6.charge) 72 4 (fitN 4 x6.capEst)
  let e2 := ePut (ePut (ePut e1 76 2 int) 78 2 rep.1) 80 2 x6.socConf
  let e3 := ePut (ePut (ePut e2 82 2 (eN e 82 2 / 4 * 4 + x6.anchorKind)) 84 4 (fitN 4 rs)) 88 6 x6.anchorTime.toNat
  let e4 := ePut (ePut (ePut e3 94 2 (restMin w)) 96 4 energy) 184 4 (fitN 4 x6.anchors)
  let e5 := ePut e4 156 4 x6.status
  (e5, { w with
    pendCharge := 0, pendKids := [], pendMs := 0, eodMv := eN e 34 2, eocMv := eN e 36 2, capacity := eN e 38 4
    capEst := x6.capEst, rsEff := rs, socInt := int, socRep := rep.1, charge := x6.charge, socConf := x6.socConf, status := x6.status
    energy := energy, anchorKind := x6.anchorKind, anchorTime := x6.anchorTime, cand := none, sRef := x6.sRef, qRef := x6.qRef
    lastV := x6.lastV, frac := rep.2, iMean := mean, eodDecl := false, eocDecl := false, rsSet := rsSet
    restAsked := false })

/-! ### Order 7: the pack (R303, Table 6-6) -/

/-- The GROUP_INDEX values of a list of children, each once. -/
def seriesGroups (ks : List (Nat × GroupWork)) : List Nat := (ks.map Prod.fst).foldl (fun l g => if l.contains g then l else l ++ [g]) []

/-- Figures of one series group: Σ CAP_EST, s_G, and Σ 1 ÷ RS_EFF. -/
def seriesFigures (ks : List (Nat × GroupWork)) (g : Nat) : Nat × Rat × Rat :=
  let mine := (ks.filter fun k => k.1 = g).map Prod.snd
  let cap := (mine.map GroupWork.capEst).foldl (· + ·) 0
  let q := sumI (mine.map GroupWork.charge)
  let f := divQ (q : Rat) (3600 * natQ cap)
  (cap, if f < 0 then 0 else if 1 < f then 1 else f, mine.foldl (fun a w => a + divQ 1 (natQ w.rsEff)) 0)

/-- A PACK pass: new entry and on-chip values (`w` at its start). `added` is its own charge of this pass in mA·s. Its first anchor is
the one with which each child has one, so that ANCHOR_KIND is no longer 0 (DEDUCED, log 54). FITS, byte 184, stays as fetched: chapter 6 gives a
PACK channel no anchor of its own to count (DESIGN CHOICE, log 54). -/
def passPack (s : State) (c : Nat) (e : Entry) (w : GroupWork) (added : Rat) : Entry × GroupWork :=
  let ks := (packGroups s c).map fun x => (eGroupIndex x.2, workOf s x.1 x.2)
  let gs := (seriesGroups ks).map (seriesFigures ks)
  let ws := ks.map Prod.snd
  let minN := fun (l : List Nat) => match l with | [] => none | a :: t => some (t.foldl (fun m n => if n < m then n else m) a)
  let capEst := (minN (gs.map Prod.fst)).getD (eN e 72 4)
  let ss := gs.map fun g => g.2.1
  let sMin := ss.foldl (fun (m : Rat) v => if v < m then v else m) 1
  let sMax := ss.foldl (fun (m : Rat) v => if m < v then v else m) 0
  let den : Rat := 1 - sMax + sMin
  let int := if ss.isEmpty then eN e 76 2 else if den = 0 then 0 else (clampI 0 10000 (roundQ (10000 * sMin / den))).toNat
  let anyBit := fun i => ws.any fun w => stBit w.status i
  let st0 := eN e 156 4
  let st := if ws.isEmpty then st0
    else [6, 7, 8, 4, 5].foldl (fun a i => stPut a i (anyBit i)) st0
  let conf : Nat := (minN (ws.map GroupWork.socConf)).getD (eN e 80 2)
  let oldest := ws.foldl (fun (b : Option GroupWork) w => match b with
    | none => some w
    | some m => if w.anchorTime < m.anchorTime then some w else some m) none
  let d := socOf added capEst
  let first := decide (eN e 80 2 = 0) && decide (eN e 82 2 % 4 = 0) && (match oldest with | some o => decide (o.anchorKind ≠ 0) | none => false)
  let rep := nextSocRep (eN e 78 2) w.frac d int st true true first
  let rs := gs.foldl (fun (a : Rat) g => a + divQ 1 g.2.2) 0
  let energy := ws.foldl (fun (a : Rat) w => if w.socRep = 0 then a else a + natQ w.energy * natQ rep.1 / natQ w.socRep) 0
  let e1 := ePut (ePut (ePut (ePut e 72 4 (fitN 4 capEst)) 76 2 int) 78 2 rep.1) 80 2 conf
  let e2 := match oldest with
    | some o => ePut (ePut e1 82 2 (eN e 82 2 / 4 * 4 + o.anchorKind)) 88 6 o.anchorTime.toNat
    | none => e1
  let e3 := if gs.isEmpty then e2 else ePut e2 84 4 (fitN 4 (roundQ rs).toNat)
  let e4 := ePut (ePut e3 94 2 (restMin w)) 96 4 (fitN 4 (roundQ energy).toNat)
  let e5 := ePut e4 156 4 st
  (e5, { w with
    capacity := eN e 38 4, capEst := capEst, socInt := int, socRep := rep.1, charge := eI e 64 8, socConf := conf, status := st
    energy := (roundQ energy).toNat, frac := rep.2, iMean := meanAmps added (heldMs (held s c)), restAsked := false })

/-! ### The pass of a batch (R268, R306) -/

/-- The channel's own updates are made: no EXCLUDE in its entry, its node not quarantined. -/
def passes (s : State) (x : Nat × Entry) : Bool := !eExclude x.2 && !chanQuarantined s x.2

/-- The channel's estimate is made: a GROUP channel carries on while its node is quarantined (R306; DEDUCED, log 54: in Table 3-7 a
group lies on the node of its cells). -/
def estimates (s : State) (x : Nat × Entry) : Bool := !eExclude x.2 && (!chanQuarantined s x.2 || decide (eKind x.2 = 2))

/-- Apply a change to every passing channel of the batch. -/
def onBatch (s : State) (b : Batch) (f : Nat → Entry → Entry) : Batch := b.map fun x => if passes s x then (x.1, f x.1 x.2) else x

/-- What is held for a passed channel is used up, but for the marks of R281. A channel whose updates were not made keeps what is held,
but for the codes of the epoch (R218, R220); a reinitialisation is kept for it until it is made (R201). `open_` tells that the pass has set
OPEN_LINK, which starts R281's condition for clearing it anew. -/
def usedUp (s : State) (passed open_ shareUp : Bool) (c : Nat) : State :=
  let h := held s c
  let keep : ChanPend :=
    if passed then { ChanPend.empty with flagLeft3 := h.flagLeft3, shareUp := shareUp && !open_ }
    else { h with sample := none, temps := [] }
  { s with ox := { s.ox with pend := if keep = ChanPend.empty then Sparse.del s.ox.pend c else Sparse.set s.ox.pend c keep } }

/-- A parking record's values are in the entry before anything else of its pass (R308). -/
def unparked (s : State) (b : Batch) : Batch := b.map fun x => if estimates s x then (x.1, (parkTaken s x.1 x.2).1) else x

/-- Orders 1 to 5 over the batch, with the fits applied. -/
def passCells (s : State) (b : Batch) : Batch :=
  let b1 := onBatch s b fun c e => let e1 := passBasics s (held s c) e; if eKind e = 5 then passNode s (held s c) e1 else e1
  let b2 := onBatch s b1 fun c e => match (held s c).fit with
    | some f => if eKind e = 1 then applyFit s f e else e
    | none => e
  let b3 := onBatch s b2 fun c e => if eKind e = 1 then passShares s b2 c e else e
  onBatch s b3 fun c e => if eKind e = 1 then passWeak s b3 (calSeconds s / 86400) c e else e

/-- Orders 6 and 7 for one channel; its calibration is copied on chip (log 108). -/
def passEstimate (c : Nat) (e : Entry) (s : State) : State × Entry :=
  let keep := fun (q : State) => { q with ct := { q.ct with calib := Sparse.set q.ct.calib c e } }
  let w := unparkWork s c e (parkTaken s c e).2
  if eKind e = 2 then
    let r := passGroup s c e w
    (keep (seePack (putWork s c r.2) c e), r.1)
  else if eKind e = 4 then
    let h := held s c
    let own := heldCharge s e h / 1000
    let r := passPack s c e w own
    let z := packSums s c
    let z1 : PackSum := { charge := z.charge + own, count := z.count + h.deltas.length, ms := z.ms + heldMs h }
    let s1 := { s with ox := { s.ox with packSum := Sparse.set s.ox.packSum c z1 } }
    (keep (putWork s1 c r.2), r.1)
  else (s, e)

/-- A channel of the parking state has had its first pass (R308). -/
def parkPassed (c : Nat) (s : State) : State :=
  if !s.ox.parkLeft.contains c then s
  else
    let l := s.ox.parkLeft.filter fun x => x ≠ c
    { s with ox := { s.ox with parkLeft := l, parkValid := s.ox.parkValid && !l.isEmpty } }

/-- What a pass writes into a channel whose updates it does not make: QUARANTINED as its node stands (R199, R306), a NODE channel's
AUTH_STATE, and with EXCLUDE = 1 a reinitialisation that is due. -/
def passFrozen (s : State) (x : Nat × Entry) : Entry :=
  let q := chanQuarantined s x.2
  let e0 := if eExclude x.2 && !q && (held s x.1).reinit then initEntry x.2 (parentCapacity s x.2) else x.2
  let e := eSetStatus e0 1 q
  let a := (node s (eNode x.2)).auth
  if eKind e = 5 && a ≠ 0 then ePut e 82 1 a else e

/-- The pass of one batch: the state with on-chip values, T_FILT copies and events updated, and the new entries. -/
def batchPass (s : State) (b0 : Batch) : State × Batch :=
  let b := unparked s b0
  let b1 := passCells s b
  let day := calSeconds s / 86400
  -- the cells' parts in their groups, and EV25 for the lowest channel that crosses (R284)
  let cells := b1.filter fun x => eKind x.2 = 1 && passes s x
  let s1 := forEach cells (fun x q =>
    let h := held s x.1
    let q1 := cellToGroup x.1 (heldCharge s x.2 h) h x.2 q
    { q1 with ox := { q1.ox with trendDay := Sparse.set q1.ox.trendDay x.1 day
                                 fitsApplied := q1.ox.fitsApplied + b2n h.fit.isSome } }) s
  let level := clampN 1 1000 (fld s 0x2810 14 10)
  let crossed := cells.filter fun x => match b.find? (fun y => y.1 = x.1) with
    | some y => decide (eN y.2 90 2 < level) && decide (level ≤ eN x.2 90 2)
    | none => false
  let s2 := match crossed with
    | x :: _ => raise s1 25 (pack 64 [(0, 18, x.1), (18, 10, eN x.2 90 2), (28, 1, b2n (eStatus x.2 2))])
    | [] => s1
  -- groups and packs
  let r := b1.foldl (fun (a : State × Batch) x =>
    if estimates s x then
      let y := passEstimate x.1 x.2 a.1
      (parkPassed x.1 y.1, a.2 ++ [(x.1, y.2)])
    else (a.1, a.2 ++ [x])) (s2, [])
  -- T_FILT copies (R219), QUARANTINED (R306), WRITE_SEQ and CRC
  let s3 := forEach r.2 (fun x q =>
    if eKind x.2 ≠ 3 then q
    else
      let k := 16 * eNode x.2 + eTap x.2
      if eExclude x.2 then { q with mc := { q.mc with tfilt := Sparse.del q.mc.tfilt k } }
      else if passes s x then { q with mc := { q.mc with tfilt := Sparse.set q.mc.tfilt k (eI x.2 64 2) } } else q) r.1
  let b2 := r.2.map fun x =>
    if passes s x then (x.1, eSeal x.2)
    else
      let e := passFrozen s x
      if e = x.2 && !(estimates s x) then x else (x.1, eSeal e)
  (forEach b2 (fun x q =>
    let ok := passes s x
    let e1 := match b1.find? (fun y => y.1 = x.1) with | some y => y.2 | none => x.2
    let new := ok && eKind e1 = 1
    let set_ := new && ((held s x.1).openReport || (match newShare s b1 x.1 e1 with | some v => decide (v < fld s 0x2810 0 14) | none => false))
    let q1 := usedUp q ok set_ (new && shareUpNow s b1 x.1 e1) x.1
    if eExclude x.2 && !chanQuarantined s x.2 && (held q1 x.1).reinit then pendMod q1 x.1 fun h => { h with reinit := false } else q1) s3, b2)

/-! ### The impedance fit (R272–R276) -/

/-- 16-bit capture samples of a tap, 0–127. -/
def capTap (ps : List (Nat × List Byte)) (t : Nat) : List Int :=
  match pieceBytes ps (8 + 256 * t) 256 with
  | none => []
  | some bs => (pieces 2 128 bs).map fun p => (BitVec.ofNat 16 (leNat p)).toInt

/-- Sums of a solve (R273). -/
structure FitSums where
  x : Rat
  suu : Rat
  sux : Rat
  sxx : Rat
  svu : Rat
  svx : Rat
  svv : Rat
  deriving DecidableEq, Repr

/-- A solve: rs, rp, rss, and sxx, suu, det, svv for the confidences. -/
structure Solved where
  rs : Rat
  rp : Rat
  rss : Rat
  sxx : Rat
  suu : Rat
  det : Rat
  svv : Rat
  deriving DecidableEq, Repr

/-- `solve(tau)` over samples 24–127 of du and dv; τ in seconds. -/
def fitSolve (l : List (Rat × Rat)) (tau : Rat) : Solved :=
  let a := expQ (-(1 / 1000) / tau)
  let z := l.foldl (fun (f : FitSums) (p : Rat × Rat) =>
    let x := a * f.x + (1 - a) * p.1
    { x := x, suu := f.suu + p.1 * p.1, sux := f.sux + p.1 * x, sxx := f.sxx + x * x
      svu := f.svu + p.2 * p.1, svx := f.svx + p.2 * x, svv := f.svv + p.2 * p.2 }) { x := 0, suu := 0, sux := 0, sxx := 0, svu := 0, svx := 0, svv := 0 }
  let det := z.suu * z.sxx - z.sux * z.sux
  let rs := divQ (z.svu * z.sxx - z.svx * z.sux) det
  let rp := divQ (z.svx * z.suu - z.svu * z.sux) det
  { rs := rs, rp := rp, rss := z.svv - rs * z.svu - rp * z.svx, sxx := z.sxx, suu := z.suu, det := det, svv := z.svv }

/-- tau_grid[j] in seconds: 5 ms × 20^(j ÷ 7). -/
def tauGrid (j : Nat) : Rat := 5 / 1000 * expQ (natQ j / 7 * lnQ 20)

/-- The vertex of the parabola through three points (R273). -/
def vertex (x0 y0 x1 y1 x2 y2 : Rat) : Rat :=
  let n := (x1 - x0) * (x1 - x0) * (y1 - y2) - (x1 - x2) * (x1 - x2) * (y1 - y0)
  let d := (x1 - x0) * (y1 - y2) - (x1 - x2) * (y1 - y0)
  x1 - divQ n (2 * d)

/-- round(1,000 × max(0, v)). -/
def perMille (v : Rat) : Nat := (roundQ (1000 * (if v < 0 then 0 else v))).toNat

/-- The best solve: τ, its solve, and whether the grid point lies inside. -/
def fitBest (l : List (Rat × Rat)) : Rat × Solved × Bool :=
  let rss := (List.range 8).map fun j => (fitSolve l (tauGrid j)).rss
  let jb := ((List.range 8).foldl (fun (b : Nat) j => if rss.getD j 0 < rss.getD b 0 then j else b) 0)
  if 1 ≤ jb && jb ≤ 6 then
    let ln := fun j => natQ j / 7 * lnQ 20
    let v := vertex (ln (jb - 1)) (rss.getD (jb - 1) 0) (ln jb) (rss.getD jb 0) (ln (jb + 1)) (rss.getD (jb + 1) 0)
    let lo := tauGrid (jb - 1)
    let hi := tauGrid (jb + 1)
    let t := 5 / 1000 * expQ v
    let tau := if t < lo then lo else if hi < t then hi else t
    (tau, fitSolve l tau, true)
  else (tauGrid jb, fitSolve l (tauGrid jb), false)

/-- The fit of a series of u and v (in the units of du and dv) of 128 samples; none when the excitation is below `minExc`
(R273), and the reason to reject it (R275). -/
def computeFit (u v : List Rat) (minExc : Rat) (minQ : Nat) (capture : Word) (refTs : Stamp) : Option (Fit × Bool) :=
  let mean := fun (l : List Rat) => l.foldl (· + ·) 0 / natQ l.length
  let bu := mean (u.take 24)
  let bv := mean (v.take 24)
  let du := (u.drop 24).map (· - bu)
  let dv := (v.drop 24).map (· - bv)
  let ms := mean (du.map fun x => x * x)
  if ms < minExc * minExc then none
  else
    let (tau, z, inside) := fitBest (du.zip dv)
    let q := perMille (1 - divQ z.rss z.svv)
    let s2 := z.rss / 102
    let cRs := perMille (1 - 10 * divQ (sqrtQ (divQ (s2 * z.sxx) z.det)) z.rs)
    let cRp := if z.rp = 0 then 0 else perMille (1 - 10 * divQ (sqrtQ (divQ (s2 * z.suu) z.det)) z.rp)
    let f : Fit := { rs := z.rs, rp := z.rp, tau := tau, q := q, cRs := cRs, cRp := cRp, cTau := if inside then cRp else cRp / 2
                     capture := capture, refTs := refTs, mean := mean (du.drop 72) }
    some (f, decide (z.rs ≤ 0) || decide (z.rp < 0) || decide (q < minQ))

/-- The group tap of a CELL tap (R272). -/
def groupTap (s : State) (a t : Nat) : Nat :=
  match Sparse.get? s.ct.dir a with
  | some d => if t < 248 || d.groupCount ≤ 1 then 496 else 497
  | none => 496

/-- The next fit that waits (R273–R277). -/
def fitCompute (s : State) : State :=
  match s.ox.fits with
  | [] => s
  | j :: rest =>
    match j.taps with
    | [] => { s with ox := { s.ox with fits := rest } }
    | t :: ts =>
      let s1 := { s with ox := { s.ox with fits := if ts.isEmpty then rest else { j with taps := ts } :: rest } }
      match dirChannel s.ct.dir 1 j.node t with
      | none => s1
      | some c =>
        let u : List Rat := (capTap j.pieces t).map fun (x : Int) => ((x : Int) : Rat) * 4 / 10000000
        let g : List Rat := (capTap j.pieces (groupTap s j.node t)).map fun (x : Int) => ((x : Int) : Rat) / 100000
        let v : List Rat := match g with | [] => [] | _ :: r => (0 : Rat) :: r
        let minQ := let q := fld s 0x280C 16 10; if q < 1000 then q else 1000
        match computeFit u v (natQ (fld s 0x280C 0 16) / 1000000) minQ j.capture j.refTs with
        | none => s1
        | some (f, rejected) =>
          let s2 := { s1 with ox := { s1.ox with computed := s1.ox.computed + 1 } }
          if rejected then { s2 with ox := { s2.ox with rejected := satInc s2.ox.rejected } }
          else
            let had := (held s2 c).fit.isSome
            let s3 := pendMod s2 c fun h => { h with fit := some f }
            { s3 with ox := { s3.ox with dropped := if had then satInc s3.ox.dropped else s3.ox.dropped } }

end Sys2Proof.Machine
end

