-- ==== Sys2Proof/Machine/TableCmds.lean ====
section
/-! DEFINITION. The commands of the channel table, the channel cache and the Mule as their block runs them in order of arrival (R35,
R117–R120, R126, R128–R130, R144; log 21). -/

namespace Sys2Proof.Machine

/-- A command of the block before its operands are filled in. -/
def CtWait.of (t : Ticket) (kind first count : Nat) (bit : Bool) : CtWait :=
  { ticket := t, kind := kind, first := first, count := count, bit := bit, src := 0, mask := 0, chunks := [], nChunks := 0
    srcFault := false, tabFault := false, bad := [] }

/-- How a command stands: it waits, or it completes with a status and a result. -/
abbrev CtEnd := Option (Nat × DWord)

/-! ### Cache commands (R126, R128–R130) -/

/-- A channel lies in a batch in flight. -/
def inBatch (s : State) (c : Nat) : Bool := s.ox.inFlight.contains (c / 496)

/-- Bit mask of 2,048 bits from a byte mask of 256 bits, bytes 0–223 only (Table 2-12, CE_UPDATE). -/
def byteMask (m : BitVec 256) : Entry :=
  (List.range 224).foldl (fun (a : Entry) i => if bitOf m i then a ||| maskOf 2048 (8 * i) 8 else a) 0

/-- CE_UPDATE selects every byte 0–223. -/
def fullMask (m : BitVec 256) : Bool := bitsOf m 0 224 = 2 ^ 224 - 1

/-- A failed fetch of the command's channel: HOST_ACCESS where the read of table memory failed, CRC_ERROR where R131 did. CRC_ERROR for a
failure of generation or identity too, and for an unused channel, is DESIGN CHOICE (log 110): R128 names the CRC alone. -/
def fetchFailed (s : State) (w : CtWait) : State × CtEnd :=
  if w.tabFault then (ctHostErr s, some (stHostAccess, 0)) else (s, some (stCrcError, 0))

/-- The identity that CE_UPDATE must keep: what the directory implies, or of an unused channel what the entry says (R129, R133). -/
def keepsIdentity (s : State) (c : Nat) (old new : Entry) : Bool :=
  match dirIdentity s.ct.dir c with
  | some (k, n, t) => eKind new = k && eNode new = n && eTap new = t && eGen new = s.ct.gen.toNat
  | none => eKind new = eKind old && eNode new = eNode old && eTap new = eTap old && eGen new = eGen old

/-- The entry that CE_UPDATE merges into, cached: with a full mask an entry not cached is taken from its host copy unchecked, since every
byte of it but WRITE_SEQ is replaced; WRITE_SEQ counts on from the host copy's (DESIGN CHOICE, log 110). -/
def updateFetch (s : State) (w : CtWait) : State × Option Bool :=
  let c := w.first
  if (line s c).isSome then fetchChannel s w.bad c false false
  else if w.tabFault then (if tableReach s then (s, some false) else (s, none))
  else if fullMask w.mask then
    if !tableReach s then (s, none)
    else match takeWay s c with
    | none => (s, none)
    | some (s1, v) => (putLine s1 c v (entryAt s1 (entryAddr s1 c)) false false false, some true)
  else fetchChannel s w.bad c false false

/-- CE_UPDATE (R128, R129, R133). The source read counts after RANGE and REFUSED, the lowest code first (R91). -/
def ceUpdate (s : State) (w : CtWait) : State × CtEnd :=
  let c := w.first
  let m := s.ct.mule
  if s.ct.count ≤ c then (s, some (stRange, 0))
  else if (m.phase = 1 || m.phase = 3) && bitsOf w.mask 0 64 ≠ 0 then (s, some (stRefused, 0))
  else if w.srcFault then (s, some (stHostAccess, 0))
  else match updateFetch s w with
  | (s1, none) => (s1, none)
  | (s1, some false) => fetchFailed s1 w
  | (s1, some true) =>
    match line s1 c with
    | none => fetchFailed s1 w
    | some l =>
      let e := mergeMask l.data w.src (byteMask w.mask)
      if !keepsIdentity s1 c l.data e then ((if (line s c).isNone && fullMask w.mask then dropLine s1 c else s1), some (stRefused, 0))
      else
        let e2 := eSeal e
        let s2 := setLine s1 c { l with data := e2, dirty := true }
        let s3 := { s2 with ct := { s2.ct with excluded := if fullMask w.mask then s2.ct.excluded.filter (· ≠ c) else s2.ct.excluded } }
        ((if bitsOf w.mask 64 160 ≠ 0 then logChange c s3 else s3), some (stSuccess, BitVec.ofNat 64 (eN e2 248 4)))

/-- Entries of a range that are dirty. -/
def dirtyIn (s : State) (first n : Nat) : Nat := countIf (fun e : Nat × Line => e.2.dirty && first ≤ e.1 && e.1 < first + n) s.ct.cache

/-- CT_FLUSH over a range; INVALIDATE drops what is not pinned. Returns the entries written back. -/
def ctFlush (s : State) (w : CtWait) : State × CtEnd :=
  let first := w.first
  let n := if w.count = 0 then s.ct.count - first else w.count
  if s.ct.count < first + n || (s.ct.count ≤ first && w.count ≠ 0) || s.ct.count < first then (s, some (stRange, 0))
  else if dirtyIn s first n ≠ 0 && !tableReach s then (s, none)
  else
    let mine := s.ct.cache.filter fun e => first ≤ e.1 && e.1 < first + n
    let s1 := forEach (mine.map Prod.fst) writeBack s
    let s2 := if w.bit then forEach mine (fun e q => if e.2.pinned then q else dropLine q e.1) s1 else s1
    (s2, some (stSuccess, BitVec.ofNat 64 (dirtyIn s first n)))

/-- CE_INVALIDATE over a range, pinned entries included. Returns the entries dropped. -/
def ceInvalidate (s : State) (w : CtWait) : State × CtEnd :=
  let n := w.count
  if s.ct.count < w.first + n then (s, some (stRange, 0))
  else if w.bit && dirtyIn s w.first n ≠ 0 && !tableReach s then (s, none)
  else
    let mine := (s.ct.cache.filter fun e => w.first ≤ e.1 && e.1 < w.first + n).map Prod.fst
    let s1 := if w.bit then forEach mine writeBack s else s
    let s2 := forEach mine (fun c q => dropLine q c) s1
    ({ s2 with ct := { s2.ct with repin := s2.ct.repin.filter fun c => !(decide (w.first ≤ c) && decide (c < w.first + n)) } },
     some (stSuccess, BitVec.ofNat 64 mine.length))

/-- Fetch and pin each channel of a range, stopping at one that must wait. A channel whose fetch fails a check of R131 stays unpinned and
the command goes on (DESIGN CHOICE, log 110). -/
def pinRange (bad : List Nat) : List Nat → State → State × Bool
  | [], s => (s, true)
  | c :: t, s =>
    match fetchChannel s bad c true false with
    | (s1, none) => (s1, false)
    | (s1, some _) => pinRange bad t s1

/-- A range to be pinned contains an unused or excluded channel (R126). -/
def pinAbsent (s : State) (w : CtWait) : Bool :=
  (List.range w.count).any fun i => s.ct.excluded.contains (w.first + i) || (dirIdentity s.ct.dir (w.first + i)).isNone

/-- CE_PIN over a range (R126). NOT_PRESENT for pin = 0 beyond the attached count too is DESIGN CHOICE (log 110): the rule gives it for
pin = 1. -/
def cePin (s : State) (w : CtWait) : State × CtEnd :=
  let cs := (List.range w.count).map (· + w.first)
  let done := fun (q : State) => (q, some (stSuccess, BitVec.ofNat 64 (pinnedCount q)))
  if s.ct.count < w.first + w.count then (s, some (stNotPresent, 0))
  else if !w.bit then
    let s1 := forEach cs (fun c q => match line q c with | some l => setLine q c { l with pinned := false } | none => q) s
    done { s1 with ct := { s1.ct with repin := s1.ct.repin.filter fun c => !cs.contains c } }
  else if pinAbsent s w then (s, some (stNotPresent, 0))
  else
    let fresh := cs.filter fun c => (match line s c with | some l => !l.pinned | none => true) && !s.ct.repin.contains c
    let perSet := fun i => countIf (fun c => c % 256 = i) (fresh ++ s.ct.repin) + countIf (fun e : Nat × Line => e.2.pinned && e.1 % 256 = i) s.ct.cache
    if 512 < pinnedCount s + fresh.length || (fresh.any fun c => 2 < perSet (c % 256)) then (s, some (stLimit, 0))
    else if w.tabFault && tableReach s && (cs.any fun c => (line s c).isNone) then (ctHostErr s, some (stHostAccess, 0))
    else
      match pinRange w.bad cs s with
      | (s1, true) => done s1
      | (s1, false) => (s1, none)

/-! ### Attach and detach (R95, R117–R120, R152) -/

/-- What an attach or a preparation has read so far: the directory, the channels that fail their CRC, PARENT of the CELL channels, the
copies kept on chip of GROUP and PACK entries, T_FILT of the TEMP channels, and the first failure with its status. -/
structure TableScan where
  dir : Sparse DirEntry
  excluded : List Nat
  parents : Sparse Nat
  calib : Sparse Entry
  tfilt : Sparse Int
  bad : Option (FirstBad × Nat)
  deriving DecidableEq, Repr

def TableScan.empty : TableScan := { dir := [], excluded := [], parents := [], calib := [], tfilt := [], bad := none }

/-- Keep on chip what the device needs of an entry between passes (R219, R269; log 108). A TEMP channel with EXCLUDE = 1 has no copy
(R215). -/
def scanKeep (c : Nat) (e : Entry) (t : TableScan) : TableScan :=
  match eKind e with
  | 1 => { t with parents := Sparse.set t.parents c (eParent e) }
  | 2 => { t with calib := Sparse.set t.calib c e }
  | 3 => if eExclude e then t else { t with tfilt := Sparse.set t.tfilt (16 * eNode e + eTap e) (eI e 64 2) }
  | 4 => { t with calib := Sparse.set t.calib c e }
  | _ => t

/-- Check entry `c` of a table of generation `gen`; `crcBad` tells that its CRC fails, after the second read where there is one. In the
attached table an unused entry is skipped first and a CRC failure excludes (R117), keeping the PARENT it reads as (log 108); in a
template every entry carries CRC and GENERATION (R140). Every other failure ends the scan with its reason and status. -/
def scanEntry (gen c : Nat) (attach crcBad : Bool) (e : Entry) (t : TableScan) : TableScan :=
  if t.bad.isSome || (attach && eKind e = 0) then t
  else if crcBad then
    if attach then
      { t with excluded := c :: t.excluded, parents := if eKind e = 1 then Sparse.set t.parents c (eParent e) else t.parents }
    else { t with bad := some ({ reason := 1, index := c }, stCrcError) }
  else if eGen e ≠ gen then { t with bad := some ({ reason := 2, index := c }, stStale) }
  else if eKind e = 0 then t
  else match dirAdd t.dir t.excluded c e with
    | .ok d => scanKeep c e { t with dir := d }
    | .error r => { t with bad := some ({ reason := r, index := c }, stInvalidField) }

/-- An entry's CRC fails, after its second read where CRC_RETRY is 1. -/
def crcFails (s : State) (bad : List Nat) (c : Nat) (e : Entry) : Bool := readsBad s bad c || decide (eN e 252 4 ≠ eCrc e)

/-- Read a whole table for CT_ATTACH. -/
def scanTable (s : State) (bad : List Nat) (count gen : Nat) : TableScan :=
  forUpTo count (fun c t => let e := entryAt s (entryAddr s c); scanEntry gen c true (crcFails s bad c e) e t) TableScan.empty

/-- The table attached is forgotten without a write-back: entries, pins, directory (R120). -/
def forgetTable (s : State) : State :=
  { s with
    ct := { s.ct with cache := [], repin := [], attached := false, excluded := [], dir := [], count := 0, calib := [], parents := [] }
    ox := { s.ox with active := false, inFlight := [], pend := [], work := [], packSum := [], seen := [] }
    mc := { s.mc with tfilt := [] } }

/-- The channels of the parking state that take their record at their first pass: GROUP and PACK channels of the table (R308). -/
def parkDue (s : State) : List Nat :=
  match s.park with
  | some p =>
    if s.ox.parkValid && p.gen = s.ct.gen.toNat then
      (p.recs.map ParkRec.chan).filter fun c => match dirIdentity s.ct.dir c with | some (k, _, _) => k = 2 || k = 4 | none => false
    else []
  | none => []

/-- The day of a cell's last pass starts with the attach where none is held, so that a midnight before its first pass counts (R285; DESIGN
CHOICE, log 54). -/
def trendStart (s : State) : State :=
  let day := calSeconds s / 86400
  { s with ox := { s.ox with trendDay := (kindChannels s 1).foldl (fun t c => if (Sparse.get? t c).isSome then t else Sparse.set t c day) s.ox.trendDay } }

/-- What follows a table just attached: parking records to take, the threshold (R246), and the tap profiles of every running port
(R189). -/
def afterAttach (s : State) : State :=
  let s1 := threshCompute (trendStart { s with ox := { s.ox with parkLeft := parkDue s } })
  linkGo (forEach (runningPorts s1) (fun p q =>
    let q1 := seeAll ((positions q p).flatMap fun k => tapChannels q (32 * p + k)) q
    enq q1 p ((positions q1 p).flatMap fun k => tapProfiles q1 (32 * p + k) 6)) s1)

/-- CT_ATTACH with RESUME = 0 (R117, R118, R120): the old table goes, and its detector threshold with it where the new one fails
(R246). HOLD is cleared by SUCCESS only (DESIGN CHOICE, log 123: R153 says no more than 'completed'; after a failure there is no table to
access). -/
def attachFresh (s : State) (w : CtWait) : State × CtEnd :=
  let gen := fld s 0x200C 0 16
  let s1 := forgetTable (muleAbort s)
  if w.tabFault then (threshCompute (ctHostErr s1), some (stHostAccess, 0))
  else
    let t := scanTable s1 w.bad w.count gen
    let s2 := forEach t.excluded.reverse (fun c q => raise { q with ct := { q.ct with crcErrs := satInc q.ct.crcErrs } } 29
      (pack 64 [(0, 18, c), (20, 4, 1), (32, 16, gen)])) s1
    match t.bad with
    | some (b, st) => (threshCompute { s2 with ct := { s2.ct with firstBad := some b } }, some (st, 0))
    | none =>
      (afterAttach { s2 with
        ct := { s2.ct with attached := true, hold := false, gen := BitVec.ofNat 16 gen, count := w.count, dir := t.dir
                           excluded := t.excluded, calib := t.calib, parents := t.parents }
        ox := { s2.ox with epoch := 0, started := false }
        mc := { s2.mc with tfilt := t.tfilt } },
       some (stSuccess, BitVec.ofNat 64 gen))

/-- RESUME = 1 without a table attached, or with another count (R119). -/
def attachRefused (s : State) (w : CtWait) : Bool := !s.ct.attached || decide (w.count ≠ s.ct.count)

/-- CT_ATTACH with RESUME = 1 (R95, R119, R152): dirty entries are written back and work continues; a copy epoch cut by the
event is repeated in full. -/
def attachResume (s : State) (w : CtWait) : State × CtEnd :=
  if attachRefused s w then (s, some (stRefused, 0))
  else
    let s1 := flushAll { s with ct := { s.ct with hold := false } }
    let m := s1.ct.mule
    (withReads w.tabFault refetchPinned { s1 with ct := { s1.ct with mule := { m with again := m.again || (s.ct.hold && m.phase = 3) } } },
     some (stSuccess, BitVec.ofNat 64 s.ct.gen.toNat))

/-- CT_ATTACH (R119). Its reads and write-backs wait for the host (R56). -/
def ctAttach (s : State) (w : CtWait) : State × CtEnd :=
  if w.count = 0 || 262144 < w.count || fld s 0x2014 0 6 * 8192 < w.count then (s, some (stRange, 0))
  else if w.bit && attachRefused s w then (s, some (stRefused, 0))
  else if !canMaster s then (s, none)
  else if w.bit then attachResume s w
  else attachFresh s w

/-- CT_REBUILD (R144): the shadow chunk list has been read, where its length is one. Every chunk listed is used, since the switch takes the
list as a whole (R150). The lowest code that applies is reported (R91). -/
def ctRebuild (s : State) (w : CtWait) : State × CtEnd :=
  let n := w.count
  let k := w.nChunks
  let range := k = 0 || 32 < k || n = 0 || 262144 < n || 8192 * k < n
  if !w.srcFault && w.chunks.any (fun c => c.toNat % 2097152 ≠ 0) then (s, some (stAlignment, 0))
  else if range then (s, some (stRange, 0))
  else if !s.ct.attached || s.ct.hold || s.ct.mule.phase ≠ 0 then (s, some (stRefused, 0))
  else if w.srcFault then (s, some (stHostAccess, 0))
  else
    let g := s.ct.gen + 1
    ({ s with ct := { s.ct with mule := { Mule.reset with phase := 1, nextGen := g, chunks := w.chunks, count := n } } },
     some (stSuccess, BitVec.ofNat 64 g.toNat))

/-! ### The order of the commands (R35, R130) -/

/-- The command touches a channel of a batch in flight and must wait (R130). -/
def ctBlocked (s : State) (w : CtWait) : Bool :=
  w.kind ≤ 2 &&
    s.ox.inFlight.any fun b =>
      let n := if w.kind = 1 then 1 else if w.kind = 0 && w.count = 0 then s.ct.count - w.first else w.count
      w.first < 496 * b + 496 && 496 * b < w.first + n

/-- While HOLD is set the table is not accessed until a CT_ATTACH completes: a command that would access it completes with REFUSED, so that
the CT_ATTACH behind it can run (R95; DESIGN CHOICE, log 21). A lower code of the command's own checks goes first (R91). -/
def ctHeld (s : State) (w : CtWait) : Bool :=
  s.ct.hold && (w.kind = 0 || w.kind = 1 || (w.kind = 2 && w.bit) || (w.kind = 3 && w.bit))

/-- The channels that a command names lie in the table, where R128 and R130 ask for that. -/
def ctInRange (s : State) (w : CtWait) : Bool :=
  decide (w.first + (if w.kind = 1 then 1 else w.count) ≤ s.ct.count) && (w.kind ≠ 0 || w.count = 0 || decide (w.first < s.ct.count))

/-- A command of the block by its kind. -/
def ctMeaning (w : CtWait) (s : State) : State × CtEnd :=
  match w.kind with
  | 0 => ctFlush s w
  | 1 => ceUpdate s w
  | 2 => ceInvalidate s w
  | 3 => cePin s w
  | 4 => ctAttach s w
  | _ => ctRebuild s w

/-- Run one command of the block; none when it must wait on. Its reads end in an error by its own operands alone (log 108). -/
def ctRun (s : State) (w : CtWait) : State × CtEnd :=
  if ctHeld s w && ctInRange s w then (s, some (if w.kind = 3 && pinAbsent s w then stNotPresent else stRefused, 0))
  else if ctBlocked s w && ctInRange s w then (s, none)
  else
    let r := ctMeaning w { s with ct := { s.ct with fails := false } }
    ({ r.1 with ct := { r.1.ct with fails := s.ct.fails } }, r.2)

/-- Run the waiting commands in order, up to one that must wait. -/
def ctProgress : Nat → State → State
  | 0, s => s
  | n + 1, s =>
    match s.ct.waits with
    | [] => s
    | w :: t =>
      match ctRun s w with
      | (s1, none) => s1
      | (s1, some (st, r)) => ctProgress n (complete { s1 with ct := { s1.ct with waits := t } } w.ticket st r)

/-- Go on with the waiting commands after an event. -/
def ctGo (s : State) : State := ctProgress (s.ct.waits.length + 1) s

/-- A command arrives behind those that wait. -/
def ctSubmit (s : State) (w : CtWait) : State := ctGo { s with ct := { s.ct with waits := s.ct.waits ++ [w] } }

/-- ATTACHING: a CT_ATTACH is in progress (Table 3-6). -/
def ctAttaching (s : State) : Bool := match s.ct.waits with | w :: _ => w.kind = 4 | [] => false

/-- DETACH: the epoch in progress ends, dirty entries are written back, everything is dropped (Table 3-6, R152). Commands that wait end
with ABORTED (log 21). An epoch ended so drops its batches in flight, raises no EV27 and is not counted (DESIGN CHOICE, log 123). -/
def detach (s : State) : State :=
  if !s.ct.attached then s
  else
    let s1 := if s.ct.hold then s else flushAll s
    let s2 := forgetTable (muleAbort s1)
    completeAll { s2 with ct := { s2.ct with waits := [] } } (s2.ct.waits.map CtWait.ticket) stAborted 0

/-- The host's memory can be reached again: what waited for it goes on (R56). -/
def tableAgain (s : State) : State := ctGo (masterAgain s)

end Sys2Proof.Machine
end

