-- ==== Sys2Proof/Machine/Tables.lean ====
section
/-! DEFINITION. Meanings of the commands and events of the channel table, the channel cache and the Mule
(03_channel_table.md). -/

namespace Sys2Proof.Machine

/-! ### Table 2-12 -/

def specCtAttach : OpSpec :=
  { opcode := 0x10, target := 0, align := 0, ops := pack 384 [(0, 1, 1), (32, 32, 0xFFFFFFFF)], mpOk := false, dom := some 4, fsRefused := false }
def specCtFlush : OpSpec :=
  { opcode := 0x11, target := 0xFFFFFFFF, align := 0, ops := pack 384 [(0, 32, 0xFFFFFFFF), (32, 1, 1)], mpOk := false, dom := some 4, fsRefused := false }
def specCeUpdate : OpSpec :=
  { opcode := 0x12, target := 0xFFFFFFFF, align := 256, ops := maskOf 384 0 256, mpOk := false, dom := some 4, fsRefused := false }
def specCeInvalidate : OpSpec :=
  { opcode := 0x13, target := 0xFFFFFFFF, align := 0, ops := pack 384 [(0, 32, 0xFFFFFFFF), (32, 1, 1)], mpOk := false, dom := some 4, fsRefused := false }
def specCtRebuild : OpSpec :=
  { opcode := 0x14, target := 0, align := 256, ops := maskOf 384 0 64, mpOk := false, dom := some 4, fsRefused := false }
def specCePin : OpSpec :=
  { opcode := 0x15, target := 0xFFFFFFFF, align := 0, ops := pack 384 [(0, 32, 0xFFFFFFFF), (32, 1, 1)], mpOk := false, dom := some 4, fsRefused := false }

/-! ### Commands -/

/-- `CT_ATTACH` (R95, R117–R120, R189, R246). A table read fails (`hostFault`); entries arrive corrupted (`bad`). -/
def execCtAttach (rq : Requester) (d : Desc) (hostFault : Bool) (bad : List Nat) (s : State) : Host.Outcome State Fault Refusal :=
  .next (command specCtAttach rq d (fun q t =>
    ctSubmit q { CtWait.of t 4 0 (opn d 20 0 32) (bitOf d.ops 0) with tabFault := hostFault, bad := bad }) s)

/-- `CT_FLUSH` (R130, R139). -/
def execCtFlush (rq : Requester) (d : Desc) (s : State) : Host.Outcome State Fault Refusal :=
  .next (command specCtFlush rq d (fun q t => ctSubmit q (CtWait.of t 0 d.target.toNat (opn d 16 0 32) (bitOf d.ops 32))) s)

/-- `CE_UPDATE` (R128–R130, R133). The read of the source fails (`hostFault`), or that of the entry (`tableFault`). -/
def execCeUpdate (rq : Requester) (d : Desc) (hostFault tableFault : Bool) (bad : List Nat) (s : State) : Host.Outcome State Fault Refusal :=
  .next (command specCeUpdate rq d (fun q t =>
    ctSubmit q { CtWait.of t 1 d.target.toNat 1 false with
      src := BitVec.ofNat 2048 (leNat (cmdRead q rq d.addr.toNat 256)), mask := d.ops.setWidth 256
      srcFault := hostFault, tabFault := tableFault, bad := bad }) s)

/-- `CE_INVALIDATE` (R130). -/
def execCeInvalidate (rq : Requester) (d : Desc) (s : State) : Host.Outcome State Fault Refusal :=
  .next (command specCeInvalidate rq d (fun q t => ctSubmit q (CtWait.of t 2 d.target.toNat (opn d 16 0 32) (bitOf d.ops 32))) s)

/-- `CE_PIN` (R126). A read of an entry fails (`tableFault`); entries arrive corrupted (`bad`). -/
def execCePin (rq : Requester) (d : Desc) (tableFault : Bool) (bad : List Nat) (s : State) : Host.Outcome State Fault Refusal :=
  .next (command specCePin rq d (fun q t =>
    ctSubmit q { CtWait.of t 3 d.target.toNat (opn d 16 0 32) (bitOf d.ops 32) with tabFault := tableFault, bad := bad }) s)

/-- The shadow chunk list at an address. -/
def readChunks (s : State) (rq : Requester) (a n : Nat) : List DWord :=
  (pieces 8 n (cmdRead s rq a (8 * n))).map fun b => BitVec.ofNat 64 (leNat b)

/-- `CT_REBUILD` (R144). -/
def execCtRebuild (rq : Requester) (d : Desc) (hostFault : Bool) (s : State) : Host.Outcome State Fault Refusal :=
  .next (command specCtRebuild rq d (fun q t =>
    let k := opn d 20 0 32
    ctSubmit q { CtWait.of t 5 0 (opn d 16 0 32) false with
      chunks := readChunks q rq d.addr.toNat (if k ≤ 32 then k else 0), nChunks := k, srcFault := hostFault }) s)

/-- A write of CT_CTRL: SCRUB_EN and CRC_RETRY, then DETACH (Table 3-6). -/
def ctCtrlWrite (s : State) (w : Word) : State :=
  let s1 := wr s 0x2000 w 0x6
  if bitOf w 0 then detach s1 else s1

/-- `DETACH` (R153). -/
def execDetach (via : Via) (w : Word) (s : State) : Host.Outcome State Fault Refusal :=
  .next (if rowReach s via && domOn s 4 && rootAlive s then ctCtrlWrite s w else s)

/-! ### Scrub and Mule -/

/-- `CACHE_SCRUB` (R134–R136): the errors found while every way is read. A refetch of R127 may end in an error (`fault`, log 108). -/
def execCacheScrub (errs : List (Nat × Nat)) (fault : Bool) (s : State) : Host.Outcome State Fault Refusal :=
  .next (if domOn s 4 && rootAlive s && flag s 0x2000 2 then withReads fault (fun q => cacheErrors q errs) s else s)

/-- Read template entries from `prepNext` on; the first that breaks R140 abandons the rebuild (R146). -/
def prepRead (bad : List Nat) : Nat → State → State
  | 0, s => s
  | n + 1, s =>
    let m := s.ct.mule
    if m.phase ≠ 1 then s
    else
      let c := m.prepNext
      let e := entryAt s (shadowAddr s c)
      let r := scanEntry m.nextGen.toNat c false (crcFails s bad c e) e { TableScan.empty with dir := m.dir, parents := m.parents }
      let caps := if eKind e = 2 || eKind e = 4 then Sparse.set m.caps c (eN e 38 4) else m.caps
      match r.bad with
      | some (b, st) => muleEnd { s with ct := { s.ct with firstBad := some b } } st 0
      | none =>
        prepRead bad n { s with ct := { s.ct with mule := { m with
          dir := r.dir, parents := r.parents, caps := caps, tseq := if eCarry e && eKind e ≠ 0 then Sparse.set m.tseq c (eN e 248 4) else m.tseq
          prepNext := c + 1, phase := if c + 1 < m.count then 1 else 2 } } }

/-- `MULE_PREPARE` (R145): the reads of one ms; one of them may end in an error (`fault`), after which that ms brings none (log 108). -/
def execMulePrepare (fault : Bool) (bad : List Nat) (s : State) : Host.Outcome State Fault Refusal :=
  .next (
    if !(rootAlive s && tableReach s && s.ct.mule.phase = 1) then s
    else if fault then ctHostErr s
    else prepRead bad (clampN 1 100 (fld s 0x2028 0 7)) s)

/-- What the copy epoch's stream did not reach is written at its end: a CARRY entry without a g entry, or whose g entry is
excluded, takes its kind's initial state (R142, R147); one whose template read failed in its batch is tried again. -/
def muleRest (bad : List Nat) (s : State) : State :=
  forUpTo s.ct.mule.count (fun h q => if q.ct.mule.copied.contains h then q else carryOne bad h q) s

/-- Move what is held by channel of g to the channels of g + 1 that carry it: a CARRY = 0 entry is used exactly as written (R141). -/
def reindex {β : Type} (s : State) (t : Sparse β) : Sparse β :=
  t.foldl (fun a e => match counterpart s e.1 with
    | some h => if s.ct.mule.copied.contains h then Sparse.set a h e.2 else a
    | none => a) []

/-- The copies on chip of the table in force, read entry by entry: GROUP and PACK entries, T_FILT of the TEMP channels (R219). -/
def copiesFill (s0 : State) : State :=
  let ks := [2, 3, 4].flatMap (kindChannels s0)
  let s := seeAll ks s0
  let t := ks.foldl (fun (a : TableScan) c => match seeEntry s c with | some e => scanKeep c e a | none => a) TableScan.empty
  { s with ct := { s.ct with calib := t.calib }, mc := { s.mc with tfilt := t.tfilt } }

/-- An epoch starts (R267, R30, R268). -/
def epochStart (s : State) : State :=
  { s with ox := { s.ox with
      active := true, started := true, nextBatch := 0, inFlight := [], maxBatches := if pinnedCount s = 0 then 6 else 5
      overran := false, paused := !tableReach s, fitsApplied := 0 } }

/-- Install generation g + 1 (R150 steps 3 and 4). -/
def muleInstall (s : State) : State :=
  let m := s.ct.mule
  let work := (reindex s s.ox.work).map fun e =>
    (e.1, { e.2 with cond := reindex s e.2.cond, pendKids := e.2.pendKids.filterMap (counterpart s) })
  let packs := s.ox.packSum.foldl (fun (t : Sparse PackSum) e => match counterpart s e.1 with | some h => Sparse.set t h e.2 | none => t) []
  let seen := (reindex s s.ox.seen).filterMap fun e => (counterpart s e.2.1).map fun p => (e.1, (p, e.2.2))
  let ox := { s.ox with packSum := packs, seen := seen, pend := reindex s s.ox.pend, work := work, trendDay := reindex s s.ox.trendDay
                        parkLeft := (s.ox.parkLeft.filterMap (counterpart s)).filter m.copied.contains }
  let s1 := { s with ox := ox, ct := { s.ct with cache := [], repin := [], calib := [], parents := m.parents, dir := m.dir,
                                                 count := m.count, gen := m.nextGen, excluded := m.failed } }
  let s2 := forUpTo m.chunks.length (fun k q =>
    let a := (m.chunks[k]?).getD 0
    wr (wr q (0x2100 + 8 * k) (a.setWidth 32) 0xFFE00000) (0x2104 + 8 * k) (a.extractLsb' 32 32) 0xFFFFFFFF) s1
  wrFld s2 0x2014 0 6 m.chunks.length

/-- Replay one record: the g entry, from the cache when held, into its counterpart (R150 step 2). -/
def muleReplayOne (bad : List Nat) (r : Nat × Nat) (s : State) : State :=
  match line s r.1 with
  | some l => carryInto bad r.2 (fun _ => l.data) s
  | none =>
    let e := entryAt s (entryAddr s r.1)
    if s.ct.excluded.contains r.1 then s
    else match readFault s bad r.1 e with
    | none => carryInto bad r.2 (fun _ => e) s
    | some f => excludeChannel s r.1 f

/-- The switch of R150, of which no read ends in an error: the rest of the copies and the changes that stand in the cache, the replay, g + 1
installed with the copies on chip of its table (R219, R246), and the next epoch. -/
def muleSwitched (bad : List Nat) (s : State) : State :=
  let s0 := forEach (s.ct.cache.filter fun e => e.2.dirty) (fun e q => logChange e.1 (writeBack e.1 q)) (muleRest bad s)
  let s1 := muleRecopy s0
  let s2 := forEach (logRecords s1) (muleReplayOne bad) s1
  epochStart (threshCompute (copiesFill (muleEnd (muleInstall s2) stSuccess s1.ct.mule.log.length)))

/-- `MULE_SWITCH` (R150): what the stream did not reach is written, the delta log is replayed, g + 1 installed, and the next epoch starts. A
second copy of R149 that is still open at the end of the copy epoch has kept the switch from being due. One of its reads of the log area or
of a table may end in an error (`fault`), after which the switch is to be tried again (log 108); entries arrive corrupted (`bad`). -/
def execMuleSwitch (fault : Bool) (bad : List Nat) (s : State) : Host.Outcome State Fault Refusal :=
  .next (
    if s.ct.mule.phase ≠ 4 || !tableReach s then s
    else if fault then ctHostErr s
    else
      ctGo (withReads false (muleSwitched bad) s))

end Sys2Proof.Machine
end

