-- ==== Sys2Proof/Machine/Estimator.lean ====
section
/-! DEFINITION. Meanings of the Ox engine's events and commands, and the backup gauge (06_state_estimation.md; logs 55, 56). -/

namespace Sys2Proof.Machine

/-! ### Registers (Table 6-10) -/

/-- The Ox engine's registers. -/
def oxReg (off : Nat) : Bool := decide (0x2800 ≤ off) && decide (off < 0x3000)

/-- A LIVE write of the Ox engine waits for the next epoch boundary (R313). -/
def oxLive (s : State) (off : Nat) (w : Word) : State := { s with regs := { s.regs with late := s.regs.late ++ [(off, w)] } }

/-- A write of OX_CTRL: COMMIT captures the staged curve (R18, R19), FIT_EN is LIVE. -/
def oxCtrlWrite (s : State) (w : Word) : State :=
  oxLive (if bitOf w 1 && !s.ox.commit then { s with regs := s.regs.capture oxReg, ox := { s.ox with commit := true } } else s) 0x2800 w

/-- `OX_COMMIT` (R313). -/
def execOxCommit (via : Via) (w : Word) (s : State) : Host.Outcome State Fault Refusal :=
  .next (if rowReach s via && domOn s 4 && rootAlive s then oxCtrlWrite s w else s)

/-! ### Epochs (R267–R271, R29) -/

/-- The engine's clocks run. -/
def oxRuns (s : State) : Bool := domOn s 4 && rootAlive s

/-- What the Mule does at an epoch boundary: a copy epoch begins; it is repeated in full when it was cut or when a second copy of R149 is
not finished; or it has ended and no epoch starts before the switch (R145, R149, R150, R152). None when no epoch starts here. -/
def muleBoundary (s : State) : Option State :=
  let m := s.ct.mule
  let copyFrom := fun (n : Nat) => { s with ct := { s.ct with mule := { m with
    phase := 3, copyEpochs := n, copied := [], log := [], recopy := [], again := false } } }
  match m.phase with
  | 2 => some (copyFrom 1)
  | 3 => if m.again || !m.recopy.isEmpty then some (copyFrom (m.copyEpochs + 1)) else none
  | 4 => none
  | _ => some s

/-- The end of the copy epoch: the replay begins. While the table cannot be reached it waits (R56), and a
boundary passed meanwhile starts no epoch (R150). -/
def muleReplay (s : State) : State :=
  if s.ct.mule.phase = 3 && tableReach s then
    { s with ct := { s.ct with mule := { s.ct.mule with phase := 4 } } }
  else s

/-- `EPOCH_BOUNDARY` (R16, R18, R118, R231, R267, R270). -/
def execEpochBoundary (s : State) : Host.Outcome State Fault Refusal :=
  .next (
    if !oxRuns s then s
    else
      let s1 := { s with
        regs := (s.regs.applyLate s.otp oxReg).applyCaptured s.otp oxReg
        ox := { s.ox with commit := false }
        lp := { s.lp with latchDue := true } }
      if s1.ox.active then
        { s1 with ox := { s1.ox with overruns := satInc s1.ox.overruns, overran := true, paused := s1.ox.paused || !tableReach s1 } }
      else if !s1.ct.attached then s1
      else match muleBoundary s1 with
      | some s2 => epochStart s2
      | none => muleReplay s1)

/-- The attached channels of batch `b` that take part: neither unused nor excluded under R117 or R132 (R123). A channel with EXCLUDE = 1 is
fetched, pinned and carried like any other and only makes no estimate at its pass (DESIGN CHOICE, log 110: Table 3-1 keeps the Ox engine from
estimating it and says nothing of the cache). -/
def batchChannels (s : State) (b : Nat) : List Nat :=
  ((List.range 496).map (· + 496 * b)).filter fun c =>
    decide (c < s.ct.count) && !s.ct.excluded.contains c && (dirIdentity s.ct.dir c).isSome

/-- Every set can reserve a way for each channel not already present (R123). -/
def batchFits (s : State) (cs : List Nat) : Bool :=
  let absent := cs.filter fun c => (line s c).isNone
  absent.all fun c =>
    let kept := (setLines s c).filter fun e => e.2.pinned || e.2.reserved || cs.contains e.1
    decide (kept.length + countIf (fun x => x % 256 = c % 256) absent ≤ 12)

/-- `BATCH_FETCH` (R30, R123, R131); `errs` are cache errors met on the way, `fault` an access that ends in an error, after which the batch
waits to be fetched again (log 108), and `bad` the entries that arrive corrupted. -/
def execBatchFetch (errs : List (Nat × Nat)) (fault : Bool) (bad : List Nat) (s : State) : Host.Outcome State Fault Refusal :=
  .next (
    let b := s.ox.nextBatch
    if !(oxRuns s && tableReach s && s.ox.active) || s.ct.count ≤ 496 * b || s.ox.maxBatches ≤ s.ox.inFlight.length then s
    else
      let s0 := withReads false (fun q => refetchPinned (cacheErrors q errs)) s
      let cs := batchChannels s0 b
      if !batchFits s0 cs then s0
      else if fault then ctHostErr s0
      else withReads false (fun q =>
        let held := forEach (cs.filter fun c => (line q c).isSome) (fun c q1 => (fetchChannel q1 bad c false true).1) q
        let s1 := forEach (cs.filter fun c => (line s0 c).isNone) (fun c q1 => (fetchChannel q1 bad c false true).1) held
        { s1 with ox := { s1.ox with nextBatch := b + 1, inFlight := s1.ox.inFlight ++ [b] } }) s0)

/-- Put a passed entry back: changed entries are written back, with the Mule's part (R114, R125, R147). -/
def passBack (x : Nat × Entry) (s : State) : State :=
  match line s x.1 with
  | none => s
  | some l => muleCopy x.1 (writeBack x.1 (setLine s x.1 { l with data := x.2, dirty := l.dirty || decide (l.data ≠ x.2), reserved := false }))

/-- `BATCH_PASS` (R125, R268): the oldest batch in flight. Its reads, refetches of R127 and those of the Mule for its copies, may end in an error
(`fault`): what the Mule did not copy is copied at the end of the copy epoch (log 108). -/
def execBatchPass (errs : List (Nat × Nat)) (fault : Bool) (s : State) : Host.Outcome State Fault Refusal :=
  .next (
    match s.ox.inFlight with
    | [] => s
    | b :: rest =>
      if !(oxRuns s && tableReach s && s.ox.active) then s
      else
        ctGo (withReads fault (fun q =>
          let s0 := cacheErrors q errs
          let mine := (s0.ct.cache.filter fun e => e.2.reserved && e.1 / 496 = b).map fun e => (e.1, e.2.data)
          let r := batchPass s0 mine
          let s1 := forEach r.2 passBack r.1
          muleRecopy { s1 with ox := { s1.ox with inFlight := rest } }) s))

/-- A whole epoch has passed: a channel of the parking state that cannot pass, being excluded or marked EXCLUDE, no longer keeps PARK_VALID
set (R308; DESIGN CHOICE, log 55). One whose node is quarantined still takes its record at its first pass. -/
def parkSkip (s : State) : State :=
  if s.ox.parkLeft.isEmpty then s
  else
    let l := s.ox.parkLeft.filter fun c => !s.ct.excluded.contains c && !(match calOf s c with | some e => eExclude e | none => false)
    { s with ox := { s.ox with parkLeft := l, parkValid := s.ox.parkValid && !l.isEmpty } }

/-- `EPOCH_END` (R271). -/
def execEpochEnd (s : State) : Host.Outcome State Fault Refusal :=
  .next (
    if !(oxRuns s && tableReach s && s.ox.active && s.ct.count ≤ 496 * s.ox.nextBatch && s.ox.inFlight.isEmpty) then s
    else
      let n := s.ox.epoch + 1
      raise { parkSkip s with ox := { (parkSkip s).ox with epoch := n, active := false } } 27
        (pack 64 [(0, 32, n.toNat), (32, 16, sat16 s.ox.fitsApplied), (48, 1, b2n s.ox.overran), (49, 1, b2n s.ox.paused)]))

/-- `FIT_COMPUTE` (R273–R277): the next fit that waits. -/
def execFitCompute (s : State) : Host.Outcome State Fault Refusal := .next (if oxRuns s then fitCompute s else s)

/-! ### The backup gauge (R312, Table 6-9; R477–R481) -/

/-- EV44 with its kind. -/
def ev44 (s : State) (kind : Nat) : State := raise s 44 (pack 64 [(0, 16, s.gauge.socRep), (16, 2, kind)])

/-- The initial state of R304 with a CAPACITY. -/
def gaugeInit (g : Gauge) (cap : Nat) : Gauge :=
  { Gauge.zero with charge := 1800 * cap, capEst := cap, lastQb := g.lastQb, gap := g.gap, fresh := false }

/-- The gauge starts over; its CAPACITY is the configuration's, or the next one's (R304, R485). -/
def gaugeReset (s : State) : State :=
  { s with gauge := match s.chg.cfg with
      | some b => gaugeInit s.gauge (cU b 32 4)
      | none => { Gauge.zero with lastQb := s.gauge.lastQb, gap := s.gauge.gap } }

/-- The gauge's OCV table, mV per cell. -/
def gaugeOcv (b : BitVec 512) : List Nat := (List.range 21).map (ocvPoint b)

/-- The fit of a capture: RS and RP taken directly, in µΩ (Table 6-9). -/
def gaugeFit (s : State) (g : Gauge) : Gauge :=
  match s.chg.capture with
  | none => g
  | some c =>
    let u : List Rat := c.samples.map fun x => ((x.1 : Int) : Rat) / 100
    let v0 : Rat := match c.samples with | [] => 0 | x :: _ => ((x.2 : Int) : Rat)
    let v : List Rat := c.samples.map fun x => (((x.2 : Int) : Rat) - v0) / 4000
    let minQ := let q := fld s 0x280C 16 10; if q < 1000 then q else 1000
    match computeFit u v (natQ (fld s 0x280C 0 16) / 1000000) minQ 0 0 with
    | some (f, false) =>
      { g with rs := fitN 4 (roundQ (f.rs * 1000000)).toNat, rp := fitN 4 (roundQ (f.rp * 1000000)).toNat
               tau := fitN 2 (roundQ (f.tau * 10000)).toNat, confRs := f.cRs, rsSet := true }
    | _ => g

/-- Minutes of rest that have brought a rest anchor: 20, then each further 60 (R290). -/
def gaugeRestDue (sec : Nat) : Bool := decide (1200 ≤ sec) && decide ((sec - 1200) % 3600 = 0)

/-- Charge by an epoch in mA·s, and the equivalent full cycles it makes: one for twice the capacity moved (log 56). -/
def gaugeCount (g : Gauge) (cap : Nat) (added : Int) : Gauge :=
  let t := g.through + ((added.natAbs : Int) : Rat)
  let unit : Rat := natQ (72 * cap)
  let n := if cap = 0 then 0 else (t / unit).floor.toNat
  { g with charge := g.charge + added, qRef := g.qRef + (added : Rat), cycles := g.cycles + n, through := t - unit * natQ n }

/-- One epoch under a configuration. -/
def gaugeStep (s : State) (b : BitVec 512) (g0 : Gauge) (added : Int) : Gauge :=
  let cap := cU b 32 4
  let g1 := gaugeFit s (if g0.fresh then gaugeInit g0 cap else g0)
  let g := gaugeCount g1 cap added
  let on := !domOff s 11
  let i : Rat := ((s.chg.ib : Int) : Rat) / 100
  let mv : Rat := natQ s.chg.vb / 4
  let mag : Rat := if i < 0 then -i else i
  let rest := if !on then g.restSec else if mag * 200000 < natQ cap then g.restSec + 1 else 0
  let t := gaugeOcv b
  let ok := ocvValid t && on
  let ts := stamp s
  let dv : Rat := i * natQ g.rs / 1000
  let persist := let n := fld s 0x2814 0 4; if n = 0 then 1 else n
  let eod := if on && i < 0 && mv ≤ natQ (cU b 36 2) + dv then g.eodRun + 1 else 0
  let eoc := if on && 0 < i && natQ (cU b 38 2) + dv ≤ mv then g.eocRun + 1 else 0
  let x0 : Est := { charge := g.charge, capEst := g.capEst, socConf := g.socConf, status := g.status, anchorKind := g.anchorKind
                    anchorTime := g.anchorTime, anchors := if g.anchorKind = 0 then 0 else 1, sRef := g.sRef, qRef := g.qRef, lastV := none
                    firstAnchor := false }
  let x1 := ageAnchor (calSeconds s) (if ok && rest ≠ g.restSec && gaugeRestDue rest then restAnchor t mv ts x0 else x0)
  -- the gauge counts the age of its voltage anchor in its own epochs, which go on through a chip-level reset
  let age := g.lastV.map (· + 1)
  let old := match age with | some v => decide (60 ≤ v) | none => true
  let x2 := if ok && old && mag * 20000 < natQ cap && (g.rsSet || x1.socConf = 0) then voltAnchor t (mv - dv) (natQ g.confRs) ts 0 x1 else x1
  let x3 := endEvents (decide (persist ≤ eod)) (decide (persist ≤ eoc)) (added : Rat) (wearConf (added : Rat) x2)
  let x4 := clearEnds (added : Rat) (if on then some (mv - dv) else none) (cU b 36 2) (cU b 38 2) (fld s 0x2814 8 8) x3
  let int := socInt x4.charge x4.capEst
  let rep := nextSocRep g.socRep g.frac (socOf (added : Rat) x4.capEst) int x4.status (decide (x4.charge ≤ 0))
    (decide (roundQ (chargeAt x4.capEst 10000) ≤ x4.charge)) x4.firstAnchor
  { g with charge := x4.charge, capEst := x4.capEst, socInt := int, socRep := rep.1, frac := rep.2, socConf := x4.socConf
           anchorKind := x4.anchorKind, status := x4.status, anchorTime := x4.anchorTime, sRef := x4.sRef, qRef := x4.qRef
           restSec := rest, lastV := (match x4.lastV with | some v => some v | none => age), eodRun := eod, eocRun := eoc
           energy := fitN 4 (energyOf t x4.capEst rep.1 ((added : Rat) / 1000) g.rs) }

/-- EV44 at the configured thresholds (R480). -/
def gaugeThresholds (s : State) (b : BitVec 512) : State :=
  let one := fun (q : State) (pct kind : Nat) (armed : Bool) => if pct ≠ 0 && armed && decide (q.gauge.socRep ≤ 100 * pct) then ev44 q kind else q
  let arm := fun (pct : Nat) (armed : Bool) =>
    if armed then !(pct ≠ 0 && decide (s.gauge.socRep ≤ 100 * pct)) else decide (100 * pct + 200 ≤ s.gauge.socRep)
  let s1 := one (one s (cU b 40 1) 1 s.chg.socLowArmed) (cU b 41 1) 2 s.chg.socCritArmed
  { s1 with chg := { s1.chg with socLowArmed := arm (cU b 40 1) s.chg.socLowArmed, socCritArmed := arm (cU b 41 1) s.chg.socCritArmed } }

/-- The gauge record's 64 bytes. -/
def gaugeBytes (g : Gauge) : List Byte :=
  leBytes 8 (toTwos 64 g.charge) ++ leBytes 4 g.capEst ++ leBytes 4 g.rs ++ leBytes 4 g.rp ++ leBytes 2 g.tau ++ leBytes 2 g.confRs ++
    leBytes 2 g.socInt ++ leBytes 2 g.socRep ++ leBytes 2 g.socConf ++ leBytes 1 g.anchorKind ++ leBytes 1 g.status ++ leBytes 6 g.anchorTime.toNat ++
    leBytes 2 (g.sRef.getD 0xFFFF) ++ leBytes 4 (toTwos 32 (roundQ (g.qRef / 1000))) ++ leBytes 4 g.cycles ++ zeroBytes 16

/-- The estimator summary among the volatile shadows follows the gauge at each epoch (R567, Table 14-10). -/
def gaugeShadow (s : State) : State := { s with mp := { s.mp with shadows := { s.mp.shadows with gauge := gaugeBytes s.gauge } } }

/-- `GAUGE_EPOCH` (R312, R477, R478, R480): without a configuration in force only charge is counted (log 56). -/
def execGaugeEpoch (s : State) : Host.Outcome State Fault Refusal :=
  .next (
    if !(domOn s 3 && rootAlive s && s.glb.mpRunning) then s
    else
      let g := s.gauge
      let gap := g.gap || domOff s 11
      let added : Int := if gap then 0 else (s.chg.qb - g.lastQb).toInt
      let g0 := { g with lastQb := s.chg.qb, gap := domOff s 11, countGap := g.countGap || gap
                         socConf := if gap && 300 < g.socConf then 300 else g.socConf }
      match s.chg.cfg with
      | none => gaugeShadow { s with gauge := gaugeCount g0 0 added }
      | some b =>
        let s1 := takeFree { s with gauge := gaugeStep s b g0 added, chg := { s.chg with capture := none } }
        gaugeThresholds (gaugeShadow s1) b)

/-! ### Snapshots (R309–R311) -/

/-- The snapshot of a body (Table 6-8). -/
def snapshot (target records gen : Nat) (time : Stamp) (body : List Byte) : List Byte :=
  let head := leBytes 2 0x0601 ++ leBytes 1 target ++ [0] ++ leBytes 4 (32 + body.length) ++ leBytes 6 time.toNat ++ leBytes 2 gen ++
    leBytes 2 records ++ zeroBytes 10
  head ++ leBytes 4 (crc32 (head ++ body)) ++ body

/-- A parking record's 24 bytes. -/
def parkBytes (r : ParkRec) : List Byte :=
  leBytes 4 r.chan ++ leBytes 8 (toTwos 64 r.charge) ++ leBytes 2 r.socRep ++ leBytes 2 r.socConf ++ leBytes 1 r.status ++ [0] ++
    leBytes 2 r.sRef ++ leBytes 4 (toTwos 32 r.qRef)

/-- A signed field of a byte list. -/
def leInt (bs : List Byte) (off len : Nat) : Int := (BitVec.ofNat (8 * len) (leField bs off len)).toInt

/-- A parking record from its bytes. -/
def parkOf (b : List Byte) : ParkRec :=
  { chan := leField b 0 4, charge := leInt b 4 8, socRep := leField b 12 2, socConf := leField b 14 2, status := leField b 16 1,
    sRef := leField b 18 2, qRef := leInt b 20 4, floor := none }

/-- The gauge from a record; what the record does not hold starts anew. -/
def gaugeOf (g : Gauge) (b : List Byte) : Gauge :=
  { Gauge.zero with
    charge := leInt b 0 8, capEst := leField b 8 4, rs := leField b 12 4, rp := leField b 16 4, tau := leField b 20 2, confRs := leField b 22 2
    socInt := leField b 24 2, socRep := leField b 26 2, socConf := leField b 28 2, anchorKind := leField b 30 1, status := leField b 31 1
    anchorTime := BitVec.ofNat 48 (leField b 32 6), sRef := if leField b 38 2 = 0xFFFF then none else some (leField b 38 2)
    qRef := ((leInt b 40 4 : Int) : Rat) * 1000, cycles := leField b 44 4, rsSet := decide (leField b 12 4 ≠ 0)
    lastQb := g.lastQb, gap := g.gap, fresh := false }

/-- Table 2-12. -/
def specEstRestore : OpSpec :=
  { opcode := 0x30, target := 0xFFFFFFFF, align := 4, ops := maskOf 384 0 32, mpOk := false, dom := none, fsRefused := false }
def specEstSnapshot : OpSpec :=
  { opcode := 0x31, target := 0xFFFFFFFF, align := 4, ops := maskOf 384 0 32, mpOk := false, dom := none, fsRefused := false }

/-- The executing block's domain: PD_MP for the gauge, PD_CORE for the parking state. -/
def estOn (s : State) (target : Nat) : Bool := if target = 0 then domOn s 3 else domOn s 4

/-- Why a snapshot is not taken (R311); a LENGTH that does not fit is INVALID_FIELD (log 57). -/
def restoreCheck (s : State) (target len : Nat) (b : List Byte) : Option Nat :=
  let n := leField b 16 2
  let want := if target = 0 then 96 else 32 + 24 * n
  if len < 32 || leField b 0 2 ≠ 0x0601 || leField b 2 1 ≠ target || leField b 4 4 ≠ len || len ≠ want || (target = 1 && 2040 < n) then some stInvalidField
  else if leField b 28 4 ≠ crc32 (b.take 28 ++ b.drop 32) then some stCrcError
  else if target = 1 && leField b 14 2 ≠ s.ct.gen.toNat then some stStale
  else none

/-- `EST_RESTORE` (R308, R311; the gauge is the MP's, R600). -/
def execEstRestore (rq : Requester) (d : Desc) (hostFault : Bool) (s : State) : Host.Outcome State Fault Refusal :=
  .next (command specEstRestore rq d (fun q t =>
    let tg := d.target.toNat
    let len := opn d 16 0 32
    if 1 < tg then complete q t stRange 0
    else if !estOn q tg then complete q t stNotPowered 0
    else if tg = 0 && !q.glb.mpRunning then complete q t stRefused 0
    else if hostFault then complete q t stHostAccess 0
    else
      let b := cmdRead q rq d.addr.toNat (if len < 49024 then len else 49024)
      match restoreCheck q tg len b with
      | some st => complete q t st 0
      | none =>
        if tg = 0 then complete { q with gauge := gaugeOf q.gauge (b.drop 32) } t stSuccess (BitVec.ofNat 64 len)
        else
          let recs := (pieces 24 (leField b 16 2) (b.drop 32)).map parkOf
          complete { q with
            park := some { time := BitVec.ofNat 48 (leField b 8 6), gen := leField b 14 2, recs := recs }
            ox := { q.ox with parkValid := true, parkLeft := parkDue { q with park := some { time := 0, gen := leField b 14 2, recs := recs }, ox := { q.ox with parkValid := true } } } } t stSuccess (BitVec.ofNat 64 len)) s)

/-- `EST_SNAPSHOT` (R310; the gauge is the MP's, R600). -/
def execEstSnapshot (rq : Requester) (d : Desc) (s : State) : Host.Outcome State Fault Refusal :=
  .next (command specEstSnapshot rq d (fun q t =>
    let tg := d.target.toNat
    let len := opn d 16 0 32
    let put := fun (q1 : State) (bs : List Byte) =>
      if len < bs.length then complete q1 t stRange 0
      else complete (cmdWrite q1 rq d.addr.toNat bs) t stSuccess (BitVec.ofNat 64 bs.length)
    if 1 < tg then complete q t stRange 0
    else if !estOn q tg then complete q t stNotPowered 0
    else if tg = 0 && !q.glb.mpRunning then complete q t stRefused 0
    else if tg = 0 then put (takeFree q) (snapshot 0 1 0 (stamp q) (gaugeBytes q.gauge))
    else match q.park with
      | some p => if q.ox.parkValid then put q (snapshot 1 p.recs.length p.gen p.time (p.recs.flatMap parkBytes)) else complete q t stNotPresent 0
      | none => complete q t stNotPresent 0) s)

end Sys2Proof.Machine
end

