-- ==== Sys2Proof/Machine/Saves.lean ====
section
/-! DEFINITION. The save image of the volatile shadows, and the meanings of the save events (12_otp_and_nvm.md,
R567–R569; Table 14-10). -/

namespace Sys2Proof.Machine

/-! ### Layout (Table 14-10) -/

def histBytes (h : List Nat) : List Byte := h.flatMap (leBytes 4)

/-- The 960 data bytes. -/
def saveBytes (s : State) : List Byte :=
  let h := s.mp.shadows
  histBytes h.dieHist ++ histBytes h.vmainHist ++ h.railHist.flatMap histBytes ++ histBytes h.faultEntries ++
    h.stress.flatMap (fun q => leBytes 4 ((q / 36).floor.toNat % 2 ^ 32)) ++ h.gauge ++
    h.ageing.flatMap (fun a => leBytes 2 (sat16 (a / 10))) ++ h.bandgap.flatMap (fun b => leBytes 4 (toTwos 32 b)) ++ zeroBytes 20

/-- The shadows that 960 bytes hold. -/
def saveShadows (b : List Byte) : Shadows :=
  let u := fun off k => leField b (off + 4 * k) 4
  let hist := fun off => (List.range 16).map (u off)
  { dieHist := hist 0, vmainHist := hist 64, railHist := (List.range 8).map fun n => hist (128 + 64 * n)
    faultEntries := (List.range 32).map (u 640), stress := (List.range 12).map fun p => (((u 768 p : Nat) : Int) : Rat) * 36
    ageing := (List.range 24).map fun m => 10 * leField b (880 + 2 * m) 2
    bandgap := (List.range 3).map fun i => (BitVec.ofNat 32 (u 928 i)).toInt
    gauge := (b.drop 816).take 64 }

/-- First page of an image; true: A. -/
def imagePage (a : Bool) : Nat := if a then 64 else 80

/-- A valid image: its SSEQ and its data (R567). -/
def imageRead (s : State) (a : Bool) : Option (BitVec 16 × List Byte) :=
  match nvRead s (imagePage a) with
  | none => none
  | some h =>
    let ps := (List.range 15).map fun k => nvRead s (imagePage a + 1 + k)
    let d := ps.flatMap fun o => o.getD []
    if leField h 0 2 = 0x0C03 && ps.all Option.isSome && leField h 12 4 = crc32 d then some (BitVec.ofNat 16 (leField h 2 2), d) else none

/-- The shadows are filled from the valid image with the later SSEQ, and the spare is chosen (R567, R568). -/
def shadowLoad (s0 : State) : State :=
  let s := nvLook ((List.range 32).map (· + 64)) s0
  let put := fun (a : Bool) (q : BitVec 16) (h : Shadows) =>
    setMp { s with nvm := { s.nvm with sseq := q, spareA := !a, spareReady := false, eraseDue := true } } { s.mp with shadows := h }
  match imageRead s true, imageRead s false with
  | some x, some y => if seqLater y.1 x.1 then put false y.1 (saveShadows y.2) else put true x.1 (saveShadows x.2)
  | some x, none => put true x.1 (saveShadows x.2)
  | none, some y => put false y.1 (saveShadows y.2)
  | none, none => put false 0 { Shadows.zero with gauge := gaugeBytes Gauge.zero }

/-! ### Saving (R568, R569) -/

/-- A page of the erased spare, programmed in one. -/
def sparePut (s : State) (page : Nat) (bs : List Byte) : State :=
  setPage s page { nvPage s page with a := some { Slot.programmed (BitVec.ofNat 512 (leNat bs)) 1 with commit := .set } }

/-- The save of a power-down is complete. -/
def saveEnd (s : State) : State := { s with pwr := { s.pwr with saveDone := true, saveEnded := true } }

/-- A save falls due; `power`: at power-down. The shadows are captured and the data pages programmed. -/
def saveBegin (s : State) (power : Bool) : State :=
  if s.nvm.saving.isSome then (if power then { s with nvm := { s.nvm with saving := some true } } else s)
  else if !s.nvm.spareReady then
    (let s1 := { s with nvm := { s.nvm with saveSkipped := true, eraseDue := s.nvm.eraseDue || !power } }
     if power then saveEnd s1 else s1)
  else
    let bs := saveBytes s
    let s1 := { s with nvm := { s.nvm with saving := some power, spareReady := false } }
    forUpTo 15 (fun k q => sparePut q (imagePage q.nvm.spareA + 1 + k) ((bs.drop (64 * k)).take 64)) s1

/-- The header of the image being written. -/
def saveHeader (s : State) (ts : Stamp) : List Byte :=
  let d := (List.range 15).flatMap fun k => (nvRead s (imagePage s.nvm.spareA + 1 + k)).getD []
  leBytes 2 0x0C03 ++ leBytes 2 (s.nvm.sseq + 1).toNat ++ leBytes 6 ts.toNat ++ leBytes 2 940 ++ leBytes 4 (crc32 d) ++ zeroBytes 48

/-- The header is programmed; the image replaced becomes the spare. -/
def saveFinish (s : State) (power : Bool) : State :=
  let s1 := takeFree (sparePut s (imagePage s.nvm.spareA) (saveHeader s (stamp s)))
  let s2 := { s1 with nvm := { s1.nvm with saving := none, sseq := s1.nvm.sseq + 1, spareA := !s1.nvm.spareA,
                                           saves := satInc s1.nvm.saves, eraseDue := s1.nvm.eraseDue || !power } }
  let s3 := noteCount s2 18
  if power then saveEnd s3 else s3

/-- `SAVE_DONE` (R568, Table 9-6 step 4). -/
def execSaveDone (s : State) : Host.Outcome State Fault Refusal :=
  .next (if domOn s 3 then (match s.nvm.saving with | some p => saveFinish s p | none => s) else s)

/-- `CHECKPOINT_SAVE` (R569): every hour of PD_MP on-time. -/
def execCheckpointSave (s : State) : Host.Outcome State Fault Refusal :=
  .next (if domOn s 3 && rootAlive s && s.glb.otpLoaded && !s.pwr.saveActive && s.nvm.saving.isNone && hourDue s s.mp.hourSave then
      saveBegin (setMp s { s.mp with hourSave := s.mp.onSeconds / 3600 }) false
    else s)

/-- Both slots of a page erased. -/
def pageErase (n : Nat) (s : State) : State :=
  let p := nvPage s n
  setPage s n { a := none, b := none, wear := wearAdd p.wear 2 }

/-- `SPARE_ERASE_DONE` (R568). -/
def execSpareEraseDone (s : State) : Host.Outcome State Fault Refusal :=
  .next (
    if domOn s 3 && rootAlive s && s.glb.otpLoaded && s.nvm.eraseDue && s.nvm.saving.isNone && !s.pwr.saveActive then
      (let s1 := forUpTo 16 (fun k q => pageErase (imagePage q.nvm.spareA + k) q) s
       { s1 with nvm := { s1.nvm with spareReady := true, eraseDue := false } })
    else s)

end Sys2Proof.Machine
end

