-- ==== Sys2Proof/Machine/Parking.lean ====
section
/-! DEFINITION. Parking: its start, its scans, the wake of the host and its end (14_management_and_ageing.md, R605–R610;
R36–R38). -/

namespace Sys2Proof.Machine

/-! ### Configuration (Table 14-12) -/

def parkGroups (s : State) : BitVec 4 := BitVec.ofNat 4 (fld s 0xA010 0 4)
def parkPersist (s : State) : Nat := let n := fld s 0xA010 8 4; if n = 0 then 1 else n

/-- The ports of a group that are enabled. -/
def groupPorts (s : State) (g : Nat) : List Nat := ((List.range 4).map (· + 4 * g)).filter fun p => flag s 0x300C p

/-- Enabled ports of a group that are not enumerated. -/
def unenumerated (s : State) (g : Nat) : List Nat := (groupPorts s g).filter fun p => (port s p).mode = 0 || (port s p).mode = 3

/-- The MP's own command ticket for LINK_ENUMERATE and SEQ_UP: no completion is kept of a success. -/
def mpTicket (op : Nat) : Ticket := .mp op 0 true

/-! ### Start (R605) -/

/-- One group as parking begins. -/
def parkGroup (gs : BitVec 4) (g : Nat) (s : State) : State :=
  let k := 6 + g
  if !bitOf gs g then (if domOff s k then s else domAsk s k .off true false)
  else if domOff s k || !(unenumerated s g).isEmpty then domAsk s k .on true false
  else domAsk s k .retention true false

/-- Parking begins. -/
def parkStart (s : State) : State :=
  let gs := parkGroups s
  let s1 := takeFree (setPark s { s.mp.parking with
    active := true, groups := gs, scans := 0, start := stamp s, charge := 0, lastCode := 0, node := 0
    runs := List.replicate 16 0, woken := List.replicate 16 false, wakeWait := false, tried := 0, accLast := none, dueMs := [0, 0, 0, 0], rem := [] })
  let s2 := forUpTo 4 (parkGroup gs) s1
  if flag s 0xA010 4 && !domOff s2 5 then domAsk s2 5 .off true false else s2

/-- `PARKING_START` (R605): PD_CORE has reached retention or off, with groups to park. -/
def execParkingStart (s : State) : Host.Outcome State Fault Refusal :=
  .next (if mpRuns s && (dom s 4).state ≠ .on && parkGroups s ≠ 0 && !s.mp.parking.active then parkStart s else s)

/-! ### The wake of the host (R38, R437, R609) -/

/-- The MP's SEQ_UP for the host sequence; a follower refuses it (R398). -/
def mpSeqUp (s : State) : State :=
  if flkRole s = 2 then complete s (mpTicket 0x48) stRefused 0
  else seqUpReq { s with seq := { s.seq with retries := 0 } } [mpTicket 0x48]

/-- The MP wakes the host. -/
def wakeHost (s : State) (code : Nat) : State :=
  let s1 := recordWake s true code
  if s1.seq.state = .up then { s1 with wakeMp := true }
  else if hasRailMember s1 && !domOn s1 10 then domAsk (setPark s1 { s1.mp.parking with wakeWait := true }) 10 .on true false
  else mpSeqUp s1

/-- PD_REGC has reached LOGIC_RDY for a wake (true), or has failed to (false; R435). -/
def wakeRegc (s : State) (up : Bool) : State :=
  if !s.mp.parking.wakeWait then s
  else
    let s1 := setPark s { s.mp.parking with wakeWait := false }
    if up then mpSeqUp s1 else s1

/-! ### Checks (Table 14-4) -/

/-- The lowest node of a list that passes a test on its record. -/
def firstNode (recs : List (Nat × BitVec 11552)) (p : BitVec 11552 → Bool) : Option Nat :=
  ((recs.filter fun e => p e.2).map Prod.fst).foldl (fun (a : Option Nat) x => match a with
    | some y => if x < y then some x else some y
    | none => some x) none

/-- 0x30: a group input beyond a parking voltage limit. -/
def parkVolt (s : State) (r : BitVec 11552) : Bool :=
  let ov := fld s 0xA014 0 16
  let uv := fld s 0xA014 16 16
  (List.range 8).any fun i => flag s 0x3018 i &&
    ((ov ≠ 0 && decide ((100 * ov : Int) < recTap r (496 + i))) || (uv ≠ 0 && decide (recTap r (496 + i) < (100 * uv : Int))))

/-- 0x33: a TEMPS code beyond a parking limit. -/
def parkHeat (s : State) (r : BitVec 11552) : Bool :=
  let hot := fld s 0xA018 0 16
  let cold := fld s 0xA018 16 16
  (List.range 16).any fun i =>
    let k := recTemp r i
    k ≠ 0 && k ≠ 65535 && ((hot ≠ 0 && decide (k ≤ hot)) || (cold ≠ 0 && decide (cold ≤ k)))

/-- The node for which check `c` (code 0x30 + c) holds in this scan of group `g`, if any. -/
def parkCheck (s : State) (g : Nat) (recs : List (Nat × BitVec 11552)) (lost : List Nat) (c : Nat) : Option Nat :=
  match c with
  | 0 => firstNode recs (parkVolt s)
  | 1 => firstNode recs fun r => !(openTaps r).isEmpty
  | 2 => (s.lp.nodes.map Prod.fst).find? fun a =>
      a / 128 = g && (node s a).present && (quarantined s a || nodeMissing s a || unsynced s a || lost.contains a)
  | _ => firstNode recs (parkHeat s)

/-- What the checks of one scan do: runs, and the wake with the lowest code that reaches PERSIST (R609). -/
def parkJudge (s : State) (g : Nat) (recs : List (Nat × BitVec 11552)) (lost : List Nat) : State :=
  let hits := (List.range 4).map (parkCheck s g recs lost)
  let run := fun c => match (hits[c]?).getD none with
    | some _ => ((s.mp.parking.runs[4 * g + c]?).getD 0) + 1
    | none => 0
  let due := (List.range 4).filter fun c => parkPersist s ≤ run c && !(s.mp.parking.woken[4 * g + c]?).getD false
  let runs := (List.range 4).foldl (fun t c => listSet t (4 * g + c) (run c)) s.mp.parking.runs
  let woken := (List.range 4).foldl (fun t c =>
    listSet t (4 * g + c) (run c ≠ 0 && ((s.mp.parking.woken[4 * g + c]?).getD false || due.contains c))) s.mp.parking.woken
  let s1 := setPark s { s.mp.parking with runs := runs, woken := woken }
  match due with
  | [] => s1
  | c :: _ =>
    let code := 0x30 + c
    let a := ((hits[c]?).getD none).getD 0
    let s2 := setMp s1 { s1.mp with lastCode := code, parkNode := a, parking := { s1.mp.parking with lastCode := code, node := a } }
    wakeHost (noteLog (noteCount s2 13) 11 (pack 128 [(0, 32, code), (32, 32, a)])) code

/-! ### Charge (R608) -/

/-- The current of an accumulator mean under the parking constants at 25 °C, in amperes. -/
def parkAmps (k : BitVec 128) (x : Rat) : Rat :=
  divQ ((x * (2 / 10000000) - ((sbitsOf k 64 16 : Int) : Rat) / 10000000) * (1 + ((sbitsOf k 48 16 : Int) : Rat) / 1000000))
    (((bitsOf k 0 32 : Nat) : Rat) / 1000000000)

/-- One parking record takes the charge `q` in mA·s, with its weight and its remainder; `pack`: it is the PACK channel's. -/
def parkCharge (pack : Bool) (q : Int) (r : ParkRec) (w : Nat) (rem : Sparse Int) : ParkRec × Sparse Int :=
  if pack then ({ r with charge := r.charge + q }, rem)
  else
    let x := roundDiv (q * w) 65536
    let total := Sparse.getD rem r.chan 0 + x
    ({ r with charge := r.charge + x, qRef := r.qRef + total / 1000 }, Sparse.set rem r.chan (total % 1000))

/-- The records of the parking state take the charge; `first`: the record is the first one, which is the PACK channel's where its weight is
0xFFFF (R606; without a PACK channel every weight is 0). -/
def parkChargeAll (first : Bool) (q : Int) : List ParkRec → List Nat → Sparse Int → List ParkRec × Sparse Int
  | [], _, rem => ([], rem)
  | r :: rs, ws, rem =>
    let (r1, rem1) := parkCharge (first && ws.headD 0 = 0xFFFF) q r (ws.headD 0) rem
    let (rs1, rem2) := parkChargeAll false q rs ws.tail rem1
    (r1 :: rs1, rem2)

/-- The accumulator record of tap 504 at this scan's latch: its value and its time on CLK_RTC in whole ms. -/
def parkAcc (s : State) (acc : Option (BitVec 48 × Nat)) : State :=
  match acc with
  | none => s
  | some (v, ms) =>
    let s1 := setPark s { s.mp.parking with accLast := some (v, ms) }
    match s.mp.parking.accLast, s.park with
    | some (v0, ms0), some p =>
      if ms ≤ ms0 then s1
      else
        let k := s.mp.parking.consts
        let n := ms - ms0
        let q := roundQ (parkAmps k (((v - v0).toInt : Rat) / natQ n) * natQ n)
        let (recs, rem) := parkChargeAll true q p.recs s.mp.parking.weights s.mp.parking.rem
        setPark { s1 with park := some { p with recs := recs } } { s1.mp.parking with charge := s1.mp.parking.charge + q, rem := rem }
    | _, _ => s1

/-! ### The scan (R607) -/

/-- What the scan's cycles say of a node: it is missing where no record came from it, and unsynchronised as its record says. -/
def parkSeen (recs : List (Nat × BitVec 11552)) (lost : List Nat) (a : Nat) (s : State) : State :=
  if !(node s a).present then s
  else
    let s1 := setNodeBit s a 0 (lost.contains a)
    match recs.find? fun e => e.1 = a with
    | some e => setNodeBit s1 a 1 (bitOf e.2 8)
    | none => s1

/-- The checks of R28 on a scanned node's record. -/
def parkFaults (e : Nat × BitVec 11552) (s : State) : State :=
  let counts := (node s e.1).auth = 1 && !unsynced s e.1 && !nodeMissing s e.1
  heatCheck (voltageCheck (clusterCheck s e.1 e.2) e.1 counts e.2) e.1 counts e.2

/-- The group is on during its scan: the lines that its checks assert latch there and then, before it goes back to retention (R24, R28,
R43). -/
def parkLatch (g : Nat) (s : State) : State :=
  if !s.flt.clkSafe then s
  else forEach [17, 18, 19, 20, 23] (fun k q =>
    match Sparse.get? q.flt.lines k with
    | some d => if bitOf q.flt.status k || (lineDomain q k d).any (fun j => j ≠ 6 + g) then q else fltLatch q k d true
    | none => q) s

/-- The authentication of a node due 24 h after its last pass: its answer to a fresh challenge, or none (R197, Table 14-3 step 3). -/
def parkAuth (auths : List (Nat × BitVec 128)) (a : Nat) (s : State) : State :=
  let n := node s a
  if n.present && renewalDue s n then
    let s1 := takeFree (setNode s a { n with renewed := true, challenge := some (Config.freeChallenge s.free, 3) })
    match auths.find? fun e => e.1 = a with
    | some e => authAnswer s1 a 0 (leBytes 16 e.2.toNat)
    | none => authFail s1 a (if bitOf s.otp.keyOk 0 then 2 else 3) stTimeout 0
  else s

/-- A scan of group `g`: the records of the third cycle, tap 504's accumulator, the nodes found missing or unsynchronised, the
answers to the authentications that were due. Each of its three cycles ends with the check of R205, and a node that is not restored
delivers nothing (R196). -/
def parkScan (s0 : State) (g : Nat) (recs : List (Nat × BitVec 11552)) (acc : Option (BitVec 48 × Nat)) (lost : List Nat)
    (auths : List (Nat × BitVec 128)) : State :=
  let s := forEach ((s0.lp.nodes.map Prod.fst).filter fun a => a / 128 = g) (parkAuth auths) s0
  let here := fun a => a / 128 = g
  let s := forEach ((s.lp.nodes.map Prod.fst).filter here) (parkSeen recs lost) s
  let mine := recs.filter fun e => here e.1 && nodeGood s e.1 && !(node s e.1).unrestored && !(node s e.1).restoring
  let s1 := parkLatch g (forUpTo 3 (fun _ q => syncCheck q) (forEach mine parkFaults s))
  let s2 := setMp s1 { s1.mp with parkScans := satInc s1.mp.parkScans, parking := { s1.mp.parking with scans := s1.mp.parking.scans + 1 } }
  let s3 := if bitsOf s.mp.parking.consts 80 9 / 128 = g then parkAcc s2 acc else s2
  parkJudge s3 g mine lost

/-- `PARKING_SCAN` (R607–R609), once per second of CLK_AON for each parked group; `ms` counts CLK_AON since the start of parking. A group that came on to be enumerated is enumerated first (R605). -/
def execParkingScan (g : Fin 4) (recs : List (Nat × BitVec 11552)) (acc : Option (BitVec 48 × Nat)) (lost : List Nat) (auths : List (Nat × BitVec 128))
    (ms : Nat) (s : State) : Host.Outcome State Fault Refusal :=
  .next (
    let k := 6 + g.val
    if ms < (s.mp.parking.dueMs[g.val]?).getD 0 then s
    else if !(s.glb.mpRunning && s.mp.parking.active && bitOf s.mp.parking.groups g.val) || (dom s k).move.isSome then s
    else if domOn s k && !(unenumerated s g.val).isEmpty && !bitOf s.mp.parking.tried g.val then
      forEach ((unenumerated s g.val).filter fun p => (port s p).mode = 0) (fun p q => linkSubmit q (.enumerate (mpTicket 0x20) p))
        (setPark s { s.mp.parking with tried := s.mp.parking.tried ||| maskOf 4 g.val 1 })
    else if domOn s k && !(s.lp.jobs.isEmpty && s.lp.wait.isNone) then s
    else if domOff s k then s
    else
      let s1 := parkScan (setPark s { s.mp.parking with dueMs := listSet s.mp.parking.dueMs g.val (1000 * (ms / 1000 + 1)) }) g.val recs acc lost auths
      if domOn s1 k then domAsk s1 k .retention true false else s1)

/-! ### End (R37, R610) -/

/-- The 32 bytes of the parking summary. -/
def parkSummary (p : Parking) (endTs : Stamp) : List Byte :=
  leBytes 2 0x0E04 ++ leBytes 2 p.groups.toNat ++ leBytes 4 p.scans ++ leBytes 6 p.start.toNat ++ leBytes 6 endTs.toNat ++
    leBytes 8 (toTwos 64 p.charge) ++ leBytes 1 p.lastCode ++ zeroBytes 3

/-- PD_CORE has reached LOGIC_RDY at a request from the host. The MP releases WAKE_N with the end of parking (DESIGN CHOICE, log 122). -/
def parkEnd (s : State) : State :=
  let p := s.mp.parking
  if !p.active then s
  else
    let s1 := takeFree { s with ret := { s.ret with summary := parkSummary p (stamp s) }, wakeMp := false }
    raise (setPark s1 { p with active := false }) 63 (pack 64 [(0, 4, 1), (16, 16, sat16 p.scans), (32, 8, p.lastCode)])

end Sys2Proof.Machine
end

