-- ==== Sys2Proof/Machine/DomainOps.lean ====
section
/-! DEFINITION. Transitions of the power domains: their stages, their ends, what a domain loses when it goes off, and the
internal supplies that hold domains off (09_supplies_and_domains.md, R424–R436; R27, R44, R359). -/

namespace Sys2Proof.Machine

/-! ### The PLL (R44) -/

/-- A domain on a root-derived clock: all but PD_PCIE. -/
def rootDom (k : Nat) : Bool := 3 ≤ k && k ≠ 5

/-- The root PLL is wanted. -/
def pllWanted (s : State) : Bool :=
  (List.range 13).any (fun k => rootDom k && (dom s k).clkRdy) || flkRole s = 1 || flkRole s = 2

/-- Stop the PLL when nothing wants it. -/
def pllUpdate (s : State) : State := if pllWanted s then s else { s with pwr := { s.pwr with pllRuns := false } }

/-- The PLL after a change from `old`: it starts where nothing wanted it before, and stops where nothing wants it any more. -/
def pllFollow (old s : State) : State :=
  if pllWanted s && !pllWanted old then { s with pwr := { s.pwr with pllRuns := true } } else pllUpdate s

/-! ### Internal supplies (Table 1-2, R27) -/

/-- Domains that an internal supply feeds, in the order of PWR_SUPV_FLAGS: VPRE, VCORE, VDD18, VDD33, VPHY, AVDD, VLINK, VGD
(log 70). -/
def supplyDoms (i : Nat) : List Nat :=
  match i with
  | 1 => [3, 4, 5, 6, 7, 8, 9, 10, 11, 12]
  | 2 => [3]
  | 3 => [3]
  | 4 => [5, 6, 7, 8, 9]
  | 5 => [10, 11, 12]
  | 6 => [6, 7, 8, 9]
  | _ => []

/-- An under-voltage supply holds the domain off. -/
def heldOff (s : State) (k : Nat) : Bool := (List.range 8).any fun i => bitOf s.pwr.uvNow i && (supplyDoms i).contains k

/-! ### What a domain loses at off (R432) -/

/-- Every NVM request that waits in PD_MP ends without effect (log 71). -/
def nvmAbandon (s : State) : State :=
  let ws := (match s.nvm.busy with | some w => [NvmReq.write w] | none => []) ++ s.nvm.queue
  forEach ws (fun w q => nvmRefuse q w stAborted) (nvmCut s)

/-- What NVM, flash or retained SRAM keeps of the MP. -/
def Mp.afterOff (m : Mp) : Mp :=
  { Mp.reset with
    lseq := m.lseq, logCount := m.logCount, todo := m.todo, shadows := m.shadows, onSeconds := m.onSeconds
    hourPass := m.hourPass, hourSave := m.hourSave, hourAge := m.hourAge, hourRoll := m.hourRoll, hourPlan := m.hourPlan
    rollbackGoal := m.rollbackGoal, rollbackSlot := m.rollbackSlot
    parking := { Parking.zero with consts := m.parking.consts, weights := m.parking.weights } }

/-- PD_MP off: the MP, and the fields of the OTP and NVM controllers that are not in PD_AON (R570). The mailbox lies in the port, in
PD_AON: a message the MP has not taken stays (R99), and so does one that the port has still to return (R100). The alert request is the
MP's, and ends with it (DESIGN CHOICE, log 107). -/
def mpLost (s : State) : State :=
  let s1 := nvmAbandon s
  setMp { s1 with
    glb := { s1.glb with mpRunning := false }, mpSram := []
    regs := s1.regs.drop fun off => (0x8000 ≤ off && off < 0x9000) || (0xA000 ≤ off && off < 0xB000)
    nvm := { s1.nvm with pageErr := false, saveSkipped := false, torn := false, tornCount := 0, tornPage := 0, errPage := 0, saves := 0 }
    otp := { s1.otp with runCount := 0, lastAtLoad := false, lastWord := 0, scanActive := false }
    sb := { s1.sb with alertReq := false }, wakeMp := false } s1.mp.afterOff

/-- PD_CORE off: queue engine, event routing, channel cache and Ox engine (R307, R432). The day of each cell's last pass is kept, so that a
midnight that falls meanwhile still shifts WEAK_TREND at the first pass after it (R285; DESIGN CHOICE, log 54). -/
def coreLost (s : State) : State :=
  let s1 := capGiveUp s
  { s1 with
    regs := s1.regs.drop fun off => (0x1000 ≤ off && off < 0x3000) || (0xB000 ≤ off && off < 0xC000)
    qe := { QueueEngine.reset with nextId := s1.qe.nextId }, evr := Evr.reset, ct := ChanTable.reset
    ox := { Ox.reset with parkValid := s1.ox.parkValid, trendDay := s1.ox.trendDay }, mc := { s1.mc with tfilt := [] } }

/-- What a domain taken off loses: its error lines, its memories and registers. -/
def domLost (s0 : State) (k : Nat) : State :=
  let s := linesLost s0 k
  if k = 3 then mpLost s
  else if k = 4 then coreLost s
  else if 6 ≤ k && k ≤ 9 then linkGroupOff (k - 6) s
  else if k = 10 then railLost s
  else if k = 11 then
    (let s1 := chgPowerDown s
     { s1 with chg := Charger.reset, gauge := { s1.gauge with gap := true }, regs := s1.regs.drop fun off => 0x6000 ≤ off && off < 0x7000 })
  else s

/-! ### LOGIC_RDY -/

/-- The parking state applies again when PD_CORE is back on with its table attached (R308). -/
def parkResume (s : State) : State :=
  if s.ct.attached then { s with ox := { s.ox with parkLeft := parkDue s } } else s

/-- What a domain does at its LOGIC_RDY; `fromOff`: its memories were lost. -/
def domUp (s : State) (k : Nat) (fromOff byHost : Bool) : State :=
  if k = 3 then
    (let s0 := goose1Start s
     let s1 := if s0.pwr.saveActive && !s0.pwr.saveEnded && s0.nvm.saving.isNone then saveBegin s0 true else s0
     if s1.pwr.startStep = 5 then { s1 with pwr := { s1.pwr with startStep := 6 } } else s1)
  else if k = 4 then
    (let s1 := { s with evr := { s.evr with resume := s.evr.resume || !fromOff } }
     tableAgain (parkResume (if byHost then parkEnd s1 else s1)))
  else if k = 5 then startTraining s
  else if 6 ≤ k && k ≤ 9 then linkGo s
  else if k = 10 then wakeRegc (seqRegcReady (derateAll (railBoot s))) true
  else if k = 11 then (if fromOff then
      (let r := nvBytes s 0x200 64
       chgBoot r.1 r.2.1)
    else if authReq s then authStart s else s)
  else s

/-! ### EV62 (R436) -/

/-- The transition raises no event. -/
def quietMove (s : State) (k : Nat) : Bool :=
  s.mp.parking.active && (k = 3 || (6 ≤ k && k ≤ 9 && flag s 0xA010 (k - 6)))

/-- EV62 at the end of a transition, unless it is `quiet`. -/
def ev62 (s : State) (quiet : Bool) (k : Nat) (reached requested : DomState) (result : Nat) (byMp : Bool) (stage : Nat) : State :=
  if quiet then s
  else raise s 62 (pack 64 [(0, 4, k), (4, 2, reached.code), (6, 2, requested.code), (8, 3, result), (11, 1, b2n byMp), (12, 4, stage)])

/-! ### Stages (R433, R434) -/

/-- The waiting request of a domain is run (R427); PD_REGC's is refused where a rail has become busy meanwhile (R359). -/
def domNext (s : State) (k : Nat) : State :=
  let d := dom s k
  match d.waiting with
  | none => s
  | some r =>
    let s1 := setDom s k { d with waiting := none, byMp := r.byMp }
    match domRefusal s1 k r.target r.byMp with
    | some (st, code) => domTicket (setDom s1 k { dom s1 k with req := d.state, result := code }) r.ticket st 0
    | none => if d.state = r.target then domTicket s1 r.ticket stSuccess (domResult s1 k) else domStart s1 k r false

/-- A transition has ended (R425, R435, R436); whether it raises EV62 is judged before PD_MP loses its parking. -/
def domEnd (s : State) (k : Nat) (m : DomMove) : State :=
  let reached := if m.failed ≠ 0 then DomState.off else m.req.target
  let result := if m.failed ≠ 0 then 2 else 0
  let s1 := setDom s k { dom s k with state := reached, move := none, result := result, failedStage := m.failed, byMp := m.req.byMp }
  let s2 := if reached = .off then domLost s1 k else s1
  let s3 := if reached = .on then domUp s2 k m.fromOff m.req.byHost else s2
  let s4 := if m.failed ≠ 0 && k = 10 then wakeRegc { s3 with seq := { s3.seq with autoWait := false } } false else s3
  let s5 := if m.failed ≠ 0 then domTicket s4 m.req.ticket stTimeout 0 else domTicket s4 m.req.ticket stSuccess (domResult s4 k)
  evUpdate (domNext (pllUpdate (ev62 s5 (quietMove s k) k reached m.req.target result m.req.byMp m.failed)) k)

/-- A ready bit is set. -/
def domBitUp (d : Domain) (stage : Nat) : Domain :=
  match stage with
  | 1 => { d with regRdy := true } | 2 => { d with clkRdy := true } | 3 => { d with memRdy := true } | _ => { d with logicRdy := true }

/-- A ready bit is cleared. -/
def domBitDown (d : Domain) (stage : Nat) : Domain :=
  match stage with
  | 1 => { d with regRdy := false } | 2 => { d with clkRdy := false } | 3 => { d with memRdy := false } | _ => { d with logicRdy := false }

/-- A bring-up stage sets its ready bit: the supply is there for REG, the clock for CLK. -/
def stageUp (s : State) (k : Nat) (m : DomMove) : State :=
  if (m.stage = 1 && heldOff s k) || (m.stage = 2 && rootDom k && s.flt.rootOverride) then s
  else
    let s1 := setDom s k { domBitUp (dom s k) m.stage with move := some { m with stage := m.stage + 1 } }
    let s2 := if m.stage = 2 && rootDom k then { s1 with pwr := { s1.pwr with pllRuns := true } } else s1
    if m.stage = 4 then domEnd s2 k m else s2

/-- What stops with a domain's logic: Goose 1's periods (R431), the charger's session (Table 10-7), event routing. -/
def logicDown (s : State) (k : Nat) : State :=
  if k = 3 then { s with goose1 := { s.goose1 with hold := true } }
  else if k = 11 then chgPowerDown s
  else evUpdate s

/-- A power-down stage clears its ready bit. -/
def stageDown (s : State) (k : Nat) (m : DomMove) : State :=
  let s1 := setDom s k { domBitDown (dom s k) m.stage with move := some { m with stage := m.stage - 1 } }
  let s2 := if m.stage = 4 then logicDown s1 k else s1
  if m.stage = 1 then domEnd s2 k m else s2

/-- A stage ends in time. -/
def domStage (s : State) (k : Nat) : State :=
  match (dom s k).move with
  | none => s
  | some m => if m.req.target = .on && m.failed = 0 then stageUp s k m else stageDown s k m

/-- A bring-up stage fails in time: the domain is taken off; at the CLK stage of a root-derived clock the CLK_CORE loss line
is asserted (R435). -/
def domStageFail (s : State) (k : Nat) : State :=
  match (dom s k).move with
  | none => s
  | some m =>
    if m.req.target = .on && m.failed = 0 then
      (let s1 := setDom s k { dom s k with move := some { m with failed := m.stage, stage := 4 } }
       if m.stage = 2 && rootDom k then assertLine s1 3 (BitVec.ofNat 32 (b2n s.flt.pllFirst)) else s1)
    else s

/-! ### Held off by a supply (R27, R359) -/

/-- A transition that the loss of its supply ends at off: one to off has reached its state, one to on has failed at its stage, one to
retention is aborted (R425, R435, R436, log 72). -/
def domCut (s : State) (quiet : Bool) (k : Nat) (m : DomMove) : State :=
  let done := m.req.target = .off && m.failed = 0
  let stage := if done then 0 else if m.failed ≠ 0 then m.failed else m.stage
  let s1 := setDom s k { dom s k with result := if done then 0 else 2, failedStage := stage, byMp := m.req.byMp }
  let st := if done then stSuccess else if m.req.target = .on then stTimeout else stAborted
  ev62 (domTicket s1 m.req.ticket st (domResult s1 k)) quiet k .off m.req.target (if done then 0 else 2) m.req.byMp stage

/-- A domain is held off at once; a transition in progress ends with it, and a request that waited behind it is run (R27, R427). -/
def forceOff (k : Nat) (s : State) : State :=
  let d := dom s k
  if d.state = .off && d.move.isNone then s
  else
    let s0 := if d.move.isSome then s else domDownStart s k true
    let s1 := setDom s0 k { dom s0 k with state := .off, regRdy := false, clkRdy := false, memRdy := false, logicRdy := false, move := none }
    let s2 := domLost s1 k
    let s3 := match d.move with | some m => domCut s2 (quietMove s k) k m | none => s2
    evUpdate (domNext (pllUpdate s3) k)

/-- A domain returns to its requested state. -/
def domRestore (k : Nat) (s : State) : State :=
  let d := dom s k
  if d.move.isNone && d.state ≠ d.req && !heldOff s k then
    domStart (if k = 3 && d.req = .on then wakeOther s else s) k { target := d.req, byMp := d.byMp, ticket := none, byHost := false } false
  else s

end Sys2Proof.Machine
end

