-- ==== Sys2Proof/Machine/Package.lean ====
section
/-! DEFINITION. The package and the limits that the spec states as figures: the ball map (Tables 16-1, 16-2), the supervisor thresholds
with their limits (Tables 9-2, 17-5) and the power of the domains (Table 17-3, R420, R670, R671). -/

namespace Sys2Proof.Machine

/-! ### Ball map (R648, R649) -/

/-- Rows A to D of Table 16-1, columns 1–16. -/
def ballRows0 : List (Char × List String) :=
  [('A', ["SDL0_AP", "SDL0_AN", "SDL1_AP", "SDL1_AN", "SDL2_AP", "SDL2_AN", "SDL3_AP", "SDL3_AN",
      "SDL4_AP", "SDL4_AN", "SDL5_AP", "SDL5_AN", "SDL6_AP", "SDL6_AN", "SDL7_AP", "SDL7_AN"]),
   ('B', ["SDL0_BP", "SDL0_BN", "SDL1_BP", "SDL1_BN", "SDL2_BP", "SDL2_BN", "SDL3_BP", "SDL3_BN",
      "SDL4_BP", "SDL4_BN", "SDL5_BP", "SDL5_BN", "SDL6_BP", "SDL6_BN", "SDL7_BP", "SDL7_BN"]),
   ('C', ["SWS0", "PWM0", "IMON0", "VSP0", "VSN0", "GND", "VLINK", "GND",
      "VPHY", "GND", "VDD18", "GND", "PERST_N", "GND", "REFCLKP", "REFCLKN"]),
   ('D', ["SWS1", "PWM1", "IMON1", "VSP1", "VSN1", "QCK", "QCS_N", "QD0",
      "QD1", "QD2", "QD3", "GND", "CLKREQ_N", "GND", "TX0P", "TX0N"])]

/-- Rows E to H of Table 16-1, columns 1–16. -/
def ballRows1 : List (Char × List String) :=
  [('E', ["SWS2", "PWM2", "IMON2", "VSP2", "VSN2", "VDD33", "GND", "TCK",
      "TMS", "TDI", "TDO", "GND", "WAKE_N", "GND", "RX0P", "RX0N"]),
   ('F', ["SWS3", "PWM3", "IMON3", "VSP3", "VSN3", "MSCL", "MSDA", "MALERT_N",
      "GND", "FCK", "FDA", "FSYNC", "VPHY", "GND", "TX1P", "TX1N"]),
   ('G', ["SWS4", "PWM4", "IMON4", "VSP4", "VSN4", "GND", "GND", "GND",
      "GND", "GND", "GND", "GND", "VPHY", "GND", "RX1P", "RX1N"]),
   ('H', ["SWS5", "PWM5", "IMON5", "VSP5", "VSN5", "SEQIO0", "SEQIO1", "SEQIO2",
      "SEQIO3", "VDD33", "GND", "GND", "CHG_CSPA", "CHG_CSNA", "PVSEL_G", "VEHSEL_G"])]

/-- Rows J to M of Table 16-1, columns 1–16. -/
def ballRows2 : List (Char × List String) :=
  [('J', ["SWS6", "PWM6", "IMON6", "VSP6", "VSN6", "SEQIO4", "SEQIO5", "SEQIO6",
      "SEQIO7", "GND", "GND", "GND", "CHG_BST1", "CHG_HG1", "CHG_SW1", "CHG_LG1"]),
   ('K', ["SWS7", "PWM7", "IMON7", "VSP7", "VSN7", "HOST_RST_N", "RESET_N", "WDI",
      "ALIVE", "SAFE_N", "VDD33", "VDD18", "CHG_BST2", "CHG_HG2", "CHG_SW2", "CHG_LG2"]),
   ('L', ["SWS8", "PWM8", "IMON8", "STG_EN0", "STG_EN1", "XIN", "XOUT", "VDD18",
      "GND", "BNTC", "BAUTH", "GND", "CHG_CSPB", "CHG_CSNB", "VBAK", "VBAK"]),
   ('M', ["SWS9", "PWM9", "IMON9", "TMON", "GND", "XRTCI", "XRTCO", "VRTC",
      "GND", "VGD", "VGD", "GND", "GBAK", "GMAIN", "VMAIN", "VMAIN"])]

/-- Rows N to U of Table 16-1, columns 1–16. -/
def ballRows3 : List (Char × List String) :=
  [('N', ["SWS10", "PWM10", "IMON10", "AVDD", "AVDD", "VPHY", "VCORE", "VCORE",
      "VCORE", "VCORE", "GND", "GND", "VSYS", "VSYS", "VSYS", "VSYS"]),
   ('P', ["SWS11", "PWM11", "IMON11", "VREF", "AIN0", "VLINK", "CORE_SW", "CORE_SW",
      "CORE_SW", "CORE_SW", "VPRE", "VPRE", "PRE_BST", "PRE_SW", "PRE_SW", "PRE_SW"]),
   ('T', ["SDL8_BP", "SDL8_BN", "SDL9_BP", "SDL9_BN", "SDL10_BP", "SDL10_BN", "SDL11_BP", "SDL11_BN",
      "SDL12_BP", "SDL12_BN", "SDL13_BP", "SDL13_BN", "SDL14_BP", "SDL14_BN", "SDL15_BP", "SDL15_BN"]),
   ('U', ["SDL8_AP", "SDL8_AN", "SDL9_AP", "SDL9_AN", "SDL10_AP", "SDL10_AN", "SDL11_AP", "SDL11_AN",
      "SDL12_AP", "SDL12_AN", "SDL13_AP", "SDL13_AN", "SDL14_AP", "SDL14_AN", "SDL15_AP", "SDL15_AN"])]

/-- Table 16-1. -/
def ballMap : List (Char × List String) := ballRows0 ++ ballRows1 ++ ballRows2 ++ ballRows3

/-- The name of a ball by its row letter and its column, 1–16. -/
def ballAt (row : Char) (col : Nat) : Option String :=
  if col = 0 then none else ((ballMap.find? fun e => e.1 = row).map Prod.snd).bind fun l => l[col - 1]?

/-- How many balls carry a name. -/
def ballCount (name : String) : Nat := ((ballMap.flatMap Prod.snd).filter fun x => x = name).length

/-- The supply and ground balls and their counts (Table 16-2). -/
def supplyBalls : List (String × Nat) :=
  [("VMAIN", 2), ("VBAK", 2), ("VSYS", 4), ("VRTC", 1), ("PRE_SW", 3), ("PRE_BST", 1), ("VPRE", 2), ("CORE_SW", 4), ("VCORE", 4)] ++
    [("VDD18", 3), ("VDD33", 3), ("VPHY", 4), ("AVDD", 2), ("VLINK", 2), ("VGD", 2), ("VREF", 1), ("GND", 32)]

/-! ### Supervisor thresholds (R405, R673) -/

/-- A threshold with its limits, in mV. -/
structure Threshold where
  min : Nat
  typ : Nat
  max : Nat
  deriving DecidableEq, Repr

def thVmainLow : Threshold := { min := 7350, typ := 7500, max := 7650 }
def thVmainMargin : Threshold := { min := 400, typ := 500, max := 600 }
def thVmainQual : Threshold := { min := 8850, typ := 9000, max := 9150 }
def thVmainQualOver : Threshold := { min := 900, typ := 1000, max := 1100 }
def thVmainQualTop : Threshold := { min := 59400, typ := 60000, max := 60600 }
def thVmainOv : Threshold := { min := 61000, typ := 62000, max := 63000 }
def thVbakRise : Threshold := { min := 7350, typ := 7500, max := 7650 }
def thVbakFall : Threshold := { min := 6850, typ := 7000, max := 7150 }
def thVsysStart : Threshold := { min := 7450, typ := 7600, max := 7750 }
def thVsysSave : Threshold := { min := 6850, typ := 7000, max := 7150 }
def thVsysBor : Threshold := { min := 5450, typ := 5600, max := 5750 }
def thVsysPor : Threshold := { min := 3500, typ := 3800, max := 4100 }
def thVrtcOk : Threshold := { min := 1700, typ := 1800, max := 1900 }

/-! ### Power of the domains (R420, R669–R671) -/

/-- The most that a domain draws at the internal supplies in a state, in µW (Table 17-3); the always-on domains count once, under code 1. -/
def domPower (k : Nat) (d : DomState) (pll : Bool) : Nat :=
  let pick := fun (on retention off : Nat) => match d with | .on => on | .retention => retention | .off => off
  if k = 1 then (if pll then 120000 else 9000)
  else if k = 3 then pick 300000 6000 100
  else if k = 4 then pick 1850000 25000 200
  else if k = 5 then pick 350000 8000 100
  else if 6 ≤ k && k ≤ 9 then pick 280000 5000 50
  else if k = 10 then pick 200000 0 50
  else if k = 11 then pick 250000 3000 50
  else if k = 12 then pick 60000 500 20
  else 0

/-- The most that the device draws at the internal supplies, in µW (R670). -/
def devicePower (s : State) : Nat := (List.range 13).foldl (fun a k => a + domPower k (dom s k).state s.pwr.pllRuns) 0

/-- What R671 allows at VSYS, conversion loss included, and what R420 allows during a save, in µW. -/
def powerLimit : Nat := 4800000
def saveLimit : Nat := 2000000

end Sys2Proof.Machine
end

