-- ==== Sys2Proof/Machine/PowerPath.lean ====
section
/-! DEFINITION. The power path, the supervisors of the internal supplies and the save at power-down: operations and meanings
(09_supplies_and_domains.md, R404–R423). Voltages at the inputs are in 10 mV. -/

namespace Sys2Proof.Machine

/-- A change of the power block's state. -/
def setPwr (s : State) (p : Power) : State := { s with pwr := p }

/-! ### Thresholds at their stated values (Table 9-2, log 115), against inputs in 10 mV -/

def vmainLow (vmain : BitVec 16) : Bool := decide (10 * vmain.toNat < thVmainLow.typ)
def vmainMargin (vmain vbak : BitVec 16) : Bool := decide (10 * vmain.toNat < 10 * vbak.toNat + thVmainMargin.typ)
def vmainQualOf (vmain vbak : BitVec 16) : Bool :=
  decide (thVmainQual.typ < 10 * vmain.toNat) && decide (10 * vbak.toNat + thVmainQualOver.typ < 10 * vmain.toNat) &&
    decide (10 * vmain.toNat < thVmainQualTop.typ)

/-- VMAIN_OV after a look at VMAIN: set above 62.0 V, clear below 60.0 V. -/
def ovSeen (s : State) (vmain : BitVec 16) : State :=
  setPwr s { s.pwr with vmainOv := if thVmainOv.typ < 10 * vmain.toNat then true else if 10 * vmain.toNat < thVmainQualTop.typ then false else s.pwr.vmainOv }

/-! ### Changes of the path (R407–R412) -/

/-- The path takes a state: EV43, the counts, the charger (R411, R412; Table 14-9). The return timer starts from zero where
VMAIN_QUAL holds outside MAIN (R408). -/
def pathChange (s : State) (dest : Path) (reason : Nat) (vmain vbak : BitVec 16) : State :=
  let p := s.pwr
  let main := p.path = .main || dest = .main
  let s1 := setPwr s { p with
    path := dest, holdByOv := dest = .hold && reason = 3, retTiming := dest ≠ .main && p.vmainQual
    returns := if dest = .main then satInc p.returns else p.returns
    switchovers := if dest = .main then p.switchovers else satInc p.switchovers }
  let s2 := noteCount s1 (if dest = .main then 3 else 2)
  let s3 := raise s2 43 (pack 64 [(0, 2, dest.code), (4, 3, reason), (16, 16, vmain.toNat), (32, 16, vbak.toNat)])
  if main && domOn s3 11 then chgPathChange s3 else s3

/-- MAIN with VBAK_PRESENT gives way to BAK under VMAIN_LOW or VMAIN_MARGIN. -/
def mainGivesWay (s : State) (vmain vbak : BitVec 16) : State :=
  if s.pwr.path = .main && s.pwr.vbakPresent then
    (if vmainLow vmain then pathChange s .bak 1 vmain vbak
     else if vmainMargin vmain vbak then pathChange s .bak 2 vmain vbak
     else s)
  else s

/-- What BAK without VBAK_PRESENT and HOLD with it do while VMAIN_QUAL does not hold. -/
def pathSettle (s : State) (vmain vbak : BitVec 16) : State :=
  if s.pwr.vmainQual then s
  else if s.pwr.path = .bak && !s.pwr.vbakPresent then pathChange s .hold 5 vmain vbak
  else if s.pwr.path = .hold && s.pwr.vbakPresent then pathChange s .bak 6 vmain vbak
  else s

/-- VMAIN_QUAL is lost: the return timer stops at zero (R408). -/
def qualLost (s : State) : State := setPwr s { s.pwr with vmainQual := false, retTiming := false }

/-- `VMAIN_LOW` (R407): VMAIN below 7.5 V or below VBAK + 0.5 V, neither of which leaves VMAIN qualified. -/
def execVmainLow (vmain vbak : BitVec 16) (s : State) : Host.Outcome State Fault Refusal :=
  .next (whilePowered s fun s => if vmainLow vmain || vmainMargin vmain vbak then 
      mainGivesWay (pathSettle (qualLost (ovSeen s vmain)) vmain vbak) vmain vbak else s)

/-- `VMAIN_OV` (R407, R409). -/
def execVmainOv (vmain vbak : BitVec 16) (s : State) : Host.Outcome State Fault Refusal :=
  .next (whilePowered s fun s => if thVmainOv.typ < 10 * vmain.toNat then
      (let s1 := qualLost (ovSeen s vmain)
       if s1.pwr.path ≠ .main then pathSettle s1 vmain vbak
       else pathChange s1 (if s1.pwr.vbakPresent then .bak else .hold) 3 vmain vbak)
    else s)

/-- `VBAK_LOST` (R407): VBAK_PRESENT clears below 7.0 V. -/
def execVbakLost (vmain vbak : BitVec 16) (s : State) : Host.Outcome State Fault Refusal :=
  .next (whilePowered s fun s =>
    if 10 * vbak.toNat < thVbakFall.typ then pathSettle (setPwr s { s.pwr with vbakPresent := false }) vmain vbak else s)

/-- `VBAK_PRESENT` (R407): HOLD or a low VMAIN gives way to BAK; a pack that appears is authenticated where AUTH_REQ asks for it
(R483). -/
def execVbakPresent (vmain vbak : BitVec 16) (s : State) : Host.Outcome State Fault Refusal :=
  .next (whilePowered s fun s => if s.pwr.vbakPresent || 10 * vbak.toNat ≤ thVbakRise.typ then s
    else
      let s1 := mainGivesWay (pathSettle (setPwr s { s.pwr with vbakPresent := true }) vmain vbak) vmain vbak
      if domOn s1 11 && s1.chg.cfg.isSome && authReq s1 then authStart s1 else s1)

/-- `VMAIN_QUAL_GAINED` at `us` (R408): outside MAIN the return timer starts. -/
def execVmainQualGained (vmain vbak : BitVec 16) (us : Nat) (s : State) : Host.Outcome State Fault Refusal :=
  .next (whilePowered s fun s => if s.pwr.vmainQual || !vmainQualOf vmain vbak then s
    else
      let s1 := ovSeen s vmain
      setPwr s1 { s1.pwr with vmainQual := true, retTiming := s1.pwr.path ≠ .main, retFrom := us })

/-- `VMAIN_QUAL_LOST` (R407, R408): the inputs are no longer those of VMAIN_QUAL. -/
def execVmainQualLost (vmain vbak : BitVec 16) (s : State) : Host.Outcome State Fault Refusal :=
  .next (whilePowered s fun s =>
    if vmainQualOf vmain vbak then s else pathSettle (qualLost (ovSeen s vmain)) vmain vbak)

/-- `RETURN_TIMER_EXPIRY` at `us`: 100 ms of VMAIN_QUAL without a break (R407–R409, Table 9-9). -/
def execReturnTimerExpiry (vmain vbak : BitVec 16) (us : Nat) (s : State) : Host.Outcome State Fault Refusal :=
  .next (whilePowered s fun s => 
      if s.pwr.retTiming && s.pwr.vmainQual && s.pwr.path ≠ .main && s.pwr.retFrom + 100000 ≤ us then wakeMpDomain (pathChange s .main 4 vmain vbak) 0x02 else s)

/-! ### Internal supplies (R27, R414, R415) -/

/-- The supervisors report on the regulators: VSYS has not browned out, and the start-up has brought them up. -/
def regulated (s : State) : Bool := powered s && s.pwr.vsysOk && (s.pwr.startStep = 0 || 5 ≤ s.pwr.startStep)

/-- `SUPPLY_UV`: VPRE, VCORE, VDD18, VDD33, VPHY, AVDD, VLINK and VGD as 0–7. Its domains are held off; a sequencer that supervises
rails of PD_REGC sees them go. -/
def execSupplyUv (i : Fin 8) (s : State) : Host.Outcome State Fault Refusal :=
  .next (
    if !regulated s || bitOf s.pwr.uvNow i.val then s
    else
      let b := maskOf 8 i.val 1
      let s1 := setPwr s { s.pwr with uvFlags := s.pwr.uvFlags ||| b, uvNow := s.pwr.uvNow ||| b }
      let s2 := holdLine s1 0 (s1.pwr.uvNow.setWidth 32)
      let s3 := forEach (supplyDoms i.val) forceOff s2
      seqWatch s2 s3 none)

/-- `SUPPLY_OV`: the flag and the line, no other action. -/
def execSupplyOv (i : Fin 8) (s : State) : Host.Outcome State Fault Refusal :=
  .next (
    if !regulated s then s
    else
      let b := maskOf 8 i.val 1
      assertLine (setPwr s { s.pwr with ovFlags := s.pwr.ovFlags ||| b }) 1 (b.setWidth 32))

/-- `SUPPLY_RECOVERS` (R27, R359): the domains that no supply holds off any more return to their requested states. -/
def execSupplyRecovers (i : Fin 8) (s : State) : Host.Outcome State Fault Refusal :=
  .next (
    if !regulated s || !bitOf s.pwr.uvNow i.val then s
    else
      let s1 := setPwr s { s.pwr with uvNow := s.pwr.uvNow &&& ~~~ maskOf 8 i.val 1 }
      let s2 := if s1.pwr.uvNow = 0 then endLine s1 0 else s1
      forEach (supplyDoms i.val) domRestore s2)

/-! ### Save at power-down (R419–R422; Table 9-6) -/

/-- A domain begins to leave on for the save; its requested state stays. A request that waited behind a transition is
replaced (R427). -/
def saveMove (k : Nat) (target : DomState) (s : State) : State :=
  let d := dom s k
  let r : DomReq := { target := target, byMp := false, ticket := none, byHost := false }
  match d.move with
  | none => if d.state = .on || (d.state = .retention && target = .off) then domStart s k r true else s
  | some m =>
    let s1 := match d.waiting with
      | some w => domTicket (setDom s k { d with result := 4 }) w.ticket stSuperseded (domResult s k)
      | none => s
    setDom s1 k { dom s1 k with waiting := if m.req.target = .off then none else some r }

/-- The domains that step 2 takes down. -/
def saveDoms : List (Nat × DomState) :=
  [(4, .retention), (5, .retention), (6, .off), (7, .off), (8, .off), (9, .off), (11, .retention), (12, .off)]

/-- PD_MP is brought on for the save, behind the transition that takes it down; a request that waited there is replaced (R427). -/
def saveMp (s : State) : State :=
  let on : DomReq := { target := .on, byMp := false, ticket := none, byHost := false }
  let d := dom s 3
  match d.move with
  | none => domStart (wakeOther s) 3 on false
  | some m =>
    if (m.req.target = .on && m.failed = 0) || d.waiting.any (fun w => w.target = .on) then s
    else
      let s1 := match d.waiting with
        | some w => domTicket (setDom s 3 { d with result := 4 }) w.ticket stSuperseded (domResult s 3)
        | none => s
      setDom (wakeOther s1) 3 { dom s1 3 with waiting := some on }

/-- `VSYS_SAVE` (R419): steps 1–3 of Table 9-6; the write of the save set goes on until SAVE_DONE. `flagging`: the page write in
progress is past its step 4 (R569). A crossing after SAVE_DONE is a save of its own (R569). With PD_MP in retention or off the save begins once PD_MP is on (log 78). -/
def execVsysSave (flagging : Bool) (s : State) : Host.Outcome State Fault Refusal :=
  .next (
    if (s.pwr.saveActive && !s.pwr.saveEnded) || !regulated s then s
    else
      let s1 := logLost (setPwr s { s.pwr with saveActive := true, saveEnded := false })
      let s2 := nvmSaveStart s1 flagging
      let s3 := if domOn s2 11 then chgSave s2 else s2
      let s4 := forEach saveDoms (fun e q => saveMove e.1 e.2 q) s3
      if domOn s4 3 then saveBegin s4 true else saveMp s4)

/-- A domain that the save took down returns to its requested state, behind a transition still in progress; a request made meanwhile
asks for that very state, and stays. -/
def saveRestore (k : Nat) (s : State) : State :=
  let d := dom s k
  match d.move with
  | none => domRestore k s
  | some _ =>
    if d.waiting.any (fun w => w.target = d.req) then s
    else setDom s k { d with waiting := some { target := d.req, byMp := d.byMp, ticket := none, byHost := false } }

/-- `VSYS_START_AFTER_SAVE` (R422). -/
def execVsysStartAfterSave (s : State) : Host.Outcome State Fault Refusal :=
  .next (
    if powered s && s.pwr.saveActive && s.pwr.saveEnded && s.pwr.vsysOk then
      forEach (saveDoms.map Prod.fst) saveRestore (setPwr s { s.pwr with saveActive := false })
    else s)

end Sys2Proof.Machine
end

