-- ==== Sys2Proof/Machine/Resets.lean ====
section
/-! DEFINITION. The chip-level resets and the start-up: operations and meanings (09_supplies_and_domains.md, R438–R444;
R22, R53, R367, R387, R388, R497–R500, R525, R585). -/

namespace Sys2Proof.Machine

/-! ### The reset itself (R438, Table 9-10) -/

/-- PWR_BKP_STATUS. -/
def bkpWord (s : State) : Word :=
  pack 32 [(0, 1, b2n s.pwr.bkpLost), (1, 1, b2n s.pwr.saveIncomplete), (2, 1, b2n s.pwr.saveDone)]

/-- FLT_PREV. -/
def prevWord (s : State) : Word := pack 32 [(0, 5, s.ret.prevSource), (31, 1, b2n s.ret.prevValid)]

/-- The power block at a chip-level reset: path, inputs and PD_BKP's fields stay; regulators that are turned off report nothing. -/
def Power.chipReset (p : Power) (off : Bool) : Power :=
  { p with saveActive := false, saveEnded := false, returns := 0, switchovers := 0, uvFlags := 0, ovFlags := 0
           uvNow := if off then 0 else p.uvNow, trim := 0, pllRuns := false, startStep := 2, doms := initDomains }

/-- The fault collector at a chip-level reset: conditions that outlive it assert their lines again (R498). -/
def fltAfterReset (s : State) (uv : Byte) : Faults :=
  let l0 : Sparse Word := if uv = 0 then [] else [(0, uv.setWidth 32)]
  let l1 : Sparse Word := if s.flt.clkSafe then l0 else Sparse.set l0 4 0
  { Faults.reset with lines := l1, active := if uv = 0 then 0 else 1, clkSafe := s.flt.clkSafe }

/-- The host side, event routing and the sideband port at a chip-level reset. -/
def resetHost (s : State) : State :=
  { s with
    regs := RegFile.reset
    pcie := { s.pcie.resetFunction with linkUp := false, training := false }
    qe := { QueueEngine.reset with nextId := s.qe.nextId }
    evr := Evr.reset, sb := Sideband.reset, ct := ChanTable.reset, lp := Links.reset, mc := Measure.reset
    ox := { Ox.reset with trendDay := s.ox.trendDay } }

/-- PD_MP and its memories at a chip-level reset: what the OTP, NVM, flash and retained SRAM hold stays. -/
def resetMp (s : State) : State :=
  newNonce { s with
    mp := s.mp.afterOff, mpSram := [], wakeMp := false, wakePcie := false
    nvm := { Nvm.fresh with pages := s.nvm.pages, remap := s.nvm.remap }
    otp := { Otp.blank with cells := s.otp.cells } }

/-- The chip-level reset with its causes; `off`: the regulators are turned off. FLT_PREV is the caller's. -/
def chipReset (s : State) (causes : BitVec 10) (off : Bool) : State :=
  let p := s.pwr.chipReset off
  let s1 := seqReset (resetMp (resetHost s))
  { s1 with
    glb := { Glb.reset with rstCause := causes }
    pwr := p, flt := fltAfterReset s p.uvNow
    gauge := { s1.gauge with gap := true }, rc := RailCtl.reset, chg := Charger.reset
    goose0 := Goose.reset, goose1 := Goose.reset, restart := none, g0Reset := false, g0ResetAt := none
    rtc := { s1.rtc with crossing := [], dateStaged := none, holdDate := none, holdFrac := 0 }, upSeconds := 0 }

/-- A chip-level reset other than power-on (R440, R497, R60; Tables 14-9 and 14-11). -/
def otherReset (s : State) (causes : BitVec 10) (off : Bool) : State :=
  let s1 := { s with ret := { s.ret with prevValid := s.flt.faultState, prevSource := s.flt.firstSource } }
  let s2 := noteCount (chipReset s1 (s.glb.rstCause ||| causes) off) 1
  noteLog s2 2 (pack 128 [(0, 32, s2.glb.rstCause.toNat), (32, 32, (prevWord s2).toNat)])

/-- Step 5 of Table 9-11: PD_MP is brought on, unless RESET_N is held low. -/
def startFive (s : State) : State :=
  let s1 := setPwr s { s.pwr with startStep := 5 }
  if s1.pwr.resetLow then s1 else domStart s1 3 { target := .on, byMp := false, ticket := none, byHost := false } false

/-! ### Power-on (R410, R417, R442) -/

/-- What PD_BKP loses without a supply (R417). -/
def bkpLose (s : State) : State :=
  { s with
    park := none, gauge := Gauge.zero, ret := Retained.zero, rtc := Rtc.lost
    mp := { s.mp with parking := Parking.zero }
    pwr := { s.pwr with saveDone := false, saveIncomplete := false, bkpLost := true, wake := { host := false, code := 0, time := 0 } } }

/-- The path at power-on reset (R410). -/
def pathAtPower (vmain vbak : BitVec 16) : Path :=
  if vmainQualOf vmain vbak then .main else if thVbakRise.typ < 10 * vbak.toNat then .bak else .hold

/-- `VRTC_OK_CHANGE` (R417): PD_BKP keeps a supply while VRTC or VSYS_POR holds. With the always-on supply gone the loss of VRTC loses it;
else its loss is judged as that supply goes. -/
def execVrtcOkChange (ok : Bool) (s : State) : Host.Outcome State Fault Refusal :=
  .next (
    let s1 := setPwr s { s.pwr with vrtcOk := ok }
    if ok || powered s then s1 else bkpLose s1)

/-- The always-on supply goes out of regulation: every register of Table 9-10 is lost, PD_BKP too without VRTC, and PD_AON and PD_SAFE
stop, so that every ball takes the level of R654. -/
def powerLost (s : State) : State :=
  let s0 := if s.pwr.vrtcOk then s else bkpLose s
  let s1 := chipReset { s0 with held := HeldEvents.reset } 1 true
  setPwr { s1 with flt := { s1.flt with clkSafe := false, lines := [], active := 0 } } { s1.pwr with
    path := .hold, holdByOv := false, retTiming := false, retFrom := 0, vmainQual := false, vmainOv := false, vbakPresent := false, vsysOk := false
    uvNow := 0, startStep := 1, doms := (initDomains.set 1 (Domain.init .on)).set 2 (Domain.init .on) }

/-- The release of the power-on reset: VSYS_START holds and the always-on supply is in regulation (R410, R442); the start-up runs to
step 5, and to no further while RESET_N is held low (R441). -/
def powerBack (s : State) (vmain vbak : BitVec 16) : State :=
  let s1 := chipReset { s with flt := { s.flt with clkSafe := true } } 1 true
  let s2 := setPwr s1 { s1.pwr with
    path := pathAtPower vmain vbak, holdByOv := false, retTiming := false, retFrom := 0, vmainQual := vmainQualOf vmain vbak
    vmainOv := decide (thVmainOv.typ < 10 * vmain.toNat), vbakPresent := decide (thVbakRise.typ < 10 * vbak.toNat), vsysOk := true }
  let s3 := noteCount s2 0
  let s4 := noteLog s3 1 (pack 128 [(0, 32, s3.glb.rstCause.toNat), (32, 32, (bkpWord s3).toNat)])
  startFive { s4 with flt := { s4.flt with clkSafe := true, lines := [] } }

/-- `POWER_ON_RESET`: the always-on supply goes (`none`), or is back with these inputs in 10 mV; a return that follows no loss
seen before takes both. -/
def execPowerOnReset (back : Option (BitVec 16 × BitVec 16)) (s : State) : Host.Outcome State Fault Refusal :=
  .next (
    let lost := whilePowered s powerLost
    match back with
    | none => lost
    | some v => powerBack lost v.1 v.2)

/-! ### The other chip-level resets -/

/-- `BROWN_OUT` (R421, R438): a save not yet done is recorded as incomplete. -/
def execBrownOut (s : State) : Host.Outcome State Fault Refusal :=
  .next (
    if !s.pwr.vsysOk then s
    else
      let bad := s.pwr.saveActive && !s.pwr.saveEnded
      let s1 := setPwr s { s.pwr with saveIncomplete := s.pwr.saveIncomplete || bad }
      let s2 := otherReset s1 (maskOf 10 1 1) true
      setPwr s2 { s2.pwr with vsysOk := false })

/-- `VSYS_START_AFTER_BROWN_OUT` (R438, R440). -/
def execVsysStartAfterBrownOut (s : State) : Host.Outcome State Fault Refusal :=
  .next (if s.pwr.vsysOk || !powered s then s else startFive (setPwr s { s.pwr with vsysOk := true }))

/-- `RESET_N`: low for at least 1 µs, and held low until RESET_N_RELEASE (R439, R441). In a brown-out the regulators stay off, and the
start-up waits for VSYS_START too; without the always-on supply nothing is there to be reset, and the power-on finds the pin low. -/
def execResetN (s : State) : Host.Outcome State Fault Refusal :=
  .next (
    if s.pwr.resetLow then s
    else if !powered s then setPwr s { s.pwr with resetLow := true }
    else
      let s1 := otherReset s (maskOf 10 2 1) (!s.pwr.vsysOk)
      setPwr s1 { s1.pwr with resetLow := true, startStep := if s.pwr.vsysOk then 5 else s1.pwr.startStep })

/-- `RESET_N_RELEASE` (R438, R441). -/
def execResetNRelease (s : State) : Host.Outcome State Fault Refusal :=
  .next (
    if !s.pwr.resetLow then s
    else
      let s1 := setPwr s { s.pwr with resetLow := false }
      if s1.pwr.vsysOk then startFive s1 else s1)

/-- Table 2-12: CHIP_RESET. -/
def specChipReset : OpSpec :=
  { opcode := 0x01, target := 0, align := 0, ops := maskOf 384 0 32, mpOk := false, dom := none, fsRefused := false }

/-- `CHIP_RESET` (R86): the completion first, then the reset; a wrong key is an encoding that is not defined (log 79). -/
def execChipReset (rq : Requester) (d : Desc) (s : State) : Host.Outcome State Fault Refusal :=
  .next (command specChipReset rq d (fun q t =>
    if opn d 16 0 32 ≠ 0xC41F0A5E then complete q t stInvalidField 0
    else startFive (otherReset (complete q t stSuccess 0) (maskOf 10 8 1) false)) s)

/-- `GOOSE_CHIP_RESTART` (R387, R388, R515): Goose 0's waits for the end of its down sequence, and the boot table comes up
afterwards whatever AUTO_UP is. -/
def execGooseChipRestart (s : State) : Host.Outcome State Fault Refusal :=
  .next (
    match s.restart with
    | none => s
    | some r =>
      if r.waitDown && (s.seq.state = .upRunning || s.seq.state = .up || s.seq.state = .downRunning) then s
      else
        let s1 := otherReset (noteCount s 5) ((if r.g0 then maskOf 10 6 1 else 0) ||| (if r.g1 then maskOf 10 7 1 else 0)) false
        startFive { s1 with seq := { s1.seq with bootUp := r.g0 } })

/-- `OSC_START_TIMEOUT` (R443): PD_MP fails at its CLK stage and the start-up stops. -/
def execOscStartTimeout (s : State) : Host.Outcome State Fault Refusal :=
  .next (
    match (dom s 3).move with
    | some m =>
      if s.pwr.startStep = 5 && m.req.target = .on && m.failed = 0 && m.stage = 2 then
        (let s1 := domStageFail s 3
         setPwr s1 { s1.pwr with startStep := 7 })
      else s
    | none => s)

/-! ### The OTP load (step 6 of Table 9-11) -/

/-- Every asserted line latches under R53 with class SAFE (R498). -/
def latchAll (s : State) : State :=
  forUpTo 32 (fun k q => match fltPending q k with | some d => fltLatch q k d s.flt.clkSafe | none => q) s

/-- RTC_AGEING from NVM page 9, where the page is valid (R585). -/
def rtcAgeingLoad (s : State) : State :=
  match nvRead s 9 with
  | none => pageError s 9
  | some b =>
    let v := (BitVec.ofNat 16 (leField b 2 2)).toInt
    if leField b 0 2 = 0x0D01 && leField b 12 4 = crc32 (b.take 12 ++ b.drop 16) && decide (-1000 ≤ v) && decide (v ≤ 1000) then
      { s with rtc := { s.rtc with ageing := v } }
    else s

/-- The values that the load yields come into force, and marginal words are reported (R525–R527, R536). -/
def otpTake (s : State) (reads : List MarginRead) : State :=
  let o := otpLoad s.otp reads
  let s1 := { s with
    otp := o, regs := s.regs.drop (fun off => off = 0xE010)
    rtc := { s.rtc with curve := Sparse.getD o.items 2 0x015409C4, offset := sbitsOf (Sparse.getD o.items 3 0) 0 16 } }
  let s2 := match o.loadMarginal with
    | [] => s1
    | w :: _ =>
      (let e := ev51 o reads true o.loadMarginal w
       noteLog (noteCount (raise s1 51 e) 7) 9 (e.setWidth 128))
  if o.digestFail = 0 then s2 else assertLine s2 6 (o.digestFail.setWidth 32)

/-- ALIVE starts with a high phase and SAFE_N is released, outside the fault state (R499, R500). -/
def safeRelease (s : State) : State :=
  let go := !s.flt.faultState && s.flt.clkSafe
  { s with flt := { s.flt with safeN := s.flt.faultState, aliveHigh := s.flt.aliveHigh || go, aliveRun := go } }

/-- `OTP_LOAD_COMPLETE`: the load, the recovery scan, the shadows, the boot table and PD_PCIE (Tables 1-10 and 9-11). A fault
during the load leaves the sequencer in SAFE without a table (log 80). -/
def execOtpLoadComplete (reads : List MarginRead) (unary : List (Nat × Nat)) (s : State) : Host.Outcome State Fault Refusal :=
  .next (
    if s.pwr.startStep ≠ 6 || !domOn s 3 || !rootAlive s || s.glb.otpLoaded then s
    else
      let s1 := latchAll (otpTake s reads)
      let s2 := rtcAgeingLoad (shadowLoad (recoveryScan s1 unary))
      let s3 := safeRelease { s2 with glb := { s2.glb with otpLoaded := true }, pwr := { s2.pwr with startStep := 0 } }
      let s3 := goose1Loaded s3
      let s4 := if flag s3 0x7180 7 then hostRstUpdate (gooseBoot s3 0) else s3
      let b := nvBytes s4 0 512
      let s5 := if s4.flt.faultState then s4 else seqBoot b.1 b.2.1
      let s6 := if s5.pwr.saveActive then s5 else domAsk s5 5 .on false false
      pllUpdate s6)

end Sys2Proof.Machine
end

