-- ==== Sys2Proof/Machine/Domains.lean ====
section
/-! DEFINITION. Meanings of the commands, writes and events of the power-domain controller (R88, R424–R436). -/

namespace Sys2Proof.Machine

/-- Table 2-12: POWER_STATE. -/
def specPowerState : OpSpec :=
  { opcode := 0x02, target := 0xFFFFFFFF, align := 0, ops := maskOf 384 0 8, mpOk := true, dom := none, fsRefused := false }

/-- A state code of POWER_STATE or REQ_STATE. -/
def domState (c : Nat) : DomState := match c with | 0 => .on | 1 => .retention | _ => .off

/-- `POWER_STATE` (R425). One that brings PD_MP on takes the wake code of a PWR_REQn write (log 75). -/
def execPowerState (rq : Requester) (d : Desc) (s : State) : Host.Outcome State Fault Refusal :=
  .next (command specPowerState rq d (fun q t =>
    if 12 < d.target.toNat || 2 < opn d 16 0 8 then complete q t stRange 0
    else domRequest (if d.target.toNat = 3 && opn d 16 0 8 = 0 then wakeNote q 0x21 else q) d.target.toNat
      { target := domState (opn d 16 0 8), byMp := reqIsMp rq, ticket := some t, byHost := !reqIsMp rq }) s)

/-- The sideband port may write registers (Table 2-3). -/
def sbWriteEn (s : State) : Bool := flag s 0x0010 0

/-- A write of PWR_REQn that has reached the block: 3 is ignored; PD_MP is woken by a host or sideband write (R426, Table 9-9). -/
def pwrReqWrite (s : State) (via : Via) (k : Nat) (w : Word) : State :=
  let s1 := match via with
    | .host => wakeMpDomain s 0x21
    | .sideband => wakeMpDomain s 0x22
    | .mp => s
  if bitsOf w 0 2 = 3 then s1 else domAsk s1 k (domState (bitsOf w 0 2)) (via = .mp) (via ≠ .mp)

/-- `PWR_REQ_WRITE` (R426, R98). -/
def execPwrReqWrite (via : Via) (dom : Fin 13) (w : Word) (s : State) : Host.Outcome State Fault Refusal :=
  .next (if viaReach s via && (via ≠ .sideband || sbWriteEn s) then pwrReqWrite s via dom.val w else s)

/-- `DOMAIN_STAGE_READY` (R433, R434): the stage in progress ends in time. -/
def execDomainStageReady (k : Fin 13) (s : State) : Host.Outcome State Fault Refusal :=
  .next (let s1 := domStage s k.val
         if k.val = 10 then seqWatch s s1 none else s1)

/-- `DOMAIN_STAGE_TIMEOUT` (R435). -/
def execDomainStageTimeout (k : Fin 13) (s : State) : Host.Outcome State Fault Refusal := .next (domStageFail s k.val)

end Sys2Proof.Machine
end

