-- ==== Sys2Proof/Machine/FaultRows.lean ====
section
/-! DEFINITION. Meanings of the fault collector's writes and events, of ALIVE and of the clock monitors
(11_faults_and_watchdogs.md, R40, R46–R52). -/

namespace Sys2Proof.Machine

/-- A register write through PCIe or the MP reaches the block; the sideband window is read-only here (Table 2-15). -/
def fltReach (s : State) (via : Via) : Bool := via ≠ .sideband && viaReach s via && s.flt.clkSafe

/-- FLT_STATUS (R490). -/
def execFltStatusClear (via : Via) (w : Word) (s : State) : Host.Outcome State Fault Refusal :=
  .next (if fltReach s via then fltClear s w else s)

/-- FLT_CTRL.FIRST_CLR = 1 (R490). -/
def execFirstClr (via : Via) (s : State) : Host.Outcome State Fault Refusal :=
  .next (if fltReach s via then firstClear s else s)

/-- FLT_TEST (R487). -/
def execFltTest (via : Via) (w : Word) (s : State) : Host.Outcome State Fault Refusal :=
  .next (if fltReach s via then fltTest s w else s)

/-- FLT_REACT0 and FLT_REACT1 (R493). -/
def execFltReactWrite (via : Via) (hi : Bool) (w : Word) (s : State) : Host.Outcome State Fault Refusal :=
  .next (if fltReach s via then reactWrite s hi w else s)

/-- Sources whose line no other row asserts: BANDGAP, MEM_UE, DIE_OT, MP_LOCKUP, OUTPUT_MON, CFG_PARITY (log 38); and
OTP_INTEGRITY for a load that has begun and does not complete. -/
def outsideSources : List Nat := [2, 5, 16, 21, 27, 28]

/-- The bits of a detail that Table 11-1 gives such a source. -/
def outsideMask (k : Nat) : Word :=
  match k with
  | 2 => 0x3 | 5 => 0xF | 6 => 0x3F | 16 => 0xFFFF0007 | 21 => 0x3 | 27 => 0x3 | _ => 0xFF

/-- Sources with lower numbers than `k` whose lines are asserted too latch in the same cycle, ahead of it, while no first fault is recorded
(R489). -/
def latchLower (k : Nat) (s : State) : State :=
  if s.flt.firstValid then s
  else forUpTo k (fun j q => match fltPending q j with | some d => fltLatch q j d true | none => q) s

/-- An asserted line latches its source. `detail` counts only for a source that no other row asserts (log 38): its line is asserted here,
and held while its bit is 1 (R43, R488). -/
def execFaultLatch (k : Fin 32) (detail : Word) (s0 : State) : Host.Outcome State Fault Refusal :=
  .next (
    let s := if s0.flt.clkSafe then latchLower k.val s0 else s0
    if !s.flt.clkSafe then s
    else match fltPending s k.val with
      | some d => fltLatch s k.val d true
      | none =>
        if !lineReads s k.val detail || !(outsideSources.contains k.val || (k.val = 6 && s.pwr.startStep = 6)) then s
        else if k.val = 27 && (bitsOf detail 0 2 = 0 || (bitOf detail 1 && !s.flt.safeN)) then s
        else if k.val = 16 && sbitsOf detail 16 16 < 10 * ((clampN 125 165 (fld s 0x703C 0 8) : Nat) : Int) then s
        else if bitOf s.flt.status k.val then assertLine s k.val (detail &&& outsideMask k.val)
        else fltLatch s k.val (detail &&& outsideMask k.val) true)

/-- The end of an ALIVE phase (R499). -/
def execAliveEdge (s : State) : Host.Outcome State Fault Refusal :=
  .next (if s.flt.aliveRun && s.flt.clkSafe then setFlt s { s.flt with aliveHigh := !s.flt.aliveHigh } else s)

/-- The PLL lock detector reports loss of lock: every root-derived clock stops (R47). -/
def execPllLossOfLock (s : State) : Host.Outcome State Fault Refusal :=
  .next (if s.pwr.pllRuns then { s with pwr := { s.pwr with pllRuns := false }, flt := { s.flt with pllFirst := true } } else s)

/-- The CLK_CORE monitor declares loss: the line is asserted, and its latch brings the root-clock override (R40, R46–R48). -/
def execClkCoreLoss (s : State) : Host.Outcome State Fault Refusal :=
  .next (
    if s.pwr.pllRuns || s.flt.pllFirst then
      assertLine { s with pwr := { s.pwr with pllRuns := false } } 3 (BitVec.ofNat 32 (b2n s.flt.pllFirst))
    else s)

/-- Loss of CLK_SAFE or of CLK_AON. CLK_SAFE's is latched by the CLK_AON path without a time (R48, R49, R491). -/
def execClkSafeLoss (aon : Bool) (s : State) : Host.Outcome State Fault Refusal :=
  .next (
    if aon then (if s.flt.clkSafe then assertLine s 4 1 else s)
    else if !s.flt.clkSafe then s
    else
      let s1 := setFlt s { s.flt with clkSafe := false, aliveRun := false }
      if bitOf s1.flt.status 4 then assertLine s1 4 0 else fltLatch s1 4 0 false)

end Sys2Proof.Machine
end

