-- ==== Sys2Proof/Machine/PcieConfig.lean ====
section
/-! DEFINITION. The configuration space of the endpoint function (02_host_rings.md, R54, R56, Table 2-1). The spec gives the options;
PCI Express gives the registers that hold them, and the places of the capabilities are the model's (log 102). -/

namespace Sys2Proof.Machine

/-- Revision ID: the stepping code (Table 2-1). -/
def revisionId : Nat := 16 * Config.stepLetter + Config.stepDigit

/-- Subsystem device and vendor IDs: device item 0, or the unprogrammed ones (Tables 2-1 and 12-8). -/
def subsystemIds (s : State) : Word := Sparse.getD s.otp.items 0 0x9250F1B0

/-- Bits of a doubleword that its byte enables select. -/
def beMask (be : BitVec 4) : Word :=
  pack 32 [(0, 8, 255 * b2n (bitOf be 0)), (8, 8, 255 * b2n (bitOf be 1)), (16, 8, 255 * b2n (bitOf be 2)), (24, 8, 255 * b2n (bitOf be 3))]

/-- Places of the capabilities: power management, PCI Express, MSI-X; AER stands at 0x100. -/
def capPm : Nat := 0x40
def capExp : Nat := 0x50
def capMsix : Nat := 0xA0
def capAer : Nat := 0x100

/-- The header of type 0: one function, BAR0 of 64 KiB and BAR2 of 4 KiB in 64-bit non-prefetchable memory, no interrupt pin. -/
def headRead (s : State) (off : Nat) : Word :=
  let c := s.pcie.config
  match off with
  | 0x00 => 0x9250F1B0
  | 0x04 => pack 32 [(0, 16, c.command.toNat), (2, 1, 0), (16, 16, 0x0010)] ||| pack 32 [(2, 1, b2n s.pcie.busMaster)]
  | 0x08 => pack 32 [(0, 8, revisionId), (8, 24, 0x088000)]
  | 0x0C => c.cacheLine.setWidth 32
  | 0x10 => c.bar0.setWidth 32 ||| 4
  | 0x14 => c.bar0.extractLsb' 32 32
  | 0x18 => c.bar2.setWidth 32 ||| 4
  | 0x1C => c.bar2.extractLsb' 32 32
  | 0x2C => subsystemIds s
  | 0x34 => BitVec.ofNat 32 capPm
  | 0x3C => c.intLine.setWidth 32
  | _ => 0

/-- Power management: PME from D3hot and D3cold, D0 and D3hot. -/
def pmRead (s : State) (off : Nat) : Word :=
  match off with
  | 0x00 => pack 32 [(0, 8, 1), (8, 8, capExp), (16, 3, 3), (27, 5, 0x18)]
  | 0x04 => pack 32 [(0, 2, if s.pcie.d3hot then 3 else 0), (8, 1, b2n s.pcie.config.pmeEn), (15, 1, b2n s.wakePcie)]
  | _ => 0

/-- PCI Express: payload 256, function-level reset, Gen3 x2, ASPM L1 with 2–4 µs, completion timeout ranges A and B. -/
def expRead (s : State) (off : Nat) : Word :=
  let c := s.pcie.config
  match off with
  | 0x00 => pack 32 [(0, 8, 0x10), (8, 8, capMsix), (16, 4, 2)]
  | 0x04 => pack 32 [(0, 3, 1), (15, 1, 1), (28, 1, 1)]
  | 0x08 => c.devCtl.setWidth 32
  | 0x0C => pack 32 [(0, 4, 3), (4, 6, 2), (10, 2, 2), (15, 3, 2)]
  | 0x10 => pack 32 [(0, 16, c.linkCtl.toNat), (16, 4, s.pcie.speed), (20, 6, s.pcie.width)]
  | 0x24 => pack 32 [(0, 4, 3), (4, 1, 1)]
  | 0x28 => c.devCtl2.setWidth 32
  | 0x2C => pack 32 [(1, 7, 7)]
  | _ => 0

/-- MSI-X: 64 vectors, the table at BAR0 0xC000 and the PBA at BAR0 0xD000. -/
def msixCapRead (s : State) (off : Nat) : Word :=
  match off with
  | 0x00 => pack 32 [(0, 8, 0x11), (16, 11, 63), (30, 1, b2n s.pcie.msixFuncMask), (31, 1, b2n s.pcie.msixEnable)]
  | 0x04 => 0xC000
  | 0x08 => 0xD000
  | _ => 0

/-- Advanced error reporting. No command reports a PCIe error, so the status words stay 0. -/
def aerRead (s : State) (off : Nat) : Word :=
  match off with
  | 0x00 => pack 32 [(0, 16, 1), (16, 4, 2)]
  | 0x08 => s.pcie.config.aerUncMask
  | 0x0C => s.pcie.config.aerSeverity
  | 0x14 => s.pcie.config.aerCorMask
  | _ => 0

/-- The doubleword of the configuration space at an offset: what a configuration read returns (R54). No other capability exists. -/
def configRead (s : State) (off : Nat) : Word :=
  if off < 0x40 then headRead s off
  else if off < capPm + 8 then pmRead s (off - capPm)
  else if capExp ≤ off ∧ off < capExp + 0x3C then expRead s (off - capExp)
  else if capMsix ≤ off ∧ off < capMsix + 0xC then msixCapRead s (off - capMsix)
  else if capAer ≤ off then aerRead s (off - capAer)
  else 0

/-- A change of the configuration fields. -/
def setConfig (s : State) (c : PciConfig) : State := { s with pcie := { s.pcie with config := c } }

/-- The doubleword `w` is put in place at an offset; bits that cannot be written keep their value. -/
def configPut (s : State) (off : Nat) (w : Word) : State :=
  let c := s.pcie.config
  match off with
  | 0x04 => setConfig { s with pcie := { s.pcie with busMaster := bitOf w 2 } } { c with command := w.setWidth 16 &&& 0x0542 }
  | 0x0C => setConfig s { c with cacheLine := w.setWidth 8 }
  | 0x10 => setConfig s { c with bar0 := (c.bar0 &&& 0xFFFFFFFF00000000) ||| (w &&& 0xFFFF0000).setWidth 64 }
  | 0x14 => setConfig s { c with bar0 := (c.bar0 &&& 0xFFFFFFFF) ||| (w.setWidth 64 <<< 32) }
  | 0x18 => setConfig s { c with bar2 := (c.bar2 &&& 0xFFFFFFFF00000000) ||| (w &&& 0xFFFFF000).setWidth 64 }
  | 0x1C => setConfig s { c with bar2 := (c.bar2 &&& 0xFFFFFFFF) ||| (w.setWidth 64 <<< 32) }
  | 0x3C => setConfig s { c with intLine := w.setWidth 8 }
  | 0x44 =>
    let d3 := if bitsOf w 0 2 = 3 then true else if bitsOf w 0 2 = 0 then false else s.pcie.d3hot
    setConfig { s with pcie := { s.pcie with d3hot := d3 }, wakePcie := s.wakePcie && !bitOf w 15 } { c with pmeEn := bitOf w 8 }
  | 0x58 => setConfig s { c with devCtl := w.setWidth 16 &&& 0x7FFF }
  | 0x60 => setConfig s { c with linkCtl := w.setWidth 16 &&& 0x00CA }
  | 0x78 => setConfig s { c with devCtl2 := w.setWidth 16 &&& 0x001F }
  | 0xA0 => { s with pcie := { s.pcie with msixEnable := bitOf w 31, msixFuncMask := bitOf w 30 } }
  | 0x108 => setConfig s { c with aerUncMask := w }
  | 0x10C => setConfig s { c with aerSeverity := w }
  | 0x114 => setConfig s { c with aerCorMask := w }
  | _ => s

/-- A configuration write of the bytes that `be` enables (R54, R56); with none enabled it reads only. What the doubleword then holds
stands in `readData` (log 90). -/
def configWrite (s : State) (off : Nat) (be : BitVec 4) (w : Word) : State :=
  let t := if be = 0 then s else configPut s off (mergeMask (configRead s off) w (beMask be))
  { t with readData := configRead t off }

end Sys2Proof.Machine
end

