-- ==== Sys2Proof/Machine/HostRows.lean ====
section
/-! DEFINITION. Meanings of the PCIe events, of the doorbells, of the queue engine and of event routing (02_host_rings.md,
15_events_and_register_index.md). -/

namespace Sys2Proof.Machine

/-! ### PCI Express (R51, R92–R96, R430) -/

/-- `PERST_N_ASSERT` (R92, R96). -/
def execPerstNAssert (s : State) : Host.Outcome State Fault Refusal :=
  .next (if s.pcie.perst then s else pcieReset (dropLink { s with pcie := { s.pcie with perst := true } }) 3)

/-- `PERST_N_RELEASE` (R430, R51): PD_PCIE is brought on, before the OTP load too, and the link trains. -/
def execPerstNRelease (s : State) : Host.Outcome State Fault Refusal :=
  .next (
    let s1 := { s with pcie := { s.pcie with perst := false } }
    if (dom s1 5).state = .on then startTraining s1 else wakeMpDomain (domAsk s1 5 .on false true) 0x20)

/-- `LINK_DOWN` (R92, R51): a hot reset or a link-down; `refclk` tells whether the reference clock is still present. -/
def execLinkDown (refclk : Bool) (s : State) : Host.Outcome State Fault Refusal :=
  .next (
    let s0 := { s with pcie := { s.pcie with refclk := refclk } }
    if s0.pcie.linkUp || s0.pcie.training then startTraining (pcieReset (dropLink s0) 4) else s0)

/-- A configuration request that arrives is answered with Configuration Request Retry Status until OTP_LOADED is set, and acts from then
on (R444). -/
def configRequest (s : State) (act : State → State) : State :=
  if !domOn s 5 || !s.pcie.linkUp then s
  else if !s.glb.otpLoaded then { s with pcie := { s.pcie with retry := true } }
  else act { s with pcie := { s.pcie with retry := false } }

/-- `FUNCTION_LEVEL_RESET` (R93), a configuration request: the link stays up. -/
def execFunctionLevelReset (s : State) : Host.Outcome State Fault Refusal := .next (configRequest s fun q => pcieReset q 5)

/-- `REFCLK_RETURN` (R51). -/
def execRefclkReturn (s : State) : Host.Outcome State Fault Refusal :=
  .next (startTraining { s with pcie := { s.pcie with refclk := true } })

/-- `LINK_TRAINING_COMPLETE`: the link is in L0 at generation 1–3 with 1 or 2 lanes (Table 2-1, R636). -/
def execLinkTrainingComplete (speed width : Nat) (s : State) : Host.Outcome State Fault Refusal :=
  .next (
    if s.pcie.training && domOn s 5 then
      tableAgain { s with pcie := { s.pcie with linkUp := true, training := false, speed := speed, width := width } }
    else s)

/-- `PCIE_CONFIG_WRITE` (R54, R56, R444, R643, R647): a configuration write of a doubleword under its byte enables. -/
def execPcieConfigWrite (off : BitVec 12) (be : BitVec 4) (w : Word) (s : State) : Host.Outcome State Fault Refusal :=
  .next (configRequest s fun q => tableAgain (configWrite q (off.toNat / 4 * 4) be w))

/-! ### Queue engine (R64–R66, R75–R84) -/

/-- Table 2-12: NOP, run by the queue engine. -/
def specNop : OpSpec := { opcode := 0x00, target := 0, align := 0, ops := 0, mpOk := true, dom := some 4, fsRefused := false }

/-- `NOP` (R85). -/
def execNop (rq : Requester) (d : Desc) (s : State) : Host.Outcome State Fault Refusal :=
  .next (command specNop rq d (fun q t => complete q t stSuccess 0) s)

/-- QE_CTRL is reached (R15; no such register lies in the sideband window). -/
def qeReach (s : State) (via : Via) : Bool := via ≠ .sideband && viaReach s via && domOn s 4 && rootAlive s

/-- `QE_RUN_START` (R64, R65, R77): what the host has stored by then is in its memory. -/
def execQeRunStart (via : Via) (stores : Stores) (s : State) : Host.Outcome State Fault Refusal :=
  .next (let s1 := hostStores s stores
         if qeReach s1 via then qeCtrlWrite s1 1 else s1)

/-- `QE_RUN_STOP` (R66). -/
def execQeRunStop (via : Via) (s : State) : Host.Outcome State Fault Refusal :=
  .next (if qeReach s via then qeCtrlWrite s 0 else s)

/-- `DESCRIPTOR_FETCH` (R78, R82, R84). -/
def execDescriptorFetch (fails : Bool) (s : State) : Host.Outcome State Fault Refusal := .next (fetchDescriptor s fails)

/-- `SQ_TAIL_DOORBELL` (R75–R77); the descriptors that the host has stored by then are in its memory. -/
def execSqTailDoorbell (n : Fin 4) (w : Word) (stores : Stores) (s : State) : Host.Outcome State Fault Refusal :=
  .next (sqDoorbell (hostStores s stores) n.val w)

/-- `CQ_HEAD_DOORBELL`. -/
def execCqHeadDoorbell (n : Fin 4) (w : Word) (s : State) : Host.Outcome State Fault Refusal := .next (headDoorbell s (4 + n.val) w)

/-- `EQ_HEAD_DOORBELL`. -/
def execEqHeadDoorbell (w : Word) (s : State) : Host.Outcome State Fault Refusal := .next (headDoorbell s 8 w)

/-- `BUFFER_RETURN_DOORBELL`: TS0–TS15, 16 for TSC. -/
def execBufferReturnDoorbell (n : Fin 17) (w : Word) (s : State) : Host.Outcome State Fault Refusal := .next (returnDoorbell s n.val w)

/-! ### Event routing (R636–R644) -/

/-- The event-routing block is reached. -/
def evrReach (s : State) (via : Via) : Bool := via ≠ .sideband && viaReach s via && domOn s 4 && rootAlive s

/-- `EVR_MASK_WRITE` (R639, R640). -/
def execEvrMaskWrite (via : Via) (hi : Bool) (w : Word) (s : State) : Host.Outcome State Fault Refusal :=
  .next (if evrReach s via then maskWrite s hi w else s)

/-- `EVR_PEND_CLEAR` (R640). -/
def execEvrPendClear (via : Via) (hi : Bool) (w : Word) (s : State) : Host.Outcome State Fault Refusal :=
  .next (if evrReach s via then pendClear s hi w else s)

/-- `EVR_OPEN_WRITE` (R636). -/
def execEvrOpenWrite (via : Via) (w : Word) (s : State) : Host.Outcome State Fault Refusal :=
  .next (if evrReach s via then setOpen s (bitOf w 0) else s)

/-- `EVR_LAST_LO_READ` (R644); 0 while PD_CORE is not on (R15). -/
def execEvrLastLoRead (via : Via) (s : State) : Host.Outcome State Fault Refusal :=
  .next (
    if via ≠ .sideband && viaReach s via then
      (if domOn s 4 then { (lastLoRead s).1 with readData := (lastLoRead s).2 } else { s with readData := 0 })
    else s)

/-- `COALESCE_TIMEOUT` (R641): TIME_US of a vector runs out. -/
def execCoalesceTimeout (v : Fin 64) (s : State) : Host.Outcome State Fault Refusal :=
  .next (if domOn s 4 && rootAlive s && (Sparse.get? s.evr.coal v.val).isSome then coalSend v.val s else s)

end Sys2Proof.Machine
end

