-- ==== Sys2Proof/Machine/PackAuth.lean ====
section
/-! DEFINITION. Authentication of the backup pack, and the charger's register rows (10_backup_pack_and_charger.md, R477,
R482–R486; log 58). -/

namespace Sys2Proof.Machine

/-- ASCII "BAK-PACK". -/
def bakPack : List Byte := [0x42, 0x41, 0x4B, 0x2D, 0x50, 0x41, 0x43, 0x4B]

/-- The expected RESPONSE (Table 10-8). -/
def packExpected (s : State) (ch : BitVec 128) (serial : BitVec 64) : BitVec 64 :=
  let ser := leBytes 8 serial.toNat
  BitVec.ofNat 64 (leNat ((cmac (cmac (keyBytes s.otp 324 4) (bakPack ++ ser)) (leBytes 16 ch.toNat ++ ser)).take 8))

/-- The pack root key is usable (R483, R531). -/
def packKeyOk (s : State) : Bool := bitOf s.otp.keyOk 1

/-! ### The exchange on BAUTH (R482, Table 10-8) -/

/-- A request: 0xA5, CMD, LEN, the payload and the CRC-16 of what follows the start byte. -/
def bauthRequest (cmd : Nat) (payload : List Byte) : List Byte :=
  let body := leBytes 1 cmd ++ leBytes 1 payload.length ++ payload
  leBytes 1 0xA5 ++ body ++ leBytes 2 (crc16 body)

/-- STATUS and payload of an answer; none for no response: one that is missing, late, malformed or fails its CRC. -/
def bauthAnswer (raw : Option (List Byte)) : Option (Nat × List Byte) :=
  match raw with
  | none => none
  | some b =>
    let n := leField b 2 1
    if leField b 0 1 = 0x5A && b.length = n + 5 && leField b (n + 3) 2 = crc16 ((b.drop 1).take (n + 2)) then
      some (leField b 1 1, (b.drop 3).take n)
    else none

/-- The payload of an answer with STATUS 0, of `n` bytes. -/
def bauthPayload (raw : Option (List Byte)) (n : Nat) : Option Nat :=
  match bauthAnswer raw with
  | some (0, p) => if p.length = n then some (leNat p) else none
  | _ => none

/-- What IDENT answers: SERIAL, PART, CHEM, CELLS, NOM_CAP. -/
def packIdent (raw : Option (List Byte)) : Option (BitVec 128) := (bauthPayload raw 16).map (BitVec.ofNat 128)

/-- What CHALLENGE answers: RESPONSE. -/
def packResponse (raw : Option (List Byte)) : Option (BitVec 64) := (bauthPayload raw 8).map (BitVec.ofNat 64)

/-- A passing attempt (R483–R485). -/
def packPass (s : State) (serial : BitVec 64) : State :=
  let changed := match s.ret.packSerial with | some x => decide (x ≠ serial) | none => false
  let old := s.ret.packSerial.getD 0
  let s1 := setChg s { s.chg with authRunning := false, authResult := 1, authBlock := false, keyUnusable := false, serialChanged := changed, serial := serial
                                  authPassAt := some s.upSeconds }
  let s2 := { s1 with ret := { s1.ret with packSerial := some serial } }
  if changed then noteLog (noteCount (ev44 (gaugeReset s2) 3) 10) 6 (pack 128 [(0, 64, old.toNat), (64, 64, serial.toNat)]) else s2

/-- A run has failed (R484). -/
def packFail (s : State) : State :=
  let r := if s.chg.authAnswered then 2 else 3
  let s1 := setChg s { s.chg with authRunning := false, authResult := r, keyUnusable := !packKeyOk s }
  let s2 := raise s1 47 (pack 64 [(0, 2, r), (2, 1, b2n s1.chg.keyUnusable), (8, 8, s1.chg.authAttempts), (32, 32, s1.chg.authSerial.toNat)])
  if authReq s2 then
    let s3 := revEnd (fwdEnd (chgLatch s2 0x200 5) 5 .disabled) 6
    setChg s3 { s3.chg with authBlock := true }
  else s2

/-- One attempt: IDENT, and CHALLENGE with a fresh challenge, with the bytes that come back from the start byte on. -/
def packAttempt (s : State) (ident resp : Option (List Byte)) : State :=
  let ch := Config.freeChallenge s.free
  let s1 := takeFree (setChg s { s.chg with
    authAttempts := s.chg.authAttempts + 1, authMs := 0
    authSent := bauthRequest 1 [] ++ bauthRequest 2 (leBytes 16 ch.toNat)
    authAnswered := s.chg.authAnswered || ((bauthAnswer ident).isSome && (bauthAnswer resp).isSome)
    authSerial := match packIdent ident with | some i => i.setWidth 64 | none => s.chg.authSerial })
  let passed := match packIdent ident, packResponse resp with
    | some i, some r => packKeyOk s && bitsOf i 80 8 = 1 && bitsOf i 88 8 = 4 && r = packExpected s ch (i.setWidth 64)
    | _, _ => false
  if passed then packPass s1 s1.chg.authSerial else if 3 ≤ s1.chg.authAttempts then packFail s1 else s1

/-- `AUTH_ATTEMPT` (R482–R485); the attempts of a run stand 100 ms apart. -/
def execAuthAttempt (ident resp : Option (List Byte)) (s : State) : Host.Outcome State Fault Refusal :=
  .next (if domOn s 11 && rootAlive s && s.chg.authRunning && (s.chg.authAttempts = 0 || 100 ≤ s.chg.authMs) then packAttempt s ident resp else s)

/-! ### CHG_CTRL and CHG_QB (Table 10-9) -/

/-- A LIVE write of the charger takes effect at the next control tick (R486). -/
def chgLive (s : State) (off : Nat) (w : Word) : State :=
  if domOn s 11 && rootAlive s then { s with regs := { s.regs with late := s.regs.late ++ [(off, w)] } } else s

/-- `SWEEP_NOW` (R468): a write of CHG_CTRL. -/
def execSweepNow (via : Via) (w : Word) (s : State) : Host.Outcome State Fault Refusal :=
  .next (if rowReach s via then chgLive s 0x6000 w else s)

/-- `AUTH_NOW` (R483): a write of CHG_CTRL. -/
def execAuthNow (via : Via) (w : Word) (s : State) : Host.Outcome State Fault Refusal :=
  .next (if rowReach s via then chgLive s 0x6000 w else s)

/-- `CHG_HOLD` (R475): a write of CHG_CTRL. -/
def execChgHold (via : Via) (w : Word) (s : State) : Host.Outcome State Fault Refusal :=
  .next (if rowReach s via then chgLive s 0x6000 w else s)

/-- CHG_QB_LO, whose read captures CHG_QB_HI (R477); 0 while PD_CHG is not on (R15). -/
def qbLoRead (s : State) : State × Word :=
  if domOn s 11 then (setChg s { s.chg with qbHi := s.chg.qb.extractLsb' 32 16 }, s.chg.qb.setWidth 32) else (s, 0)

/-- `CHG_QB_LO_READ` (R477); the sideband window reads the block too (Table 2-15). -/
def execChgQbLoRead (via : Via) (s : State) : Host.Outcome State Fault Refusal :=
  .next (if viaReach s via then { (qbLoRead s).1 with readData := (qbLoRead s).2 } else s)

end Sys2Proof.Machine
end

