-- ==== Sys2Proof/Machine/Rails.lean ====
section
/-! DEFINITION. Meanings of the rail commands and of the events of rail control (07_rail_control.md). -/

namespace Sys2Proof.Machine

/-- Table 2-12: RAIL_SET_VOLTAGE, RAIL_ENABLE and RAIL_MODE. -/
def specRailSetVoltage : OpSpec :=
  { opcode := 0x40, target := 0xFFFFFFFF, align := 0, ops := maskOf 384 0 32, mpOk := false, dom := some 10, fsRefused := true }
def specRailEnable : OpSpec :=
  { opcode := 0x41, target := 0xFFFFFFFF, align := 0, ops := maskOf 384 0 1, mpOk := true, dom := some 10, fsRefused := true }
def specRailMode : OpSpec :=
  { opcode := 0x42, target := 0xFFFFFFFF, align := 0, ops := maskOf 384 0 8, mpOk := false, dom := some 10, fsRefused := true }

/-- RESULT of RAIL_SET_VOLTAGE: the set-point of the target in force (R332). -/
def setPoint (s : State) (n : Nat) : DWord :=
  BitVec.ofNat 64 (roundDiv (refMvOf s n (rail s n).target * divRatio s n : Nat) 1000).toNat

/-- The earlier RAIL_SET_VOLTAGE completes with SUPERSEDED and the reference in force (R334). -/
def supersede (s : State) (n : Nat) : State :=
  match (rail s n).waitSet with
  | some t => complete (setRail s n { rail s n with waitSet := none }) t stSuperseded (BitVec.ofNat 64 (outMvOf s n (rail s n).ref))
  | none => s

/-- RAIL_SET_VOLTAGE by state (Table 7-5, R334). -/
def railSetVoltage (s : State) (n v slew : Nat) (t : Ticket) : State :=
  let s1 := setRail s n { rail s n with target := v }
  let slewTo := fun q : State =>
    if targetRef q n = (rail q n).ref then
      complete (setRail q n { rail q n with state := .regulating, ramp := none }) t stSuccess (setPoint q n)
    else rampTo (setRail q n { rail q n with state := .slewing, waitSet := some t }) n (.cmd slew)
  match (rail s n).state with
  | .softstart =>
    let s2 := supersede s1 n
    rampTo (setRail s2 n { rail s2 n with waitSet := some t }) n .ss
  | .regulating => slewTo s1
  | .slewing => slewTo (supersede s1 n)
  | _ => complete s1 t stSuccess (setPoint s1 n)

/-- RAIL_SET_VOLTAGE (R332–R334). -/
def execRailSetVoltage (rq : Requester) (d : Desc) (s : State) : Host.Outcome State Fault Refusal :=
  .next (command specRailSetVoltage rq d (fun q t =>
    let v := opn d 16 0 16
    let slew := opn d 18 0 16
    let n := d.target.toNat
    if 8 ≤ n || refMvOf q n v < 300 || 1800 < refMvOf q n v || slew = 0 || 200 < slew then complete q t stRange 0
    else railSetVoltage q n v slew t) s)

/-- RAIL_ENABLE by state (Table 7-6). -/
def railEnable (s : State) (n : Nat) (on : Bool) (t : Ticket) : State :=
  let r := rail s n
  if on then
    match r.state with
    | .off =>
      let x := railStart (setRail s n { r with waitOn := [t] }) n false
      (match x.2 with
       | some st => complete (setRail x.1 n { rail x.1 n with waitOn := [] }) t st 0
       | none => x.1)
    | .precheck => setRail s n { r with waitOn := r.waitOn ++ [t] }
    | .softstart => setRail s n { r with waitOn := r.waitOn ++ [t] }
    | .stopping => setRail s n { r with waitOn := r.waitOn ++ [t], after := .start, bySeq := false }
    | .fault => complete s t stRefused 0
    | _ => complete s t stSuccess 1
  else
    match r.state with
    | .off => complete s t stSuccess 0
    | _ => railStop (setRail s n { r with waitOff := r.waitOff ++ [t] }) n

/-- RAIL_ENABLE (R335, R337). -/
def execRailEnable (rq : Requester) (d : Desc) (s : State) : Host.Outcome State Fault Refusal :=
  .next (seqWatch s (command specRailEnable rq d (fun q t =>
    let n := d.target.toNat
    if 8 ≤ n then complete q t stRange 0
    else if railOwned q n then complete q t stOverridden 0
    else railEnable q n (opn d 16 0 1 = 1) t) s) none)

/-- RAIL_MODE (R336). -/
def execRailMode (rq : Requester) (d : Desc) (s : State) : Host.Outcome State Fault Refusal :=
  .next (command specRailMode rq d (fun q t =>
    let n := d.target.toNat
    let m := opn d 16 0 8
    if 3 ≤ m then complete q t stInvalidField 0
    else if 8 ≤ n then complete q t stRange 0
    else
      let mode : RailMode := if m = 0 then .continuous else if m = 1 then .autoBurst else .diode
      railSettle (setRail q n { rail q n with waitMode := (rail q n).waitMode ++ [(t, mode)] }) n) s)

/-- The pre-start decision: sense voltage in mV, rail current in 0.1 A and sixteen switch-node samples in mV of each phase
(R327, R328). A rail that has entered FAULT in the same CLK_REG cycle stays there (R347). -/
def railDecide (s : State) (n : Nat) (m : RailMeas) (samples : List (Nat × List Nat)) : State :=
  let vpre := m.mv.toNat
  let hss := rfld s n 0x28 0 12 500 4000 * 1000
  let pre := vpre * divRatio s n + 1000000
  let lim := if hss < pre then pre else hss
  let bad := (railPhases s n).filter fun p => 12 ≤ countIf (fun v => lim < v * 1000) ((samples.find? fun e => e.1 = p).map Prod.snd |>.getD [])
  if bad ≠ [] then
    railFault s n 1 (bad.foldl (fun a p => a + 2 ^ p) 0) (some m) (some m.cycle)
  else if (rail s n).state = .fault then s
  else
    let r := rail s n
    let v : Rat := (vpre : Nat) / (1000 : Rat)
    if targetRef s n ≤ v then
      setRail s n { r with state := .softstart, ref := targetRef s n, ramp := none, reachedTarget := true, preHold := decide (targetRef s n < v) }
    else rampTo (setRail s n { r with state := .softstart, ref := v }) n .ss

/-- CLK_REG cycles from the start's acceptance to the decision: 58 µs, and STG_WAKE_US where the start raised STG_EN (R316, Table 7-4). -/
def decisionAt (s : State) (n : Nat) : Nat :=
  usCycles * (58 + (if (rail s n).wake then clampN 1 255 (fld s 0x4000 8 8) else 0))

/-- Pre-start check decision (R326, R327). -/
def execRailPrestartDecision (n : Fin 8) (vpre ia : BitVec 16) (cycle us : Nat) (samples : List (Nat × List Nat)) (s : State) :
    Host.Outcome State Fault Refusal :=
  let r := rail s n.val
  .next (if stateAt r cycle = .precheck && decisionAt s n.val ≤ r.preCycles then
    seqWatch s (railDecide s n.val { mv := vpre, ia := ia, cycle := cycle, us := us } samples) (some us) else s)

/-- The rail over the CLK_REG cycles sampled: its loop while it switches, and what it times (R319–R323, R338–R342). -/
def execRailPulse (n : Fin 8) (samples : List RailSample) (s : State) : Host.Outcome State Fault Refusal :=
  let k := n.val
  .next (
    if !(domOn s 10 && rootAlive s) then s
    else
      let t := forEach samples (fun x q => forUpTo x.cycles (fun _ => railCycle k x) q) s
      if (rail t k).state = (rail s k).state then t else seqWatch s t none)

/-- The 1 ms frequency trim, from the mean pulse rate of the active phases over it, where its conditions held throughout (R321). -/
def execRailFreqTrim (n : Fin 8) (s : State) : Host.Outcome State Fault Refusal :=
  let k := n.val
  let r := rail s k
  let f : Rat := (fswKhz s k : Nat)
  let act := (activePhases s k).length
  -- pulses of a phase in 1 ms are kHz
  let meas : Rat := (r.trimPulses : Rat) / ((if act = 0 then 1 else act : Nat) : Rat)
  let kf := if r.trimOk then clampQ (-1 / 10) (1 / 10) (r.kf + 1 / 20 * (meas - f) / f) else r.kf
  .next (if msCycles ≤ r.trimCycles then setRail s k { r with kf := kf, trimCycles := 0, trimPulses := 0, trimOk := true } else s)

/-- The soft-start reference reaches the target (R328). -/
def execRailRefAtTarget (n : Fin 8) (s : State) : Host.Outcome State Fault Refusal :=
  .next (
    let r := rail s n.val
    if r.state = .softstart && r.ramp.isSome && r.ref = targetRef s n.val then
      setRail s n.val { r with ramp := none, reachedTarget := true }
    else s)

/-- CLK_REG cycles of the 16 µs of PG (R329). -/
def pgCycles : Nat := 16 * usCycles

/-- PG gained: the reference at the target and the sense voltage inside for 16 µs (R329, Tables 7-5 and 7-6). -/
def execRailPgGained (n : Fin 8) (m : RailMeas) (s : State) : Host.Outcome State Fault Refusal :=
  .next (
    let k := n.val
    let r := rail s k
    if r.pg || r.pgIn < pgCycles || (r.ref ≠ targetRef s k && r.state = .softstart) then s
    else match r.state with
      | .softstart =>
        let s1 := railEvent (setRail s k { r with pg := true, state := .regulating, waitSet := none, waitOn := [] }) k 1 0 (phaseMask s k) (some m)
        let s2 := match r.waitSet with | some t => complete s1 t stSuccess (setPoint s1 k) | none => s1
        seqWatch s (completeAll s2 r.waitOn stSuccess 1) (some m.us)
      | .regulating => seqWatch s (railEvent (setRail s k { r with pg := true }) k 1 0 (phaseMask s k) (some m)) (some m.us)
      | .slewing => seqWatch s (railEvent (setRail s k { r with pg := true }) k 1 0 (phaseMask s k) (some m)) (some m.us)
      | _ => s)

/-- PG lost after 16 µs outside (R329). -/
def execRailPgLost (n : Fin 8) (m : RailMeas) (s : State) : Host.Outcome State Fault Refusal :=
  .next (
    let r := rail s n.val
    if (r.state = .regulating || r.state = .slewing) && pgCycles ≤ r.pgOut then seqWatch s (losePg s n.val (some m)) (some m.us) else s)

/-- PG not gained by SS_TIMEOUT, in 0.1 ms, after the reference first equalled the target (R330). -/
def execRailStartTimeout (n : Fin 8) (m : RailMeas) (s : State) : Host.Outcome State Fault Refusal :=
  let r := rail s n.val
  .next (if stateAt r m.cycle = .softstart && r.reachedTarget && 100 * usCycles * rfld s n.val 0x1C 16 16 1 65535 ≤ r.sinceTarget then
    seqWatch s (railFault s n.val 6 0 (some m) (some m.cycle)) (some m.us) else s)

/-- The stop ramp ends (R331). -/
def execRailStopDone (n : Fin 8) (s : State) : Host.Outcome State Fault Refusal :=
  .next (if (rail s n.val).state = .stopping && (rail s n.val).ref = 0 then seqWatch s (railOff s n.val) none else s)

/-- The reference reaches a new target (R333). -/
def execRailSlewDone (n : Fin 8) (s : State) : Host.Outcome State Fault Refusal :=
  .next (
    let k := n.val
    let r := rail s k
    if r.state = .slewing && r.ramp.isSome && r.ref = targetRef s k then
      let s1 := setRail s k { r with state := .regulating, ramp := none, waitSet := none }
      (match r.waitSet with | some t => complete s1 t stSuccess (setPoint s1 k) | none => s1)
    else s)

/-- Over-voltage for 1 µs (R343). -/
def execRailOv (n : Fin 8) (m : RailMeas) (s : State) : Host.Outcome State Fault Refusal :=
  let r := rail s n.val
  .next (if stateAt r m.cycle ≠ .off && stateAt r m.cycle ≠ .fault && usCycles ≤ r.ovRun then
    seqWatch s (railFault s n.val 2 0 (some m) (some m.cycle)) (some m.us) else s)

/-- The low drive after an over-voltage ends: the sense voltage below half its value at detection, or 1 ms (R343). -/
def execRailOvDriveEnd (n : Fin 8) (s : State) : Host.Outcome State Fault Refusal :=
  let r := rail s n.val
  .next (
    if r.state = .fault && r.ovLow && (2 * r.vs < 1000 * (r.faultMv : Int) || msCycles ≤ r.lowCycles) then
      drivePhases (setRail s n.val { r with ovLow := false }) n.val .tri
    else s)

/-- Under-voltage for UV_TIME (R344). -/
def execRailUv (n : Fin 8) (m : RailMeas) (s : State) : Host.Outcome State Fault Refusal :=
  let r := rail s n.val
  let st := stateAt r m.cycle
  .next (if (st = .regulating || st = .slewing) && usCycles * rfld s n.val 0x14 20 8 1 255 ≤ r.uvRun then
    seqWatch s (railFault s n.val 4 0 (some m) (some m.cycle)) (some m.us) else s)

/-- R345 applies: PD_REGC is on and TMON_EN is 1. -/
def tmonRuns (s : State) : Bool := domOn s 10 && flag s 0x4000 0

def tmonWarnAt (s : State) : Int := (clampN 40 180 (fld s 0x4008 0 8) : Nat) * 10
def tmonShdnAt (s : State) : Int := (clampN 60 200 (fld s 0x4008 8 8) : Nat) * 10

/-- Filtered TMON at or above WARN_C (R345). -/
def execTmonWarn (mv : BitVec 16) (s : State) : Host.Outcome State Fault Refusal :=
  .next (
    let t := tmonTemp mv.toNat
    if tmonRuns s && !s.rc.tmonWarn && tmonWarnAt s ≤ t then eachBusy { s with rc := { s.rc with tmonWarn := true, temp := t } } 6 else s)

/-- TMON at or above SHDN_C or above 2.5 V (R345). -/
def execTmonShutdown (mv : BitVec 16) (cycle us : Nat) (s : State) : Host.Outcome State Fault Refusal :=
  .next (
    let t := tmonTemp mv.toNat
    if tmonRuns s && !s.rc.tmonShdn && (tmonShdnAt s ≤ t || 2500 < mv.toNat) then
      let hit := fun (r : Rail) => decide (stateAt r cycle ≠ .off) && decide (stateAt r cycle ≠ .fault)
      seqWatch s (forUpTo 8 (fun n q => if hit (rail q n) then railFault q n 3 0 none (some cycle) else q)
        { s with rc := { s.rc with tmonShdn := true, temp := t } }) (some us)
    else s)

/-- TMON below 0.3 V for 1 ms (R345); `us` is how long the filtered TMON has stayed there. -/
def execTmonLost (mv : BitVec 16) (us : Nat) (s : State) : Host.Outcome State Fault Refusal :=
  .next (
    if tmonRuns s && !s.rc.tmonLost && mv.toNat < 300 && 1000 ≤ us then
      eachBusy { s with rc := { s.rc with tmonLost := true, temp := tmonTemp mv.toNat } } 7
    else s)

/-- TMON back within its clearing thresholds (R345); `us` is how long the filtered TMON has stayed at or above 0.3 V, 1 ms of which clear
TMON_LOST. -/
def execTmonClear (mv : BitVec 16) (us : Nat) (s : State) : Host.Outcome State Fault Refusal :=
  .next (
    let t := tmonTemp mv.toNat
    if !tmonRuns s then s
    else { s with rc := { s.rc with
      temp := t, tmonWarn := s.rc.tmonWarn && !(t < tmonWarnAt s - 100)
      tmonShdn := s.rc.tmonShdn && !(t < tmonShdnAt s - 100 && mv.toNat ≤ 2500), tmonLost := s.rc.tmonLost && !(300 ≤ mv.toNat && 1000 ≤ us) } })

/-- ILIM_ACTIVE held for 1 ms (R342). -/
def execRailIlim (n : Fin 8) (m : RailMeas) (s : State) : Host.Outcome State Fault Refusal :=
  .next (
    let r := rail s n.val
    if railSwitching s n.val && r.ilimActive && !r.ilimRaised && msCycles ≤ r.ilimHeld then
      railEvent (setRail s n.val { r with ilimRaised := true }) n.val 5 0 (phaseMask s n.val) (some m)
    else s)

/-- Phases with eight consecutive open or sense cycles are shed (R348–R351). -/
def execPhaseShed (n : Fin 8) (m : RailMeas) (s : State) : Host.Outcome State Fault Refusal :=
  .next (
    let k := n.val
    let r := rail s k
    let st := stateAt r m.cycle
    let act := (activePhases s k).filter fun p => shedDue (phs s p)
    if !(st = .regulating || st = .slewing) || r.burst || act = [] then s
    else
      let open_ := fun p => decide (8 ≤ (phs s p).openRun)
      let s1 := forEach act (fun p q => setPhs q p { phs q p with shed := true, shedReason := if open_ p then 1 else 2, pwm := .tri, bal := 0 }) s
      let s2 := setRail s1 k { r with sheds := satAdd r.sheds act.length }
      let few := decide ((activePhases s2 k).length < minPhases s2 k)
      let s3 := railEventAs s2 k (if few then .fault else r.state) 4 (if act.any open_ then 1 else 2) (act.foldl (fun a p => a + 2 ^ p) 0) (some m)
      seqWatch s (if few then railFault s3 k 5 0 (some m) (some m.cycle) else s3) (some m.us))

/-- BURST_EXIT, and BURST_ENTER, which at or above it acts as BURST_EXIT − 1, in 0.1 A (Table 7-11). -/
def burstExit (s : State) (n : Nat) : Int := (fld s (railBase n + 0x20) 12 12 : Nat)
def burstEnter (s : State) (n : Nat) : Int :=
  let e : Int := (fld s (railBase n + 0x20) 0 12 : Nat)
  if burstExit s n ≤ e then burstExit s n - 1 else e

/-- The rail current averaged over the last 64 pulses, in 0.1 A; none before there are 64 (R339). -/
def pulseMean (r : Rail) : Option Rat :=
  if r.pulseCur.length < 64 then none else some (10 * r.pulseCur.foldl (· + ·) 0 / 64)

/-- The averaged rail current falls below BURST_ENTER (R339). -/
def execRailBurstEnter (n : Fin 8) (s : State) : Host.Outcome State Fault Refusal :=
  .next (
    let r := rail s n.val
    let low := match pulseMean r with | some i => decide (i < (burstEnter s n.val : Rat)) | none => false
    if railSwitching s n.val && r.mode = .autoBurst && !continuousNow r && r.reachedTarget && r.ramp.isNone && !r.burst && low then
      setRail s n.val { r with burst := true, asleep := false, burstPulses := 0, burstNow := (0, 0), burstLast := none }
    else s)

/-- The current over the last burst and sleep, in 0.1 A. -/
def burstMean (r : Rail) : Option Rat := r.burstLast.map fun e => divQ (10 * e.1) (e.2 : Rat)

/-- A burst exit condition holds (R339); a ramp ends the burst as it begins. -/
def execRailBurstExit (n : Fin 8) (s : State) : Host.Outcome State Fault Refusal :=
  .next (
    let r := rail s n.val
    let high := match burstMean r with | some i => decide ((burstExit s n.val : Rat) ≤ i) | none => false
    if r.burst && (high || 64 < r.burstPulses) then setRail s n.val { r with burst := false, asleep := false } else s)

/-- The sense voltage reaches the reference + BURST_HYST_MV: the rail sleeps, its phases tri-state, a pulse under way ended (R339). -/
def execRailBurstSleep (n : Fin 8) (mv : BitVec 16) (s : State) : Host.Outcome State Fault Refusal :=
  .next (
    let r := rail s n.val
    let lim := refMv r + (rfld s n.val 0x20 24 8 2 40 : Nat)
    if r.burst && !r.asleep && lim ≤ ((mv.toNat : Nat) : Rat) then
      forEach (activePhases s n.val) (fun p q => let h := phs q p; setPhs q p { h with pwm := .tri, rest := true, ton := if h.age < h.ton then h.age else h.ton })
        (setRail s n.val { r with asleep := true })
    else s)

/-- The sense voltage falls below the reference: the rail wakes (R339). -/
def execRailBurstWake (n : Fin 8) (mv : BitVec 16) (s : State) : Host.Outcome State Fault Refusal :=
  .next (
    let r := rail s n.val
    if r.burst && r.asleep && ((mv.toNat : Nat) : Rat) < refMv r then
      setRail s n.val { r with asleep := false, burstPulses := 0, burstLast := some r.burstNow, burstNow := (0, 0) }
    else s)

/-- The mean of a sum over `k` CLK_REG cycles, rounded. -/
def meanQ (sum : Rat) (k : Nat) : Int := roundQ (sum / ((if k = 0 then 1 else k : Nat) : Rat))

/-- The 1 ms renewal of telemetry: the means of the CLK_REG cycles since the last one (R356), and the count of milliseconds with
ILIM_ACTIVE (Table 7-11). -/
def execRailTelemetryRenew (n : Fin 8) (tmon : BitVec 16) (s : State) : Host.Outcome State Fault Refusal :=
  let k := n.val
  let r := rail s k
  .next (
    if !domOn s 10 || r.msCycles < msCycles then s
    else
      let sw := railSwitching s k
      let act := activePhases s k
      let vin := fun p => phaseVin s k p * 1000
      let vout : Rat := (r.msVs : Rat) * ((divRatio s k : Nat) : Rat) / 1000000
      let io : Int := if sw then meanQ (10 * r.msCur) r.msCycles else 0
      let s1 := setRail { s with rc := { s.rc with temp := tmonTemp tmon.toNat } } k { r with
        vinMv := (meanQ (act.foldl (fun (a : Rat) p => a + vin p) 0) act.length).toNat, voutMv := (meanQ vout r.msCycles).toNat
        fswMeas := if sw then (meanQ (r.msPulses : Rat) act.length).toNat else 0, iout := io, secSum := r.secSum + io, secN := r.secN + 1
        ilimMs := if r.ilimActive then satInc r.ilimMs else r.ilimMs, msCycles := 0, msVs := 0, msCur := 0, msPulses := 0 }
      -- a phase that switches in another rail renews with that one
      let others := fun p => (List.range 8).any fun j => decide (j ≠ k) && railSwitching s j && (phaseMask s j).testBit p
      forEach ((railPhases s k).filter fun p => sw || !others p) (fun p q =>
        let h := phs q p
        let ip : Int := if sw then meanQ (10 * h.msCur) r.msCycles else 0
        setPhs q p { h with iPh := ip, secSum := h.secSum + ip, secN := h.secN + 1, fswKhz := if sw then h.msPulses else 0
                            vinMv := (roundQ (vin p)).toNat, msCur := 0, msPulses := 0 }) s1)

end Sys2Proof.Machine
end

