-- ==== Sys2Proof/Machine/RegRead.lean ====
section
/-! DEFINITION. What a read of a register returns, and what it clears or captures (R11–R15, R645; Tables 2-3 to 15-3). -/

namespace Sys2Proof.Machine

/-! ### Domains of registers (R15, Table 1-1) -/

/-- A register of the OTP and NVM block that lies in PD_AON (Table 12-13). -/
def aonOtpReg (off : Nat) : Bool :=
  off = 0x8000 || off = 0x8004 || off = 0x8008 || off = 0x800C || off = 0x8010 || off = 0x8020

/-- The domain that must be on for a register to answer; none: always on. -/
def regDomain (off : Nat) : Option Nat :=
  if 0x1000 ≤ off ∧ off < 0x3000 then some 4
  else if 0x3100 ≤ off ∧ off < 0x3500 then some (6 + (off - 0x3100) / 0x100)
  else if 0x4000 ≤ off ∧ off < 0x5000 then some 10
  else if 0x6000 ≤ off ∧ off < 0x7000 then some 11
  else if 0x8000 ≤ off ∧ off < 0x9000 then (if aonOtpReg off then none else some 3)
  else if 0xA000 ≤ off ∧ off < 0xB000 then some 3
  else if 0xB000 ≤ off ∧ off < 0xC000 then some 4
  else if 0xC000 ≤ off ∧ off < 0xE000 then some 5
  else none

/-- The register answers. -/
def regOn (s : State) (off : Nat) : Bool := match regDomain off with | some k => domOn s k | none => true

/-- Fields from bit lists. -/
def fields (l : List (Nat × Nat × Nat)) : Word := pack 32 l

/-- A 16-bit two's complement field. -/
def tw16 (v : Int) : Nat := toTwos 16 v

/-! ### Host side (Tables 2-3, 2-5, 2-6, 3-6, 6-10) -/

/-- GLB_LEVEL.BEHAVIOUR_LEVEL (R4, R5, R537): the level of the record, where it is not restrictive and the stepping implements it, and
level 1 otherwise. -/
def levelOf (s : State) : Nat :=
  let restr := s.otp.allRestrictive || s.otp.restrictive.contains 0x0008
  let v := bitsOf (Sparse.getD s.otp.records 0x0008 1) 0 8
  if !restr && v = Config.behaviourLevel then v else 1

/-- Table 2-3. -/
def viewGlb (s : State) (off : Nat) : Word :=
  match off with
  | 0x0000 => 0x9250F1B0
  | 0x0004 => fields [(0, 8, Config.stepDigit), (8, 8, Config.stepLetter)]
  | 0x0008 => fields [(0, 8, levelOf s), (8, 8, s.otp.lcState)]
  | 0x000C => s.glb.rstCause.setWidth 32
  | 0x0014 => fields [(0, 1, b2n s.glb.otpLoaded), (1, 1, b2n s.flt.faultState), (2, 1, b2n (mpRuns s)), (3, 1, b2n s.glb.accessErr)]
  | 0x0018 => s.glb.sbRequest
  | _ => rd s off

/-- The queue window at an offset. -/
def winOf (off : Nat) : Option Nat :=
  if 0x1000 ≤ off ∧ off < 0x1120 then some ((off - 0x1000) / 0x20)
  else if 0x1200 ≤ off ∧ off < 0x1420 then some (9 + (off - 0x1200) / 0x20)
  else none

/-- FULL of a window (Table 2-5, log 6). -/
def winFull (s : State) (w : Nat) : Bool :=
  if w < 4 then false
  else if w < 9 then ringUsed s w + 1 = winDepth s w
  else tsFree s (w - 9) = 0

/-- Table 2-5. -/
def viewWindow (s : State) (w off : Nat) : Word :=
  let q := win s w
  match off % 0x20 with
  | 0x10 => q.head.setWidth 32
  | 0x14 => q.tail.setWidth 32
  | 0x1C => fields [(0, 1, b2n (4 ≤ w && q.phase)), (1, 1, b2n (winEnabled s w && winFull s w)), (2, 1, b2n q.doorbellErr), (3, 1, b2n q.fetchErr),
      (16, 16, q.discards.toNat)]
  | _ => rd s off

/-- CT_DIR_DATA (Table 3-6). -/
def viewDir (s : State) : Word :=
  let w := rd s 0x2040
  let dir := if bitOf w 24 then s.ct.mule.dir else s.ct.dir
  match Sparse.get? dir (bitsOf w 0 9) with
  | none => 0
  | some d =>
    match bitsOf w 16 3 with
    | 0 => BitVec.ofNat 32 d.cellFirst
    | 1 => fields [(0, 9, d.cellCount), (12, 4, d.groupCount), (16, 5, d.tempCount), (24, 1, b2n d.packCh.isSome), (25, 1, b2n d.nodeCh.isSome), (31, 1, 1)]
    | 2 => BitVec.ofNat 32 d.groupFirst
    | 3 => BitVec.ofNat 32 d.tempFirst
    | 4 => BitVec.ofNat 32 (d.packCh.getD 0)
    | 5 => BitVec.ofNat 32 (d.nodeCh.getD 0)
    | _ => 0

/-- Table 3-6. -/
def viewCt (s : State) (off : Nat) : Word :=
  let c := s.ct
  match off with
  | 0x2004 => fields [(0, 1, b2n c.attached), (1, 1, b2n (ctAttaching s)), (2, 1, b2n (c.mule.phase ≠ 0)), (3, 1, b2n c.hold),
      (5, 1, b2n c.cfgReject), (6, 1, b2n c.hostAccessErr), (7, 1, b2n c.logOverflow)]
  | 0x2008 => fields [(0, 16, c.gen.toNat), (16, 16, c.mule.nextGen.toNat)]
  | 0x2010 => BitVec.ofNat 32 c.count
  | 0x2018 => BitVec.ofNat 32 (pinnedCount s)
  | 0x201C => match c.firstBad with | some b => fields [(0, 18, b.index), (24, 4, b.reason), (31, 1, 1)] | none => 0
  | 0x2020 => fields [(0, 16, c.crcErrs.toNat), (16, 16, c.genErrs.toNat)]
  | 0x2024 => fields [(0, 16, c.corr.toNat), (16, 16, c.uncorr.toNat)]
  | 0x202C => fields [(0, 3, c.mule.phase), (8, 8, c.mule.copyEpochs), (16, 16, c.mule.restarts)]
  | 0x2038 => BitVec.ofNat 32 c.mule.log.length
  | 0x2044 => viewDir s
  | 0x2000 => rd s off &&& 0x6
  | _ => rd s off

/-- Table 6-10. -/
def viewOx (s : State) (off : Nat) : Word :=
  match off with
  | 0x2800 => fields [(0, 1, fld s 0x2800 0 1), (1, 1, b2n s.ox.commit)]
  | 0x2804 => fields [(0, 1, b2n (!s.ox.fits.isEmpty)), (1, 1, b2n (ocvValid (ocvTable s))), (2, 1, b2n s.ox.parkValid), (24, 8, s.ox.overruns.toNat)]
  | 0x2808 => s.ox.epoch
  | 0x2818 => fields [(0, 16, s.ox.dropped.toNat), (16, 16, s.ox.rejected.toNat)]
  | 0x281C => s.ox.computed
  | _ => rd s off

/-! ### Links and measurement (Tables 4-15, 4-16, 5-7) -/

/-- Minutes since an instant of the device's seconds, saturating. -/
def minutesSince (s : State) (t : Nat) : Nat := sat16 ((s.upSeconds - t) / 60)

/-- Table 4-16. -/
def viewPort (s : State) (p w : Nat) : Word :=
  let x := port s p
  let a := 32 * p + fld s (0x3120 + 0x40 * p) 0 5
  let n := node s a
  match w with
  | 0x04 => fields [(0, 3, x.mode), (6, 6, x.na), (12, 6, x.nb), (18, 6, x.nodes), (27, 1, b2n x.excess), (28, 1, b2n x.hopLimit),
      (29, 1, b2n x.countMismatch), (30, 1, b2n x.healed), (31, 1, b2n x.breakSeen)]
  | 0x08 => fields [(0, 8, x.quotaA), (8, 8, x.quotaB), (16, 2, x.rdiv), (18, 1, b2n x.rdivShort)]
  | 0x0C => fields [(0, 16, x.crcErrs.toNat), (16, 16, x.codeErrs.toNat)]
  | 0x10 => fields [(0, 16, x.trainsLost.toNat), (16, 16, x.recordsLost.toNat)]
  | 0x14 => x.missing
  | 0x18 => x.unsync
  | 0x1C => x.quarantine
  | 0x24 => fields [(0, 16, n.delay.toNat), (16, 16, n.hold.toNat)]
  | 0x28 => (n.serial.getD 0).setWidth 32
  | 0x2C => (n.serial.getD 0).extractLsb' 32 32
  | 0x30 => fields [(0, 2, n.auth), (2, 1, b2n n.chainB), (16, 16, if n.everPassed then minutesSince s n.passAt else 0)]
  | _ => rd s (0x3100 + 0x40 * p + w)

/-- Tables 4-15 and 5-7. -/
def viewLink (s : State) (off : Nat) : Word :=
  let m := s.mc
  match off with
  | 0x3000 => fields [(0, 1, fld s 0x3000 0 1), (1, 1, b2n s.lp.commit)]
  | 0x3008 => fields [(0, 1, b2n s.lp.running), (1, 1, b2n s.lp.cfgReject), (2, 1, b2n (lineUp s 17))]
  | 0x3800 => fields [(0, 10, m.thresh.toNat), (16, 1, b2n m.armed)]
  | 0x3804 => fields [(0, 3, m.captures.length), (5, 1, b2n (recording s)), (6, 1, b2n m.piLost), (7, 1, b2n m.noPack)]
  | 0x3808 => m.lastSeq
  | 0x380C => fields [(0, 16, m.partialCount.toNat), (16, 16, m.declined.toNat)]
  | 0x3814 => m.threshCode.setWidth 32
  | 0x381C => fields [(0, 16, m.missed.toNat), (16, 16, m.subst.toNat)]
  | 0x3820 => m.notSent
  | _ => if 0x3100 ≤ off ∧ off < 0x3500 then viewPort s ((off - 0x3100) / 0x40) (off % 0x40) else rd s off

/-! ### Rails (Tables 7-10 to 7-12) -/

/-- RAIL_ILIM_EFF (R341). -/
def ilimEff (s : State) (n : Nat) : Nat :=
  let c := (railPhases s n).length
  if c = 0 then 0 else (roundDiv (ilimRail s n * (activePhases s n).length : Nat) c).toNat

/-- Table 7-11. -/
def viewRail (s : State) (n w : Nat) : Word :=
  let r := rail s n
  let idle := r.state = .off || r.state = .precheck || r.state = .fault
  match w with
  | 0x2C => fields [(0, 1, b2n r.commit)]
  | 0x30 => fields [(0, 3, r.state.code), (3, 1, b2n r.pg), (4, 1, b2n r.burst), (5, 1, b2n r.ilimActive), (6, 1, b2n (railOwned s n)), (7, 1, b2n r.safeActive),
      (8, 12, ((railPhases s n).filter fun p => (phs s p).shed).foldl (fun a p => a + 2 ^ p) 0), (20, 3, if r.started then (activePhases s n).length else 0), (26, 2, r.mode.code)]
  | 0x34 => fields [(0, 4, r.reason), (4, 12, r.faultPhases), (16, 16, r.faultMv)]
  | 0x38 => fields [(0, 16, r.target), (16, 16, if idle then 0 else outMvOf s n r.ref)]
  | 0x3C => fields [(0, 12, if r.started then ilimEff s n else 0)]
  | 0x40 => fields [(0, 16, r.voutMv), (16, 16, r.vinMv)]
  | 0x44 => fields [(0, 16, tw16 r.iout), (16, 16, r.fswMeas)]
  | 0x48 => fields [(0, 16, r.ilimMs.toNat), (16, 16, r.sheds.toNat)]
  | _ => rd s (railBase n + w)

/-- A phase switches in a rail. -/
def phaseActive (s : State) (p : Nat) : Bool :=
  (List.range 8).any fun n => railSwitching s n && (activePhases s n).contains p

/-- Table 7-12. -/
def viewPhase (s : State) (p w : Nat) : Word :=
  let x := phs s p
  match w with
  | 0x0C => fields [(0, 1, b2n (phaseActive s p)), (1, 1, b2n x.shed), (2, 2, x.shedReason), (16, 16, tw16 x.iPh)]
  | 0x10 => fields [(0, 16, x.vinMv), (16, 16, x.fswKhz)]
  | _ => rd s (phBase p + w)

/-- Table 7-10. -/
def viewRc (s : State) (off : Nat) : Word :=
  if 0x4100 ≤ off ∧ off < 0x4500 then viewRail s ((off - 0x4100) / 0x80) (off % 0x80)
  else if 0x4600 ≤ off ∧ off < 0x4780 then viewPhase s ((off - 0x4600) / 0x20) (off % 0x20)
  else match off with
  | 0x4004 => fields [(0, 1, b2n s.flt.rootOverride), (1, 1, b2n s.rc.cfgReject), (2, 1, b2n s.rc.cfgErr), (3, 1, b2n s.rc.tmonWarn),
      (4, 1, b2n s.rc.tmonShdn), (5, 1, b2n s.rc.tmonLost)]
  | 0x4008 => fields [(0, 16, fld s 0x4008 0 16), (16, 16, tw16 s.rc.temp)]
  | 0x400C => fields [(0, 1, b2n (stgEn s 0)), (1, 1, b2n (stgEn s 1))]
  | _ => rd s off

/-! ### Sequencer and Flock bus (Table 8-7) -/

/-- SEQ_MSTATE of the selected member. -/
def viewMember (s : State) : Word :=
  match member s (fld s 0x5014 0 4) with
  | none => 0
  | some m => fields [(0, 4, m.state.code), (4, 4, clampN 0 15 m.chatters), (8, 1, b2n (pgRaw s m.cfg)), (9, 1, b2n m.pgGood), (16, 16, m.pgTime)]

/-- Table 8-7. -/
def viewSeq (s : State) (off : Nat) : Word :=
  let q := s.seq
  let f := s.flk
  match off with
  | 0x5004 => fields [(0, 3, q.state.code), (4, 1, b2n q.wdiArmed), (5, 1, b2n q.held), (6, 1, b2n q.cfgReject), (7, 1, b2n q.bootBad), (8, 3, q.retries)]
  | 0x5008 => fields [(0, 16, membersOn s), (16, 16, q.failed.toNat)]
  | 0x500C => q.offTimeout.setWidth 32
  | 0x5010 => if q.started then clockOf q.us else 0
  | 0x5018 => viewMember s
  | 0x501C => q.tableCrc
  | 0x5028 => q.wdiMisses.setWidth 32
  | 0x5048 => if flkRole s = 1 then flkExpect s &&& ~~~ f.lost else 0
  | 0x504C => f.up
  | 0x5050 => f.faulted
  | 0x5054 => fields [(2, 1, b2n f.armed), (3, 1, b2n f.masterLost), (4, 1, b2n f.busError), (5, 1, b2n f.reqDown), (6, 1, b2n f.reqDownUp),
      (8, 8, f.armSeq.toNat), (16, 16, f.crcErrs.toNat)]
  | _ => rd s off

/-! ### Charger (Table 10-9) -/

def viewChg (s : State) (off : Nat) : Word :=
  let c := s.chg
  match off with
  | 0x6000 => rd s off &&& 1
  | 0x6004 => fields [(0, 4, c.state.code), (8, 2, c.source.code), (10, 3, c.band), (13, 1, b2n c.timerSlow), (14, 1, b2n (mpptActive s)), (15, 1, b2n c.sweep.isSome),
      (16, 1, b2n c.waitRechg), (17, 1, b2n c.cfg.isSome), (18, 1, b2n c.authBlock), (19, 3, c.loop)]
  | 0x6008 => c.faults.setWidth 32
  | 0x600C => fields [(0, 16, c.va), (16, 16, tw16 c.ia)]
  | 0x6010 => fields [(0, 16, c.vb), (16, 16, tw16 c.ib)]
  | 0x6014 => fields [(0, 16, tw16 c.tj), (16, 16, tw16 c.tBntc)]
  | 0x6018 => fields [(0, 16, c.vref), (16, 16, c.pIn)]
  | 0x601C => fields [(0, 16, sat16 (c.sweepMs / 1000)), (16, 16, c.voc)]
  | 0x6020 => fields [(0, 16, sat16 (c.timerHalf / 12000)), (16, 16, sat16 (c.sessionMs / 60000))]
  | 0x6028 => fields [(0, 1, b2n (c.state = .reverse)), (4, 4, c.endReason), (8, 12, c.revV), (20, 12, c.revI)]
  | 0x602C => fields [(0, 2, c.authResult), (2, 1, b2n c.keyUnusable), (3, 1, b2n c.serialChanged), (8, 8, c.authAttempts),
      (16, 16, match c.authPassAt with | some t => minutesSince s t | none => 0xFFFF)]
  | 0x6030 => c.serial.setWidth 32
  | 0x6034 => c.serial.extractLsb' 32 32
  | 0x6038 => c.qb.setWidth 32
  | 0x603C => c.qbHi.setWidth 32
  | 0x6048 => fields [(0, 16, c.sessions.toNat), (16, 16, c.doneCount.toNat)]
  | _ => rd s off

/-! ### Fault collector and Goose (Table 11-6) -/

/-- Whether the window is open in the cycle that the running period has reached (R504, R505). -/
def windowOpen (s : State) (g : Goose) : Bool := g.started && !g.hold && decide (windowFrom s g ≤ g.t)

/-- Whole ms of the running period (Table 11-6); 0 while Goose 0 is held and counts none (log 81). -/
def elapsedMs (g : Goose) : Nat := if g.started && !g.hold then sat16 (g.t / 4000) else 0

/-- The words of one Goose instance. -/
def viewGoose (s : State) (i w : Nat) : Word :=
  let g := goose s i
  match w with
  | 0x00 => fields [(0, 16, g.mask.toNat), (16, 16, g.period)]
  | 0x0C => fields [(3, 3, g.lastViol), (6, 3, streak s i), (9, 1, g.level), (10, 1, b2n (i = 0 && g.hold)), (11, 1, b2n g.boot), (12, 1, b2n g.bad),
      (13, 1, b2n g.dup), (14, 1, b2n (windowOpen s g)), (15, 1, b2n g.started), (16, 16, g.checked.toNat)]
  | 0x10 => fields [(0, 16, elapsedMs g), (16, 16, g.nextPeriod)]
  | 0x14 => fields [(0, 16, g.services.toNat), (16, 16, g.violations.toNat)]
  | _ => 0

/-- GOOSE_OTP and GOOSE_BOOT report the values in force (R506). -/
def viewGooseOtp (s : State) : Word :=
  let pulse := fld s 0x7180 16 8
  fields [(0, 2, match fld s 0x7180 0 2 with | 0 => 3 | c => c), (2, 1, b2n (gooseStrict s)), (4, 3, gooseN s), (7, 1, fld s 0x7180 7 1),
    (16, 8, if pulse = 0 then 1 else pulse)]

/-- Table 11-6. -/
def viewFlt (s : State) (off : Nat) : Word :=
  let f := s.flt
  match off with
  | 0x7000 => f.status
  | 0x7004 => fltFirstWord s
  | 0x7008 => f.firstTime.setWidth 32
  | 0x700C => (f.firstTime.extractLsb' 32 16).setWidth 32
  | 0x7010 => fields [(0, 1, b2n f.ovf)]
  | 0x7020 => mergeMask (rd s off) 0x00028000 0x0003C000
  | 0x7028 => fields [(0, 1, b2n f.faultState), (1, 1, b2n f.aliveRun), (2, 1, b2n f.safeN), (3, 1, b2n f.lowerReject)]
  | 0x7030 => fltDetail s (fld s 0x702C 0 5)
  | 0x7040 => prevWord s
  | 0x7180 => viewGooseOtp s
  | 0x7184 => fields [(0, 16, gooseBootMs s 0), (16, 16, gooseBootMs s 1)]
  | 0x7188 => s.ret.resetCount.setWidth 32
  | 0x718C => fields [(0, 11, s.ret.lastRecord.toNat), (11, 1, b2n s.ret.lastPending)]
  | _ => if 0x7100 ≤ off ∧ off < 0x7180 then viewGoose s ((off - 0x7100) / 0x40) (off % 0x40) else rd s off

/-! ### OTP, NVM and debug (Table 12-13), calendar (Table 13-3) -/

/-- Table 12-13. -/
def viewOtp (s : State) (off : Nat) : Word :=
  let o := s.otp
  let n := s.nvm
  let mp := domOn s 3
  match off with
  | 0x8000 => fields [(1, 1, b2n (mp && o.scanActive)), (2, 1, b2n o.lcMarginal), (3, 1, b2n o.cfgBad)]
  | 0x8004 => fields [(0, 6, o.locked.toNat), (8, 6, o.digestFail.toNat), (16, 6, o.loadRegions.toNat)]
  | 0x8008 => o.progLock.setWidth 32
  | 0x800C => o.readLock.setWidth 32
  | 0x8010 => fields [(0, 16, if mp then o.runCount.toNat else 0), (16, 16, o.loadCount.toNat)]
  | 0x8014 => fields [(0, 10, o.lastWord.toNat), (10, 1, b2n o.lastAtLoad)]
  | 0x8018 => o.nonce.setWidth 32
  | 0x801C => o.nonce.extractLsb' 32 32
  | 0x8020 => BitVec.ofNat 32 o.rollback
  | 0x8040 => fields [(0, 1, b2n (n.busy.isSome || n.saving.isSome)), (1, 1, b2n n.torn), (2, 1, b2n n.spareReady), (3, 1, b2n n.saveSkipped), (4, 1, b2n n.pageErr)]
  | 0x8048 => fields [(0, 10, n.tornPage.toNat), (16, 16, n.tornCount.toNat)]
  | 0x804C => n.errPage.setWidth 32
  | 0x8054 => BitVec.ofNat 32 (nvPage s (fld s 0x8050 0 10)).wear
  | 0x8058 => fields [(0, 16, n.saves.toNat), (16, 16, n.sseq.toNat)]
  | 0xF000 => fields [(0, 1, b2n o.debugOpen), (1, 1, b2n (debugPolicy o)), (2, 1, b2n o.lcMarginal)]
  | _ => rd s off

/-- Table 13-3. -/
def viewRtc (s : State) (off : Nat) : Word :=
  let r := s.rtc
  match off with
  | 0x9000 => r.cal.timeWord r.timeInvalid
  | 0x9004 => r.holdDate.getD r.cal.dateWord
  | 0x9008 => (rtcSubsec s).setWidth 32
  | 0x900C => fields [(0, 1, b2n r.timeInvalid), (1, 1, b2n r.dateStaged.isSome), (2, 1, b2n r.alarmArmed), (3, 1, b2n r.alarmFired),
      (4, 1, b2n r.alarmByAdjust), (5, 1, b2n r.invalidWrite), (6, 1, b2n r.oscStopped)]
  | 0x9010 => r.alarmTime
  | 0x9014 => r.alarmDate
  | 0x9018 => BitVec.ofNat 32 r.period
  | 0x901C => fields [(0, 16, tw16 r.corr), (16, 16, tw16 r.temp)]
  | 0x9020 => fields [(0, 16, tw16 r.ageing)]
  | 0x9024 => r.curve
  | 0x9028 => fields [(0, 16, tw16 r.offset)]
  | _ => 0

/-! ### Management (Table 14-12) -/

/-- MP_SENSE_DATA (R611): items 0–14 read 0 while PD_HKADC is not on, items without a sensor read 0. -/
def viewSense (s : State) : Word :=
  let i := fld s 0xA028 0 6
  if i = 15 ∨ 52 ≤ i ∨ (i < 15 ∧ !domOn s 12) then 0
  else if 24 ≤ i ∧ i < 48 then BitVec.ofNat 32 (Sparse.getD s.mp.monitors (i - 24) 0)
  else BitVec.ofInt 32 (Sparse.getD s.mp.sensors i 0)

/-- The largest degradation and its monitor; the lowest monitor among equals (log 82). -/
def worstMonitor (s : State) : Nat × Nat :=
  s.mp.monitors.foldl (fun (b : Nat × Nat) e => if b.1 < e.2 then (e.2, e.1) else b) (0, 0)

/-- Table 14-12. -/
def viewMp (s : State) (off : Nat) : Word :=
  let m := s.mp
  match off with
  | 0xA000 => fields [(0, 3, m.bootState), (4, 1, m.preferred), (5, 1, b2n m.trial), (6, 2, m.failCount), (8, 1, b2n m.confirmed), (9, 1, b2n m.parking.active)]
  | 0xA004 => m.versionA
  | 0xA008 => m.versionB
  | 0xA01C => fields [(0, 8, m.lastCode), (16, 16, m.parkScans.toNat)]
  | 0xA020 => BitVec.ofNat 32 m.parkNode
  | 0xA024 => fields [(0, 8, fld s 0xA024 0 8), (8, 3, m.dieSensor), (16, 16, tw16 m.dieMax)]
  | 0xA02C => viewSense s
  | 0xA030 => fields [(0, 8, fld s 0xA030 0 8), (8, 5, (worstMonitor s).2), (16, 16, sat16 (worstMonitor s).1)]
  | 0xA038 => fields [(1, 1, b2n m.pending), (2, 1, b2n m.applying), (8, 5, countIf MarginItem.atLimit m.items), (16, 16, m.revision.toNat)]
  | 0xA03C => BitVec.ofNat 32 (countValue s 17)
  | 0xA040 => fields [(0, 16, Config.mpLevels), (16, 16, m.fwLevels.toNat)]
  | _ => rd s off

/-! ### Event routing (Table 15-3), MSI-X and power (Table 9-12) -/

/-- Bits 32h to 32h + 31 of the keys of a sparse map. -/
def keyBits {β : Type} (t : Sparse β) (h : Nat) : Word :=
  t.foldl (fun a e => if e.1 / 32 = h then a ||| maskOf 32 (e.1 % 32) 1 else a) 0

/-- The selected event's last occurrence. -/
def lastSel (s : State) : LastOcc := Sparse.getD s.evr.last (fld s 0xB018 0 6) { detail := 0, count := 0 }

/-- Table 15-3. -/
def viewEvr (s : State) (off : Nat) : Word :=
  match off with
  | 0xB008 => keyBits s.evr.pend 0
  | 0xB00C => keyBits s.evr.pend 1
  | 0xB010 => fields [(0, 1, b2n s.evr.open_)]
  | 0xB014 => fields [(0, 7, s.held.latches.length), (7, 1, b2n s.evr.routing), (16, 16, sat16 (s.held.merged.toNat + s.evr.merged.toNat))]
  | 0xB01C => (lastSel s).detail.setWidth 32
  | 0xB020 => s.evr.lastHi
  | 0xB024 => (lastSel s).count.setWidth 32
  | _ => rd s off

/-- The MSI-X table and the PBA (R643). -/
def viewMsix (s : State) (off : Nat) : Word :=
  if off < 0xC400 then
    let e := vget s.pcie.msix ((off - 0xC000) / 16) MsixEntry.reset
    match off % 16 with
    | 0 => e.addr.setWidth 32
    | 4 => e.addr.extractLsb' 32 32
    | 8 => e.data
    | _ => fields [(0, 1, b2n e.masked)]
  else if off = 0xD000 then s.pcie.pba.setWidth 32
  else if off = 0xD004 then s.pcie.pba.extractLsb' 32 32
  else 0

/-- PWR_DSTATn. -/
def viewDomain (d : Domain) : Word :=
  fields [(0, 2, d.state.code), (4, 1, b2n d.regRdy), (5, 1, b2n d.clkRdy), (6, 1, b2n d.memRdy), (7, 1, b2n d.logicRdy), (8, 1, b2n d.move.isSome),
    (16, 1, b2n d.byMp), (17, 3, d.result), (20, 4, d.failedStage)]

/-- Measured VCORE in 0.1 mV: the latest value of housekeeping channel 4, 0 before it has been measured (Tables 9-12 and 14-5, log 81). -/
def vcoreMv (s : State) : Nat := toTwos 16 (10 * Sparse.getD s.mp.sensors 4 0)

/-- Table 9-12. -/
def viewPwr (s : State) (off : Nat) : Word :=
  let p := s.pwr
  match off with
  | 0xE000 => fields [(0, 2, p.path.code), (8, 1, b2n p.vmainOv), (9, 1, b2n p.vmainQual), (10, 1, b2n p.vbakPresent), (11, 1, b2n p.vrtcOk),
      (12, 1, b2n p.retTiming), (13, 1, b2n p.saveActive)]
  | 0xE004 => fields [(0, 16, p.switchovers.toNat), (16, 16, p.returns.toNat)]
  | 0xE008 => fields [(0, 8, p.uvFlags.toNat), (8, 8, p.ovFlags.toNat)]
  | 0xE00C => fields [(0, 8, toTwos 8 p.trim), (16, 16, vcoreMv s)]
  | 0xE014 => bkpWord s
  | 0xE020 => fields [(0, 8, p.wake.code.toNat), (8, 1, b2n p.wake.host)]
  | 0xE024 => p.wake.time.setWidth 32
  | 0xE028 => (p.wake.time.extractLsb' 32 16).setWidth 32
  | _ =>
    if 0xE100 ≤ off ∧ off < 0xE134 then BitVec.ofNat 32 (dom s ((off - 0xE100) / 4)).req.code
    else if 0xE140 ≤ off ∧ off < 0xE174 then viewDomain (dom s ((off - 0xE140) / 4))
    else rd s off

/-! ### Any register -/

/-- What a register of Table 15-5 shows, its domain on; a reserved offset shows 0 (R645). The debug registers of R646 are free
values while debug access is open (log 83). -/
def viewReg (s : State) (off : Nat) : Word :=
  if off < 0x1000 then (if off < 0x20 then viewGlb s off else 0)
  else if off < 0x2000 then
    (match winOf off with
     | some w => viewWindow s w off
     | none => if off = 0x1804 then
         fields [(0, 1, b2n s.qe.running), (1, 1, b2n s.qe.startErr), (2, 1, b2n s.qe.cfgReject), (3, 1, b2n s.qe.hostAccessErr)] else rd s off)
  else if off < 0x2800 then viewCt s off
  else if off < 0x3000 then viewOx s off
  else if off < 0x4000 then viewLink s off
  else if off < 0x5000 then viewRc s off
  else if off < 0x6000 then viewSeq s off
  else if off < 0x7000 then viewChg s off
  else if off < 0x8000 then viewFlt s off
  else if off < 0x9000 then viewOtp s off
  else if off < 0xA000 then viewRtc s off
  else if off < 0xB000 then viewMp s off
  else if off < 0xC000 then viewEvr s off
  else if off < 0xE000 then viewMsix s off
  else if off < 0xF000 then viewPwr s off
  else if off = 0xF000 then viewOtp s off
  else if s.otp.debugOpen then Config.freeMeasure s.free
  else 0

/-- The fields that a read clears, and the captures it makes (R13, R477, R576, R644). -/
def readEffect (s : State) (off : Nat) : State :=
  let q := s.qe
  match off with
  | 0x2020 => { s with ct := { s.ct with genErrs := 0, crcErrs := 0 } }
  | 0x2024 => { s with ct := { s.ct with uncorr := 0, corr := 0 } }
  | 0x2804 => { s with ox := { s.ox with overruns := 0 } }
  | 0x2818 => { s with ox := { s.ox with rejected := 0, dropped := 0 } }
  | 0x380C => { s with mc := { s.mc with declined := 0, partialCount := 0 } }
  | 0x381C => { s with mc := { s.mc with subst := 0, missed := 0 } }
  | 0x3820 => { s with mc := { s.mc with notSent := 0 } }
  | 0x5028 => { s with seq := { s.seq with wdiMisses := 0 } }
  | 0x5054 => { s with flk := { s.flk with crcErrs := 0 } }
  | 0x6008 => chgFaultRead s
  | 0x6038 => setChg s { s.chg with qbHi := s.chg.qb.extractLsb' 32 16 }
  | 0x6048 => setChg s { s.chg with sessions := 0, doneCount := 0 }
  | 0x7114 => { s with goose0 := { s.goose0 with services := 0, violations := 0 } }
  | 0x7154 => { s with goose1 := { s.goose1 with services := 0, violations := 0 } }
  | 0x8010 => if domOn s 3 then { s with otp := { s.otp with runCount := 0 } } else s
  | 0x8048 => { s with nvm := { s.nvm with tornCount := 0 } }
  | 0x8058 => { s with nvm := { s.nvm with saves := 0 } }
  | 0x9000 => (rtcTimeRead s).1
  | 0xA01C => { s with mp := { s.mp with parkScans := 0 } }
  | 0xB014 => { s with evr := { s.evr with merged := 0 }, held := { s.held with merged := 0 } }
  | 0xB01C => { s with evr := { s.evr with lastHi := (lastSel s).detail.extractLsb' 32 32 } }
  | 0xB024 => { s with evr := { s.evr with last := match Sparse.get? s.evr.last (fld s 0xB018 0 6) with
      | some o => Sparse.set s.evr.last (fld s 0xB018 0 6) { o with count := 0 } | none => s.evr.last } }
  | 0xE004 => setPwr s { s.pwr with switchovers := 0, returns := 0 }
  | _ =>
    match winOf off with
    | some w => if off % 0x20 = 0x1C then { s with qe := { q with win := vput q.win w { win s w with discards := 0 } } } else s
    | none =>
      if 0x3100 ≤ off ∧ off < 0x3500 then
        (let p := (off - 0x3100) / 0x40
         let x := port s p
         match off % 0x40 with
         | 0x0C => setPort s p { x with codeErrs := 0, crcErrs := 0 }
         | 0x10 => setPort s p { x with recordsLost := 0, trainsLost := 0 }
         | _ => s)
      else if 0x4100 ≤ off ∧ off < 0x4500 ∧ off % 0x80 = 0x48 then
        (let n := (off - 0x4100) / 0x80
         setRail s n { rail s n with sheds := 0, ilimMs := 0 })
      else s

/-- The counter behind the register that is read stands at `clock`: the Goose period's, or the sequence clock. -/
def clockSeen (s : State) (off clock : Nat) : State :=
  if off = 0x5010 then (if s.seq.started then seqAt s clock else s)
  else if 0x7100 ≤ off && off < 0x7180 then
    (let i := (off - 0x7100) / 0x40
     if gooseCounts s i && (goose s i).t ≤ clock && clock < expiryAt (goose s i) then
       (let q := gooseTo s i clock
        setGoose q i { goose q i with t := clock })
     else s)
  else s

/-- A read of a register: 0 without effect while its domain is not on (R15). -/
def regRead (s : State) (off clock : Nat) : State × Word :=
  if regOn s off then (let q := clockSeen s off clock; (takeFree (readEffect q off), viewReg q off)) else (s, 0)

end Sys2Proof.Machine
end

