-- ==== Sys2Proof/Machine/RegWrite.lean ====
section
/-! DEFINITION. What a write to a register does, by access type and change class (R11, R14–R21; Tables 2-3 to 15-3). -/

namespace Sys2Proof.Machine

/-- A W1C bit after a write. -/
def w1c (old : Bool) (w : Word) (i : Nat) : Bool := old && !bitOf w i

/-- Write the fields of a register: IDLE fields only while the block is stopped, else its CFG_REJECT is set; STAGED fields to
the shadow; LIVE fields by `live`, at the block's cycle boundary (Table 0-9, R16–R20). -/
def putFields (s : State) (off : Nat) (w : Word) (stopped : Bool) (reject live : State → State) : State :=
  match regDef off with
  | none => s
  | some d =>
    let s1 := if d.idle = 0 then s else if stopped then wr s off w d.idle else reject s
    let s2 := if d.staged = 0 then s1 else { s1 with regs := s1.regs.putShadow s1.otp off w d.staged }
    if d.live = 0 then s2 else live s2

/-- A LIVE write whose cycle boundary is the end of the cycle of the write. -/
def liveNow (off : Nat) (w : Word) (s : State) : State := wr s off w (match regDef off with | some d => d.live | none => 0)

/-- Registers with LIVE fields only, taken at once. -/
def putLive (s : State) (off : Nat) (w : Word) : State := putFields s off w true id (liveNow off w)

/-! ### Host side -/

/-- Table 2-3. Causes are cleared only through PCIe (R60); GLB_SB_REQUEST is written only by the sideband port (R61). -/
def writeGlb (s : State) (via : Via) (off : Nat) (w : Word) : State :=
  match off with
  | 0x000C => if via = .host then { s with glb := { s.glb with rstCause := s.glb.rstCause &&& ~~~ (w.setWidth 10) } } else s
  | 0x0014 => { s with glb := { s.glb with accessErr := w1c s.glb.accessErr w 3 } }
  | 0x0018 => if via = .sideband then raise { s with glb := { s.glb with sbRequest := w } } 60 (w.setWidth 64) else s
  | _ => putLive s off w

/-- CFG_REJECT after a write: only a host write of 1 clears it (R21). -/
def clearReject (old : Bool) (via : Via) (w : Word) (i : Nat) : Bool := if via = .host then w1c old w i else old

/-- Tables 2-5 and 2-6. -/
def writeQe (s : State) (via : Via) (off : Nat) (w : Word) : State :=
  match off with
  | 0x1800 => qeCtrlWrite s w
  | 0x1804 => { s with qe := { s.qe with startErr := w1c s.qe.startErr w 1, cfgReject := clearReject s.qe.cfgReject via w 2,
                                         hostAccessErr := w1c s.qe.hostAccessErr w 3 } }
  | _ =>
    match winOf off with
    | none => s
    | some n =>
      if off % 0x20 = 0x1C then
        setWin s n { win s n with doorbellErr := w1c (win s n).doorbellErr w 2, fetchErr := w1c (win s n).fetchErr w 3 }
      else putFields s off w (!s.qe.running) (fun q => { q with qe := { q.qe with cfgReject := true } }) (liveNow off w)

/-- Table 3-6 (R153). -/
def writeCt (s : State) (via : Via) (off : Nat) (w : Word) : State :=
  match off with
  | 0x2000 => ctCtrlWrite s w
  | 0x2004 => { s with ct := { s.ct with cfgReject := clearReject s.ct.cfgReject via w 5, hostAccessErr := w1c s.ct.hostAccessErr w 6,
                                         logOverflow := w1c s.ct.logOverflow w 7 } }
  | _ => putFields s off w (!s.ct.attached && !ctAttaching s) (fun q => { q with ct := { q.ct with cfgReject := true } }) (liveNow off w)

/-- Table 6-10 (R313). -/
def writeOx (s : State) (off : Nat) (w : Word) : State :=
  if off = 0x2800 then oxCtrlWrite s w else putFields s off w true id (fun q => oxLive q off w)

/-! ### Links and measurement -/

/-- Tables 4-15, 4-16 and 5-7 (R206). A link counts as stopped only until RUN = 1 is accepted (R20), though its first cycle comes later. -/
def writeLink (s : State) (via : Via) (off : Nat) (w : Word) : State :=
  if off = 0x3000 then lpCtrlWrite s w
  else if off = 0x3008 then { s with lp := { s.lp with cfgReject := clearReject s.lp.cfgReject via w 1 } }
  else if 0x3100 ≤ off ∧ off < 0x3500 ∧ off % 0x40 = 0x04 then
    (let p := (off - 0x3100) / 0x40
     setPort s p { port s p with breakSeen := w1c (port s p).breakSeen w 31 })
  else putFields s off w (!s.lp.running && !flag s 0x3000 0) (fun q => { q with lp := { q.lp with cfgReject := true } }) (fun q => linkLive q off w)

/-! ### Rails (R357) -/

/-- The rail whose next switching cycle a LIVE write of this offset waits for, if any switches. -/
def railWaits (s : State) (off : Nat) : Bool :=
  (List.range 8).any fun n => railSwitching s n &&
    ((railBase n ≤ off && off < railBase n + 0x80) || (railPhases s n).any fun p => phBase p ≤ off && off < phBase p + 0x20)

/-- A LIVE write in a rail or phase window: at the rail's next switching cycle, or at once. -/
def railLive (off : Nat) (w : Word) (s : State) : State :=
  if railWaits s off then { s with regs := { s.regs with late := s.regs.late ++ [(off, w)] } } else liveNow off w s

/-- The rail or phase of a window counts as stopped. -/
def railStopped (s : State) (off : Nat) : Bool :=
  if off < 0x4600 then !railBusy (rail s ((off - 0x4100) / 0x80))
  else (List.range 8).all fun n => !railBusy (rail s n) || !(railPhases s n).contains ((off - 0x4600) / 0x20)

/-- A write of RAIL_CTRL: COMMIT captures the staged loop fields (R18, R19); at once on a rail that does not switch. -/
def railCommitWrite (s : State) (n : Nat) (w : Word) : State :=
  if bitOf w 0 && !(rail s n).commit then
    railSettle (setRail { s with regs := s.regs.capture fun off => decide (railBase n ≤ off) && decide (off < railBase n + 0x80) } n
      { rail s n with commit := true }) n
  else s

/-- A write of RC_CTRL; TMON_EN = 0 clears the TMON flags (R345), and SAFE_STG acts at once in the fault state (R354). -/
def rcCtrlWrite (s : State) (w : Word) : State :=
  let s1 := railStgWritten (liveNow 0x4000 w s)
  if bitOf w 0 then s1 else tmonOff s1

/-- Tables 7-10 to 7-12. -/
def writeRc (s : State) (via : Via) (off : Nat) (w : Word) : State :=
  if off = 0x4000 then rcCtrlWrite s w
  else if off = 0x4004 then { s with rc := { s.rc with cfgReject := clearReject s.rc.cfgReject via w 1, cfgErr := w1c s.rc.cfgErr w 2 } }
  else if off = 0x4008 then liveNow off w s
  else if 0x4100 ≤ off ∧ off < 0x4500 ∧ off % 0x80 = 0x2C then railCommitWrite s ((off - 0x4100) / 0x80) w
  else phasesFree (putFields s off w (railStopped s off) (fun q => { q with rc := { q.rc with cfgReject := true } }) (railLive off w))

/-! ### Sequencer, Flock bus, charger, faults -/

/-- Table 8-7 (R403). An up request that arms the followers has been accepted, so the sequencer no longer counts as stopped (R20). -/
def writeSeq (s : State) (via : Via) (off : Nat) (w : Word) : State :=
  match off with
  | 0x5004 => { s with seq := { s.seq with cfgReject := clearReject s.seq.cfgReject via w 6 } }
  | 0x5054 => { s with flk := { s.flk with busError := w1c s.flk.busError w 4 } }
  | 0x5020 => wdiUpdate (liveNow off w s)
  | _ => pllFollow s <| putFields s off w ((s.seq.state = .empty || s.seq.state = .down) && s.flk.job ≠ .arming) (fun q => { q with seq := { q.seq with cfgReject := true } }) (liveNow off w)

/-- Table 10-9 (R486). -/
def writeChg (s : State) (off : Nat) (w : Word) : State := putFields s off w true id (fun q => chgLive q off w)

/-- CHECKIN, SERVICE and STATUS of a Goose instance, written by its owner (R502). A write by this row carries no time and is taken at
the latest known cycle of the period (log 84). -/
def writeGoose (s : State) (via : Via) (i w0 : Nat) (w : Word) : State :=
  if (i = 0 && via = .host) || (i = 1 && via = .mp) then
    match w0 with
    | 0x04 => gooseCheckin s i (goose s i).t w
    | 0x08 => gooseService s i (goose s i).t w
    | 0x0C => setGoose s i { goose s i with bad := w1c (goose s i).bad w 12, dup := w1c (goose s i).dup w 13 }
    | _ => s
  else s

/-- Table 11-6. Writes take effect at the end of a CLK_SAFE cycle: none does once that clock is lost (R519). -/
def writeFlt (s : State) (via : Via) (off : Nat) (w : Word) : State :=
  if !s.flt.clkSafe then s
  else match off with
  | 0x7000 => fltClear s w
  | 0x7014 => if bitOf w 0 then firstClear s else s
  | 0x7018 => fltTest s w
  | 0x7020 => reactWrite s false w
  | 0x7024 => reactWrite s true w
  | 0x7028 => setFlt s { s.flt with lowerReject := w1c s.flt.lowerReject w 3 }
  | _ => if 0x7100 ≤ off ∧ off < 0x7180 then writeGoose s via ((off - 0x7100) / 0x40) (off % 0x40) w else putLive s off w

/-! ### OTP and NVM, calendar, management, event routing, MSI-X, power -/

/-- Table 12-13. -/
def writeOtp (s : State) (off : Nat) (w : Word) : State :=
  match off with
  | 0x8008 => { s with otp := { s.otp with progLock := s.otp.progLock ||| w.setWidth 6 } }
  | 0x800C => { s with otp := { s.otp with readLock := s.otp.readLock ||| w.setWidth 6 } }
  | 0x8040 => { s with nvm := { s.nvm with torn := w1c s.nvm.torn w 1, saveSkipped := w1c s.nvm.saveSkipped w 3, pageErr := w1c s.nvm.pageErr w 4 } }
  | _ => putLive s off w

/-- Table 13-3. Each write crosses into PD_BKP (R578, R579). -/
def writeRtc (s : State) (via : Via) (off : Nat) (w : Word) : State :=
  match off with
  | 0x9000 => rtcCross s (.time (w &&& timeMask) (via = .mp))
  | 0x9004 => rtcCross s (.date (w &&& dateMask))
  | 0x900C => rtcCross s (.status w)
  | _ => s

/-- Table 14-12. A re-plan asked for by this row has only the latest measurements (log 65). -/
def writeMp (s : State) (off : Nat) (w : Word) : State := if off = 0xA034 then marginCfgWrite s w [] else putLive s off w

/-- Table 15-3. -/
def writeEvr (s : State) (off : Nat) (w : Word) : State :=
  match off with
  | 0xB000 => maskWrite s false w
  | 0xB004 => maskWrite s true w
  | 0xB008 => pendClear s false w
  | 0xB00C => pendClear s true w
  | 0xB010 => setOpen s (bitOf w 0)
  | _ => putLive s off w

/-- An entry of the MSI-X table; an unmasked vector's pending message goes out (R643, R647). The PBA is read-only. -/
def writeMsix (s : State) (off : Nat) (w : Word) : State :=
  if 0xC400 ≤ off then s
  else
    let v := (off - 0xC000) / 16
    let e := vget s.pcie.msix v MsixEntry.reset
    let e1 : MsixEntry := match off % 16 with
      | 0 => { e with addr := (e.addr &&& 0xFFFFFFFF00000000) ||| (w &&& 0xFFFFFFFC).setWidth 64 }
      | 4 => { e with addr := (e.addr &&& 0xFFFFFFFF) ||| (w.setWidth 64 <<< 32) }
      | 8 => { e with data := w }
      | _ => { e with masked := bitOf w 0 }
    msixFlush v { s with pcie := { s.pcie with msix := vput s.pcie.msix v e1 } }

/-- Table 9-12. -/
def writePwr (s : State) (via : Via) (off : Nat) (w : Word) : State :=
  match off with
  | 0xE008 => setPwr s { s.pwr with uvFlags := s.pwr.uvFlags &&& ~~~ (w.setWidth 8), ovFlags := s.pwr.ovFlags &&& ~~~ (w.extractLsb' 8 8) }
  | 0xE014 => setPwr s { s.pwr with bkpLost := w1c s.pwr.bkpLost w 0, saveIncomplete := w1c s.pwr.saveIncomplete w 1, saveDone := w1c s.pwr.saveDone w 2 }
  | _ => if 0xE100 ≤ off ∧ off < 0xE134 then pwrReqWrite s via ((off - 0xE100) / 4) w else putLive s off w

/-! ### Any register -/

/-- A write of a whole doubleword to a register that answers; reserved offsets ignore it (R645). -/
def writeReg (s : State) (via : Via) (off : Nat) (w : Word) : State :=
  if off < 0x1000 then writeGlb s via off w
  else if off < 0x2000 then writeQe s via off w
  else if off < 0x2800 then writeCt s via off w
  else if off < 0x3000 then writeOx s off w
  else if off < 0x4000 then writeLink s via off w
  else if off < 0x5000 then writeRc s via off w
  else if off < 0x6000 then writeSeq s via off w
  else if off < 0x7000 then writeChg s off w
  else if off < 0x8000 then writeFlt s via off w
  else if off < 0x9000 then writeOtp s off w
  else if off < 0xA000 then writeRtc s via off w
  else if off < 0xB000 then writeMp s off w
  else if off < 0xC000 then writeEvr s off w
  else if off < 0xE000 then writeMsix s off w
  else if off < 0xF000 then writePwr s via off w
  else s

/-- A register of a block on a root-derived clock (Table 1-1): with that clock stopped no write takes effect (R40, R47). -/
def rootReg (off : Nat) : Bool :=
  match regDomain off with
  | some k => k ≠ 5
  | none => false

/-- A register that R92 holds at its reset value as long as PERST_N is asserted (R96): Tables 2-5 and 2-6, the MSI-X table. -/
def perstHeld (s : State) (off : Nat) : Bool :=
  s.pcie.perst && ((0x1000 ≤ off && off < 0x2000) || (0xC000 ≤ off && off < 0xE000))

/-- A write to a register: discarded while its domain is not on (R15). -/
def regWrite (s : State) (via : Via) (off : Nat) (w : Word) : State :=
  if regOn s off && (rootAlive s || !rootReg off) && !perstHeld s off then writeReg s via off w else s

/-- What the sideband window and SB_WRITE_EN allow (R98); the other paths reach every offset. -/
def mayWrite (s : State) (via : Via) (off : Nat) : Bool := via ≠ .sideband || (sbWriteEn s && 2 ≤ sbWindow off)

/-- An offset that the sideband window lets be read (R98). -/
def mayRead (via : Via) (off : Nat) : Bool := via ≠ .sideband || sbWindow off % 2 = 1

/-- An access through PCIe that is no whole, aligned doubleword (R57). -/
def brokenAccess (via : Via) (off : Nat) (whole : Bool) : Bool := via = .host && (!whole || off % 4 ≠ 0)

/-- ACCESS_ERR is set (R57). -/
def accessError (s : State) : State := { s with glb := { s.glb with accessErr := true } }

/-- An open debug register, whose effect the stepping fixes (R646). -/
def debugOpenAt (s : State) (off : Nat) : Bool := 0xF004 ≤ off && s.otp.debugOpen

end Sys2Proof.Machine
end

