-- ==== Sys2Proof/Machine/Registers.lean ====
section
/-! DEFINITION. Meanings of the register accesses without a row of their own, of RAIL_CTRL.COMMIT and of TMON_EN
(R11–R21, R57, R345, R357). -/

namespace Sys2Proof.Machine

/-- `REGISTER_WRITE` (R11–R21, R57): a BAR0 write by any path, or a BAR2 write by the host. -/
def execRegisterWrite (via : Via) (bar2 : Bool) (off : BitVec 16) (whole : Bool) (w : Word) (s : State) : Host.Outcome State Fault Refusal :=
  let o := off.toNat
  if !viaReach s via then .next s
  else if brokenAccess via o whole then .next (accessError s)
  else if bar2 then .next (if via = .host then bar2Write s o w else s)
  else if o % 4 ≠ 0 || !mayWrite s via o then .next s
  else if debugOpenAt s o && via ≠ .sideband then .fault .debugRegister
  else .next (regWrite s via o w)

/-- `RC_FIELD_READ` (R11–R15, R57): the value goes to `readData`; a broken access reads 0. -/
def execRcFieldRead (via : Via) (bar2 : Bool) (off : BitVec 16) (whole : Bool) (clock : Nat) (s : State) : Host.Outcome State Fault Refusal :=
  let o := off.toNat
  .next (
    if !viaReach s via then s
    else if brokenAccess via o whole then { accessError s with readData := 0 }
    else if bar2 then (if via = .host then { s with readData := bar2Read s o } else s)
    else if o % 4 ≠ 0 || !mayRead via o then { s with readData := 0 }
    else { (regRead s o clock).1 with readData := (regRead s o clock).2 })

/-- `RAIL_COMMIT` (R18, R323, R357). -/
def execRailCommit (via : Via) (rail : Fin 8) (w : Word) (s : State) : Host.Outcome State Fault Refusal :=
  .next (if rowReach s via && domOn s 10 && rootAlive s then railCommitWrite s rail.val w else s)

/-- `TMON_EN_WRITE` (R345): a write of RC_CTRL. -/
def execTmonEnWrite (via : Via) (w : Word) (s : State) : Host.Outcome State Fault Refusal :=
  .next (if rowReach s via && domOn s 10 && rootAlive s then rcCtrlWrite s w else s)

end Sys2Proof.Machine
end

