-- ==== Sys2Proof/Machine/Sequencer.lean ====
section
/-! DEFINITION. Meanings of the sequencer's commands and events, of WDI supervision and of the Flock bus
(08_sequencing_and_flock.md). -/

namespace Sys2Proof.Machine

/-- Table 2-12: SEQ_UP, SEQ_DOWN and SEQ_LOAD. -/
def specSeqUp : OpSpec :=
  { opcode := 0x48, target := 0, align := 0, ops := 0, mpOk := true, dom := none, fsRefused := true }
def specSeqDown : OpSpec :=
  { opcode := 0x49, target := 0, align := 0, ops := 0, mpOk := true, dom := none, fsRefused := false }
def specSeqLoad : OpSpec :=
  { opcode := 0x4A, target := 0, align := 4, ops := 0, mpOk := false, dom := none, fsRefused := false }

/-- SEQ_UP (R376, R381, R398): refused on a follower; it returns the retry count to 0. -/
def execSeqUp (rq : Requester) (d : Desc) (s : State) : Host.Outcome State Fault Refusal :=
  .next (command specSeqUp rq d (fun q t =>
    if flkRole q = 2 then complete q t stRefused 0
    else seqUpReq { q with seq := { q.seq with retries := 0 } } [t]) s)

/-- SEQ_DOWN (R376–R378, R398). -/
def execSeqDown (rq : Requester) (d : Desc) (s : State) : Host.Outcome State Fault Refusal :=
  .next (command specSeqDown rq d (fun q t =>
    if flkRole q = 2 then complete q t stRefused 0 else seqDownReq q [t]) s)

/-- SEQ_LOAD (R365, R366). -/
def execSeqLoad (rq : Requester) (d : Desc) (hostFault : Bool) (s : State) : Host.Outcome State Fault Refusal :=
  .next (command specSeqLoad rq d (fun q t =>
    if hostFault then complete q t stHostAccess 0
    else
      let r := seqLoad q (cmdRead q rq d.addr.toNat 512)
      complete r.1 t r.2 0) s)

/-- Common start + ON_DELAY of a member (R370). -/
def execSeqOnInstant (i : Fin 16) (s : State) : Host.Outcome State Fault Refusal :=
  let t := seqOnInstant s i.val
  .next (seqWatch s t (some t.seq.us))

/-- Close of a member's slot (R370). -/
def execSeqSlotClose (i : Fin 16) (s : State) : Host.Outcome State Fault Refusal := .next (seqSlotClose s i.val)

/-- A SEQIO pin has changed its level, `us` after the common start; a PG pin starts the debounce or counts a chatter (R371). -/
def execPgPinChange (pin : Fin 8) (level : Bool) (us : Nat) (s0 : State) : Host.Outcome State Fault Refusal :=
  .next (
    let s := seqAt s0 us
    let s1 := { s with seq := { s.seq with levels := putBits s.seq.levels pin.val 1 (b2n level) } }
    if bitOf s.seq.levels pin.val = level || s1.seq.state = .empty || s1.seq.state = .safe then s1
    else forUpTo 16 (fun i q =>
      match member q i with
      | some m => if m.cfg.mtype = 2 && m.cfg.pgPin = pin.val then pgChange q i (some (clockOf us)) else q
      | none => q) s1)

/-- PG held active, or inactive, for PG_DEBOUNCE, `us` after the common start (R371, R372). -/
def execPgDebounceDone (i : Fin 16) (us : Nat) (s : State) : Host.Outcome State Fault Refusal :=
  .next (if s.seq.state = .safe then s else pgDebounced (seqAt s us) i.val (some (clockOf us)))

/-- Common start + OFF_DELAY of a member (R374). -/
def execSeqOffInstant (i : Fin 16) (s : State) : Host.Outcome State Fault Refusal :=
  let t := seqOffInstant s i.val
  .next (seqWatch s t (some t.seq.us))

/-- A member meets its off condition, `us` after the common start (R375). -/
def execSeqMemberOffReached (i : Fin 16) (us : Nat) (s : State) : Host.Outcome State Fault Refusal := .next (seqOffReached (seqAt s us) i.val)

/-- OFF_TIMEOUT expires before a member reached off (R374). -/
def execSeqOffTimeout (i : Fin 16) (s : State) : Host.Outcome State Fault Refusal := .next (seqOffTimeout s i.val)

/-- A counted toggle of WDI, `us` after the common start, sets the next due time (R383, R385). -/
def execWdiToggle (level : Bool) (us : Nat) (s0 : State) : Host.Outcome State Fault Refusal :=
  .next (
    let s := seqAt s0 us
    let due := if s.seq.wdiArmed && s.seq.wdiDue.isSome && level ≠ s.seq.wdiLevel then some (us + 1000 * wdiTimeout s) else s.seq.wdiDue
    { s with seq := { s.seq with wdiLevel := level, wdiDue := due } })

/-- WDI_REACT; 3 acts as 2 (R384). -/
def wdiReact (s : State) : Nat := let r := fld s 0x5020 29 2; if r = 3 then 2 else r

/-- The toggle due has not been made by the due time (R384, R399). -/
def wdiLate (s : State) : Option Nat := if s.seq.wdiArmed then s.seq.wdiDue else none

/-- A toggle is not made by its due time, `us` after the common start (R384, R399). -/
def execWdiMiss (us : Nat) (s0 : State) : Host.Outcome State Fault Refusal :=
  .next (
    let s := seqAt s0 us
    if !((wdiLate s).any fun d => decide (d ≤ us)) then s
    else
      let n := s.seq.wdiMisses
      let r := wdiReact s
      let s1 := ev41 { s with seq := { s.seq with wdiMisses := satInc n, wdiDue := some (us + 1000 * wdiTimeout s) } } 5 0 r (some (clockOf us))
      let s2 := assertLine s1 26 (n.setWidth 32)
      if r = 0 then s2
      else if r = 1 then hostRstUpdate { s2 with seq := { s2.seq with wdiPulse := true, pulseAt := some us, wdiDue := none } }
      else seqReact s2 2)

/-- A frame arrives at a follower: the state with the frame counted or MASTER_LOST cleared, and whether it is to be acted on
(R391, R393, R401). The bus logic runs on CLK_PER, which stops with the root clock (R47). -/
def flkTake (s : State) (bytes : List Byte) (ftype len : Nat) : State × Bool :=
  if flkRole s ≠ 2 || !rootAlive s then (s, false)
  else if bytes.length ≠ len + 4 || crc8 (bytes.take (len + 3)) ≠ leField bytes (len + 3) 1 then
    ({ s with flk := { s.flk with crcErrs := satInc s.flk.crcErrs } }, false)
  else
    let s1 := { s with flk := { s.flk with masterLost := false, heardAt := some s.seq.us } }
    let h := leField bytes 0 1
    let bcast := ftype = 2 || ftype = 3 || ftype = 4
    (s1, h % 16 = ftype && (if bcast then h.testBit 4 else !h.testBit 4 && leField bytes 1 1 % 32 = flkAddr s))

/-- The status reply of a follower, with its CRC (R391, R392). -/
def flkReply (s : State) : List Byte :=
  let b0 := pack 8 [(0, 3, s.seq.state.code), (3, 1, b2n s.flk.armed), (4, 1, b2n s.flt.faultState), (5, 1, b2n s.flk.seqFault),
    (6, 1, b2n s.flk.reqDown), (7, 1, b2n s.flk.reqDownUp)]
  let bs := [b0, if s.flk.armed then s.flk.armSeq else 0] ++ leBytes 2 (membersOn s)
  bs ++ [BitVec.ofNat 8 (crc8 bs)]

/-- PING: the follower answers with its status (R391, R392). -/
def execFlockPing (bytes : List Byte) (s : State) : Host.Outcome State Fault Refusal :=
  .next (
    let r := flkTake s bytes 1 0
    if r.2 then flkSend r.1 (flkReply r.1) else r.1)

/-- UP_ARM arms a follower in state DOWN (R395). -/
def execFlockUpArm (bytes : List Byte) (s : State) : Host.Outcome State Fault Refusal :=
  .next (
    let r := flkTake s bytes 2 0
    if r.2 && r.1.seq.state = .down then
      { r.1 with flk := { r.1.flk with armed := true, armSeq := BitVec.ofNat 8 (leField bytes 2 1), armAt := some s.seq.us } }
    else r.1)

/-- DOWN_ARM announces a down start: a follower keeps its state, and its arm, until the edge (R396, R397). -/
def execFlockDownArm (bytes : List Byte) (s : State) : Host.Outcome State Fault Refusal := .next (flkTake s bytes 3 0).1

/-- CANCEL disarms (R397). -/
def execFlockCancel (bytes : List Byte) (s : State) : Host.Outcome State Fault Refusal :=
  .next (
    let r := flkTake s bytes 4 0
    if r.2 then { r.1 with flk := { r.1.flk with armed := false } } else r.1)

/-- ACK_REQ clears request bits (R399, log 29). -/
def execFlockAckReq (bytes : List Byte) (s : State) : Host.Outcome State Fault Refusal :=
  .next (
    let r := flkTake s bytes 5 1
    let p := leField bytes 3 1
    if r.2 then
      { r.1 with flk := { r.1.flk with reqDown := r.1.flk.reqDown && !p.testBit 6, reqDownUp := r.1.flk.reqDownUp && !p.testBit 7 } }
    else r.1)

/-- FSYNC found low after it was high (R394, R397). A start that the bus gives wakes PD_MP (Table 9-9, log 75). -/
def execFsyncEdge (s : State) : Host.Outcome State Fault Refusal :=
  .next (
    let e := fsyncEdge s
    let t := seqWatch s e (some e.seq.us)
    if t.seq.viaFlock && t.seq.state ≠ s.seq.state then wakeMpDomain t 0x40 else t)

/-- A request that a follower reports (R399). -/
def flkRequest (s : State) (a : Nat) (req : Nat) : State :=
  if req = 0 then s
  else
    let s1 := flkSend (ev42 s 3 a) (flkFrame 5 false a s.flk.armSeq [BitVec.ofNat 8 (req * 64)])
    let s2 := seqCancelHeld s1
    { flkDown s2 (2 ≤ req) with flk := { (flkDown s2 (2 ≤ req)).flk with sent := s1.flk.sent ++ (flkDown s2 (2 ≤ req)).flk.sent } }

/-- A reply reaches the bellwether (R393, R395, R398–R400); `fsync` is the level that FSYNC reads. -/
def execFlockPingReply (addr : Fin 32) (bytes : List Byte) (fsync : Bool) (s0 : State) : Host.Outcome State Fault Refusal :=
  .next (
    let a := addr.val
    let s := fsyncRead s0 fsync
    if !rootAlive s0 then s0
    else if flkRole s ≠ 1 || !bitOf (flkExpect s) a then s
    else if bytes.length ≠ 5 || crc8 (bytes.take 4) ≠ leField bytes 4 1 || bytes.all (· = 0xFF) then
      { s with flk := { s.flk with crcErrs := satInc s.flk.crcErrs } }
    else
      let b0 := leField bytes 0 1
      let f := s.flk
      let bad := b0.testBit 4 || b0.testBit 5
      let s1 := { s with flk := { f with
        misses := Sparse.del f.misses a, pinged := putBits f.pinged a 1 0, lost := putBits f.lost a 1 0
        up := putBits f.up a 1 (b2n (b0 % 8 = 3)), faulted := putBits f.faulted a 1 (b2n bad)
        armedBy := putBits f.armedBy a 1 (b2n (b0.testBit 3 && leField bytes 1 1 = f.armSeq.toNat)) } }
      let s2 := if bitOf f.lost a then ev42 s1 5 a else s1
      let s3 := if bad && !bitOf f.faulted a then ev42 s2 2 a else s2
      let s4 := flkTryEdge s3
      let s5 := if (s4.flk.job = .up || (s4.flk.job = .none && s4.seq.state = .upRunning)) && b0.testBit 5 then
          completeAll { s4 with flk := { s4.flk with job := .none }, seq := { s4.seq with ups := [] } } s4.seq.ups stTimeout 0
        else flkUpCheck s4
      flkRequest s5 a (b0 / 64))

/-- ARM_TIMEOUT_MS has passed, `us` after the last common start: the bellwether cancels and reacts; a follower's arm ends (R395, R397). -/
def execFlockArmTimeout (us : Nat) (s0 : State) : Host.Outcome State Fault Refusal :=
  .next (
    let s := seqAt s0 us
    if !waited s.flk.armAt (1000 * clampN 1 255 (fld s 0x5040 24 8)) us then s
    else if flkRole s = 2 then { s with flk := { s.flk with armed := false } }
    else if flkRole s = 1 && s.flk.job = .arming then
      let ts := s.seq.ups
      let s1 := { s with flk := { s.flk with job := .none, driveFsync := false, sent := flkFrame 4 true 0 s.flk.armSeq [] }
                         seq := { s.seq with ups := [] } }
      let react := faultReact s1
      let s2 := assertLine (ev41 s1 7 0 react (some (clockOf us))) 25 (pack 32 [(0, 4, 7)])
      let s3 := completeAll s2 ts stTimeout 0
      if react = 0 then s3 else seqReact s3 (if react = 2 then 1 else 0)
    else s)

/-- POLL_MS has passed, `us` after the last common start: a follower not heard since its last PING misses a reply, three in a row mark it lost, and every expected
follower is PINGed (R400). `fsync` is the level that FSYNC reads: an edge that waits for it goes out (R395, R402). -/
def execFlockPoll (us : Nat) (fsync : Bool) (s0 : State) : Host.Outcome State Fault Refusal :=
  .next (
    let s := fsyncRead (seqAt s0 us) fsync
    if flkRole s ≠ 1 || !rootAlive s || !waited s.flk.pollAt (1000 * clampN 1 255 (fld s 0x5040 16 8)) us then s
    else
      let ex := flkExpect s
      let s1 := forUpTo 32 (fun a q =>
        if bitOf ex a && bitOf s.flk.pinged a then
          let n := Sparse.getD q.flk.misses a 0 + 1
          let q1 := { q with flk := { q.flk with misses := Sparse.set q.flk.misses a n } }
          if 3 ≤ n && !bitOf q.flk.lost a then
            let q2 := ev42 { q1 with flk := { q1.flk with lost := putBits q1.flk.lost a 1 1 } } 1 a
            (if flag q2 0x5040 9 then seqDownReq q2 [] else q2)
          else q1
        else q) (flkSend s [])
      flkTryEdge { s1 with flk := { s1.flk with pinged := ex, pollAt := some us, sent := s1.flk.sent ++ flkPings s1 s1.flk.armSeq } })

/-- No valid frame for 100 ms at a follower, `us` after the last common start (R401). -/
def execFlockMasterLost (us : Nat) (s0 : State) : Host.Outcome State Fault Refusal :=
  let s := seqAt s0 us
  .next (if flkRole s = 2 && waited s.flk.heardAt 100000 us && !s.flk.masterLost then ev42 { s with flk := { s.flk with masterLost := true } } 4 0 else s)

/-- FDA or FSYNC has read low for more than 1 ms while the bellwether releases it (R402): its own 20 µs on FSYNC are over. -/
def execFlockBusError (fsync : Bool) (s : State) : Host.Outcome State Fault Refusal :=
  .next (
    if flkRole s ≠ 1 then s
    else ev42 { s with flk := { s.flk with busError := true, fsyncStuck := s.flk.fsyncStuck || fsync, driveFsync := s.flk.driveFsync && !fsync } } 6 0)

end Sys2Proof.Machine
end

