-- ==== Sys2Proof/Machine/SidebandRows.lean ====
section
/-! DEFINITION. Meanings of the sideband port's transactions and of the MP's side of its mailbox (R97–R101, R686). -/

namespace Sys2Proof.Machine

/-- A transaction's data ends with a right PEC byte or needs none (R101). -/
def pecGood (s : State) (pecOk : Bool) : Bool := pecOk || !sbPec s

/-- `SET_POINTER` (R97, R98): a Write Word with a command code, low byte first. A code that Table 2-14 does not list is NACKed at the
byte after it. A transfer with other than 2 data bytes is NACKed and changes nothing (DESIGN CHOICE, log 107). -/
def execSetPointer (code : Byte) (bytes : List Byte) (pecOk : Bool) (s : State) : Host.Outcome State Fault Refusal :=
  .next (
    if sbDead s || code.toNat ≠ sbSetPointer || bytes.length ≠ 2 || sbWindow (leNat bytes) = 0 then sbEnd s false []
    else if !pecGood s pecOk then sbEnd s true []
    else
      let t := sbEnd s true []
      { t with sb := { t.sb with pointer := BitVec.ofNat 16 (leNat bytes) } })

/-- The register at the pointer is written, and the pointer moves on by 4 (R98). -/
def sbDataWrite (s : State) (w : Word) : State :=
  let t := regWrite s .sideband s.sb.pointer.toNat w
  sbEnd { t with sb := { t.sb with pointer := s.sb.pointer + 4 } } true []

/-- `REG_DATA_WRITE` (R97, R98): Block Write of 4 bytes, low byte first (log 85). -/
def execRegDataWrite (bytes : List Byte) (pecOk : Bool) (s : State) : Host.Outcome State Fault Refusal :=
  .next (
    if sbDead s || bytes.length ≠ 4 || !mayWrite s .sideband s.sb.pointer.toNat then sbEnd s false []
    else if !pecGood s pecOk then sbEnd s true []
    else sbDataWrite s (BitVec.ofNat 32 (leNat bytes)))

/-- `REG_DATA_READ` (R97, R98): Block Read of 4 bytes; GLB_SB_REQUEST reads 0. -/
def execRegDataRead (clock : Nat) (s : State) : Host.Outcome State Fault Refusal :=
  .next (
    let o := s.sb.pointer.toNat
    if sbDead s || sbWindow o = 0 then sbEnd s false []
    else
      let r := if sbWindow o = 2 then (s, 0) else regRead s o clock
      let t : State := { r.1 with sb := { r.1.sb with pointer := s.sb.pointer + 4 } }
      sbEnd t true (sbBlock s sbRegData (leBytes 4 r.2.toNat)))

/-- `MBX_IN` (R97, R99); it wakes PD_MP (Table 9-9). A message of 0 bytes or of more than 240 is NACKed (DESIGN CHOICE, log 107). -/
def execMbxIn (bytes : List Byte) (pecOk : Bool) (s : State) : Host.Outcome State Fault Refusal :=
  .next (
    if sbDead s || bytes.isEmpty || 240 < bytes.length then sbEnd s false []
    else if s.sb.inMsg.isSome || !mpRuns s then sbEnd (wakeMpDomain s 0x22) false []
    else if !pecGood s pecOk then sbEnd s true []
    else
      let t := sbEnd (wakeMpDomain s 0x22) true []
      { t with sb := { t.sb with inMsg := some bytes } })

/-- `MBX_OUT` (R97, R100): the pending message, or a count of 0. -/
def execMbxOut (s : State) : Host.Outcome State Fault Refusal :=
  .next (
    if sbDead s then sbEnd s false []
    else
      let t := sbEnd s true (sbBlock s sbMbxOut (s.sb.outMsg.getD []))
      { t with sb := { t.sb with outMsg := none } })

/-- The MBX_STATUS byte (Table 2-14). -/
def mbxStatus (s : State) : Byte :=
  (fields [(0, 1, b2n s.sb.inMsg.isSome), (1, 1, b2n s.sb.outMsg.isSome), (2, 1, b2n s.pcie.linkUp), (3, 1, b2n s.flt.faultState),
    (4, 1, b2n (mpRuns s))]).setWidth 8

/-- `MBX_STATUS` (R97). -/
def execMbxStatus (s : State) : Host.Outcome State Fault Refusal :=
  .next (if sbDead s then sbEnd s false [] else sbEnd s true [mbxStatus s])

/-- `ALERT_RESPONSE` (R100): the management address in bits [7:1] of the byte (log 86). -/
def execAlertResponse (s : State) : Host.Outcome State Fault Refusal :=
  .next (if !sbDead s && malert s then sbEnd s true [BitVec.ofNat 8 (2 * sbAddress s)] else sbEnd s false [])

/-- `GLB_SB_REQUEST_WRITE` (R61, R98): the pointer stands at GLB_SB_REQUEST, and a REG_DATA write follows (log 87). -/
def execGlbSbRequestWrite (w : Word) (pecOk : Bool) (s : State) : Host.Outcome State Fault Refusal :=
  .next (
    let t : State := { s with sb := { s.sb with pointer := 0x18 } }
    if sbDead s then sbEnd s false []
    else if !sbWriteEn s then sbEnd t false []
    else if !pecGood s pecOk then sbEnd t true []
    else sbDataWrite t w)

/-- `SMBUS_TIMEOUT` (R686): the transaction in progress is abandoned. -/
def execSmbusTimeout (s : State) : Host.Outcome State Fault Refusal := .next (sbEnd s false [])

/-- `MP_MAILBOX_TAKE` (R99). -/
def execMpMailboxTake (s : State) : Host.Outcome State Fault Refusal :=
  .next (if mpRuns s then { s with sb := { s.sb with inMsg := none } } else s)

/-- `MP_MESSAGE_POST` (R100): a message, if any, and the alert request as the MP wants it. A message that is still pending is replaced
(DESIGN CHOICE, log 107). -/
def execMpMessagePost (msg : Option (List Byte)) (alert : Bool) (s : State) : Host.Outcome State Fault Refusal :=
  .next (if mpRuns s then
      { s with sb := { s.sb with outMsg := if msg.isSome then msg else s.sb.outMsg, alertReq := alert } }
    else s)

end Sys2Proof.Machine
end

