-- ==== Sys2Proof/Machine/Storage.lean ====
section
/-! DEFINITION. Meanings of the OTP and NVM commands and of the events of their controllers
(12_otp_and_nvm.md; R102). -/

namespace Sys2Proof.Machine

def specNvmRead : OpSpec :=
  { opcode := 0x60, target := 0xFFFFFFFF, align := 4, ops := maskOf 384 0 32, mpOk := true, dom := some 3, fsRefused := false }
def specNvmWrite : OpSpec :=
  { opcode := 0x61, target := 0xFFFFFFFF, align := 4, ops := maskOf 384 0 32, mpOk := true, dom := some 3, fsRefused := false }
def specOtpRead : OpSpec :=
  { opcode := 0x68, target := 0xFFFFFFFF, align := 4, ops := maskOf 384 0 32, mpOk := true, dom := some 3, fsRefused := false }
def specOtpProgram : OpSpec :=
  { opcode := 0x69, target := 0xFFFFFFFF, align := 0, ops := maskOf 384 0 160, mpOk := false, dom := some 3, fsRefused := false }
def specOtpLockRegion : OpSpec :=
  { opcode := 0x6A, target := 0xFFFFFFFF, align := 0, ops := 0, mpOk := false, dom := some 3, fsRefused := false }
def specLcAdvance : OpSpec :=
  { opcode := 0x6B, target := 0, align := 0, ops := pack 384 [(0, 8, 0xFF), (32, 32, 0xFFFFFFFF)], mpOk := false, dom := some 3, fsRefused := false }

/-- `NVM_READ` (R557, R560). -/
def execNvmRead (rq : Requester) (d : Desc) (s : State) : Host.Outcome State Fault Refusal :=
  .next (command specNvmRead rq d (fun s t =>
    if 65536 < d.target.toNat + opn d 16 0 32 then complete s t stRange 0
    else nvmAsk s (.read { ticket := t, byMp := reqIsMp rq, off := d.target.toNat, len := opn d 16 0 32, dest := d.addr.toNat })) s)

/-- `NVM_WRITE` (R558, R561). -/
def execNvmWrite (rq : Requester) (d : Desc) (hostFault : Bool) (s : State) : Host.Outcome State Fault Refusal :=
  .next (command specNvmWrite rq d (fun s t =>
    let n := opn d 16 0 32
    let page := d.target.toNat / 64
    if page < 1024 && !reqIsMp rq && !hostPage page then complete s t stAccessDenied 0
    else if n = 0 || 64 < n || 1023 < page then complete s t stRange 0
    else if nvmShut s then complete s t stRefused 0
    else if hostFault && !reqIsMp rq then complete s t stHostAccess 0
    else nvmAsk s (.write { page := page, off := d.target.toNat % 64, data := cmdRead s rq d.addr.toNat n, ask := .command t n })) s)

/-- `OTP_READ` (R551, R554); the words read as `reads` brings them. -/
def execOtpRead (rq : Requester) (d : Desc) (reads : List MarginRead) (s : State) : Host.Outcome State Fault Refusal :=
  .next (command specOtpRead rq d (fun s t =>
    let n := opn d 16 0 32
    if 1024 < d.target.toNat + n then complete s t stRange 0
    else
      let ws := (List.range n).map (· + d.target.toNat)
      let marg := countIf (fun w => !bitOf s.otp.readLock (otpRegion w) && (look s.otp reads w).marginal) ws
      complete (cmdWrite s rq d.addr.toNat (ws.flatMap (otpReadBytes s reads))) t stSuccess (pack 64 [(0, 32, n), (32, 16, marg)])) s)

/-- `OTP_PROGRAM` (R549–R553); one that a reset cuts leaves the word as the cut says and does not complete. -/
def execOtpProgram (rq : Requester) (d : Desc) (before verify : Option MarginRead) (cut : Option OtpCut) (s : State) :
    Host.Outcome State Fault Refusal :=
  .next (command specOtpProgram rq d (fun s t =>
    let w := d.target.toNat
    let data := BitVec.ofNat 32 (opn d 16 0 32)
    match cut, programStatus s w data (opn d 20 0 128) before with
    | some c, none => otpPut s w (cutCell c)
    | _, _ =>
      let r := otpProgram s w data (opn d 20 0 128) before verify
      complete r.1 t r.2 0) s)

/-- `OTP_LOCK_REGION` (R543, R544). -/
def execOtpLockRegion (rq : Requester) (d : Desc) (cut : Option OtpCut) (s : State) : Host.Outcome State Fault Refusal :=
  .next (command specOtpLockRegion rq d (fun s t =>
    let r := d.target.toNat
    if 5 < r then complete s t stRange 0
    else if 4 ≤ r || bitOf s.otp.locked r then complete s t stRefused 0
    else if !mayLock s.otp.lcState r || bitOf s.otp.progLock r || s.otp.lcMarginal then complete s t stAccessDenied 0
    else if otpUnfit s then complete s t stRefused 0
    else
      let l := lockRegion s r cut
      if l.2 then complete l.1 t stSuccess ((otpDigest s.otp [] r).setWidth 64) else l.1) s)

/-- The regions that LC_ADVANCE seals out of a state (Table 12-10). -/
def sealedOut (lc : Nat) : List Nat := match lc with | 1 => [0, 1] | 2 => [2, 3] | _ => []

/-- The regions that LC_ADVANCE has still to seal. -/
def toSeal (s : State) : List Nat := (sealedOut s.otp.lcState).filter fun r => !bitOf s.otp.locked r

/-- R547's two steps, and whether they were not cut. -/
def lcStep (s : State) (cut : Option OtpCut) : State × Bool :=
  let lc := s.otp.lcState
  let l := otpRun s ((toSeal s).flatMap (lockWords s) ++ [(768 + lc, BitVec.ofNat 32 (0x4C430000 + lc + 1))]) cut
  let s1 := markLocked l.1 (toSeal s)
  if l.2 then ({ s1 with otp := { s1.otp with lcState := lc + 1, readLock := if 3 ≤ lc + 1 then s1.otp.readLock ||| 4 else s1.otp.readLock } }, true)
  else (s1, false)

/-- `LC_ADVANCE` (R547). -/
def execLcAdvance (rq : Requester) (d : Desc) (cut : Option OtpCut) (s : State) : Host.Outcome State Fault Refusal :=
  .next (command specLcAdvance rq d (fun s t =>
    if opn d 20 0 32 ≠ 0x7A3C91E4 then complete s t stInvalidField 0
    else if s.otp.lcMarginal then complete s t stAccessDenied 0
    else if opn d 16 0 8 ≠ s.otp.lcState + 1 || s.otp.lcState = 4 then complete s t stRange 0
    else if otpUnfit s then complete s t stRefused 0
    else
      let l := lcStep s cut
      if l.2 then complete l.1 t stSuccess (BitVec.ofNat 64 (s.otp.lcState + 1)) else l.1) s)

/-- An OTP margin event of a pass enters the lifetime records (R526). -/
def marginEvent (s : State) (detail : DWord) : State := noteLog (noteCount (raise s 51 detail) 7) 9 (detail.setWidth 128)

/-- `OTP_MARGIN_PASS` (R526, R527): once in every hour of PD_MP on-time; values in force stay. -/
def execOtpMarginPass (reads : List MarginRead) (s0 : State) : Host.Outcome State Fault Refusal :=
  let s := { s0 with mp := { s0.mp with hourPass := s0.mp.onSeconds / 3600 } }
  .next (if !domOn s0 3 || !rootAlive s0 || !hourDue s0 s0.mp.hourPass then s0
    else match marginals s.otp reads with
      | [] => s
      | w :: ws =>
        let s1 := { s with otp := { s.otp with runCount := satAdd s.otp.runCount (ws.length + 1), lastAtLoad := false
                                               lastWord := BitVec.ofNat 10 ((w :: ws).getLast?.getD w) }
                           mp := { s.mp with passWords := s.mp.passWords + (ws.length + 1) } }
        marginEvent s1 (ev51 s.otp reads false (w :: ws) w))

/-- `NVM_PAGE_WRITE_DONE` (R558, R560, R562). -/
def execNvmPageWriteDone (s : State) : Host.Outcome State Fault Refusal := .next (if domOn s 3 then nvmCommit s else s)

/-- The NVM address is acknowledged now (R102, R560, R569). -/
def nvmAddressTaken (s : State) : Bool := !s.flt.rootOverride && domOn s 3 && s.nvm.busy.isNone && !nvmShut s

/-- The 2 address bytes of the NVM address, most significant first (R102). -/
def nvmAddress (hi lo : Byte) : Nat := 256 * hi.toNat + lo.toNat

/-- `NVM_ADDRESS_WRITE` (R102, R561): the address bytes in the order sent, then the data. A write of 0 data bytes or of more than 64
is NACKed (DESIGN CHOICE, log 107). -/
def execNvmAddressWrite (hi lo : Byte) (bytes : List Byte) (pecOk : Bool) (s : State) : Host.Outcome State Fault Refusal :=
  .next (
    let page := nvmAddress hi lo / 64
    if !nvmAddressTaken s || bytes.isEmpty || 64 < bytes.length then sbEnd s false []
    else if !hostPage page || !flag s 0x8044 0 then sbEnd s false []
    else if !pecOk && sbPec s then sbEnd s true []
    else nvmAsk (sbEnd s true []) (.write { page := page, off := nvmAddress hi lo % 64, data := bytes, ask := .sideband }))

/-- `NVM_ADDRESS_READ` (R102, R557): the address bytes in the order sent; a read past the top goes on at address 0 (log 107). -/
def execNvmAddressRead (hi lo : Byte) (len : Nat) (s : State) : Host.Outcome State Fault Refusal :=
  .next (
    if !nvmAddressTaken s then sbEnd s false []
    else
      let r := nvBytes s (nvmAddress hi lo) len
      sbEnd r.1 true r.2.1)

end Sys2Proof.Machine
end

