-- ==== Sys2Proof/Machine/Watchdog.lean ====
section
/-! DEFINITION. Meanings of the Goose commands and events, and of the releases of HOST_RST_N (11_faults_and_watchdogs.md). -/

namespace Sys2Proof.Machine

/-- Table 2-12: GOOSE_CONFIG. -/
def specGooseConfig : OpSpec :=
  { opcode := 0x78, target := 0xFFFFFFFF, align := 0, ops := maskOf 384 0 32, mpOk := true, dom := none, fsRefused := false }

/-- GOOSE_CONFIG, taken at cycle `t` of the period: the host owns instance 0, the MP instance 1 (R89, R507). -/
def execGooseConfig (rq : Requester) (d : Desc) (t : Nat) (s : State) : Host.Outcome State Fault Refusal :=
  .next (command specGooseConfig rq d (fun q k =>
    let i := d.target.toNat
    if i < 2 && (i = 1) ≠ reqIsMp rq then complete q k stAccessDenied 0
    else if 2 ≤ i then complete q k stRange 0
    else
      let r := gooseConfig q i (opn d 16 0 16) t (BitVec.ofNat 16 (opn d 18 0 16))
      complete r.1 k r.2 0) s)

/-- The owner's path to an instance: the host over PCIe, or the MP (R502). -/
def gooseOwner (s : State) (i : Nat) : Bool := if i = 0 then viaReach s .host else viaReach s .mp

/-- A write to GOOSEn_CHECKIN at cycle `t` by the instance's owner (R502, R508, R510). -/
def execGooseCheckin (inst : Fin 2) (t : Nat) (w : Word) (s : State) : Host.Outcome State Fault Refusal :=
  .next (if gooseOwner s inst.val then gooseCheckin s inst.val t w else s)

/-- A write to GOOSEn_SERVICE at cycle `t` by the instance's owner (R502, R509, R510). -/
def execGooseService (inst : Fin 2) (t : Nat) (w : Word) (s : State) : Host.Outcome State Fault Refusal :=
  .next (if gooseOwner s inst.val then gooseService s inst.val t w else s)

/-- Periods reach their expiry cycle without a valid service; both instances may do so in one CLK_SAFE cycle (R510, R513,
R515). -/
def execGoosePeriodExpiry (g0 g1 : Bool) (s0 : State) : Host.Outcome State Fault Refusal :=
  .next (
    let a := g0 && gooseCounts s0 0
    let b := g1 && gooseCounts s0 1
    let s := if a then gooseTo s0 0 (expiryAt s0.goose0) else s0
    if a && b then gooseBoth s 1 else if a then gooseViolate s 0 1 else if b then gooseViolate s 1 1 else s)

/-- Cycle 3,500 × P of a Goose 0 period without a valid service (R512). -/
def execGooseEarlyWarning (s : State) : Host.Outcome State Fault Refusal :=
  .next (if gooseCounts s 0 && !s.goose0.warned && s.goose0.t ≤ warnAt s.goose0 then gooseWarn s else s)

/-- The end of a pulse on HOST_RST_N: Goose 0's, or that of a WDI HOST_RESTART, at whose release supervision restarts
(R384, R506, R513, R514). Each ends once its length has passed. -/
def execHostRstNRelease (wdi : Bool) (us : Nat) (s0 : State) : Host.Outcome State Fault Refusal :=
  .next (
    let s := seqAt s0 us
    if wdi then
      (if s.seq.wdiPulse && waited s.seq.pulseAt (1000 * clampN 1 255 (fld s 0x5020 16 8)) us then
        hostRstUpdate { s with seq := { s.seq with wdiPulse := false, wdiDue := if s.seq.wdiArmed then some (us + 1000 * wdiFirst s) else none } }
       else s)
    else if s.g0Reset && waited s.g0ResetAt (1000 * clampN 1 255 (fld s 0x7180 16 8)) us then hostRstUpdate { s with g0Reset := false } else s)

end Sys2Proof.Machine
end

