-- ==== Sys2Proof/Machine/Dispatch.lean ====
section
/-! DEFINITION. One arm per command of the block: each calls the meaning of its own. -/

namespace Sys2Proof.Machine

def exec (i : Instr) (s : State) : Host.Outcome State Fault Refusal :=
  match i with
  | .nop rq d => Sys2Proof.Machine.execNop rq d s
  | .chipReset rq d => Sys2Proof.Machine.execChipReset rq d s
  | .powerState rq d => Sys2Proof.Machine.execPowerState rq d s
  | .ctAttach rq d hostFault bad => Sys2Proof.Machine.execCtAttach rq d hostFault bad s
  | .ctFlush rq d => Sys2Proof.Machine.execCtFlush rq d s
  | .ceUpdate rq d hostFault tableFault bad => Sys2Proof.Machine.execCeUpdate rq d hostFault tableFault bad s
  | .ceInvalidate rq d => Sys2Proof.Machine.execCeInvalidate rq d s
  | .ctRebuild rq d hostFault => Sys2Proof.Machine.execCtRebuild rq d hostFault s
  | .cePin rq d tableFault bad => Sys2Proof.Machine.execCePin rq d tableFault bad s
  | .linkEnumerate rq d => Sys2Proof.Machine.execLinkEnumerate rq d s
  | .nodeAuth rq d => Sys2Proof.Machine.execNodeAuth rq d s
  | .nodeProfileLoad rq d hostFault => Sys2Proof.Machine.execNodeProfileLoad rq d hostFault s
  | .captureArm rq d => Sys2Proof.Machine.execCaptureArm rq d s
  | .captureForce rq d => Sys2Proof.Machine.execCaptureForce rq d s
  | .estRestore rq d hostFault => Sys2Proof.Machine.execEstRestore rq d hostFault s
  | .estSnapshot rq d => Sys2Proof.Machine.execEstSnapshot rq d s
  | .railSetVoltage rq d => Sys2Proof.Machine.execRailSetVoltage rq d s
  | .railEnable rq d => Sys2Proof.Machine.execRailEnable rq d s
  | .railMode rq d => Sys2Proof.Machine.execRailMode rq d s
  | .seqUp rq d => Sys2Proof.Machine.execSeqUp rq d s
  | .seqDown rq d => Sys2Proof.Machine.execSeqDown rq d s
  | .seqLoad rq d hostFault => Sys2Proof.Machine.execSeqLoad rq d hostFault s
  | .chgConfig rq d hostFault => Sys2Proof.Machine.execChgConfig rq d hostFault s
  | .chgReverse rq d => Sys2Proof.Machine.execChgReverse rq d s
  | .nvmRead rq d => Sys2Proof.Machine.execNvmRead rq d s
  | .nvmWrite rq d hostFault => Sys2Proof.Machine.execNvmWrite rq d hostFault s
  | .otpRead rq d reads => Sys2Proof.Machine.execOtpRead rq d reads s
  | .otpProgram rq d before verify cut => Sys2Proof.Machine.execOtpProgram rq d before verify cut s
  | .otpLockRegion rq d cut => Sys2Proof.Machine.execOtpLockRegion rq d cut s
  | .lcAdvance rq d cut => Sys2Proof.Machine.execLcAdvance rq d cut s
  | .rtcSet rq d => Sys2Proof.Machine.execRtcSet rq d s
  | .rtcGet rq d => Sys2Proof.Machine.execRtcGet rq d s
  | .alarmSet rq d => Sys2Proof.Machine.execAlarmSet rq d s
  | .periodicSet rq d => Sys2Proof.Machine.execPeriodicSet rq d s
  | .gooseConfig rq d t => Sys2Proof.Machine.execGooseConfig rq d t s
  | .fwStage rq d hostFault timeout => Sys2Proof.Machine.execFwStage rq d hostFault timeout s
  | .fwCommit rq d => Sys2Proof.Machine.execFwCommit rq d s
  | .logRead rq d => Sys2Proof.Machine.execLogRead rq d s
  | .marginPlanGet rq d => Sys2Proof.Machine.execMarginPlanGet rq d s
  | .marginPlanAccept rq d => Sys2Proof.Machine.execMarginPlanAccept rq d s
  | .setPointer code bytes pecOk => Sys2Proof.Machine.execSetPointer code bytes pecOk s
  | .regDataWrite bytes pecOk => Sys2Proof.Machine.execRegDataWrite bytes pecOk s
  | .regDataRead clock => Sys2Proof.Machine.execRegDataRead clock s
  | .mbxIn bytes pecOk => Sys2Proof.Machine.execMbxIn bytes pecOk s
  | .mbxOut => Sys2Proof.Machine.execMbxOut s
  | .mbxStatus => Sys2Proof.Machine.execMbxStatus s
  | .nvmAddressWrite hi lo bytes pecOk => Sys2Proof.Machine.execNvmAddressWrite hi lo bytes pecOk s
  | .nvmAddressRead hi lo len => Sys2Proof.Machine.execNvmAddressRead hi lo len s
  | .alertResponse => Sys2Proof.Machine.execAlertResponse s
  | .registerWrite via bar2 off whole w => Sys2Proof.Machine.execRegisterWrite via bar2 off whole w s
  | .rcFieldRead via bar2 off whole clock => Sys2Proof.Machine.execRcFieldRead via bar2 off whole clock s
  | .sqTailDoorbell n w stores => Sys2Proof.Machine.execSqTailDoorbell n w stores s
  | .cqHeadDoorbell n w => Sys2Proof.Machine.execCqHeadDoorbell n w s
  | .eqHeadDoorbell w => Sys2Proof.Machine.execEqHeadDoorbell w s
  | .bufferReturnDoorbell n w => Sys2Proof.Machine.execBufferReturnDoorbell n w s
  | .qeRunStart via stores => Sys2Proof.Machine.execQeRunStart via stores s
  | .qeRunStop via => Sys2Proof.Machine.execQeRunStop via s
  | .detach via w => Sys2Proof.Machine.execDetach via w s
  | .lpCommit via w => Sys2Proof.Machine.execLpCommit via w s
  | .oxCommit via w => Sys2Proof.Machine.execOxCommit via w s
  | .railCommit via rail w => Sys2Proof.Machine.execRailCommit via rail w s
  | .lpRun via w => Sys2Proof.Machine.execLpRun via w s
  | .lpPiCfgWrite via w => Sys2Proof.Machine.execLpPiCfgWrite via w s
  | .glbSbRequestWrite w pecOk => Sys2Proof.Machine.execGlbSbRequestWrite w pecOk s
  | .pwrReqWrite via dom w => Sys2Proof.Machine.execPwrReqWrite via dom w s
  | .fltStatusClear via w => Sys2Proof.Machine.execFltStatusClear via w s
  | .firstClr via => Sys2Proof.Machine.execFirstClr via s
  | .fltTest via w => Sys2Proof.Machine.execFltTest via w s
  | .fltReactWrite via hi w => Sys2Proof.Machine.execFltReactWrite via hi w s
  | .gooseCheckin inst t w => Sys2Proof.Machine.execGooseCheckin inst t w s
  | .gooseService inst t w => Sys2Proof.Machine.execGooseService inst t w s
  | .sweepNow via w => Sys2Proof.Machine.execSweepNow via w s
  | .authNow via w => Sys2Proof.Machine.execAuthNow via w s
  | .chgHold via w => Sys2Proof.Machine.execChgHold via w s
  | .rtcTimeWrite via w => Sys2Proof.Machine.execRtcTimeWrite via w s
  | .rtcDateWrite via w => Sys2Proof.Machine.execRtcDateWrite via w s
  | .rtcTimeRead via => Sys2Proof.Machine.execRtcTimeRead via s
  | .chgQbLoRead via => Sys2Proof.Machine.execChgQbLoRead via s
  | .evrLastLoRead via => Sys2Proof.Machine.execEvrLastLoRead via s
  | .evrMaskWrite via hi w => Sys2Proof.Machine.execEvrMaskWrite via hi w s
  | .evrPendClear via hi w => Sys2Proof.Machine.execEvrPendClear via hi w s
  | .evrOpenWrite via w => Sys2Proof.Machine.execEvrOpenWrite via w s
  | .replan via w inputs => Sys2Proof.Machine.execReplan via w inputs s
  | .tmonEnWrite via w => Sys2Proof.Machine.execTmonEnWrite via w s
  | .powerOnReset back => Sys2Proof.Machine.execPowerOnReset back s
  | .brownOut => Sys2Proof.Machine.execBrownOut s
  | .resetN => Sys2Proof.Machine.execResetN s
  | .perstNAssert => Sys2Proof.Machine.execPerstNAssert s
  | .perstNRelease => Sys2Proof.Machine.execPerstNRelease s
  | .linkDown refclk => Sys2Proof.Machine.execLinkDown refclk s
  | .functionLevelReset => Sys2Proof.Machine.execFunctionLevelReset s
  | .refclkReturn => Sys2Proof.Machine.execRefclkReturn s
  | .vsysSave flagging => Sys2Proof.Machine.execVsysSave flagging s
  | .saveDone => Sys2Proof.Machine.execSaveDone s
  | .vsysStartAfterSave => Sys2Proof.Machine.execVsysStartAfterSave s
  | .vmainLow vmain vbak => Sys2Proof.Machine.execVmainLow vmain vbak s
  | .vmainOv vmain vbak => Sys2Proof.Machine.execVmainOv vmain vbak s
  | .vbakLost vmain vbak => Sys2Proof.Machine.execVbakLost vmain vbak s
  | .vbakPresent vmain vbak => Sys2Proof.Machine.execVbakPresent vmain vbak s
  | .vmainQualGained vmain vbak us => Sys2Proof.Machine.execVmainQualGained vmain vbak us s
  | .vmainQualLost vmain vbak => Sys2Proof.Machine.execVmainQualLost vmain vbak s
  | .returnTimerExpiry vmain vbak us => Sys2Proof.Machine.execReturnTimerExpiry vmain vbak us s
  | .supplyUv k => Sys2Proof.Machine.execSupplyUv k s
  | .supplyOv k => Sys2Proof.Machine.execSupplyOv k s
  | .pllLossOfLock => Sys2Proof.Machine.execPllLossOfLock s
  | .clkCoreLoss => Sys2Proof.Machine.execClkCoreLoss s
  | .clkSafeLoss aon => Sys2Proof.Machine.execClkSafeLoss aon s
  | .clkLrxLoss p => Sys2Proof.Machine.execClkLrxLoss p s
  | .oscStop => Sys2Proof.Machine.execOscStop s
  | .oscStartTimeout => Sys2Proof.Machine.execOscStartTimeout s
  | .domainStageReady k => Sys2Proof.Machine.execDomainStageReady k s
  | .domainStageTimeout k => Sys2Proof.Machine.execDomainStageTimeout k s
  | .otpLoadComplete reads unary => Sys2Proof.Machine.execOtpLoadComplete reads unary s
  | .mpBoot inputs => Sys2Proof.Machine.execMpBoot inputs s
  | .mpSelfRestart => Sys2Proof.Machine.execMpSelfRestart s
  | .mpDataPageFill page => Sys2Proof.Machine.execMpDataPageFill page s
  | .fwConfirm cut => Sys2Proof.Machine.execFwConfirm cut s
  | .rollbackRetry cut => Sys2Proof.Machine.execRollbackRetry cut s
  | .faultLatch k detail => Sys2Proof.Machine.execFaultLatch k detail s
  | .goosePeriodExpiry g0 g1 => Sys2Proof.Machine.execGoosePeriodExpiry g0 g1 s
  | .gooseEarlyWarning => Sys2Proof.Machine.execGooseEarlyWarning s
  | .hostRstNRelease wdi us => Sys2Proof.Machine.execHostRstNRelease wdi us s
  | .gooseChipRestart => Sys2Proof.Machine.execGooseChipRestart s
  | .railPrestartDecision n vpre ia cycle us samples => Sys2Proof.Machine.execRailPrestartDecision n vpre ia cycle us samples s
  | .railPulse n samples => Sys2Proof.Machine.execRailPulse n samples s
  | .railFreqTrim n => Sys2Proof.Machine.execRailFreqTrim n s
  | .railRefAtTarget n => Sys2Proof.Machine.execRailRefAtTarget n s
  | .railPgGained n m => Sys2Proof.Machine.execRailPgGained n m s
  | .railPgLost n m => Sys2Proof.Machine.execRailPgLost n m s
  | .railStartTimeout n m => Sys2Proof.Machine.execRailStartTimeout n m s
  | .railStopDone n => Sys2Proof.Machine.execRailStopDone n s
  | .railSlewDone n => Sys2Proof.Machine.execRailSlewDone n s
  | .railOv n m => Sys2Proof.Machine.execRailOv n m s
  | .railOvDriveEnd n => Sys2Proof.Machine.execRailOvDriveEnd n s
  | .railUv n m => Sys2Proof.Machine.execRailUv n m s
  | .tmonWarn mv => Sys2Proof.Machine.execTmonWarn mv s
  | .tmonShutdown mv cycle us => Sys2Proof.Machine.execTmonShutdown mv cycle us s
  | .tmonLost mv us => Sys2Proof.Machine.execTmonLost mv us s
  | .tmonClear mv us => Sys2Proof.Machine.execTmonClear mv us s
  | .railIlim n m => Sys2Proof.Machine.execRailIlim n m s
  | .phaseShed n m => Sys2Proof.Machine.execPhaseShed n m s
  | .railBurstEnter n => Sys2Proof.Machine.execRailBurstEnter n s
  | .railBurstExit n => Sys2Proof.Machine.execRailBurstExit n s
  | .railBurstSleep n mv => Sys2Proof.Machine.execRailBurstSleep n mv s
  | .railBurstWake n mv => Sys2Proof.Machine.execRailBurstWake n mv s
  | .railTelemetryRenew n tmon => Sys2Proof.Machine.execRailTelemetryRenew n tmon s
  | .seqOnInstant k => Sys2Proof.Machine.execSeqOnInstant k s
  | .seqSlotClose k => Sys2Proof.Machine.execSeqSlotClose k s
  | .pgPinChange pin level us => Sys2Proof.Machine.execPgPinChange pin level us s
  | .pgDebounceDone k us => Sys2Proof.Machine.execPgDebounceDone k us s
  | .seqOffInstant k => Sys2Proof.Machine.execSeqOffInstant k s
  | .seqMemberOffReached k us => Sys2Proof.Machine.execSeqMemberOffReached k us s
  | .seqOffTimeout k => Sys2Proof.Machine.execSeqOffTimeout k s
  | .wdiToggle level us => Sys2Proof.Machine.execWdiToggle level us s
  | .wdiMiss us => Sys2Proof.Machine.execWdiMiss us s
  | .flockPing bytes => Sys2Proof.Machine.execFlockPing bytes s
  | .flockPingReply addr bytes fsync => Sys2Proof.Machine.execFlockPingReply addr bytes fsync s
  | .flockUpArm bytes => Sys2Proof.Machine.execFlockUpArm bytes s
  | .flockDownArm bytes => Sys2Proof.Machine.execFlockDownArm bytes s
  | .flockCancel bytes => Sys2Proof.Machine.execFlockCancel bytes s
  | .flockAckReq bytes => Sys2Proof.Machine.execFlockAckReq bytes s
  | .fsyncEdge => Sys2Proof.Machine.execFsyncEdge s
  | .flockArmTimeout us => Sys2Proof.Machine.execFlockArmTimeout us s
  | .flockPoll us fsync => Sys2Proof.Machine.execFlockPoll us fsync s
  | .flockMasterLost us => Sys2Proof.Machine.execFlockMasterLost us s
  | .flockBusError fsync => Sys2Proof.Machine.execFlockBusError fsync s
  | .cycleTick => Sys2Proof.Machine.execCycleTick s
  | .microframeTrain p chainB => Sys2Proof.Machine.execMicroframeTrain p chainB s
  | .segmentReceived p r => Sys2Proof.Machine.execSegmentReceived p r s
  | .enumerationComplete p => Sys2Proof.Machine.execEnumerationComplete p s
  | .trainFailed p => Sys2Proof.Machine.execTrainFailed p s
  | .dualChainStart p => Sys2Proof.Machine.execDualChainStart p s
  | .farLockHealed p => Sys2Proof.Machine.execFarLockHealed p s
  | .nodeResponse p pos fault => Sys2Proof.Machine.execNodeResponse p pos fault s
  | .commandRetryTimeout p chainB => Sys2Proof.Machine.execCommandRetryTimeout p chainB s
  | .nodeRestore a supplyLost => Sys2Proof.Machine.execNodeRestore a supplyLost s
  | .authRenewal a => Sys2Proof.Machine.execAuthRenewal a s
  | .cycleRecordComplete a => Sys2Proof.Machine.execCycleRecordComplete a s
  | .accRecordComplete a => Sys2Proof.Machine.execAccRecordComplete a s
  | .piSample t delay => Sys2Proof.Machine.execPiSample t delay s
  | .capturePiece a => Sys2Proof.Machine.execCapturePiece a s
  | .captureTimeout => Sys2Proof.Machine.execCaptureTimeout s
  | .tsBufferFlush m => Sys2Proof.Machine.execTsBufferFlush m s
  | .epochBoundary => Sys2Proof.Machine.execEpochBoundary s
  | .batchFetch errs fault bad => Sys2Proof.Machine.execBatchFetch errs fault bad s
  | .batchPass errs fault => Sys2Proof.Machine.execBatchPass errs fault s
  | .epochEnd => Sys2Proof.Machine.execEpochEnd s
  | .fitCompute => Sys2Proof.Machine.execFitCompute s
  | .cacheScrub errs fault => Sys2Proof.Machine.execCacheScrub errs fault s
  | .mulePrepare fault bad => Sys2Proof.Machine.execMulePrepare fault bad s
  | .muleSwitch fault bad => Sys2Proof.Machine.execMuleSwitch fault bad s
  | .descriptorFetch fails => Sys2Proof.Machine.execDescriptorFetch fails s
  | .coalesceTimeout v => Sys2Proof.Machine.execCoalesceTimeout v s
  | .chgControlTick x => Sys2Proof.Machine.execChgControlTick x s
  | .chgSourceQualified => Sys2Proof.Machine.execChgSourceQualified s
  | .chgSourceRetry => Sys2Proof.Machine.execChgSourceRetry s
  | .chgSourceLost => Sys2Proof.Machine.execChgSourceLost s
  | .mpptStep => Sys2Proof.Machine.execMpptStep s
  | .sweepStep => Sys2Proof.Machine.execSweepStep s
  | .periodicSweep => Sys2Proof.Machine.execPeriodicSweep s
  | .chgBandUpdate ratio => Sys2Proof.Machine.execChgBandUpdate ratio s
  | .safetyTimerExpiry => Sys2Proof.Machine.execSafetyTimerExpiry s
  | .prechargeTimer => Sys2Proof.Machine.execPrechargeTimer s
  | .chgTermination => Sys2Proof.Machine.execChgTermination s
  | .rechargeCondition => Sys2Proof.Machine.execRechargeCondition s
  | .reverseCheck va => Sys2Proof.Machine.execReverseCheck va s
  | .authAttempt ident resp => Sys2Proof.Machine.execAuthAttempt ident resp s
  | .gaugeCapture samples => Sys2Proof.Machine.execGaugeCapture samples s
  | .qbWake => Sys2Proof.Machine.execQbWake s
  | .gaugeEpoch => Sys2Proof.Machine.execGaugeEpoch s
  | .otpMarginPass reads => Sys2Proof.Machine.execOtpMarginPass reads s
  | .nvmPageWriteDone => Sys2Proof.Machine.execNvmPageWriteDone s
  | .spareEraseDone => Sys2Proof.Machine.execSpareEraseDone s
  | .checkpointSave => Sys2Proof.Machine.execCheckpointSave s
  | .rtcCommit edge => Sys2Proof.Machine.execRtcCommit edge s
  | .alarmFire => Sys2Proof.Machine.execAlarmFire s
  | .periodicWake edge => Sys2Proof.Machine.execPeriodicWake edge s
  | .rtcCompensation temp => Sys2Proof.Machine.execRtcCompensation temp s
  | .parkingStart => Sys2Proof.Machine.execParkingStart s
  | .parkingScan g recs acc lost auths ms => Sys2Proof.Machine.execParkingScan g recs acc lost auths ms s
  | .ageingMeasure monitors lost gate drifts => Sys2Proof.Machine.execAgeingMeasure monitors lost gate drifts s
  | .dieTempWarn sensor t => Sys2Proof.Machine.execDieTempWarn sensor t s
  | .marginReplanPeriodic inputs => Sys2Proof.Machine.execMarginReplanPeriodic inputs s
  | .marginApplyDone inputs => Sys2Proof.Machine.execMarginApplyDone inputs s
  | .resetNRelease => Sys2Proof.Machine.execResetNRelease s
  | .vsysStartAfterBrownOut => Sys2Proof.Machine.execVsysStartAfterBrownOut s
  | .supplyRecovers k => Sys2Proof.Machine.execSupplyRecovers k s
  | .vrtcOkChange ok => Sys2Proof.Machine.execVrtcOkChange ok s
  | .crystalRestart => Sys2Proof.Machine.execCrystalRestart s
  | .secondBoundary => Sys2Proof.Machine.execSecondBoundary s
  | .aliveEdge => Sys2Proof.Machine.execAliveEdge s
  | .linkTrainingComplete speed width => Sys2Proof.Machine.execLinkTrainingComplete speed width s
  | .pcieConfigWrite off be w => Sys2Proof.Machine.execPcieConfigWrite off be w s
  | .smbusTimeout => Sys2Proof.Machine.execSmbusTimeout s
  | .mpMailboxTake => Sys2Proof.Machine.execMpMailboxTake s
  | .mpMessagePost msg alert => Sys2Proof.Machine.execMpMessagePost msg alert s
  | .packAuthRenewal => Sys2Proof.Machine.execPackAuthRenewal s
  | .onTimeSecond sensors => Sys2Proof.Machine.execOnTimeSecond sensors s

end Sys2Proof.Machine
end

