-- ==== Sys2Proof/Machine/Pins.lean ====
section
/-! DEFINITION. The level of every signal ball that the device drives, as a function of the state (R39, R55, R314, R354, R499, R500, R514;
Tables 1-5 and 16-3; R651–R654). -/

namespace Sys2Proof.Machine

/-- The signal balls that the device drives, or holds at high impedance (Table 16-3). -/
inductive Ball where
  | pwm (p : Fin 12)
  | stgEn (g : Fin 2)
  | imon (p : Fin 12)
  | seqio (i : Fin 8)
  | hostRstN | safeN | alive | wakeN | clkreqN | malertN
  | gmain | gbak | pvselG | vehselG
  | chgHg (h : Fin 2)
  | chgLg (h : Fin 2)
  | fsync
  /-- A pair of a link port: A, or B. -/
  | sdl (port : Fin 16) (pairB : Bool)
  | tx (lane : Fin 2)
  | bauth
  | qcsN | qck
  | qd (i : Fin 4)
  | fck | fda | mscl | msda
  | tdo
  | bntc
  deriving DecidableEq, Repr

/-- The power domain that owns a ball (Table 16-3, by the codes of Table 9-7); none for the power path's gates. -/
def Ball.domain (b : Ball) : Option Nat :=
  match b with
  | .pwm _ => some 10 | .stgEn _ => some 10 | .imon _ => some 10
  | .seqio _ => some 1 | .hostRstN => some 1 | .wakeN => some 1 | .clkreqN => some 1 | .malertN => some 1 | .fsync => some 1
  | .fck => some 1 | .fda => some 1 | .mscl => some 1 | .msda => some 1 | .tdo => some 1
  | .safeN => some 2 | .alive => some 2
  | .gmain => none | .gbak => none
  | .pvselG => some 11 | .vehselG => some 11 | .chgHg _ => some 11 | .chgLg _ => some 11 | .bauth => some 11 | .bntc => some 11
  | .sdl p _ => some (6 + p.val / 4)
  | .tx _ => some 5
  | .qcsN => some 3 | .qck => some 3 | .qd _ => some 3

/-- What stands on a ball. -/
inductive Level where
  | low | high
  | hiZ
  /-- An open-drain output that is not driven. -/
  | released
  /-- Held at its source, switch node or ground by an internal resistor, its switch off (R654). -/
  | held
  /-- Carries the traffic of its block. -/
  | active
  /-- Biased: IMON held at 1.200 V in STAGE mode, BNTC through 10.0 kΩ. -/
  | bias
  deriving DecidableEq, Repr

/-- The reset state of a ball (Table 16-3); GMAIN and GBAK follow R410 instead. -/
def Ball.resetLevel (b : Ball) : Option Level :=
  match b with
  | .pwm _ => some .hiZ | .stgEn _ => some .low | .imon _ => some .hiZ | .seqio _ => some .hiZ
  | .hostRstN => some .low | .wakeN => some .released | .clkreqN => some .released | .malertN => some .released | .fsync => some .released
  | .fck => some .released | .fda => some .released | .mscl => some .released | .msda => some .released | .tdo => some .hiZ
  | .safeN => some .low | .alive => some .low
  | .gmain => none | .gbak => none
  | .pvselG => some .low | .vehselG => some .low | .chgHg _ => some .low | .chgLg _ => some .low
  | .bauth => some .released | .bntc => some .hiZ
  | .sdl _ _ => some .hiZ | .tx _ => some .hiZ
  | .qcsN => some .high | .qck => some .low | .qd _ => some .hiZ

/-- A push-pull output. -/
def pushPull (v : Bool) : Level := if v then .high else .low

/-- An open-drain output that asserts low. -/
def openDrain (asserted : Bool) : Level := if asserted then .low else .released

/-- PWMp: low while the root-clock override is in force; else what rail control drives, and tri-state where PD_REGC is not on (R39, R314,
R359). -/
def pwmLevel (s : State) (p : Nat) : Level :=
  if s.flt.rootOverride then .low
  else if domOn s 10 then (match (phs s p).pwm with | .high => .high | .low => .low | .tri => .hiZ)
  else .hiZ

/-- CLKREQ_N: asserted while PD_PCIE is on, and released in retention and off (R55). -/
def clkreqLow (s : State) : Bool := decide ((dom s 5).state = .on)

/-- A SEQIO pin (R363, R387). -/
def seqioLevel (s : State) (i : Nat) : Level :=
  match vget s.seq.pins i PinDrive.input with
  | .input => .hiZ
  | .drivenLow => .low
  | .drivenHigh => .high
  | .released => .released

/-- GMAIN is enabled in MAIN and in HOLD, unless VMAIN_OV led to HOLD (Table 9-3, R409). -/
def gmainOn (s : State) : Bool := s.pwr.path = .main || (s.pwr.path = .hold && !s.pwr.holdByOv)

/-- VRTC is charged from VDD33 (R418). -/
def vrtcCharging (s : State) : Bool := flag s 0xE010 0 && regulated s && !bitOf s.pwr.uvNow 3

/-- A ball with the always-on supply in regulation (Table 1-5, Table 16-3). -/
def poweredLevel (s : State) (b : Ball) : Level :=
  match b with
  | .pwm p => pwmLevel s p.val
  | .stgEn g => pushPull (stgEn s g.val)
  | .imon p => if phaseActive s p.val && !flag s (phBase p.val) 0 && !s.flt.rootOverride then .bias else .hiZ
  | .seqio i => seqioLevel s i.val
  | .hostRstN => openDrain (hostRstLow s)
  | .safeN => openDrain s.flt.safeN
  | .alive => pushPull s.flt.aliveHigh
  | .wakeN => openDrain (s.wakePcie || s.wakeMp)
  | .clkreqN => openDrain (clkreqLow s)
  | .malertN => openDrain (malert s)
  | .gmain => pushPull (gmainOn s)
  | .gbak => pushPull (s.pwr.path ≠ .main)
  | .pvselG => pushPull (domOn s 11 && s.chg.pvGate)
  | .vehselG => pushPull (domOn s 11 && s.chg.vehGate)
  | .chgHg _ => if domOn s 11 && stageRuns s then .active else .low
  | .chgLg _ => if domOn s 11 && stageRuns s then .active else .low
  | .fsync => openDrain s.flk.driveFsync
  | .sdl p b => if pairDrives s p.val b then .active else .hiZ
  | .tx _ => if domOn s 5 && s.pcie.linkUp then .active else .hiZ
  | .bauth => if domOn s 11 && s.chg.authRunning then .active else .released
  | .qcsN => .high
  | .qck => .low
  | .qd _ => .hiZ
  | .fck => if flkRole s = 1 then .active else .released
  | .fda => if flkRole s = 1 || flkRole s = 2 then .active else .released
  | .mscl => .released
  | .msda => .released
  | .tdo => .hiZ
  | .bntc => if domOn s 11 then .bias else .hiZ

/-- A ball while the always-on supply is out of regulation: high impedance, but for the gates held by internal resistors and the open-drain
outputs HOST_RST_N and SAFE_N, which their board pull-ups take (R654). -/
def unpoweredLevel (b : Ball) : Level :=
  match b with
  | .gmain => .held
  | .gbak => .held
  | .chgHg _ => .held
  | .chgLg _ => .held
  | .hostRstN => .released
  | .safeN => .released
  | _ => .hiZ

/-- The level of a ball (R651, R652, R654). -/
def ballLevel (s : State) (b : Ball) : Level := if powered s then poweredLevel s b else unpoweredLevel b

/-! ### JTAG (R556) -/

/-- The instructions of the test access port: those of IEEE 1149.1, and the further ones that reach the MP and the CLK_DBG crossings. -/
inductive JtagInstr where
  | bypass | idcode | samplePreload | extest | further
  deriving DecidableEq, Repr

/-- What an instruction acts as: while debug access is closed the further ones act as BYPASS. -/
def jtagActs (s : State) (i : JtagInstr) : JtagInstr :=
  match i with
  | .further => if s.otp.debugOpen then .further else .bypass
  | _ => i

/-- IDCODE: the stepping code, letter × 4 + digit, over 0x92501E3. -/
def jtagIdcode : Word := pack 32 [(0, 28, 0x92501E3), (28, 4, 4 * Config.stepLetter + Config.stepDigit)]

end Sys2Proof.Machine
end

