-- ==== Sys2Proof/Safety.lean ====
section
/-! DEFINITION. What counts as a safe state of the block, in the terms that statements use: what every step must keep, what a
command row answers, and what a row leaves as it was. -/

namespace Sys2Proof.Machine

/-- The three memories that the block reaches are in canonical form (R34, R594, R595). -/
def State.memWf (s : State) : Prop :=
  Mem.wf ramByte s.hostMem = true ∧ Mem.wf ramByte s.mpSram = true ∧ Mem.wf flashByte s.flash = true

/-- A step from `s` completes. -/
def runs (s : State) : Prop := ∃ t, step s = .next t

/-- The row answers a next state with a property. -/
def Answers (i : Instr) (s : State) (P : State → Prop) : Prop := ∃ t, exec i s = .next t ∧ P t

/-- A command arrives at its block as ticket `k`, the state being `q` by then (its requester's stores made, its descriptor
fetched), passes the common checks of R91, and does not wait for host memory (R56). -/
def Taken (sp : OpSpec) (rq : Requester) (d : Desc) (s q : State) (k : Ticket) : Prop :=
  arrive s sp.opcode rq d = some (q, k) ∧ commonCheck q sp rq d = none ∧ hostWaits q sp rq = false

/-- The descriptor passes the checks of R91 that concern it alone. -/
def goodForm (sp : OpSpec) (d : Desc) : Prop :=
  d.rsv = 0 ∧ d.target &&& ~~~ sp.target = 0 ∧ d.ops &&& ~~~ sp.ops = 0 ∧ (sp.align = 0 → d.addr = 0) ∧
    (sp.align ≠ 0 → d.addr.toNat % sp.align = 0)

/-- A byte of host memory, of MP SRAM and of the flash. -/
def hostByte (s : State) (a : Nat) : Byte := Mem.get ramByte s.hostMem a
def sramByte (s : State) (a : Nat) : Byte := Mem.get ramByte s.mpSram a
def flashByteAt (s : State) (a : Nat) : Byte := Mem.get flashByte s.flash a

/-- Every byte of the three memories reads as before. -/
def SameBytes (s t : State) : Prop :=
  ∀ a, hostByte t a = hostByte s a ∧ sramByte t a = sramByte s a ∧ flashByteAt t a = flashByteAt s a

/-- At most what an event brings about differs: event routing, its latches, the queue windows, the PBA, the count of free
values, the Goose escalation still to be reported, and host memory (R632–R643, R518). -/
def OnlyEvents (s t : State) : Prop :=
  t = { s with evr := t.evr, held := t.held, qe := { s.qe with win := t.qe.win }, hostMem := t.hostMem
               pcie := { s.pcie with pba := t.pcie.pba }, free := t.free, ret := { s.ret with lastPending := t.ret.lastPending } }

/-- Event routing runs, and its clock with it (R637, R47). -/
def routes (s : State) : Bool := s.evr.routing && rootAlive s

/-- Event `k` has been raised with detail `d`: it is held where routing does not run, pending where it is masked, else the last
occurrence routed (R630, R632, R637, R639). -/
def EventRaised (s t : State) (k : Nat) (d : DWord) : Prop :=
  (routes s = false → routes t = false → (Sparse.get? t.held.latches k).map Occ.detail = some d) ∧
  (routes s = true → evMasked s k = true → (Sparse.get? t.evr.pend k).map Occ.detail = some d) ∧
  (routes s = true → evMasked s k = false → (Sparse.getD t.evr.last k { detail := 0, count := 0 }).detail = d)

/-- A command row with its row of Table 2-12, its requester and its descriptor. -/
def cmdOf (i : Instr) : Option (OpSpec × Requester × Desc) :=
  match i with
  | .nop rq d => some (specNop, rq, d)
  | .chipReset rq d => some (specChipReset, rq, d)
  | .powerState rq d => some (specPowerState, rq, d)
  | .ctAttach rq d _ _ => some (specCtAttach, rq, d)
  | .ctFlush rq d => some (specCtFlush, rq, d)
  | .ceUpdate rq d _ _ _ => some (specCeUpdate, rq, d)
  | .ceInvalidate rq d => some (specCeInvalidate, rq, d)
  | .ctRebuild rq d _ => some (specCtRebuild, rq, d)
  | .cePin rq d _ _ => some (specCePin, rq, d)
  | .linkEnumerate rq d => some (specLinkEnumerate, rq, d)
  | .nodeAuth rq d => some (specNodeAuth, rq, d)
  | .nodeProfileLoad rq d _ => some (specNodeProfileLoad, rq, d)
  | .captureArm rq d => some (specCaptureArm, rq, d)
  | .captureForce rq d => some (specCaptureForce, rq, d)
  | .estRestore rq d _ => some (specEstRestore, rq, d)
  | .estSnapshot rq d => some (specEstSnapshot, rq, d)
  | .railSetVoltage rq d => some (specRailSetVoltage, rq, d)
  | .railEnable rq d => some (specRailEnable, rq, d)
  | .railMode rq d => some (specRailMode, rq, d)
  | .seqUp rq d => some (specSeqUp, rq, d)
  | .seqDown rq d => some (specSeqDown, rq, d)
  | .seqLoad rq d _ => some (specSeqLoad, rq, d)
  | .chgConfig rq d _ => some (specChgConfig, rq, d)
  | .chgReverse rq d => some (specChgReverse, rq, d)
  | .nvmRead rq d => some (specNvmRead, rq, d)
  | .nvmWrite rq d _ => some (specNvmWrite, rq, d)
  | .otpRead rq d _ => some (specOtpRead, rq, d)
  | .otpProgram rq d _ _ _ => some (specOtpProgram, rq, d)
  | .otpLockRegion rq d _ => some (specOtpLockRegion, rq, d)
  | .lcAdvance rq d _ => some (specLcAdvance, rq, d)
  | .rtcSet rq d => some (specRtcSet, rq, d)
  | .rtcGet rq d => some (specRtcGet, rq, d)
  | .alarmSet rq d => some (specAlarmSet, rq, d)
  | .periodicSet rq d => some (specPeriodicSet, rq, d)
  | .gooseConfig rq d _ => some (specGooseConfig, rq, d)
  | .fwStage rq d _ _ => some (specFwStage, rq, d)
  | .fwCommit rq d => some (specFwCommit, rq, d)
  | .logRead rq d => some (specLogRead, rq, d)
  | .marginPlanGet rq d => some (specMarginPlanGet, rq, d)
  | .marginPlanAccept rq d => some (specMarginPlanAccept, rq, d)
  | _ => none

/-- The rows that bring about a chip-level reset (Table 9-10). -/
def resetRow (i : Instr) : Bool :=
  match i with
  | .chipReset _ _ => true | .powerOnReset _ => true | .brownOut => true | .resetN => true | .gooseChipRestart => true
  | _ => false

end Sys2Proof.Machine
end

