-- ==== Sys2Proof/Certificates/Slice0/Obligations.lean ====
section
/-! DEFINITION. The statements for the provers, from the rules of the spec, family by family. -/

open Sys2Proof Sys2Proof.Machine

/-! ### The queue of commands, the memories, reset -/

/-- A step runs the command in front of the queue. A step with command c in front of the queue is exec of c on the state with
the queue's rest; on an empty queue the block idles. The queue and the idling are the model's own (log 27). (INDEX.md,
opcode_table.json) -/
def Obligations.StepRunsFrontCommand : Prop :=
  (∀ (s : State) (c : Instr) (r : List Instr), step { s with pending := c :: r } = exec c { s with pending := r }) ∧
  ∀ s : State, s.pending = [] → step s = .next s

/-- No command changes the queue: every step shortens it by one. Whatever command is in front, a step that answers a next state
leaves exactly the rest of the queue (log 27). (INDEX.md, opcode_table.json) -/
def Obligations.StepShortensQueue : Prop :=
  ∀ s t : State, step s = .next t → t.pending = s.pending.tail

/-- Every step keeps host memory, MP SRAM and the flash in canonical form. From any state whose three memories list strictly
rising addresses and no byte equal to what an unlisted address reads as, every step that answers a next state leads to such a
state (the form is the model's, log 5). (R34, R594, R595) -/
def Obligations.MemoryStaysCanonical : Prop :=
  ∀ s t : State, s.memWf → step s = .next t → t.memWf

/-- The fault state lasts until a chip-level reset. In the fault state, a step whose command is not one of the five that bring
about a chip-level reset leads to a state that is still the fault state. (R495, R498) -/
def Obligations.FaultStateLasts : Prop :=
  ∀ (s t : State) (c : Instr) (r : List Instr),
    s.pending = c :: r → resetRow c = false → s.flt.faultState = true → step s = .next t → t.flt.faultState = true

/-- SAFE_N stays asserted in the fault state. If SAFE_N is asserted wherever the device is in its fault state, the same holds
after every step. (R495, R500) -/
def Obligations.SafeOutputHeld : Prop :=
  ∀ s t : State, (s.flt.faultState = true → s.flt.safeN = true) → step s = .next t → t.flt.faultState = true → t.flt.safeN = true

/-- What the reset state holds. At the release of the power-on reset the three memories list nothing, hence are canonical (the
form is the model's, log 5), and no command waits; only the POR cause is set, start-up stands at step 1, PD_MP and PD_CORE are
off, SAFE_N and HOST_RST_N are asserted, no fault is latched, and the queue engine, event routing, sequencer, rails, link,
channel table and charger are at rest. Where the spec gives no value the reset value is the model's (log 3). (R22, R60, R362,
R438, R442, R500, R594, R595) -/
def Obligations.ResetState : Prop :=
  State.reset.memWf ∧ State.reset.hostMem = [] ∧ State.reset.mpSram = [] ∧ State.reset.flash = [] ∧ State.reset.pending = [] ∧
  State.reset.glb.rstCause = 1 ∧ State.reset.pwr.startStep = 1 ∧ domOn State.reset 3 = false ∧ domOn State.reset 4 = false ∧
  State.reset.flt.safeN = true ∧ State.reset.flt.status = 0 ∧ State.reset.flt.faultState = false ∧ hostRstLow State.reset = true ∧
  State.reset.qe.running = false ∧ State.reset.evr.open_ = false ∧ State.reset.seq.state = .empty ∧
  (∀ n, n < 8 → (rail State.reset n).state = .off) ∧ State.reset.lp.running = false ∧ State.reset.ct.attached = false ∧
  State.reset.chg.state = .disabled ∧ State.reset.chg.faults = 0 ∧ State.reset.readData = 0

/-! ### Commands in common -/

/-- The common checks of every command row. A command that cannot arrive at its block changes nothing; one that arrives and
fails a common check of R91 completes with that check's status and has no other effect. (R85, R91) -/
def Obligations.CommonChecksComeFirst : Prop :=
  (∀ (i : Instr) (s : State) (sp : OpSpec) (rq : Requester) (d : Desc),
    cmdOf i = some (sp, rq, d) → arrive s sp.opcode rq d = none → exec i s = .next s) ∧
  ∀ (i : Instr) (s q : State) (k : Ticket) (sp : OpSpec) (rq : Requester) (d : Desc) (st : Nat),
    cmdOf i = some (sp, rq, d) → arrive s sp.opcode rq d = some (q, k) → commonCheck q sp rq d = some st →
    exec i s = .next (complete q k st 0)

/-- Commands that the MP may not submit. A command whose row of Table 2-12 says no in its MP column completes with ACCESS_DENIED
when the MP submits it, its form being right, and has no other effect. (R70, R91) -/
def Obligations.MpMayNotSubmit : Prop :=
  ∀ (i : Instr) (s q : State) (k : Ticket) (sp : OpSpec) (w : Stores) (d : Desc),
    cmdOf i = some (sp, .mp w, d) → arrive s sp.opcode (.mp w) d = some (q, k) → goodForm sp d →
    sp.opcode ∈ [0x01, 0x10, 0x11, 0x12, 0x13, 0x14, 0x15, 0x22, 0x28, 0x29, 0x30, 0x31, 0x40, 0x42, 0x4A, 0x69, 0x6A, 0x6B,
      0x80, 0x81, 0x88, 0x89] →
    exec i s = .next (complete q k stAccessDenied 0)

/-- The fault state refuses rail commands, SEQ_UP and CHG_REVERSE. In the fault state, RAIL_SET_VOLTAGE, RAIL_ENABLE, RAIL_MODE
and SEQ_UP that pass every earlier check of R91, and CHG_REVERSE with enable set, complete with FAULT_STATE and have no other
effect. (R90, R91) -/
def Obligations.FaultStateRefuses : Prop :=
  (∀ (i : Instr) (s q : State) (k : Ticket) (sp : OpSpec) (rq : Requester) (d : Desc),
    cmdOf i = some (sp, rq, d) → sp.opcode ∈ [0x40, 0x41, 0x42, 0x48] → arrive s sp.opcode rq d = some (q, k) → goodForm sp d →
    (reqIsMp rq = true → sp.mpOk = true) → (∀ j, sp.dom = some j → domOn q j = true) → q.flt.faultState = true →
    exec i s = .next (complete q k stFaultState 0)) ∧
  ∀ (s q : State) (k : Ticket) (rq : Requester) (d : Desc), Taken specChgReverse rq d s q k → opn d 16 0 1 = 1 →
    q.flt.faultState = true → exec (.chgReverse rq d) s = .next (complete q k stFaultState 0)

/-- NOP completes to whoever submitted it. A NOP that arrives completes with SUCCESS. One of the host that is put into an idle
SQ, with no event routed, takes its slot in the SQ, writes exactly its completion entry at the CQ's write index, advances that
index and leaves every other byte of memory; a QUIET one changes no byte. One of the MP that is not QUIET adds one completion to
the MP's own. (R71, R78, R80, R85, R86) -/
def Obligations.NopCompletes : Prop :=
  (∀ (s q : State) (k : Ticket) (rq : Requester) (d : Desc), Taken specNop rq d s q k →
    exec (.nop rq d) s = .next (complete q k stSuccess 0)) ∧
  (∀ (s q : State) (k : Ticket) (n : Fin 4) (d : Desc), Taken specNop (.host n) d s q k → canMaster s = true → s.qe.inflight = [] →
    s.qe.cqWait = [] → d.quiet = false → s.evr.routing = true →
    flag s (0xB100 + 4 * n.val) 8 = false → flag s (0xB100 + 4 * n.val) 9 = false →
    Answers (.nop (.host n) d) s fun t =>
      t.hostMem = Mem.write ramByte s.hostMem (winAddr s (4 + n.val) + 16 * (win s (4 + n.val)).tail.toNat)
        (cqEntry d.tag.toNat stSuccess (win s (4 + n.val)).phase (ringNext (winDepth s n.val) (win s n.val).tail).toNat 0 0) ∧
      (win t (4 + n.val)).tail = ringNext (winDepth s (4 + n.val)) (win s (4 + n.val)).tail ∧
      (win t n.val).head = ringNext (winDepth s n.val) (win s n.val).tail ∧ (win t n.val).tail = (win t n.val).head ∧
      t.qe.inflight = [] ∧ t.mpSram = s.mpSram ∧ t.flash = s.flash ∧ t.regs = s.regs) ∧
  (∀ (s q : State) (k : Ticket) (n : Fin 4) (d : Desc), Taken specNop (.host n) d s q k → canMaster s = true → s.qe.inflight = [] →
    s.qe.cqWait = [] → d.quiet = true → Answers (.nop (.host n) d) s fun t => SameBytes s t ∧ t.qe.inflight = []) ∧
  ∀ (s q : State) (k : Ticket) (w : Stores) (d : Desc), Taken specNop (.mp w) d s q k → d.quiet = false →
    Answers (.nop (.mp w) d) s fun t =>
      t.mp.completions = s.mp.completions ++ [{ tag := d.tag, opcode := 0, status := stSuccess, result := 0 }] ∧ t.hostMem = s.hostMem

/-! ### Resets and start-up -/

/-- Chip-level resets record their cause and leave the block at its start. CHIP_RESET with its key, a brown-out, RESET_N and a
Goose chip restart set their own bit of GLB_RST_CAUSE, keep the others, and leave the fault state, the queue engine, the
sequencer and the rails as at reset; the start-up stands at step 5, after a brown-out and in one at step 2. (R60, R86, R387, R388, R438,
R439, R440, R441) -/
def Obligations.ResetsRecordCause : Prop :=
  let base := fun (t : State) => t.flt.faultState = false ∧ t.flt.safeN = true ∧ t.qe.running = false ∧ t.evr.open_ = false ∧
    t.seq.state = .empty ∧ t.rc = RailCtl.reset ∧ t.lp.running = false ∧ t.ct.attached = false
  (∀ (s q : State) (k : Ticket) (rq : Requester) (d : Desc), Taken specChipReset rq d s q k → opn d 16 0 32 = 0xC41F0A5E →
    Answers (.chipReset rq d) s fun t => base t ∧ t.glb.rstCause = s.glb.rstCause ||| maskOf 10 8 1 ∧ t.pwr.startStep = 5) ∧
  (∀ s : State, s.pwr.vsysOk = true →
    Answers .brownOut s fun t => base t ∧ t.glb.rstCause = s.glb.rstCause ||| maskOf 10 1 1 ∧ t.pwr.startStep = 2 ∧ t.pwr.vsysOk = false) ∧
  (∀ s : State, s.pwr.resetLow = false → powered s = true →
    Answers .resetN s fun t => base t ∧ t.glb.rstCause = s.glb.rstCause ||| maskOf 10 2 1 ∧
      t.pwr.startStep = (if s.pwr.vsysOk then 5 else 2) ∧ t.pwr.vsysOk = s.pwr.vsysOk ∧ t.pwr.resetLow = true) ∧
  ∀ (s : State) (r : Restart), s.restart = some r →
    (r.waitDown = false ∨ (s.seq.state ≠ .upRunning ∧ s.seq.state ≠ .up ∧ s.seq.state ≠ .downRunning)) →
    Answers .gooseChipRestart s fun t => base t ∧ t.restart = none ∧ t.pwr.startStep = 5 ∧
      t.glb.rstCause = s.glb.rstCause ||| (if r.g0 then maskOf 10 6 1 else 0) ||| (if r.g1 then maskOf 10 7 1 else 0)

/-- The always-on supply goes and comes back: a power-on reset. As the always-on supply goes, PD_AON stops and, where VRTC_OK is
clear, PD_BKP loses its contents; while it is gone a further loss and the rows of the power path change nothing. Back with given
inputs, only POR is set, the path follows the input voltages, and the start-up stands at step 5; PD_BKP has lost its contents
where the supply went in this very row and VRTC_OK was clear. Without the always-on supply the loss of VRTC takes them too, and
with it a loss of VRTC changes nothing but VRTC_OK. (R60, R410, R417, R442, R654) -/
def Obligations.PowerOnReset : Prop :=
  let bkpGone := fun (t : State) => t.pwr.bkpLost = true ∧ t.park = none ∧ t.rtc.timeInvalid = true
  (∀ s : State, powered s = true → Answers (.powerOnReset none) s fun t => powered t = false ∧ t.glb.rstCause = 1 ∧
    t.pwr.startStep = 1 ∧ t.pwr.path = .hold ∧ t.pwr.vsysOk = false ∧ (s.pwr.vrtcOk = false → bkpGone t) ∧
    (s.pwr.vrtcOk = true → t.park = s.park ∧ t.gauge.charge = s.gauge.charge ∧ t.pwr.bkpLost = s.pwr.bkpLost)) ∧
  (∀ (s : State) (c : Instr), powered s = false → (c = .powerOnReset none ∨ (∃ a b, c = .vmainLow a b) ∨ (∃ a b, c = .vmainOv a b) ∨
      (∃ a b, c = .vbakLost a b) ∨ (∃ a b, c = .vbakPresent a b) ∨ (∃ a b u, c = .vmainQualGained a b u) ∨
      (∃ a b, c = .vmainQualLost a b) ∨ (∃ a b u, c = .returnTimerExpiry a b u) ∨ c = .vsysStartAfterBrownOut) → exec c s = .next s) ∧
  (∀ (s : State) (vmain vbak : BitVec 16), Answers (.powerOnReset (some (vmain, vbak))) s fun t =>
    powered t = true ∧ t.glb.rstCause = 1 ∧ t.pwr.startStep = 5 ∧ t.flt.faultState = false ∧ t.seq.state = .empty ∧
    t.pwr.path = (if 900 < vmain.toNat ∧ vbak.toNat + 100 < vmain.toNat ∧ vmain.toNat < 6000 then .main
      else if 750 < vbak.toNat then .bak else .hold) ∧
    (powered s = true → s.pwr.vrtcOk = false → bkpGone t)) ∧
  ∀ (s : State) (ok : Bool), Answers (.vrtcOkChange ok) s fun t => t.pwr.vrtcOk = ok ∧ SameBytes s t ∧
    (powered s = false → ok = false → bkpGone t) ∧ (powered s = true ∨ ok = true → t = setPwr s { s.pwr with vrtcOk := ok })

/-- The balls. At every chip-level reset each signal ball of Table 16-3 takes its reset state. The root-clock override drives
every PWM and STG_EN output low; without PD_REGC the PWM outputs are at high impedance, and with it they follow rail control.
HOST_RST_N is asserted while any of its requesters asserts it. CLKREQ_N is asserted while PD_PCIE is on and released in
retention and off. Without the always-on supply every ball has the level of R654. With debug closed the further JTAG
instructions act as BYPASS. Each of the 256 balls carries a name. The domains draw within the limits of R671, and within R420's
once a save has taken them down. (R39, R40, R55, R314, R359, R420, R556, R648, R652, R654, R671) -/
def Obligations.PinLevels : Prop :=
  let atReset := fun (t : State) => ∀ (b : Ball) (l : Level), b.resetLevel = some l → ballLevel t b = l
  (∀ s : State, s.pwr.vsysOk = true → Answers .brownOut s atReset) ∧
  (∀ s : State, s.pwr.resetLow = false → powered s = true → Answers .resetN s atReset) ∧
  (∀ (s : State) (v : BitVec 16 × BitVec 16), Answers (.powerOnReset (some v)) s atReset) ∧
  (∀ (s q : State) (k : Ticket) (rq : Requester) (d : Desc), Taken specChipReset rq d s q k → opn d 16 0 32 = 0xC41F0A5E →
    Answers (.chipReset rq d) s atReset) ∧
  (∀ s : State, powered s = true → s.flt.rootOverride = true →
    (∀ p, ballLevel s (.pwm p) = .low) ∧ ∀ g, ballLevel s (.stgEn g) = .low) ∧
  (∀ (s : State) (p : Fin 12), powered s = true → s.flt.rootOverride = false →
    ballLevel s (.pwm p) = (if domOn s 10 then (match (phs s p.val).pwm with | .high => .high | .low => .low | .tri => .hiZ) else .hiZ)) ∧
  (∀ s : State, powered s = true → (ballLevel s .hostRstN = .low ↔ (s.seq.hostRst = true ∨ s.seq.wdiPulse = true ∨ s.g0Reset = true)) ∧
    ballLevel s .clkreqN = (if (dom s 5).state = .on then .low else .released) ∧
    (ballLevel s .wakeN = .low ↔ (s.wakePcie = true ∨ s.wakeMp = true)) ∧ (ballLevel s .safeN = .low ↔ s.flt.safeN = true)) ∧
  (∀ (s : State) (b : Ball), powered s = false →
    ballLevel s b = (if b = .gmain ∨ b = .gbak ∨ (∃ h, b = .chgHg h) ∨ (∃ h, b = .chgLg h) then .held
      else if b = .hostRstN ∨ b = .safeN then .released else .hiZ)) ∧
  (∀ (s : State) (i : JtagInstr), jtagActs s i = if i = .further ∧ s.otp.debugOpen = false then .bypass else i) ∧
  (∀ row ∈ ['A', 'B', 'C', 'D', 'E', 'F', 'G', 'H', 'J', 'K', 'L', 'M', 'N', 'P', 'T', 'U'], ∀ col, 1 ≤ col → col ≤ 16 → (ballAt row col).isSome = true) ∧
  (∀ s : State, devicePower s ≤ powerLimit) ∧
  ∀ s : State, (∀ e ∈ saveDoms, (dom s e.1).state = e.2 ∨ (dom s e.1).state = .off) → devicePower s ≤ saveLimit

/-- The steps of the start-up. VSYS_START after a brown-out and the release of RESET_N go on at step 5; an oscillator that does
not start stops the start-up at step 5 with the CLK_CORE loss line asserted; the end of the OTP load ends the start-up with the
OTP values in force, and outside the fault state releases SAFE_N. (R438, R440, R441, R443, R500, R525) -/
def Obligations.StartUp : Prop :=
  (∀ s : State, s.pwr.vsysOk = false → powered s = true → Answers .vsysStartAfterBrownOut s fun t => t.pwr.vsysOk = true ∧ t.pwr.startStep = 5 ∧ SameBytes s t) ∧
  (∀ s : State, s.pwr.resetLow = true → Answers .resetNRelease s fun t =>
    t.pwr.resetLow = false ∧ (s.pwr.vsysOk = true → t.pwr.startStep = 5) ∧ SameBytes s t) ∧
  (∀ (s : State) (m : DomMove), (dom s 3).move = some m → s.pwr.startStep = 5 → m.req.target = .on → m.failed = 0 → m.stage = 2 →
    Answers .oscStartTimeout s fun t => t.pwr.startStep = 7 ∧ (Sparse.get? t.flt.lines 3).isSome = true ∧
      (dom t 3).move = some { m with failed := 2, stage := 4 }) ∧
  ∀ (s : State) (rs : List MarginRead) (un : List (Nat × Nat)), s.pwr.startStep = 6 → domOn s 3 = true → rootAlive s = true → s.glb.otpLoaded = false →
    Answers (.otpLoadComplete rs un) s fun t => t.glb.otpLoaded = true ∧ t.pwr.startStep = 0 ∧
      (t.flt.faultState = false → s.flt.clkSafe = true → t.flt.safeN = false ∧ t.flt.aliveRun = true)

/-! ### PCI Express -/

/-- PERST_N, a link-down and a function-level reset. Each sets its own bit of GLB_RST_CAUSE and keeps the others, stops the
queue engine and forgets its commands, clears OPEN and the function's enables, and leaves the power domains, rails, sequencer,
charger, fault state, every byte of memory and every stored register outside the queue windows. After the first two the link is
down; it stays up through the third, a configuration request, which before the OTP load is answered with a retry. (R60, R92, R93,
R96, R444, R636) -/
def Obligations.PcieResets : Prop :=
  let base := fun (s t : State) => t.qe.running = false ∧ t.qe.inflight = [] ∧ t.qe.cqWait = [] ∧ t.evr.open_ = false ∧
    t.pcie.busMaster = false ∧ t.pcie.msixEnable = false ∧ t.pwr = s.pwr ∧ t.rc = s.rc ∧ t.seq = s.seq ∧ t.chg = s.chg ∧
    t.flt = s.flt ∧ SameBytes s t ∧ ∀ off, (off < 0x1000 ∨ 0x2000 ≤ off) → rd t off = rd s off
  (∀ s : State, s.pcie.perst = false → Answers .perstNAssert s fun t =>
    base s t ∧ t.pcie.perst = true ∧ t.pcie.linkUp = false ∧ t.glb.rstCause = s.glb.rstCause ||| maskOf 10 3 1) ∧
  (∀ (s : State) (rc : Bool), (s.pcie.linkUp = true ∨ s.pcie.training = true) → Answers (.linkDown rc) s fun t =>
    base s t ∧ t.pcie.linkUp = false ∧ t.pcie.refclk = rc ∧ t.pcie.training = (domOn s 5 && !s.pcie.perst && rc) ∧
      t.glb.rstCause = s.glb.rstCause ||| maskOf 10 4 1) ∧
  (∀ s : State, domOn s 5 = true → s.pcie.linkUp = true → s.glb.otpLoaded = true → Answers .functionLevelReset s fun t =>
    base s t ∧ t.pcie.linkUp = true ∧ t.glb.rstCause = s.glb.rstCause ||| maskOf 10 5 1) ∧
  ∀ s : State, domOn s 5 = true → s.pcie.linkUp = true → s.glb.otpLoaded = false →
    exec .functionLevelReset s = .next { s with pcie := { s.pcie with retry := true } }

/-- The link trains, comes up and is configured. Releasing PERST_N lets the link train where PD_PCIE is on and brings PD_PCIE on
where it is off, before the OTP load too; the return of the reference clock starts training; training ends in L0. A
configuration access answers the IDs at offset 0; with all bytes enabled it sets bus mastering, the BARs, D3hot and the MSI-X
enables; with none it changes none of them; before the OTP load it is answered with a retry and changes nothing, and without the
link it is not answered. The places of the
capabilities are the model's (log 102). (R51, R54, R56, R430, R444, R636, R643) -/
def Obligations.LinkComesUp : Prop :=
  (∀ s : State, (dom s 5).state = .on → Answers .perstNRelease s fun t =>
    t.pcie.perst = false ∧ t.pcie.linkUp = s.pcie.linkUp ∧ SameBytes s t ∧
    t.pcie.training = (s.pcie.training || (domOn s 5 && s.pcie.refclk && !s.pcie.linkUp))) ∧
  (∀ s : State, (dom s 5).state = .off → (dom s 5).move = none → mpRising s = true →
    startBarred s 5 = false → Answers .perstNRelease s fun t =>
      t.pcie.perst = false ∧ SameBytes s t ∧ ∃ m, (dom t 5).move = some m ∧ m.req.target = .on ∧ m.stage = 1) ∧
  (∀ s : State, Answers .refclkReturn s fun t => t.pcie.refclk = true ∧ t.pcie.linkUp = s.pcie.linkUp ∧ SameBytes s t ∧
    t.pcie.training = (s.pcie.training || (domOn s 5 && !s.pcie.perst && !s.pcie.linkUp))) ∧
  (∀ (s : State) (speed width : Nat), s.pcie.training = true → domOn s 5 = true → Answers (.linkTrainingComplete speed width) s fun t =>
    t.pcie.linkUp = true ∧ t.pcie.training = false ∧ t.pcie.speed = speed ∧ t.pcie.width = width ∧ t.pcie.perst = s.pcie.perst ∧
    t.mpSram = s.mpSram ∧ t.flash = s.flash) ∧
  (∀ (s : State) (off : BitVec 12) (be : BitVec 4) (w : Word), domOn s 5 = true → s.pcie.linkUp = true → s.glb.otpLoaded = true →
    Answers (.pcieConfigWrite off be w) s fun t => t.pcie.retry = false ∧ t.pcie.msix = s.pcie.msix ∧ t.pcie.linkUp = true ∧ t.pcie.perst = s.pcie.perst ∧
      (off = 0x000 → t.readData = 0x9250F1B0) ∧ (be = 0 → t.pcie.config = s.pcie.config ∧ t.pcie.busMaster = s.pcie.busMaster ∧ t.pcie.d3hot = s.pcie.d3hot) ∧
      (be = 15 → off = 0x004 → t.pcie.busMaster = bitOf w 2 ∧ t.pcie.config.command = w.setWidth 16 &&& 0x0542) ∧
      (be = 15 → off = 0x010 → t.pcie.config.bar0.setWidth 32 = w &&& 0xFFFF0000 ∧ t.readData = (w &&& 0xFFFF0000) ||| 4) ∧
      (be = 15 → off = 0x018 → t.pcie.config.bar2.setWidth 32 = w &&& 0xFFFFF000 ∧ t.readData = (w &&& 0xFFFFF000) ||| 4) ∧
      (be = 15 → off = 0x044 → bitsOf w 0 2 = 3 → t.pcie.d3hot = true) ∧ (be = 15 → off = 0x044 → bitsOf w 0 2 = 0 → t.pcie.d3hot = false) ∧
      (be = 15 → off = 0x0A0 → t.pcie.msixEnable = bitOf w 31 ∧ t.pcie.msixFuncMask = bitOf w 30)) ∧
  ∀ (s : State) (off : BitVec 12) (be : BitVec 4) (w : Word),
    ((domOn s 5 = false ∨ s.pcie.linkUp = false) → exec (.pcieConfigWrite off be w) s = .next s) ∧
    (domOn s 5 = true → s.pcie.linkUp = true → s.glb.otpLoaded = false →
      exec (.pcieConfigWrite off be w) s = .next { s with pcie := { s.pcie with retry := true } })

/-! ### The queue engine -/

/-- The queue engine starts on a valid configuration only. When RUN is written to 1 by a path that reaches QE_CTRL, PERST_N
being released, and the engine does not run: with every enabled queue's LOG2_DEPTH in 4 to 12 and every enabled stream's
LOG2_BUF in 12 to 21 it runs, and every enabled queue starts at index 0 with PHASE 1, an SQ or a stream at tail 0 but for a
recorded doorbell below its depth; a recorded doorbell that R76 refuses there, of a queue that is not enabled too, sets
DOORBELL_ERR. Otherwise START_ERR is set, RUNNING stays 0 and no byte changes. The EQ's own phase and tail may already have
moved by the events that a start of routing delivers, so the first part leaves the EQ's tail and phase out where routing
starts. (R64) -/
def Obligations.QueueEngineStarts : Prop :=
  ∀ (s : State) (via : Via) (w : Stores), let q := hostStores s w
    let ok := fun n => winEnabled q n = true → (4 ≤ fld q (winBase n + 8) 0 4 ∧ fld q (winBase n + 8) 0 4 ≤ 12) ∧
      (9 ≤ n → 12 ≤ fld q (winBase n + 8) 16 5 ∧ fld q (winBase n + 8) 16 5 ≤ 21)
    qeReach q via = true → q.pcie.perst = false → q.qe.running = false →
      ((∀ n, n < 26 → ok n) → Answers (.qeRunStart via w) s fun t => t.qe.running = true ∧ t.qe.startErr = s.qe.startErr ∧
        (∀ n, n < 26 → winEnabled q n = true → (win t n).head = 0 ∧ ((n ≠ 8 ∨ s.evr.open_ = false) → (win t n).phase = true)) ∧
        (∀ n, n < 26 → winEnabled q n = true → n < 4 ∨ 9 ≤ n → (win t n).tail =
          (if (win q n).recorded = true ∧ (win q n).tail.toNat < winDepth q n then (win q n).tail else 0)) ∧
        (∀ n, n < 26 → n ≠ 8 → (win q n).recorded = true → (winEnabled q n = false ∨ (if n < 4 ∨ 9 ≤ n then winDepth q n ≤ (win q n).tail.toNat
          else (win q n).head ≠ 0)) → (win t n).doorbellErr = true) ∧
        (∀ n, 4 ≤ n → n < 8 → winEnabled q n = true → (win t n).tail = 0)) ∧
      ((∃ n, n < 26 ∧ ¬ ok n) → Answers (.qeRunStart via w) s fun t => t.qe.startErr = true ∧ t.qe.running = false ∧ SameBytes q t)

/-- The queue engine stops and fetches. RUN written to 0 stops an engine with no command outstanding and nothing waiting for
host memory at once, every open buffer closed; with commands outstanding it drains and goes on running. While PERST_N is
asserted QE_CTRL stays at reset. A fetch takes the next descriptor of the SQ in turn, into the list of outstanding commands; a
failed one halts the SQ, sets FETCH_ERR and HOST_ACCESS_ERR, leaves the index and posts one completion entry. (R66, R78, R82,
R84, R96) -/
def Obligations.QueueEngineStopsAndFetches : Prop :=
  let known := fun (s : State) => ∀ i ∈ s.qe.inflight, i.opcode ∈ knownOpcodes
  let may := fun (s : State) => domOn s 4 = true ∧ rootAlive s = true ∧ s.qe.running = true ∧ s.qe.stopping = false ∧ canMaster s = true
  (∀ (s : State) (via : Via), qeReach s via = true → s.pcie.perst = false → s.qe.running = true → s.qe.inflight = [] → s.qe.cqWait = [] →
    canMaster s = true → s.pcie.posted = [] →
    Answers (.qeRunStop via) s fun t => t.qe.running = false ∧ t.qe.stopping = false ∧ ∀ m, m < 17 → (strm t m).openBuf = none) ∧
  (∀ (s : State) (via : Via), qeReach s via = true → s.pcie.perst = true → exec (.qeRunStop via) s = .next s ∧ exec (.qeRunStart via []) s = .next s) ∧
  (∀ (s : State) (via : Via), qeReach s via = true → s.pcie.perst = false → s.qe.running = true → s.qe.inflight ≠ [] → known s →
    Answers (.qeRunStop via) s fun t => t.qe.running = true ∧ t.qe.stopping = true ∧ t.qe.inflight = s.qe.inflight ∧ SameBytes s t) ∧
  (∀ (s : State) (n : Fin 4), may s → nextSq s = some n.val → known s →
    let bytes := hostRead s (winAddr s n.val + 64 * (win s n.val).head.toNat) 64
    let desc : BitVec 512 := BitVec.ofNat 512 (leNat bytes)
    bitsOf desc 0 8 ∈ knownOpcodes → Answers (.descriptorFetch false) s fun t =>
      (win t n.val).head = ringNext (winDepth s n.val) (win s n.val).head ∧ (win t n.val).tail = (win s n.val).tail ∧
      t.qe.lastSq = n.val ∧ t.qe.inflight = s.qe.inflight ++
        [{ id := s.qe.nextId, sq := n.val, opcode := bitsOf desc 0 8, desc := desc, dispatched := false }] ∧ SameBytes s t) ∧
  ∀ (s : State) (n : Fin 4), may s → nextSq s = some n.val → Answers (.descriptorFetch true) s fun t =>
    (win t n.val).halted = true ∧ (win t n.val).fetchErr = true ∧ t.qe.hostAccessErr = true ∧ (win t n.val).head = (win s n.val).head ∧
    t.qe.inflight = s.qe.inflight ∧ (win t (4 + n.val)).tail = ringNext (winDepth s (4 + n.val)) (win s (4 + n.val)).tail ∧
    t.mpSram = s.mpSram ∧ t.flash = s.flash

/-- Doorbells. A doorbell that does not reach the queue engine is discarded. While the engine runs, one whose queue is not
enabled, whose value is not below the depth, or which would pass an unwritten entry or take back a held buffer, sets
DOORBELL_ERR and keeps the value; any other is taken. While it is stopped a value is recorded as it is, to be checked at the
start; one longer than an index is refused (the model's choice, log 15). No other queue, and no byte but what the host itself
stored, changes. (R75, R76, R77) -/
def Obligations.Doorbells : Prop :=
  let acts := fun (i : Instr) (s q : State) (w : Nat) (v : Word) (back : Prop) (taken : QWin) =>
    (doorbellReach q = false → exec i s = .next q) ∧
    (doorbellReach q = true → (q.qe.running = false ∧ 4096 ≤ v.toNat ∨
        q.qe.running = true ∧ (winEnabled q w = false ∨ winDepth q w ≤ v.toNat ∨ back)) →
      exec i s = .next (setWin q w { win q w with doorbellErr := true })) ∧
    (doorbellReach q = true → q.qe.running = false → v.toNat < 4096 →
      exec i s = .next (setWin q w { taken with recorded := true, before := if (win q w).recorded then (win q w).before
        else if 4 ≤ w ∧ w < 9 then (win q w).head else (win q w).tail })) ∧
    (doorbellReach q = true → q.qe.running = true → winEnabled q w = true → v.toNat < winDepth q w → ¬ back →
      Answers i s fun t => win t w = taken ∧ (∀ j, j ≠ w → win t j = win q j) ∧ t.hostMem = q.hostMem ∧ t.regs = s.regs ∧
        t.qe.inflight = s.qe.inflight ∧ SameBytes q t)
  (∀ (s : State) (n : Fin 4) (v : Word) (st : Stores), acts (.sqTailDoorbell n v st) s (hostStores s st) n.val v False
    { win s n.val with tail := v.setWidth 12 }) ∧
  (∀ (s : State) (n : Fin 4) (v : Word), acts (.cqHeadDoorbell n v) s s (4 + n.val) v
    (ringDiff (winDepth s (4 + n.val)) (win s (4 + n.val)).tail (win s (4 + n.val)).head <
      ringDiff (winDepth s (4 + n.val)) (v.setWidth 12) (win s (4 + n.val)).head)
    { win s (4 + n.val) with head := v.setWidth 12 }) ∧
  (∀ (s : State) (v : Word), acts (.eqHeadDoorbell v) s s 8 v
    (ringDiff (winDepth s 8) (win s 8).tail (win s 8).head < ringDiff (winDepth s 8) (v.setWidth 12) (win s 8).head)
    { win s 8 with head := v.setWidth 12 }) ∧
  ∀ (s : State) (n : Fin 17) (v : Word), acts (.bufferReturnDoorbell n v) s s (9 + n.val) v
    (ringDiff (winDepth s (9 + n.val)) (v.setWidth 12) (win s (9 + n.val)).head <
      ringDiff (winDepth s (9 + n.val)) (win s (9 + n.val)).tail (win s (9 + n.val)).head)
    { win s (9 + n.val) with tail := v.setWidth 12 }

/-! ### Event routing -/

/-- Writes and reads of event routing. A mask write takes the value; an event it leaves masked stays pending and one it unmasks
does not. A 1 written to a PEND bit discards the occurrence and changes no byte. OPEN takes bit 0. EVR_LAST_LO answers the lower
half of the selected event's last detail and captures the upper. When TIME_US runs out, the vector's count ends and its message
is written, or kept in the PBA where it may not be sent. (R636, R639, R640, R641, R643, R644) -/
def Obligations.EventRoutingRegisters : Prop :=
  (∀ (s : State) (via : Via) (hi : Bool) (w : Word), evrReach s via = true → Answers (.evrMaskWrite via hi w) s fun t =>
    rd t (if hi then 0xB004 else 0xB000) = w ∧ rd t (if hi then 0xB000 else 0xB004) = rd s (if hi then 0xB000 else 0xB004) ∧
    (∀ k, k ≠ 4 → evMasked t k = true → Sparse.get? t.evr.pend k = Sparse.get? s.evr.pend k) ∧
    ∀ k, evMasked t k = false → Sparse.get? t.evr.pend k = none) ∧
  (∀ (s : State) (via : Via) (hi : Bool) (w : Word), evrReach s via = true → Answers (.evrPendClear via hi w) s fun t =>
    SameBytes s t ∧ t.regs = s.regs ∧ t.evr.last = s.evr.last ∧ ∀ k, Sparse.get? t.evr.pend k =
      if (if hi then 32 ≤ k ∧ bitOf w (k - 32) = true else k < 32 ∧ bitOf w k = true) then none else Sparse.get? s.evr.pend k) ∧
  (∀ (s : State) (via : Via) (w : Word), evrReach s via = true → Answers (.evrOpenWrite via w) s fun t =>
    t.evr.open_ = bitOf w 0 ∧ t.qe.running = s.qe.running ∧ t.mpSram = s.mpSram ∧ t.flash = s.flash ∧ t.regs = s.regs) ∧
  (∀ (s : State) (via : Via), via ≠ .sideband → viaReach s via = true → domOn s 4 = true → Answers (.evrLastLoRead via) s fun t =>
    let o := Sparse.getD s.evr.last (fld s 0xB018 0 6) { detail := 0, count := 0 }
    t.readData = o.detail.setWidth 32 ∧ t.evr.lastHi = o.detail.extractLsb' 32 32 ∧ t.evr.last = s.evr.last ∧ SameBytes s t) ∧
  ∀ (s : State) (v : Fin 64), domOn s 4 = true → rootAlive s = true → (Sparse.get? s.evr.coal v.val).isSome = true →
    let e := vget s.pcie.msix v.val MsixEntry.reset
    let may := e.masked = false ∧ s.pcie.msixFuncMask = false ∧ canMaster s = true
    Answers (.coalesceTimeout v) s fun t => t.evr.coal = Sparse.del s.evr.coal v.val ∧ t.mpSram = s.mpSram ∧ t.flash = s.flash ∧
      (s.pcie.msixEnable = true → may →
        t.hostMem = Mem.write ramByte s.hostMem e.addr.toNat (leBytes 4 e.data.toNat) ∧ t.pcie.pba = s.pcie.pba) ∧
      (s.pcie.msixEnable = true → ¬ may → t.hostMem = s.hostMem ∧ t.pcie.pba = s.pcie.pba ||| maskOf 64 v.val 1) ∧
      (s.pcie.msixEnable = false → t.hostMem = s.hostMem ∧ t.pcie.pba = s.pcie.pba)

/-! ### Registers -/

/-- Registers of a power domain that is not on. An access by a path that reaches the device, to an aligned offset whose register
lies in a power domain that is not on: a read answers 0 and a write is discarded, whatever row makes the access. (R15) -/
def Obligations.UnpoweredRegisters : Prop :=
  ∀ (s : State) (via : Via), viaReach s via = true →
    (∀ (off : BitVec 16) (w : Word) (k c : Nat), off.toNat % 4 = 0 → regDomain off.toNat = some k → domOn s k = false →
      exec (.rcFieldRead via false off true c) s = .next { s with readData := 0 } ∧ exec (.registerWrite via false off true w) s = .next s) ∧
    (∀ (w : Word) (hi : Bool), domOn s 4 = false → exec (.detach via w) s = .next s ∧ exec (.oxCommit via w) s = .next s ∧
      exec (.qeRunStop via) s = .next s ∧ exec (.qeRunStart via []) s = .next s ∧ exec (.evrMaskWrite via hi w) s = .next s ∧
      exec (.evrPendClear via hi w) s = .next s ∧ exec (.evrOpenWrite via w) s = .next s) ∧
    (domOn s 4 = false → via ≠ .sideband → exec (.evrLastLoRead via) s = .next { s with readData := 0 }) ∧
    (∀ (w : Word) (n : Fin 8), domOn s 10 = false → exec (.railCommit via n w) s = .next s ∧ exec (.tmonEnWrite via w) s = .next s) ∧
    (∀ w : Word, domOn s 11 = false → exec (.sweepNow via w) s = .next s ∧ exec (.authNow via w) s = .next s ∧
      exec (.chgHold via w) s = .next s ∧ exec (.chgQbLoRead via) s = .next { s with readData := 0 }) ∧
    ∀ (w : Word) (xs : List (Nat × Int)), domOn s 3 = false → exec (.replan via w xs) s = .next s

/-- Reads and writes of registers. An access through PCIe that is no whole aligned doubleword sets ACCESS_ERR and has no other
effect, a read answering 0. A read that reaches a register that answers returns its value, of a Goose period or SEQ_CLOCK where its
counter stands at the read, and changes no byte (the early warning of a Goose 0 period may fall due first); at a read-clear
register it clears the count. GLB_SCRATCH takes a write at once; reserved offsets ignore it and read 0; GLB_RST_CAUSE is cleared
by the host's ones only. A BAR2 access is a doorbell access. At an open debug register a write stops with its own fault, whose
effect the spec leaves to the stepping; a closed one ignores it. (R13, R17, R57, R60, R75, R98, R645, R646) -/
def Obligations.RegisterAccess : Prop :=
  (∀ (s : State) (b2 whole : Bool) (off : BitVec 16) (w : Word) (c : Nat), hostReach s = true → (whole = false ∨ off.toNat % 4 ≠ 0) →
    exec (.registerWrite .host b2 off whole w) s = .next { s with glb := { s.glb with accessErr := true } } ∧
    exec (.rcFieldRead .host b2 off whole c) s = .next { s with glb := { s.glb with accessErr := true }, readData := 0 }) ∧
  (∀ (s : State) (via : Via) (off : BitVec 16) (c : Nat), viaReach s via = true → off.toNat % 4 = 0 → regOn s off.toNat = true →
    (via = .sideband → sbWindow off.toNat % 2 = 1) → Answers (.rcFieldRead via false off true c) s fun t =>
      t.readData = viewReg (clockSeen s off.toNat c) off.toNat ∧ t.regs = s.regs ∧ t.qe.inflight = s.qe.inflight ∧
      ((off.toNat < 0x7100 ∨ 0x7180 ≤ off.toNat) → SameBytes s t ∧ (off.toNat ≠ 0x5010 → t.readData = viewReg s off.toNat)) ∧
      (off = 0x5010 → s.seq.started = true → s.seq.us ≤ c → t.readData = BitVec.ofNat 32 (min (c / 100) 0xFFFFFFFF)) ∧
      (off = 0x7110 → gooseCounts s 0 = true → s.goose0.t ≤ c → c < expiryAt s.goose0 → bitsOf t.readData 0 16 = min (c / 4000) 0xFFFF)) ∧
  (∀ (s : State) (c : Nat), hostReach s = true → Answers (.rcFieldRead .host false 0xE004 true c) s fun t =>
    t.pwr.returns = 0 ∧ t.pwr.switchovers = 0 ∧ bitsOf t.readData 0 16 = s.pwr.switchovers.toNat ∧ bitsOf t.readData 16 16 = s.pwr.returns.toNat) ∧
  (∀ (s : State) (via : Via) (w : Word), via ≠ .sideband → viaReach s via = true → Answers (.registerWrite via false 0x001C true w) s fun t =>
    rd t 0x1C = w ∧ (∀ off, off ≠ 0x1C → rd t off = rd s off) ∧ SameBytes s t ∧ t.pwr = s.pwr ∧ t.rc = s.rc ∧ t.flt = s.flt) ∧
  (∀ (s : State) (via : Via) (off : BitVec 16) (w : Word) (c : Nat), via ≠ .sideband → viaReach s via = true → 0x20 ≤ off.toNat →
    off.toNat < 0x1000 → off.toNat % 4 = 0 → exec (.registerWrite via false off true w) s = .next s ∧
      Answers (.rcFieldRead via false off true c) s fun t => t.readData = 0) ∧
  (∀ (s : State) (via : Via) (w : Word), viaReach s via = true → Answers (.registerWrite via false 0x000C true w) s fun t =>
    t.glb.rstCause = (if via = .host then s.glb.rstCause &&& ~~~ (w.setWidth 10) else s.glb.rstCause) ∧ SameBytes s t ∧ t.regs = s.regs) ∧
  (∀ (s : State) (n : Fin 4) (w : Word) (c : Nat), hostReach s = true →
    exec (.registerWrite .host true (BitVec.ofNat 16 (8 * n.val)) true w) s = exec (.sqTailDoorbell n w []) s ∧
    (domOn s 4 = true → Answers (.rcFieldRead .host true (BitVec.ofNat 16 (8 * n.val)) true c) s fun t =>
      t.readData = (win s n.val).tail.setWidth 32)) ∧
  ∀ (s : State) (via : Via) (off : BitVec 16) (w : Word), via ≠ .sideband → viaReach s via = true → 0xF004 ≤ off.toNat →
    off.toNat % 4 = 0 → exec (.registerWrite via false off true w) s = if s.otp.debugOpen then .fault .debugRegister else .next s

/-- Change classes, and the rows that wait for a cycle boundary. An IDLE field written while its block runs, or once RUN = 1 is
in force, keeps its value and sets CFG_REJECT, which only the host clears; while the block is stopped it takes the value. A
STAGED field goes to its shadow, the value in force staying; LP_CTRL.COMMIT captures the shadow once while cycles run, and takes
effect at once while they do not. LIVE fields of a running link block, of the Ox engine and of the charger wait for the cycle
boundary: LP_RUN, LP_PI_CFG, OX_CTRL and CHG_CTRL add their word to the waiting writes and nothing else takes effect. No byte
changes. (R16, R17, R18, R19, R20, R21, R165, R206, R313, R475) -/
def Obligations.ChangeClasses : Prop :=
  let late := fun (i : Instr) (s : State) (off : Nat) (w : Word) =>
    Answers i s fun t => t.regs.late = s.regs.late ++ [(off, w)] ∧ t.regs.inForce = s.regs.inForce ∧ SameBytes s t ∧ t.chg = s.chg
  (∀ (s : State) (via : Via) (w : Word), via ≠ .sideband → viaReach s via = true →
    (s.lp.running = true ∨ flag s 0x3000 0 = true → Answers (.registerWrite via false 0x300C true w) s fun t =>
      t.lp.cfgReject = true ∧ t.regs = s.regs ∧ SameBytes s t) ∧
    (s.lp.running = false → flag s 0x3000 0 = false → Answers (.registerWrite via false 0x300C true w) s fun t =>
      bitsOf (rd t 0x300C) 0 16 = bitsOf w 0 16 ∧ t.lp = s.lp ∧ SameBytes s t) ∧
    Answers (.registerWrite via false 0x3008 true w) s fun t =>
      t.lp.cfgReject = (if via = .host then s.lp.cfgReject && !bitOf w 1 else s.lp.cfgReject)) ∧
  (∀ (s : State) (via : Via) (w : Word), via ≠ .sideband → viaReach s via = true → Answers (.registerWrite via false 0x3004 true w) s fun t =>
    (∀ off, rd t off = rd s off) ∧ bitsOf (Sparse.getD t.regs.shadow 0x3004 0) 0 7 = bitsOf w 0 7 ∧ SameBytes s t) ∧
  (∀ (s : State) (via : Via) (w : Word), via ≠ .sideband → viaReach s via = true → bitOf w 1 = true → s.lp.running = true →
    Answers (.lpCommit via w) s fun t => t.lp.commit = true ∧ t.regs.shadow = s.regs.shadow ∧ t.regs.inForce = s.regs.inForce ∧
      t.regs.late = s.regs.late ++ [(0x3000, w)] ∧ SameBytes s t ∧
      (s.lp.commit = false → Sparse.get? t.regs.captured 0x3004 = Sparse.get? s.regs.shadow 0x3004) ∧
      (s.lp.commit = true → t.regs.captured = s.regs.captured)) ∧
  (∀ (s : State) (via : Via) (w : Word), via ≠ .sideband → viaReach s via = true → s.lp.running = true → bitOf w 1 = false →
    late (.lpRun via w) s 0x3000 w) ∧
  (∀ (s : State) (via : Via) (w : Word), via ≠ .sideband → viaReach s via = true → s.lp.running = false → bitOf w 1 = false →
    s.regs.late = [] → s.regs.captured = [] → Answers (.lpRun via w) s fun t => flag t 0x3000 0 = bitOf w 0 ∧ (∀ off, off ≠ 0x3000 → rd t off = rd s off) ∧ SameBytes s t) ∧
  (∀ (s : State) (via : Via) (w v : Word), via ≠ .sideband → viaReach s via = true → s.lp.running = false → bitOf w 1 = true →
    s.lp.commit = false → s.regs.late = [] → s.regs.captured = [] → s.regs.shadow = [(0x3004, v)] →
    Answers (.lpCommit via w) s fun t => t.lp.commit = false ∧ bitsOf (rd t 0x3004) 0 7 = bitsOf v 0 7 ∧ flag t 0x3000 0 = bitOf w 0 ∧ SameBytes s t) ∧
  (∀ (s : State) (via : Via) (w : Word), via ≠ .sideband → viaReach s via = true → s.lp.running = true → late (.lpPiCfgWrite via w) s 0x301C w) ∧
  (∀ (s : State) (via : Via) (w : Word), via ≠ .sideband → viaReach s via = true → domOn s 4 = true → rootAlive s = true → bitOf w 1 = true → s.ox.commit = false →
    Answers (.oxCommit via w) s fun t => t.ox.commit = true ∧ t.regs.inForce = s.regs.inForce ∧
      t.regs.late = s.regs.late ++ [(0x2800, w)] ∧ SameBytes s t) ∧
  ∀ (s : State) (via : Via) (w : Word), via ≠ .sideband → viaReach s via = true → domOn s 11 = true → rootAlive s = true →
    late (.sweepNow via w) s 0x6000 w ∧ late (.authNow via w) s 0x6000 w ∧ late (.chgHold via w) s 0x6000 w

/-! ### The sideband port -/

/-- The sideband port's register transactions. SET_POINTER takes an aligned offset of the window and NACKs any other, a code
that Table 2-14 does not list, and (the model's choice, log 107) a length other than 2. REG_DATA reads and writes act on the
register at the pointer as a register access of the sideband path does, move the pointer by 4, and are NACKed outside the
window, on its read-only part and while SB_WRITE_EN is 0; a Block Read returns the byte count, the data and, with packet error
checking, one PEC byte. GLB_SB_REQUEST reads 0. MBX_STATUS reports its five bits; the alert response is answered while MALERT_N
is asserted; a lost root clock, a device without supply or a time-out answers nothing; a wrong PEC byte discards a write. (R61,
R97, R98, R100, R101, R686) -/
def Obligations.SidebandRegisters : Prop :=
  let port := fun (s : State) (p : BitVec 16) (a : Bool) (r : List Byte) =>
    ({ s with sb := { s.sb with pointer := p, acked := a, reply := r } } : State)
  let block := fun (s : State) (r : List Byte) (data : List Byte) =>
    (sbPec s = false → r = BitVec.ofNat 8 data.length :: data) ∧
    (sbPec s = true → r.dropLast = BitVec.ofNat 8 data.length :: data ∧ r.length = data.length + 2)
  (∀ (s : State) (bs : List Byte) (ok : Bool), sbDead s = false → bs.length = 2 → sbWindow (leNat bs) ≠ 0 →
    exec (.setPointer 0x01 bs ok) s = .next (port s (if ok || !sbPec s then BitVec.ofNat 16 (leNat bs) else s.sb.pointer) true [])) ∧
  (∀ (s : State) (code : Byte) (bs : List Byte) (ok : Bool), (sbDead s = true ∨ code ≠ 0x01 ∨ bs.length ≠ 2 ∨ sbWindow (leNat bs) = 0) →
    exec (.setPointer code bs ok) s = .next (port s s.sb.pointer false [])) ∧
  (∀ (s u : State) (bs : List Byte) (ok : Bool), sbDead s = false → bs.length = 4 → 2 ≤ sbWindow s.sb.pointer.toNat →
    flag s 0x0010 0 = true → (ok || !sbPec s) = true →
    exec (.registerWrite .sideband false s.sb.pointer true (BitVec.ofNat 32 (leNat bs))) s = .next u →
    exec (.regDataWrite bs ok) s = .next (port u (s.sb.pointer + 4) true [])) ∧
  (∀ (s : State) (bs : List Byte) (ok : Bool), (sbDead s = true ∨ bs.length ≠ 4 ∨ sbWindow s.sb.pointer.toNat < 2 ∨ flag s 0x0010 0 = false) →
    exec (.regDataWrite bs ok) s = .next (port s s.sb.pointer false [])) ∧
  (∀ (s : State) (c : Nat), sbDead s = false → sbWindow s.sb.pointer.toNat % 2 = 1 → Answers (.regDataRead c) s fun t =>
    let o := s.sb.pointer.toNat
    t.sb.acked = true ∧ t.sb.pointer = s.sb.pointer + 4 ∧ ((o < 0x7100 ∨ 0x7180 ≤ o) → SameBytes s t) ∧
    block s t.sb.reply (leBytes 4 (if regOn s o then (viewReg (clockSeen s o c) o).toNat else 0))) ∧
  (∀ (s : State) (c : Nat), sbDead s = false → s.sb.pointer = 0x18 → Answers (.regDataRead c) s fun t =>
    t.sb.acked = true ∧ t.sb.pointer = 0x1C ∧ t.glb = s.glb ∧ SameBytes s t ∧ block s t.sb.reply [0, 0, 0, 0]) ∧
  (∀ (s : State) (c : Nat), (sbDead s = true ∨ sbWindow s.sb.pointer.toNat = 0) → exec (.regDataRead c) s = .next (port s s.sb.pointer false [])) ∧
  (∀ s : State, sbDead s = false → Answers .mbxStatus s fun t => SameBytes s t ∧ t.sb.pointer = s.sb.pointer ∧ t.sb.acked = true ∧
    ∃ b, t.sb.reply = [b] ∧ bitOf b 0 = s.sb.inMsg.isSome ∧ bitOf b 1 = s.sb.outMsg.isSome ∧ bitOf b 2 = s.pcie.linkUp ∧
      bitOf b 3 = s.flt.faultState ∧ bitOf b 4 = mpRuns s) ∧
  (∀ s : State, sbDead s = false → flag s 0x0010 1 = true → (s.sb.outMsg.isSome = true ∨ (s.sb.alertReq = true ∧ domOn s 3 = true)) →
    exec .alertResponse s = .next (port s s.sb.pointer true [BitVec.ofNat 8 (2 * sbAddress s)])) ∧
  ∀ s : State, exec .smbusTimeout s = .next (port s s.sb.pointer false [])

/-- A sideband write of GLB_SB_REQUEST raises EV60. A sideband write that reaches GLB_SB_REQUEST, by its own row or by REG_DATA
with the pointer at it, stores the value, moves the pointer on, changes no byte of MP SRAM or flash, and raises EV60 with the
value in bits [31:0] of the detail word. (R61) -/
def Obligations.SidebandRequest : Prop :=
  ∀ (s : State) (ok : Bool), sbDead s = false → flag s 0x0010 0 = true → (ok || !sbPec s) = true →
    (∀ w : Word, Answers (.glbSbRequestWrite w ok) s fun t => t.glb.sbRequest = w ∧ EventRaised s t 60 (w.setWidth 64) ∧
      t.sb.pointer = 0x1C ∧ t.sb.acked = true ∧ t.mpSram = s.mpSram ∧ t.flash = s.flash) ∧
    ∀ bs : List Byte, bs.length = 4 → s.sb.pointer = 0x18 → Answers (.regDataWrite bs ok) s fun t =>
      t.glb.sbRequest = BitVec.ofNat 32 (leNat bs) ∧ EventRaised s t 60 (BitVec.ofNat 64 (leNat bs)) ∧ t.sb.pointer = 0x1C ∧ t.sb.acked = true

/-- The mailbox between the sideband port and the MP. A message of 1 to 240 bytes is taken while IN_BUSY is 0 and the MP runs,
and NACKed and discarded otherwise (another length by the model's choice, log 107); the MP takes it and clears IN_BUSY; MBX_OUT
returns the MP's message with its count, or a count of 0, and OUT_READY becomes 0. (R97, R99, R100, R101) -/
def Obligations.Mailbox : Prop :=
  (∀ (s : State) (bs : List Byte) (ok : Bool), sbDead s = false → bs ≠ [] → bs.length ≤ 240 → s.sb.inMsg = none →
    mpRuns s = true → (ok || !sbPec s) = true →
    exec (.mbxIn bs ok) s = .next { s with sb := { s.sb with inMsg := some bs, acked := true, reply := [] } }) ∧
  (∀ (s : State) (bs : List Byte) (ok : Bool), sbDead s = false →
    (s.sb.inMsg.isSome = true ∨ mpRuns s = false ∨ bs = [] ∨ 240 < bs.length) →
    Answers (.mbxIn bs ok) s fun t => t.sb.acked = false ∧ t.sb.inMsg = s.sb.inMsg) ∧
  (∀ s : State, sbDead s = false → s.sb.outMsg = none → sbPec s = false →
    exec .mbxOut s = .next { s with sb := { s.sb with acked := true, reply := [0] } }) ∧
  (∀ (s : State) (m : List Byte), sbDead s = false → s.sb.outMsg = some m → Answers .mbxOut s fun t =>
    t.sb.outMsg = none ∧ t.sb.acked = true ∧ (sbPec s = false → t.sb.reply = BitVec.ofNat 8 m.length :: m) ∧
    (sbPec s = true → t.sb.reply.dropLast = BitVec.ofNat 8 m.length :: m) ∧ SameBytes s t ∧ t.sb.inMsg = s.sb.inMsg) ∧
  (∀ s : State, mpRuns s = true → exec .mpMailboxTake s = .next { s with sb := { s.sb with inMsg := none } }) ∧
  ∀ (s : State) (m : Option (List Byte)) (a : Bool), mpRuns s = true →
    exec (.mpMessagePost m a) s = .next { s with sb := { s.sb with outMsg := if m.isSome then m else s.sb.outMsg, alertReq := a } }

/-! ### Power domains -/

/-- Requests for power domains. POWER_STATE out of range completes with RANGE. PD_AON's codes refuse to leave on, PD_MP refuses
the host, PD_REGC has no retention and refuses off while a rail is busy. A state already in force completes with SUCCESS and the
state. Otherwise the transition starts at its first stage, the state in force staying, the command waiting for its end; a
command that takes PD_CORE or PD_PCIE down completes before its transition starts. PWR_REQn asks in the same way, 3 being
ignored. (R86, R359, R425, R426, R427, R433, R434) -/
def Obligations.PowerDomainRequests : Prop :=
  (∀ (s q : State) (k : Ticket) (rq : Requester) (d : Desc), Taken specPowerState rq d s q k →
    let u := d.target.toNat
    let c := opn d 16 0 8
    let st := fun (c : Nat) => if c = 0 then DomState.on else if c = 1 then .retention else .off
    ((12 < u ∨ 2 < c) → exec (.powerState rq d) s = .next (complete q k stRange 0)) ∧
    (u ≤ 12 → c ≤ 2 →
      (u = 10 → c = 1 → exec (.powerState rq d) s = .next (complete (setDom q u { dom q u with result := 1 }) k stRange 0)) ∧
      (u ≤ 2 → c ≠ 0 → exec (.powerState rq d) s = .next (complete (setDom q u { dom q u with result := 1 }) k stRefused 0)) ∧
      (u = 3 → c ≠ 0 → reqIsMp rq = false → exec (.powerState rq d) s = .next (complete (setDom q u { dom q u with result := 3 }) k stAccessDenied 0)) ∧
      (u = 10 → c = 2 → anyRailBusy q = true →
        exec (.powerState rq d) s = .next (complete (setDom q u { dom q u with result := 1 }) k stRefused 0)) ∧
      (domRefusal q u (st c) (reqIsMp rq) = none → (dom q u).move = none →
        ((dom q u).state = st c → exec (.powerState rq d) s =
          .next (complete (setDom q u { dom q u with req := st c, byMp := reqIsMp rq }) k stSuccess (BitVec.ofNat 64 c))) ∧
        ((dom q u).state ≠ st c → (c = 0 → startBarred q u = false) → Answers (.powerState rq d) s fun t =>
          (dom t u).state = (dom q u).state ∧ (dom t u).req = st c ∧ ∃ m, (dom t u).move = some m ∧ m.req.target = st c ∧
            m.stage = (if c = 0 then 1 else 4) ∧ (c = 0 ∨ (u ≠ 4 ∧ u ≠ 5) → m.req.ticket = some k ∧ SameBytes q t) ∧
            (c ≠ 0 → u = 4 ∨ u = 5 → m.req.ticket = none))))) ∧
  ∀ (s : State) (via : Via) (u : Fin 13) (w : Word), viaReach s via = true → (via = .sideband → flag s 0x0010 0 = true) →
    (via = .mp ∨ mpRising s = true) →
    (bitsOf w 0 2 = 3 → exec (.pwrReqWrite via u w) s = .next s) ∧
    (bitsOf w 0 2 ≠ 3 → let r := domState (bitsOf w 0 2)
      (∀ st code, domRefusal s u.val r (via = .mp) = some (st, code) →
        exec (.pwrReqWrite via u w) s = .next (setDom s u.val { dom s u.val with result := code })) ∧
      (domRefusal s u.val r (via = .mp) = none → (dom s u.val).move = none → (dom s u.val).state ≠ r →
        (r = .on → startBarred s u.val = false) → Answers (.pwrReqWrite via u w) s fun t =>
          (dom t u.val).req = r ∧ ∃ m, (dom t u.val).move = some m ∧ m.req.target = r ∧ m.stage = (if r = .on then 1 else 4)))

/-- The stages of a domain's transition. On the way up each stage that ends sets its ready bit and the fourth ends in on; on the
way down each clears its bit and the last ends in the state asked for. A supply that holds the domain off keeps its REG stage,
and the root-clock override the CLK stage of a root-derived clock. A stage that times out turns the transition round, to off,
and at the CLK stage asserts the CLK_CORE line. (R27, R44, R432, R433, R434, R435, R436) -/
def Obligations.PowerDomainStages : Prop :=
  let bit := fun (d : Domain) (n : Nat) => if n = 1 then d.regRdy else if n = 2 then d.clkRdy else if n = 3 then d.memRdy else d.logicRdy
  (∀ (s : State) (k : Fin 13) (m : DomMove), (dom s k.val).move = some m → m.req.target = .on → m.failed = 0 →
    (m.stage = 1 → heldOff s k.val = false) → (m.stage = 2 → rootDom k.val = true → s.flt.rootOverride = false) →
    (m.stage ∈ [1, 2, 3] → Answers (.domainStageReady k) s fun t => bit (dom t k.val) m.stage = true ∧
      (dom t k.val).move = some { m with stage := m.stage + 1 } ∧ (dom t k.val).state = (dom s k.val).state ∧ SameBytes s t ∧
      (m.stage = 2 → rootDom k.val = true → t.pwr.pllRuns = true)) ∧
    (m.stage = 4 → (dom s k.val).waiting = none → Answers (.domainStageReady k) s fun t =>
      (dom t k.val).state = .on ∧ (dom t k.val).logicRdy = true)) ∧
  (∀ (s : State) (k : Fin 13) (m : DomMove), (dom s k.val).move = some m → (m.req.target ≠ .on ∨ m.failed ≠ 0) →
    (m.stage ∈ [2, 3, 4] → Answers (.domainStageReady k) s fun t => bit (dom t k.val) m.stage = false ∧
      (dom t k.val).move = some { m with stage := m.stage - 1 } ∧ (dom t k.val).state = (dom s k.val).state) ∧
    (m.stage = 1 → (dom s k.val).waiting = none → Answers (.domainStageReady k) s fun t =>
      (dom t k.val).state = (if m.failed ≠ 0 then .off else m.req.target) ∧ (dom t k.val).regRdy = false)) ∧
  ∀ (s : State) (k : Fin 13) (m : DomMove), (dom s k.val).move = some m → m.req.target = .on → m.failed = 0 →
    Answers (.domainStageTimeout k) s fun t => (dom t k.val).move = some { m with failed := m.stage, stage := 4 } ∧
      (dom t k.val).state = (dom s k.val).state ∧ SameBytes s t ∧
      (m.stage = 2 → rootDom k.val = true → (Sparse.get? t.flt.lines 3).isSome = true)

/-- The supervisors of the internal supplies. An under-voltage sets its flag, asserts line 0 and takes every domain it feeds off
at once, a request that waited behind a transition then being run; an over-voltage sets its flag and asserts line 1 and does no more; a recovery lets the domains that no other supply
holds off return to the state asked for. Before the start-up has brought the regulators up they report nothing. (R27, R359,
R414, R415) -/
def Obligations.InternalSupplies : Prop :=
  (∀ (s : State) (i : Fin 8), regulated s = true → bitOf s.pwr.uvNow i.val = false → Answers (.supplyUv i) s fun t =>
    t.pwr.uvFlags = s.pwr.uvFlags ||| maskOf 8 i.val 1 ∧ t.pwr.uvNow = s.pwr.uvNow ||| maskOf 8 i.val 1 ∧
    (Sparse.get? t.flt.lines 0).isSome = true ∧ bitOf t.flt.active 0 = true ∧ t.pwr.path = s.pwr.path ∧
    ∀ k, k ∈ supplyDoms i.val → (dom t k).state = .off ∧ ((dom s k).waiting = none → (dom t k).move = none)) ∧
  (∀ (s : State) (i : Fin 8), regulated s = true → Answers (.supplyOv i) s fun t =>
    t.pwr = { s.pwr with ovFlags := s.pwr.ovFlags ||| maskOf 8 i.val 1 } ∧ (Sparse.get? t.flt.lines 1).isSome = true ∧
    t.regs = s.regs ∧ SameBytes s t) ∧
  (∀ (s : State) (i : Fin 8), regulated s = true → bitOf s.pwr.uvNow i.val = true → Answers (.supplyRecovers i) s fun t =>
    t.pwr.uvNow = s.pwr.uvNow &&& ~~~ maskOf 8 i.val 1 ∧ (t.pwr.uvNow = 0 → bitOf t.flt.active 0 = false) ∧
    ∀ k, k ∈ supplyDoms i.val → (∀ j, j < 8 → j ≠ i.val → bitOf s.pwr.uvNow j = true → k ∉ supplyDoms j) →
      (dom s k).move = none → (dom s k).state = .off → (dom s k).req = .on → startBarred s k = false →
      ∃ m, (dom t k).move = some m ∧ m.req.target = .on ∧ m.stage = 1) ∧
  ∀ (s : State) (i : Fin 8), regulated s = false → exec (.supplyUv i) s = .next s ∧ exec (.supplyOv i) s = .next s ∧ exec (.supplyRecovers i) s = .next s

/-- The power path. From MAIN with VBAK present a low VMAIN or one within the margin gives way to BAK; an over-voltage leaves
MAIN for BAK, or HOLD without VBAK; BAK without VBAK goes to HOLD and HOLD with it to BAK while VMAIN is not qualified;
qualification outside MAIN starts the return timer, which returns to MAIN after 100 ms and not before. Each change counts, and
raises EV43 with the path, the reason and both voltages. A row whose voltages do not reach its threshold changes nothing; the
thresholds stand at their typical values (log 115). (R407, R408, R409, R411, R412) -/
def Obligations.PowerPathChanges : Prop :=
  let moved := fun (s t : State) (dest : Path) (reason : Nat) (vm vb : BitVec 16) => t.pwr.path = dest ∧
    t.pwr.returns = (if dest = .main then satInc s.pwr.returns else s.pwr.returns) ∧
    t.pwr.switchovers = (if dest = .main then s.pwr.switchovers else satInc s.pwr.switchovers) ∧
    EventRaised s t 43 (pack 64 [(0, 2, dest.code), (4, 3, reason), (16, 16, vm.toNat), (32, 16, vb.toNat)])
  let qual := fun (vm vb : BitVec 16) => 900 < vm.toNat ∧ vb.toNat + 100 < vm.toNat ∧ vm.toNat < 6000
  ∀ (s : State) (vm vb : BitVec 16) (us : Nat), powered s = true →
    (s.pwr.path = .main → s.pwr.vbakPresent = true →
      (vm.toNat < 750 → Answers (.vmainLow vm vb) s fun t => moved s t .bak 1 vm vb ∧ t.pwr.vmainQual = false) ∧
      (750 ≤ vm.toNat → vm.toNat < vb.toNat + 50 → Answers (.vmainLow vm vb) s fun t => moved s t .bak 2 vm vb ∧ t.pwr.vmainQual = false)) ∧
    (750 ≤ vm.toNat → vb.toNat + 50 ≤ vm.toNat → exec (.vmainLow vm vb) s = .next s) ∧
    (s.pwr.path = .main → 6200 < vm.toNat → Answers (.vmainOv vm vb) s fun t => t.pwr.vmainOv = true ∧ t.pwr.vmainQual = false ∧
      moved s t (if s.pwr.vbakPresent then .bak else .hold) 3 vm vb ∧ t.pwr.holdByOv = !s.pwr.vbakPresent) ∧
    (s.pwr.path = .bak → s.pwr.vmainQual = false → vb.toNat < 700 → Answers (.vbakLost vm vb) s fun t =>
      moved s t .hold 5 vm vb ∧ t.pwr.vbakPresent = false) ∧
    (s.pwr.path = .main → vb.toNat < 700 → exec (.vbakLost vm vb) s = .next { s with pwr := { s.pwr with vbakPresent := false } }) ∧
    (s.pwr.path = .hold → s.pwr.vbakPresent = false → s.pwr.vmainQual = false → 750 < vb.toNat → Answers (.vbakPresent vm vb) s fun t =>
      moved s t .bak 6 vm vb ∧ t.pwr.vbakPresent = true) ∧
    (700 ≤ vb.toNat → exec (.vbakLost vm vb) s = .next s) ∧ (vb.toNat ≤ 750 → exec (.vbakPresent vm vb) s = .next s) ∧
    (s.pwr.vmainQual = false → qual vm vb → Answers (.vmainQualGained vm vb us) s fun t => t.pwr.vmainQual = true ∧
      t.pwr.path = s.pwr.path ∧ t.pwr.retTiming = decide (s.pwr.path ≠ .main) ∧ t.pwr.retFrom = us ∧ SameBytes s t ∧ t.regs = s.regs) ∧
    (s.pwr.path = .main → ¬ qual vm vb → Answers (.vmainQualLost vm vb) s fun t =>
      t.pwr.vmainQual = false ∧ t.pwr.retTiming = false ∧ t.pwr.path = .main ∧ SameBytes s t) ∧
    (s.pwr.path = .hold → s.pwr.vbakPresent = true → ¬ qual vm vb → Answers (.vmainQualLost vm vb) s fun t =>
      moved s t .bak 6 vm vb ∧ t.pwr.vmainQual = false) ∧
    (s.pwr.path ≠ .main → s.pwr.retTiming = true → s.pwr.vmainQual = true →
      (s.pwr.retFrom + 100000 ≤ us → Answers (.returnTimerExpiry vm vb us) s fun t => moved s t .main 4 vm vb ∧ t.pwr.retTiming = false) ∧
      (us < s.pwr.retFrom + 100000 → exec (.returnTimerExpiry vm vb us) s = .next s))

/-- The save at power-down, checkpoints and the spare. VSYS_SAVE sets SAVE_ACTIVE, turns every NVM request away, starts to take
the listed domains down and begins the save with PD_MP on, anew after one that has ended; its end sets SAVE_DONE. VSYS_START afterwards clears SAVE_ACTIVE. A
checkpoint falls due once in an hour of PD_MP on-time, begins where the spare is ready and is skipped where it is not; the
erased spare is ready again. (R419, R420, R422, R567, R568, R569) -/
def Obligations.Saves : Prop :=
  (∀ (s : State) (fl : Bool), (s.pwr.saveActive = false ∨ s.pwr.saveEnded = true) → regulated s = true → domOn s 3 = true → Answers (.vsysSave fl) s fun t =>
    t.pwr.saveActive = true ∧ t.nvm.busy = none ∧ t.nvm.queue = [] ∧
    (s.nvm.spareReady = true → s.nvm.saving = none → t.nvm.saving = some true) ∧
    ∀ e, e ∈ saveDoms → (dom s e.1).move = none → (dom s e.1).state = .on →
      ∃ m, (dom t e.1).move = some m ∧ m.req.target = e.2 ∧ m.stage = 4) ∧
  (∀ (s : State) (p : Bool), domOn s 3 = true → s.nvm.saving = some p → Answers .saveDone s fun t =>
    t.nvm.saving = none ∧ t.nvm.saves = satInc s.nvm.saves ∧ t.nvm.sseq = s.nvm.sseq + 1 ∧ t.nvm.spareA = !s.nvm.spareA ∧ SameBytes s t ∧
    (p = true → t.pwr.saveDone = true ∧ t.pwr.saveEnded = true) ∧ (p = false → t.pwr = s.pwr ∧ t.nvm.eraseDue = true)) ∧
  (∀ s : State, powered s = true → s.pwr.saveActive = true → s.pwr.saveEnded = true → s.pwr.vsysOk = true → Answers .vsysStartAfterSave s fun t =>
    t.pwr.saveActive = false ∧ ∀ k, k ∈ saveDoms.map Prod.fst → (dom s k).move = none → (dom s k).state = .retention →
      (dom s k).req = .on → heldOff s k = false → startBarred s k = false →
      ∃ m, (dom t k).move = some m ∧ m.req.target = .on ∧ m.stage = 1) ∧
  (∀ s : State, domOn s 3 = true → hourDue s s.mp.hourSave = false → exec .checkpointSave s = .next s) ∧
  (∀ s : State, domOn s 3 = true → rootAlive s = true → s.glb.otpLoaded = true → s.pwr.saveActive = false → s.nvm.saving = none →
    hourDue s s.mp.hourSave = true → (s.nvm.spareReady = true → Answers .checkpointSave s fun t => t.nvm.saving = some false ∧ t.nvm.spareReady = false ∧ SameBytes s t ∧ t.pwr = s.pwr) ∧
    (s.nvm.spareReady = false → Answers .checkpointSave s fun t => t.nvm.saveSkipped = true ∧ t.nvm.eraseDue = true ∧ t.nvm.saving = none ∧
      t.nvm.pages = s.nvm.pages)) ∧
  ∀ s : State, domOn s 3 = true → rootAlive s = true → s.glb.otpLoaded = true → s.nvm.eraseDue = true → s.nvm.saving = none →
    s.pwr.saveActive = false → Answers .spareEraseDone s fun t => t.nvm.spareReady = true ∧ t.nvm.eraseDue = false ∧ SameBytes s t ∧
      ∀ k, k < 16 → (nvPage t (imagePage s.nvm.spareA + k)).a = none ∧ (nvPage t (imagePage s.nvm.spareA + k)).b = none

/-! ### Faults and ALIVE -/

/-- Fault sources latch. An asserted line latches its source: the status bit is set and no other, its detail is kept, the first
latch is recorded, and the class decides: SAFE enters the fault state with SAFE_N asserted, EVENT raises EV50, RECORD does no
more. The lowest asserted source latches first. A latched source does not latch again, the line that an outside source asserts
meanwhile being held, and the line of a domain that is in retention or off reads inactive and latches nothing. Loss of CLK_SAFE latches by the CLK_AON path without a time. ALIVE toggles while it runs. (R24, R43, R48, R488, R489,
R490, R491, R492, R495, R499) -/
def Obligations.FaultLatches : Prop :=
  let latched := fun (s t : State) (k : Nat) (d : Word) => t.flt.status = s.flt.status ||| maskOf 32 k 1 ∧
    Sparse.get? t.flt.details k = some d ∧ t.flt.firstValid = true ∧ t.flt.firstSource = (if s.flt.firstValid then s.flt.firstSource else k) ∧
    t.flt.ovf = (s.flt.ovf || s.flt.firstValid) ∧
    (fltClass s k = 2 → t.flt.faultState = true ∧ (s.flt.faultState = false → t.flt.safeN = true ∧ t.flt.aliveRun = false)) ∧
    (fltClass s k ≠ 2 → t.flt.faultState = s.flt.faultState ∧ t.flt.safeN = s.flt.safeN ∧ t.seq = s.seq ∧ t.rc = s.rc ∧ t.chg = s.chg) ∧
    (fltClass s k = 0 → SameBytes s t ∧ t.evr = s.evr ∧ t.held = s.held)
  let alone := fun (s : State) (k : Nat) => s.flt.firstValid = true ∨ ∀ j, j < k → fltPending s j = none
  (∀ (s : State) (k j : Fin 32) (d x : Word), s.flt.clkSafe = true → s.flt.firstValid = false → alone s j.val → j < k → fltPending s j.val = some d →
    Answers (.faultLatch k x) s fun t => t.flt.firstValid = true ∧ t.flt.firstSource = j.val ∧ bitOf t.flt.status j.val = true) ∧
  (∀ (s : State) (k : Fin 32) (d x : Word), alone s k.val → s.flt.clkSafe = true → bitOf s.flt.status k.val = false → Sparse.get? s.flt.lines k.val = some d →
    lineReads s k.val d = true →
    Answers (.faultLatch k x) s fun t => latched s t k.val d ∧ (fltClass s k.val = 1 → EventRaised { s with flt := t.flt } t 50
      (pack 64 [(0, 5, k.val), (5, 1, b2n (!s.flt.firstValid)), (6, 1, b2n s.flt.faultState), (32, 32, d.toNat)])) ∧
      (s.flt.firstValid = false → t.flt.firstTime = stamp s)) ∧
  (∀ (s : State) (k : Fin 32) (x : Word), alone s k.val → s.flt.clkSafe = true → bitOf s.flt.status k.val = true →
    (Answers (.faultLatch k x) s fun t => t = { s with flt := { s.flt with lines := t.flt.lines } } ∧
      ∀ j, j ≠ k.val → Sparse.get? t.flt.lines j = Sparse.get? s.flt.lines j) ∧
    ((lineReads s k.val x = false ∨ (k.val ∉ outsideSources ∧ k.val ≠ 6)) → exec (.faultLatch k x) s = .next s) ∧
    (k.val ∈ [2, 5, 21, 28] → lineReads s k.val x = true → Sparse.get? s.flt.lines k.val = none → Answers (.faultLatch k x) s fun t =>
      Sparse.get? t.flt.lines k.val = some (x &&& outsideMask k.val))) ∧
  (∀ (s : State) (k : Fin 32) (d x : Word), alone s k.val → s.flt.clkSafe = true → Sparse.get? s.flt.lines k.val = some d → lineReads s k.val d = false →
    lineReads s k.val x = false → exec (.faultLatch k x) s = .next s) ∧
  (∀ s : State, s.flt.clkSafe = true → bitOf s.flt.status 4 = false → Answers (.clkSafeLoss false) s fun t =>
    t.flt.clkSafe = false ∧ t.flt.aliveRun = false ∧ latched s t 4 0 ∧ (s.flt.firstValid = false → t.flt.firstTime = 0)) ∧
  (∀ s : State, s.flt.clkSafe = true → Answers (.clkSafeLoss true) s fun t =>
    (Sparse.get? t.flt.lines 4).isSome = true ∧ t.flt.clkSafe = true ∧ t.flt.status = s.flt.status ∧ SameBytes s t) ∧
  ∀ s : State, s.flt.aliveRun = true → s.flt.clkSafe = true →
    exec .aliveEdge s = .next { s with flt := { s.flt with aliveHigh := !s.flt.aliveHigh } }

/-- Writes of the fault collector, and loss of the root clock. FLT_STATUS is cleared by ones; FIRST_CLR frees FLT_FIRST outside
the fault state and has no effect in it; FLT_TEST with its key asserts line 22; FLT_REACT takes a class that is not lower and
refuses a lower one, setting LOWER_REJECT, sources 7 and 8 staying; without CLK_SAFE none of them does anything. A loss of lock stops the PLL; the CLK_CORE monitor asserts
line 3. No byte changes. (R40, R46, R47, R48, R487, R490, R493) -/
def Obligations.FaultRegisters : Prop :=
  let cls := fun (x : Nat) => if x = 3 then 2 else x
  (∀ (s : State) (via : Via) (hi : Bool) (w : Word), s.flt.clkSafe = false → exec (.fltStatusClear via w) s = .next s ∧
    exec (.firstClr via) s = .next s ∧ exec (.fltTest via w) s = .next s ∧ exec (.fltReactWrite via hi w) s = .next s) ∧
  (∀ (s : State) (via : Via), via ≠ .sideband → viaReach s via = true → s.flt.clkSafe = true →
    (∀ w : Word, exec (.fltStatusClear via w) s = .next { s with flt := { s.flt with status := s.flt.status &&& ~~~ w } }) ∧
    (s.flt.faultState = true → exec (.firstClr via) s = .next s) ∧
    (s.flt.faultState = false → exec (.firstClr via) s =
      .next { s with flt := { s.flt with firstValid := false, firstSource := 0, firstTime := 0, ovf := false } }) ∧
    (∀ w : Word, bitsOf w 16 16 ≠ 0x7E57 → exec (.fltTest via w) s = .next s) ∧
    (∀ w : Word, bitsOf w 16 16 = 0x7E57 → Sparse.get? s.flt.lines 22 = none → Answers (.fltTest via w) s fun t =>
      Sparse.get? t.flt.lines 22 = some (BitVec.ofNat 32 (bitsOf w 0 16)) ∧ t.flt.status = s.flt.status ∧ SameBytes s t ∧ t.regs = s.regs) ∧
    ∀ (hi : Bool) (w : Word), Answers (.fltReactWrite via hi w) s fun t =>
      let off := if hi then 0x7024 else 0x7020
      let fixed := fun j => hi = false ∧ (j = 7 ∨ j = 8)
      let low := fun j => ¬ fixed j ∧ cls (bitsOf w (2 * j) 2) < cls (bitsOf (rd s off) (2 * j) 2)
      (∀ j, j < 16 → (fixed j ∨ low j) → bitsOf (rd t off) (2 * j) 2 = bitsOf (rd s off) (2 * j) 2) ∧
      (∀ j, j < 16 → ¬ fixed j → ¬ low j → bitsOf (rd t off) (2 * j) 2 = bitsOf w (2 * j) 2) ∧
      (t.flt.lowerReject = true ↔ s.flt.lowerReject = true ∨ ∃ j, j < 16 ∧ low j) ∧
      (∀ o, o ≠ off → rd t o = rd s o) ∧ SameBytes s t) ∧
  (∀ s : State, s.pwr.pllRuns = true → exec .pllLossOfLock s =
    .next { s with pwr := { s.pwr with pllRuns := false }, flt := { s.flt with pllFirst := true } }) ∧
  ∀ s : State, (s.pwr.pllRuns = true ∨ s.flt.pllFirst = true) → Sparse.get? s.flt.lines 3 = none → Answers .clkCoreLoss s fun t =>
    t.pwr.pllRuns = false ∧ Sparse.get? t.flt.lines 3 = some (BitVec.ofNat 32 (b2n s.flt.pllFirst)) ∧ SameBytes s t ∧ t.regs = s.regs

/-! ### Goose -/

/-- Goose configurations, check-ins and services. GOOSE_CONFIG by the wrong owner completes with ACCESS_DENIED and beyond
instance 1 or with period 0 with RANGE; the first starts a normal period, a later one in the window is kept for the next period,
and outside the window is REFUSED. A check-in in the mask is recorded, and one twice in a period or of none in it is noted, or a
violation in strict mode; a service with every check-in made, in the window or in a boot period, starts the next period and ends
the escalation. A wrong key, an early service and a missing check-in are violations of their kinds; in the cycle of a violation
nothing more is heeded. No other instance and no
byte of memory changes where there is no violation, but for EV48 of a period that passes its warning cycle on the way. (R89,
R503, R507, R508, R509, R510, R511, R513, R520) -/
def Obligations.GooseServices : Prop :=
  (∀ (s q : State) (k : Ticket) (rq : Requester) (d : Desc) (c : Nat), Taken specGooseConfig rq d s q k →
    let i := d.target.toNat
    let p := opn d 16 0 16
    let m := BitVec.ofNat 16 (opn d 18 0 16)
    (i < 2 → ¬ (i = 1 ↔ reqIsMp rq = true) → exec (.gooseConfig rq d c) s = .next (complete q k stAccessDenied 0)) ∧
    (2 ≤ i → exec (.gooseConfig rq d c) s = .next (complete q k stRange 0)) ∧
    (i < 2 → (i = 1 ↔ reqIsMp rq = true) →
      (p = 0 → exec (.gooseConfig rq d c) s = .next (complete
        (if gooseCounts q i = true ∧ (goose q i).t ≤ c ∧ c < expiryAt (goose q i) then gooseTo q i c else q) k stRange 0)) ∧
      (p ≠ 0 → (goose q i).started = false → Answers (.gooseConfig rq d c) s fun t => (goose t i).started = true ∧ (goose t i).boot = false ∧
        (goose t i).period = p ∧ (goose t i).mask = m ∧ (goose t i).configured = true ∧ (i = 0 → goose t 1 = goose q 1)) ∧
      (p ≠ 0 → (goose q i).started = true → (goose q i).hold = false →
        (gooseCounts q i = true → (goose q i).t ≤ c → windowFrom q (goose q i) ≤ c → c < expiryAt (goose q i) →
          let u := gooseTo q i c
          exec (.gooseConfig rq d c) s = .next (complete (setGoose u i { goose u i with nextPeriod := p, nextMask := m, configured := true, t := c })
            k stSuccess 0)) ∧
        ((c < (goose q i).t ∨ c < windowFrom q (goose q i) ∨ expiryAt (goose q i) ≤ c) →
          exec (.gooseConfig rq d c) s = .next (complete q k stRefused 0))))) ∧
  ∀ (s : State) (i : Fin 2) (c : Nat) (w : Word), let g := goose s i.val
    let u := gooseTo s i.val c
    let h := goose u i.val
    gooseOwner s i.val = true → gooseCounts s i.val = true → g.t ≤ c → c < expiryAt g →
    (g.violated = true → c = 0 → exec (.gooseCheckin i c w) s = .next s ∧ exec (.gooseService i c w) s = .next s) ∧
    ((g.violated = true → 0 < c) →
    let bad := fun (j : Instr) (kind : Nat) => Answers j s fun t => (goose t i.val).violations = satInc g.violations ∧ (goose t i.val).lastViol = kind
    (bitsOf w 16 16 ≠ 0x6005 → bad (.gooseCheckin i c w) 6 ∧ bad (.gooseService i c w) 6) ∧
    (bitsOf w 16 16 = 0x6005 →
      ((g.boot = true ∨ (bitOf g.mask (bitsOf w 0 4) = true ∧ bitOf g.checked (bitsOf w 0 4) = false)) →
        exec (.gooseCheckin i c w) s = .next (setGoose u i.val { h with t := c, checked := h.checked ||| maskOf 16 (bitsOf w 0 4) 1 })) ∧
      (g.boot = false → bitOf g.mask (bitsOf w 0 4) = false →
        (gooseStrict s = false → exec (.gooseCheckin i c w) s = .next (setGoose u i.val { h with t := c, bad := true })) ∧
        (gooseStrict s = true → bad (.gooseCheckin i c w) 5)) ∧
      (g.boot = false → bitOf g.mask (bitsOf w 0 4) = true → bitOf g.checked (bitsOf w 0 4) = true →
        (gooseStrict s = false → exec (.gooseCheckin i c w) s = .next (setGoose u i.val { h with t := c, dup := true })) ∧
        (gooseStrict s = true → bad (.gooseCheckin i c w) 4)) ∧
      (g.boot = false → c < windowFrom s g → bad (.gooseService i c w) 2) ∧
      (g.boot = false → windowFrom s g ≤ c → g.mask &&& ~~~ g.checked ≠ 0 → bad (.gooseService i c w) 3) ∧
      ((g.boot = true ∨ (windowFrom s g ≤ c ∧ g.mask &&& ~~~ g.checked = 0)) → Answers (.gooseService i c w) s fun t =>
        (goose t i.val).services = satInc g.services ∧ (goose t i.val).level = 0 ∧ (goose t i.val).checked = 0 ∧ (goose t i.val).t = 0 ∧
        streak t i.val = 0 ∧ goose t (1 - i.val) = goose s (1 - i.val) ∧ SameBytes u t ∧ t.regs = s.regs ∧
        ((g.boot = false ∨ g.configured = true) → (goose t i.val).period = g.nextPeriod ∧ (goose t i.val).mask = g.nextMask ∧
          (goose t i.val).boot = false))))

/-- What a Goose violation escalates to. A period of Goose 0 that expires first pulses HOST_RST_N, one of Goose 1 first restarts
PD_MP; a second one requests a chip restart while the streak is below the limit, and the final one asserts the instance's own
fault line. Both expiring in one cycle, neither for good, make one chip restart with both causes. The early warning raises EV48 once, at its cycle or on the way to the expiry. The end of a pulse, once its length
has passed (an instant before the last common start counts as passed, log 114), releases HOST_RST_N, and Goose 0 begins a boot
period where nothing else holds it. (R512, R513, R514, R515, R516, R517, R518, R384) -/
def Obligations.GooseEscalations : Prop :=
  let first := fun (s t : State) (i : Nat) => (goose t i).level = 1 ∧ t.ret.resetCount = satInc s.ret.resetCount ∧
    (goose t i).violations = satInc (goose s i).violations ∧ (goose t i).lastViol = 1 ∧
    EventRaised s t 49 (pack 64 [(0, 1, i), (1, 3, if i = 0 then 1 else 3), (4, 3, 1), (8, 3, streak s i),
      (16, 16, (satInc s.ret.resetCount).toNat), (32, 16, (goose s i).checked.toNat)])
  (∀ s : State, gooseCounts s 0 = true → s.goose0.level = 0 → Answers (.goosePeriodExpiry true false) s fun t =>
    first s t 0 ∧ hostRstLow t = true ∧ t.g0Reset = true ∧ t.goose0.hold = true ∧ t.goose1 = s.goose1) ∧
  (∀ s : State, gooseCounts s 1 = true → s.goose1.level = 0 → (dom s 3).move = none → Answers (.goosePeriodExpiry false true) s fun t =>
    first s t 1 ∧ bitOf t.glb.rstCause 9 = true ∧ t.goose0 = s.goose0 ∧
    ∃ m, (dom t 3).move = some m ∧ m.req.target = .off ∧ m.stage = 4 ∧ ((dom t 3).waiting.map fun r => r.target) = some .on) ∧
  (∀ (s : State) (i : Fin 2), gooseCounts s i.val = true → (goose s i.val).level ≠ 0 →
    (streak s i.val < gooseN s → Answers (.goosePeriodExpiry (i.val = 0) (i.val = 1)) s fun t =>
      streak t i.val = streak s i.val + 1 ∧ ∃ r, t.restart = some r ∧ (i.val = 0 → r.g0 = true) ∧ (i.val = 1 → r.g1 = true)) ∧
    (gooseN s ≤ streak s i.val → Answers (.goosePeriodExpiry (i.val = 0) (i.val = 1)) s fun t =>
      (Sparse.get? t.flt.lines (7 + i.val)).isSome = true ∧ (goose t i.val).boot = true ∧ (goose t i.val).t = 0 ∧ t.restart = s.restart)) ∧
  (∀ s : State, gooseCounts s 0 = true → gooseCounts s 1 = true → escalOf s 0 ≠ .final → escalOf s 1 ≠ .final →
    Answers (.goosePeriodExpiry true true) s fun t => (∃ r, t.restart = some r ∧ r.g0 = true ∧ r.g1 = true) ∧
      (∀ i, i < 2 → streak t i = min (streak s i + 1) 7 ∧ (goose t i).violations = satInc (goose s i).violations) ∧
      t.ret.resetCount = satInc s.ret.resetCount) ∧
  (∀ s : State, gooseCounts s 0 = true → s.goose0.warned = false → s.goose0.t ≤ warnAt s.goose0 →
    Answers .gooseEarlyWarning s fun t => t.goose0 = { s.goose0 with warned := true, t := warnAt s.goose0 } ∧ OnlyEvents { s with goose0 := t.goose0 } t ∧
    EventRaised s t 48 (pack 64 [(0, 16, s.goose0.checked.toNat), (16, 16, s.goose0.mask.toNat), (32, 16, s.goose0.period)])) ∧
  (∀ s : State, gooseCounts s 0 = true → s.goose0.warned = false → s.goose0.t ≤ warnAt s.goose0 → 0 < s.goose0.period → s.goose0.level = 0 →
    Answers (.goosePeriodExpiry true false) s fun t =>
      EventRaised s t 48 (pack 64 [(0, 16, s.goose0.checked.toNat), (16, 16, s.goose0.mask.toNat), (32, 16, s.goose0.period)])) ∧
  (∀ (s : State) (us : Nat), s.seq.wdiPulse = true →
    (waited s.seq.pulseAt (1000 * clampN 1 255 (fld s 0x5020 16 8)) us = false → exec (.hostRstNRelease true us) s = .next (seqAt s us)) ∧
    (waited s.seq.pulseAt (1000 * clampN 1 255 (fld s 0x5020 16 8)) us = true → Answers (.hostRstNRelease true us) s fun t => t.seq.wdiPulse = false ∧
      (s.seq.wdiArmed = true → t.seq.wdiDue = some (us + 1000 * wdiFirst s)) ∧ SameBytes s t ∧
      (s.goose0.started = true → s.goose0.hold = true → s.seq.hostRst = false → s.g0Reset = false →
        t.goose0.boot = true ∧ t.goose0.hold = false))) ∧
  ∀ (s : State) (us : Nat), s.g0Reset = true →
    (waited s.g0ResetAt (1000 * clampN 1 255 (fld s 0x7180 16 8)) us = false → exec (.hostRstNRelease false us) s = .next (seqAt s us)) ∧
    (waited s.g0ResetAt (1000 * clampN 1 255 (fld s 0x7180 16 8)) us = true → Answers (.hostRstNRelease false us) s fun t => t.g0Reset = false ∧
      t.seq = (seqAt s us).seq ∧ SameBytes s t ∧ (s.goose0.started = true → s.goose0.hold = true → s.seq.hostRst = false →
        s.seq.wdiPulse = false → t.goose0.boot = true ∧ t.goose0.hold = false))

/-! ### Rails -/

/-- Rail commands and the writes of RAIL_CTRL and RC_CTRL. RAIL_SET_VOLTAGE outside the range completes with RANGE; on a rail
that does not regulate it only takes the target; otherwise it starts a ramp to the target and waits for its end. RAIL_ENABLE on
a sequencer's rail completes with OVERRIDDEN; from OFF it starts the rail where its checks pass, else completes with their
status; off ends at once or after a soft stop. RAIL_MODE waits for a switching cycle. COMMIT captures the shadows once. TMON_EN
= 0 clears the TMON flags; SAFE_STG written in the fault state takes its group's rails off. No command changes another rail.
(R18, R19, R315, R332, R333, R334, R335, R336, R337, R345, R354) -/
def Obligations.RailCommands : Prop :=
  let others := fun (q t : State) (n : Nat) => (∀ j, j ≠ n → rail t j = rail q j)
  (∀ (s q : State) (k : Ticket) (rq : Requester) (d : Desc), Taken specRailSetVoltage rq d s q k →
    let n := d.target.toNat
    let v := opn d 16 0 16
    let slew := opn d 18 0 16
    let q1 := setRail q n { rail q n with target := v }
    ((8 ≤ n ∨ refMvOf q n v < 300 ∨ 1800 < refMvOf q n v ∨ slew = 0 ∨ 200 < slew) →
      exec (.railSetVoltage rq d) s = .next (complete q k stRange 0)) ∧
    (n < 8 → 300 ≤ refMvOf q n v → refMvOf q n v ≤ 1800 → 1 ≤ slew → slew ≤ 200 →
      ((rail q n).state ∈ [.off, .precheck, .stopping, .fault] →
        exec (.railSetVoltage rq d) s = .next (complete q1 k stSuccess (setPoint q1 n))) ∧
      ((rail q n).state = .regulating → targetRef q1 n ≠ (rail q n).ref → Answers (.railSetVoltage rq d) s fun t =>
        (rail t n).state = .slewing ∧ (rail t n).target = v ∧ (rail t n).waitSet = some k ∧ (rail t n).ref = (rail q n).ref ∧
        (rail t n).ramp = some (targetRef q1 n, .cmd slew) ∧ others q t n ∧ SameBytes q t) ∧
      ((rail q n).state = .softstart → (rail q n).waitSet = none → Answers (.railSetVoltage rq d) s fun t =>
        (rail t n).state = .softstart ∧ (rail t n).target = v ∧ (rail t n).waitSet = some k ∧ (rail t n).ramp = some (targetRef q1 n, .ss) ∧
        others q t n ∧ SameBytes q t))) ∧
  (∀ (s q : State) (k : Ticket) (rq : Requester) (d : Desc), Taken specRailEnable rq d s q k →
    let n := d.target.toNat
    (8 ≤ n → exec (.railEnable rq d) s = .next (complete q k stRange 0)) ∧
    (n < 8 → railOwned q n = true → exec (.railEnable rq d) s = .next (complete q k stOverridden 0)) ∧
    (n < 8 → railOwned q n = false → opn d 16 0 1 = 1 →
      ((rail q n).state = .off → startCheck q n = none → q.rc.tmonShdn = false → Answers (.railEnable rq d) s fun t =>
        (rail t n).state = .precheck ∧ (rail t n).waitOn = [k] ∧ (rail t n).bySeq = false ∧ others q t n ∧ SameBytes q t) ∧
      (∀ st, (rail q n).state = .off → startCheck q n = some st → Answers (.railEnable rq d) s fun t =>
        (rail t n).state = .off ∧ (rail t n).waitOn = [] ∧ others q t n ∧ (st = stRefused → t.rc.cfgErr = true)) ∧
      ((rail q n).state ∈ [.precheck, .softstart] → Answers (.railEnable rq d) s fun t =>
        (rail t n).waitOn = (rail q n).waitOn ++ [k] ∧ (rail t n).state = (rail q n).state ∧ others q t n ∧ SameBytes q t) ∧
      ((rail q n).state ∈ [.regulating, .slewing] → exec (.railEnable rq d) s = .next (complete q k stSuccess 1)) ∧
      ((rail q n).state = .fault → exec (.railEnable rq d) s = .next (complete q k stRefused 0))) ∧
    (n < 8 → railOwned q n = false → opn d 16 0 1 = 0 →
      ((rail q n).state = .off → exec (.railEnable rq d) s = .next (complete q k stSuccess 0)) ∧
      ((rail q n).state = .regulating → flag q (railBase n) 16 = true → Answers (.railEnable rq d) s fun t =>
        (rail t n).state = .stopping ∧ (rail t n).waitOff = (rail q n).waitOff ++ [k] ∧ (rail t n).pg = false ∧ others q t n) ∧
      ((rail q n).state = .regulating → flag q (railBase n) 16 = false → Answers (.railEnable rq d) s fun t =>
        (rail t n).state = .off ∧ (rail t n).waitOff = [] ∧ (rail t n).pg = false ∧ others q t n))) ∧
  (∀ (s q : State) (k : Ticket) (rq : Requester) (d : Desc), Taken specRailMode rq d s q k →
    let n := d.target.toNat
    let m := opn d 16 0 8
    let mode : RailMode := if m = 0 then .continuous else if m = 1 then .autoBurst else .diode
    (3 ≤ m → exec (.railMode rq d) s = .next (complete q k stInvalidField 0)) ∧
    (m < 3 → 8 ≤ n → exec (.railMode rq d) s = .next (complete q k stRange 0)) ∧
    (m < 3 → n < 8 → railSwitching q n = true →
      exec (.railMode rq d) s = .next (setRail q n { rail q n with waitMode := (rail q n).waitMode ++ [(k, mode)] })) ∧
    (m < 3 → n < 8 → railSwitching q n = false → (rail q n).waitMode = [] → Answers (.railMode rq d) s fun t =>
      (rail t n).mode = mode ∧ (rail t n).waitMode = [] ∧ others q t n)) ∧
  (∀ (s : State) (via : Via) (n : Fin 8) (w : Word), via ≠ .sideband → viaReach s via = true → domOn s 10 = true →
    rootAlive s = true →
    ((bitOf w 0 = false ∨ (rail s n.val).commit = true) → exec (.railCommit via n w) s = .next s) ∧
    (bitOf w 0 = true → (rail s n.val).commit = false → railSwitching s n.val = true → Answers (.railCommit via n w) s fun t =>
      (rail t n.val).commit = true ∧ others s t n.val ∧ (∀ off, rd t off = rd s off) ∧ SameBytes s t ∧
      ∀ off, railBase n.val ≤ off → off < railBase n.val + 0x80 → Sparse.get? t.regs.captured off = Sparse.get? s.regs.shadow off) ∧
    (bitOf w 0 = true → (rail s n.val).commit = false → railSwitching s n.val = false → Answers (.railCommit via n w) s fun t =>
      (rail t n.val).commit = false ∧ others s t n.val ∧
      ∀ off, railBase n.val ≤ off → off < railBase n.val + 0x80 → Sparse.get? t.regs.captured off = none)) ∧
  ∀ (s : State) (via : Via) (w : Word), via ≠ .sideband → viaReach s via = true → domOn s 10 = true → rootAlive s = true →
    let u := liveNow 0x4000 w s
    Answers (.tmonEnWrite via w) s fun t => flag t 0x4000 0 = bitOf w 0 ∧
      (bitOf w 0 = false → t.rc.tmonWarn = false ∧ t.rc.tmonShdn = false ∧ t.rc.tmonLost = false) ∧
      (s.flt.faultState = false → (∀ off, off ≠ 0x4000 → rd t off = rd s off) ∧ SameBytes s t ∧ t.rc.rails = s.rc.rails ∧
        (bitOf w 0 = true → t.rc = s.rc)) ∧
      (s.flt.faultState = true → ∀ n, n < 8 →
        (railStgSafe u n = true → (rail t n).state = .off) ∧ (railStgSafe u n = false → rail t n = rail s n))

/-- A rail's way from its start to its stop. The pre-start check, once its time has passed, ends in SOFTSTART from the voltage
found, or in FAULT where a high-side switch conducts; the reference reaches the target; 16 µs within the band make the rail
regulate, complete the waiting enables and raise the rail's event, and 16 µs outside lose PG; a start without PG by SS_TIMEOUT
faults; a stop ends in OFF with every phase off; a slew ends in regulation at the target. No other rail changes. (R326, R327,
R328, R329, R330, R331, R333, R335, R355) -/
def Obligations.RailSequence : Prop :=
  let others := fun (s t : State) (n : Nat) => (∀ j, j ≠ n → rail t j = rail s j)
  let ev := fun (s : State) (n kind state : Nat) (m : RailMeas) =>
    (pack 64 [(0, 4, kind), (8, 12, phaseMask s n), (20, 3, state), (32, 16, m.mv.toNat), (48, 16, m.ia.toNat)] : DWord)
  ∀ (s : State) (n : Fin 8), let r := rail s n.val
    (∀ (vpre ia : BitVec 16) (c us : Nat) (xs : List (Nat × List Nat)), r.state = .precheck →
      (r.preCycles < decisionAt s n.val → exec (.railPrestartDecision n vpre ia c us xs) s = .next s) ∧
      (decisionAt s n.val ≤ r.preCycles → (∀ e ∈ xs, ∀ v ∈ e.2, v * 1000 ≤ rfld s n.val 0x28 0 12 500 4000 * 1000) →
        Answers (.railPrestartDecision n vpre ia c us xs) s fun t => (rail t n.val).state = .softstart ∧ others s t n.val ∧ SameBytes s t ∧
          (targetRef s n.val ≤ (vpre.toNat : Rat) / 1000 → (rail t n.val).ref = targetRef s n.val ∧ (rail t n.val).reachedTarget = true ∧
            (rail t n.val).preHold = decide (targetRef s n.val < (vpre.toNat : Rat) / 1000)) ∧
          ((vpre.toNat : Rat) / 1000 < targetRef s n.val → (rail t n.val).ref = (vpre.toNat : Rat) / 1000 ∧
            (rail t n.val).ramp = some (targetRef s n.val, .ss)))) ∧
    (∀ (vpre ia : BitVec 16) (c us p : Nat) (vs : List Nat), r.state = .precheck → decisionAt s n.val ≤ r.preCycles → p ∈ railPhases s n.val →
      12 ≤ countIf (fun v => max (rfld s n.val 0x28 0 12 500 4000 * 1000) (vpre.toNat * divRatio s n.val + 1000000) < v * 1000) vs →
      Answers (.railPrestartDecision n vpre ia c us [(p, vs)]) s fun t => (rail t n.val).state = .fault ∧ (rail t n.val).reason = 1 ∧
        (rail t n.val).faultMv = vpre.toNat ∧ (rail t n.val).faultPhases = 2 ^ p ∧ others s t n.val ∧
        (Sparse.get? t.flt.lines (if 4 ≤ n.val then 14 else 13)).isSome = true) ∧
    (r.state = .softstart → r.ramp ≠ none →
      (r.ref = targetRef s n.val → exec (.railRefAtTarget n) s = .next (setRail s n.val { r with ramp := none, reachedTarget := true })) ∧
      (r.ref ≠ targetRef s n.val → exec (.railRefAtTarget n) s = .next s)) ∧
    (∀ m : RailMeas, r.state = .softstart → r.pg = false → pgCycles ≤ r.pgIn → r.ref = targetRef s n.val →
      Answers (.railPgGained n m) s fun t => (rail t n.val).state = .regulating ∧ (rail t n.val).pg = true ∧ (rail t n.val).waitOn = [] ∧
        (rail t n.val).waitSet = none ∧ others s t n.val ∧ EventRaised s t (32 + n.val) (ev s n.val 1 3 m)) ∧
    (∀ m : RailMeas, (r.state = .regulating ∨ r.state = .slewing) → r.pg = false → pgCycles ≤ r.pgIn →
      Answers (.railPgGained n m) s fun t => (rail t n.val).state = r.state ∧ (rail t n.val).pg = true ∧ others s t n.val ∧
        EventRaised s t (32 + n.val) (ev s n.val 1 r.state.code m)) ∧
    (∀ m : RailMeas, (r.state = .regulating ∨ r.state = .slewing) → r.pg = true → pgCycles ≤ r.pgOut →
      Answers (.railPgLost n m) s fun t => (rail t n.val).pg = false ∧ (rail t n.val).state = r.state ∧ others s t n.val ∧
        EventRaised s t (32 + n.val) (ev s n.val 2 r.state.code m)) ∧
    (∀ m : RailMeas, (r.pg = true ∨ r.pgIn < pgCycles → exec (.railPgGained n m) s = .next s) ∧
      (r.pgOut < pgCycles → exec (.railPgLost n m) s = .next s)) ∧
    (∀ m : RailMeas, r.state = .softstart → r.reachedTarget = true → 100 * usCycles * rfld s n.val 0x1C 16 16 1 65535 ≤ r.sinceTarget →
      Answers (.railStartTimeout n m) s fun t => (rail t n.val).state = .fault ∧ (rail t n.val).reason = 6 ∧
        (rail t n.val).faultMv = m.mv.toNat ∧ others s t n.val ∧ (Sparse.get? t.flt.lines (if 4 ≤ n.val then 12 else 11)).isSome = true) ∧
    (r.state = .stopping → r.ref = 0 → r.after = .stay → Answers (.railStopDone n) s fun t => (rail t n.val).state = .off ∧
      (rail t n.val).ref = 0 ∧ (rail t n.val).waitOff = [] ∧ others s t n.val ∧ ∀ p, p ∈ railPhases s n.val → (phs t p).pwm = .tri) ∧
    (r.state = .stopping → r.ref ≠ 0 → exec (.railStopDone n) s = .next s) ∧
    (r.state = .slewing → r.ramp ≠ none → r.ref = targetRef s n.val → Answers (.railSlewDone n) s fun t => (rail t n.val).state = .regulating ∧
      (rail t n.val).ref = r.ref ∧ (rail t n.val).waitSet = none ∧ (rail t n.val).pg = r.pg ∧ others s t n.val)

/-- Protections of the rails. Over-voltage for 1 µs faults a busy rail and drives its phases low until the drive ends; under-
voltage for UV_TIME faults a regulating one, and its line is asserted too where the rail entered FAULT in the same cycle, the
lower reason standing; a current limit held for 1 ms raises the rail's event once; phases that fail are shed, and the rail
faults below its least number; TMON warns, shuts every busy rail down and reports a loss after 1 ms, and its flags clear below their
thresholds, the loss after 1 ms there. Faults assert the line of their kind and half. (R342, R343, R344, R345, R346, R347, R349, R350, R351, R355) -/
def Obligations.RailProtections : Prop :=
  let line := fun (t : State) (k : Nat) => (Sparse.get? t.flt.lines k).isSome = true
  (∀ (s : State) (n : Fin 8), let r := rail s n.val
    (∀ m : RailMeas, railBusy r = true →
      (r.ovRun < usCycles → exec (.railOv n m) s = .next s) ∧
      (usCycles ≤ r.ovRun → Answers (.railOv n m) s fun t =>
        (rail t n.val).state = .fault ∧ (rail t n.val).reason = 2 ∧ (rail t n.val).faultMv = m.mv.toNat ∧ (rail t n.val).pg = false ∧
        (rail t n.val).ovLow = true ∧ line t (if 4 ≤ n.val then 10 else 9) ∧ (∀ p, p ∈ railPhases s n.val → (phs t p).pwm = .low) ∧
        ∀ j, j ≠ n.val → rail t j = rail s j)) ∧
    (r.state = .fault → r.ovLow = true →
      ((2 * r.vs < 1000 * (r.faultMv : Int) ∨ msCycles ≤ r.lowCycles) → Answers (.railOvDriveEnd n) s fun t =>
        rail t n.val = { r with ovLow := false } ∧ (∀ p, p ∈ railPhases s n.val → (phs t p).pwm = .tri) ∧
        (∀ j, j ≠ n.val → rail t j = rail s j) ∧ t.flt = s.flt ∧ SameBytes s t) ∧
      (1000 * (r.faultMv : Int) ≤ 2 * r.vs → r.lowCycles < msCycles → exec (.railOvDriveEnd n) s = .next s)) ∧
    (∀ m : RailMeas, (r.state = .regulating ∨ r.state = .slewing) →
      (r.uvRun < usCycles * rfld s n.val 0x14 20 8 1 255 → exec (.railUv n m) s = .next s) ∧
      (usCycles * rfld s n.val 0x14 20 8 1 255 ≤ r.uvRun → Answers (.railUv n m) s fun t =>
        (rail t n.val).state = .fault ∧ (rail t n.val).reason = 4 ∧ line t (if 4 ≤ n.val then 12 else 11) ∧
        ∀ j, j ≠ n.val → rail t j = rail s j)) ∧
    (∀ m : RailMeas, r.state = .fault → r.faultCycle = some m.cycle → (r.faultFrom = .regulating ∨ r.faultFrom = .slewing) →
      usCycles * rfld s n.val 0x14 20 8 1 255 ≤ r.uvRun → Answers (.railUv n m) s fun t => (rail t n.val).state = .fault ∧
        (rail t n.val).reason = min r.reason 4 ∧ line t (if 4 ≤ n.val then 12 else 11) ∧ ∀ j, j ≠ n.val → rail t j = rail s j) ∧
    (∀ m : RailMeas, railSwitching s n.val = true → r.ilimActive = true → r.ilimRaised = false → msCycles ≤ r.ilimHeld →
      Answers (.railIlim n m) s fun t => t.rc = (setRail s n.val { r with ilimRaised := true }).rc ∧
        OnlyEvents (setRail s n.val { r with ilimRaised := true }) t ∧ EventRaised s t (32 + n.val)
          (pack 64 [(0, 4, 5), (8, 12, phaseMask s n.val), (20, 3, r.state.code), (32, 16, m.mv.toNat), (48, 16, m.ia.toNat)])) ∧
    ∀ m : RailMeas,
      let act := (activePhases s n.val).filter fun p => decide (8 ≤ (phs s p).openRun) || decide (8 ≤ (phs s p).senseRun)
      (r.state = .regulating ∨ r.state = .slewing) → r.burst = false →
      (act = [] → exec (.phaseShed n m) s = .next s) ∧
      (act ≠ [] → Answers (.phaseShed n m) s fun t =>
        (∀ p, p ∈ act → (phs t p).shed = true ∧ (phs t p).pwm = .tri ∧ (phs t p).bal = 0 ∧
          (phs t p).shedReason = if 8 ≤ (phs s p).openRun then 1 else 2) ∧
        (rail t n.val).sheds = satAdd r.sheds act.length ∧ (∀ j, j ≠ n.val → rail t j = rail s j) ∧
        ((activePhases s n.val).length - act.length < minPhases s n.val →
          (rail t n.val).state = .fault ∧ (rail t n.val).reason = 5 ∧ line t (if 4 ≤ n.val then 12 else 11)) ∧
        (minPhases s n.val ≤ (activePhases s n.val).length - act.length → (rail t n.val).state = r.state))) ∧
  ∀ (s : State) (mv : BitVec 16) (us : Nat), domOn s 10 = true → flag s 0x4000 0 = true → let c := tmonTemp mv.toNat
    (s.rc.tmonWarn = false → tmonWarnAt s ≤ c → Answers (.tmonWarn mv) s fun t =>
      OnlyEvents { s with rc := { s.rc with tmonWarn := true, temp := c } } t) ∧
    (∀ cy : Nat, s.rc.tmonShdn = false → (tmonShdnAt s ≤ c ∨ 2500 < mv.toNat) → Answers (.tmonShutdown mv cy us) s fun t =>
      t.rc.tmonShdn = true ∧ t.rc.temp = c ∧ ∀ n, n < 8 →
        (railBusy (rail s n) = true → (rail t n).state = .fault ∧ (rail t n).reason = 3 ∧ line t (if 4 ≤ n then 12 else 11)) ∧
        (stateAt (rail s n) cy ∈ [.off, .fault] → rail t n = rail s n)) ∧
    ((us < 1000 ∨ 300 ≤ mv.toNat) → exec (.tmonLost mv us) s = .next s) ∧
    (s.rc.tmonLost = false → mv.toNat < 300 → 1000 ≤ us → Answers (.tmonLost mv us) s fun t =>
      OnlyEvents { s with rc := { s.rc with tmonLost := true, temp := c } } t) ∧
    exec (.tmonClear mv us) s = .next { s with rc := { s.rc with
      temp := c, tmonWarn := s.rc.tmonWarn && !decide (c < tmonWarnAt s - 100),
      tmonShdn := s.rc.tmonShdn && !(decide (c < tmonShdnAt s - 100) && decide (mv.toNat ≤ 2500)),
      tmonLost := s.rc.tmonLost && !(decide (300 ≤ mv.toNat) && decide (1000 ≤ us)) } }

/-- The regulation loop, burst and telemetry. A cycle of the loop keeps the integrator within 50 mV and the blanking at or above
0, moves the reference only along a ramp, and a phase newly pulsed is an active one driven high; a waiting mode and a commit
take effect with the switching cycle that begins, and wait while none may begin. The frequency trim moves its
factor by a twentieth of the error, within 10 %, where its conditions held. Burst is entered below BURST_ENTER, left at
BURST_EXIT or after 64 pulses, and sleeps and wakes at its two voltages. The 1 ms renewal takes the means, those of a rail that
does not switch reading 0. (R319, R320, R321, R323, R339, R342, R356, R357) -/
def Obligations.RailLoop : Prop :=
  ∀ (s : State) (n : Fin 8), let r := rail s n.val
    (∀ x : RailSample, x.cycles = 1 → railSwitching s n.val = true → domOn s 10 = true → rootAlive s = true → r.asleep = false →
      s.regs.late = [] → s.regs.captured = [] → (r.state = .stopping → flag s (railBase n.val) 16 = true) →
      Answers (.railPulse n [x]) s fun t => (rail t n.val).vs = x.vs ∧
        ((rail t n.val).msPulses ≠ r.msPulses → (rail t n.val).commit = false ∧ (rail t n.val).waitMode = []) ∧
        (r.blank ≠ 0 → (rail t n.val).commit = r.commit ∧ (rail t n.val).waitMode = r.waitMode) ∧
        (-1 / 20 : Rat) ≤ (rail t n.val).vInt ∧ (rail t n.val).vInt ≤ 1 / 20 ∧ 0 ≤ (rail t n.val).blank ∧
        (r.ramp = none → (rail t n.val).ref = r.ref) ∧ (r.blank ≠ 0 → (rail t n.val).lastPhase = r.lastPhase) ∧
        ((rail t n.val).lastPhase ≠ r.lastPhase → ∃ p, (rail t n.val).lastPhase = some p ∧ p ∈ activePhases s n.val ∧ (phs t p).pwm = .high) ∧
        ∀ j, j ≠ n.val → rail t j = rail s j) ∧
    (let f : Rat := (fswKhz s n.val : Nat)
      let act := (activePhases s n.val).length
      let z : Rail := { r with trimCycles := 0, trimPulses := 0, trimOk := true }
      (r.trimCycles < msCycles → exec (.railFreqTrim n) s = .next s) ∧
      (msCycles ≤ r.trimCycles → r.trimOk = false → exec (.railFreqTrim n) s = .next (setRail s n.val z)) ∧
      (msCycles ≤ r.trimCycles → r.trimOk = true → act ≠ 0 → exec (.railFreqTrim n) s = .next (setRail s n.val
        { z with kf := clampQ (-1 / 10) (1 / 10) (r.kf + 1 / 20 * ((r.trimPulses : Rat) / (act : Nat) - f) / f) }))) ∧
    (railSwitching s n.val = true → r.mode = .autoBurst → continuousNow r = false → r.reachedTarget = true → r.ramp = none →
      r.burst = false → r.pulseCur.length = 64 → 10 * r.pulseCur.foldl (· + ·) 0 / 64 < (burstEnter s n.val : Rat) → exec (.railBurstEnter n) s =
        .next (setRail s n.val { r with burst := true, asleep := false, burstPulses := 0, burstNow := (0, 0), burstLast := none })) ∧
    (r.burst = true → ((∃ q d, r.burstLast = some (q, d) ∧ 0 < d ∧ (burstExit s n.val : Rat) ≤ 10 * q / (d : Rat)) ∨ 64 < r.burstPulses) →
      exec (.railBurstExit n) s = .next (setRail s n.val { r with burst := false, asleep := false })) ∧
    (∀ mv : BitVec 16, r.burst = true → r.asleep = false → r.ref * 1000 + (rfld s n.val 0x20 24 8 2 40 : Rat) ≤ (mv.toNat : Rat) →
      Answers (.railBurstSleep n mv) s fun t => rail t n.val = { r with asleep := true } ∧ (∀ j, j ≠ n.val → rail t j = rail s j) ∧
        (∀ p, p ∈ activePhases s n.val → (phs t p).pwm = .tri) ∧ SameBytes s t ∧ t.regs = s.regs) ∧
    (∀ mv : BitVec 16, r.burst = true → r.asleep = true → (mv.toNat : Rat) < r.ref * 1000 → exec (.railBurstWake n mv) s =
      .next (setRail s n.val { r with asleep := false, burstPulses := 0, burstLast := some r.burstNow, burstNow := (0, 0) })) ∧
    ∀ tmon : BitVec 16, domOn s 10 = true →
      (r.msCycles < msCycles → exec (.railTelemetryRenew n tmon) s = .next s) ∧
      (msCycles ≤ r.msCycles → Answers (.railTelemetryRenew n tmon) s fun t => t.rc.temp = tmonTemp tmon.toNat ∧
        (rail t n.val).voutMv = (roundQ ((r.msVs : Rat) * (divRatio s n.val : Nat) / 1000000 / (r.msCycles : Nat))).toNat ∧
        (railSwitching s n.val = true → (rail t n.val).iout = roundQ (10 * r.msCur / (r.msCycles : Nat)) ∧
          ∀ p, p ∈ railPhases s n.val → (phs t p).iPh = roundQ (10 * (phs s p).msCur / (r.msCycles : Nat)) ∧
            (phs t p).fswKhz = (phs s p).msPulses) ∧
        (railSwitching s n.val = false → (rail t n.val).iout = 0 ∧ (rail t n.val).fswMeas = 0 ∧
          ∀ p, p ∈ railPhases s n.val → (∀ j, j < 8 → j ≠ n.val → railSwitching s j = true → (phaseMask s j).testBit p = false) →
            (phs t p).iPh = 0 ∧ (phs t p).fswKhz = 0) ∧
        (rail t n.val).ilimMs = (if r.ilimActive then satInc r.ilimMs else r.ilimMs) ∧ (rail t n.val).state = r.state ∧
        (rail t n.val).msCycles = 0 ∧ (∀ j, j ≠ n.val → rail t j = rail s j) ∧ SameBytes s t ∧ t.regs = s.regs ∧ t.flt = s.flt)

/-! ### The sequencer and WDI -/

/-- Sequencer commands by state. A follower refuses SEQ_UP and SEQ_DOWN. SEQ_UP is refused without a table, starts an up
sequence in DOWN with every member waiting, joins one that runs, completes at once in UP, is held behind a down sequence and
completes with FAULT_STATE in SAFE; it returns the retry count to 0. SEQ_DOWN completes at once where there is nothing to take
down, with OVERRIDDEN in SAFE, and otherwise abandons the up and starts the down. SEQ_LOAD completes with the first failing
check and leaves the table, or installs it in state DOWN. (R362, R363, R365, R366, R370, R374, R376, R377, R378, R381) -/
def Obligations.SequencerCommands : Prop :=
  (∀ (s q : State) (k : Ticket) (rq : Requester) (d : Desc), Taken specSeqUp rq d s q k →
    let z : State := { q with seq := { q.seq with retries := 0 } }
    (flkRole q = 2 → exec (.seqUp rq d) s = .next (complete q k stRefused 0)) ∧
    (flkRole q ≠ 2 →
      (q.seq.state = .empty → exec (.seqUp rq d) s = .next (complete z k stRefused 0)) ∧
      (q.seq.state = .down → flkRole q = 0 → q.flk.job ≠ .arming → (hasRailMember q = true → domOn q 10 = true) →
        (∃ i, i < 16 ∧ member q i ≠ none) → Answers (.seqUp rq d) s fun t => t.seq.state = .upRunning ∧ t.seq.ups = q.seq.ups ++ [k] ∧
          t.seq.retries = 0 ∧ t.seq.started = true ∧ t.seq.failed = 0 ∧ t.rc = q.rc ∧ SameBytes q t ∧
          ∀ i m, member t i = some m → m.state = .waitOn ∧ m.slot = false ∧ m.on = false) ∧
      (q.seq.state = .upRunning → exec (.seqUp rq d) s = .next { z with seq := { z.seq with ups := q.seq.ups ++ [k] } }) ∧
      (q.seq.state = .up → q.flk.job ≠ .up → exec (.seqUp rq d) s = .next (complete z k stSuccess (BitVec.ofNat 64 (membersOn q)))) ∧
      (q.seq.state = .downRunning →
        exec (.seqUp rq d) s = .next { z with seq := { z.seq with held := true, heldTickets := q.seq.heldTickets ++ [k] } }) ∧
      (q.seq.state = .safe → exec (.seqUp rq d) s = .next (complete z k stFaultState 0)))) ∧
  (∀ (s q : State) (k : Ticket) (rq : Requester) (d : Desc), Taken specSeqDown rq d s q k →
    (flkRole q = 2 → exec (.seqDown rq d) s = .next (complete q k stRefused 0)) ∧
    (flkRole q ≠ 2 →
      (q.seq.state = .empty → exec (.seqDown rq d) s = .next (complete q k stSuccess 0)) ∧
      (q.seq.state = .safe → exec (.seqDown rq d) s = .next (complete q k stOverridden 0)) ∧
      ((q.seq.state = .up ∨ q.seq.state = .upRunning) → flkRole q = 0 → (∃ i m, i < 16 ∧ member q i = some m ∧ m.state ∈ [.on, .inSlot, .failed]) →
        Answers (.seqDown rq d) s fun t => t.seq.state = .downRunning ∧ t.seq.downs = q.seq.downs ++ [k] ∧ t.seq.ups = [] ∧ t.rc = q.rc ∧
          t.seq.offTimeout = 0 ∧ ∀ i m, i < 16 → member q i = some m → ∃ m', member t i = some m' ∧ m'.slot = false ∧
            m'.state = (if m.state = .off ∨ m.state = .waitOn then .off else if m.state = .unused then .unused else .waitOff)))) ∧
  ∀ (s q : State) (k : Ticket) (rq : Requester) (d : Desc), Taken specSeqLoad rq d s q k →
    let bs := cmdRead q rq d.addr.toNat 512
    exec (.seqLoad rq d true) s = .next (complete q k stHostAccess 0) ∧
    (∀ st, seqParse bs = .error st → exec (.seqLoad rq d false) s = .next (complete q k st 0)) ∧
    (∀ ms, seqParse bs = .ok ms → seqLoadRefused q ms = true → exec (.seqLoad rq d false) s = .next (complete q k stRefused 0)) ∧
    ∀ ms, seqParse bs = .ok ms → seqLoadRefused q ms = false → Answers (.seqLoad rq d false) s fun t => t.seq.state = .down ∧
      t.seq.tableCrc = BitVec.ofNat 32 (leField bs 28 4) ∧ (∀ i, i < 16 → (member t i).map Member.cfg = (ms[i]?).getD none) ∧
      (∀ i m, member t i = some m → m.state = .off ∧ m.slot = false ∧ m.on = false) ∧
      t.seq.hostRst = (ms.any fun m => match m with | some c => c.mtype = 3 | none => false)

/-- Steps of a sequence, and WDI supervision. No instant is taken before an earlier one of the sequence. A member's on instant
opens its slot and takes its action, or turns a member without a PG on; a slot that closes with a good PG turns it on, and one
without is a DEADLINE fault that fails the member or takes the sequence down; a member's off instant takes its off action; a
member off, or timed out, ends the down sequence when it is the last. PG levels and debounces are followed. A WDI toggle sets
the next due time; a miss, at the due time and not before, counts, asserts line 26, raises EV41 and reacts by WDI_REACT. (R361,
R363, R370, R371, R372, R373, R374, R375, R382, R383, R384, R385) -/
def Obligations.SequencerSteps : Prop :=
  ∀ (s : State),
    let close := fun (m : Member) => seqNext s (100 * (m.cfg.onDelay + m.cfg.pgDeadline)) = true
    (∀ (i : Fin 16) (m : Member), member s i.val = some m → s.seq.state = .upRunning →
      (m.state = .waitOn → seqNext s (100 * m.cfg.onDelay) = false → exec (.seqOnInstant i) s = .next s) ∧
      (m.state = .waitOn → seqNext s (100 * m.cfg.onDelay) = true → m.cfg.mtype = 2 → hasPg m.cfg = true → Answers (.seqOnInstant i) s fun t =>
        (∃ m', member t i.val = some m' ∧ m'.state = .inSlot ∧ m'.slot = true ∧ m'.cfg = m.cfg) ∧ t.seq.state = .upRunning ∧
        (m.cfg.enPin < 8 → vget t.seq.pins m.cfg.enPin .input = enDrive m.cfg true) ∧ t.rc = s.rc ∧ SameBytes s t) ∧
      (m.state = .waitOn → seqNext s (100 * m.cfg.onDelay) = true → m.cfg.mtype = 3 → Answers (.seqOnInstant i) s fun t =>
        (∃ m', member t i.val = some m' ∧ m'.state = .on ∧ m'.on = true) ∧ t.seq.hostRst = false ∧ t.rc = s.rc) ∧
      (m.state = .waitOn → seqNext s (100 * m.cfg.onDelay) = true → m.cfg.mtype = 1 → m.cfg.index < 8 → railRuns s = true → (rail s m.cfg.index).state = .off →
        startCheck s m.cfg.index = none → s.rc.tmonShdn = false → Answers (.seqOnInstant i) s fun t =>
          (rail t m.cfg.index).state = .precheck ∧ (rail t m.cfg.index).bySeq = true ∧ ∃ m', member t i.val = some m' ∧ m'.state = .inSlot) ∧
      (m.slot = true → close m → m.pgGood = true → m.faulted = false → Answers (.seqSlotClose i) s fun t =>
        (∃ m', member t i.val = some m' ∧ m'.state = .on ∧ m'.on = true ∧ m'.slot = false) ∧ t.seq.failed = s.seq.failed ∧ t.rc = s.rc ∧
        ((∀ j x, j ≠ i.val → member s j = some x → x.state ≠ .waitOn ∧ x.slot = false) → t.seq.state = .up ∧
          EventRaised s t 40 (pack 64 [(0, 16, membersOn t), (32, 1, 1), (33, 1, b2n s.seq.viaFlock)]))) ∧
      (m.slot = true → close m → m.pgGood = false → m.faulted = false → m.state = .inSlot → flkRole s = 0 →
        (faultReact s = 0 → Answers (.seqSlotClose i) s fun t => (∃ m', member t i.val = some m' ∧ m'.state = .failed ∧ m'.slot = false) ∧
          bitOf t.seq.failed i.val = true ∧ (Sparse.get? t.flt.lines 25).isSome = true ∧ t.rc = s.rc) ∧
        (faultReact s = 1 → Answers (.seqSlotClose i) s fun t => t.seq.state = .downRunning ∧ t.seq.ups = [] ∧
          bitOf t.seq.failed i.val = true ∧ (Sparse.get? t.flt.lines 25).isSome = true ∧ t.rc = s.rc))) ∧
    (∀ (i : Fin 16) (m : Member), member s i.val = some m → s.seq.state = .downRunning → s.seq.held = false → s.seq.retryUp = false →
      (m.state = .waitOff → seqNext s (100 * m.cfg.offDelay) = true → m.cfg.mtype = 3 → Answers (.seqOffInstant i) s fun t =>
        (∃ m', member t i.val = some m' ∧ m'.state = .off ∧ m'.on = false) ∧ t.seq.hostRst = true ∧ t.rc = s.rc) ∧
      (m.state = .waitOff → seqNext s (100 * m.cfg.offDelay) = true → m.cfg.mtype = 2 → hasPg m.cfg = true → Answers (.seqOffInstant i) s fun t =>
        (∃ m', member t i.val = some m' ∧ m'.state = .switchingOff ∧ m'.on = false) ∧ t.seq.state = .downRunning ∧
        (m.cfg.enPin < 8 → vget t.seq.pins m.cfg.enPin .input = enDrive m.cfg false) ∧ t.rc = s.rc ∧ SameBytes s t) ∧
      (m.state = .switchingOff →
        (∀ us : Nat, offHolds (seqAt s us) m = true → Answers (.seqMemberOffReached i us) s fun t => (∃ m', member t i.val = some m' ∧ m'.state = .off) ∧ t.rc = s.rc ∧
          ((∀ j x, j ≠ i.val → member s j = some x → x.state ≠ .waitOff ∧ x.state ≠ .switchingOff) → t.seq.state = .down ∧ t.seq.downs = [])) ∧
        (∀ us : Nat, offHolds (seqAt s us) m = false → exec (.seqMemberOffReached i us) s = .next (seqAt s us)) ∧
        (seqNext s (100 * (m.cfg.offDelay + m.cfg.offTimeout)) = true → Answers (.seqOffTimeout i) s fun t => (∃ m', member t i.val = some m' ∧ m'.state = .offTimeout) ∧ t.rc = s.rc ∧
          ((∀ j x, j ≠ i.val → member s j = some x → x.state ≠ .waitOff ∧ x.state ≠ .switchingOff) →
            t.seq.state = .down ∧ bitOf t.seq.offTimeout i.val = true)))) ∧
    (∀ (p : Fin 8) (v : Bool) (us : Nat), Answers (.pgPinChange p v us) s fun t => bitOf t.seq.levels p.val = v ∧
      (∀ j, j < 8 → j ≠ p.val → bitOf t.seq.levels j = bitOf s.seq.levels j) ∧ t.rc = s.rc) ∧
    (∀ (i : Fin 16) (m : Member) (us : Nat), member s i.val = some m → s.seq.state ≠ .safe → hasPg m.cfg = true → pgRaw s m.cfg = true →
      m.pgGood = false →
      (waited m.pgAt m.cfg.pgDebounce (seqAt s us).seq.us = false → exec (.pgDebounceDone i us) s = .next (seqAt s us)) ∧
      (waited m.pgAt m.cfg.pgDebounce (seqAt s us).seq.us = true → Answers (.pgDebounceDone i us) s fun t =>
        (∃ m', member t i.val = some m' ∧ m'.pgGood = true ∧ m'.state = m.state) ∧ t.seq.state = s.seq.state ∧ SameBytes s t)) ∧
    (∀ (v : Bool) (us : Nat), let u := seqAt s us
      exec (.wdiToggle v us) s = .next { u with seq := { u.seq with
        wdiLevel := v, wdiDue := if s.seq.wdiArmed = true ∧ s.seq.wdiDue.isSome = true ∧ v ≠ s.seq.wdiLevel
                                 then some (us + 1000 * wdiTimeout s) else s.seq.wdiDue } }) ∧
    (∀ us d : Nat, s.seq.wdiArmed = true → s.seq.wdiDue = some d → us < d → exec (.wdiMiss us) s = .next (seqAt s us)) ∧
    ∀ us d : Nat, s.seq.wdiArmed = true → s.seq.wdiDue = some d → d ≤ us → Answers (.wdiMiss us) s fun t =>
      t.seq.wdiMisses = satInc s.seq.wdiMisses ∧ (Sparse.get? t.flt.lines 26).isSome = true ∧ t.rc = s.rc ∧
      EventRaised s t 41 (pack 64 [(0, 4, 5), (8, 2, wdiReact s), (10, 3, clampN 0 7 s.seq.retries), (32, 32, (clockOf us).toNat)]) ∧
      (wdiReact s = 0 → t.seq.wdiDue = some (us + 1000 * wdiTimeout s) ∧ t.seq.state = s.seq.state) ∧
      (wdiReact s = 1 → t.seq.wdiPulse = true ∧ t.seq.pulseAt = some us ∧ t.seq.wdiDue = none ∧ hostRstLow t = true) ∧
      (wdiReact s = 2 → s.seq.state = .up → flkRole s = 0 → (∃ i m, i < 16 ∧ member s i = some m ∧ m.state = .on) →
        t.seq.state = .downRunning ∧ t.seq.held = true ∧ t.seq.wdiArmed = false)

/-! ### The Flock bus -/

/-- The Flock bus. A follower that hears a frame with a right CRC is no longer without a master; PING is answered with the
status, UP_ARM arms it in DOWN, CANCEL disarms it, DOWN_ARM changes no more, ACK_REQ clears requests; a wrong CRC only counts.
An FSYNC edge starts the up of an armed follower and the down of another. No timeout acts before its time (an instant before the
last common start counts as passed, log 114). The bellwether's arming that times out is cancelled and the request completes
with TIMEOUT; it PINGs every expected follower, marks one silent for three PINGs lost, and takes what a right reply reports;
FSYNC read high ends its having been stuck. Frames are taken and sent while the root-derived clocks run. A lost master and a
stuck bus raise EV42. (R47, R392, R393, R394, R395, R396, R397, R398, R399, R400, R401, R402) -/
def Obligations.FlockBus : Prop :=
  let right := fun (bs : List Byte) (len : Nat) => bs.length = len + 4 ∧ crc8 (bs.take (len + 3)) = leField bs (len + 3) 1
  let bcast := fun (bs : List Byte) (ft : Nat) => leField bs 0 1 % 16 = ft ∧ (leField bs 0 1).testBit 4 = true
  let mine := fun (s : State) (bs : List Byte) (ft : Nat) =>
    leField bs 0 1 % 16 = ft ∧ (leField bs 0 1).testBit 4 = false ∧ leField bs 1 1 % 32 = flkAddr s
  let flk := fun (s : State) (f : Flock) => ({ s with flk := f } : State)
  (∀ (s : State) (bs : List Byte), flkRole s = 2 →
    (rootAlive s = false → ∀ i ∈ [Instr.flockPing bs, .flockUpArm bs, .flockDownArm bs, .flockCancel bs, .flockAckReq bs], exec i s = .next s) ∧
    (rootAlive s = true → right bs 0 → mine s bs 1 → exec (.flockPing bs) s = .next (flk s { s.flk with masterLost := false, heardAt := some s.seq.us, sent := flkReply s })) ∧
    (rootAlive s = true → right bs 0 → bcast bs 2 → s.seq.state = .down → exec (.flockUpArm bs) s =
      .next (flk s { s.flk with masterLost := false, heardAt := some s.seq.us, armed := true, armSeq := BitVec.ofNat 8 (leField bs 2 1), armAt := some s.seq.us })) ∧
    (rootAlive s = true → right bs 0 → bcast bs 3 → exec (.flockDownArm bs) s = .next (flk s { s.flk with masterLost := false, heardAt := some s.seq.us })) ∧
    (rootAlive s = true → right bs 0 → bcast bs 4 → exec (.flockCancel bs) s = .next (flk s { s.flk with masterLost := false, heardAt := some s.seq.us, armed := false })) ∧
    (rootAlive s = true → right bs 1 → mine s bs 5 → exec (.flockAckReq bs) s = .next (flk s { s.flk with
      masterLost := false, heardAt := some s.seq.us, reqDown := s.flk.reqDown && !(leField bs 3 1).testBit 6, reqDownUp := s.flk.reqDownUp && !(leField bs 3 1).testBit 7 })) ∧
    (rootAlive s = true → ¬ right bs 0 → ∀ i ∈ [Instr.flockPing bs, .flockUpArm bs, .flockDownArm bs, .flockCancel bs],
      exec i s = .next (flk s { s.flk with crcErrs := satInc s.flk.crcErrs })) ∧
    (s.flk.armed = true → s.seq.state = .down → (hasRailMember s = true → domOn s 10 = true) → (∃ i, i < 16 ∧ member s i ≠ none) →
      Answers .fsyncEdge s fun t => t.seq.state = .upRunning ∧ t.seq.viaFlock = true ∧ t.flk.armed = false ∧ t.rc = s.rc ∧
        (mpRising s = true → SameBytes s t)) ∧
    (s.flk.armed = false → s.seq.state = .up → (∃ i m, i < 16 ∧ member s i = some m ∧ m.state = .on) →
      Answers .fsyncEdge s fun t => t.seq.state = .downRunning ∧ t.seq.viaFlock = true ∧ t.rc = s.rc) ∧
    (∀ us : Nat, let due := waited s.flk.armAt (1000 * clampN 1 255 (fld s 0x5040 24 8)) us
      (due = false → exec (.flockArmTimeout us) s = .next (seqAt s us)) ∧
      (due = true → exec (.flockArmTimeout us) s = .next (flk (seqAt s us) { s.flk with armed := false }))) ∧
    (∀ us : Nat, s.flk.masterLost = false →
      (waited s.flk.heardAt 100000 us = false → exec (.flockMasterLost us) s = .next (seqAt s us)) ∧
      (waited s.flk.heardAt 100000 us = true → Answers (.flockMasterLost us) s fun t => OnlyEvents (flk (seqAt s us) { s.flk with masterLost := true }) t ∧
        EventRaised s t 42 (pack 64 [(0, 4, 4)])))) ∧
  ∀ (s : State), flkRole s = 1 →
    (∀ us : Nat, s.flk.job = .arming → faultReact s = 0 → waited s.flk.armAt (1000 * clampN 1 255 (fld s 0x5040 24 8)) us = true →
      Answers (.flockArmTimeout us) s fun t => t.flk.job = .none ∧ t.seq.ups = [] ∧
        t.flk.driveFsync = false ∧ t.flk.sent = flkFrame 4 true 0 s.flk.armSeq [] ∧ (Sparse.get? t.flt.lines 25).isSome = true ∧
        EventRaised s t 41 (pack 64 [(0, 4, 7), (10, 3, clampN 0 7 s.seq.retries), (32, 32, (clockOf us).toNat)])) ∧
    (∀ (us : Nat) (fs : Bool), let due := waited s.flk.pollAt (1000 * clampN 1 255 (fld s 0x5040 16 8)) us && rootAlive s
      (due = false → exec (.flockPoll us fs) s = .next (fsyncRead (seqAt s us) fs)) ∧
      (due = true → Answers (.flockPoll us fs) s fun t => t.flk.pinged = flkExpect s ∧ t.flk.pollAt = some us ∧ (fs = true → t.flk.fsyncStuck = false) ∧ (s.flk.pinged = 0 → t.flk.sent =
          (List.range 32).flatMap fun a => if bitOf (flkExpect s) a then flkFrame 1 false a s.flk.armSeq [] else []) ∧
        ∀ a, a < 32 → bitOf (flkExpect s) a = true → bitOf s.flk.pinged a = true → 2 ≤ Sparse.getD s.flk.misses a 0 → bitOf t.flk.lost a = true)) ∧
    (∀ (a : Fin 32) (bs : List Byte) (fs : Bool), rootAlive s = false → exec (.flockPingReply a bs fs) s = .next s) ∧
    (∀ (a : Fin 32) (bs : List Byte) (fs : Bool), rootAlive s = true → bitOf (flkExpect s) a.val = true → (bs.length ≠ 5 ∨ crc8 (bs.take 4) ≠ leField bs 4 1) →
      exec (.flockPingReply a bs fs) s = .next (fsyncRead (flk s { s.flk with crcErrs := satInc s.flk.crcErrs }) fs)) ∧
    (∀ (a : Fin 32) (bs : List Byte) (fs : Bool), rootAlive s = true → bitOf (flkExpect s) a.val = true → bs.length = 5 → crc8 (bs.take 4) = leField bs 4 1 →
      bs.all (· = 0xFF) = false → leField bs 0 1 < 64 → Answers (.flockPingReply a bs fs) s fun t =>
        bitOf t.flk.lost a.val = false ∧ bitOf t.flk.pinged a.val = false ∧ bitOf t.flk.up a.val = decide (leField bs 0 1 % 8 = 3) ∧
        bitOf t.flk.faulted a.val = ((leField bs 0 1).testBit 4 || (leField bs 0 1).testBit 5) ∧
        bitOf t.flk.armedBy a.val = ((leField bs 0 1).testBit 3 && decide (leField bs 1 1 = s.flk.armSeq.toNat)) ∧
        (bitOf s.flk.lost a.val = true → (bitOf s.flk.faulted a.val = true ∨ bitOf t.flk.faulted a.val = false) →
          EventRaised s t 42 (pack 64 [(0, 4, 5), (4, 5, a.val)]))) ∧
    ∀ fs : Bool, Answers (.flockBusError fs) s fun t =>
      OnlyEvents (flk s { s.flk with busError := true, fsyncStuck := s.flk.fsyncStuck || fs, driveFsync := s.flk.driveFsync && !fs }) t ∧ EventRaised s t 42 (pack 64 [(0, 4, 6)])

/-! ### The link ports, measurement and captures -/

/-- Link-port and capture commands. Each completes with NOT_POWERED where its link group is off, and with the status of the
first check that fails. LINK_ENUMERATE starts its port in MODE 3 with no node addressed, and waits. NODE_AUTH queues a challenge
and waits. NODE_PROFILE_LOAD queues a PROFILE_WRITE for each profile of its mask, for all nodes merging every port image.
CAPTURE_ARM sets ARMED and THRESH; CAPTURE_FORCE is refused without cycles, declined where no CAPT may go out, and else answers
the capture's number. The symbols that carry characters on the line spell them again at either running disparity, whatever they
are; the code's tables are the model's (log 112). (R158, R187, R189, R197, R202, R226, R246, R253, R255, R256, R264, R703) -/
def Obligations.LinkCommands : Prop :=
  let free := fun (q : State) => q.lp.wait = none ∧ q.lp.jobs = []
  (∀ (rd : Bool) (cs : List LineChar), decodeLine rd (encodeLine rd cs) = cs) ∧
  (∀ (s q : State) (k : Ticket) (rq : Requester) (d : Desc), Taken specLinkEnumerate rq d s q k →
    let n := d.target.toNat
    let started := fun (t : State) (p : Nat) => (port t p).mode = 3 ∧ (port t p).nodes = 0 ∧ (port t p).queue = [] ∧
      (port t p).enum = some { recovery := false, stage := 2, whole := true } ∧ ∀ a, a / 32 = p → (node t a).present = false
    (d.target = 0xFFFFFFFF → anyGroupOn q = false → exec (.linkEnumerate rq d) s = .next (complete q k stNotPowered 0)) ∧
    (d.target ≠ 0xFFFFFFFF → 15 < n → exec (.linkEnumerate rq d) s = .next (complete q k stRange 0)) ∧
    (n ≤ 15 → domOn q (groupDom n) = false → exec (.linkEnumerate rq d) s = .next (complete q k stNotPowered 0)) ∧
    (n ≤ 15 → domOn q (groupDom n) = true → free q →
      (flag q 0x300C n = false → exec (.linkEnumerate rq d) s = .next (complete q k stNotPresent 0)) ∧
      (flag q 0x300C n = true → Answers (.linkEnumerate rq d) s fun t => started t n ∧ (∀ p, p ≠ n → port t p = port q p) ∧
        t.lp.wait = some (.enumerate k (maskOf 16 n 1) (maskOf 16 n 1) stSuccess) ∧ (q.mc.captures = [] → flag q 0x3818 1 = false → SameBytes q t))) ∧
    (d.target = 0xFFFFFFFF → anyGroupOn q = true → free q →
      ((∀ p, p < 16 → portOn q p = false) → exec (.linkEnumerate rq d) s = .next (complete q k stNotPresent 0)) ∧
      ((∃ p, p < 16 ∧ portOn q p = true) → Answers (.linkEnumerate rq d) s fun t =>
        (∀ p, p < 16 → (portOn q p = true → started t p) ∧ (portOn q p = false → port t p = port q p)) ∧
        ∃ m : BitVec 16, t.lp.wait = some (.enumerate k m m stSuccess) ∧ ∀ p, p < 16 → bitOf m p = portOn q p))) ∧
  (∀ (s q : State) (k : Ticket) (rq : Requester) (d : Desc), Taken specNodeAuth rq d s q k →
    let a := d.target.toNat
    (domOn q (groupDom (a / 32)) = false → exec (.nodeAuth rq d) s = .next (complete q k stNotPowered 0)) ∧
    (domOn q (groupDom (a / 32)) = true → free q →
      (reachable q a = false → exec (.nodeAuth rq d) s = .next (complete q k stNotPresent 0)) ∧
      (reachable q a = true → exec (.nodeAuth rq d) s =
        .next (enq { q with lp := { q.lp with wait := some (.auth k a) } } (a / 32) [nodeCmd q a 0x06 [] 4])))) ∧
  (∀ (s q : State) (k : Ticket) (rq : Requester) (d : Desc) (hf : Bool), arrive s 0x22 rq d = some (q, k) →
    d.target ≠ 0xFFFFFFFF → 511 < d.target.toNat → exec (.nodeProfileLoad rq d hf) s = .next (complete q k stInvalidField 0)) ∧
  (∀ (s q : State) (k : Ticket) (rq : Requester) (d : Desc), Taken specNodeProfileLoad rq d s q k →
    let a := d.target.toNat
    let mask := BitVec.ofNat 16 (opn d 16 0 16)
    let block := BitVec.ofNat 4096 (leNat (cmdRead q rq d.addr.toNat 512))
    (∀ hf, a ≤ 511 → domOn q (groupDom (a / 32)) = false → exec (.nodeProfileLoad rq d hf) s = .next (complete q k stNotPowered 0)) ∧
    (∀ hf, d.target = 0xFFFFFFFF → anyGroupOn q = false → exec (.nodeProfileLoad rq d hf) s = .next (complete q k stNotPowered 0)) ∧
    (a ≤ 511 → domOn q (groupDom (a / 32)) = true →
      exec (.nodeProfileLoad rq d true) s = .next (complete q k (if reachable q a then stHostAccess else stNotPresent) 0) ∧
      (free q → reachable q a = false → exec (.nodeProfileLoad rq d false) s = .next (complete q k stNotPresent 0)) ∧
      (free q → reachable q a = true → mask ≠ 0 → Answers (.nodeProfileLoad rq d false) s fun t => SameBytes q t ∧
        (port t (a / 32)).queue = (port q (a / 32)).queue ++ imageWrites q a block mask 5 ∧ (∀ p, p ≠ a / 32 → port t p = port q p) ∧
        t.lp.wait = some (.profiles k (countIf (bitOf mask) (List.range 16)) stSuccess))) ∧
    (d.target = 0xFFFFFFFF → anyGroupOn q = true →
      exec (.nodeProfileLoad rq d true) s = .next (complete q k stHostAccess 0) ∧
      (free q → Answers (.nodeProfileLoad rq d false) s fun t => ∀ p, p < 16 → (port t p).imageSet = true ∧
        ∀ i, i < 16 → bitsOf (port t p).image (256 * i) 256 = bitsOf (if bitOf mask i then block else (port q p).image) (256 * i) 256))) ∧
  (∀ (s q : State) (k : Ticket) (rq : Requester) (d : Desc), Taken specCaptureArm rq d s q k →
    let on := bitOf d.ops 0
    let th := opn d 18 0 16
    let q1 : State := { q with mc := { q.mc with armed := on, thresh := if th = 0 then q.mc.thresh else BitVec.ofNat 10 th } }
    (anyGroupOn q = false → exec (.captureArm rq d) s = .next (complete q k stNotPowered 0)) ∧
    (anyGroupOn q = true → free q →
      (1000 < th → exec (.captureArm rq d) s = .next (complete q k stRange 0)) ∧
      (th ≤ 1000 → on = true → q.mc.noPack = true → exec (.captureArm rq d) s = .next (complete q k stNotPresent 0)) ∧
      (th ≤ 1000 → on = true → q.mc.noPack = false → exec (.captureArm rq d) s = .next (complete (threshCompute q1) k stSuccess 0)) ∧
      (th ≤ 1000 → on = false → exec (.captureArm rq d) s = .next (complete q1 k stSuccess 0)))) ∧
  ∀ (s q : State) (k : Ticket) (rq : Requester) (d : Desc), Taken specCaptureForce rq d s q k →
    (anyGroupOn q = false → exec (.captureForce rq d) s = .next (complete q k stNotPowered 0)) ∧
    (anyGroupOn q = true → free q →
      (q.lp.running = false → exec (.captureForce rq d) s = .next (complete q k stRefused 0)) ∧
      (q.lp.running = true → (captBarred q).isSome = true →
        exec (.captureForce rq d) s = .next (complete (capDecline q 0 3) k stDeclined 0) ∧ (capDecline q 0 3).mc.captures = q.mc.captures) ∧
      (q.lp.running = true → captBarred q = none → ∃ u c, u.mc.captures = q.mc.captures ++ [c] ∧ c.seq = q.mc.lastSeq + 1 ∧
        c.forced = true ∧ c.steps = 0 ∧ c.d = 0 ∧ u.mc.lastSeq = q.mc.lastSeq + 1 ∧ SameBytes q u ∧
        exec (.captureForce rq d) s = .next (complete u k stSuccess ((q.mc.lastSeq + 1).setWidth 64))))

/-- Cycles, trains and the ring. A cycle tick starts cycle 0 where RUN is set, adds 1 to the cycle count while it stays set and
stops the cycles once it is clear. A train carries its header and the next command of its chain, which then awaits its response.
Returns of trains drive an enumeration from its lock through its counts to MODE 1 or 2, count code and CRC errors, note node
states, keep a response for its row and mark a node that stays silent missing. A failed train counts, and the 8th in a row
starts the recovery, which ends in MODE 2 at a cycle boundary 9.25 ms on, or the third; a healed ring and a lost clock are
reported. EV5 + port reports each. Nothing of this happens while the root-derived clocks stand. (R47, R162, R166, R170, R175,
R187, R188, R190, R192, R194, R195, R205) -/
def Obligations.LinkPorts : Prop :=
  let det := fun (t : State) (p kind : Nat) => let x := port t p
    pack 64 [(0, 3, x.mode), (4, 4, kind), (8, 6, x.nodes), (14, 6, x.na), (20, 6, x.nb), (26, 1, b2n x.countMismatch),
      (27, 1, b2n x.hopLimit), (28, 1, b2n x.excess), (32, 32, x.missing.toNat)]
  let others := fun (s t : State) (p : Nat) => ∀ j, j ≠ p → port t j = port s j
  (∀ s : State, rootAlive s = true → s.lp.jobs = [] →
    (s.lp.running = false → flag s 0x3000 0 = false → exec .cycleTick s = .next s) ∧
    (s.lp.running = false → flag s 0x3000 0 = true → Answers .cycleTick s fun t => t.lp.running = true ∧ t.lp.cycle = 0 ∧
      t.lp.ms = s.mc.now / 1000 + 1 ∧ ∀ p, (port t p).mf = 0) ∧
    (s.lp.running = true → flag (linkBoundary s) 0x3000 0 = true → Answers .cycleTick s fun t => t.lp.running = true ∧
      t.lp.cycle = s.lp.cycle + 1 ∧ (∀ k ks, s.lp.ticks = k :: ks → t.lp.ms = s.lp.ms + k.len) ∧ ∀ p, (port t p).mf = 0) ∧
    (s.lp.running = true → flag (linkBoundary s) 0x3000 0 = false → Answers .cycleTick s fun t => t.lp.running = false ∧
      t.lp.cycle = s.lp.cycle ∧ bitOf t.flt.active 17 = false)) ∧
  (∀ (s : State) (p : Fin 16) (b : Bool), let x := port s p.val
    rootAlive s = true → portOn s p.val = true → (portRuns s p.val = true ∨ x.mode = 3 ∨ x.mode = 4) →
    (∀ e, x.enum = some e → e.stage ≠ 2) → (b = true → twoChains x = true) →
    Answers (.microframeTrain p b) s fun t => let y := port t p.val
      y.trainOut = true ∧ y.tail = [] ∧ y.failRun = (if x.trainOut then 0 else x.failRun) ∧ others s t p.val ∧ SameBytes s t ∧ y.mf = trainMf s x b ∧
      sentOn y (!b) = sentOn x (!b) ∧ y.lead = trainLead s p.val x b y.mf ∧
      (∃ q, y.train.take 8 = trainHeader (trainMode x b (nextCmd x b)) (x.latch && y.mf = 0) x.rdiv y.mf q (y.train.length - 8)
        (s.lp.cycle.toNat % 256)) ∧
      (nextCmd x b = none → y.train.length = 8 ∧ y.queue = x.queue ∧ y.seq = x.seq ∧ t.lp.nodes = s.lp.nodes ∧
        sentOn y b = (sentOn x b).map fun k => { k with trains := k.trains + 1 }) ∧
      ∀ c, nextCmd x b = some c → y.queue = x.queue.eraseP (fun k => k.chainB = b) ∧ y.seq = x.seq + 1 ∧ (c.bcast = true → sentOn y b = none) ∧
        ((c.ncmd ≠ 6 ∨ c.sends ≠ 0) → y.train.drop 8 = cmdBytes c x.seq ∧
          (c.bcast = false → sentOn y b = some { cmd := { c with sends := c.sends + 1 }, seq := x.seq, trains := 0 })) ∧
        (c.ncmd = 6 → c.sends = 0 → ∃ ch o, (node t (32 * p.val + c.pos)).challenge = some (ch, o) ∧
          y.train.drop 8 = cmdBytes { c with param := leBytes 16 ch.toNat } x.seq)) ∧
  ∀ (s : State) (p : Fin 16), let x := port s p.val
    let n := p.val
    let first := x.mf = 0 ∧ x.mfA = false ∧ x.mfB = false
    (rootAlive s = false → (∀ r, exec (.segmentReceived p r) s = .next s) ∧
      ∀ i ∈ [Instr.trainFailed p, .dualChainStart p, .farLockHealed p, .clkLrxLoss p, .enumerationComplete p], exec i s = .next s) ∧
    (rootAlive s = true → portOn s n = true → x.mode ≠ 0 →
    (s.lp.jobs = [] → s.lp.wait = none →
      exec (.segmentReceived p .badHeader) s = .next (setPort s n { x with crcErrs := satInc x.crcErrs }) ∧
      (∀ e w, x.enum = some e → e.stage = 2 → Answers (.segmentReceived p (.lock w)) s fun t => others s t n ∧ SameBytes s t ∧
        (port t n).enum = some { e with stage := 4, whole := w } ∧ (port t n).queue = bcastCmd false 0x01 [] 1 ::
          [if w then cmdEnumerate false false 0 0 false 1 else bcastCmd true 0x01 [] 1]) ∧
      (∀ e c, x.enum = some e → e.stage = 4 → e.whole = true → let ex := fld s (0x3100 + 0x40 * n) 0 6
        let k := if c < 32 then c else 32
        (ex ≠ 0 → ex ≠ k → Answers (.segmentReceived p (.count c)) s fun t => (port t n).mode = 0 ∧ (port t n).countMismatch = true ∧
          (port t n).enum = none ∧ EventRaised s t (5 + n) (det t n 2)) ∧
        ((ex = 0 ∨ ex = k) → 0 < c → Answers (.segmentReceived p (.count c)) s fun t =>
          (port t n).nodes = k ∧ (port t n).excess = decide (32 < c) ∧ (port t n).enum = some { e with stage := 5 } ∧
          (∀ i, i < k → (node t (32 * n + i)).present = true) ∧ SameBytes s t ∧
          (port t n).queue = x.queue ++ (List.range k).map fun i => { nodeCmd t (32 * n + i) 0x03 [] 1 with chainB := false })) ∧
      (∀ e na nb, x.enum = some e → e.stage = 4 → e.whole = false → e.recovery = false → fld s (0x3100 + 0x40 * n) 0 6 = 0 →
        na + nb ≤ 32 → Answers (.segmentReceived p (.discovery na nb)) s fun t => (port t n).na = na ∧ (port t n).nb = nb ∧
          (port t n).nodes = na + nb ∧ (port t n).enum = some { e with stage := 5 } ∧
          (∀ i, i < na + nb → (node t (32 * n + i)).present = true ∧ (node t (32 * n + i)).chainB = decide (na ≤ i))) ∧
      (∀ (k : SentCmd) (b : Bool) (rt : Nat), sentOn x b = some k → k.cmd.ncmd = 4 → let dl := (roundDiv ((rt : Int) - 320) 2).toNat
        Answers (.segmentReceived p (.echo b rt)) s fun t => (node t (32 * n + k.cmd.pos)).delay = BitVec.ofNat 16 dl ∧
          sentOn (port t n) b = none ∧
          (k.cmd.why = 1 → nodeBefore s n k.cmd.pos = none → 125 < dl → (port t n).mode = 0 ∧ (port t n).hopLimit = true)) ∧
      (∀ rd syms, segmentBytes rd syms = none → Answers (.segmentReceived p (.segment rd syms)) s fun t =>
        port t n = { x with codeErrs := satInc x.codeErrs, errTimes := (s.upSeconds :: x.errTimes).take 101 } ∧ SameBytes s t) ∧
      (∀ rd syms b ns body crc, segmentBytes rd syms = some ((b : Byte) :: ns :: body ++ crc) → crc.length = 2 →
        let a := 32 * n + b.toNat % 32
        let good := crc = leBytes 2 (crc16 (b :: ns :: body))
        (node s a).present = true →
        (¬ good → Answers (.segmentReceived p (.segment rd syms)) s fun t =>
          port t n = { x with crcErrs := satInc x.crcErrs } ∧ (node t a).linkErrs = (node s a).linkErrs + 1 ∧ (node t a).silent = 0) ∧
        (good → quarantined s a = false → Answers (.segmentReceived p (.segment rd syms)) s fun t =>
          (node t a).nstat = ns ∧ (node t a).silent = 0 ∧ nodeMissing t a = false ∧ unsynced t a = bitOf ns 0) ∧
        (∀ sq st dat, good → body = [2, BitVec.ofNat 8 (2 + dat.length), sq, st] ++ dat → dat.length < 254 →
          Answers (.segmentReceived p (.segment rd syms)) s fun t => (node t a).resp = (node s a).resp ++ [(sq, st, dat)])) ∧
      (∀ k : Fin 32, (node s (32 * n + k.val)).present = true → Answers (.segmentReceived p (.silent k)) s fun t =>
        (node t (32 * n + k.val)).silent = (node s (32 * n + k.val)).silent + 1 ∧
        (2 ≤ (node s (32 * n + k.val)).silent → nodeMissing t (32 * n + k.val) = true)) ∧
      (∀ e, x.enum = some e → e.stage = 9 → e.recovery = false → x.mode = 3 → (s.lp.running = false ∨ first) →
        Answers (.enumerationComplete p) s fun t => (port t n).mode = (if e.whole then 1 else 2) ∧ (port t n).enum = none ∧
          (port t n).failRun = 0 ∧ others s t n ∧ EventRaised s t (5 + n) (det t n 1))) ∧
    ((x.mode ≠ 1 ∨ x.failRun < 7) → Answers (.trainFailed p) s fun t => others s t n ∧ SameBytes s t ∧ t.evr = s.evr ∧
      (∀ a, a / 32 = n → (node t a).silent = 0) ∧ port t n = { x with
        trainsLost := satInc x.trainsLost, failRun := x.failRun + 1, trainOut := false
        breakAt := if x.failRun = 0 then 8 * s.lp.ms + x.mf else x.breakAt, bounds := if x.failRun = 0 then 0 else x.bounds }) ∧
    (x.mode = 1 → 7 ≤ x.failRun → Answers (.trainFailed p) s fun t => (port t n).mode = 4 ∧ (port t n).breakSeen = true ∧
      (port t n).enum = some { recovery := true, stage := 4, whole := false } ∧ others s t n ∧ EventRaised s t (5 + n) (det t n 3)) ∧
    (∀ e, x.enum = some e → e.recovery = true → x.mode = 4 → s.lp.running = true → first →
      ((x.breakAt + 74 ≤ 8 * s.lp.ms ∧ e.stage = 9) ∨ 3 ≤ x.bounds → Answers (.dualChainStart p) s fun t =>
        (port t n).mode = 2 ∧ (port t n).enum = (if e.stage = 9 then none else some e) ∧ (port t n).failRun = 0 ∧ others s t n ∧
        EventRaised s t (5 + n) (det t n 4)) ∧
      ((8 * s.lp.ms < x.breakAt + 74 ∨ e.stage ≠ 9) → x.bounds < 3 → exec (.dualChainStart p) s = .next s)) ∧
    (x.mode = 2 → x.healed = false → Answers (.farLockHealed p) s fun t => OnlyEvents (setPort s n { x with healed := true }) t ∧
      EventRaised s t (5 + n) (det t n 5)) ∧
    Answers (.clkLrxLoss p) s fun t => OnlyEvents s t ∧ EventRaised s t (5 + n) (det t n 6))

/-- Node commands and delivered records. The answer to the command that awaits it ends the wait; one without an answer in 8
trains goes out again twice and then fails, an authentication with quarantine and EV21. A right response passes the node, one
that does not lift a quarantine leaving it quarantined; a wrong or refused one quarantines it, and another status does not. An
unrestored node is restored by three commands first; 24 h after its last pass a node, quarantined or not, is challenged again.
None of this happens while the root-derived clocks stand. A cycle record gives the node's flags and samples, an accumulator
record its latched set; one of a node that does not deliver changes nothing, and one that matches no cycle counts. (R47, R186,
R196, R197, R198, R199, R201, R228, R232, R233, R236, R240) -/
def Obligations.NodeCommands : Prop :=
  (∀ (s : State) (p : Fin 16) (pos : Fin 32) (f b : Bool) (a : Fin 512), rootAlive s = false →
    ∀ i ∈ [Instr.nodeResponse p pos f, .commandRetryTimeout p b, .nodeRestore a b, .authRenewal a, .cycleRecordComplete a, .accRecordComplete a],
      exec i s = .next s) ∧
  (∀ (s : State) (p : Fin 16) (k : SentCmd) (b f : Bool), rootAlive s = true → sentOn (port s p.val) b = some k → portOn s p.val = true → s.lp.jobs = [] →
    let x := port s p.val
    let a := 32 * p.val + k.cmd.pos
    let n := node s a
    let z := setSent x b none
    (∀ (pos : Fin 32) (sq st : Byte) (dat : List Byte) (rest : List (Byte × Byte × List Byte)), k.cmd.pos = pos.val → n.chainB = b →
      n.resp = (sq, st, dat) :: rest →
      let u := setNode s a { n with resp := rest }
      (sq ≠ k.seq → exec (.nodeResponse p pos f) s = .next u) ∧
      (sq = k.seq → st = 0 → x.enum = none →
        (k.cmd.ncmd ∉ [3, 4, 6, 7, 0x0C, 0x0D] → exec (.nodeResponse p pos f) s = .next (setPort u p.val z)) ∧
        (k.cmd.ncmd = 3 → exec (.nodeResponse p pos f) s = .next (setNode (setPort u p.val z) a { n with resp := rest, ident := dat })) ∧
        (k.cmd.ncmd = 0x0C → exec (.nodeResponse p pos f) s = .next (setNode (setPort u p.val z) a { n with resp := rest, statusData := dat }))) ∧
      (∀ ch o, sq = k.seq → k.cmd.ncmd = 6 → n.challenge = some (ch, o) → o ≠ 4 → bitOf s.otp.keyOk 0 = true →
        let serial := BitVec.ofNat 64 (leField dat 8 8)
        (st = 0 → dat.take 8 = authExpected s a ch serial → Answers (.nodeResponse p pos f) s fun t =>
          (node t a).challenge = none ∧ (node t a).everPassed = true ∧ (node t a).serial = some serial ∧ (node t a).passAt = s.upSeconds ∧
          sentOn (port t p.val) b = none ∧
          ((quarantined s a = false ∨ o = 1) → (node t a).auth = 1 ∧ quarantined t a = false) ∧
          (quarantined s a = true → o ≠ 1 → (node t a).auth = 2 ∧ quarantined t a = true)) ∧
        ((st = 1 ∨ (st = 0 ∧ dat.take 8 ≠ authExpected s a ch serial)) → Answers (.nodeResponse p pos f) s fun t =>
          (node t a).auth = 2 ∧ (node t a).challenge = none ∧ (node t a).passAt = n.passAt ∧ quarantined t a = true ∧
          sentOn (port t p.val) b = none ∧
          EventRaised s t 21 (pack 64 [(0, 9, a), (10, 2, 1), (12, 4, o), (32, 32, (if st = 0 then serial else 0).toNat)])) ∧
        (2 ≤ st.toNat → Answers (.nodeResponse p pos f) s fun t => (node t a).challenge = none ∧ (node t a).auth = n.auth ∧
          quarantined t a = quarantined s a ∧ sentOn (port t p.val) b = none ∧ SameBytes s t))) ∧
    (k.trains < 8 → exec (.commandRetryTimeout p b) s = .next s) ∧
    (8 ≤ k.trains → k.cmd.sends < 3 → exec (.commandRetryTimeout p b) s = .next (setPort s p.val { z with queue := k.cmd :: x.queue })) ∧
    (8 ≤ k.trains → 3 ≤ k.cmd.sends → x.enum = none → k.cmd.why ∉ [1, 2, 5] → k.cmd.ncmd ∉ [6, 0x0B] →
      exec (.commandRetryTimeout p b) s = .next (setPort s p.val z)) ∧
    (∀ ch o, 8 ≤ k.trains → 3 ≤ k.cmd.sends → k.cmd.ncmd = 6 → k.cmd.pos < 32 → n.challenge = some (ch, o) → o ≠ 4 →
      bitOf s.otp.keyOk 0 = true → Answers (.commandRetryTimeout p b) s fun t => (node t a).auth = 2 ∧ quarantined t a = true ∧
        sentOn (port t p.val) b = none ∧ EventRaised s t 21 (pack 64 [(0, 9, a), (10, 2, 2), (12, 4, o)]))) ∧
  (∀ (s : State) (p : Fin 16) (pos : Fin 32) (f : Bool), (node s (32 * p.val + pos.val)).resp = [] → exec (.nodeResponse p pos f) s = .next s) ∧
  (∀ (s : State) (a : Fin 512), let n := node s a.val
    let p := a.val / 32
    rootAlive s = true →
    (∀ lost : Bool, n.present = true → n.restoring = false → portOn s p = true → ((port s p).mode = 1 ∨ (port s p).mode = 2) →
      (n.unrestored = false → exec (.nodeRestore a lost) s = .next s) ∧
      (n.unrestored = true → Answers (.nodeRestore a lost) s fun t => (node t a.val).restoring = true ∧
        (node t a.val).accLost = (n.accLost || lost) ∧ (node t a.val).resets = n.resets + b2n (bitOf n.nstat 1) ∧
        (port t p).queue = (port s p).queue ++
          [cmdEnumerate true n.chainB 0 (port s p).span n.chainB 2, nodeCmd s a.val 0x03 [] 2, nodeCmd s a.val 0x04 [] 2])) ∧
    (reachable s a.val = true → n.everPassed = true → n.renewed = false → n.challenge = none →
      (n.passAt + 86400 ≤ s.upSeconds →
        exec (.authRenewal a) s = .next (enq (setNode s a.val { n with renewed := true }) p [nodeCmd s a.val 0x06 [] 3])) ∧
      (s.upSeconds < n.passAt + 86400 → exec (.authRenewal a) s = .next s)) ∧
    (n.cycDone = [] → exec (.cycleRecordComplete a) s = .next s) ∧
    (n.accDone = [] → exec (.accRecordComplete a) s = .next s) ∧
    (∀ r rest, n.cycDone = r :: rest → let u := setNode s a.val { n with cycDone := rest }
      (delivers s a.val = false → exec (.cycleRecordComplete a) s = .next u) ∧
      (delivers s a.val = true → (∀ k, k ∈ s.lp.ticks → k.cycle.setWidth 8 ≠ r.setWidth 8) → exec (.cycleRecordComplete a) s =
        .next (setPort u p { port s p with recordsLost := satInc (port s p).recordsLost })) ∧
      ∀ k, delivers s a.val = true → k ∈ s.lp.ticks → k.cycle.setWidth 8 = r.setWidth 8 → Answers (.cycleRecordComplete a) s fun t =>
        (node t a.val).flags = r.extractLsb' 10272 1024 ∧ (node t a.val).samples = r.extractLsb' 32 10240 ∧
        (node t a.val).acc = n.acc ∧ (node t a.val).cycDone = rest ∧ t.lp.ports = s.lp.ports ∧ t.regs = s.regs) ∧
    ∀ r rest, n.accDone = r :: rest → let u := setNode s a.val { n with accDone := rest }
      (delivers s a.val = false → exec (.accRecordComplete a) s = .next u) ∧
      (delivers s a.val = true →
        ((∀ k, k ∈ s.lp.latches → k.cycle.setWidth 8 ≠ r.setWidth 8) → exec (.accRecordComplete a) s = .next u) ∧
        ∀ k ks, s.lp.latches = k :: ks → k.cycle.setWidth 8 = r.setWidth 8 → let v := r.extractLsb' 32 24000
          (n.acc = none → Answers (.accRecordComplete a) s fun t => (node t a.val).acc = some { ms := k.ms, values := v } ∧
            (node t a.val).accSeen = true ∧ t.ox = s.ox ∧ SameBytes s t) ∧
          ∀ o, n.acc = some o → (k.ms ≤ o.ms → exec (.accRecordComplete a) s = .next u) ∧
            (o.ms < k.ms → Answers (.accRecordComplete a) s fun t => (node t a.val).acc = some { ms := k.ms, values := v } ∧
              (node t a.val).accSeen = true ∧ (node t a.val).accLost = false ∧ SameBytes s t ∧
              t.mc.subst = (if n.accLost then satAdd s.mc.subst (substCount s a.val) else s.mc.subst))))

/-- PI samples, captures and telemetry buffers. A PI sample is kept with its count; a gap of 8 loses the stream. An armed device
sends CAPT with the next number at the sample with which the step comes to reach the threshold (one step is one detection by the
model's reading, log 120), counts a further step within 96 ms in the same capture, and declines where no CAPT may go out. A piece
is written at its place in the reserved record and kept, and the last one asks for what is missing; a record without room is
discarded and counted. Once TIMEOUT_MS has passed since it became the oldest, and not before, the oldest capture completes, is
released at every running port and raises EV26. FLUSH_MS after its first record an open buffer is closed with its header. None of
this happens while the root-derived clocks stand. (R47, R74, R211, R241, R247, R249, R253, R254, R257, R258, R261, R264) -/
def Obligations.Captures : Prop :=
  (∀ (s : State) (t dly : Nat) (a : Fin 512) (m : Fin 17), rootAlive s = false →
    ∀ i ∈ [Instr.piSample t dly, .capturePiece a, .captureTimeout, .tsBufferFlush m], exec i s = .next s) ∧
  (∀ (s : State) (t dly : Nat), (node s (piNode s)).pi = [] → exec (.piSample t dly) s = .next s) ∧
  (∀ (s : State) (t : Nat) (k : Byte) (code : BitVec 24) (dly : Nat) (rest : List (BitVec 24 × Byte)), let a := piNode s
    let x : BitVec 20 := code.setWidth 20
    let word : BitVec 32 := BitVec.ofNat 32 ((x.signExtend 24).toNat + k.toNat * 2 ^ 24)
    let streams := piEn s = true ∧ delivers s a = true
    rootAlive s = true → (node s a).pi = (code, k) :: rest →
    (¬ streams → exec (.piSample t dly) s = .next (setNode s a { node s a with pi := rest })) ∧
    (streams →
      (Answers (.piSample t dly) s fun u => u.mc.hist = ((t, word) :: s.mc.hist).take 2048 ∧ u.mc.piLast = some k ∧
        u.mc.now = (if s.mc.now < 125 * t then 125 * t else s.mc.now) ∧ u.lp.cycle = s.lp.cycle ∧ u.regs = s.regs ∧ (node u a).pi = rest) ∧
      (∀ l, s.mc.piLast = some l → 8 ≤ (k - l - 1).toNat → Answers (.piSample t dly) s fun u => u.mc.piLost = true ∧
        u.mc.lastSeq = s.mc.lastSeq) ∧
      ((s.mc.armed = false ∨ s.mc.noPack = true ∨ s.mc.above = true ∨ stepSize s t x < s.mc.threshCode.toNat) → Answers (.piSample t dly) s fun u =>
        u.mc.lastSeq = s.mc.lastSeq ∧ u.mc.lastCapt = s.mc.lastCapt ∧ u.mc.declined = s.mc.declined) ∧
      (s.mc.armed = true → s.mc.noPack = false → s.mc.above = false → s.mc.piLost = false → s.mc.piLast = some (k - 1) → nodeMissing s a = false →
        unsynced s a = false → s.mc.threshCode.toNat ≤ stepSize s t x → (∃ e, e ∈ s.mc.hist ∧ e.1 < t ∧ t ≤ e.1 + 16) →
        ((∀ u, s.mc.lastCapt = some u → u + 96000 < 125 * t) →
          (captBarred s = none → Answers (.piSample t dly) s fun u => u.mc.lastSeq = s.mc.lastSeq + 1 ∧
            u.mc.lastCapt = some (125 * t + (if dly ≤ 250 then dly else 250)) ∧ u.mc.declined = s.mc.declined) ∧
          ((captBarred s).isSome = true → Answers (.piSample t dly) s fun u => u.mc.lastSeq = s.mc.lastSeq ∧
            u.mc.declined = satInc s.mc.declined)) ∧
        (∀ u, s.mc.lastCapt = some u → 125 * t ≤ u + 96000 → Answers (.piSample t dly) s fun u => u.mc.lastSeq = s.mc.lastSeq ∧
          u.mc.lastCapt = s.mc.lastCapt ∧ u.mc.declined = s.mc.declined)))) ∧
  (∀ (s : State) (a : Fin 512), (node s a.val).caps = [] → exec (.capturePiece a) s = .next s) ∧
  (∀ (s : State) (a : Fin 512) (num : Byte) (off : Nat) (bs : List Byte) (rest : List (Byte × Nat × List Byte)),
    rootAlive s = true → (node s a.val).caps = (num, off, bs) :: rest → let u := setNode s a.val { node s a.val with caps := rest }
    (delivers s a.val = false → exec (.capturePiece a) s = .next u) ∧
    (delivers s a.val = true →
      ((∀ c k, c ∈ s.mc.captures → k ∈ c.nodes → k.node = a.val → k.done = false → c.seq.setWidth 8 ≠ num) →
        exec (.capturePiece a) s = .next u) ∧
      ∀ c k, s.mc.captures.find? (fun x => x.seq = c.seq) = some c → c.nodes.find? (fun y => y.node = a.val) = some k → k.done = false →
        s.mc.captures.find? (fun x => x.seq.setWidth 8 = num && x.nodes.any fun y => y.node = a.val && !y.done) = some c →
        let keep := fun (q : State) => updCapNode q c.seq a.val fun y => { y with pieces := y.pieces ++ [(off, bs)] }
        ((bs = [] ∨ capLen < off + bs.length) → exec (.capturePiece a) s = .next u) ∧
        (bs ≠ [] → off + bs.length ≤ capLen →
          (∀ x y, x ∈ (keep u).mc.captures → y ∈ x.nodes → y.done = false → capGaps y.pieces ≠ []) →
          (∀ x, x ∈ (keep u).mc.captures → capReady u x = false) →
          (∀ p, k.pieces ≠ [] → k.place = some p →
            (off + bs.length < capLen → exec (.capturePiece a) s = .next (keep (hostPost u (p + 32 + off) bs))) ∧
            (∀ c1, off + bs.length = capLen → (keep u).mc.captures.find? (fun x => x.seq = c.seq) = some c1 →
              exec (.capturePiece a) s = .next (askMissing (keep (hostPost u (p + 32 + off) bs)) a.val c1))) ∧
          (k.pieces = [] → k.place = none → (winBuf s 25 < 2 ^ 18 ∨ tsMay s 16 129064 = false) → off + bs.length < capLen →
            exec (.capturePiece a) s = .next (keep (tsDiscard u 16 1)))))) ∧
  (∀ s : State, (s.mc.captures = [] → exec .captureTimeout s = .next s) ∧
    ∀ c cs, rootAlive s = true → s.mc.captures = c :: cs → let limit := c.since + 1000 * clampN 1000 8000 (fld s 0x3810 0 13)
      (s.mc.now < limit → exec .captureTimeout s = .next s) ∧
      (limit ≤ s.mc.now → (∀ x, x ∈ cs → capReady s x = false) →
        let part := countIf (fun k : CapNode => !k.done && !k.pieces.isEmpty && k.place.isSome) c.nodes
        let excl := c.excluded + countIf (fun k : CapNode => !k.done && k.pieces.isEmpty) c.nodes
        let full := countIf (fun k : CapNode => k.done && k.place.isSome) c.nodes
        Answers .captureTimeout s fun t => t.mc.captures = capNext s (cs.filter fun x => x.seq ≠ c.seq) ∧
          t.mc.partialCount = satAdd s.mc.partialCount part ∧ t.mc.lastSeq = s.mc.lastSeq ∧ t.regs = s.regs ∧
          (∀ p, p < 16 → (port t p).queue = (port s p).queue ++ if portCycles s p then bcastAll s p 0x0A (leBytes 1 c.seq.toNat) 7 else []) ∧
          EventRaised s t 26 (pack 64 [(0, 32, c.seq.toNat), (32, 10, full), (42, 10, part + excl), (52, 1, b2n c.forced)]))) ∧
  ∀ (s : State) (m : Fin 17), s.qe.running = true → canMaster s = true → domOn s 4 = true → rootAlive s = true →
    ((strm s m.val).openBuf = none → exec (.tsBufferFlush m) s = .next s) ∧
    ∀ b, (strm s m.val).openBuf = some b → let w := 9 + m.val
      let late := m.val = 16 ∧ capOwes s (tsAddr s 16) (winBuf s 25) = true
      Answers (.tsBufferFlush m) s fun t => (strm t m.val).openBuf = none ∧ (strm t m.val).seq = (strm s m.val).seq + 1 ∧
        (win t w).head = ringNext (winDepth s w) (win s w).head ∧ (∀ j, j ≠ w → win t j = win s j) ∧ t.regs = s.regs ∧ (late → SameBytes s t) ∧
        (¬ late → s.memWf → s.pcie.posted = [] → flag s (winBase w + 0xC) 8 = false → hostRead t (tsAddr s m.val) 32 =
          tsHeader (win s w).phase m.val b.used b.records (strm s m.val).seq.toNat b.firstTs b.lossBefore true)

/-! ### The channel table, the Mule and the Ox engine -/

/-- Channel-table and cache commands. Each command runs in its turn. CT_ATTACH checks its count, waits for the host, and resumes
the attached table or reads a new one, which it attaches or else keeps CT_FIRST_BAD. CT_FLUSH writes every dirty entry of its
range back, CE_INVALIDATE drops the entries of its range, CE_UPDATE merges bytes into an entry that keeps its identity and
answers its new WRITE_SEQ, CE_PIN pins or unpins a range within its limits, CT_REBUILD starts the preparation of the next
generation. Each is refused on its first failing check and waits while a batch holds its channels. DETACH drops everything. What
a command on HOLD, and one on an entry not cached, answers is the model's (logs 21, 110). (R35, R95, R117, R118, R119, R120,
R124, R126, R128, R129, R144, R153) -/
def Obligations.TableCommands : Prop :=
  let cached1 := fun (q : State) (c : Nat) (l : Line) => line q c = some l ∧ ∀ e, e ∈ q.ct.cache → e.1 = c → e.2 = l
  let waitsOn := fun (i : Instr) (s q : State) (k : Ticket) => ∃ w, w.ticket = k ∧ exec i s = .next { q with ct := { q.ct with waits := [w] } }
  (∀ (s q : State) (k : Ticket) (rq : Requester) (d : Desc), Taken specCtAttach rq d s q k → q.ct.waits = [] → let n := opn d 20 0 32
    let refused := bitOf d.ops 0 = true ∧ (q.ct.attached = false ∨ n ≠ q.ct.count)
    (∀ hf bad, (n = 0 ∨ 262144 < n ∨ fld q 0x2014 0 6 * 8192 < n) → exec (.ctAttach rq d hf bad) s = .next (complete q k stRange 0)) ∧
    (0 < n → n ≤ 262144 → n ≤ fld q 0x2014 0 6 * 8192 →
      (∀ hf bad, refused → exec (.ctAttach rq d hf bad) s = .next (complete q k stRefused 0)) ∧
      (∀ hf bad, ¬ refused → canMaster q = false → waitsOn (.ctAttach rq d hf bad) s q k) ∧
      (∀ hf bad, ¬ refused → canMaster q = true → bitOf d.ops 0 = true → q.ct.repin = [] → ∃ u, u.ct.hold = false ∧ u.ct.attached = true ∧
        u.ct.gen = q.ct.gen ∧ (∀ c l, line u c = some l → l.dirty = false) ∧
        u.ct.mule.again = (q.ct.mule.again || (q.ct.hold && decide (q.ct.mule.phase = 3))) ∧ u.ct.dir = q.ct.dir ∧
        exec (.ctAttach rq d hf bad) s = .next (complete u k stSuccess (BitVec.ofNat 64 q.ct.gen.toNat))) ∧
      (canMaster q = true → bitOf d.ops 0 = false → q.ct.mule.phase = 0 → let gen := fld q 0x200C 0 16
        (∀ bad, ∃ u, u.ct.attached = false ∧ u.ct.hostAccessErr = true ∧ u.ct.cache = [] ∧ u.mc.noPack = true ∧
          exec (.ctAttach rq d true bad) s = .next (complete u k stHostAccess 0)) ∧
        ∀ bad, let scan := scanTable q bad n gen
          (scan.bad = none → q.lp.jobs = [] → ∃ u, u.ct.attached = true ∧ u.ct.hold = false ∧ u.ct.gen = BitVec.ofNat 16 gen ∧ u.ct.count = n ∧
            u.ct.dir = scan.dir ∧ (∀ c, c ∈ scan.excluded → c ∈ u.ct.excluded) ∧ u.ct.cache = [] ∧ u.ct.calib = scan.calib ∧ u.ct.parents = scan.parents ∧
            u.ox.epoch = 0 ∧ u.ox.active = false ∧ exec (.ctAttach rq d false bad) s = .next (complete u k stSuccess (BitVec.ofNat 64 gen))) ∧
          ∀ b st, scan.bad = some (b, st) → ∃ u, u.ct.attached = false ∧ u.ct.firstBad = some b ∧ u.ct.cache = [] ∧ u.mc.noPack = true ∧
            exec (.ctAttach rq d false bad) s = .next (complete u k st 0)))) ∧
  (∀ (s q : State) (k : Ticket) (rq : Requester) (d : Desc), Taken specCtFlush rq d s q k → let a := d.target.toNat
    let cnt := opn d 16 0 32
    let n := if cnt = 0 then q.ct.count - a else cnt
    q.ct.waits = [] → q.ox.inFlight = [] →
    ((q.ct.count < a + n ∨ q.ct.count < a ∨ (q.ct.count ≤ a ∧ cnt ≠ 0)) → exec (.ctFlush rq d) s = .next (complete q k stRange 0)) ∧
    (a + n ≤ q.ct.count → (cnt = 0 ∨ a < q.ct.count) →
      (q.ct.hold = true → exec (.ctFlush rq d) s = .next (complete q k stRefused 0)) ∧
      (q.ct.hold = false → dirtyIn q a n ≠ 0 → tableReach q = false → waitsOn (.ctFlush rq d) s q k) ∧
      (q.ct.hold = false → (dirtyIn q a n = 0 ∨ tableReach q = true) → ∃ u,
        exec (.ctFlush rq d) s = .next (complete u k stSuccess (BitVec.ofNat 64 (dirtyIn q a n))) ∧ u.mpSram = q.mpSram ∧ u.flash = q.flash ∧
        (∀ c l, q.ct.cache = [(c, l)] → a ≤ c → c < a + n → l.dirty = true → u.hostMem = (entryPut q (entryAddr q c) l.data).hostMem) ∧
        ∀ c l, cached1 q c l → line u c = (if c < a ∨ a + n ≤ c then some l else if bitOf d.ops 32 && !l.pinned then none
          else some { l with dirty := false })))) ∧
  (∀ (s q : State) (k : Ticket) (rq : Requester) (d : Desc), Taken specCeInvalidate rq d s q k → let a := d.target.toNat
    let n := opn d 16 0 32
    q.ct.waits = [] → q.ox.inFlight = [] →
    (q.ct.count < a + n → exec (.ceInvalidate rq d) s = .next (complete q k stRange 0)) ∧
    (a + n ≤ q.ct.count → q.ct.hold = true → bitOf d.ops 32 = true → exec (.ceInvalidate rq d) s = .next (complete q k stRefused 0)) ∧
    (a + n ≤ q.ct.count → q.ct.hold = false → bitOf d.ops 32 = true → dirtyIn q a n ≠ 0 → tableReach q = false →
      waitsOn (.ceInvalidate rq d) s q k) ∧
    (a + n ≤ q.ct.count → (bitOf d.ops 32 = false ∨ (q.ct.hold = false ∧ (dirtyIn q a n = 0 ∨ tableReach q = true))) → ∃ u,
      exec (.ceInvalidate rq d) s =
        .next (complete u k stSuccess (BitVec.ofNat 64 (countIf (fun e : Nat × Line => a ≤ e.1 && e.1 < a + n) q.ct.cache))) ∧
      (∀ c, line u c = if c < a ∨ a + n ≤ c then line q c else none) ∧ (bitOf d.ops 32 = false → SameBytes q u))) ∧
  (∀ (s q : State) (k : Ticket) (rq : Requester) (d : Desc), Taken specCeUpdate rq d s q k → q.ct.waits = [] → let c := d.target.toNat
    let src : Entry := BitVec.ofNat 2048 (leNat (cmdRead q rq d.addr.toNat 256))
    let mask : BitVec 256 := d.ops.setWidth 256
    let barred := (q.ct.mule.phase = 1 ∨ q.ct.mule.phase = 3) ∧ bitsOf mask 0 64 ≠ 0
    let same := fun (e : Entry) => dirIdentity q.ct.dir c = some (eKind e, eNode e, eTap e) ∧ eGen e = q.ct.gen.toNat
    (∀ hf tf bad, q.ct.count ≤ c → exec (.ceUpdate rq d hf tf bad) s = .next (complete q k stRange 0)) ∧
    (c < q.ct.count →
      (∀ hf tf bad, q.ct.hold = true → exec (.ceUpdate rq d hf tf bad) s = .next (complete q k stRefused 0)) ∧
      (∀ hf tf bad, q.ct.hold = false → inBatch q c = true → waitsOn (.ceUpdate rq d hf tf bad) s q k) ∧
      (q.ct.hold = false → inBatch q c = false →
        (∀ hf tf bad, barred → exec (.ceUpdate rq d hf tf bad) s = .next (complete q k stRefused 0)) ∧
        (∀ tf bad, ¬ barred → exec (.ceUpdate rq d true tf bad) s = .next (complete q k stHostAccess 0)) ∧
        (∀ bad, ¬ barred → line q c = none → tableReach q = true →
          exec (.ceUpdate rq d false true bad) s = .next (complete (ctHostErr q) k stHostAccess 0)) ∧
        (∀ tf bad l, q.ct.mule.phase = 0 → line q c = some l → let e := mergeMask l.data src (byteMask mask)
          (same e → ∃ u, line u c = some { l with data := eSeal e, dirty := true, used := q.ct.clock } ∧ (∀ j, j ≠ c → line u j = line q j) ∧
            SameBytes q u ∧ (fullMask mask = true → c ∉ u.ct.excluded) ∧
            exec (.ceUpdate rq d false tf bad) s = .next (complete u k stSuccess (BitVec.ofNat 64 (eN (eSeal e) 248 4)))) ∧
          ((dirIdentity q.ct.dir c).isSome = true → ¬ same e → ∃ u, (∀ j, (line u j).map Line.data = (line q j).map Line.data) ∧ SameBytes q u ∧
            exec (.ceUpdate rq d false tf bad) s = .next (complete u k stRefused 0))) ∧
        (∀ bad w, q.ct.mule.phase = 0 → line q c = none → tableReach q = true → freeWay q c = some w → fullMask mask = true →
          let e := mergeMask (entryAt q (entryAddr q c)) src (byteMask mask)
          same e → ∃ u, SameBytes q u ∧ c ∉ u.ct.excluded ∧ line u c = some
              { data := eSeal e, way := w, dirty := true, pinned := false, reserved := false, used := q.ct.clock } ∧
            exec (.ceUpdate rq d false false bad) s = .next (complete u k stSuccess (BitVec.ofNat 64 (eN (eSeal e) 248 4))))))) ∧
  (∀ (s q : State) (k : Ticket) (rq : Requester) (d : Desc), Taken specCePin rq d s q k → let a := d.target.toNat
    let n := opn d 16 0 32
    let inSet := countIf (fun e : Nat × Line => e.2.pinned && e.1 % 256 = a % 256) q.ct.cache
    q.ct.waits = [] →
    (∀ tf bad, q.ct.count < a + n → exec (.cePin rq d tf bad) s = .next (complete q k stNotPresent 0)) ∧
    (∀ tf bad, a + n ≤ q.ct.count → bitOf d.ops 32 = false → ∃ u, SameBytes q u ∧ (∀ c l, line q c = some l →
      line u c = some { l with pinned := l.pinned && decide (c < a ∨ a + n ≤ c) }) ∧
      exec (.cePin rq d tf bad) s = .next (complete u k stSuccess (BitVec.ofNat 64 (pinnedCount u)))) ∧
    (a + n ≤ q.ct.count → bitOf d.ops 32 = true → let absent := ∃ c, a ≤ c ∧ c < a + n ∧ (c ∈ q.ct.excluded ∨ dirIdentity q.ct.dir c = none)
      ∀ tf bad, (absent → exec (.cePin rq d tf bad) s = .next (complete q k stNotPresent 0)) ∧
        (¬ absent → q.ct.hold = true → exec (.cePin rq d tf bad) s = .next (complete q k stRefused 0))) ∧
    (a + n ≤ q.ct.count → bitOf d.ops 32 = true → q.ct.hold = false →
      (n = 1 → a ∉ q.ct.excluded → (dirIdentity q.ct.dir a).isSome = true → q.ct.repin = [] →
        (∀ tf bad l, line q a = some l → l.pinned = true → pinnedCount q ≤ 512 → ∃ u, (∀ c, (line u c).map Line.data = (line q c).map Line.data) ∧
          exec (.cePin rq d tf bad) s = .next (complete u k stSuccess (BitVec.ofNat 64 (pinnedCount u)))) ∧
        (∀ tf bad, line q a = none → (512 ≤ pinnedCount q ∨ 2 ≤ inSet) → exec (.cePin rq d tf bad) s = .next (complete q k stLimit 0)) ∧
        (line q a = none → pinnedCount q < 512 → inSet < 2 → tableReach q = true →
          (∀ bad, exec (.cePin rq d true bad) s = .next (complete (ctHostErr q) k stHostAccess 0)) ∧
          ∀ bad w, freeWay q a = some w → let e := entryAt q (entryAddr q a)
            readFault q bad a e = none → ∃ u, SameBytes q u ∧
              (∃ l, line u a = some l ∧ l.data = e ∧ l.way = w ∧ l.pinned = true ∧ l.dirty = false) ∧
              exec (.cePin rq d false bad) s = .next (complete u k stSuccess (BitVec.ofNat 64 (pinnedCount u))))))) ∧
  (∀ (s q : State) (k : Ticket) (rq : Requester) (d : Desc), Taken specCtRebuild rq d s q k → q.ct.waits = [] → let n := opn d 16 0 32
    let m := opn d 20 0 32
    let cs := readChunks q rq d.addr.toNat m
    let skew := m ≤ 32 ∧ ∃ c, c ∈ cs ∧ c.toNat % 2097152 ≠ 0
    let busy := q.ct.attached = false ∨ q.ct.hold = true ∨ q.ct.mule.phase ≠ 0
    (skew → exec (.ctRebuild rq d false) s = .next (complete q k stAlignment 0)) ∧
    (∀ hf, (hf = true ∨ ¬ skew) → (m = 0 ∨ 32 < m ∨ n = 0 ∨ 262144 < n ∨ 8192 * m < n) →
      exec (.ctRebuild rq d hf) s = .next (complete q k stRange 0)) ∧
    (0 < m → m ≤ 32 → 0 < n → n ≤ 262144 → n ≤ 8192 * m →
      (∀ hf, (hf = true ∨ ¬ skew) → busy → exec (.ctRebuild rq d hf) s = .next (complete q k stRefused 0)) ∧
      (¬ busy → exec (.ctRebuild rq d true) s = .next (complete q k stHostAccess 0)) ∧
      (¬ skew → ¬ busy → exec (.ctRebuild rq d false) s = .next (complete
        { q with ct := { q.ct with mule := { Mule.reset with phase := 1, nextGen := q.ct.gen + 1, chunks := cs, count := n } } } k stSuccess
        (BitVec.ofNat 64 (q.ct.gen + 1).toNat))))) ∧
  ∀ (s : State) (via : Via) (w : Word), via ≠ .sideband → viaReach s via = true → domOn s 4 = true → rootAlive s = true →
    (bitOf w 0 = false → Answers (.detach via w) s fun t => flag t 0x2000 1 = bitOf w 1 ∧ flag t 0x2000 2 = bitOf w 2 ∧ t.ct = s.ct ∧ SameBytes s t) ∧
    (bitOf w 0 = true → s.ct.attached = true → Answers (.detach via w) s fun t => t.ct.attached = false ∧ t.ct.cache = [] ∧ t.ct.count = 0 ∧
      t.ct.hold = s.ct.hold ∧ t.ct.waits = [] ∧ t.ct.mule.phase = 0 ∧ t.ox.active = false ∧ t.ox.inFlight = [])

/-- The Mule and the cache scrub. A scrub counts what it corrects, and drops an entry it cannot, with EV30 and, for a dirty one,
the cache error line; an error in the tag of a set that holds a dirty entry drops the whole set (the model's reading, log 109).
The preparation reads the next template entries; a bad one ends the rebuild with its status in EV28, the last good one leaves it
waiting. Its copy epoch starts with the next epoch, is repeated in full where it was cut or a second copy is open, and, once
complete, the replay begins without an epoch; the switch installs the generation, empties the cache, starts an epoch and reports
the records replayed. A read that ends in an error sets HOST_ACCESS_ERR and leaves its step to be tried again (the model's, log 108). (R134, R135, R145, R146, R147, R149, R150, R151, R152) -/
def Obligations.MuleAndScrub : Prop :=
  let ended := fun (gen : BitVec 16) (m : Mule) (st n : Nat) =>
    pack 64 [(0, 16, gen.toNat), (16, 8, st), (24, 8, if m.copyEpochs < 255 then m.copyEpochs else 255), (32, 16, sat16 n)]
  (∀ s : State, (domOn s 4 = false ∨ rootAlive s = false ∨ flag s 0x2000 2 = false) → ∀ es f, exec (.cacheScrub es f) s = .next s) ∧
  (∀ (s : State) (f : Bool), domOn s 4 = true → rootAlive s = true → flag s 0x2000 2 = true → exec (.cacheScrub [] f) s = .next s ∧
    ∀ c l, line s c = some l →
      exec (.cacheScrub [(c, 0)] f) s = .next { s with ct := { s.ct with corr := satInc s.ct.corr } } ∧
      (s.ct.repin = [] →
        (l.pinned = true → l.dirty = false → tableReach s = true → Answers (.cacheScrub [(c, 1)] true) s fun t =>
          t.ct.repin = [c] ∧ t.ct.hostAccessErr = true ∧ line t c = none ∧ t.ct.uncorr = satInc s.ct.uncorr) ∧
        (l.pinned = false → l.reserved = false → ∀ tag : Bool, (tag = false ∨ ∀ e, e ∈ s.ct.cache → e.1 % 256 = c % 256 → e.2.dirty = false) →
          Answers (.cacheScrub [(c, if tag then 2 else 1)] f) s fun t =>
            t.ct = { s.ct with uncorr := satInc s.ct.uncorr, cache := Sparse.del s.ct.cache c } ∧
            (l.dirty = true → (Sparse.get? t.flt.lines 5).isSome = true) ∧ (l.dirty = false → t.flt = s.flt) ∧
            EventRaised s t 30 (pack 64 [(0, 8, c % 256), (8, 4, l.way), (16, 1, 1), (17, 1, b2n l.dirty), (18, 1, b2n tag)])) ∧
        ((∃ e, e ∈ s.ct.cache ∧ e.1 % 256 = c % 256 ∧ e.2.dirty = true) →
          (∀ e, e ∈ s.ct.cache → e.1 % 256 = c % 256 → e.2.pinned = false ∧ e.2.reserved = false ∧ line s e.1 = some e.2) →
          Answers (.cacheScrub [(c, 2)] f) s fun t => (∀ j, line t j = if j % 256 = c % 256 then none else line s j) ∧
            (Sparse.get? t.flt.lines 5).isSome = true))) ∧
  (∀ s : State, (rootAlive s = false ∨ tableReach s = false ∨ s.ct.mule.phase ≠ 1) → ∀ f bad, exec (.mulePrepare f bad) s = .next s) ∧
  (∀ s : State, rootAlive s = true → tableReach s = true → s.ct.mule.phase = 1 → let m := s.ct.mule
    let c := m.prepNext
    (∀ bad, exec (.mulePrepare true bad) s = .next (ctHostErr s)) ∧
    ∀ bad, let e := entryAt s (shadowAddr s c)
      let r := scanEntry m.nextGen.toNat c false (crcFails s bad c e) e { TableScan.empty with dir := m.dir, parents := m.parents }
      (∀ b st, r.bad = some (b, st) → Answers (.mulePrepare false bad) s fun t => t.ct.firstBad = some b ∧ t.ct.mule.phase = 0 ∧
        t.ct.attached = true ∧ t.ct.dir = s.ct.dir ∧ EventRaised s t 28 (ended s.ct.gen m st 0)) ∧
      (r.bad = none → fld s 0x2028 0 7 ≤ 1 → exec (.mulePrepare false bad) s = .next { s with ct := { s.ct with mule := { m with
        dir := r.dir, parents := r.parents, caps := if eKind e = 2 ∨ eKind e = 4 then Sparse.set m.caps c (eN e 38 4) else m.caps
        tseq := if eCarry e = true ∧ eKind e ≠ 0 then Sparse.set m.tseq c (eN e 248 4) else m.tseq
        prepNext := c + 1, phase := if c + 1 < m.count then 1 else 2 } } })) ∧
  (∀ s : State, oxRuns s = true → s.ox.active = false → s.ct.attached = true →
    (s.ct.mule.phase = 2 → Answers .epochBoundary s fun t => t.ct.mule.phase = 3 ∧ t.ct.mule.copyEpochs = 1 ∧ t.ct.mule.log = [] ∧
      t.ox.active = true ∧ SameBytes s t) ∧
    (s.ct.mule.phase = 3 → (s.ct.mule.again = true ∨ s.ct.mule.recopy ≠ []) → Answers .epochBoundary s fun t => t.ct.mule.phase = 3 ∧
      t.ct.mule.copied = [] ∧ t.ct.mule.log = [] ∧ t.ct.mule.recopy = [] ∧ t.ct.mule.copyEpochs = s.ct.mule.copyEpochs + 1 ∧
      t.ct.mule.again = false ∧ t.ox.active = true ∧ SameBytes s t) ∧
    (s.ct.mule.phase = 3 → s.ct.mule.again = false → s.ct.mule.recopy = [] → tableReach s = true → Answers .epochBoundary s fun t =>
      t.ct.mule.phase = 4 ∧ t.ct.mule.log = s.ct.mule.log ∧ t.ox.active = false ∧ t.ct.gen = s.ct.gen) ∧
    ((s.ct.mule.phase = 4 ∨ (s.ct.mule.phase = 3 ∧ s.ct.mule.again = false ∧ s.ct.mule.recopy = [] ∧ tableReach s = false)) →
      Answers .epochBoundary s fun t => t.ct = s.ct ∧ t.ox.active = false ∧ SameBytes s t)) ∧
  ∀ s : State, ((s.ct.mule.phase ≠ 4 ∨ tableReach s = false) → ∀ f bad, exec (.muleSwitch f bad) s = .next s) ∧
    (s.ct.mule.phase = 4 → tableReach s = true → ∀ bad, exec (.muleSwitch true bad) s = .next (ctHostErr s)) ∧
    (s.ct.mule.phase = 4 → tableReach s = true → s.ct.waits = [] → ∀ bad, Answers (.muleSwitch false bad) s fun t => t.ct.gen = s.ct.mule.nextGen ∧
      t.ct.dir = s.ct.mule.dir ∧ t.ct.count = s.ct.mule.count ∧ t.ct.cache = [] ∧ (∀ h, h ∈ s.ct.mule.failed → h ∈ t.ct.excluded) ∧ t.ct.attached = true ∧
      t.ct.mule.phase = 0 ∧ t.ox.active = true ∧ t.ox.nextBatch = 0 ∧
      ((∀ e, e ∈ s.ct.cache → e.2.dirty = false) → s.ct.mule.recopy = [] →
        EventRaised s t 28 (ended s.ct.mule.nextGen s.ct.mule stSuccess s.ct.mule.log.length)))

/-- Epochs of the Ox engine. An epoch boundary puts waiting register writes into force and makes a LATCH due; it starts an epoch
where none runs and a table is attached, and one that overruns counts. A batch is fetched in turn while there is room and its
channels are reserved; the oldest batch passes, and a CELL or TEMP channel of a quarantined node only gets its status bit; the
epoch ends with its last batch, counts and raises EV27. A fit takes the next waiting tap, and is held for its channel, rejected,
or not computed. (R29, R30, R123, R231, R267, R268, R270, R271, R273, R275, R306, R313) -/
def Obligations.OxEpochs : Prop :=
  (∀ s : State, oxRuns s = false → (∀ i ∈ [Instr.epochBoundary, .epochEnd, .fitCompute], exec i s = .next s) ∧
    ∀ es f bad, exec (.batchFetch es f bad) s = .next s ∧ exec (.batchPass es f) s = .next s) ∧
  (∀ s : State, oxRuns s = true → let s1 : State := { s with
      regs := (s.regs.applyLate s.otp oxReg).applyCaptured s.otp oxReg
      ox := { s.ox with commit := false }
      lp := { s.lp with latchDue := true } }
    (s.ox.active = true → exec .epochBoundary s = .next { s1 with ox := { s1.ox with
      overruns := satInc s.ox.overruns, overran := true, paused := s.ox.paused || !tableReach s } }) ∧
    (s.ox.active = false → s.ct.attached = false → exec .epochBoundary s = .next s1) ∧
    (s.ox.active = false → s.ct.attached = true → s.ct.mule.phase ≤ 1 → exec .epochBoundary s = .next { s1 with ox := { s1.ox with
      active := true, started := true, nextBatch := 0, inFlight := [], maxBatches := if pinnedCount s = 0 then 6 else 5
      overran := false, paused := !tableReach s, fitsApplied := 0 } })) ∧
  (∀ s : State, oxRuns s = true → s.ox.active = true → let b := s.ox.nextBatch
    ((tableReach s = false ∨ s.ct.count ≤ 496 * b ∨ s.ox.maxBatches ≤ s.ox.inFlight.length) → ∀ es f bad, exec (.batchFetch es f bad) s = .next s) ∧
    (tableReach s = true → 496 * b < s.ct.count → s.ox.inFlight.length < s.ox.maxBatches → s.ct.repin = [] → ∀ bad, let cs := batchChannels s b
      (batchFits s cs = false → ∀ f, exec (.batchFetch [] f bad) s = .next s) ∧
      (batchFits s cs = true → exec (.batchFetch [] true bad) s = .next (ctHostErr s) ∧
        Answers (.batchFetch [] false bad) s fun t => t.ox.nextBatch = b + 1 ∧ t.ox.inFlight = s.ox.inFlight ++ [b] ∧
          t.ox.epoch = s.ox.epoch ∧ t.lp = s.lp ∧ t.regs = s.regs ∧ ((∀ c, c ∈ cs → (line s c).isSome = true) → SameBytes s t ∧
            ∀ c l, c ∈ cs → line s c = some l → ∃ l', line t c = some l' ∧ l'.reserved = true ∧ l'.data = l.data))) ∧
    (s.ox.inFlight = [] → ∀ es f, exec (.batchPass es f) s = .next s) ∧
    (tableReach s = false → ∀ es f, exec (.batchPass es f) s = .next s) ∧
    (∀ b rest, tableReach s = true → s.ox.inFlight = b :: rest → s.ct.waits = [] → (∀ es f, Answers (.batchPass es f) s fun t => t.ox.inFlight = rest ∧
        t.ox.epoch = s.ox.epoch ∧ t.ox.nextBatch = s.ox.nextBatch) ∧
      (s.ct.mule.phase ≠ 3 → s.ct.mule.recopy = [] → ∀ f, Answers (.batchPass [] f) s fun t =>
        ∀ c l, line s c = some l → (∀ e, e ∈ s.ct.cache → e.1 = c → e.2 = l) →
          (c / 496 ≠ b ∨ l.reserved = false → line t c = some l) ∧
          (c / 496 = b → l.reserved = true → eExclude l.data = false → eKind l.data = 1 ∨ eKind l.data = 3 →
            quarantined s (eNode l.data) = true → eStatus l.data 1 = false →
            line t c = some { l with data := eSeal (eSetStatus l.data 1 true), dirty := false, reserved := false }))) ∧
    (tableReach s = true → s.ct.count ≤ 496 * b → s.ox.inFlight = [] → s.ox.parkLeft = [] → Answers .epochEnd s fun t =>
      OnlyEvents { s with ox := { s.ox with epoch := s.ox.epoch + 1, active := false } } t ∧ EventRaised s t 27
        (pack 64 [(0, 32, (s.ox.epoch + 1).toNat), (32, 16, sat16 s.ox.fitsApplied), (48, 1, b2n s.ox.overran), (49, 1, b2n s.ox.paused)])) ∧
    ((s.ct.count > 496 * b ∨ s.ox.inFlight ≠ [] ∨ tableReach s = false) → exec .epochEnd s = .next s)) ∧
  ∀ s : State, oxRuns s = true → (s.ox.fits = [] → exec .fitCompute s = .next s) ∧
    ∀ j rest t ts, s.ox.fits = j :: rest → j.taps = t :: ts →
      let s1 : State := { s with ox := { s.ox with fits := if ts = [] then rest else { j with taps := ts } :: rest } }
      (dirChannel s.ct.dir 1 j.node t = none → exec .fitCompute s = .next s1) ∧
      ∀ c x xs, dirChannel s.ct.dir 1 j.node t = some c → capTap j.pieces (groupTap s j.node t) = x :: xs →
        let fit := computeFit ((capTap j.pieces t).map fun (x : Int) => (x : Rat) * 4 / 10000000) (0 :: xs.map fun (x : Int) => (x : Rat) / 100000)
          (natQ (fld s 0x280C 0 16) / 1000000) (if fld s 0x280C 16 10 < 1000 then fld s 0x280C 16 10 else 1000) j.capture j.refTs
        (fit = none → exec .fitCompute s = .next s1) ∧
        (∀ f, fit = some (f, true) → exec .fitCompute s =
          .next { s1 with ox := { s1.ox with computed := s.ox.computed + 1, rejected := satInc s.ox.rejected } }) ∧
        ∀ f, fit = some (f, false) → Answers .fitCompute s fun u => (Sparse.getD u.ox.pend c ChanPend.empty).fit = some f ∧
          u.ox.computed = s.ox.computed + 1 ∧ u.ox.rejected = s.ox.rejected ∧ u.ox.fits = s1.ox.fits ∧ u.ct = s.ct ∧ SameBytes s u ∧
          u.ox.dropped = (if (Sparse.getD s.ox.pend c ChanPend.empty).fit.isSome then satInc s.ox.dropped else s.ox.dropped)

/-- Snapshots of estimates. EST_SNAPSHOT and EST_RESTORE complete with RANGE for another target; for the gauge with NOT_POWERED
without PD_MP, REFUSED without the firmware. A snapshot of the gauge is 96 bytes with its format, body and CRC, one of the
parking state 32 and 24 for each record, and takes RANGE where it does not fit and NOT_PRESENT where there is none. A restore
takes nothing from a snapshot that fails a check, and else the gauge or the parking records, which their channels take at their
next pass. (R308, R309, R310, R311, R600) -/
def Obligations.Snapshots : Prop :=
  let framed := fun (bs body : List Byte) (tg : Nat) => bs.length = 32 + body.length ∧ bs.drop 32 = body ∧ leField bs 0 2 = 0x0601 ∧
    leField bs 2 1 = tg ∧ leField bs 28 4 = crc32 (bs.take 28 ++ body)
  (∀ (s q : State) (k : Ticket) (rq : Requester) (d : Desc), Taken specEstSnapshot rq d s q k → let tg := d.target.toNat
    let len := opn d 16 0 32
    (1 < tg → exec (.estSnapshot rq d) s = .next (complete q k stRange 0)) ∧
    (tg ≤ 1 → domOn q (if tg = 0 then 3 else 4) = false → exec (.estSnapshot rq d) s = .next (complete q k stNotPowered 0)) ∧
    (tg = 0 → domOn q 3 = true → q.glb.mpRunning = false → exec (.estSnapshot rq d) s = .next (complete q k stRefused 0)) ∧
    (tg = 0 → domOn q 3 = true → q.glb.mpRunning = true →
      (len < 96 → exec (.estSnapshot rq d) s = .next (complete (takeFree q) k stRange 0)) ∧
      (96 ≤ len → ∃ bs, framed bs (gaugeBytes q.gauge) 0 ∧ bs.length = 96 ∧
        exec (.estSnapshot rq d) s = .next (complete (cmdWrite (takeFree q) rq d.addr.toNat bs) k stSuccess 96))) ∧
    (tg = 1 → domOn q 4 = true →
      ((q.park = none ∨ q.ox.parkValid = false) → exec (.estSnapshot rq d) s = .next (complete q k stNotPresent 0)) ∧
      ∀ p, q.park = some p → q.ox.parkValid = true → ∃ bs, framed bs (p.recs.flatMap parkBytes) 1 ∧ bs.length = 32 + 24 * p.recs.length ∧
        (len < bs.length → exec (.estSnapshot rq d) s = .next (complete q k stRange 0)) ∧
        (bs.length ≤ len → exec (.estSnapshot rq d) s =
          .next (complete (cmdWrite q rq d.addr.toNat bs) k stSuccess (BitVec.ofNat 64 bs.length))))) ∧
  ∀ (s q : State) (k : Ticket) (rq : Requester) (d : Desc), Taken specEstRestore rq d s q k → let tg := d.target.toNat
    let len := opn d 16 0 32
    let b := cmdRead q rq d.addr.toNat (if len < 49024 then len else 49024)
    (∀ hf, 1 < tg → exec (.estRestore rq d hf) s = .next (complete q k stRange 0)) ∧
    (∀ hf, tg ≤ 1 → domOn q (if tg = 0 then 3 else 4) = false → exec (.estRestore rq d hf) s = .next (complete q k stNotPowered 0)) ∧
    (∀ hf, tg = 0 → domOn q 3 = true → q.glb.mpRunning = false → exec (.estRestore rq d hf) s = .next (complete q k stRefused 0)) ∧
    (tg ≤ 1 → domOn q (if tg = 0 then 3 else 4) = true → (tg = 0 → q.glb.mpRunning = true) →
      exec (.estRestore rq d true) s = .next (complete q k stHostAccess 0) ∧
      ((len < 32 ∨ leField b 0 2 ≠ 0x0601 ∨ leField b 2 1 ≠ tg ∨ leField b 4 4 ≠ len ∨
          len ≠ (if tg = 0 then 96 else 32 + 24 * leField b 16 2) ∨ (tg = 1 ∧ 2040 < leField b 16 2)) →
        exec (.estRestore rq d false) s = .next (complete q k stInvalidField 0)) ∧
      (leField b 0 2 = 0x0601 → leField b 2 1 = tg → leField b 4 4 = len → len = (if tg = 0 then 96 else 32 + 24 * leField b 16 2) →
        (tg = 1 → leField b 16 2 ≤ 2040) → let right := leField b 28 4 = crc32 (b.take 28 ++ b.drop 32)
        (¬ right → exec (.estRestore rq d false) s = .next (complete q k stCrcError 0)) ∧
        (right → tg = 1 → leField b 14 2 ≠ q.ct.gen.toNat → exec (.estRestore rq d false) s = .next (complete q k stStale 0)) ∧
        (right → tg = 0 → exec (.estRestore rq d false) s =
          .next (complete { q with gauge := gaugeOf q.gauge (b.drop 32) } k stSuccess (BitVec.ofNat 64 len))) ∧
        (right → tg = 1 → leField b 14 2 = q.ct.gen.toNat → ∃ u p, u.park = some p ∧ p.gen = q.ct.gen.toNat ∧ u.ox.parkValid = true ∧
          p.recs = (pieces 24 (leField b 16 2) (b.drop 32)).map parkOf ∧ u.ct = q.ct ∧ SameBytes q u ∧ u.ox.parkLeft = parkDue u ∧
          exec (.estRestore rq d false) s = .next (complete u k stSuccess (BitVec.ofNat 64 len)))))

/-! ### The charger, pack authentication and the backup gauge -/

/-- The charger's commands and its control tick. CHG_CONFIG completes with the first check its block fails, and else its block
takes effect at the next tick. CHG_REVERSE with enable 0 completes with SUCCESS; with enable 1 it needs the fuse bit and its
ranges, changes a reverse mode that runs, and else stops the stage, keeps both gates off for a tick and then turns the vehicle
gate on, before the conditions are judged again. A tick takes its measurements, the BNTC temperature among them, counts IB into
CHG_QB, holds DISABLED what is blocked, starts to qualify the first candidate where there is need, and ends a session on an
over-voltage of the pack; in a session it moves the current reference toward the set current, sets the references of the port A
loops, reports the stage's mode by R448 and as LOOP the loop with the least demand (the lowest code of equal ones is the model's,
log 111), and stands still while Voc is measured. In retention VB, IB and CHG_QB go on. The tick also makes the step of TRIM that
falls in it, before the rest (the model's, log 126). (R15, R447, R449, R452, R455, R456, R459, R468, R471, R472, R475, R477) -/
def Obligations.ChargerControl : Prop :=
  (∀ (s q : State) (k : Ticket) (rq : Requester) (d : Desc), Taken specChgConfig rq d s q k →
    let b : BitVec 512 := BitVec.ofNat 512 (leNat (cmdRead q rq d.addr.toNat 64))
    (reqIsMp rq = false → exec (.chgConfig rq d true) s = .next (complete q k stHostAccess 0)) ∧
    ∀ hf, (hf = false ∨ reqIsMp rq = true) →
      ((cU b 0 2 ≠ 0x0A01 ∨ bitsOf b 22 2 ≠ 0) → exec (.chgConfig rq d hf) s = .next (complete q k stInvalidField 0)) ∧
      (cU b 0 2 = 0x0A01 → bitsOf b 22 2 = 0 → (cU b 3 1 = 0 ∨ cU b 4 2 < 14000 ∨ 14600 < cU b 4 2 ∨ cU b 4 2 % 10 ≠ 0 ∨ cI b 18 ≤ cI b 17) →
        exec (.chgConfig rq d hf) s = .next (complete q k stRange 0)) ∧
      (chgCheck b = none → exec (.chgConfig rq d hf) s = .next { q with chg := { q.chg with cfgNext := q.chg.cfgNext ++ [(b, k)] } })) ∧
  (∀ (s q : State) (k : Ticket) (rq : Requester) (d : Desc), Taken specChgReverse rq d s q k → let v := opn d 18 0 16
    let i := opn d 20 0 16
    (opn d 16 0 1 = 0 →
      ((v ≠ 0 ∨ i ≠ 0) → exec (.chgReverse rq d) s = .next (complete q k stInvalidField 0)) ∧
      (v = 0 → i = 0 → q.chg.state ≠ .reverse → q.chg.revStart = 0 → exec (.chgReverse rq d) s = .next (complete q k stSuccess 0)) ∧
      (v = 0 → i = 0 → q.chg.state = .reverse → q.chg.revStart = 0 → ∃ u, u.chg.state = .idle ∧ u.chg.endReason = 1 ∧ u.chg.vehGate = false ∧
        u.chg.revV = 0 ∧ EventRaised q u 46 (pack 64 [(0, 4, 6), (4, 2, Source.vehicle.code), (8, 4, 1), (16, 16, q.chg.va), (32, 16, q.chg.pIn)]) ∧
        exec (.chgReverse rq d) s = .next (complete u k stSuccess 0))) ∧
    (opn d 16 0 1 = 1 → q.flt.faultState = false →
      (flag q 0x604C 0 = false → exec (.chgReverse rq d) s = .next (complete q k stAccessDenied 0)) ∧
      (flag q 0x604C 0 = true → (v < 2000 ∨ 3200 < v ∨ i < 10 ∨ 800 < i) → exec (.chgReverse rq d) s = .next (complete q k stRange 0)) ∧
      (flag q 0x604C 0 = true → 2000 ≤ v → v ≤ 3200 → 10 ≤ i → i ≤ 800 →
        (revRefused q v false = some stRefused → exec (.chgReverse rq d) s = .next (complete q k stRefused 0)) ∧
        (revRefused q v false = none → q.chg.state = .reverse →
          exec (.chgReverse rq d) s = .next (complete { q with chg := { q.chg with revV := v, revI := i } } k stSuccess 0)) ∧
        (revRefused q v false = none → q.chg.state ≠ .reverse → q.chg.revStart = 0 → Answers (.chgReverse rq d) s fun t =>
          t.chg.vehGate = false ∧ t.chg.pvGate = false ∧ t.chg.revV = v ∧ t.chg.revI = i ∧ t.chg.revStart = 3 ∧ t.chg.revTickets = [k] ∧
          t.chg.mode = .stopped ∧ (inSession q = false → SameBytes q t))))) ∧
  (∀ (s : State) (via : Via), viaReach s via = true → domOn s 11 = true → exec (.chgQbLoRead via) s = .next { s with
    chg := { s.chg with qbHi := s.chg.qb.extractLsb' 32 16 }, readData := s.chg.qb.setWidth 32 }) ∧
  (∀ (r : State) (x : ChgSample), let s := trimTick r
    ((rootAlive s = false ∧ domOn s 11 = true) ∨ (domOff s 11 = true ∧ domOn s 11 = false)) → exec (.chgControlTick x) r = .next s) ∧
  (∀ (r : State) (x : ChgSample), let s := trimTick r
    domOn s 11 = false → domOff s 11 = false → let ib := shuntAmps x.shuntB (cU (chgBlock s) 30 2)
    exec (.chgControlTick x) r = .next { s with chg := { s.chg with
      vb := ((x.vbak.toNat : Int) - roundDiv x.shuntB.toInt 1000).toNat, ib := ib
      qb := s.chg.qb + BitVec.ofInt 48 ((s.chg.qbRem + ib) / 100), qbRem := (s.chg.qbRem + ib) % 100 } }) ∧
  (∀ r : State, mpRuns r = false ∨ (r.mp.trimGoal = none ∧ r.mp.itemsWait = false) → trimTick r = r) ∧
  ∀ (r : State) (x : ChgSample), let s := trimTick r
    rootAlive s = true → domOn s 11 = true →
    let ia := shuntAmps x.shuntA (cU (chgBlock s) 28 2)
    let ib := shuntAmps x.shuntB (cU (chgBlock s) 30 2)
    let vb := ((x.vbak.toNat : Int) - roundDiv x.shuntB.toInt 1000).toNat
    let total := s.chg.qbRem + ib
    (Answers (.chgControlTick x) r fun t => t.chg.va = x.va.toNat ∧ t.chg.ia = ia ∧ t.chg.vb = vb ∧ t.chg.ib = ib ∧
      (∀ tmp, s.chg.cfg.isSome = true → bntcTemp s x.bntc.toNat = some tmp → t.chg.tBntc = tmp) ∧ t.chg.pIn = (roundDiv ((x.va.toNat : Int) * ia) 1000).natAbs ∧ t.chg.tj = x.tj.toInt ∧ t.chg.qb = s.chg.qb + BitVec.ofInt 48 (total / 100) ∧ t.chg.qbRem = total % 100 ∧ t.chg.cfgNext = []) ∧
    (∀ b k, s.chg.cfgNext = [(b, k)] → Answers (.chgControlTick x) r fun t => t.chg.cfg = some b) ∧
    let low := s.chg.cfg.isSome = true → vb ≤ cvTarget s + 400
    (s.chg.cfgNext = [] → s.regs.late = [] → s.chg.revStart = 0 →
      (low → s.chg.state = .idle → s.chg.pvGate = false → s.chg.vehGate = false →
        (fwdBlocked s = true → Answers (.chgControlTick x) r fun t => t.chg.state = .disabled ∧ SameBytes s t) ∧
        (∀ c cs, fwdBlocked s = false → s.chg.waitRechg = false → s.chg.retryWait = false → candidates s = c :: cs →
          1 ≤ s.chg.band → s.chg.band ≤ 3 → vb + 100 < cvMv s → Answers (.chgControlTick x) r fun t =>
            t.chg.state = .qualifying ∧ t.chg.cand = c ∧ t.chg.qualMs = 0 ∧ t.chg.source = .none ∧ SameBytes s t)) ∧
      (inSession s = true → flag s 0x6000 0 = false → bitOf s.chg.faults 3 = false → cvTarget s + 400 < vb → Answers (.chgControlTick x) r fun t =>
        bitOf t.chg.faults 3 = true ∧ t.chg.state = .disabled ∧ t.chg.pvGate = false ∧ t.chg.vehGate = false ∧
        (Sparse.get? t.flt.lines 15).isSome = true) ∧
      (s.chg.state = .cc → fwdBlocked s = false → vb ≤ cvTarget s + 400 → x.va.toNat ≤ 6000 →
        ((∀ w, s.chg.sweep = some w → w.vocMs = 0) → x.peak.toNat < cycleLimit s → 4000 ≤ x.boot.toNat →
          Answers (.chgControlTick x) r fun t => SameBytes s t ∧ t.chg.faults = s.chg.faults ∧
            t.chg.mode = stageMode (10 * x.va.toNat) vb ∧ t.chg.iRef = toward s.chg.iRef (bandCurrent s) 200 ∧
            t.chg.cvRef = cvTarget s ∧ t.chg.iinRef = cU (chgBlock s) 12 2 ∧
            t.chg.vinRef = (if s.chg.source = .panel then 10 * s.chg.vref else cU (chgBlock s) 14 2) ∧
            let ds : List (Nat × Rat) := [(1, natQ t.chg.iRef), (2, natQ x.cv.toNat), (3, thermalLimit t), (4, natQ x.iin.toNat), (5, natQ x.vin.toNat)]
            ∃ d, d ∈ ds ∧ t.chg.loop = d.1 ∧ ∀ e, e ∈ ds → d.2 ≤ e.2 ∧ (e.2 = d.2 → d.1 ≤ e.1)) ∧
        ∀ w, s.chg.sweep = some w → 1 < w.vocMs → Answers (.chgControlTick x) r fun t => t.chg.mode = .stopped ∧ t.chg.loop = 0 ∧
          t.chg.iRef = 0 ∧ t.chg.sweep = some { w with vocMs := w.vocMs - 1 } ∧ t.chg.vref = s.chg.vref)) ∧
    (low → s.chg.cfgNext = [] → s.regs.late = [] → 1 < s.chg.revStart → s.chg.state = .idle → s.chg.pvGate = false → s.chg.vehGate = false →
      Answers (.chgControlTick x) r fun t => t.chg.revStart = s.chg.revStart - 1 ∧ t.chg.vehGate = decide (s.chg.revStart = 2) ∧
        t.chg.pvGate = false ∧ t.chg.state = .idle ∧ SameBytes s t)

/-- Charge sources, MPPT, bands and timers. A qualified source is taken with EV46: a panel starts a sweep, a vehicle a session
in the state its VB and band give. A lost one ends the session with both gates off. A perturb step reverses unless the power
rose and moves V_REF by 0.5 %; a sweep keeps its best step, the higher voltage of two equal ones, which V_REF takes at its end,
with EV46 where that moves it by more than 5 %; a periodic one first stops the stage for 20 ms. A band outside the limits
suspends a session. The timers latch their faults and end what they block, each once its time has run in the charger's own ticks; CV ends
with DONE below ITERM, and a recharge condition makes it IDLE again; a reverse check below the minimum ends reverse mode. (R455,
R456, R457, R458, R459, R460, R461, R462, R465, R466, R467, R468) -/
def Obligations.ChargerEvents : Prop :=
  let det := fun (kind : Nat) (src : Source) (reason v p : Nat) => pack 64 [(0, 4, kind), (4, 2, src.code), (8, 4, reason), (16, 16, v), (32, 16, p)]
  let off := fun (t : State) => t.chg.source = .none ∧ t.chg.pvGate = false ∧ t.chg.vehGate = false
  let shown := fun (s : State) => if s.chg.source = .panel then s.chg.vref else s.chg.va
  ∀ s : State, chgRuns s = true → let c := s.chg
    (c.qualMs < 1001 → exec .chgSourceQualified s = .next s) ∧
    (c.state = .qualifying → c.source = .none → 1001 ≤ c.qualMs → wakeOnSource s = false →
      (c.cand = .panel → Answers .chgSourceQualified s fun t => t.chg.source = .panel ∧ t.chg.pvGate = true ∧ t.chg.vehGate = false ∧
        t.chg.voc = vocMean s ∧ t.chg.vref = sweepV (vocMean s) 0 ∧ t.chg.sweep = some { vocMs := 0, step := 0, best := none, vref0 := c.vref } ∧
        t.chg.state = .qualifying ∧ EventRaised s t 46 (det 1 .panel 0 c.va c.pIn)) ∧
      (c.cand = .vehicle → 6000 ≤ c.vb → Answers .chgSourceQualified s fun t => t.chg.source = .vehicle ∧ t.chg.vehGate = true ∧
        t.chg.sessions = satInc c.sessions ∧ t.chg.timerHalf = 0 ∧ EventRaised s t 46 (det 1 .vehicle 0 c.va c.pIn) ∧
        t.chg.state = (if c.band = 0 ∨ c.band = 4 then .suspended else if c.vb < 10000 then .precharge else .cc)) ∧
      (c.cand = .vehicle → c.vb < 6000 → bitOf c.faults 2 = false → Answers .chgSourceQualified s fun t => bitOf t.chg.faults 2 = true ∧
        t.chg.state = .disabled ∧ off t ∧ t.chg.sessions = c.sessions)) ∧
    (c.retryMs < 60000 → exec .chgSourceRetry s = .next s) ∧
    (60000 ≤ c.retryMs → exec .chgSourceRetry s = .next { s with chg := { c with retryWait := false, retryMs := 0 } }) ∧
    (c.vaLowMs < 10 → (inSession s = false ∨ c.weakMs < 60000) → exec .chgSourceLost s = .next s) ∧
    (inSession s = true → c.source ≠ .none → 10 ≤ c.vaLowMs → Answers .chgSourceLost s fun t => t.chg.state = .idle ∧ off t ∧
      EventRaised s t 46 (det 3 c.source 2 (shown s) c.pIn)) ∧
    (inSession s = true → c.source ≠ .none → c.vaLowMs < 10 → 60000 ≤ c.weakMs → Answers .chgSourceLost s fun t =>
      t.chg.state = .idle ∧ off t ∧ EventRaised s t 46 (det 3 c.source 3 (shown s) c.pIn)) ∧
    (c.mpptMs < 250 → exec .mpptStep s = .next s) ∧
    (mpptActive s = true → c.sweep = none → 250 ≤ c.mpptMs → let p := powerOver s 250
      let x := (roundDiv ((5 * c.vref : Nat) : Int) 1000).toNat
      let dv := if x = 0 then 1 else x
      let down := match c.mpptLast with | none => true | some o => if o < p then c.mpptDown else !c.mpptDown
      exec .mpptStep s = .next { s with chg := { c with
        mpptDown := down, mpptLast := some p, mpptMs := 0
        vref := clampN 1000 (if c.voc < 1000 then 1000 else c.voc) (if down then c.vref - dv else c.vref + dv) } }) ∧
    (c.stepMs < 20 → exec .sweepStep s = .next s) ∧
    (∀ w : Sweep, c.source = .panel → c.sweep = some w → 20 ≤ c.stepMs → let p := powerOver s 10
      let v := sweepV c.voc w.step
      let best := match w.best with | none => (v, p) | some b => if b.2 < p ∨ (b.2 = p ∧ b.1 < v) then (v, p) else b
      (w.step < 63 → exec .sweepStep s = .next { s with chg := { c with
        stepMs := 0, sweep := some { w with step := w.step + 1, best := some best }, vref := sweepV c.voc (w.step + 1) } }) ∧
      (w.step = 63 → c.state ≠ .qualifying → Answers .sweepStep s fun t => t.chg.sweep = none ∧ t.chg.vref = best.1 ∧
        t.chg.mpptLast = none ∧ t.chg.sweepMs = 0 ∧ t.chg.state = c.state ∧
        (5 * w.vref0 < 100 * ((best.1 : Int) - w.vref0).natAbs → EventRaised s t 46 (det 4 .panel 0 best.1 c.pIn))) ∧
      (w.step = 63 → c.state = .qualifying → 6000 ≤ c.vb → Answers .sweepStep s fun t => t.chg.sweep = none ∧ t.chg.vref = best.1 ∧
        inSession t = true ∧ t.chg.sessions = satInc c.sessions)) ∧
    (c.sweepMs < 600000 → exec .periodicSweep s = .next s) ∧
    (mpptActive s = true → inSession s = true → c.sweep = none → 600000 ≤ c.sweepMs → exec .periodicSweep s =
      .next { s with chg := { c with stepMs := 0, sweep := some { vocMs := 20, step := 0, best := none, vref0 := c.vref } } }) ∧
    (c.bandMs < 100 → ∀ r, exec (.chgBandUpdate r) s = .next s) ∧
    (c.cfg.isSome = true → 100 ≤ c.bandMs → ∀ r : BitVec 16,
      ((r.toNat * 100 < 3 * 65536 ∨ 97 * 65536 < r.toNat * 100) → inSession s = true → bitOf c.faults 5 = false →
        Answers (.chgBandUpdate r) s fun t => t.chg.band = 5 ∧ bitOf t.chg.faults 5 = true ∧ t.chg.state = .disabled ∧ off t) ∧
      ∀ tmp, bntcTemp s r.toNat = some tmp → Answers (.chgBandUpdate r) s fun t => t.chg.band = bandNext s tmp ∧
        t.chg.faults = c.faults ∧ SameBytes s t ∧
        (inSession s = true → (bandNext s tmp = 0 ∨ bandNext s tmp = 4) → t.chg.state = .suspended ∧ t.chg.loop = 0) ∧
        (c.state = .suspended → bandNext s tmp ≠ 0 → bandNext s tmp ≠ 4 → t.chg.state = (if c.vb < 10000 then .precharge else .cc)) ∧
        (inSession s = false → t.chg.state = c.state)) ∧
    (c.timerHalf < c.timerH * 7200000 → exec .safetyTimerExpiry s = .next s) ∧
    (inSession s = true → c.state ≠ .suspended → c.timerH * 7200000 ≤ c.timerHalf → bitOf c.faults 0 = false → Answers .safetyTimerExpiry s fun t => bitOf t.chg.faults 0 = true ∧
      t.chg.state = .disabled ∧ off t ∧ EventRaised s t 45 (pack 64 [(0, 11, 1), (16, 16, c.vb), (32, 16, c.va)])) ∧
    (c.preMs ≤ c.preMin * 60000 → exec .prechargeTimer s = .next s) ∧
    (c.state = .precharge → c.preMin * 60000 < c.preMs → bitOf c.faults 1 = false → Answers .prechargeTimer s fun t => bitOf t.chg.faults 1 = true ∧
      t.chg.state = .disabled ∧ off t ∧ EventRaised s t 45 (pack 64 [(0, 11, 2), (16, 16, c.vb), (32, 16, c.va)])) ∧
    (c.termMs < 60000 → exec .chgTermination s = .next s) ∧
    (c.state = .cv → 60000 ≤ c.termMs → Answers .chgTermination s fun t => t.chg.state = .done ∧
      off t ∧ t.chg.waitRechg = true ∧ t.chg.doneCount = satInc c.doneCount ∧ EventRaised s t 46 (det 3 c.source 1 (shown s) c.pIn)) ∧
    (c.waitRechg = true → (c.state = .idle ∨ c.state = .done) →
      (10000 ≤ c.rechgMs ∨ (cU (chgBlock s) 25 1 ≠ 0 ∧ s.gauge.socRep < 100 * cU (chgBlock s) 25 1)) →
      exec .rechargeCondition s = .next { s with chg := { c with waitRechg := false, state := .idle } }) ∧
    let due := 60000 * (if fld s 0x6024 16 8 = 0 then 1 else fld s 0x6024 16 8)
    (c.revMs < due + 100 → ∀ va, exec (.reverseCheck va) s = .next s) ∧
    (c.state = .reverse → due + 100 ≤ c.revMs → ∀ va : BitVec 16,
      (fld s 0x6024 0 16 ≤ 10 * va.toNat → exec (.reverseCheck va) s = .next { s with chg := { c with va := va.toNat, revMs := c.revMs - due } }) ∧
      (10 * va.toNat < fld s 0x6024 0 16 → Answers (.reverseCheck va) s fun t => bitOf t.chg.faults 8 = true ∧ t.chg.state = .idle ∧ off t ∧
        t.chg.endReason = 5 ∧ EventRaised s t 46 (det 6 .vehicle 5 va.toNat c.pIn)))

/-- Pack authentication, the gauge and its wake. An attempt sends IDENT and CHALLENGE, at least 100 ms after the one before; one
with the right response passes the pack and keeps its serial, a
changed one starting the gauge over with EV44; a third failed one ends the run with its result and EV47, and blocks charging
where AUTH_REQ is set. A pass is renewed after 24 h. A capture is kept where IB steps by 2 A. A gauge epoch adds the charge
since the last, none across a gap, which limits its confidence, and reports the SOC thresholds. CHG_QB at the wake value wakes
PD_MP with code 0x50. The challenge is the model's free value (log 2). (R312, R477, R478, R479, R480, R481, R482, R483, R484,
R485) -/
def Obligations.PackAndGauge : Prop :=
  (∀ (s : State) (id r : Option (List Byte)), chgRuns s = true → s.chg.authRunning = true →
    let ch := Config.freeChallenge s.free
    (s.chg.authAttempts ≠ 0 → s.chg.authMs < 100 → exec (.authAttempt id r) s = .next s) ∧
    ((s.chg.authAttempts = 0 ∨ 100 ≤ s.chg.authMs) → Answers (.authAttempt id r) s fun t =>
      t.chg.authSent = bauthRequest 1 [] ++ bauthRequest 2 (leBytes 16 ch.toNat)) ∧
    (∀ i, (s.chg.authAttempts = 0 ∨ 100 ≤ s.chg.authMs) → packIdent id = some i → packResponse r = some (packExpected s ch (i.setWidth 64)) → packKeyOk s = true → bitsOf i 80 8 = 1 → bitsOf i 88 8 = 4 →
      let serial : BitVec 64 := i.setWidth 64
      let changed := s.ret.packSerial.isSome = true ∧ s.ret.packSerial ≠ some serial
      (¬ changed → Answers (.authAttempt id r) s fun t => t.chg.authResult = 1 ∧ t.chg.authRunning = false ∧ t.chg.authBlock = false ∧
        t.chg.authPassAt = some s.upSeconds ∧ t.ret.packSerial = some serial ∧ t.chg.serial = serial ∧ t.chg.serialChanged = false ∧ t.gauge = s.gauge ∧ SameBytes s t) ∧
      (changed → Answers (.authAttempt id r) s fun t => t.chg.authResult = 1 ∧ t.chg.authRunning = false ∧ t.chg.serialChanged = true ∧
        t.ret.packSerial = some serial ∧ (∀ b, s.chg.cfg = some b → t.gauge.charge = 1800 * (cU b 32 4 : Int) ∧ t.gauge.capEst = cU b 32 4) ∧
        EventRaised s t 44 (pack 64 [(0, 16, t.gauge.socRep), (16, 2, 3)]))) ∧
    ((s.chg.authAttempts = 0 ∨ 100 ≤ s.chg.authMs) → (¬ ∃ i, packIdent id = some i ∧ packResponse r = some (packExpected s ch (i.setWidth 64)) ∧ packKeyOk s = true ∧ bitsOf i 80 8 = 1 ∧ bitsOf i 88 8 = 4) →
      (s.chg.authAttempts < 2 → Answers (.authAttempt id r) s fun t => t.chg.authRunning = true ∧ t.chg.authAttempts = s.chg.authAttempts + 1 ∧
        t.chg.authBlock = s.chg.authBlock ∧ t.chg.authResult = s.chg.authResult ∧ SameBytes s t) ∧
      (2 ≤ s.chg.authAttempts → Answers (.authAttempt id r) s fun t => t.chg.authRunning = false ∧
        t.chg.authResult = (if s.chg.authAnswered = true ∨ ((bauthAnswer id).isSome = true ∧ (bauthAnswer r).isSome = true) then 2 else 3) ∧
        (authReq s = true → t.chg.authBlock = true ∧ bitOf t.chg.faults 9 = true ∧ inSession t = false ∧ t.chg.state ≠ .reverse) ∧
        (authReq s = false → t.chg.authBlock = s.chg.authBlock ∧ t.chg.faults = s.chg.faults ∧ t.chg.state = s.chg.state) ∧
        ∃ ser : Nat, EventRaised s t 47 (pack 64 [(0, 2, t.chg.authResult), (2, 1, b2n (!packKeyOk s)), (8, 8, s.chg.authAttempts + 1), (32, 32, ser)])))) ∧
  (∀ s : State, chgRuns s = true → authReq s = true → s.chg.authRunning = false → ∀ p, s.chg.authPassAt = some p →
    (86400 + p ≤ s.upSeconds → exec .packAuthRenewal s = .next { s with chg := { s.chg with
      authRunning := true, authAttempts := 0, authAnswered := false, authSerial := 0, authMs := 0 } }) ∧
    (s.upSeconds < 86400 + p → exec .packAuthRenewal s = .next s)) ∧
  (∀ (s : State) (xs : List (Int × Int)), chgRuns s = true → s.chg.capture = none →
    let step := fun (i j : Nat) => 200 ≤ (capIb xs i - capIb xs j).natAbs
    (xs.length = 128 → (step 32 31 ∨ step 32 30 ∨ step 33 31) →
      exec (.gaugeCapture xs) s = .next { s with chg := { s.chg with capture := some { samples := xs } } }) ∧
    ((xs.length ≠ 128 ∨ ¬ (step 32 31 ∨ step 32 30 ∨ step 33 31)) → exec (.gaugeCapture xs) s = .next s)) ∧
  (∀ s : State, domOn s 3 = true → rootAlive s = true → s.glb.mpRunning = true → let gap := s.gauge.gap = true ∨ domOff s 11 = true
    let added : Int := if gap then 0 else (s.chg.qb - s.gauge.lastQb).toInt
    (Answers .gaugeEpoch s fun t => t.gauge.lastQb = s.chg.qb ∧ t.gauge.gap = domOff s 11 ∧ (gap → s.gauge.fresh = false → t.gauge.countGap = true) ∧
      t.chg.qb = s.chg.qb ∧ t.regs = s.regs) ∧
    (s.chg.cfg = none → Answers .gaugeEpoch s fun t => t.gauge.charge = s.gauge.charge + added ∧ (gap → t.gauge.socConf ≤ 300) ∧
      t.chg = s.chg ∧ SameBytes s t) ∧
    ∀ b, s.chg.cfg = some b → Answers .gaugeEpoch s fun t => t.chg.capture = none ∧ (s.gauge.socRep ≤ 10000 → t.gauge.socRep ≤ 10000) ∧
      (cU b 40 1 ≠ 0 → cU b 41 1 = 0 → s.chg.socLowArmed = true → t.gauge.socRep ≤ 100 * cU b 40 1 →
        t.chg.socLowArmed = false ∧ EventRaised s t 44 (pack 64 [(0, 16, t.gauge.socRep), (16, 2, 1)]))) ∧
  ∀ s : State, let w : BitVec 48 := (rd s 0x6044).extractLsb' 0 16 ++ rd s 0x6040
    ((domOff s 11 = true ∨ flag s 0x6044 31 = false ∨ w.toInt < s.chg.qb.toInt) → exec .qbWake s = .next s) ∧
    (domOff s 11 = false → flag s 0x6044 31 = true → s.chg.qb.toInt ≤ w.toInt → (dom s 3).state ≠ .on → (dom s 3).move = none →
      startBarred s 3 = false → Answers .qbWake s fun t => t.pwr.wake.code = 0x50 ∧ t.pwr.wake.host = false ∧ (dom t 3).req = .on ∧
        ∃ m, (dom t 3).move = some m ∧ m.req.target = .on ∧ m.stage = 1)

/-! ### NVM and OTP -/

/-- NVM reads and page writes. NVM_READ answers the bytes of its pages, writes nothing where a page fails, and takes RANGE
beyond the array. NVM_WRITE is denied outside the host's pages, takes RANGE beyond a page, REFUSED while a save is due or runs;
a write that changes nothing completes at once, another programs the other slot with its commit flag clear, and its done commits
and completes it. The sideband address answers the bytes, and writes a page where the enable and the PEC allow it; its address
is sent most significant byte first. That a write of 0 bytes or of more than 64 is turned away is the model's choice (log 107).
(R102, R557, R558, R560, R561, R562, R569) -/
def Obligations.NvmAccess : Prop :=
  let idle := fun (q : State) => q.nvm.busy = none ∧ q.nvm.queue = [] ∧ nvmShut q = false
  (∀ (s q : State) (k : Ticket) (rq : Requester) (d : Desc), Taken specNvmRead rq d s q k → let n := opn d 16 0 32
    let off := d.target.toNat
    (65536 < off + n → exec (.nvmRead rq d) s = .next (complete q k stRange 0)) ∧
    (off + n ≤ 65536 → nvmShut q = true → exec (.nvmRead rq d) s = .next (complete q k stRefused 0)) ∧
    (off + n ≤ 65536 → idle q →
      ((∀ p, 64 * p < off + n → off < 64 * p + 64 → (nvRead q p).isSome = true) → ∃ bs : List Byte, bs.length = n ∧
        (∀ i, i < n → bs[i]? = (nvRead q ((off + i) / 64)).bind fun page => page[(off + i) % 64]?) ∧
        exec (.nvmRead rq d) s = .next (complete (cmdWrite q rq d.addr.toNat bs) k stSuccess (BitVec.ofNat 64 n))) ∧
      ((∃ i, i < n ∧ nvRead q ((off + i) / 64) = none) → ∃ u, SameBytes q u ∧ u.nvm.pageErr = true ∧ u.nvm.pages = q.nvm.pages ∧
        exec (.nvmRead rq d) s = .next (complete u k stDeviceError 0))) ∧
    (∀ w, off + n ≤ 65536 → nvmShut q = false → q.nvm.busy = some w → exec (.nvmRead rq d) s = .next { q with nvm := { q.nvm with
      queue := q.nvm.queue ++ [.read { ticket := k, byMp := reqIsMp rq, off := off, len := n, dest := d.addr.toNat }] } })) ∧
  (∀ (s q : State) (k : Ticket) (rq : Requester) (d : Desc), Taken specNvmWrite rq d s q k → let n := opn d 16 0 32
    let p := d.target.toNat / 64
    let off := d.target.toNat % 64
    let bs := cmdRead q rq d.addr.toNat n
    let ask : PageWrite := { page := p, off := off, data := bs, ask := .command k n }
    (∀ hf, p < 1024 → reqIsMp rq = false → hostPage p = false → exec (.nvmWrite rq d hf) s = .next (complete q k stAccessDenied 0)) ∧
    (∀ hf, (p < 1024 → reqIsMp rq = true ∨ hostPage p = true) →
      ((n = 0 ∨ 64 < n ∨ 1023 < p) → exec (.nvmWrite rq d hf) s = .next (complete q k stRange 0)) ∧
      (1 ≤ n → n ≤ 64 → p ≤ 1023 →
        (nvmShut q = true → exec (.nvmWrite rq d hf) s = .next (complete q k stRefused 0)) ∧
        (nvmShut q = false → hf = true → reqIsMp rq = false → exec (.nvmWrite rq d hf) s = .next (complete q k stHostAccess 0)) ∧
        (idle q → (hf = false ∨ reqIsMp rq = true) → ∀ old, nvRead q p = some old →
          (mergeWrap old off bs = old → exec (.nvmWrite rq d hf) s = .next (complete q k stSuccess (BitVec.ofNat 64 n))) ∧
          (mergeWrap old off bs ≠ old → Answers (.nvmWrite rq d hf) s fun t => t.nvm.busy = some ask ∧ SameBytes q t ∧ nvRead t p = some old ∧
            (∀ j, physPage q j ≠ physPage q p → nvPage t j = nvPage q j) ∧
            nvPage t p = (nvPage q p).program (BitVec.ofNat 512 (leNat (mergeWrap old off bs)))))))) ∧
  (∀ s : State, domOn s 3 = true → (s.nvm.busy = none → exec .nvmPageWriteDone s = .next s) ∧
    ∀ w, s.nvm.busy = some w → s.nvm.queue = [] →
      let u : State := setPage { s with nvm := { s.nvm with busy := none } } w.page (nvPage s w.page).commit
      nvPage u w.page = (nvPage s w.page).commit ∧
      (∀ k n, w.ask = .command k n → exec .nvmPageWriteDone s = .next (complete u k stSuccess (BitVec.ofNat 64 n))) ∧
      (w.ask = .internal → exec .nvmPageWriteDone s = .next u) ∧
      (w.ask = .sideband → Answers .nvmPageWriteDone s fun t => OnlyEvents u t ∧ EventRaised s t 52 (pack 64 [(0, 10, w.page), (10, 1, 0)]))) ∧
  ∀ s : State, let no := { s with sb := { s.sb with acked := false, reply := [] } }
    (∀ hi lo bs pec len, nvmAddressTaken s = false →
      exec (.nvmAddressWrite hi lo bs pec) s = .next no ∧ exec (.nvmAddressRead hi lo len) s = .next no) ∧
    (nvmAddressTaken s = true →
      (∀ (hi lo : Byte) (len : Nat), let ad := 256 * hi.toNat + lo.toNat
        ad + len ≤ 65536 → Answers (.nvmAddressRead hi lo len) s fun t => t.sb.acked = true ∧
          t.sb.reply.length = len ∧ t.nvm.pages = s.nvm.pages ∧ SameBytes s t ∧ ∀ i, i < len → ∀ page, nvRead s ((ad + i) / 64) = some page →
            t.sb.reply[i]? = page[(ad + i) % 64]?) ∧
      ∀ (hi lo : Byte) (bs : List Byte) (pec : Bool), let ad := 256 * hi.toNat + lo.toNat
        let p := ad / 64
        ((bs = [] ∨ 64 < bs.length ∨ hostPage p = false ∨ flag s 0x8044 0 = false) → exec (.nvmAddressWrite hi lo bs pec) s = .next no) ∧
        (bs ≠ [] → bs.length ≤ 64 → hostPage p = true → flag s 0x8044 0 = true →
          let yes := { s with sb := { s.sb with acked := true, reply := [] } }
          (pec = false → sbPec s = true → exec (.nvmAddressWrite hi lo bs pec) s = .next yes) ∧
          (∀ old, (pec = true ∨ sbPec s = false) → s.nvm.queue = [] → nvRead s p = some old → let new := mergeWrap old (ad % 64) bs
            (new ≠ old → Answers (.nvmAddressWrite hi lo bs pec) s fun t => t.sb.acked = true ∧ SameBytes s t ∧ nvRead t p = some old ∧
              t.nvm.busy = some { page := p, off := ad % 64, data := bs, ask := .sideband }) ∧
            (new = old → Answers (.nvmAddressWrite hi lo bs pec) s fun t => OnlyEvents yes t ∧
              EventRaised s t 52 (pack 64 [(0, 10, p), (10, 1, 1)])))))

/-- OTP commands and the margin pass. OTP_READ answers 8 bytes a word, which for a read-locked region show only the lock.
OTP_PROGRAM writes the word with its check bits, or nothing with the first status that applies, and takes DEVICE_ERROR where the
word does not verify; it writes no other word. OTP_LOCK_REGION and LC_ADVANCE program what the life cycle allows. A cut by a reset
leaves the words before it programmed, the one in progress as it then reads, the later ones and the life-cycle state as they were,
and completes nothing. A margin pass, once in an hour of PD_MP on-time, counts and reports its words and changes no value in force.
(R521, R526, R527, R543, R544, R547, R549, R551, R552, R553, R554) -/
def Obligations.OtpAccess : Prop :=
  let cell := fun (t : State) (w : Nat) => otpCell t.otp w
  (∀ (s q : State) (k : Ticket) (rq : Requester) (d : Desc) (rs : List MarginRead), Taken specOtpRead rq d s q k → let n := opn d 16 0 32
    let a := d.target.toNat
    (1024 < a + n → exec (.otpRead rq d rs) s = .next (complete q k stRange 0)) ∧
    (a + n ≤ 1024 → ∃ (bs : List Byte) (m : Nat), bs.length = 8 * n ∧ m ≤ n ∧
      (∀ i, i < n → let x := look q.otp rs (a + i)
        (bitOf q.otp.readLock (otpRegion (a + i)) = true → leField bs (8 * i) 4 = 0 ∧ leField bs (8 * i + 5) 1 = 0x20) ∧
        (bitOf q.otp.readLock (otpRegion (a + i)) = false → leField bs (8 * i) 4 = x.value.toNat ∧
          bitOf (BitVec.ofNat 8 (leField bs (8 * i + 5) 1)) 0 = x.prog ∧ bitOf (BitVec.ofNat 8 (leField bs (8 * i + 5) 1)) 1 = x.marginal)) ∧
      exec (.otpRead rq d rs) s = .next (complete (cmdWrite q rq d.addr.toNat bs) k stSuccess (pack 64 [(0, 32, n), (32, 16, m)])))) ∧
  (∀ (s q : State) (k : Ticket) (rq : Requester) (d : Desc), Taken specOtpProgram rq d s q k → let w := d.target.toNat
    let v : Word := BitVec.ofNat 32 (opn d 16 0 32)
    let auth := opn d 20 0 128
    (∀ b r cut st, programStatus q w v auth b = some st → ∃ u, u.otp.cells = q.otp.cells ∧ (hostField w = false → u = q) ∧
      exec (.otpProgram rq d b r cut) s = .next (complete u k st 0)) ∧
    (∀ b, (768 ≤ w ∧ w < 928 ∨ w < 1024 ∧ mayProgram q.otp.lcState w = false ∨ w < 1024 ∧ bitOf q.otp.locked (otpRegion w) = true) →
      programStatus q w v auth b = some stAccessDenied) ∧
    (∀ b, programStatus q w v auth b = none →
      (∃ u, cell u w = OtpCell.clean (otpEncode v) ∧ (∀ j, j ≠ w → cell u j = cell q j) ∧ u.otp.lcState = q.otp.lcState ∧ u.regs = q.regs ∧
        (hostField w = false → u.otp.nonce = q.otp.nonce) ∧ exec (.otpProgram rq d b none none) s = .next (complete u k stSuccess 0)) ∧
      (∀ r, ((judge r).marginal = true ∨ (judge r).value ≠ v) → ∃ u, (∀ j, j ≠ w → cell u j = cell q j) ∧
        ((judge r).prog = true → cell u w = { normal := r.normal, high := r.high, low := r.low }) ∧
        exec (.otpProgram rq d b (some r) none) s = .next (complete u k stDeviceError 0)) ∧
      ∀ r c, ∃ o, (∀ j, j ≠ w → otpCell o j = cell q j) ∧ (cutCell c ≠ OtpCell.clean 0 → otpCell o w = cutCell c) ∧
        o.nonce = q.otp.nonce ∧ exec (.otpProgram rq d b r (some c)) s = .next { q with otp := o })) ∧
  (∀ (s q : State) (k : Ticket) (rq : Requester) (d : Desc), Taken specOtpLockRegion rq d s q k → let r := d.target.toNat
    (5 < r → ∀ cut, exec (.otpLockRegion rq d cut) s = .next (complete q k stRange 0)) ∧
    ((r = 4 ∨ r = 5 ∨ r < 4 ∧ bitOf q.otp.locked r = true) → ∀ cut, exec (.otpLockRegion rq d cut) s = .next (complete q k stRefused 0)) ∧
    (r < 4 → bitOf q.otp.locked r = false →
      ((mayLock q.otp.lcState r = false ∨ bitOf q.otp.progLock r = true ∨ q.otp.lcMarginal = true) → ∀ cut,
        exec (.otpLockRegion rq d cut) s = .next (complete q k stAccessDenied 0)) ∧
      (mayLock q.otp.lcState r = true → bitOf q.otp.progLock r = false → q.otp.lcMarginal = false → let dg := otpDigest q.otp [] r
        (otpUnfit q = true → ∀ cut, exec (.otpLockRegion rq d cut) s = .next (complete q k stRefused 0)) ∧
        (otpUnfit q = false → ∀ cut, (∀ c, cut = some c → 2 ≤ c.step) → ∃ u, (dg ≠ 0 → cell u (776 + r) = OtpCell.clean (otpEncode dg)) ∧
          cell u (780 + r) = OtpCell.clean (otpEncode (BitVec.ofNat 32 (0x4C4B0000 + r))) ∧ bitOf u.otp.locked r = true ∧
          (∀ j, j ≠ 776 + r → j ≠ 780 + r → cell u j = cell q j) ∧ SameBytes q u ∧
          exec (.otpLockRegion rq d cut) s = .next (complete u k stSuccess (dg.setWidth 64))) ∧
        (otpUnfit q = false → ∀ c, c.step < 2 → ∃ o, exec (.otpLockRegion rq d (some c)) s = .next { q with otp := o } ∧
          (∀ j, j ≠ 776 + r → j ≠ 780 + r → otpCell o j = cell q j) ∧ (c.step = 0 → otpCell o (780 + r) = cell q (780 + r)) ∧
          (c.step = 1 → dg ≠ 0 → otpCell o (776 + r) = OtpCell.clean (otpEncode dg) ∧ bitOf o.locked r = true) ∧
          (cutCell c ≠ OtpCell.clean 0 → otpCell o (776 + r + 4 * c.step) = cutCell c))))) ∧
  (∀ (s q : State) (k : Ticket) (rq : Requester) (d : Desc), Taken specLcAdvance rq d s q k → let lc := q.otp.lcState
    (opn d 20 0 32 ≠ 0x7A3C91E4 → ∀ cut, exec (.lcAdvance rq d cut) s = .next (complete q k stInvalidField 0)) ∧
    (opn d 20 0 32 = 0x7A3C91E4 →
      (q.otp.lcMarginal = true → ∀ cut, exec (.lcAdvance rq d cut) s = .next (complete q k stAccessDenied 0)) ∧
      (q.otp.lcMarginal = false → (opn d 16 0 8 ≠ lc + 1 ∨ lc = 4) → ∀ cut, exec (.lcAdvance rq d cut) s = .next (complete q k stRange 0)) ∧
      (q.otp.lcMarginal = false → opn d 16 0 8 = lc + 1 → lc < 4 → let seals := 2 * (toSeal q).length
        (otpUnfit q = true → ∀ cut, exec (.lcAdvance rq d cut) s = .next (complete q k stRefused 0)) ∧
        (otpUnfit q = false → ∀ cut, (∀ c, cut = some c → seals < c.step) → ∃ u, u.otp.lcState = lc + 1 ∧
          cell u (768 + lc) = OtpCell.clean (otpEncode (BitVec.ofNat 32 (0x4C430000 + lc + 1))) ∧
          (∀ r, r ∈ sealedOut lc → bitOf u.otp.locked r = true) ∧ (lc = 2 → bitOf u.otp.readLock 2 = true) ∧
          (∀ j, j < 768 → cell u j = cell q j) ∧ SameBytes q u ∧
          exec (.lcAdvance rq d cut) s = .next (complete u k stSuccess (BitVec.ofNat 64 (lc + 1)))) ∧
        (otpUnfit q = false → ∀ c, c.step ≤ seals → ∃ o, exec (.lcAdvance rq d (some c)) s = .next { q with otp := o } ∧ o.lcState = lc ∧
          (∀ j, j < 768 → otpCell o j = cell q j) ∧
          (c.step = seals → (∀ r, r ∈ sealedOut lc → bitOf o.locked r = true) ∧
            (cutCell c ≠ OtpCell.clean 0 → otpCell o (768 + lc) = cutCell c)))))) ∧
  ∀ (s : State) (rs : List MarginRead), ((domOn s 3 = false ∨ rootAlive s = false ∨ s.mp.onSeconds / 3600 ≤ s.mp.hourPass) →
      exec (.otpMarginPass rs) s = .next s) ∧
    (domOn s 3 = true → rootAlive s = true → s.mp.hourPass < s.mp.onSeconds / 3600 →
    (marginals s.otp rs = [] → exec (.otpMarginPass rs) s = .next { s with mp := { s.mp with hourPass := s.mp.onSeconds / 3600 } }) ∧
    ∀ w ws, marginals s.otp rs = w :: ws → Answers (.otpMarginPass rs) s fun t =>
      t.otp = { s.otp with runCount := satAdd s.otp.runCount (ws.length + 1), lastAtLoad := false
                           lastWord := BitVec.ofNat 10 ((w :: ws).getLast?.getD w) } ∧
      t.mp.passWords = s.mp.passWords + (ws.length + 1) ∧ t.mp.hourPass = s.mp.onSeconds / 3600 ∧ t.regs = s.regs ∧
      EventRaised s t 51 (ev51 s.otp rs false (w :: ws) w))

/-! ### The calendar clock -/

/-- Calendar commands and registers. RTC_GET answers the date and time words. RTC_SET, ALARM_SET, PERIODIC_SET and the
register writes, RTC_STATUS's W1C one too, cross into the calendar in order of arrival, ALARM_SET with stray fields and a period
above the limit completing at once with their status. A commit, at an edge of the present second, takes a valid time from the start of its second, clears
TIME_INVALID unless the crystal is stopped and drops the staged date; an invalid one changes no time, sets INVALID_WRITE and
raises EV56. One at a second boundary replaces it. A write of RTC_STATUS clears its flags as it takes effect. An alarm that is
due as it arms fires; disarming and the period take effect. A read of RTC_TIME captures the date. That a row names its edge is the model's (log 116). (R576, R577, R578, R579, R580, R581,
R582, R587, R588, R590, R591, R704) -/
def Obligations.CalendarCommands : Prop :=
  let cross := fun (q : State) (o : RtcOp) => ({ q with rtc := { q.rtc with crossing := q.rtc.crossing ++ [o] } } : State)
  (∀ (s q : State) (k : Ticket) (rq : Requester) (d : Desc),
    (Taken specRtcGet rq d s q k → exec (.rtcGet rq d) s = .next (complete q k stSuccess
      ((q.rtc.cal.dateWord.setWidth 64 <<< 32) ||| (q.rtc.cal.timeWord q.rtc.timeInvalid).setWidth 64))) ∧
    (Taken specRtcSet rq d s q k → exec (.rtcSet rq d) s =
      .next (cross q (.set k (BitVec.ofNat 32 (opn d 16 0 32)) (BitVec.ofNat 32 (opn d 20 0 32)) (reqIsMp rq)))) ∧
    (Taken specAlarmSet rq d s q k →
      (opn d 16 0 1 = 0 → opn d 20 0 64 ≠ 0 → exec (.alarmSet rq d) s = .next (complete q k stInvalidField 0)) ∧
      ((opn d 16 0 1 = 1 ∨ opn d 20 0 64 = 0) → exec (.alarmSet rq d) s = .next (cross q
        (.alarm k (decide (opn d 16 0 1 = 1)) (BitVec.ofNat 32 (opn d 20 0 32)) (BitVec.ofNat 32 (opn d 24 0 32)))))) ∧
    (Taken specPeriodicSet rq d s q k →
      (5529600 < opn d 16 0 32 → exec (.periodicSet rq d) s = .next (complete q k stRange 0)) ∧
      (opn d 16 0 32 ≤ 5529600 → exec (.periodicSet rq d) s = .next (cross q (.periodic k (opn d 16 0 32)))))) ∧
  (∀ (s : State) (via : Via) (w : Word), via ≠ .sideband → viaReach s via = true →
    exec (.rtcTimeWrite via w) s = .next (cross s (.time (w &&& timeMask) (decide (via = .mp)))) ∧
    exec (.rtcDateWrite via w) s = .next (cross s (.date (w &&& dateMask))) ∧
    exec (.registerWrite via false 0x900C true w) s = .next (cross s (.status w))) ∧
  (∀ (s : State) (w : Word), exec (.rtcTimeWrite .sideband w) s = .next s ∧ exec (.rtcDateWrite .sideband w) s = .next s) ∧
  (∀ (s : State) (via : Via), viaReach s via = true → Answers (.rtcTimeRead via) s fun t =>
    t.readData = s.rtc.cal.timeWord s.rtc.timeInvalid ∧ t.rtc.holdDate = some s.rtc.cal.dateWord ∧
    (s.rtc.exact = true → t.rtc.holdFrac = BitVec.ofNat 14 (s.rtc.edge / 2)) ∧ t.rtc.cal = s.rtc.cal ∧ t.regs = s.regs ∧ SameBytes s t) ∧
  ∀ (s : State) (e : Nat), (s.rtc.crossing = [] → exec (.rtcCommit e) s = .next s) ∧
    (s.rtc.stopped = false → (e < s.rtc.edge ∨ 32768 < e) → exec (.rtcCommit e) s = .next s) ∧
    (∀ w mp os, s.rtc.crossing = .time w mp :: os → s.rtc.stopped = false → (Cal.ofWords w (stagedDate s)).valid = true →
      Answers (.rtcCommit 32768) s fun t => t.rtc.cal = Cal.ofWords w (stagedDate s) ∧ t.rtc.edge = 0 ∧ t.rtc.crossing = os) ∧
    ∀ o os, s.rtc.crossing = o :: os → (s.rtc.stopped = true ∨ (s.rtc.edge ≤ e ∧ e < 32768)) →
      let q : State := if s.rtc.stopped then s else { rtcTo s e with rtc := { (rtcTo s e).rtc with exact := true } }
      let z : State := { q with rtc := { q.rtc with crossing := os } }
      let taken := fun (c : Cal) (u : State) => u.rtc.cal = c ∧ u.rtc.edge = 0 ∧ u.rtc.dateStaged = none ∧ u.rtc.crossing = os ∧
        u.rtc.timeInvalid = (s.rtc.stopped && s.rtc.timeInvalid) ∧ u.rtc.oscStopped = (s.rtc.stopped && s.rtc.oscStopped)
      let refused := fun (rq : Nat) (date : Word) (u : State) => u.rtc.cal = s.rtc.cal ∧ u.rtc.dateStaged = none ∧ u.rtc.invalidWrite = true ∧
        u.rtc.crossing = os ∧ (s.rtc.period = 0 → EventRaised s u 56 (pack 64 [(0, 2, 1), (2, 2, rq), (32, 32, date.toNat)]))
      (∀ w mp, o = .time w mp → let c := Cal.ofWords w (stagedDate s)
        (c.valid = true → Answers (.rtcCommit e) s fun t => taken c t) ∧
        (c.valid = false → Answers (.rtcCommit e) s fun t => refused (if mp then 3 else 0) (stagedDate s) t)) ∧
      (∀ w, o = .date w → exec (.rtcCommit e) s = .next (rtcPast { z with rtc := { z.rtc with dateStaged := some w } })) ∧
      (∀ w, o = .status w → exec (.rtcCommit e) s = .next (rtcPast { z with rtc := { z.rtc with
        alarmFired := z.rtc.alarmFired && !bitOf w 3, alarmByAdjust := z.rtc.alarmByAdjust && !bitOf w 4
        invalidWrite := z.rtc.invalidWrite && !bitOf w 5, oscStopped := z.rtc.oscStopped && !bitOf w 6 } })) ∧
      (∀ k time date mp, o = .set k time date mp → let c := Cal.ofWords time date
        (c.valid = true → ∃ u, taken c u ∧ u.rtc.lastSet = some c.seconds ∧ exec (.rtcCommit e) s = .next (rtcPast (complete u k stSuccess 0))) ∧
        (c.valid = false → ∃ u, refused (if mp then 2 else 1) date u ∧ exec (.rtcCommit e) s = .next (rtcPast (complete u k stRange 0)))) ∧
      (∀ k time date, o = .alarm k true time date → let c := Cal.ofWords time date
        let armed : State := { z with rtc := { z.rtc with alarmArmed := true, alarmTime := time, alarmDate := date, dateStaged := none } }
        (c.valid = false → exec (.rtcCommit e) s = .next (rtcPast (complete z k stRange 0))) ∧
        (c.valid = true → calSeconds s < c.seconds → exec (.rtcCommit e) s = .next (rtcPast (complete armed k stSuccess 0))) ∧
        (c.valid = true → c.seconds ≤ calSeconds s → ∃ u, u.rtc.alarmArmed = false ∧ u.rtc.alarmFired = true ∧
          ((dom s 3).state = .on → s.rtc.period = 0 → EventRaised s u 54 (pack 64 [(0, 1, 0), (1, 1, 1), (32, 32, date.toNat)])) ∧
          exec (.rtcCommit e) s = .next (rtcPast (complete u k stSuccess 0)))) ∧
      (∀ k time date, o = .alarm k false time date → exec (.rtcCommit e) s = .next (rtcPast (complete
        { z with rtc := { z.rtc with alarmArmed := false, dateStaged := none } } k stSuccess 0))) ∧
      ∀ k p, o = .periodic k p → exec (.rtcCommit e) s = .next (rtcPast (complete
        { z with rtc := { z.rtc with period := p, wakes := 0, ticks := 0 } } k stSuccess 0))

/-- The calendar runs. A second boundary takes the calendar to the next second, one more second of 2000-01-01 but at its wrap,
which sets TIME_INVALID, and steps the compensation; a stopped crystal stops it. An armed alarm that is due fires with EV54 and
disarms, waking PD_MP with code 0x10; the periodic timer counts its 1/64 s ticks by the edges, raises EV55 at each period's end
and wakes it with 0x11. A measurement, each 64 s, keeps CORR within its limits. A stop raises EV56; the restart lets a due alarm
fire. (R572, R574, R575, R583, R584, R586, R587, R589, R591, R592, R704) -/
def Obligations.CalendarRuns : Prop :=
  ∀ s : State, let r := s.rtc
    let due := r.alarmArmed = true ∧ (alarmCal s).seconds ≤ calSeconds s
    let wakes := fun (code : Nat) (t : State) => (dom s 3).state ≠ .on → (dom s 3).move = none → startBarred s 3 = false →
      t.pwr.wake.code = BitVec.ofNat 8 code ∧ ∃ m, (dom t 3).move = some m ∧ m.req.target = .on
    (r.stopped = true → exec .secondBoundary s = .next s ∧ exec .alarmFire s = .next s ∧ (∀ e, exec (.periodicWake e) s = .next s) ∧
      (∀ x, exec (.rtcCompensation x) s = .next s) ∧ exec .oscStop s = .next s ∧
      (¬ due → exec .crystalRestart s = .next { s with rtc := { r with stopped := false } }) ∧
      (due → Answers .crystalRestart s fun t => t.rtc.stopped = false ∧ t.rtc.alarmArmed = false ∧ t.rtc.alarmFired = true ∧
        t.rtc.alarmByAdjust = true ∧ t.rtc.cal = r.cal ∧ wakes 0x10 t ∧
        ((dom s 3).state = .on → EventRaised s t 54 (pack 64 [(0, 1, 1), (1, 1, 0), (32, 32, r.alarmDate.toNat)])))) ∧
    (r.stopped = false →
      exec .crystalRestart s = .next s ∧
      (Answers .oscStop s fun t => OnlyEvents { s with rtc := { r with stopped := true, oscStopped := true, timeInvalid := true, exact := false } } t ∧
        EventRaised s t 56 2) ∧
      (r.compSecs < 64 → ∀ x, exec (.rtcCompensation x) s = .next s) ∧
      (64 ≤ r.compSecs → ∀ x, Answers (.rtcCompensation x) s fun t => t.rtc = { r with temp := x.toInt, compSecs := 0, corr := t.rtc.corr } ∧ -10000 ≤ t.rtc.corr ∧
        t.rtc.corr ≤ 10000 ∧ SameBytes s t ∧ (x.toInt = sbitsOf r.curve 0 16 → -10000 ≤ r.offset + r.ageing → r.offset + r.ageing ≤ 10000 →
          t.rtc.corr = r.offset + r.ageing)) ∧
      (¬ due → exec .alarmFire s = .next s) ∧
      (due → Answers .alarmFire s fun t => t.rtc.alarmArmed = false ∧ t.rtc.alarmFired = true ∧ t.rtc.cal = r.cal ∧ wakes 0x10 t ∧
        ((dom s 3).state = .on → OnlyEvents { s with rtc := { r with alarmArmed := false, alarmFired := true } } t ∧
          EventRaised s t 54 (pack 64 [(0, 1, 0), (1, 1, 0), (32, 32, r.alarmDate.toNat)]))) ∧
      (∀ e, (r.period = 0 ∨ e < r.edge ∨ 32768 ≤ e) → exec (.periodicWake e) s = .next s) ∧
      (∀ e, r.period ≠ 0 → r.edge ≤ e → e < 32768 → let n := r.ticks + (e / 512 - r.edge / 512)
        Answers (.periodicWake e) s fun t =>
          t.rtc = { r with wakes := r.wakes + BitVec.ofNat 32 (n / r.period), ticks := n % r.period, edge := e, exact := false } ∧
          (n < r.period → SameBytes s t) ∧ (r.period ≤ n → wakes 0x11 t) ∧
          (n / r.period = 1 → (dom s 3).state = .on → EventRaised s t 55 (pack 64 [(0, 23, r.period), (32, 32, (r.wakes + 1).toNat)]))) ∧
      (Answers .secondBoundary s fun t => t.rtc.cal = r.cal.next ∧ t.rtc.edge = 0 ∧ t.rtc.compSecs = r.compSecs + 1 ∧ t.upSeconds = s.upSeconds + 1 ∧
        (r.cal.valid = true → t.rtc.cal.valid = true ∧
          (t.rtc.cal.year ≠ 0 ∨ r.cal.year = 0 → calSeconds t = calSeconds s + 1 ∧ t.rtc.timeInvalid = r.timeInvalid) ∧
          (t.rtc.cal.year = 0 → r.cal.year ≠ 0 → t.rtc.timeInvalid = true ∧ calSeconds t = 0)) ∧
        (-10000000 < t.rtc.accum ∧ t.rtc.accum < 10000000 ∧ ∃ n : Int, t.rtc.accum = r.accum + 32768 * r.corr - 10000000 * n) ∧
        (r.alarmArmed = true → (alarmCal s).seconds ≤ r.cal.next.seconds → t.rtc.alarmArmed = false ∧ t.rtc.alarmFired = true)))

/-! ### The management processor, parking, ageing and the margin plan -/

/-- Firmware and its boot. FW_STAGE writes only the other slot, keeps it where the image verifies and empties it where it does
not; FW_COMMIT prefers a slot that verifies, on trial, and restarts PD_MP. LOG_READ answers the entries in order. A boot starts
the preferred slot, else the other, else none with the boot line asserted; a trial counts its boots and falls back at the
fourth. A self-restart takes PD_MP through off. Confirmation, after 60 s of operation, ends the trial and programs the rollback
counter up to the image's, as a retry of each hour goes on doing. (R438, R595, R597, R598, R599, R600, R601, R602, R603, R604,
R625, R626) -/
def Obligations.Firmware : Prop :=
  let inSlot := fun (n a : Nat) => slotBase n ≤ a ∧ a < slotBase n + 0x200000
  let idle := fun (s : State) => (dom s 3).move = none ∧ (dom s 3).waiting = none
  let restarts := fun (s t : State) => bitOf t.glb.rstCause 9 = true ∧ ((dom s 3).move = none → ∃ m w, (dom t 3).move = some m ∧
    m.req.target = .off ∧ m.stage = 4 ∧ (dom t 3).waiting = some w ∧ w.target = .on) ∧ (∀ k, k ≠ 3 → dom t k = dom s k)
  (∀ (s q : State) (k : Ticket) (rq : Requester) (d : Desc), Taken specFwStage rq d s q k → let n := d.target.toNat
    let len := opn d 16 0 32
    (∀ hf late, fwServed q = false → exec (.fwStage rq d hf late) s = .next (complete q k stRefused 0)) ∧
    (fwServed q = true → (∀ hf late, 1 < n → exec (.fwStage rq d hf late) s = .next (complete q k stRange 0)) ∧
      (∀ hf late, n ≤ 1 → runningSlot q = some n → exec (.fwStage rq d hf late) s = .next (complete q k stRefused 0)) ∧
      (∀ hf late, n ≤ 1 → runningSlot q ≠ some n → (len < 256 ∨ 2097152 < len) → exec (.fwStage rq d hf late) s = .next (complete q k stRange 0)) ∧
      (n ≤ 1 → runningSlot q ≠ some n → 256 ≤ len → len ≤ 2097152 →
        let erased := fun (u : State) => ∀ a, flashByteAt u a = if inSlot n a then flashByte else flashByteAt q a
        (∃ u, erased u ∧ exec (.fwStage rq d true false) s = .next (complete u k stHostAccess 0)) ∧
        (∃ u, erased u ∧ exec (.fwStage rq d false true) s = .next (complete u k stTimeout 0)) ∧
        let c := fwCopy q n (hostRead q d.addr.toNat len)
        (q.memWf → (∀ i, i < len → flashByteAt c (slotBase n + i) = hostByte q (d.addr.toNat + i)) ∧
          ∀ a, ¬ inSlot n a → flashByteAt c a = flashByteAt q a) ∧
        (verifySlot c n = true → ∃ u, u.flash = c.flash ∧ u.nvm = q.nvm ∧
          EventRaised q u 59 (ev59Detail q 1 n (headVersion (slotHead c n))) ∧
          exec (.fwStage rq d false false) s = .next (complete u k stSuccess 0)) ∧
        (verifySlot c n = false → ∃ u, (∀ a, slotBase n ≤ a → a < slotBase n + 4096 → flashByteAt u a = flashByte) ∧ u.nvm = q.nvm ∧
          exec (.fwStage rq d false false) s = .next (complete u k stSignature 0))))) ∧
  (∀ (s q : State) (k : Ticket) (rq : Requester) (d : Desc), Taken specFwCommit rq d s q k → let n := d.target.toNat
    (fwServed q = false → exec (.fwCommit rq d) s = .next (complete q k stRefused 0)) ∧
    (fwServed q = true → (1 < n → exec (.fwCommit rq d) s = .next (complete q k stRange 0)) ∧
      (n ≤ 1 → runningSlot q = some n → exec (.fwCommit rq d) s = .next (complete q k stRefused 0)) ∧
      (n ≤ 1 → runningSlot q ≠ some n →
        ((slotHead q n).take 4 ≠ fwMagic → exec (.fwCommit rq d) s = .next (complete q k stNotPresent 0)) ∧
        ((slotHead q n).take 4 = fwMagic → verifySlot q n = false → exec (.fwCommit rq d) s = .next (complete q k stSignature 0)) ∧
        (verifySlot q n = true → ∃ u v, u.mp.preferred = n ∧ u.mp.trial = true ∧ u.mp.failCount = 0 ∧ u.flash = q.flash ∧
          v = complete u k stSuccess 0 ∧ Answers (.fwCommit rq d) s fun t => restarts v t ∧ t.mp.preferred = n ∧ t.mp.trial = true ∧
            t.flash = q.flash ∧ EventRaised v t 59 (ev59Detail q 2 n (headVersion (slotHead q n))))))) ∧
  (∀ (s q : State) (k : Ticket) (rq : Requester) (d : Desc), Taken specLogRead rq d s q k → let off := d.target.toNat
    let len := opn d 16 0 32
    let all := 32 * q.mp.logCount
    let n := if all ≤ off then 0 else if off + len ≤ all then len else all - off
    let place := fun (i : Nat) => q.mp.lseq.toNat + 65536 - q.mp.logCount + (off + i) / 32
    (q.glb.mpRunning = false → exec (.logRead rq d) s = .next (complete q k stRefused 0)) ∧
    (q.glb.mpRunning = true → (32767 < off ∨ 32768 < off + len) → exec (.logRead rq d) s = .next (complete q k stRange 0)) ∧
    (q.glb.mpRunning = true → off ≤ 32767 → off + len ≤ 32768 →
      ((∀ i, i < n → (nvRead q (logPage (place i))).isSome = true) → ∃ bs : List Byte, bs.length = n ∧
        (∀ i, i < n → bs[i]? = (nvRead q (logPage (place i))).bind fun p => p[logOff (place i) + (off + i) % 32]?) ∧
        exec (.logRead rq d) s = .next (complete (cmdWrite q rq d.addr.toNat bs) k stSuccess (BitVec.ofNat 64 n))) ∧
      ((∃ i, i < n ∧ nvRead q (logPage (place i)) = none) → ∃ u, SameBytes q u ∧ u.nvm.pageErr = true ∧
        exec (.logRead rq d) s = .next (complete u k stDeviceError 0)))) ∧
  (∀ (s : State) (xs : List (Nat × Int)), domOn s 3 = true → rootAlive s = true → s.glb.otpLoaded = true → s.mp.bootState = 0 →
    s.glb.mpRunning = false → let c := bootCtl s
    let boots := fun (n : Nat) => Answers (.mpBoot xs) s fun t => t.glb.mpRunning = true ∧ t.mp.bootState = n + 1 ∧ t.flash = s.flash ∧
      t.mp.confirmed = (!t.mp.trial) ∧ t.mp.fwLevels = BitVec.ofNat 16 (leField (slotHead s n) 6 2) ∧
      (s.memWf → ∀ i, i < headCode (slotHead s n) → sramByte t i = flashByteAt s (slotBase n + 256 + i))
    (c.trial = false → (verifySlot s c.preferred = true → boots c.preferred) ∧
      (verifySlot s c.preferred = false → verifySlot s (1 - c.preferred) = true → boots (1 - c.preferred))) ∧
    (verifySlot s 0 = false → verifySlot s 1 = false → Answers (.mpBoot xs) s fun t => t.mp.bootState = 3 ∧ t.glb.mpRunning = false ∧
      (Sparse.get? t.flt.lines 21).isSome = true) ∧
    (c.trial = true → c.fails < 3 → Answers (.mpBoot xs) s fun t => t.mp.preferred = c.preferred ∧ t.mp.trial = true ∧ t.mp.failCount = c.fails + 1) ∧
    (c.trial = true → 3 ≤ c.fails → Answers (.mpBoot xs) s fun t => t.mp.preferred = 1 - c.preferred ∧ t.mp.trial = false ∧ t.mp.failCount = 0 ∧
      EventRaised s t 59 (ev59Detail s 4 (1 - c.preferred) (slotVersion s (1 - c.preferred)).toNat))) ∧
  (∀ s : State, domOn s 3 = true → rootAlive s = true → Answers .mpSelfRestart s fun t => restarts s t ∧ (idle s → SameBytes s t) ∧
    t.regs = s.regs ∧ ∀ m, (dom s 3).move = some m → ∃ n w, (dom t 3).move = some n ∧ n.req.target = .off ∧ (dom t 3).waiting = some w ∧
      w.target = .on) ∧
  ∀ (s : State) (n : Nat), mpRuns s = true → runningSlot s = some n → let h := s.mp.image.take 256
    (∀ p, p < headData h / 4096 → let hash := sha256 (dataPage s n h p)
      (hash = (s.mp.image.drop (256 + 32 * p)).take 32 → exec (.mpDataPageFill p) s = .next s) ∧
      (hash ≠ (s.mp.image.drop (256 + 32 * p)).take 32 → Answers (.mpDataPageFill p) s fun t => restarts s t ∧ (idle s → SameBytes s t))) ∧
    (s.mp.onSeconds < s.mp.bootSeconds + 60 → ∀ cut, exec (.fwConfirm cut) s = .next s) ∧
    (s.mp.trial = true → s.mp.confirmed = false → s.goose1.clean = true → s.mp.bootSeconds + 60 ≤ s.mp.onSeconds → let goal := if headRollback h < 96 then headRollback h else 96
      ∀ cut, Answers (.fwConfirm cut) s fun t => t.mp.confirmed = true ∧ t.mp.trial = false ∧ t.mp.failCount = 0 ∧ t.mp.preferred = s.mp.preferred ∧
        t.mp.rollbackGoal = goal ∧
        (goal ≤ s.otp.rollback → t.otp = s.otp ∧ EventRaised s t 59 (ev59Detail s 3 n (headVersion h))) ∧
        (s.otp.rollback < goal → otpUnfit s = false →
          ((∀ x, cut = some x → goal ≤ s.otp.rollback + x.step) → t.otp.rollback = goal ∧ EventRaised s t 59 (ev59Detail t 5 n (headVersion h)) ∧
            ∀ w, s.otp.rollback ≤ w → w < goal → otpCell t.otp (832 + w) = OtpCell.clean (otpEncode (BitVec.ofNat 32 (0x52420000 + w)))) ∧
          ∀ x, cut = some x → s.otp.rollback + x.step < goal → t.otp.rollback = s.otp.rollback + x.step ∧
            (cutCell x ≠ OtpCell.clean 0 → otpCell t.otp (832 + s.otp.rollback + x.step) = cutCell x))) ∧
    (s.mp.onSeconds / 3600 ≤ s.mp.hourRoll → ∀ cut, exec (.rollbackRetry cut) s = .next s) ∧
    (s.mp.hourRoll < s.mp.onSeconds / 3600 → (s.mp.rollbackGoal ≤ s.otp.rollback ∨ otpUnfit s = true) → ∀ cut,
      exec (.rollbackRetry cut) s = .next { s with mp := { s.mp with hourRoll := s.mp.onSeconds / 3600 } }) ∧
    (s.mp.hourRoll < s.mp.onSeconds / 3600 → s.otp.rollback < s.mp.rollbackGoal → s.mp.rollbackGoal ≤ 96 → otpUnfit s = false →
      (Answers (.rollbackRetry none) s fun t => t.otp.rollback = s.mp.rollbackGoal ∧
        EventRaised s t 59 (ev59Detail t 5 s.mp.rollbackSlot (headVersion h))) ∧
      ∀ x, s.otp.rollback + x.step < s.mp.rollbackGoal → Answers (.rollbackRetry (some x)) s fun t => t.otp.rollback = s.otp.rollback + x.step ∧
        (cutCell x ≠ OtpCell.clean 0 → otpCell t.otp (832 + s.otp.rollback + x.step) = cutCell x))

/-- Parking. Parking begins with PD_CORE out of on and groups to park: its counts and charge start at 0, a group left out is
asked to off, an enumerated one to retention. A scan of a group, due once in a second of CLK_AON, makes the authentications that
are due, counts, marks the nodes it finds missing or unsynchronised, makes the fault checks of its good nodes and three times that
of R205, reads the checks of parking and asks for retention again; a check that holds for its persistence wakes the host once, with
its code and its lowest node, and one that does not hold starts its run over. (R28, R38, R196, R205, R605, R607, R608, R609) -/
def Obligations.ParkingRuns : Prop :=
  (∀ s : State, (mpRuns s = false ∨ (dom s 4).state = .on ∨ parkGroups s = 0 ∨ s.mp.parking.active = true) → exec .parkingStart s = .next s) ∧
  (∀ s : State, mpRuns s = true → (dom s 4).state ≠ .on → parkGroups s ≠ 0 → s.mp.parking.active = false → Answers .parkingStart s fun t =>
    t.mp.parking.active = true ∧ t.mp.parking.groups = parkGroups s ∧ t.mp.parking.scans = 0 ∧ t.mp.parking.charge = 0 ∧
    t.mp.parking.runs = List.replicate 16 0 ∧ t.mp.parking.dueMs = [0, 0, 0, 0] ∧
    ∀ g, g < 4 → let k := 6 + g
      (bitOf (parkGroups s) g = false → (dom s k).state ≠ .off → (dom t k).req = .off) ∧
      (bitOf (parkGroups s) g = true → domOff s k = false → unenumerated s g = [] → (dom t k).req = .retention) ∧
      (bitOf (parkGroups s) g = true → (domOff s k = true ∨ unenumerated s g ≠ []) → (dom t k).req = .on)) ∧
  (∀ (s : State) (g : Fin 4) recs acc lost auths ms, (s.glb.mpRunning = false ∨ s.mp.parking.active = false ∨
    bitOf s.mp.parking.groups g.val = false ∨ (dom s (6 + g.val)).move.isSome = true ∨ ms < (s.mp.parking.dueMs[g.val]?).getD 0) →
    exec (.parkingScan g recs acc lost auths ms) s = .next s) ∧
  ∀ (s : State) (g : Fin 4) recs acc lost auths ms, (s.mp.parking.dueMs[g.val]?).getD 0 ≤ ms → s.glb.mpRunning = true → s.mp.parking.active = true → bitOf s.mp.parking.groups g.val = true →
    (dom s (6 + g.val)).move = none → domOff s (6 + g.val) = false →
    (domOn s (6 + g.val) = true → unenumerated s g.val = [] ∧ s.lp.jobs = [] ∧ s.lp.wait = none) →
    let z := forEach ((s.lp.nodes.map Prod.fst).filter fun a => a / 128 = g.val) (parkAuth auths)
      (setPark s { s.mp.parking with dueMs := listSet s.mp.parking.dueMs g.val (1000 * (ms / 1000 + 1)) })
    let v := forEach ((z.lp.nodes.map Prod.fst).filter fun a => a / 128 = g.val) (parkSeen recs lost) z
    let mine := recs.filter fun e => e.1 / 128 = g.val && nodeGood v e.1 && !(node v e.1).unrestored && !(node v e.1).restoring
    let y := parkLatch g.val (forUpTo 3 (fun _ q => syncCheck q) (forEach mine parkFaults v))
    let hit := parkCheck y g.val mine lost
    let run := fun (c : Nat) => if (hit c).isSome then ((s.mp.parking.runs[4 * g.val + c]?).getD 0) + 1 else 0
    let due := fun (c : Nat) => parkPersist s ≤ run c ∧ (s.mp.parking.woken[4 * g.val + c]?).getD false = false
    Answers (.parkingScan g recs acc lost auths ms) s fun t => t.mp.parking.scans = s.mp.parking.scans + 1 ∧ t.mp.parkScans = satInc s.mp.parkScans ∧
      t.mp.parking.active = true ∧
      (g.val < s.mp.parking.dueMs.length → t.mp.parking.dueMs[g.val]? = some (1000 * (ms / 1000 + 1))) ∧
      (∀ c, c < 4 → s.mp.parking.runs.length = 16 → (t.mp.parking.runs[4 * g.val + c]?).getD 0 = run c) ∧
      (domOn y (6 + g.val) = true → (dom t (6 + g.val)).req = .retention) ∧
      (∀ c a, c < 4 → hit c = some a → due c → (∀ j, j < c → ¬ due j) → t.mp.lastCode = 0x30 + c ∧ t.mp.parkNode = a ∧
        t.pwr.wake.code = BitVec.ofNat 8 (0x30 + c) ∧ t.pwr.wake.host = true ∧ (y.seq.state = .up → t.wakeMp = true)) ∧
      ((∀ c, c < 4 → ¬ due c) → t.mp.lastCode = s.mp.lastCode ∧ t.mp.parkNode = s.mp.parkNode ∧ t.pwr.wake = s.pwr.wake ∧ t.wakeMp = s.wakeMp)

/-- Ageing measurements and the margin plan. An hourly measurement takes the degradation of each monitor whose domain is on, 0
where its baseline is lost. The temperature warning is raised once while armed. A second counts on-time. A re-plan, after each
100 h of on-time or asked for, raises the revision and keeps each planned value within its limit; POLICY then applies it,
proposes it with EV57, or leaves it; while an application runs it is held. MARGIN_PLAN_GET answers the 24 records and the
revision; MARGIN_PLAN_ACCEPT applies a pending plan of that revision. An application sends TRIM to its planned value one step at a
time within its range, and then sets the other items; at its end the plan is stored. (R416, R611, R612, R613, R614, R615, R617,
R618, R620, R621, R622, R624) -/
def Obligations.AgeingAndPlan : Prop :=
  let planned := fun (s t : State) (xs : List (Nat × Int)) => t.mp.revision = s.mp.revision + 1 ∧ t.mp.items.length = 24 ∧ t.mp.rate = none ∧
    t.mp.passWords = 0 ∧ (∀ i, i < 24 → (margin t i).limit = (margin s i).limit) ∧
    (∀ i, i < 24 → isMonitor i = false → 0 ≤ (margin s i).limit → (margin t i).planned ≤ (margin s i).limit) ∧
    (∀ e, e ∈ xs → (∀ f, f ∈ xs → f.1 = e.1 → f.2 = e.2) → Sparse.get? t.mp.inputs e.1 = some e.2)
  let replans := fun (i : Instr) (s : State) (xs : List (Nat × Int)) =>
    (s.mp.applying = true → Answers i s fun t => t.mp.replanHeld = true ∧ t.mp.revision = s.mp.revision ∧ t.mp.items = s.mp.items ∧
      t.mp.applying = true ∧ SameBytes s t) ∧
    (s.mp.applying = false → Answers i s fun t => planned s t xs ∧ t.mp.replanHeld = false ∧
      (marginPolicy t = 2 → t.mp.applying = false ∧ t.mp.pending = false) ∧
      (marginPolicy t = 1 → t.mp.applying = false ∧ (t.mp.pending = true ↔ marginChanges t ≠ 0) ∧
        (t.mp.pending = true → EventRaised s t 57 (pack 64 [(0, 32, t.mp.revision.toNat), (32, 5, marginChanges t)]))) ∧
      (marginPolicy t = 0 → t.mp.pending = false ∧ (t.mp.applying = true → t.mp.applyCount ≠ 0) ∧
        (t.mp.applying = false → marginChanges t = 0)))
  (∀ (s : State) xs, mpRuns s = false → exec (.marginReplanPeriodic xs) s = .next s ∧ exec (.marginApplyDone xs) s = .next s) ∧
  (∀ (s : State) (xs : List (Nat × Int)), mpRuns s = true →
    (s.mp.onSeconds / 360000 ≤ s.mp.hourPlan → exec (.marginReplanPeriodic xs) s = .next s) ∧
    (s.mp.hourPlan < s.mp.onSeconds / 360000 → replans (.marginReplanPeriodic xs) s xs)) ∧
  (∀ (s : State) (via : Via) (w : Word) (xs : List (Nat × Int)), via ≠ .sideband → viaReach s via = true → domOn s 3 = true → rootAlive s = true →
    ((bitOf w 2 = false ∨ s.glb.mpRunning = false) → Answers (.replan via w xs) s fun t => fld t 0xA034 0 2 = bitsOf w 0 2 ∧ t.mp = s.mp ∧ SameBytes s t) ∧
    (bitOf w 2 = true → s.glb.mpRunning = true → replans (.replan via w xs) s xs)) ∧
  (∀ (s : State) (xs : List (Nat × Int)), mpRuns s = true → (s.mp.applying = false → exec (.marginApplyDone xs) s = .next s) ∧
    (s.mp.applying = true → s.mp.replanHeld = false → Answers (.marginApplyDone xs) s fun t => t.mp.applying = false ∧ t.mp.pending = false ∧
      t.mp.revision = s.mp.revision ∧ (s.mp.trimGoal = none → s.mp.itemsWait = false → t.mp.items = s.mp.items ∧ SameBytes s t))) ∧
  (∀ (s : State) (g : Int), mpRuns s = true → s.mp.trimGoal = some g → let x := s.pwr.trim
    let t := trimTick s
    t.pwr.trim = trimWithin (if x < g then x + 1 else if g < x then x - 1 else x) ∧
    (t.pwr.trim ≠ g → t = { s with pwr := { s.pwr with trim := t.pwr.trim } }) ∧ (t.pwr.trim = g → t.mp.trimGoal = none ∧ (s.mp.itemsWait = true → s.mp.items.length = 24 →
      ∀ i, i < 24 → i ≠ 3 → i ≠ 0 → isMonitor i = false → (margin t i).present = (margin s i).planned))) ∧
  (∀ (s q : State) (k : Ticket) (rq : Requester) (d : Desc),
    (Taken specMarginPlanGet rq d s q k → (q.glb.mpRunning = false → exec (.marginPlanGet rq d) s = .next (complete q k stRefused 0)) ∧
      (q.glb.mpRunning = true → ∃ bs : List Byte, bs.length = 384 ∧ (∀ i, i < 24 → let m := margin q i
          leField bs (16 * i) 1 = i ∧ leField bs (16 * i + 4) 4 = toTwos 32 m.present ∧ leField bs (16 * i + 8) 4 = toTwos 32 m.planned ∧
          leField bs (16 * i + 12) 4 = toTwos 32 m.limit) ∧
        exec (.marginPlanGet rq d) s = .next (complete (hostWrite q d.addr.toNat bs) k stSuccess (q.mp.revision.setWidth 64)))) ∧
    (Taken specMarginPlanAccept rq d s q k → (q.glb.mpRunning = false → exec (.marginPlanAccept rq d) s = .next (complete q k stRefused 0)) ∧
      (q.glb.mpRunning = true → opn d 16 0 32 ≠ q.mp.revision.toNat → exec (.marginPlanAccept rq d) s = .next (complete q k stStale 0)) ∧
      (q.glb.mpRunning = true → opn d 16 0 32 = q.mp.revision.toNat →
        ((marginPolicy q ≠ 1 ∨ q.mp.pending = false ∨ q.mp.applying = true) → exec (.marginPlanAccept rq d) s = .next (complete q k stRefused 0)) ∧
        (marginPolicy q = 1 → q.mp.pending = true → q.mp.applying = false → ∃ u, u.mp.applying = true ∧ u.mp.applyCount = marginChanges q ∧
          ((margin q 0).planned = (margin q 0).present → q.mp.trimGoal = none → u.pwr.trim = q.pwr.trim ∧ ∀ i, i < 24 → i ≠ 3 → isMonitor i = false →
            q.mp.items.length = 24 → (margin u i).present = (margin q i).planned) ∧
          ((margin q 0).planned ≠ (margin q 0).present → let g := trimWithin (margin q 0).planned
            u.pwr.trim = trimWithin (if q.pwr.trim < g then q.pwr.trim + 1 else if g < q.pwr.trim then q.pwr.trim - 1 else q.pwr.trim) ∧
            (u.pwr.trim ≠ g → u.mp.trimGoal = some g ∧ u.mp.itemsWait = true ∧ u.mp.items = q.mp.items)) ∧
          u.mp.revision = q.mp.revision ∧ exec (.marginPlanAccept rq d) s = .next (complete u k stSuccess 0))))) ∧
  (∀ (s : State) (ms : List (Nat × Nat × Nat)) (lost : List Nat) (gate : Int) (drifts : List Int),
    ((mpRuns s = false ∨ s.mp.onSeconds / 3600 ≤ s.mp.hourAge) → exec (.ageingMeasure ms lost gate drifts) s = .next s) ∧
    (mpRuns s = true → s.mp.hourAge < s.mp.onSeconds / 3600 → Answers (.ageingMeasure ms lost gate drifts) s fun t =>
      Sparse.get? t.mp.sensors 51 = some gate ∧ t.regs = s.regs ∧ t.mp.hourAge = s.mp.onSeconds / 3600 ∧
      (drifts.length = 3 → t.mp.shadows.bandgap = drifts) ∧
      ∀ m rho rho0, (m, rho, rho0) ∈ ms → m < 24 → (∀ w, (m, w) ∈ ms → w = (rho, rho0)) →
        (domOn s (monitorDom m) = true → Sparse.get? t.mp.monitors m =
          some (if bitOf s.otp.digestFail 0 = true ∨ m ∈ lost then 0 else degradation rho rho0)) ∧
        (domOn s (monitorDom m) = false → Sparse.get? t.mp.monitors m = Sparse.get? s.mp.monitors m))) ∧
  ∀ (s : State), mpRuns s = true → (∀ (k : Fin 8) (t : BitVec 16),
      ((s.mp.dieArmed = false ∨ t.toInt < warnTemp s) → exec (.dieTempWarn k t) s =
        .next { s with mp := { s.mp with dieMax := t.toInt, dieSensor := k.val } }) ∧
      (s.mp.dieArmed = true → warnTemp s ≤ t.toInt → Answers (.dieTempWarn k t) s fun u =>
        OnlyEvents { s with mp := { s.mp with dieMax := t.toInt, dieSensor := k.val, dieArmed := false } } u ∧
        EventRaised s u 61 (pack 64 [(0, 3, k.val), (16, 16, t.toNat)]))) ∧
    ∀ ss, Answers (.onTimeSecond ss) s fun t => t.mp.onSeconds = s.mp.onSeconds + 1 ∧ t.regs = s.regs ∧ (s.mp.dieArmed = false → SameBytes s t) ∧
      (∀ n, n < 8 → (rail t n).secSum = 0 ∧ (rail t n).secN = 0) ∧
      (s.pwr.saveActive = false → s.nvm.busy = none → t.mp.todo = []) ∧ (∀ e, e ∈ ss → (∀ f, f ∈ ss → f.1 = e.1 → f.2 = e.2) → Sparse.get? t.mp.sensors e.1 = some e.2)
end

