-- ==== Sys2Proof/Laws/Memory.lean ====
section
/-! SUPPORT. The laws of byte memories, sparse tables, vectors and the folds over them. -/

namespace Sys2Proof.Machine

/-! ### Byte memories -/

@[simp] theorem Mem.get_nil (d : Byte) (a : Nat) : Mem.get d [] a = d := rfl
@[simp] theorem Mem.wf_nil (d : Byte) : Mem.wf d [] = true := rfl
@[simp] theorem Mem.read_zero (d : Byte) (m : List Host.Cell) (a : Nat) : Mem.read d m a 0 = [] := rfl
@[simp] theorem Mem.write_nil (d : Byte) (m : List Host.Cell) (a : Nat) : Mem.write d m a [] = m := rfl

/-- The canonical form from a lower bound holds from any lower one. -/
theorem Mem.wfFrom_mono {d : Byte} {lo lo' : Nat} (h : lo' ≤ lo) {m : List Host.Cell} (hm : Mem.wfFrom d lo m = true) :
    Mem.wfFrom d lo' m = true := by
  cases m with
  | nil => rfl
  | cons c t =>
    simp only [Mem.wfFrom, Bool.and_eq_true, decide_eq_true_eq] at hm ⊢
    exact ⟨⟨Nat.le_trans h hm.1.1, hm.1.2⟩, hm.2⟩

/-- Below every listed address a canonical memory reads its default. -/
theorem Mem.get_below {d : Byte} {m : List Host.Cell} : ∀ {lo a : Nat}, Mem.wfFrom d lo m = true → a < lo → Mem.get d m a = d := by
  induction m with
  | nil => intros; rfl
  | cons c t ih =>
    intro lo a hm ha
    simp only [Mem.wfFrom, Bool.and_eq_true, decide_eq_true_eq] at hm
    have hk : c.1 ≠ a := by omega
    simpa [Mem.get, hk] using ih hm.2 (by omega)

theorem Mem.wfFrom_set {d : Byte} {b : Byte} {a : Nat} {m : List Host.Cell} :
    ∀ {lo : Nat}, lo ≤ a → Mem.wfFrom d lo m = true → Mem.wfFrom d lo (Mem.set d m a b) = true := by
  induction m with
  | nil => intro lo hl _; by_cases h : b = d <;> simp [Mem.set, Mem.wfFrom, h, hl]
  | cons c t ih =>
    intro lo hl hm
    obtain ⟨k, v⟩ := c
    simp only [Mem.wfFrom, Bool.and_eq_true, decide_eq_true_eq] at hm
    obtain ⟨⟨h1, h2⟩, h3⟩ := hm
    rw [Mem.set]
    split
    · next hk =>
      subst hk
      split
      · exact Mem.wfFrom_mono (by omega) h3
      · next hb => simp [Mem.wfFrom, hl, hb, h3]
    · split
      · next hk hlt =>
        split
        · simp [Mem.wfFrom, h1, h2, h3]
        · next hb => simp [Mem.wfFrom, hl, hb, h2, h3]; omega
      · next hk hlt => simp [Mem.wfFrom, h1, h2, ih (show k + 1 ≤ a by omega) h3]

/-- Writing one byte keeps the canonical form. -/
theorem Mem.wf_set {d : Byte} {m : List Host.Cell} (a : Nat) (b : Byte) (h : Mem.wf d m = true) : Mem.wf d (Mem.set d m a b) = true :=
  Mem.wfFrom_set (Nat.zero_le a) h

/-- Writing bytes keeps the canonical form. -/
theorem Mem.wf_write {d : Byte} {bs : List Byte} : ∀ {m : List Host.Cell} {a : Nat}, Mem.wf d m = true → Mem.wf d (Mem.write d m a bs) = true := by
  induction bs with
  | nil => intro m a h; exact h
  | cons b t ih => intro m a h; exact ih (Mem.wf_set a b h)

theorem Mem.get_set_from {d : Byte} {b : Byte} {a x : Nat} {m : List Host.Cell} :
    ∀ {lo : Nat}, Mem.wfFrom d lo m = true → Mem.get d (Mem.set d m a b) x = if x = a then b else Mem.get d m x := by
  induction m with
  | nil =>
    intro lo _
    by_cases hb : b = d <;> by_cases hx : x = a
    · simp [Mem.set, Mem.get, hb]
    · simp [Mem.set, Mem.get, hb]
    · simp [Mem.set, Mem.get, hb, hx]
    · simp [Mem.set, Mem.get, hb, hx, Ne.symm hx]
  | cons c t ih =>
    intro lo hm
    obtain ⟨k, v⟩ := c
    simp only [Mem.wfFrom, Bool.and_eq_true, decide_eq_true_eq] at hm
    obtain ⟨-, h3⟩ := hm
    rw [Mem.set]
    split
    · next hk =>
      subst hk
      split
      · next hb =>
        by_cases hx : x = k
        · subst hx; simpa [hb] using Mem.get_below h3 (Nat.lt_succ_self x)
        · simp [Mem.get, hx, Ne.symm hx]
      · by_cases hx : x = k
        · simp [Mem.get, hx]
        · simp [Mem.get, hx, Ne.symm hx]
    · next hk =>
      split
      · next hlt =>
        have hbel : Mem.get d t a = d := Mem.get_below h3 (by omega)
        split
        · next hb =>
          by_cases hx : x = a
          · simp [Mem.get, hx, hk, hbel, hb]
          · simp [hx]
        · by_cases hx : x = a
          · simp [Mem.get, hx]
          · simp [Mem.get, hx, Ne.symm hx]
      · by_cases hx : x = k
        · have hxa : k ≠ a := hk
          simp [Mem.get, hx, hxa]
        · simp only [Mem.get, Ne.symm hx, if_false]
          exact ih h3

/-- Reading one byte after writing one. -/
theorem Mem.get_set {d : Byte} {m : List Host.Cell} (h : Mem.wf d m = true) (a x : Nat) (b : Byte) :
    Mem.get d (Mem.set d m a b) x = if x = a then b else Mem.get d m x := Mem.get_set_from h

/-- Bytes outside what is written read as before. -/
theorem Mem.get_write_other {d : Byte} {bs : List Byte} : ∀ {m : List Host.Cell} {a x : Nat}, Mem.wf d m = true → x < a ∨ a + bs.length ≤ x →
    Mem.get d (Mem.write d m a bs) x = Mem.get d m x := by
  induction bs with
  | nil => intros; rfl
  | cons b t ih =>
    intro m a x hm hx
    have hxa : x ≠ a := by simp only [List.length_cons] at hx; omega
    rw [Mem.write, ih (Mem.wf_set a b hm) (by simp only [List.length_cons] at hx; omega), Mem.get_set hm, if_neg hxa]

/-- A byte that is written reads as written. -/
theorem Mem.get_write_at {d : Byte} {bs : List Byte} : ∀ {m : List Host.Cell} {a i : Nat} (_ : Mem.wf d m = true) (hi : i < bs.length),
    Mem.get d (Mem.write d m a bs) (a + i) = bs[i] := by
  induction bs with
  | nil => intro m a i _ hi; simp at hi
  | cons b t ih =>
    intro m a i hm hi
    rw [Mem.write]
    cases i with
    | zero => simp [Mem.get_write_other (Mem.wf_set a b hm) (Or.inl (Nat.lt_succ_self a)), Mem.get_set hm]
    | succ j =>
      have := ih (m := Mem.set d m a b) (a := a + 1) (i := j) (Mem.wf_set a b hm) (by simpa using hi)
      simpa [Nat.add_assoc, Nat.add_comm 1 j] using this

@[simp] theorem Mem.read_length (d : Byte) (m : List Host.Cell) (n : Nat) : ∀ a : Nat, (Mem.read d m a n).length = n := by
  induction n with
  | zero => intro a; rfl
  | succ n ih => intro a; simp [Mem.read, ih]

/-- Two memories that agree on a range read alike there. -/
theorem Mem.read_congr {d : Byte} {m m' : List Host.Cell} {n : Nat} : ∀ {a : Nat}, (∀ i < n, Mem.get d m (a + i) = Mem.get d m' (a + i)) →
    Mem.read d m a n = Mem.read d m' a n := by
  induction n with
  | zero => intros; rfl
  | succ n ih =>
    intro a h
    have h0 : Mem.get d m a = Mem.get d m' a := by simpa using h 0 (Nat.succ_pos n)
    have hs : Mem.read d m (a + 1) n = Mem.read d m' (a + 1) n := ih fun i hi => by
      simpa [Nat.add_assoc, Nat.add_comm 1 i] using h (i + 1) (by omega)
    simp [Mem.read, h0, hs]

/-! ### Sparse tables -/

/-- The value at a key after one is put there. -/
@[simp] theorem Sparse.get?_set_self {β : Type} (t : Sparse β) (a : Nat) (b : β) : Sparse.get? (Sparse.set t a b) a = some b := by
  induction t with
  | nil => simp [Sparse.set, Sparse.get?]
  | cons e t ih =>
    obtain ⟨k, v⟩ := e
    rw [Sparse.set]
    split
    · simp [Sparse.get?]
    · next hk =>
      split
      · simp [Sparse.get?]
      · simp [Sparse.get?, hk, ih]

/-- Every other key keeps its value. -/
theorem Sparse.get?_set_other {β : Type} (t : Sparse β) {a x : Nat} (b : β) (h : x ≠ a) : Sparse.get? (Sparse.set t a b) x = Sparse.get? t x := by
  induction t with
  | nil => simp [Sparse.set, Sparse.get?, Ne.symm h]
  | cons e t ih =>
    obtain ⟨k, v⟩ := e
    rw [Sparse.set]
    split
    · next hk => subst hk; simp [Sparse.get?, Ne.symm h]
    · split
      · simp [Sparse.get?, Ne.symm h]
      · simp [Sparse.get?, ih]

@[simp] theorem Sparse.getD_set_self {β : Type} (t : Sparse β) (a : Nat) (b d : β) : Sparse.getD (Sparse.set t a b) a d = b := by
  simp [Sparse.getD]

theorem Sparse.getD_set_other {β : Type} (t : Sparse β) {a x : Nat} (b d : β) (h : x ≠ a) : Sparse.getD (Sparse.set t a b) x d = Sparse.getD t x d := by
  simp [Sparse.getD, Sparse.get?_set_other t b h]

/-- Every key but the one taken out keeps its value. -/
theorem Sparse.get?_del_other {β : Type} (t : Sparse β) {a x : Nat} (h : x ≠ a) : Sparse.get? (Sparse.del t a) x = Sparse.get? t x := by
  induction t with
  | nil => rfl
  | cons e t ih =>
    obtain ⟨k, v⟩ := e
    by_cases hk : k = a
    · subst hk; simpa [Sparse.del, Sparse.get?, Ne.symm h] using ih
    · simp only [Sparse.del, ne_eq, hk, not_false_eq_true, decide_true, List.filter_cons_of_pos, Sparse.get?]
      simpa [Sparse.del] using congrArg (fun y => if k = x then some v else y) ih

/-- A key taken out has no value. -/
@[simp] theorem Sparse.get?_del_self {β : Type} (t : Sparse β) (a : Nat) : Sparse.get? (Sparse.del t a) a = none := by
  induction t with
  | nil => rfl
  | cons e t ih =>
    obtain ⟨k, v⟩ := e
    by_cases hk : k = a
    · subst hk; simpa [Sparse.del] using ih
    · simpa [Sparse.del, Sparse.get?, hk] using ih

/-! ### Vectors and lists by number -/

theorem vget_vput {α : Type} {n : Nat} (v : Vector α n) (i j : Nat) (a d : α) : vget (vput v i a) j d = if i = j ∧ i < n then a else vget v j d := by
  unfold vget vput
  by_cases hi : i < n
  · by_cases hj : j < n
    · simp [hi, hj, Vector.getElem_set]
    · have : i ≠ j := by omega
      simp [hj, this]
  · simp [hi]

@[simp] theorem vget_vput_self {α : Type} {n : Nat} (v : Vector α n) {i : Nat} (a d : α) (h : i < n) : vget (vput v i a) i d = a := by
  simp [vget_vput, h]

theorem vget_vput_other {α : Type} {n : Nat} (v : Vector α n) {i j : Nat} (a d : α) (h : i ≠ j) : vget (vput v i a) j d = vget v j d := by
  simp [vget_vput, h]

@[simp] theorem listSet_length {α : Type} (l : List α) : ∀ (i : Nat) (a : α), (listSet l i a).length = l.length := by
  induction l with
  | nil => intros; rfl
  | cons b t ih => intro i a; cases i <;> simp [listSet, ih]

theorem listSet_getElem? {α : Type} (l : List α) : ∀ (i j : Nat) (a : α), (listSet l i a)[j]? = if i = j ∧ i < l.length then some a else l[j]? := by
  induction l with
  | nil => intros; simp [listSet]
  | cons b t ih =>
    intro i j a
    cases i with
    | zero => cases j <;> simp [listSet]
    | succ i => cases j with
      | zero => simp [listSet]
      | succ j => simp [listSet, ih]

/-! ### Folds -/

/-- What holds at the start and is kept by every turn holds at the end. -/
theorem forUpTo_induct {σ : Type} {P : σ → Prop} {f : Nat → σ → σ} {s : σ} (n : Nat) (h0 : P s) (h : ∀ i q, i < n → P q → P (f i q)) :
    P (forUpTo n f s) := by
  induction n with
  | zero => exact h0
  | succ n ih => exact h n _ (Nat.lt_succ_self n) (ih fun i q hi => h i q (Nat.lt_succ_of_lt hi))

theorem forEach_induct {α σ : Type} {P : σ → Prop} {f : α → σ → σ} {l : List α} : ∀ {s : σ}, P s → (∀ a ∈ l, ∀ q, P q → P (f a q)) → P (forEach l f s) := by
  induction l with
  | nil => intro s h _; exact h
  | cons a t ih => intro s h hf; exact ih (hf a (List.mem_cons_self ..) s h) fun b hb => hf b (List.mem_cons_of_mem _ hb)

/-- A reading that no turn changes is the same at the end. -/
theorem forUpTo_same {σ τ : Type} (g : σ → τ) {f : Nat → σ → σ} (n : Nat) (s : σ) (h : ∀ i q, g (f i q) = g q) : g (forUpTo n f s) = g s :=
  forUpTo_induct (P := fun q => g q = g s) n rfl fun i q _ hq => (h i q).trans hq

theorem forEach_same {α σ τ : Type} (g : σ → τ) {f : α → σ → σ} (l : List α) (s : σ) (h : ∀ a q, g (f a q) = g q) : g (forEach l f s) = g s :=
  forEach_induct (P := fun q => g q = g s) rfl fun a _ q hq => (h a q).trans hq

end Sys2Proof.Machine
end

