-- ==== Sys2Proof/Laws/State.lean ====
section
/-! SUPPORT. What each update of the state leaves as it was, field by field, and what it puts in its place. -/

namespace Sys2Proof.Machine

variable (s : State)

/-! ### `wr` changes the registers -/

@[simp] theorem wr_pending (off : Nat) (w mask : Word) : (wr s off w mask).pending = s.pending := rfl
@[simp] theorem wr_pcie (off : Nat) (w mask : Word) : (wr s off w mask).pcie = s.pcie := rfl
@[simp] theorem wr_glb (off : Nat) (w mask : Word) : (wr s off w mask).glb = s.glb := rfl
@[simp] theorem wr_qe (off : Nat) (w mask : Word) : (wr s off w mask).qe = s.qe := rfl
@[simp] theorem wr_evr (off : Nat) (w mask : Word) : (wr s off w mask).evr = s.evr := rfl
@[simp] theorem wr_held (off : Nat) (w mask : Word) : (wr s off w mask).held = s.held := rfl
@[simp] theorem wr_sb (off : Nat) (w mask : Word) : (wr s off w mask).sb = s.sb := rfl
@[simp] theorem wr_ct (off : Nat) (w mask : Word) : (wr s off w mask).ct = s.ct := rfl
@[simp] theorem wr_lp (off : Nat) (w mask : Word) : (wr s off w mask).lp = s.lp := rfl
@[simp] theorem wr_mc (off : Nat) (w mask : Word) : (wr s off w mask).mc = s.mc := rfl
@[simp] theorem wr_ox (off : Nat) (w mask : Word) : (wr s off w mask).ox = s.ox := rfl
@[simp] theorem wr_park (off : Nat) (w mask : Word) : (wr s off w mask).park = s.park := rfl
@[simp] theorem wr_gauge (off : Nat) (w mask : Word) : (wr s off w mask).gauge = s.gauge := rfl
@[simp] theorem wr_rc (off : Nat) (w mask : Word) : (wr s off w mask).rc = s.rc := rfl
@[simp] theorem wr_seq (off : Nat) (w mask : Word) : (wr s off w mask).seq = s.seq := rfl
@[simp] theorem wr_flk (off : Nat) (w mask : Word) : (wr s off w mask).flk = s.flk := rfl
@[simp] theorem wr_pwr (off : Nat) (w mask : Word) : (wr s off w mask).pwr = s.pwr := rfl
@[simp] theorem wr_chg (off : Nat) (w mask : Word) : (wr s off w mask).chg = s.chg := rfl
@[simp] theorem wr_flt (off : Nat) (w mask : Word) : (wr s off w mask).flt = s.flt := rfl
@[simp] theorem wr_goose0 (off : Nat) (w mask : Word) : (wr s off w mask).goose0 = s.goose0 := rfl
@[simp] theorem wr_goose1 (off : Nat) (w mask : Word) : (wr s off w mask).goose1 = s.goose1 := rfl
@[simp] theorem wr_restart (off : Nat) (w mask : Word) : (wr s off w mask).restart = s.restart := rfl
@[simp] theorem wr_ret (off : Nat) (w mask : Word) : (wr s off w mask).ret = s.ret := rfl
@[simp] theorem wr_otp (off : Nat) (w mask : Word) : (wr s off w mask).otp = s.otp := rfl
@[simp] theorem wr_nvm (off : Nat) (w mask : Word) : (wr s off w mask).nvm = s.nvm := rfl
@[simp] theorem wr_rtc (off : Nat) (w mask : Word) : (wr s off w mask).rtc = s.rtc := rfl
@[simp] theorem wr_mp (off : Nat) (w mask : Word) : (wr s off w mask).mp = s.mp := rfl
@[simp] theorem wr_hostMem (off : Nat) (w mask : Word) : (wr s off w mask).hostMem = s.hostMem := rfl
@[simp] theorem wr_mpSram (off : Nat) (w mask : Word) : (wr s off w mask).mpSram = s.mpSram := rfl
@[simp] theorem wr_flash (off : Nat) (w mask : Word) : (wr s off w mask).flash = s.flash := rfl
@[simp] theorem wr_wakePcie (off : Nat) (w mask : Word) : (wr s off w mask).wakePcie = s.wakePcie := rfl
@[simp] theorem wr_wakeMp (off : Nat) (w mask : Word) : (wr s off w mask).wakeMp = s.wakeMp := rfl
@[simp] theorem wr_g0Reset (off : Nat) (w mask : Word) : (wr s off w mask).g0Reset = s.g0Reset := rfl
@[simp] theorem wr_upSeconds (off : Nat) (w mask : Word) : (wr s off w mask).upSeconds = s.upSeconds := rfl
@[simp] theorem wr_free (off : Nat) (w mask : Word) : (wr s off w mask).free = s.free := rfl
@[simp] theorem wr_readData (off : Nat) (w mask : Word) : (wr s off w mask).readData = s.readData := rfl

/-! ### `wrFld` changes the registers -/

@[simp] theorem wrFld_pending (off lo len v : Nat) : (wrFld s off lo len v).pending = s.pending := rfl
@[simp] theorem wrFld_pcie (off lo len v : Nat) : (wrFld s off lo len v).pcie = s.pcie := rfl
@[simp] theorem wrFld_glb (off lo len v : Nat) : (wrFld s off lo len v).glb = s.glb := rfl
@[simp] theorem wrFld_qe (off lo len v : Nat) : (wrFld s off lo len v).qe = s.qe := rfl
@[simp] theorem wrFld_evr (off lo len v : Nat) : (wrFld s off lo len v).evr = s.evr := rfl
@[simp] theorem wrFld_held (off lo len v : Nat) : (wrFld s off lo len v).held = s.held := rfl
@[simp] theorem wrFld_sb (off lo len v : Nat) : (wrFld s off lo len v).sb = s.sb := rfl
@[simp] theorem wrFld_ct (off lo len v : Nat) : (wrFld s off lo len v).ct = s.ct := rfl
@[simp] theorem wrFld_lp (off lo len v : Nat) : (wrFld s off lo len v).lp = s.lp := rfl
@[simp] theorem wrFld_mc (off lo len v : Nat) : (wrFld s off lo len v).mc = s.mc := rfl
@[simp] theorem wrFld_ox (off lo len v : Nat) : (wrFld s off lo len v).ox = s.ox := rfl
@[simp] theorem wrFld_park (off lo len v : Nat) : (wrFld s off lo len v).park = s.park := rfl
@[simp] theorem wrFld_gauge (off lo len v : Nat) : (wrFld s off lo len v).gauge = s.gauge := rfl
@[simp] theorem wrFld_rc (off lo len v : Nat) : (wrFld s off lo len v).rc = s.rc := rfl
@[simp] theorem wrFld_seq (off lo len v : Nat) : (wrFld s off lo len v).seq = s.seq := rfl
@[simp] theorem wrFld_flk (off lo len v : Nat) : (wrFld s off lo len v).flk = s.flk := rfl
@[simp] theorem wrFld_pwr (off lo len v : Nat) : (wrFld s off lo len v).pwr = s.pwr := rfl
@[simp] theorem wrFld_chg (off lo len v : Nat) : (wrFld s off lo len v).chg = s.chg := rfl
@[simp] theorem wrFld_flt (off lo len v : Nat) : (wrFld s off lo len v).flt = s.flt := rfl
@[simp] theorem wrFld_goose0 (off lo len v : Nat) : (wrFld s off lo len v).goose0 = s.goose0 := rfl
@[simp] theorem wrFld_goose1 (off lo len v : Nat) : (wrFld s off lo len v).goose1 = s.goose1 := rfl
@[simp] theorem wrFld_restart (off lo len v : Nat) : (wrFld s off lo len v).restart = s.restart := rfl
@[simp] theorem wrFld_ret (off lo len v : Nat) : (wrFld s off lo len v).ret = s.ret := rfl
@[simp] theorem wrFld_otp (off lo len v : Nat) : (wrFld s off lo len v).otp = s.otp := rfl
@[simp] theorem wrFld_nvm (off lo len v : Nat) : (wrFld s off lo len v).nvm = s.nvm := rfl
@[simp] theorem wrFld_rtc (off lo len v : Nat) : (wrFld s off lo len v).rtc = s.rtc := rfl
@[simp] theorem wrFld_mp (off lo len v : Nat) : (wrFld s off lo len v).mp = s.mp := rfl
@[simp] theorem wrFld_hostMem (off lo len v : Nat) : (wrFld s off lo len v).hostMem = s.hostMem := rfl
@[simp] theorem wrFld_mpSram (off lo len v : Nat) : (wrFld s off lo len v).mpSram = s.mpSram := rfl
@[simp] theorem wrFld_flash (off lo len v : Nat) : (wrFld s off lo len v).flash = s.flash := rfl
@[simp] theorem wrFld_wakePcie (off lo len v : Nat) : (wrFld s off lo len v).wakePcie = s.wakePcie := rfl
@[simp] theorem wrFld_wakeMp (off lo len v : Nat) : (wrFld s off lo len v).wakeMp = s.wakeMp := rfl
@[simp] theorem wrFld_g0Reset (off lo len v : Nat) : (wrFld s off lo len v).g0Reset = s.g0Reset := rfl
@[simp] theorem wrFld_upSeconds (off lo len v : Nat) : (wrFld s off lo len v).upSeconds = s.upSeconds := rfl
@[simp] theorem wrFld_free (off lo len v : Nat) : (wrFld s off lo len v).free = s.free := rfl
@[simp] theorem wrFld_readData (off lo len v : Nat) : (wrFld s off lo len v).readData = s.readData := rfl

/-! ### `takeFree` changes the count of free values -/

@[simp] theorem takeFree_pending : (takeFree s).pending = s.pending := rfl
@[simp] theorem takeFree_regs : (takeFree s).regs = s.regs := rfl
@[simp] theorem takeFree_pcie : (takeFree s).pcie = s.pcie := rfl
@[simp] theorem takeFree_glb : (takeFree s).glb = s.glb := rfl
@[simp] theorem takeFree_qe : (takeFree s).qe = s.qe := rfl
@[simp] theorem takeFree_evr : (takeFree s).evr = s.evr := rfl
@[simp] theorem takeFree_held : (takeFree s).held = s.held := rfl
@[simp] theorem takeFree_sb : (takeFree s).sb = s.sb := rfl
@[simp] theorem takeFree_ct : (takeFree s).ct = s.ct := rfl
@[simp] theorem takeFree_lp : (takeFree s).lp = s.lp := rfl
@[simp] theorem takeFree_mc : (takeFree s).mc = s.mc := rfl
@[simp] theorem takeFree_ox : (takeFree s).ox = s.ox := rfl
@[simp] theorem takeFree_park : (takeFree s).park = s.park := rfl
@[simp] theorem takeFree_gauge : (takeFree s).gauge = s.gauge := rfl
@[simp] theorem takeFree_rc : (takeFree s).rc = s.rc := rfl
@[simp] theorem takeFree_seq : (takeFree s).seq = s.seq := rfl
@[simp] theorem takeFree_flk : (takeFree s).flk = s.flk := rfl
@[simp] theorem takeFree_pwr : (takeFree s).pwr = s.pwr := rfl
@[simp] theorem takeFree_chg : (takeFree s).chg = s.chg := rfl
@[simp] theorem takeFree_flt : (takeFree s).flt = s.flt := rfl
@[simp] theorem takeFree_goose0 : (takeFree s).goose0 = s.goose0 := rfl
@[simp] theorem takeFree_goose1 : (takeFree s).goose1 = s.goose1 := rfl
@[simp] theorem takeFree_restart : (takeFree s).restart = s.restart := rfl
@[simp] theorem takeFree_ret : (takeFree s).ret = s.ret := rfl
@[simp] theorem takeFree_otp : (takeFree s).otp = s.otp := rfl
@[simp] theorem takeFree_nvm : (takeFree s).nvm = s.nvm := rfl
@[simp] theorem takeFree_rtc : (takeFree s).rtc = s.rtc := rfl
@[simp] theorem takeFree_mp : (takeFree s).mp = s.mp := rfl
@[simp] theorem takeFree_hostMem : (takeFree s).hostMem = s.hostMem := rfl
@[simp] theorem takeFree_mpSram : (takeFree s).mpSram = s.mpSram := rfl
@[simp] theorem takeFree_flash : (takeFree s).flash = s.flash := rfl
@[simp] theorem takeFree_wakePcie : (takeFree s).wakePcie = s.wakePcie := rfl
@[simp] theorem takeFree_wakeMp : (takeFree s).wakeMp = s.wakeMp := rfl
@[simp] theorem takeFree_g0Reset : (takeFree s).g0Reset = s.g0Reset := rfl
@[simp] theorem takeFree_upSeconds : (takeFree s).upSeconds = s.upSeconds := rfl
@[simp] theorem takeFree_readData : (takeFree s).readData = s.readData := rfl

/-! ### `hostWrite` changes host memory -/

@[simp] theorem hostWrite_pending (a : Nat) (bs : List Byte) : (hostWrite s a bs).pending = s.pending := rfl
@[simp] theorem hostWrite_regs (a : Nat) (bs : List Byte) : (hostWrite s a bs).regs = s.regs := rfl
@[simp] theorem hostWrite_pcie (a : Nat) (bs : List Byte) : (hostWrite s a bs).pcie = s.pcie := rfl
@[simp] theorem hostWrite_glb (a : Nat) (bs : List Byte) : (hostWrite s a bs).glb = s.glb := rfl
@[simp] theorem hostWrite_qe (a : Nat) (bs : List Byte) : (hostWrite s a bs).qe = s.qe := rfl
@[simp] theorem hostWrite_evr (a : Nat) (bs : List Byte) : (hostWrite s a bs).evr = s.evr := rfl
@[simp] theorem hostWrite_held (a : Nat) (bs : List Byte) : (hostWrite s a bs).held = s.held := rfl
@[simp] theorem hostWrite_sb (a : Nat) (bs : List Byte) : (hostWrite s a bs).sb = s.sb := rfl
@[simp] theorem hostWrite_ct (a : Nat) (bs : List Byte) : (hostWrite s a bs).ct = s.ct := rfl
@[simp] theorem hostWrite_lp (a : Nat) (bs : List Byte) : (hostWrite s a bs).lp = s.lp := rfl
@[simp] theorem hostWrite_mc (a : Nat) (bs : List Byte) : (hostWrite s a bs).mc = s.mc := rfl
@[simp] theorem hostWrite_ox (a : Nat) (bs : List Byte) : (hostWrite s a bs).ox = s.ox := rfl
@[simp] theorem hostWrite_park (a : Nat) (bs : List Byte) : (hostWrite s a bs).park = s.park := rfl
@[simp] theorem hostWrite_gauge (a : Nat) (bs : List Byte) : (hostWrite s a bs).gauge = s.gauge := rfl
@[simp] theorem hostWrite_rc (a : Nat) (bs : List Byte) : (hostWrite s a bs).rc = s.rc := rfl
@[simp] theorem hostWrite_seq (a : Nat) (bs : List Byte) : (hostWrite s a bs).seq = s.seq := rfl
@[simp] theorem hostWrite_flk (a : Nat) (bs : List Byte) : (hostWrite s a bs).flk = s.flk := rfl
@[simp] theorem hostWrite_pwr (a : Nat) (bs : List Byte) : (hostWrite s a bs).pwr = s.pwr := rfl
@[simp] theorem hostWrite_chg (a : Nat) (bs : List Byte) : (hostWrite s a bs).chg = s.chg := rfl
@[simp] theorem hostWrite_flt (a : Nat) (bs : List Byte) : (hostWrite s a bs).flt = s.flt := rfl
@[simp] theorem hostWrite_goose0 (a : Nat) (bs : List Byte) : (hostWrite s a bs).goose0 = s.goose0 := rfl
@[simp] theorem hostWrite_goose1 (a : Nat) (bs : List Byte) : (hostWrite s a bs).goose1 = s.goose1 := rfl
@[simp] theorem hostWrite_restart (a : Nat) (bs : List Byte) : (hostWrite s a bs).restart = s.restart := rfl
@[simp] theorem hostWrite_ret (a : Nat) (bs : List Byte) : (hostWrite s a bs).ret = s.ret := rfl
@[simp] theorem hostWrite_otp (a : Nat) (bs : List Byte) : (hostWrite s a bs).otp = s.otp := rfl
@[simp] theorem hostWrite_nvm (a : Nat) (bs : List Byte) : (hostWrite s a bs).nvm = s.nvm := rfl
@[simp] theorem hostWrite_rtc (a : Nat) (bs : List Byte) : (hostWrite s a bs).rtc = s.rtc := rfl
@[simp] theorem hostWrite_mp (a : Nat) (bs : List Byte) : (hostWrite s a bs).mp = s.mp := rfl
@[simp] theorem hostWrite_mpSram (a : Nat) (bs : List Byte) : (hostWrite s a bs).mpSram = s.mpSram := rfl
@[simp] theorem hostWrite_flash (a : Nat) (bs : List Byte) : (hostWrite s a bs).flash = s.flash := rfl
@[simp] theorem hostWrite_wakePcie (a : Nat) (bs : List Byte) : (hostWrite s a bs).wakePcie = s.wakePcie := rfl
@[simp] theorem hostWrite_wakeMp (a : Nat) (bs : List Byte) : (hostWrite s a bs).wakeMp = s.wakeMp := rfl
@[simp] theorem hostWrite_g0Reset (a : Nat) (bs : List Byte) : (hostWrite s a bs).g0Reset = s.g0Reset := rfl
@[simp] theorem hostWrite_upSeconds (a : Nat) (bs : List Byte) : (hostWrite s a bs).upSeconds = s.upSeconds := rfl
@[simp] theorem hostWrite_free (a : Nat) (bs : List Byte) : (hostWrite s a bs).free = s.free := rfl
@[simp] theorem hostWrite_readData (a : Nat) (bs : List Byte) : (hostWrite s a bs).readData = s.readData := rfl

/-! ### `sramWrite` changes MP SRAM -/

@[simp] theorem sramWrite_pending (a : Nat) (bs : List Byte) : (sramWrite s a bs).pending = s.pending := rfl
@[simp] theorem sramWrite_regs (a : Nat) (bs : List Byte) : (sramWrite s a bs).regs = s.regs := rfl
@[simp] theorem sramWrite_pcie (a : Nat) (bs : List Byte) : (sramWrite s a bs).pcie = s.pcie := rfl
@[simp] theorem sramWrite_glb (a : Nat) (bs : List Byte) : (sramWrite s a bs).glb = s.glb := rfl
@[simp] theorem sramWrite_qe (a : Nat) (bs : List Byte) : (sramWrite s a bs).qe = s.qe := rfl
@[simp] theorem sramWrite_evr (a : Nat) (bs : List Byte) : (sramWrite s a bs).evr = s.evr := rfl
@[simp] theorem sramWrite_held (a : Nat) (bs : List Byte) : (sramWrite s a bs).held = s.held := rfl
@[simp] theorem sramWrite_sb (a : Nat) (bs : List Byte) : (sramWrite s a bs).sb = s.sb := rfl
@[simp] theorem sramWrite_ct (a : Nat) (bs : List Byte) : (sramWrite s a bs).ct = s.ct := rfl
@[simp] theorem sramWrite_lp (a : Nat) (bs : List Byte) : (sramWrite s a bs).lp = s.lp := rfl
@[simp] theorem sramWrite_mc (a : Nat) (bs : List Byte) : (sramWrite s a bs).mc = s.mc := rfl
@[simp] theorem sramWrite_ox (a : Nat) (bs : List Byte) : (sramWrite s a bs).ox = s.ox := rfl
@[simp] theorem sramWrite_park (a : Nat) (bs : List Byte) : (sramWrite s a bs).park = s.park := rfl
@[simp] theorem sramWrite_gauge (a : Nat) (bs : List Byte) : (sramWrite s a bs).gauge = s.gauge := rfl
@[simp] theorem sramWrite_rc (a : Nat) (bs : List Byte) : (sramWrite s a bs).rc = s.rc := rfl
@[simp] theorem sramWrite_seq (a : Nat) (bs : List Byte) : (sramWrite s a bs).seq = s.seq := rfl
@[simp] theorem sramWrite_flk (a : Nat) (bs : List Byte) : (sramWrite s a bs).flk = s.flk := rfl
@[simp] theorem sramWrite_pwr (a : Nat) (bs : List Byte) : (sramWrite s a bs).pwr = s.pwr := rfl
@[simp] theorem sramWrite_chg (a : Nat) (bs : List Byte) : (sramWrite s a bs).chg = s.chg := rfl
@[simp] theorem sramWrite_flt (a : Nat) (bs : List Byte) : (sramWrite s a bs).flt = s.flt := rfl
@[simp] theorem sramWrite_goose0 (a : Nat) (bs : List Byte) : (sramWrite s a bs).goose0 = s.goose0 := rfl
@[simp] theorem sramWrite_goose1 (a : Nat) (bs : List Byte) : (sramWrite s a bs).goose1 = s.goose1 := rfl
@[simp] theorem sramWrite_restart (a : Nat) (bs : List Byte) : (sramWrite s a bs).restart = s.restart := rfl
@[simp] theorem sramWrite_ret (a : Nat) (bs : List Byte) : (sramWrite s a bs).ret = s.ret := rfl
@[simp] theorem sramWrite_otp (a : Nat) (bs : List Byte) : (sramWrite s a bs).otp = s.otp := rfl
@[simp] theorem sramWrite_nvm (a : Nat) (bs : List Byte) : (sramWrite s a bs).nvm = s.nvm := rfl
@[simp] theorem sramWrite_rtc (a : Nat) (bs : List Byte) : (sramWrite s a bs).rtc = s.rtc := rfl
@[simp] theorem sramWrite_mp (a : Nat) (bs : List Byte) : (sramWrite s a bs).mp = s.mp := rfl
@[simp] theorem sramWrite_hostMem (a : Nat) (bs : List Byte) : (sramWrite s a bs).hostMem = s.hostMem := rfl
@[simp] theorem sramWrite_flash (a : Nat) (bs : List Byte) : (sramWrite s a bs).flash = s.flash := rfl
@[simp] theorem sramWrite_wakePcie (a : Nat) (bs : List Byte) : (sramWrite s a bs).wakePcie = s.wakePcie := rfl
@[simp] theorem sramWrite_wakeMp (a : Nat) (bs : List Byte) : (sramWrite s a bs).wakeMp = s.wakeMp := rfl
@[simp] theorem sramWrite_g0Reset (a : Nat) (bs : List Byte) : (sramWrite s a bs).g0Reset = s.g0Reset := rfl
@[simp] theorem sramWrite_upSeconds (a : Nat) (bs : List Byte) : (sramWrite s a bs).upSeconds = s.upSeconds := rfl
@[simp] theorem sramWrite_free (a : Nat) (bs : List Byte) : (sramWrite s a bs).free = s.free := rfl
@[simp] theorem sramWrite_readData (a : Nat) (bs : List Byte) : (sramWrite s a bs).readData = s.readData := rfl

/-! ### `flashWrite` changes the flash -/

@[simp] theorem flashWrite_pending (a : Nat) (bs : List Byte) : (flashWrite s a bs).pending = s.pending := rfl
@[simp] theorem flashWrite_regs (a : Nat) (bs : List Byte) : (flashWrite s a bs).regs = s.regs := rfl
@[simp] theorem flashWrite_pcie (a : Nat) (bs : List Byte) : (flashWrite s a bs).pcie = s.pcie := rfl
@[simp] theorem flashWrite_glb (a : Nat) (bs : List Byte) : (flashWrite s a bs).glb = s.glb := rfl
@[simp] theorem flashWrite_qe (a : Nat) (bs : List Byte) : (flashWrite s a bs).qe = s.qe := rfl
@[simp] theorem flashWrite_evr (a : Nat) (bs : List Byte) : (flashWrite s a bs).evr = s.evr := rfl
@[simp] theorem flashWrite_held (a : Nat) (bs : List Byte) : (flashWrite s a bs).held = s.held := rfl
@[simp] theorem flashWrite_sb (a : Nat) (bs : List Byte) : (flashWrite s a bs).sb = s.sb := rfl
@[simp] theorem flashWrite_ct (a : Nat) (bs : List Byte) : (flashWrite s a bs).ct = s.ct := rfl
@[simp] theorem flashWrite_lp (a : Nat) (bs : List Byte) : (flashWrite s a bs).lp = s.lp := rfl
@[simp] theorem flashWrite_mc (a : Nat) (bs : List Byte) : (flashWrite s a bs).mc = s.mc := rfl
@[simp] theorem flashWrite_ox (a : Nat) (bs : List Byte) : (flashWrite s a bs).ox = s.ox := rfl
@[simp] theorem flashWrite_park (a : Nat) (bs : List Byte) : (flashWrite s a bs).park = s.park := rfl
@[simp] theorem flashWrite_gauge (a : Nat) (bs : List Byte) : (flashWrite s a bs).gauge = s.gauge := rfl
@[simp] theorem flashWrite_rc (a : Nat) (bs : List Byte) : (flashWrite s a bs).rc = s.rc := rfl
@[simp] theorem flashWrite_seq (a : Nat) (bs : List Byte) : (flashWrite s a bs).seq = s.seq := rfl
@[simp] theorem flashWrite_flk (a : Nat) (bs : List Byte) : (flashWrite s a bs).flk = s.flk := rfl
@[simp] theorem flashWrite_pwr (a : Nat) (bs : List Byte) : (flashWrite s a bs).pwr = s.pwr := rfl
@[simp] theorem flashWrite_chg (a : Nat) (bs : List Byte) : (flashWrite s a bs).chg = s.chg := rfl
@[simp] theorem flashWrite_flt (a : Nat) (bs : List Byte) : (flashWrite s a bs).flt = s.flt := rfl
@[simp] theorem flashWrite_goose0 (a : Nat) (bs : List Byte) : (flashWrite s a bs).goose0 = s.goose0 := rfl
@[simp] theorem flashWrite_goose1 (a : Nat) (bs : List Byte) : (flashWrite s a bs).goose1 = s.goose1 := rfl
@[simp] theorem flashWrite_restart (a : Nat) (bs : List Byte) : (flashWrite s a bs).restart = s.restart := rfl
@[simp] theorem flashWrite_ret (a : Nat) (bs : List Byte) : (flashWrite s a bs).ret = s.ret := rfl
@[simp] theorem flashWrite_otp (a : Nat) (bs : List Byte) : (flashWrite s a bs).otp = s.otp := rfl
@[simp] theorem flashWrite_nvm (a : Nat) (bs : List Byte) : (flashWrite s a bs).nvm = s.nvm := rfl
@[simp] theorem flashWrite_rtc (a : Nat) (bs : List Byte) : (flashWrite s a bs).rtc = s.rtc := rfl
@[simp] theorem flashWrite_mp (a : Nat) (bs : List Byte) : (flashWrite s a bs).mp = s.mp := rfl
@[simp] theorem flashWrite_hostMem (a : Nat) (bs : List Byte) : (flashWrite s a bs).hostMem = s.hostMem := rfl
@[simp] theorem flashWrite_mpSram (a : Nat) (bs : List Byte) : (flashWrite s a bs).mpSram = s.mpSram := rfl
@[simp] theorem flashWrite_wakePcie (a : Nat) (bs : List Byte) : (flashWrite s a bs).wakePcie = s.wakePcie := rfl
@[simp] theorem flashWrite_wakeMp (a : Nat) (bs : List Byte) : (flashWrite s a bs).wakeMp = s.wakeMp := rfl
@[simp] theorem flashWrite_g0Reset (a : Nat) (bs : List Byte) : (flashWrite s a bs).g0Reset = s.g0Reset := rfl
@[simp] theorem flashWrite_upSeconds (a : Nat) (bs : List Byte) : (flashWrite s a bs).upSeconds = s.upSeconds := rfl
@[simp] theorem flashWrite_free (a : Nat) (bs : List Byte) : (flashWrite s a bs).free = s.free := rfl
@[simp] theorem flashWrite_readData (a : Nat) (bs : List Byte) : (flashWrite s a bs).readData = s.readData := rfl

/-! ### `flashErase` changes the flash -/

@[simp] theorem flashErase_pending (a n : Nat) : (flashErase s a n).pending = s.pending := rfl
@[simp] theorem flashErase_regs (a n : Nat) : (flashErase s a n).regs = s.regs := rfl
@[simp] theorem flashErase_pcie (a n : Nat) : (flashErase s a n).pcie = s.pcie := rfl
@[simp] theorem flashErase_glb (a n : Nat) : (flashErase s a n).glb = s.glb := rfl
@[simp] theorem flashErase_qe (a n : Nat) : (flashErase s a n).qe = s.qe := rfl
@[simp] theorem flashErase_evr (a n : Nat) : (flashErase s a n).evr = s.evr := rfl
@[simp] theorem flashErase_held (a n : Nat) : (flashErase s a n).held = s.held := rfl
@[simp] theorem flashErase_sb (a n : Nat) : (flashErase s a n).sb = s.sb := rfl
@[simp] theorem flashErase_ct (a n : Nat) : (flashErase s a n).ct = s.ct := rfl
@[simp] theorem flashErase_lp (a n : Nat) : (flashErase s a n).lp = s.lp := rfl
@[simp] theorem flashErase_mc (a n : Nat) : (flashErase s a n).mc = s.mc := rfl
@[simp] theorem flashErase_ox (a n : Nat) : (flashErase s a n).ox = s.ox := rfl
@[simp] theorem flashErase_park (a n : Nat) : (flashErase s a n).park = s.park := rfl
@[simp] theorem flashErase_gauge (a n : Nat) : (flashErase s a n).gauge = s.gauge := rfl
@[simp] theorem flashErase_rc (a n : Nat) : (flashErase s a n).rc = s.rc := rfl
@[simp] theorem flashErase_seq (a n : Nat) : (flashErase s a n).seq = s.seq := rfl
@[simp] theorem flashErase_flk (a n : Nat) : (flashErase s a n).flk = s.flk := rfl
@[simp] theorem flashErase_pwr (a n : Nat) : (flashErase s a n).pwr = s.pwr := rfl
@[simp] theorem flashErase_chg (a n : Nat) : (flashErase s a n).chg = s.chg := rfl
@[simp] theorem flashErase_flt (a n : Nat) : (flashErase s a n).flt = s.flt := rfl
@[simp] theorem flashErase_goose0 (a n : Nat) : (flashErase s a n).goose0 = s.goose0 := rfl
@[simp] theorem flashErase_goose1 (a n : Nat) : (flashErase s a n).goose1 = s.goose1 := rfl
@[simp] theorem flashErase_restart (a n : Nat) : (flashErase s a n).restart = s.restart := rfl
@[simp] theorem flashErase_ret (a n : Nat) : (flashErase s a n).ret = s.ret := rfl
@[simp] theorem flashErase_otp (a n : Nat) : (flashErase s a n).otp = s.otp := rfl
@[simp] theorem flashErase_nvm (a n : Nat) : (flashErase s a n).nvm = s.nvm := rfl
@[simp] theorem flashErase_rtc (a n : Nat) : (flashErase s a n).rtc = s.rtc := rfl
@[simp] theorem flashErase_mp (a n : Nat) : (flashErase s a n).mp = s.mp := rfl
@[simp] theorem flashErase_hostMem (a n : Nat) : (flashErase s a n).hostMem = s.hostMem := rfl
@[simp] theorem flashErase_mpSram (a n : Nat) : (flashErase s a n).mpSram = s.mpSram := rfl
@[simp] theorem flashErase_wakePcie (a n : Nat) : (flashErase s a n).wakePcie = s.wakePcie := rfl
@[simp] theorem flashErase_wakeMp (a n : Nat) : (flashErase s a n).wakeMp = s.wakeMp := rfl
@[simp] theorem flashErase_g0Reset (a n : Nat) : (flashErase s a n).g0Reset = s.g0Reset := rfl
@[simp] theorem flashErase_upSeconds (a n : Nat) : (flashErase s a n).upSeconds = s.upSeconds := rfl
@[simp] theorem flashErase_free (a n : Nat) : (flashErase s a n).free = s.free := rfl
@[simp] theorem flashErase_readData (a n : Nat) : (flashErase s a n).readData = s.readData := rfl

/-! ### `noteCount` changes the MP -/

@[simp] theorem noteCount_pending (k : Nat) : (noteCount s k).pending = s.pending := rfl
@[simp] theorem noteCount_regs (k : Nat) : (noteCount s k).regs = s.regs := rfl
@[simp] theorem noteCount_pcie (k : Nat) : (noteCount s k).pcie = s.pcie := rfl
@[simp] theorem noteCount_glb (k : Nat) : (noteCount s k).glb = s.glb := rfl
@[simp] theorem noteCount_qe (k : Nat) : (noteCount s k).qe = s.qe := rfl
@[simp] theorem noteCount_evr (k : Nat) : (noteCount s k).evr = s.evr := rfl
@[simp] theorem noteCount_held (k : Nat) : (noteCount s k).held = s.held := rfl
@[simp] theorem noteCount_sb (k : Nat) : (noteCount s k).sb = s.sb := rfl
@[simp] theorem noteCount_ct (k : Nat) : (noteCount s k).ct = s.ct := rfl
@[simp] theorem noteCount_lp (k : Nat) : (noteCount s k).lp = s.lp := rfl
@[simp] theorem noteCount_mc (k : Nat) : (noteCount s k).mc = s.mc := rfl
@[simp] theorem noteCount_ox (k : Nat) : (noteCount s k).ox = s.ox := rfl
@[simp] theorem noteCount_park (k : Nat) : (noteCount s k).park = s.park := rfl
@[simp] theorem noteCount_gauge (k : Nat) : (noteCount s k).gauge = s.gauge := rfl
@[simp] theorem noteCount_rc (k : Nat) : (noteCount s k).rc = s.rc := rfl
@[simp] theorem noteCount_seq (k : Nat) : (noteCount s k).seq = s.seq := rfl
@[simp] theorem noteCount_flk (k : Nat) : (noteCount s k).flk = s.flk := rfl
@[simp] theorem noteCount_pwr (k : Nat) : (noteCount s k).pwr = s.pwr := rfl
@[simp] theorem noteCount_chg (k : Nat) : (noteCount s k).chg = s.chg := rfl
@[simp] theorem noteCount_flt (k : Nat) : (noteCount s k).flt = s.flt := rfl
@[simp] theorem noteCount_goose0 (k : Nat) : (noteCount s k).goose0 = s.goose0 := rfl
@[simp] theorem noteCount_goose1 (k : Nat) : (noteCount s k).goose1 = s.goose1 := rfl
@[simp] theorem noteCount_restart (k : Nat) : (noteCount s k).restart = s.restart := rfl
@[simp] theorem noteCount_ret (k : Nat) : (noteCount s k).ret = s.ret := rfl
@[simp] theorem noteCount_otp (k : Nat) : (noteCount s k).otp = s.otp := rfl
@[simp] theorem noteCount_nvm (k : Nat) : (noteCount s k).nvm = s.nvm := rfl
@[simp] theorem noteCount_rtc (k : Nat) : (noteCount s k).rtc = s.rtc := rfl
@[simp] theorem noteCount_hostMem (k : Nat) : (noteCount s k).hostMem = s.hostMem := rfl
@[simp] theorem noteCount_mpSram (k : Nat) : (noteCount s k).mpSram = s.mpSram := rfl
@[simp] theorem noteCount_flash (k : Nat) : (noteCount s k).flash = s.flash := rfl
@[simp] theorem noteCount_wakePcie (k : Nat) : (noteCount s k).wakePcie = s.wakePcie := rfl
@[simp] theorem noteCount_wakeMp (k : Nat) : (noteCount s k).wakeMp = s.wakeMp := rfl
@[simp] theorem noteCount_g0Reset (k : Nat) : (noteCount s k).g0Reset = s.g0Reset := rfl
@[simp] theorem noteCount_upSeconds (k : Nat) : (noteCount s k).upSeconds = s.upSeconds := rfl
@[simp] theorem noteCount_free (k : Nat) : (noteCount s k).free = s.free := rfl
@[simp] theorem noteCount_readData (k : Nat) : (noteCount s k).readData = s.readData := rfl

/-! ### `noteLog` changes the MP and the count of free values -/

@[simp] theorem noteLog_pending (k : Nat) (x : BitVec 128) : (noteLog s k x).pending = s.pending := rfl
@[simp] theorem noteLog_regs (k : Nat) (x : BitVec 128) : (noteLog s k x).regs = s.regs := rfl
@[simp] theorem noteLog_pcie (k : Nat) (x : BitVec 128) : (noteLog s k x).pcie = s.pcie := rfl
@[simp] theorem noteLog_glb (k : Nat) (x : BitVec 128) : (noteLog s k x).glb = s.glb := rfl
@[simp] theorem noteLog_qe (k : Nat) (x : BitVec 128) : (noteLog s k x).qe = s.qe := rfl
@[simp] theorem noteLog_evr (k : Nat) (x : BitVec 128) : (noteLog s k x).evr = s.evr := rfl
@[simp] theorem noteLog_held (k : Nat) (x : BitVec 128) : (noteLog s k x).held = s.held := rfl
@[simp] theorem noteLog_sb (k : Nat) (x : BitVec 128) : (noteLog s k x).sb = s.sb := rfl
@[simp] theorem noteLog_ct (k : Nat) (x : BitVec 128) : (noteLog s k x).ct = s.ct := rfl
@[simp] theorem noteLog_lp (k : Nat) (x : BitVec 128) : (noteLog s k x).lp = s.lp := rfl
@[simp] theorem noteLog_mc (k : Nat) (x : BitVec 128) : (noteLog s k x).mc = s.mc := rfl
@[simp] theorem noteLog_ox (k : Nat) (x : BitVec 128) : (noteLog s k x).ox = s.ox := rfl
@[simp] theorem noteLog_park (k : Nat) (x : BitVec 128) : (noteLog s k x).park = s.park := rfl
@[simp] theorem noteLog_gauge (k : Nat) (x : BitVec 128) : (noteLog s k x).gauge = s.gauge := rfl
@[simp] theorem noteLog_rc (k : Nat) (x : BitVec 128) : (noteLog s k x).rc = s.rc := rfl
@[simp] theorem noteLog_seq (k : Nat) (x : BitVec 128) : (noteLog s k x).seq = s.seq := rfl
@[simp] theorem noteLog_flk (k : Nat) (x : BitVec 128) : (noteLog s k x).flk = s.flk := rfl
@[simp] theorem noteLog_pwr (k : Nat) (x : BitVec 128) : (noteLog s k x).pwr = s.pwr := rfl
@[simp] theorem noteLog_chg (k : Nat) (x : BitVec 128) : (noteLog s k x).chg = s.chg := rfl
@[simp] theorem noteLog_flt (k : Nat) (x : BitVec 128) : (noteLog s k x).flt = s.flt := rfl
@[simp] theorem noteLog_goose0 (k : Nat) (x : BitVec 128) : (noteLog s k x).goose0 = s.goose0 := rfl
@[simp] theorem noteLog_goose1 (k : Nat) (x : BitVec 128) : (noteLog s k x).goose1 = s.goose1 := rfl
@[simp] theorem noteLog_restart (k : Nat) (x : BitVec 128) : (noteLog s k x).restart = s.restart := rfl
@[simp] theorem noteLog_ret (k : Nat) (x : BitVec 128) : (noteLog s k x).ret = s.ret := rfl
@[simp] theorem noteLog_otp (k : Nat) (x : BitVec 128) : (noteLog s k x).otp = s.otp := rfl
@[simp] theorem noteLog_nvm (k : Nat) (x : BitVec 128) : (noteLog s k x).nvm = s.nvm := rfl
@[simp] theorem noteLog_rtc (k : Nat) (x : BitVec 128) : (noteLog s k x).rtc = s.rtc := rfl
@[simp] theorem noteLog_hostMem (k : Nat) (x : BitVec 128) : (noteLog s k x).hostMem = s.hostMem := rfl
@[simp] theorem noteLog_mpSram (k : Nat) (x : BitVec 128) : (noteLog s k x).mpSram = s.mpSram := rfl
@[simp] theorem noteLog_flash (k : Nat) (x : BitVec 128) : (noteLog s k x).flash = s.flash := rfl
@[simp] theorem noteLog_wakePcie (k : Nat) (x : BitVec 128) : (noteLog s k x).wakePcie = s.wakePcie := rfl
@[simp] theorem noteLog_wakeMp (k : Nat) (x : BitVec 128) : (noteLog s k x).wakeMp = s.wakeMp := rfl
@[simp] theorem noteLog_g0Reset (k : Nat) (x : BitVec 128) : (noteLog s k x).g0Reset = s.g0Reset := rfl
@[simp] theorem noteLog_upSeconds (k : Nat) (x : BitVec 128) : (noteLog s k x).upSeconds = s.upSeconds := rfl
@[simp] theorem noteLog_readData (k : Nat) (x : BitVec 128) : (noteLog s k x).readData = s.readData := rfl

/-! ### `setWin` changes the queue engine -/

@[simp] theorem setWin_pending (w : Nat) (q : QWin) : (setWin s w q).pending = s.pending := rfl
@[simp] theorem setWin_regs (w : Nat) (q : QWin) : (setWin s w q).regs = s.regs := rfl
@[simp] theorem setWin_pcie (w : Nat) (q : QWin) : (setWin s w q).pcie = s.pcie := rfl
@[simp] theorem setWin_glb (w : Nat) (q : QWin) : (setWin s w q).glb = s.glb := rfl
@[simp] theorem setWin_evr (w : Nat) (q : QWin) : (setWin s w q).evr = s.evr := rfl
@[simp] theorem setWin_held (w : Nat) (q : QWin) : (setWin s w q).held = s.held := rfl
@[simp] theorem setWin_sb (w : Nat) (q : QWin) : (setWin s w q).sb = s.sb := rfl
@[simp] theorem setWin_ct (w : Nat) (q : QWin) : (setWin s w q).ct = s.ct := rfl
@[simp] theorem setWin_lp (w : Nat) (q : QWin) : (setWin s w q).lp = s.lp := rfl
@[simp] theorem setWin_mc (w : Nat) (q : QWin) : (setWin s w q).mc = s.mc := rfl
@[simp] theorem setWin_ox (w : Nat) (q : QWin) : (setWin s w q).ox = s.ox := rfl
@[simp] theorem setWin_park (w : Nat) (q : QWin) : (setWin s w q).park = s.park := rfl
@[simp] theorem setWin_gauge (w : Nat) (q : QWin) : (setWin s w q).gauge = s.gauge := rfl
@[simp] theorem setWin_rc (w : Nat) (q : QWin) : (setWin s w q).rc = s.rc := rfl
@[simp] theorem setWin_seq (w : Nat) (q : QWin) : (setWin s w q).seq = s.seq := rfl
@[simp] theorem setWin_flk (w : Nat) (q : QWin) : (setWin s w q).flk = s.flk := rfl
@[simp] theorem setWin_pwr (w : Nat) (q : QWin) : (setWin s w q).pwr = s.pwr := rfl
@[simp] theorem setWin_chg (w : Nat) (q : QWin) : (setWin s w q).chg = s.chg := rfl
@[simp] theorem setWin_flt (w : Nat) (q : QWin) : (setWin s w q).flt = s.flt := rfl
@[simp] theorem setWin_goose0 (w : Nat) (q : QWin) : (setWin s w q).goose0 = s.goose0 := rfl
@[simp] theorem setWin_goose1 (w : Nat) (q : QWin) : (setWin s w q).goose1 = s.goose1 := rfl
@[simp] theorem setWin_restart (w : Nat) (q : QWin) : (setWin s w q).restart = s.restart := rfl
@[simp] theorem setWin_ret (w : Nat) (q : QWin) : (setWin s w q).ret = s.ret := rfl
@[simp] theorem setWin_otp (w : Nat) (q : QWin) : (setWin s w q).otp = s.otp := rfl
@[simp] theorem setWin_nvm (w : Nat) (q : QWin) : (setWin s w q).nvm = s.nvm := rfl
@[simp] theorem setWin_rtc (w : Nat) (q : QWin) : (setWin s w q).rtc = s.rtc := rfl
@[simp] theorem setWin_mp (w : Nat) (q : QWin) : (setWin s w q).mp = s.mp := rfl
@[simp] theorem setWin_hostMem (w : Nat) (q : QWin) : (setWin s w q).hostMem = s.hostMem := rfl
@[simp] theorem setWin_mpSram (w : Nat) (q : QWin) : (setWin s w q).mpSram = s.mpSram := rfl
@[simp] theorem setWin_flash (w : Nat) (q : QWin) : (setWin s w q).flash = s.flash := rfl
@[simp] theorem setWin_wakePcie (w : Nat) (q : QWin) : (setWin s w q).wakePcie = s.wakePcie := rfl
@[simp] theorem setWin_wakeMp (w : Nat) (q : QWin) : (setWin s w q).wakeMp = s.wakeMp := rfl
@[simp] theorem setWin_g0Reset (w : Nat) (q : QWin) : (setWin s w q).g0Reset = s.g0Reset := rfl
@[simp] theorem setWin_upSeconds (w : Nat) (q : QWin) : (setWin s w q).upSeconds = s.upSeconds := rfl
@[simp] theorem setWin_free (w : Nat) (q : QWin) : (setWin s w q).free = s.free := rfl
@[simp] theorem setWin_readData (w : Nat) (q : QWin) : (setWin s w q).readData = s.readData := rfl

/-! ### `setStrm` changes the queue engine -/

@[simp] theorem setStrm_pending (m : Nat) (t : Stream) : (setStrm s m t).pending = s.pending := rfl
@[simp] theorem setStrm_regs (m : Nat) (t : Stream) : (setStrm s m t).regs = s.regs := rfl
@[simp] theorem setStrm_pcie (m : Nat) (t : Stream) : (setStrm s m t).pcie = s.pcie := rfl
@[simp] theorem setStrm_glb (m : Nat) (t : Stream) : (setStrm s m t).glb = s.glb := rfl
@[simp] theorem setStrm_evr (m : Nat) (t : Stream) : (setStrm s m t).evr = s.evr := rfl
@[simp] theorem setStrm_held (m : Nat) (t : Stream) : (setStrm s m t).held = s.held := rfl
@[simp] theorem setStrm_sb (m : Nat) (t : Stream) : (setStrm s m t).sb = s.sb := rfl
@[simp] theorem setStrm_ct (m : Nat) (t : Stream) : (setStrm s m t).ct = s.ct := rfl
@[simp] theorem setStrm_lp (m : Nat) (t : Stream) : (setStrm s m t).lp = s.lp := rfl
@[simp] theorem setStrm_mc (m : Nat) (t : Stream) : (setStrm s m t).mc = s.mc := rfl
@[simp] theorem setStrm_ox (m : Nat) (t : Stream) : (setStrm s m t).ox = s.ox := rfl
@[simp] theorem setStrm_park (m : Nat) (t : Stream) : (setStrm s m t).park = s.park := rfl
@[simp] theorem setStrm_gauge (m : Nat) (t : Stream) : (setStrm s m t).gauge = s.gauge := rfl
@[simp] theorem setStrm_rc (m : Nat) (t : Stream) : (setStrm s m t).rc = s.rc := rfl
@[simp] theorem setStrm_seq (m : Nat) (t : Stream) : (setStrm s m t).seq = s.seq := rfl
@[simp] theorem setStrm_flk (m : Nat) (t : Stream) : (setStrm s m t).flk = s.flk := rfl
@[simp] theorem setStrm_pwr (m : Nat) (t : Stream) : (setStrm s m t).pwr = s.pwr := rfl
@[simp] theorem setStrm_chg (m : Nat) (t : Stream) : (setStrm s m t).chg = s.chg := rfl
@[simp] theorem setStrm_flt (m : Nat) (t : Stream) : (setStrm s m t).flt = s.flt := rfl
@[simp] theorem setStrm_goose0 (m : Nat) (t : Stream) : (setStrm s m t).goose0 = s.goose0 := rfl
@[simp] theorem setStrm_goose1 (m : Nat) (t : Stream) : (setStrm s m t).goose1 = s.goose1 := rfl
@[simp] theorem setStrm_restart (m : Nat) (t : Stream) : (setStrm s m t).restart = s.restart := rfl
@[simp] theorem setStrm_ret (m : Nat) (t : Stream) : (setStrm s m t).ret = s.ret := rfl
@[simp] theorem setStrm_otp (m : Nat) (t : Stream) : (setStrm s m t).otp = s.otp := rfl
@[simp] theorem setStrm_nvm (m : Nat) (t : Stream) : (setStrm s m t).nvm = s.nvm := rfl
@[simp] theorem setStrm_rtc (m : Nat) (t : Stream) : (setStrm s m t).rtc = s.rtc := rfl
@[simp] theorem setStrm_mp (m : Nat) (t : Stream) : (setStrm s m t).mp = s.mp := rfl
@[simp] theorem setStrm_hostMem (m : Nat) (t : Stream) : (setStrm s m t).hostMem = s.hostMem := rfl
@[simp] theorem setStrm_mpSram (m : Nat) (t : Stream) : (setStrm s m t).mpSram = s.mpSram := rfl
@[simp] theorem setStrm_flash (m : Nat) (t : Stream) : (setStrm s m t).flash = s.flash := rfl
@[simp] theorem setStrm_wakePcie (m : Nat) (t : Stream) : (setStrm s m t).wakePcie = s.wakePcie := rfl
@[simp] theorem setStrm_wakeMp (m : Nat) (t : Stream) : (setStrm s m t).wakeMp = s.wakeMp := rfl
@[simp] theorem setStrm_g0Reset (m : Nat) (t : Stream) : (setStrm s m t).g0Reset = s.g0Reset := rfl
@[simp] theorem setStrm_upSeconds (m : Nat) (t : Stream) : (setStrm s m t).upSeconds = s.upSeconds := rfl
@[simp] theorem setStrm_free (m : Nat) (t : Stream) : (setStrm s m t).free = s.free := rfl
@[simp] theorem setStrm_readData (m : Nat) (t : Stream) : (setStrm s m t).readData = s.readData := rfl

/-! ### `assertLine` changes the fault collector -/

@[simp] theorem assertLine_pending (k : Nat) (x : Word) : (assertLine s k x).pending = s.pending := by unfold assertLine; split <;> rfl
@[simp] theorem assertLine_regs (k : Nat) (x : Word) : (assertLine s k x).regs = s.regs := by unfold assertLine; split <;> rfl
@[simp] theorem assertLine_pcie (k : Nat) (x : Word) : (assertLine s k x).pcie = s.pcie := by unfold assertLine; split <;> rfl
@[simp] theorem assertLine_glb (k : Nat) (x : Word) : (assertLine s k x).glb = s.glb := by unfold assertLine; split <;> rfl
@[simp] theorem assertLine_qe (k : Nat) (x : Word) : (assertLine s k x).qe = s.qe := by unfold assertLine; split <;> rfl
@[simp] theorem assertLine_evr (k : Nat) (x : Word) : (assertLine s k x).evr = s.evr := by unfold assertLine; split <;> rfl
@[simp] theorem assertLine_held (k : Nat) (x : Word) : (assertLine s k x).held = s.held := by unfold assertLine; split <;> rfl
@[simp] theorem assertLine_sb (k : Nat) (x : Word) : (assertLine s k x).sb = s.sb := by unfold assertLine; split <;> rfl
@[simp] theorem assertLine_ct (k : Nat) (x : Word) : (assertLine s k x).ct = s.ct := by unfold assertLine; split <;> rfl
@[simp] theorem assertLine_lp (k : Nat) (x : Word) : (assertLine s k x).lp = s.lp := by unfold assertLine; split <;> rfl
@[simp] theorem assertLine_mc (k : Nat) (x : Word) : (assertLine s k x).mc = s.mc := by unfold assertLine; split <;> rfl
@[simp] theorem assertLine_ox (k : Nat) (x : Word) : (assertLine s k x).ox = s.ox := by unfold assertLine; split <;> rfl
@[simp] theorem assertLine_park (k : Nat) (x : Word) : (assertLine s k x).park = s.park := by unfold assertLine; split <;> rfl
@[simp] theorem assertLine_gauge (k : Nat) (x : Word) : (assertLine s k x).gauge = s.gauge := by unfold assertLine; split <;> rfl
@[simp] theorem assertLine_rc (k : Nat) (x : Word) : (assertLine s k x).rc = s.rc := by unfold assertLine; split <;> rfl
@[simp] theorem assertLine_seq (k : Nat) (x : Word) : (assertLine s k x).seq = s.seq := by unfold assertLine; split <;> rfl
@[simp] theorem assertLine_flk (k : Nat) (x : Word) : (assertLine s k x).flk = s.flk := by unfold assertLine; split <;> rfl
@[simp] theorem assertLine_pwr (k : Nat) (x : Word) : (assertLine s k x).pwr = s.pwr := by unfold assertLine; split <;> rfl
@[simp] theorem assertLine_chg (k : Nat) (x : Word) : (assertLine s k x).chg = s.chg := by unfold assertLine; split <;> rfl
@[simp] theorem assertLine_goose0 (k : Nat) (x : Word) : (assertLine s k x).goose0 = s.goose0 := by unfold assertLine; split <;> rfl
@[simp] theorem assertLine_goose1 (k : Nat) (x : Word) : (assertLine s k x).goose1 = s.goose1 := by unfold assertLine; split <;> rfl
@[simp] theorem assertLine_restart (k : Nat) (x : Word) : (assertLine s k x).restart = s.restart := by unfold assertLine; split <;> rfl
@[simp] theorem assertLine_ret (k : Nat) (x : Word) : (assertLine s k x).ret = s.ret := by unfold assertLine; split <;> rfl
@[simp] theorem assertLine_otp (k : Nat) (x : Word) : (assertLine s k x).otp = s.otp := by unfold assertLine; split <;> rfl
@[simp] theorem assertLine_nvm (k : Nat) (x : Word) : (assertLine s k x).nvm = s.nvm := by unfold assertLine; split <;> rfl
@[simp] theorem assertLine_rtc (k : Nat) (x : Word) : (assertLine s k x).rtc = s.rtc := by unfold assertLine; split <;> rfl
@[simp] theorem assertLine_mp (k : Nat) (x : Word) : (assertLine s k x).mp = s.mp := by unfold assertLine; split <;> rfl
@[simp] theorem assertLine_hostMem (k : Nat) (x : Word) : (assertLine s k x).hostMem = s.hostMem := by unfold assertLine; split <;> rfl
@[simp] theorem assertLine_mpSram (k : Nat) (x : Word) : (assertLine s k x).mpSram = s.mpSram := by unfold assertLine; split <;> rfl
@[simp] theorem assertLine_flash (k : Nat) (x : Word) : (assertLine s k x).flash = s.flash := by unfold assertLine; split <;> rfl
@[simp] theorem assertLine_wakePcie (k : Nat) (x : Word) : (assertLine s k x).wakePcie = s.wakePcie := by unfold assertLine; split <;> rfl
@[simp] theorem assertLine_wakeMp (k : Nat) (x : Word) : (assertLine s k x).wakeMp = s.wakeMp := by unfold assertLine; split <;> rfl
@[simp] theorem assertLine_g0Reset (k : Nat) (x : Word) : (assertLine s k x).g0Reset = s.g0Reset := by unfold assertLine; split <;> rfl
@[simp] theorem assertLine_upSeconds (k : Nat) (x : Word) : (assertLine s k x).upSeconds = s.upSeconds := by unfold assertLine; split <;> rfl
@[simp] theorem assertLine_free (k : Nat) (x : Word) : (assertLine s k x).free = s.free := by unfold assertLine; split <;> rfl
@[simp] theorem assertLine_readData (k : Nat) (x : Word) : (assertLine s k x).readData = s.readData := by unfold assertLine; split <;> rfl

/-! ### `holdLine` changes the fault collector -/

@[simp] theorem holdLine_pending (k : Nat) (x : Word) : (holdLine s k x).pending = s.pending := by unfold holdLine assertLine; split <;> rfl
@[simp] theorem holdLine_regs (k : Nat) (x : Word) : (holdLine s k x).regs = s.regs := by unfold holdLine assertLine; split <;> rfl
@[simp] theorem holdLine_pcie (k : Nat) (x : Word) : (holdLine s k x).pcie = s.pcie := by unfold holdLine assertLine; split <;> rfl
@[simp] theorem holdLine_glb (k : Nat) (x : Word) : (holdLine s k x).glb = s.glb := by unfold holdLine assertLine; split <;> rfl
@[simp] theorem holdLine_qe (k : Nat) (x : Word) : (holdLine s k x).qe = s.qe := by unfold holdLine assertLine; split <;> rfl
@[simp] theorem holdLine_evr (k : Nat) (x : Word) : (holdLine s k x).evr = s.evr := by unfold holdLine assertLine; split <;> rfl
@[simp] theorem holdLine_held (k : Nat) (x : Word) : (holdLine s k x).held = s.held := by unfold holdLine assertLine; split <;> rfl
@[simp] theorem holdLine_sb (k : Nat) (x : Word) : (holdLine s k x).sb = s.sb := by unfold holdLine assertLine; split <;> rfl
@[simp] theorem holdLine_ct (k : Nat) (x : Word) : (holdLine s k x).ct = s.ct := by unfold holdLine assertLine; split <;> rfl
@[simp] theorem holdLine_lp (k : Nat) (x : Word) : (holdLine s k x).lp = s.lp := by unfold holdLine assertLine; split <;> rfl
@[simp] theorem holdLine_mc (k : Nat) (x : Word) : (holdLine s k x).mc = s.mc := by unfold holdLine assertLine; split <;> rfl
@[simp] theorem holdLine_ox (k : Nat) (x : Word) : (holdLine s k x).ox = s.ox := by unfold holdLine assertLine; split <;> rfl
@[simp] theorem holdLine_park (k : Nat) (x : Word) : (holdLine s k x).park = s.park := by unfold holdLine assertLine; split <;> rfl
@[simp] theorem holdLine_gauge (k : Nat) (x : Word) : (holdLine s k x).gauge = s.gauge := by unfold holdLine assertLine; split <;> rfl
@[simp] theorem holdLine_rc (k : Nat) (x : Word) : (holdLine s k x).rc = s.rc := by unfold holdLine assertLine; split <;> rfl
@[simp] theorem holdLine_seq (k : Nat) (x : Word) : (holdLine s k x).seq = s.seq := by unfold holdLine assertLine; split <;> rfl
@[simp] theorem holdLine_flk (k : Nat) (x : Word) : (holdLine s k x).flk = s.flk := by unfold holdLine assertLine; split <;> rfl
@[simp] theorem holdLine_pwr (k : Nat) (x : Word) : (holdLine s k x).pwr = s.pwr := by unfold holdLine assertLine; split <;> rfl
@[simp] theorem holdLine_chg (k : Nat) (x : Word) : (holdLine s k x).chg = s.chg := by unfold holdLine assertLine; split <;> rfl
@[simp] theorem holdLine_goose0 (k : Nat) (x : Word) : (holdLine s k x).goose0 = s.goose0 := by unfold holdLine assertLine; split <;> rfl
@[simp] theorem holdLine_goose1 (k : Nat) (x : Word) : (holdLine s k x).goose1 = s.goose1 := by unfold holdLine assertLine; split <;> rfl
@[simp] theorem holdLine_restart (k : Nat) (x : Word) : (holdLine s k x).restart = s.restart := by unfold holdLine assertLine; split <;> rfl
@[simp] theorem holdLine_ret (k : Nat) (x : Word) : (holdLine s k x).ret = s.ret := by unfold holdLine assertLine; split <;> rfl
@[simp] theorem holdLine_otp (k : Nat) (x : Word) : (holdLine s k x).otp = s.otp := by unfold holdLine assertLine; split <;> rfl
@[simp] theorem holdLine_nvm (k : Nat) (x : Word) : (holdLine s k x).nvm = s.nvm := by unfold holdLine assertLine; split <;> rfl
@[simp] theorem holdLine_rtc (k : Nat) (x : Word) : (holdLine s k x).rtc = s.rtc := by unfold holdLine assertLine; split <;> rfl
@[simp] theorem holdLine_mp (k : Nat) (x : Word) : (holdLine s k x).mp = s.mp := by unfold holdLine assertLine; split <;> rfl
@[simp] theorem holdLine_hostMem (k : Nat) (x : Word) : (holdLine s k x).hostMem = s.hostMem := by unfold holdLine assertLine; split <;> rfl
@[simp] theorem holdLine_mpSram (k : Nat) (x : Word) : (holdLine s k x).mpSram = s.mpSram := by unfold holdLine assertLine; split <;> rfl
@[simp] theorem holdLine_flash (k : Nat) (x : Word) : (holdLine s k x).flash = s.flash := by unfold holdLine assertLine; split <;> rfl
@[simp] theorem holdLine_wakePcie (k : Nat) (x : Word) : (holdLine s k x).wakePcie = s.wakePcie := by unfold holdLine assertLine; split <;> rfl
@[simp] theorem holdLine_wakeMp (k : Nat) (x : Word) : (holdLine s k x).wakeMp = s.wakeMp := by unfold holdLine assertLine; split <;> rfl
@[simp] theorem holdLine_g0Reset (k : Nat) (x : Word) : (holdLine s k x).g0Reset = s.g0Reset := by unfold holdLine assertLine; split <;> rfl
@[simp] theorem holdLine_upSeconds (k : Nat) (x : Word) : (holdLine s k x).upSeconds = s.upSeconds := by unfold holdLine assertLine; split <;> rfl
@[simp] theorem holdLine_free (k : Nat) (x : Word) : (holdLine s k x).free = s.free := by unfold holdLine assertLine; split <;> rfl
@[simp] theorem holdLine_readData (k : Nat) (x : Word) : (holdLine s k x).readData = s.readData := by unfold holdLine assertLine; split <;> rfl

/-! ### `endLine` changes the fault collector -/

@[simp] theorem endLine_pending (k : Nat) : (endLine s k).pending = s.pending := rfl
@[simp] theorem endLine_regs (k : Nat) : (endLine s k).regs = s.regs := rfl
@[simp] theorem endLine_pcie (k : Nat) : (endLine s k).pcie = s.pcie := rfl
@[simp] theorem endLine_glb (k : Nat) : (endLine s k).glb = s.glb := rfl
@[simp] theorem endLine_qe (k : Nat) : (endLine s k).qe = s.qe := rfl
@[simp] theorem endLine_evr (k : Nat) : (endLine s k).evr = s.evr := rfl
@[simp] theorem endLine_held (k : Nat) : (endLine s k).held = s.held := rfl
@[simp] theorem endLine_sb (k : Nat) : (endLine s k).sb = s.sb := rfl
@[simp] theorem endLine_ct (k : Nat) : (endLine s k).ct = s.ct := rfl
@[simp] theorem endLine_lp (k : Nat) : (endLine s k).lp = s.lp := rfl
@[simp] theorem endLine_mc (k : Nat) : (endLine s k).mc = s.mc := rfl
@[simp] theorem endLine_ox (k : Nat) : (endLine s k).ox = s.ox := rfl
@[simp] theorem endLine_park (k : Nat) : (endLine s k).park = s.park := rfl
@[simp] theorem endLine_gauge (k : Nat) : (endLine s k).gauge = s.gauge := rfl
@[simp] theorem endLine_rc (k : Nat) : (endLine s k).rc = s.rc := rfl
@[simp] theorem endLine_seq (k : Nat) : (endLine s k).seq = s.seq := rfl
@[simp] theorem endLine_flk (k : Nat) : (endLine s k).flk = s.flk := rfl
@[simp] theorem endLine_pwr (k : Nat) : (endLine s k).pwr = s.pwr := rfl
@[simp] theorem endLine_chg (k : Nat) : (endLine s k).chg = s.chg := rfl
@[simp] theorem endLine_goose0 (k : Nat) : (endLine s k).goose0 = s.goose0 := rfl
@[simp] theorem endLine_goose1 (k : Nat) : (endLine s k).goose1 = s.goose1 := rfl
@[simp] theorem endLine_restart (k : Nat) : (endLine s k).restart = s.restart := rfl
@[simp] theorem endLine_ret (k : Nat) : (endLine s k).ret = s.ret := rfl
@[simp] theorem endLine_otp (k : Nat) : (endLine s k).otp = s.otp := rfl
@[simp] theorem endLine_nvm (k : Nat) : (endLine s k).nvm = s.nvm := rfl
@[simp] theorem endLine_rtc (k : Nat) : (endLine s k).rtc = s.rtc := rfl
@[simp] theorem endLine_mp (k : Nat) : (endLine s k).mp = s.mp := rfl
@[simp] theorem endLine_hostMem (k : Nat) : (endLine s k).hostMem = s.hostMem := rfl
@[simp] theorem endLine_mpSram (k : Nat) : (endLine s k).mpSram = s.mpSram := rfl
@[simp] theorem endLine_flash (k : Nat) : (endLine s k).flash = s.flash := rfl
@[simp] theorem endLine_wakePcie (k : Nat) : (endLine s k).wakePcie = s.wakePcie := rfl
@[simp] theorem endLine_wakeMp (k : Nat) : (endLine s k).wakeMp = s.wakeMp := rfl
@[simp] theorem endLine_g0Reset (k : Nat) : (endLine s k).g0Reset = s.g0Reset := rfl
@[simp] theorem endLine_upSeconds (k : Nat) : (endLine s k).upSeconds = s.upSeconds := rfl
@[simp] theorem endLine_free (k : Nat) : (endLine s k).free = s.free := rfl
@[simp] theorem endLine_readData (k : Nat) : (endLine s k).readData = s.readData := rfl

/-! ### `setFlt` changes the fault collector -/

@[simp] theorem setFlt_pending (f : Faults) : (setFlt s f).pending = s.pending := rfl
@[simp] theorem setFlt_regs (f : Faults) : (setFlt s f).regs = s.regs := rfl
@[simp] theorem setFlt_pcie (f : Faults) : (setFlt s f).pcie = s.pcie := rfl
@[simp] theorem setFlt_glb (f : Faults) : (setFlt s f).glb = s.glb := rfl
@[simp] theorem setFlt_qe (f : Faults) : (setFlt s f).qe = s.qe := rfl
@[simp] theorem setFlt_evr (f : Faults) : (setFlt s f).evr = s.evr := rfl
@[simp] theorem setFlt_held (f : Faults) : (setFlt s f).held = s.held := rfl
@[simp] theorem setFlt_sb (f : Faults) : (setFlt s f).sb = s.sb := rfl
@[simp] theorem setFlt_ct (f : Faults) : (setFlt s f).ct = s.ct := rfl
@[simp] theorem setFlt_lp (f : Faults) : (setFlt s f).lp = s.lp := rfl
@[simp] theorem setFlt_mc (f : Faults) : (setFlt s f).mc = s.mc := rfl
@[simp] theorem setFlt_ox (f : Faults) : (setFlt s f).ox = s.ox := rfl
@[simp] theorem setFlt_park (f : Faults) : (setFlt s f).park = s.park := rfl
@[simp] theorem setFlt_gauge (f : Faults) : (setFlt s f).gauge = s.gauge := rfl
@[simp] theorem setFlt_rc (f : Faults) : (setFlt s f).rc = s.rc := rfl
@[simp] theorem setFlt_seq (f : Faults) : (setFlt s f).seq = s.seq := rfl
@[simp] theorem setFlt_flk (f : Faults) : (setFlt s f).flk = s.flk := rfl
@[simp] theorem setFlt_pwr (f : Faults) : (setFlt s f).pwr = s.pwr := rfl
@[simp] theorem setFlt_chg (f : Faults) : (setFlt s f).chg = s.chg := rfl
@[simp] theorem setFlt_goose0 (f : Faults) : (setFlt s f).goose0 = s.goose0 := rfl
@[simp] theorem setFlt_goose1 (f : Faults) : (setFlt s f).goose1 = s.goose1 := rfl
@[simp] theorem setFlt_restart (f : Faults) : (setFlt s f).restart = s.restart := rfl
@[simp] theorem setFlt_ret (f : Faults) : (setFlt s f).ret = s.ret := rfl
@[simp] theorem setFlt_otp (f : Faults) : (setFlt s f).otp = s.otp := rfl
@[simp] theorem setFlt_nvm (f : Faults) : (setFlt s f).nvm = s.nvm := rfl
@[simp] theorem setFlt_rtc (f : Faults) : (setFlt s f).rtc = s.rtc := rfl
@[simp] theorem setFlt_mp (f : Faults) : (setFlt s f).mp = s.mp := rfl
@[simp] theorem setFlt_hostMem (f : Faults) : (setFlt s f).hostMem = s.hostMem := rfl
@[simp] theorem setFlt_mpSram (f : Faults) : (setFlt s f).mpSram = s.mpSram := rfl
@[simp] theorem setFlt_flash (f : Faults) : (setFlt s f).flash = s.flash := rfl
@[simp] theorem setFlt_wakePcie (f : Faults) : (setFlt s f).wakePcie = s.wakePcie := rfl
@[simp] theorem setFlt_wakeMp (f : Faults) : (setFlt s f).wakeMp = s.wakeMp := rfl
@[simp] theorem setFlt_g0Reset (f : Faults) : (setFlt s f).g0Reset = s.g0Reset := rfl
@[simp] theorem setFlt_upSeconds (f : Faults) : (setFlt s f).upSeconds = s.upSeconds := rfl
@[simp] theorem setFlt_free (f : Faults) : (setFlt s f).free = s.free := rfl
@[simp] theorem setFlt_readData (f : Faults) : (setFlt s f).readData = s.readData := rfl

/-! ### `setPwr` changes the power block -/

@[simp] theorem setPwr_pending (p : Power) : (setPwr s p).pending = s.pending := rfl
@[simp] theorem setPwr_regs (p : Power) : (setPwr s p).regs = s.regs := rfl
@[simp] theorem setPwr_pcie (p : Power) : (setPwr s p).pcie = s.pcie := rfl
@[simp] theorem setPwr_glb (p : Power) : (setPwr s p).glb = s.glb := rfl
@[simp] theorem setPwr_qe (p : Power) : (setPwr s p).qe = s.qe := rfl
@[simp] theorem setPwr_evr (p : Power) : (setPwr s p).evr = s.evr := rfl
@[simp] theorem setPwr_held (p : Power) : (setPwr s p).held = s.held := rfl
@[simp] theorem setPwr_sb (p : Power) : (setPwr s p).sb = s.sb := rfl
@[simp] theorem setPwr_ct (p : Power) : (setPwr s p).ct = s.ct := rfl
@[simp] theorem setPwr_lp (p : Power) : (setPwr s p).lp = s.lp := rfl
@[simp] theorem setPwr_mc (p : Power) : (setPwr s p).mc = s.mc := rfl
@[simp] theorem setPwr_ox (p : Power) : (setPwr s p).ox = s.ox := rfl
@[simp] theorem setPwr_park (p : Power) : (setPwr s p).park = s.park := rfl
@[simp] theorem setPwr_gauge (p : Power) : (setPwr s p).gauge = s.gauge := rfl
@[simp] theorem setPwr_rc (p : Power) : (setPwr s p).rc = s.rc := rfl
@[simp] theorem setPwr_seq (p : Power) : (setPwr s p).seq = s.seq := rfl
@[simp] theorem setPwr_flk (p : Power) : (setPwr s p).flk = s.flk := rfl
@[simp] theorem setPwr_chg (p : Power) : (setPwr s p).chg = s.chg := rfl
@[simp] theorem setPwr_flt (p : Power) : (setPwr s p).flt = s.flt := rfl
@[simp] theorem setPwr_goose0 (p : Power) : (setPwr s p).goose0 = s.goose0 := rfl
@[simp] theorem setPwr_goose1 (p : Power) : (setPwr s p).goose1 = s.goose1 := rfl
@[simp] theorem setPwr_restart (p : Power) : (setPwr s p).restart = s.restart := rfl
@[simp] theorem setPwr_ret (p : Power) : (setPwr s p).ret = s.ret := rfl
@[simp] theorem setPwr_otp (p : Power) : (setPwr s p).otp = s.otp := rfl
@[simp] theorem setPwr_nvm (p : Power) : (setPwr s p).nvm = s.nvm := rfl
@[simp] theorem setPwr_rtc (p : Power) : (setPwr s p).rtc = s.rtc := rfl
@[simp] theorem setPwr_mp (p : Power) : (setPwr s p).mp = s.mp := rfl
@[simp] theorem setPwr_hostMem (p : Power) : (setPwr s p).hostMem = s.hostMem := rfl
@[simp] theorem setPwr_mpSram (p : Power) : (setPwr s p).mpSram = s.mpSram := rfl
@[simp] theorem setPwr_flash (p : Power) : (setPwr s p).flash = s.flash := rfl
@[simp] theorem setPwr_wakePcie (p : Power) : (setPwr s p).wakePcie = s.wakePcie := rfl
@[simp] theorem setPwr_wakeMp (p : Power) : (setPwr s p).wakeMp = s.wakeMp := rfl
@[simp] theorem setPwr_g0Reset (p : Power) : (setPwr s p).g0Reset = s.g0Reset := rfl
@[simp] theorem setPwr_upSeconds (p : Power) : (setPwr s p).upSeconds = s.upSeconds := rfl
@[simp] theorem setPwr_free (p : Power) : (setPwr s p).free = s.free := rfl
@[simp] theorem setPwr_readData (p : Power) : (setPwr s p).readData = s.readData := rfl

/-! ### `setDom` changes the power block -/

@[simp] theorem setDom_pending (k : Nat) (d : Domain) : (setDom s k d).pending = s.pending := rfl
@[simp] theorem setDom_regs (k : Nat) (d : Domain) : (setDom s k d).regs = s.regs := rfl
@[simp] theorem setDom_pcie (k : Nat) (d : Domain) : (setDom s k d).pcie = s.pcie := rfl
@[simp] theorem setDom_glb (k : Nat) (d : Domain) : (setDom s k d).glb = s.glb := rfl
@[simp] theorem setDom_qe (k : Nat) (d : Domain) : (setDom s k d).qe = s.qe := rfl
@[simp] theorem setDom_evr (k : Nat) (d : Domain) : (setDom s k d).evr = s.evr := rfl
@[simp] theorem setDom_held (k : Nat) (d : Domain) : (setDom s k d).held = s.held := rfl
@[simp] theorem setDom_sb (k : Nat) (d : Domain) : (setDom s k d).sb = s.sb := rfl
@[simp] theorem setDom_ct (k : Nat) (d : Domain) : (setDom s k d).ct = s.ct := rfl
@[simp] theorem setDom_lp (k : Nat) (d : Domain) : (setDom s k d).lp = s.lp := rfl
@[simp] theorem setDom_mc (k : Nat) (d : Domain) : (setDom s k d).mc = s.mc := rfl
@[simp] theorem setDom_ox (k : Nat) (d : Domain) : (setDom s k d).ox = s.ox := rfl
@[simp] theorem setDom_park (k : Nat) (d : Domain) : (setDom s k d).park = s.park := rfl
@[simp] theorem setDom_gauge (k : Nat) (d : Domain) : (setDom s k d).gauge = s.gauge := rfl
@[simp] theorem setDom_rc (k : Nat) (d : Domain) : (setDom s k d).rc = s.rc := rfl
@[simp] theorem setDom_seq (k : Nat) (d : Domain) : (setDom s k d).seq = s.seq := rfl
@[simp] theorem setDom_flk (k : Nat) (d : Domain) : (setDom s k d).flk = s.flk := rfl
@[simp] theorem setDom_chg (k : Nat) (d : Domain) : (setDom s k d).chg = s.chg := rfl
@[simp] theorem setDom_flt (k : Nat) (d : Domain) : (setDom s k d).flt = s.flt := rfl
@[simp] theorem setDom_goose0 (k : Nat) (d : Domain) : (setDom s k d).goose0 = s.goose0 := rfl
@[simp] theorem setDom_goose1 (k : Nat) (d : Domain) : (setDom s k d).goose1 = s.goose1 := rfl
@[simp] theorem setDom_restart (k : Nat) (d : Domain) : (setDom s k d).restart = s.restart := rfl
@[simp] theorem setDom_ret (k : Nat) (d : Domain) : (setDom s k d).ret = s.ret := rfl
@[simp] theorem setDom_otp (k : Nat) (d : Domain) : (setDom s k d).otp = s.otp := rfl
@[simp] theorem setDom_nvm (k : Nat) (d : Domain) : (setDom s k d).nvm = s.nvm := rfl
@[simp] theorem setDom_rtc (k : Nat) (d : Domain) : (setDom s k d).rtc = s.rtc := rfl
@[simp] theorem setDom_mp (k : Nat) (d : Domain) : (setDom s k d).mp = s.mp := rfl
@[simp] theorem setDom_hostMem (k : Nat) (d : Domain) : (setDom s k d).hostMem = s.hostMem := rfl
@[simp] theorem setDom_mpSram (k : Nat) (d : Domain) : (setDom s k d).mpSram = s.mpSram := rfl
@[simp] theorem setDom_flash (k : Nat) (d : Domain) : (setDom s k d).flash = s.flash := rfl
@[simp] theorem setDom_wakePcie (k : Nat) (d : Domain) : (setDom s k d).wakePcie = s.wakePcie := rfl
@[simp] theorem setDom_wakeMp (k : Nat) (d : Domain) : (setDom s k d).wakeMp = s.wakeMp := rfl
@[simp] theorem setDom_g0Reset (k : Nat) (d : Domain) : (setDom s k d).g0Reset = s.g0Reset := rfl
@[simp] theorem setDom_upSeconds (k : Nat) (d : Domain) : (setDom s k d).upSeconds = s.upSeconds := rfl
@[simp] theorem setDom_free (k : Nat) (d : Domain) : (setDom s k d).free = s.free := rfl
@[simp] theorem setDom_readData (k : Nat) (d : Domain) : (setDom s k d).readData = s.readData := rfl

/-! ### `setMp` changes the MP -/

@[simp] theorem setMp_pending (m : Mp) : (setMp s m).pending = s.pending := rfl
@[simp] theorem setMp_regs (m : Mp) : (setMp s m).regs = s.regs := rfl
@[simp] theorem setMp_pcie (m : Mp) : (setMp s m).pcie = s.pcie := rfl
@[simp] theorem setMp_glb (m : Mp) : (setMp s m).glb = s.glb := rfl
@[simp] theorem setMp_qe (m : Mp) : (setMp s m).qe = s.qe := rfl
@[simp] theorem setMp_evr (m : Mp) : (setMp s m).evr = s.evr := rfl
@[simp] theorem setMp_held (m : Mp) : (setMp s m).held = s.held := rfl
@[simp] theorem setMp_sb (m : Mp) : (setMp s m).sb = s.sb := rfl
@[simp] theorem setMp_ct (m : Mp) : (setMp s m).ct = s.ct := rfl
@[simp] theorem setMp_lp (m : Mp) : (setMp s m).lp = s.lp := rfl
@[simp] theorem setMp_mc (m : Mp) : (setMp s m).mc = s.mc := rfl
@[simp] theorem setMp_ox (m : Mp) : (setMp s m).ox = s.ox := rfl
@[simp] theorem setMp_park (m : Mp) : (setMp s m).park = s.park := rfl
@[simp] theorem setMp_gauge (m : Mp) : (setMp s m).gauge = s.gauge := rfl
@[simp] theorem setMp_rc (m : Mp) : (setMp s m).rc = s.rc := rfl
@[simp] theorem setMp_seq (m : Mp) : (setMp s m).seq = s.seq := rfl
@[simp] theorem setMp_flk (m : Mp) : (setMp s m).flk = s.flk := rfl
@[simp] theorem setMp_pwr (m : Mp) : (setMp s m).pwr = s.pwr := rfl
@[simp] theorem setMp_chg (m : Mp) : (setMp s m).chg = s.chg := rfl
@[simp] theorem setMp_flt (m : Mp) : (setMp s m).flt = s.flt := rfl
@[simp] theorem setMp_goose0 (m : Mp) : (setMp s m).goose0 = s.goose0 := rfl
@[simp] theorem setMp_goose1 (m : Mp) : (setMp s m).goose1 = s.goose1 := rfl
@[simp] theorem setMp_restart (m : Mp) : (setMp s m).restart = s.restart := rfl
@[simp] theorem setMp_ret (m : Mp) : (setMp s m).ret = s.ret := rfl
@[simp] theorem setMp_otp (m : Mp) : (setMp s m).otp = s.otp := rfl
@[simp] theorem setMp_nvm (m : Mp) : (setMp s m).nvm = s.nvm := rfl
@[simp] theorem setMp_rtc (m : Mp) : (setMp s m).rtc = s.rtc := rfl
@[simp] theorem setMp_hostMem (m : Mp) : (setMp s m).hostMem = s.hostMem := rfl
@[simp] theorem setMp_mpSram (m : Mp) : (setMp s m).mpSram = s.mpSram := rfl
@[simp] theorem setMp_flash (m : Mp) : (setMp s m).flash = s.flash := rfl
@[simp] theorem setMp_wakePcie (m : Mp) : (setMp s m).wakePcie = s.wakePcie := rfl
@[simp] theorem setMp_wakeMp (m : Mp) : (setMp s m).wakeMp = s.wakeMp := rfl
@[simp] theorem setMp_g0Reset (m : Mp) : (setMp s m).g0Reset = s.g0Reset := rfl
@[simp] theorem setMp_upSeconds (m : Mp) : (setMp s m).upSeconds = s.upSeconds := rfl
@[simp] theorem setMp_free (m : Mp) : (setMp s m).free = s.free := rfl
@[simp] theorem setMp_readData (m : Mp) : (setMp s m).readData = s.readData := rfl

/-! ### `setPark` changes the MP -/

@[simp] theorem setPark_pending (p : Parking) : (setPark s p).pending = s.pending := rfl
@[simp] theorem setPark_regs (p : Parking) : (setPark s p).regs = s.regs := rfl
@[simp] theorem setPark_pcie (p : Parking) : (setPark s p).pcie = s.pcie := rfl
@[simp] theorem setPark_glb (p : Parking) : (setPark s p).glb = s.glb := rfl
@[simp] theorem setPark_qe (p : Parking) : (setPark s p).qe = s.qe := rfl
@[simp] theorem setPark_evr (p : Parking) : (setPark s p).evr = s.evr := rfl
@[simp] theorem setPark_held (p : Parking) : (setPark s p).held = s.held := rfl
@[simp] theorem setPark_sb (p : Parking) : (setPark s p).sb = s.sb := rfl
@[simp] theorem setPark_ct (p : Parking) : (setPark s p).ct = s.ct := rfl
@[simp] theorem setPark_lp (p : Parking) : (setPark s p).lp = s.lp := rfl
@[simp] theorem setPark_mc (p : Parking) : (setPark s p).mc = s.mc := rfl
@[simp] theorem setPark_ox (p : Parking) : (setPark s p).ox = s.ox := rfl
@[simp] theorem setPark_park (p : Parking) : (setPark s p).park = s.park := rfl
@[simp] theorem setPark_gauge (p : Parking) : (setPark s p).gauge = s.gauge := rfl
@[simp] theorem setPark_rc (p : Parking) : (setPark s p).rc = s.rc := rfl
@[simp] theorem setPark_seq (p : Parking) : (setPark s p).seq = s.seq := rfl
@[simp] theorem setPark_flk (p : Parking) : (setPark s p).flk = s.flk := rfl
@[simp] theorem setPark_pwr (p : Parking) : (setPark s p).pwr = s.pwr := rfl
@[simp] theorem setPark_chg (p : Parking) : (setPark s p).chg = s.chg := rfl
@[simp] theorem setPark_flt (p : Parking) : (setPark s p).flt = s.flt := rfl
@[simp] theorem setPark_goose0 (p : Parking) : (setPark s p).goose0 = s.goose0 := rfl
@[simp] theorem setPark_goose1 (p : Parking) : (setPark s p).goose1 = s.goose1 := rfl
@[simp] theorem setPark_restart (p : Parking) : (setPark s p).restart = s.restart := rfl
@[simp] theorem setPark_ret (p : Parking) : (setPark s p).ret = s.ret := rfl
@[simp] theorem setPark_otp (p : Parking) : (setPark s p).otp = s.otp := rfl
@[simp] theorem setPark_nvm (p : Parking) : (setPark s p).nvm = s.nvm := rfl
@[simp] theorem setPark_rtc (p : Parking) : (setPark s p).rtc = s.rtc := rfl
@[simp] theorem setPark_hostMem (p : Parking) : (setPark s p).hostMem = s.hostMem := rfl
@[simp] theorem setPark_mpSram (p : Parking) : (setPark s p).mpSram = s.mpSram := rfl
@[simp] theorem setPark_flash (p : Parking) : (setPark s p).flash = s.flash := rfl
@[simp] theorem setPark_wakePcie (p : Parking) : (setPark s p).wakePcie = s.wakePcie := rfl
@[simp] theorem setPark_wakeMp (p : Parking) : (setPark s p).wakeMp = s.wakeMp := rfl
@[simp] theorem setPark_g0Reset (p : Parking) : (setPark s p).g0Reset = s.g0Reset := rfl
@[simp] theorem setPark_upSeconds (p : Parking) : (setPark s p).upSeconds = s.upSeconds := rfl
@[simp] theorem setPark_free (p : Parking) : (setPark s p).free = s.free := rfl
@[simp] theorem setPark_readData (p : Parking) : (setPark s p).readData = s.readData := rfl

/-! ### `setChg` changes the charger -/

@[simp] theorem setChg_pending (c : Charger) : (setChg s c).pending = s.pending := rfl
@[simp] theorem setChg_regs (c : Charger) : (setChg s c).regs = s.regs := rfl
@[simp] theorem setChg_pcie (c : Charger) : (setChg s c).pcie = s.pcie := rfl
@[simp] theorem setChg_glb (c : Charger) : (setChg s c).glb = s.glb := rfl
@[simp] theorem setChg_qe (c : Charger) : (setChg s c).qe = s.qe := rfl
@[simp] theorem setChg_evr (c : Charger) : (setChg s c).evr = s.evr := rfl
@[simp] theorem setChg_held (c : Charger) : (setChg s c).held = s.held := rfl
@[simp] theorem setChg_sb (c : Charger) : (setChg s c).sb = s.sb := rfl
@[simp] theorem setChg_ct (c : Charger) : (setChg s c).ct = s.ct := rfl
@[simp] theorem setChg_lp (c : Charger) : (setChg s c).lp = s.lp := rfl
@[simp] theorem setChg_mc (c : Charger) : (setChg s c).mc = s.mc := rfl
@[simp] theorem setChg_ox (c : Charger) : (setChg s c).ox = s.ox := rfl
@[simp] theorem setChg_park (c : Charger) : (setChg s c).park = s.park := rfl
@[simp] theorem setChg_gauge (c : Charger) : (setChg s c).gauge = s.gauge := rfl
@[simp] theorem setChg_rc (c : Charger) : (setChg s c).rc = s.rc := rfl
@[simp] theorem setChg_seq (c : Charger) : (setChg s c).seq = s.seq := rfl
@[simp] theorem setChg_flk (c : Charger) : (setChg s c).flk = s.flk := rfl
@[simp] theorem setChg_pwr (c : Charger) : (setChg s c).pwr = s.pwr := rfl
@[simp] theorem setChg_flt (c : Charger) : (setChg s c).flt = s.flt := rfl
@[simp] theorem setChg_goose0 (c : Charger) : (setChg s c).goose0 = s.goose0 := rfl
@[simp] theorem setChg_goose1 (c : Charger) : (setChg s c).goose1 = s.goose1 := rfl
@[simp] theorem setChg_restart (c : Charger) : (setChg s c).restart = s.restart := rfl
@[simp] theorem setChg_ret (c : Charger) : (setChg s c).ret = s.ret := rfl
@[simp] theorem setChg_otp (c : Charger) : (setChg s c).otp = s.otp := rfl
@[simp] theorem setChg_nvm (c : Charger) : (setChg s c).nvm = s.nvm := rfl
@[simp] theorem setChg_rtc (c : Charger) : (setChg s c).rtc = s.rtc := rfl
@[simp] theorem setChg_mp (c : Charger) : (setChg s c).mp = s.mp := rfl
@[simp] theorem setChg_hostMem (c : Charger) : (setChg s c).hostMem = s.hostMem := rfl
@[simp] theorem setChg_mpSram (c : Charger) : (setChg s c).mpSram = s.mpSram := rfl
@[simp] theorem setChg_flash (c : Charger) : (setChg s c).flash = s.flash := rfl
@[simp] theorem setChg_wakePcie (c : Charger) : (setChg s c).wakePcie = s.wakePcie := rfl
@[simp] theorem setChg_wakeMp (c : Charger) : (setChg s c).wakeMp = s.wakeMp := rfl
@[simp] theorem setChg_g0Reset (c : Charger) : (setChg s c).g0Reset = s.g0Reset := rfl
@[simp] theorem setChg_upSeconds (c : Charger) : (setChg s c).upSeconds = s.upSeconds := rfl
@[simp] theorem setChg_free (c : Charger) : (setChg s c).free = s.free := rfl
@[simp] theorem setChg_readData (c : Charger) : (setChg s c).readData = s.readData := rfl

/-! ### `setRail` changes the rail controllers -/

@[simp] theorem setRail_pending (n : Nat) (r : Rail) : (setRail s n r).pending = s.pending := rfl
@[simp] theorem setRail_regs (n : Nat) (r : Rail) : (setRail s n r).regs = s.regs := rfl
@[simp] theorem setRail_pcie (n : Nat) (r : Rail) : (setRail s n r).pcie = s.pcie := rfl
@[simp] theorem setRail_glb (n : Nat) (r : Rail) : (setRail s n r).glb = s.glb := rfl
@[simp] theorem setRail_qe (n : Nat) (r : Rail) : (setRail s n r).qe = s.qe := rfl
@[simp] theorem setRail_evr (n : Nat) (r : Rail) : (setRail s n r).evr = s.evr := rfl
@[simp] theorem setRail_held (n : Nat) (r : Rail) : (setRail s n r).held = s.held := rfl
@[simp] theorem setRail_sb (n : Nat) (r : Rail) : (setRail s n r).sb = s.sb := rfl
@[simp] theorem setRail_ct (n : Nat) (r : Rail) : (setRail s n r).ct = s.ct := rfl
@[simp] theorem setRail_lp (n : Nat) (r : Rail) : (setRail s n r).lp = s.lp := rfl
@[simp] theorem setRail_mc (n : Nat) (r : Rail) : (setRail s n r).mc = s.mc := rfl
@[simp] theorem setRail_ox (n : Nat) (r : Rail) : (setRail s n r).ox = s.ox := rfl
@[simp] theorem setRail_park (n : Nat) (r : Rail) : (setRail s n r).park = s.park := rfl
@[simp] theorem setRail_gauge (n : Nat) (r : Rail) : (setRail s n r).gauge = s.gauge := rfl
@[simp] theorem setRail_seq (n : Nat) (r : Rail) : (setRail s n r).seq = s.seq := rfl
@[simp] theorem setRail_flk (n : Nat) (r : Rail) : (setRail s n r).flk = s.flk := rfl
@[simp] theorem setRail_pwr (n : Nat) (r : Rail) : (setRail s n r).pwr = s.pwr := rfl
@[simp] theorem setRail_chg (n : Nat) (r : Rail) : (setRail s n r).chg = s.chg := rfl
@[simp] theorem setRail_flt (n : Nat) (r : Rail) : (setRail s n r).flt = s.flt := rfl
@[simp] theorem setRail_goose0 (n : Nat) (r : Rail) : (setRail s n r).goose0 = s.goose0 := rfl
@[simp] theorem setRail_goose1 (n : Nat) (r : Rail) : (setRail s n r).goose1 = s.goose1 := rfl
@[simp] theorem setRail_restart (n : Nat) (r : Rail) : (setRail s n r).restart = s.restart := rfl
@[simp] theorem setRail_ret (n : Nat) (r : Rail) : (setRail s n r).ret = s.ret := rfl
@[simp] theorem setRail_otp (n : Nat) (r : Rail) : (setRail s n r).otp = s.otp := rfl
@[simp] theorem setRail_nvm (n : Nat) (r : Rail) : (setRail s n r).nvm = s.nvm := rfl
@[simp] theorem setRail_rtc (n : Nat) (r : Rail) : (setRail s n r).rtc = s.rtc := rfl
@[simp] theorem setRail_mp (n : Nat) (r : Rail) : (setRail s n r).mp = s.mp := rfl
@[simp] theorem setRail_hostMem (n : Nat) (r : Rail) : (setRail s n r).hostMem = s.hostMem := rfl
@[simp] theorem setRail_mpSram (n : Nat) (r : Rail) : (setRail s n r).mpSram = s.mpSram := rfl
@[simp] theorem setRail_flash (n : Nat) (r : Rail) : (setRail s n r).flash = s.flash := rfl
@[simp] theorem setRail_wakePcie (n : Nat) (r : Rail) : (setRail s n r).wakePcie = s.wakePcie := rfl
@[simp] theorem setRail_wakeMp (n : Nat) (r : Rail) : (setRail s n r).wakeMp = s.wakeMp := rfl
@[simp] theorem setRail_g0Reset (n : Nat) (r : Rail) : (setRail s n r).g0Reset = s.g0Reset := rfl
@[simp] theorem setRail_upSeconds (n : Nat) (r : Rail) : (setRail s n r).upSeconds = s.upSeconds := rfl
@[simp] theorem setRail_free (n : Nat) (r : Rail) : (setRail s n r).free = s.free := rfl
@[simp] theorem setRail_readData (n : Nat) (r : Rail) : (setRail s n r).readData = s.readData := rfl

/-! ### `setPhs` changes the rail controllers -/

@[simp] theorem setPhs_pending (p : Nat) (x : Phase) : (setPhs s p x).pending = s.pending := rfl
@[simp] theorem setPhs_regs (p : Nat) (x : Phase) : (setPhs s p x).regs = s.regs := rfl
@[simp] theorem setPhs_pcie (p : Nat) (x : Phase) : (setPhs s p x).pcie = s.pcie := rfl
@[simp] theorem setPhs_glb (p : Nat) (x : Phase) : (setPhs s p x).glb = s.glb := rfl
@[simp] theorem setPhs_qe (p : Nat) (x : Phase) : (setPhs s p x).qe = s.qe := rfl
@[simp] theorem setPhs_evr (p : Nat) (x : Phase) : (setPhs s p x).evr = s.evr := rfl
@[simp] theorem setPhs_held (p : Nat) (x : Phase) : (setPhs s p x).held = s.held := rfl
@[simp] theorem setPhs_sb (p : Nat) (x : Phase) : (setPhs s p x).sb = s.sb := rfl
@[simp] theorem setPhs_ct (p : Nat) (x : Phase) : (setPhs s p x).ct = s.ct := rfl
@[simp] theorem setPhs_lp (p : Nat) (x : Phase) : (setPhs s p x).lp = s.lp := rfl
@[simp] theorem setPhs_mc (p : Nat) (x : Phase) : (setPhs s p x).mc = s.mc := rfl
@[simp] theorem setPhs_ox (p : Nat) (x : Phase) : (setPhs s p x).ox = s.ox := rfl
@[simp] theorem setPhs_park (p : Nat) (x : Phase) : (setPhs s p x).park = s.park := rfl
@[simp] theorem setPhs_gauge (p : Nat) (x : Phase) : (setPhs s p x).gauge = s.gauge := rfl
@[simp] theorem setPhs_seq (p : Nat) (x : Phase) : (setPhs s p x).seq = s.seq := rfl
@[simp] theorem setPhs_flk (p : Nat) (x : Phase) : (setPhs s p x).flk = s.flk := rfl
@[simp] theorem setPhs_pwr (p : Nat) (x : Phase) : (setPhs s p x).pwr = s.pwr := rfl
@[simp] theorem setPhs_chg (p : Nat) (x : Phase) : (setPhs s p x).chg = s.chg := rfl
@[simp] theorem setPhs_flt (p : Nat) (x : Phase) : (setPhs s p x).flt = s.flt := rfl
@[simp] theorem setPhs_goose0 (p : Nat) (x : Phase) : (setPhs s p x).goose0 = s.goose0 := rfl
@[simp] theorem setPhs_goose1 (p : Nat) (x : Phase) : (setPhs s p x).goose1 = s.goose1 := rfl
@[simp] theorem setPhs_restart (p : Nat) (x : Phase) : (setPhs s p x).restart = s.restart := rfl
@[simp] theorem setPhs_ret (p : Nat) (x : Phase) : (setPhs s p x).ret = s.ret := rfl
@[simp] theorem setPhs_otp (p : Nat) (x : Phase) : (setPhs s p x).otp = s.otp := rfl
@[simp] theorem setPhs_nvm (p : Nat) (x : Phase) : (setPhs s p x).nvm = s.nvm := rfl
@[simp] theorem setPhs_rtc (p : Nat) (x : Phase) : (setPhs s p x).rtc = s.rtc := rfl
@[simp] theorem setPhs_mp (p : Nat) (x : Phase) : (setPhs s p x).mp = s.mp := rfl
@[simp] theorem setPhs_hostMem (p : Nat) (x : Phase) : (setPhs s p x).hostMem = s.hostMem := rfl
@[simp] theorem setPhs_mpSram (p : Nat) (x : Phase) : (setPhs s p x).mpSram = s.mpSram := rfl
@[simp] theorem setPhs_flash (p : Nat) (x : Phase) : (setPhs s p x).flash = s.flash := rfl
@[simp] theorem setPhs_wakePcie (p : Nat) (x : Phase) : (setPhs s p x).wakePcie = s.wakePcie := rfl
@[simp] theorem setPhs_wakeMp (p : Nat) (x : Phase) : (setPhs s p x).wakeMp = s.wakeMp := rfl
@[simp] theorem setPhs_g0Reset (p : Nat) (x : Phase) : (setPhs s p x).g0Reset = s.g0Reset := rfl
@[simp] theorem setPhs_upSeconds (p : Nat) (x : Phase) : (setPhs s p x).upSeconds = s.upSeconds := rfl
@[simp] theorem setPhs_free (p : Nat) (x : Phase) : (setPhs s p x).free = s.free := rfl
@[simp] theorem setPhs_readData (p : Nat) (x : Phase) : (setPhs s p x).readData = s.readData := rfl

/-! ### `setPort` changes the link ports -/

@[simp] theorem setPort_pending (p : Nat) (x : Port) : (setPort s p x).pending = s.pending := rfl
@[simp] theorem setPort_regs (p : Nat) (x : Port) : (setPort s p x).regs = s.regs := rfl
@[simp] theorem setPort_pcie (p : Nat) (x : Port) : (setPort s p x).pcie = s.pcie := rfl
@[simp] theorem setPort_glb (p : Nat) (x : Port) : (setPort s p x).glb = s.glb := rfl
@[simp] theorem setPort_qe (p : Nat) (x : Port) : (setPort s p x).qe = s.qe := rfl
@[simp] theorem setPort_evr (p : Nat) (x : Port) : (setPort s p x).evr = s.evr := rfl
@[simp] theorem setPort_held (p : Nat) (x : Port) : (setPort s p x).held = s.held := rfl
@[simp] theorem setPort_sb (p : Nat) (x : Port) : (setPort s p x).sb = s.sb := rfl
@[simp] theorem setPort_ct (p : Nat) (x : Port) : (setPort s p x).ct = s.ct := rfl
@[simp] theorem setPort_mc (p : Nat) (x : Port) : (setPort s p x).mc = s.mc := rfl
@[simp] theorem setPort_ox (p : Nat) (x : Port) : (setPort s p x).ox = s.ox := rfl
@[simp] theorem setPort_park (p : Nat) (x : Port) : (setPort s p x).park = s.park := rfl
@[simp] theorem setPort_gauge (p : Nat) (x : Port) : (setPort s p x).gauge = s.gauge := rfl
@[simp] theorem setPort_rc (p : Nat) (x : Port) : (setPort s p x).rc = s.rc := rfl
@[simp] theorem setPort_seq (p : Nat) (x : Port) : (setPort s p x).seq = s.seq := rfl
@[simp] theorem setPort_flk (p : Nat) (x : Port) : (setPort s p x).flk = s.flk := rfl
@[simp] theorem setPort_pwr (p : Nat) (x : Port) : (setPort s p x).pwr = s.pwr := rfl
@[simp] theorem setPort_chg (p : Nat) (x : Port) : (setPort s p x).chg = s.chg := rfl
@[simp] theorem setPort_flt (p : Nat) (x : Port) : (setPort s p x).flt = s.flt := rfl
@[simp] theorem setPort_goose0 (p : Nat) (x : Port) : (setPort s p x).goose0 = s.goose0 := rfl
@[simp] theorem setPort_goose1 (p : Nat) (x : Port) : (setPort s p x).goose1 = s.goose1 := rfl
@[simp] theorem setPort_restart (p : Nat) (x : Port) : (setPort s p x).restart = s.restart := rfl
@[simp] theorem setPort_ret (p : Nat) (x : Port) : (setPort s p x).ret = s.ret := rfl
@[simp] theorem setPort_otp (p : Nat) (x : Port) : (setPort s p x).otp = s.otp := rfl
@[simp] theorem setPort_nvm (p : Nat) (x : Port) : (setPort s p x).nvm = s.nvm := rfl
@[simp] theorem setPort_rtc (p : Nat) (x : Port) : (setPort s p x).rtc = s.rtc := rfl
@[simp] theorem setPort_mp (p : Nat) (x : Port) : (setPort s p x).mp = s.mp := rfl
@[simp] theorem setPort_hostMem (p : Nat) (x : Port) : (setPort s p x).hostMem = s.hostMem := rfl
@[simp] theorem setPort_mpSram (p : Nat) (x : Port) : (setPort s p x).mpSram = s.mpSram := rfl
@[simp] theorem setPort_flash (p : Nat) (x : Port) : (setPort s p x).flash = s.flash := rfl
@[simp] theorem setPort_wakePcie (p : Nat) (x : Port) : (setPort s p x).wakePcie = s.wakePcie := rfl
@[simp] theorem setPort_wakeMp (p : Nat) (x : Port) : (setPort s p x).wakeMp = s.wakeMp := rfl
@[simp] theorem setPort_g0Reset (p : Nat) (x : Port) : (setPort s p x).g0Reset = s.g0Reset := rfl
@[simp] theorem setPort_upSeconds (p : Nat) (x : Port) : (setPort s p x).upSeconds = s.upSeconds := rfl
@[simp] theorem setPort_free (p : Nat) (x : Port) : (setPort s p x).free = s.free := rfl
@[simp] theorem setPort_readData (p : Nat) (x : Port) : (setPort s p x).readData = s.readData := rfl

/-! ### `setNode` changes the link ports -/

@[simp] theorem setNode_pending (a : Nat) (x : Node) : (setNode s a x).pending = s.pending := rfl
@[simp] theorem setNode_regs (a : Nat) (x : Node) : (setNode s a x).regs = s.regs := rfl
@[simp] theorem setNode_pcie (a : Nat) (x : Node) : (setNode s a x).pcie = s.pcie := rfl
@[simp] theorem setNode_glb (a : Nat) (x : Node) : (setNode s a x).glb = s.glb := rfl
@[simp] theorem setNode_qe (a : Nat) (x : Node) : (setNode s a x).qe = s.qe := rfl
@[simp] theorem setNode_evr (a : Nat) (x : Node) : (setNode s a x).evr = s.evr := rfl
@[simp] theorem setNode_held (a : Nat) (x : Node) : (setNode s a x).held = s.held := rfl
@[simp] theorem setNode_sb (a : Nat) (x : Node) : (setNode s a x).sb = s.sb := rfl
@[simp] theorem setNode_ct (a : Nat) (x : Node) : (setNode s a x).ct = s.ct := rfl
@[simp] theorem setNode_mc (a : Nat) (x : Node) : (setNode s a x).mc = s.mc := rfl
@[simp] theorem setNode_ox (a : Nat) (x : Node) : (setNode s a x).ox = s.ox := rfl
@[simp] theorem setNode_park (a : Nat) (x : Node) : (setNode s a x).park = s.park := rfl
@[simp] theorem setNode_gauge (a : Nat) (x : Node) : (setNode s a x).gauge = s.gauge := rfl
@[simp] theorem setNode_rc (a : Nat) (x : Node) : (setNode s a x).rc = s.rc := rfl
@[simp] theorem setNode_seq (a : Nat) (x : Node) : (setNode s a x).seq = s.seq := rfl
@[simp] theorem setNode_flk (a : Nat) (x : Node) : (setNode s a x).flk = s.flk := rfl
@[simp] theorem setNode_pwr (a : Nat) (x : Node) : (setNode s a x).pwr = s.pwr := rfl
@[simp] theorem setNode_chg (a : Nat) (x : Node) : (setNode s a x).chg = s.chg := rfl
@[simp] theorem setNode_flt (a : Nat) (x : Node) : (setNode s a x).flt = s.flt := rfl
@[simp] theorem setNode_goose0 (a : Nat) (x : Node) : (setNode s a x).goose0 = s.goose0 := rfl
@[simp] theorem setNode_goose1 (a : Nat) (x : Node) : (setNode s a x).goose1 = s.goose1 := rfl
@[simp] theorem setNode_restart (a : Nat) (x : Node) : (setNode s a x).restart = s.restart := rfl
@[simp] theorem setNode_ret (a : Nat) (x : Node) : (setNode s a x).ret = s.ret := rfl
@[simp] theorem setNode_otp (a : Nat) (x : Node) : (setNode s a x).otp = s.otp := rfl
@[simp] theorem setNode_nvm (a : Nat) (x : Node) : (setNode s a x).nvm = s.nvm := rfl
@[simp] theorem setNode_rtc (a : Nat) (x : Node) : (setNode s a x).rtc = s.rtc := rfl
@[simp] theorem setNode_mp (a : Nat) (x : Node) : (setNode s a x).mp = s.mp := rfl
@[simp] theorem setNode_hostMem (a : Nat) (x : Node) : (setNode s a x).hostMem = s.hostMem := rfl
@[simp] theorem setNode_mpSram (a : Nat) (x : Node) : (setNode s a x).mpSram = s.mpSram := rfl
@[simp] theorem setNode_flash (a : Nat) (x : Node) : (setNode s a x).flash = s.flash := rfl
@[simp] theorem setNode_wakePcie (a : Nat) (x : Node) : (setNode s a x).wakePcie = s.wakePcie := rfl
@[simp] theorem setNode_wakeMp (a : Nat) (x : Node) : (setNode s a x).wakeMp = s.wakeMp := rfl
@[simp] theorem setNode_g0Reset (a : Nat) (x : Node) : (setNode s a x).g0Reset = s.g0Reset := rfl
@[simp] theorem setNode_upSeconds (a : Nat) (x : Node) : (setNode s a x).upSeconds = s.upSeconds := rfl
@[simp] theorem setNode_free (a : Nat) (x : Node) : (setNode s a x).free = s.free := rfl
@[simp] theorem setNode_readData (a : Nat) (x : Node) : (setNode s a x).readData = s.readData := rfl

/-! ### `setLine` changes the channel table -/

@[simp] theorem setLine_pending (c : Nat) (l : Line) : (setLine s c l).pending = s.pending := rfl
@[simp] theorem setLine_regs (c : Nat) (l : Line) : (setLine s c l).regs = s.regs := rfl
@[simp] theorem setLine_pcie (c : Nat) (l : Line) : (setLine s c l).pcie = s.pcie := rfl
@[simp] theorem setLine_glb (c : Nat) (l : Line) : (setLine s c l).glb = s.glb := rfl
@[simp] theorem setLine_qe (c : Nat) (l : Line) : (setLine s c l).qe = s.qe := rfl
@[simp] theorem setLine_evr (c : Nat) (l : Line) : (setLine s c l).evr = s.evr := rfl
@[simp] theorem setLine_held (c : Nat) (l : Line) : (setLine s c l).held = s.held := rfl
@[simp] theorem setLine_sb (c : Nat) (l : Line) : (setLine s c l).sb = s.sb := rfl
@[simp] theorem setLine_lp (c : Nat) (l : Line) : (setLine s c l).lp = s.lp := rfl
@[simp] theorem setLine_mc (c : Nat) (l : Line) : (setLine s c l).mc = s.mc := rfl
@[simp] theorem setLine_ox (c : Nat) (l : Line) : (setLine s c l).ox = s.ox := rfl
@[simp] theorem setLine_park (c : Nat) (l : Line) : (setLine s c l).park = s.park := rfl
@[simp] theorem setLine_gauge (c : Nat) (l : Line) : (setLine s c l).gauge = s.gauge := rfl
@[simp] theorem setLine_rc (c : Nat) (l : Line) : (setLine s c l).rc = s.rc := rfl
@[simp] theorem setLine_seq (c : Nat) (l : Line) : (setLine s c l).seq = s.seq := rfl
@[simp] theorem setLine_flk (c : Nat) (l : Line) : (setLine s c l).flk = s.flk := rfl
@[simp] theorem setLine_pwr (c : Nat) (l : Line) : (setLine s c l).pwr = s.pwr := rfl
@[simp] theorem setLine_chg (c : Nat) (l : Line) : (setLine s c l).chg = s.chg := rfl
@[simp] theorem setLine_flt (c : Nat) (l : Line) : (setLine s c l).flt = s.flt := rfl
@[simp] theorem setLine_goose0 (c : Nat) (l : Line) : (setLine s c l).goose0 = s.goose0 := rfl
@[simp] theorem setLine_goose1 (c : Nat) (l : Line) : (setLine s c l).goose1 = s.goose1 := rfl
@[simp] theorem setLine_restart (c : Nat) (l : Line) : (setLine s c l).restart = s.restart := rfl
@[simp] theorem setLine_ret (c : Nat) (l : Line) : (setLine s c l).ret = s.ret := rfl
@[simp] theorem setLine_otp (c : Nat) (l : Line) : (setLine s c l).otp = s.otp := rfl
@[simp] theorem setLine_nvm (c : Nat) (l : Line) : (setLine s c l).nvm = s.nvm := rfl
@[simp] theorem setLine_rtc (c : Nat) (l : Line) : (setLine s c l).rtc = s.rtc := rfl
@[simp] theorem setLine_mp (c : Nat) (l : Line) : (setLine s c l).mp = s.mp := rfl
@[simp] theorem setLine_hostMem (c : Nat) (l : Line) : (setLine s c l).hostMem = s.hostMem := rfl
@[simp] theorem setLine_mpSram (c : Nat) (l : Line) : (setLine s c l).mpSram = s.mpSram := rfl
@[simp] theorem setLine_flash (c : Nat) (l : Line) : (setLine s c l).flash = s.flash := rfl
@[simp] theorem setLine_wakePcie (c : Nat) (l : Line) : (setLine s c l).wakePcie = s.wakePcie := rfl
@[simp] theorem setLine_wakeMp (c : Nat) (l : Line) : (setLine s c l).wakeMp = s.wakeMp := rfl
@[simp] theorem setLine_g0Reset (c : Nat) (l : Line) : (setLine s c l).g0Reset = s.g0Reset := rfl
@[simp] theorem setLine_upSeconds (c : Nat) (l : Line) : (setLine s c l).upSeconds = s.upSeconds := rfl
@[simp] theorem setLine_free (c : Nat) (l : Line) : (setLine s c l).free = s.free := rfl
@[simp] theorem setLine_readData (c : Nat) (l : Line) : (setLine s c l).readData = s.readData := rfl

/-! ### `dropLine` changes the channel table -/

@[simp] theorem dropLine_pending (c : Nat) : (dropLine s c).pending = s.pending := rfl
@[simp] theorem dropLine_regs (c : Nat) : (dropLine s c).regs = s.regs := rfl
@[simp] theorem dropLine_pcie (c : Nat) : (dropLine s c).pcie = s.pcie := rfl
@[simp] theorem dropLine_glb (c : Nat) : (dropLine s c).glb = s.glb := rfl
@[simp] theorem dropLine_qe (c : Nat) : (dropLine s c).qe = s.qe := rfl
@[simp] theorem dropLine_evr (c : Nat) : (dropLine s c).evr = s.evr := rfl
@[simp] theorem dropLine_held (c : Nat) : (dropLine s c).held = s.held := rfl
@[simp] theorem dropLine_sb (c : Nat) : (dropLine s c).sb = s.sb := rfl
@[simp] theorem dropLine_lp (c : Nat) : (dropLine s c).lp = s.lp := rfl
@[simp] theorem dropLine_mc (c : Nat) : (dropLine s c).mc = s.mc := rfl
@[simp] theorem dropLine_ox (c : Nat) : (dropLine s c).ox = s.ox := rfl
@[simp] theorem dropLine_park (c : Nat) : (dropLine s c).park = s.park := rfl
@[simp] theorem dropLine_gauge (c : Nat) : (dropLine s c).gauge = s.gauge := rfl
@[simp] theorem dropLine_rc (c : Nat) : (dropLine s c).rc = s.rc := rfl
@[simp] theorem dropLine_seq (c : Nat) : (dropLine s c).seq = s.seq := rfl
@[simp] theorem dropLine_flk (c : Nat) : (dropLine s c).flk = s.flk := rfl
@[simp] theorem dropLine_pwr (c : Nat) : (dropLine s c).pwr = s.pwr := rfl
@[simp] theorem dropLine_chg (c : Nat) : (dropLine s c).chg = s.chg := rfl
@[simp] theorem dropLine_flt (c : Nat) : (dropLine s c).flt = s.flt := rfl
@[simp] theorem dropLine_goose0 (c : Nat) : (dropLine s c).goose0 = s.goose0 := rfl
@[simp] theorem dropLine_goose1 (c : Nat) : (dropLine s c).goose1 = s.goose1 := rfl
@[simp] theorem dropLine_restart (c : Nat) : (dropLine s c).restart = s.restart := rfl
@[simp] theorem dropLine_ret (c : Nat) : (dropLine s c).ret = s.ret := rfl
@[simp] theorem dropLine_otp (c : Nat) : (dropLine s c).otp = s.otp := rfl
@[simp] theorem dropLine_nvm (c : Nat) : (dropLine s c).nvm = s.nvm := rfl
@[simp] theorem dropLine_rtc (c : Nat) : (dropLine s c).rtc = s.rtc := rfl
@[simp] theorem dropLine_mp (c : Nat) : (dropLine s c).mp = s.mp := rfl
@[simp] theorem dropLine_hostMem (c : Nat) : (dropLine s c).hostMem = s.hostMem := rfl
@[simp] theorem dropLine_mpSram (c : Nat) : (dropLine s c).mpSram = s.mpSram := rfl
@[simp] theorem dropLine_flash (c : Nat) : (dropLine s c).flash = s.flash := rfl
@[simp] theorem dropLine_wakePcie (c : Nat) : (dropLine s c).wakePcie = s.wakePcie := rfl
@[simp] theorem dropLine_wakeMp (c : Nat) : (dropLine s c).wakeMp = s.wakeMp := rfl
@[simp] theorem dropLine_g0Reset (c : Nat) : (dropLine s c).g0Reset = s.g0Reset := rfl
@[simp] theorem dropLine_upSeconds (c : Nat) : (dropLine s c).upSeconds = s.upSeconds := rfl
@[simp] theorem dropLine_free (c : Nat) : (dropLine s c).free = s.free := rfl
@[simp] theorem dropLine_readData (c : Nat) : (dropLine s c).readData = s.readData := rfl

/-! ### `putWork` changes the Ox engine -/

@[simp] theorem putWork_pending (c : Nat) (w : GroupWork) : (putWork s c w).pending = s.pending := rfl
@[simp] theorem putWork_regs (c : Nat) (w : GroupWork) : (putWork s c w).regs = s.regs := rfl
@[simp] theorem putWork_pcie (c : Nat) (w : GroupWork) : (putWork s c w).pcie = s.pcie := rfl
@[simp] theorem putWork_glb (c : Nat) (w : GroupWork) : (putWork s c w).glb = s.glb := rfl
@[simp] theorem putWork_qe (c : Nat) (w : GroupWork) : (putWork s c w).qe = s.qe := rfl
@[simp] theorem putWork_evr (c : Nat) (w : GroupWork) : (putWork s c w).evr = s.evr := rfl
@[simp] theorem putWork_held (c : Nat) (w : GroupWork) : (putWork s c w).held = s.held := rfl
@[simp] theorem putWork_sb (c : Nat) (w : GroupWork) : (putWork s c w).sb = s.sb := rfl
@[simp] theorem putWork_ct (c : Nat) (w : GroupWork) : (putWork s c w).ct = s.ct := rfl
@[simp] theorem putWork_lp (c : Nat) (w : GroupWork) : (putWork s c w).lp = s.lp := rfl
@[simp] theorem putWork_mc (c : Nat) (w : GroupWork) : (putWork s c w).mc = s.mc := rfl
@[simp] theorem putWork_park (c : Nat) (w : GroupWork) : (putWork s c w).park = s.park := rfl
@[simp] theorem putWork_gauge (c : Nat) (w : GroupWork) : (putWork s c w).gauge = s.gauge := rfl
@[simp] theorem putWork_rc (c : Nat) (w : GroupWork) : (putWork s c w).rc = s.rc := rfl
@[simp] theorem putWork_seq (c : Nat) (w : GroupWork) : (putWork s c w).seq = s.seq := rfl
@[simp] theorem putWork_flk (c : Nat) (w : GroupWork) : (putWork s c w).flk = s.flk := rfl
@[simp] theorem putWork_pwr (c : Nat) (w : GroupWork) : (putWork s c w).pwr = s.pwr := rfl
@[simp] theorem putWork_chg (c : Nat) (w : GroupWork) : (putWork s c w).chg = s.chg := rfl
@[simp] theorem putWork_flt (c : Nat) (w : GroupWork) : (putWork s c w).flt = s.flt := rfl
@[simp] theorem putWork_goose0 (c : Nat) (w : GroupWork) : (putWork s c w).goose0 = s.goose0 := rfl
@[simp] theorem putWork_goose1 (c : Nat) (w : GroupWork) : (putWork s c w).goose1 = s.goose1 := rfl
@[simp] theorem putWork_restart (c : Nat) (w : GroupWork) : (putWork s c w).restart = s.restart := rfl
@[simp] theorem putWork_ret (c : Nat) (w : GroupWork) : (putWork s c w).ret = s.ret := rfl
@[simp] theorem putWork_otp (c : Nat) (w : GroupWork) : (putWork s c w).otp = s.otp := rfl
@[simp] theorem putWork_nvm (c : Nat) (w : GroupWork) : (putWork s c w).nvm = s.nvm := rfl
@[simp] theorem putWork_rtc (c : Nat) (w : GroupWork) : (putWork s c w).rtc = s.rtc := rfl
@[simp] theorem putWork_mp (c : Nat) (w : GroupWork) : (putWork s c w).mp = s.mp := rfl
@[simp] theorem putWork_hostMem (c : Nat) (w : GroupWork) : (putWork s c w).hostMem = s.hostMem := rfl
@[simp] theorem putWork_mpSram (c : Nat) (w : GroupWork) : (putWork s c w).mpSram = s.mpSram := rfl
@[simp] theorem putWork_flash (c : Nat) (w : GroupWork) : (putWork s c w).flash = s.flash := rfl
@[simp] theorem putWork_wakePcie (c : Nat) (w : GroupWork) : (putWork s c w).wakePcie = s.wakePcie := rfl
@[simp] theorem putWork_wakeMp (c : Nat) (w : GroupWork) : (putWork s c w).wakeMp = s.wakeMp := rfl
@[simp] theorem putWork_g0Reset (c : Nat) (w : GroupWork) : (putWork s c w).g0Reset = s.g0Reset := rfl
@[simp] theorem putWork_upSeconds (c : Nat) (w : GroupWork) : (putWork s c w).upSeconds = s.upSeconds := rfl
@[simp] theorem putWork_free (c : Nat) (w : GroupWork) : (putWork s c w).free = s.free := rfl
@[simp] theorem putWork_readData (c : Nat) (w : GroupWork) : (putWork s c w).readData = s.readData := rfl

/-! ### `setPage` changes the NVM -/

@[simp] theorem setPage_pending (n : Nat) (p : Page) : (setPage s n p).pending = s.pending := rfl
@[simp] theorem setPage_regs (n : Nat) (p : Page) : (setPage s n p).regs = s.regs := rfl
@[simp] theorem setPage_pcie (n : Nat) (p : Page) : (setPage s n p).pcie = s.pcie := rfl
@[simp] theorem setPage_glb (n : Nat) (p : Page) : (setPage s n p).glb = s.glb := rfl
@[simp] theorem setPage_qe (n : Nat) (p : Page) : (setPage s n p).qe = s.qe := rfl
@[simp] theorem setPage_evr (n : Nat) (p : Page) : (setPage s n p).evr = s.evr := rfl
@[simp] theorem setPage_held (n : Nat) (p : Page) : (setPage s n p).held = s.held := rfl
@[simp] theorem setPage_sb (n : Nat) (p : Page) : (setPage s n p).sb = s.sb := rfl
@[simp] theorem setPage_ct (n : Nat) (p : Page) : (setPage s n p).ct = s.ct := rfl
@[simp] theorem setPage_lp (n : Nat) (p : Page) : (setPage s n p).lp = s.lp := rfl
@[simp] theorem setPage_mc (n : Nat) (p : Page) : (setPage s n p).mc = s.mc := rfl
@[simp] theorem setPage_ox (n : Nat) (p : Page) : (setPage s n p).ox = s.ox := rfl
@[simp] theorem setPage_park (n : Nat) (p : Page) : (setPage s n p).park = s.park := rfl
@[simp] theorem setPage_gauge (n : Nat) (p : Page) : (setPage s n p).gauge = s.gauge := rfl
@[simp] theorem setPage_rc (n : Nat) (p : Page) : (setPage s n p).rc = s.rc := rfl
@[simp] theorem setPage_seq (n : Nat) (p : Page) : (setPage s n p).seq = s.seq := rfl
@[simp] theorem setPage_flk (n : Nat) (p : Page) : (setPage s n p).flk = s.flk := rfl
@[simp] theorem setPage_pwr (n : Nat) (p : Page) : (setPage s n p).pwr = s.pwr := rfl
@[simp] theorem setPage_chg (n : Nat) (p : Page) : (setPage s n p).chg = s.chg := rfl
@[simp] theorem setPage_flt (n : Nat) (p : Page) : (setPage s n p).flt = s.flt := rfl
@[simp] theorem setPage_goose0 (n : Nat) (p : Page) : (setPage s n p).goose0 = s.goose0 := rfl
@[simp] theorem setPage_goose1 (n : Nat) (p : Page) : (setPage s n p).goose1 = s.goose1 := rfl
@[simp] theorem setPage_restart (n : Nat) (p : Page) : (setPage s n p).restart = s.restart := rfl
@[simp] theorem setPage_ret (n : Nat) (p : Page) : (setPage s n p).ret = s.ret := rfl
@[simp] theorem setPage_otp (n : Nat) (p : Page) : (setPage s n p).otp = s.otp := rfl
@[simp] theorem setPage_rtc (n : Nat) (p : Page) : (setPage s n p).rtc = s.rtc := rfl
@[simp] theorem setPage_mp (n : Nat) (p : Page) : (setPage s n p).mp = s.mp := rfl
@[simp] theorem setPage_hostMem (n : Nat) (p : Page) : (setPage s n p).hostMem = s.hostMem := rfl
@[simp] theorem setPage_mpSram (n : Nat) (p : Page) : (setPage s n p).mpSram = s.mpSram := rfl
@[simp] theorem setPage_flash (n : Nat) (p : Page) : (setPage s n p).flash = s.flash := rfl
@[simp] theorem setPage_wakePcie (n : Nat) (p : Page) : (setPage s n p).wakePcie = s.wakePcie := rfl
@[simp] theorem setPage_wakeMp (n : Nat) (p : Page) : (setPage s n p).wakeMp = s.wakeMp := rfl
@[simp] theorem setPage_g0Reset (n : Nat) (p : Page) : (setPage s n p).g0Reset = s.g0Reset := rfl
@[simp] theorem setPage_upSeconds (n : Nat) (p : Page) : (setPage s n p).upSeconds = s.upSeconds := rfl
@[simp] theorem setPage_free (n : Nat) (p : Page) : (setPage s n p).free = s.free := rfl
@[simp] theorem setPage_readData (n : Nat) (p : Page) : (setPage s n p).readData = s.readData := rfl

/-! ### `rtcCross` changes the calendar -/

@[simp] theorem rtcCross_pending (o : RtcOp) : (rtcCross s o).pending = s.pending := rfl
@[simp] theorem rtcCross_regs (o : RtcOp) : (rtcCross s o).regs = s.regs := rfl
@[simp] theorem rtcCross_pcie (o : RtcOp) : (rtcCross s o).pcie = s.pcie := rfl
@[simp] theorem rtcCross_glb (o : RtcOp) : (rtcCross s o).glb = s.glb := rfl
@[simp] theorem rtcCross_qe (o : RtcOp) : (rtcCross s o).qe = s.qe := rfl
@[simp] theorem rtcCross_evr (o : RtcOp) : (rtcCross s o).evr = s.evr := rfl
@[simp] theorem rtcCross_held (o : RtcOp) : (rtcCross s o).held = s.held := rfl
@[simp] theorem rtcCross_sb (o : RtcOp) : (rtcCross s o).sb = s.sb := rfl
@[simp] theorem rtcCross_ct (o : RtcOp) : (rtcCross s o).ct = s.ct := rfl
@[simp] theorem rtcCross_lp (o : RtcOp) : (rtcCross s o).lp = s.lp := rfl
@[simp] theorem rtcCross_mc (o : RtcOp) : (rtcCross s o).mc = s.mc := rfl
@[simp] theorem rtcCross_ox (o : RtcOp) : (rtcCross s o).ox = s.ox := rfl
@[simp] theorem rtcCross_park (o : RtcOp) : (rtcCross s o).park = s.park := rfl
@[simp] theorem rtcCross_gauge (o : RtcOp) : (rtcCross s o).gauge = s.gauge := rfl
@[simp] theorem rtcCross_rc (o : RtcOp) : (rtcCross s o).rc = s.rc := rfl
@[simp] theorem rtcCross_seq (o : RtcOp) : (rtcCross s o).seq = s.seq := rfl
@[simp] theorem rtcCross_flk (o : RtcOp) : (rtcCross s o).flk = s.flk := rfl
@[simp] theorem rtcCross_pwr (o : RtcOp) : (rtcCross s o).pwr = s.pwr := rfl
@[simp] theorem rtcCross_chg (o : RtcOp) : (rtcCross s o).chg = s.chg := rfl
@[simp] theorem rtcCross_flt (o : RtcOp) : (rtcCross s o).flt = s.flt := rfl
@[simp] theorem rtcCross_goose0 (o : RtcOp) : (rtcCross s o).goose0 = s.goose0 := rfl
@[simp] theorem rtcCross_goose1 (o : RtcOp) : (rtcCross s o).goose1 = s.goose1 := rfl
@[simp] theorem rtcCross_restart (o : RtcOp) : (rtcCross s o).restart = s.restart := rfl
@[simp] theorem rtcCross_ret (o : RtcOp) : (rtcCross s o).ret = s.ret := rfl
@[simp] theorem rtcCross_otp (o : RtcOp) : (rtcCross s o).otp = s.otp := rfl
@[simp] theorem rtcCross_nvm (o : RtcOp) : (rtcCross s o).nvm = s.nvm := rfl
@[simp] theorem rtcCross_mp (o : RtcOp) : (rtcCross s o).mp = s.mp := rfl
@[simp] theorem rtcCross_hostMem (o : RtcOp) : (rtcCross s o).hostMem = s.hostMem := rfl
@[simp] theorem rtcCross_mpSram (o : RtcOp) : (rtcCross s o).mpSram = s.mpSram := rfl
@[simp] theorem rtcCross_flash (o : RtcOp) : (rtcCross s o).flash = s.flash := rfl
@[simp] theorem rtcCross_wakePcie (o : RtcOp) : (rtcCross s o).wakePcie = s.wakePcie := rfl
@[simp] theorem rtcCross_wakeMp (o : RtcOp) : (rtcCross s o).wakeMp = s.wakeMp := rfl
@[simp] theorem rtcCross_g0Reset (o : RtcOp) : (rtcCross s o).g0Reset = s.g0Reset := rfl
@[simp] theorem rtcCross_upSeconds (o : RtcOp) : (rtcCross s o).upSeconds = s.upSeconds := rfl
@[simp] theorem rtcCross_free (o : RtcOp) : (rtcCross s o).free = s.free := rfl
@[simp] theorem rtcCross_readData (o : RtcOp) : (rtcCross s o).readData = s.readData := rfl

/-! ### What the updates put in place -/

@[simp] theorem takeFree_free : (takeFree s).free = s.free + 1 := rfl
@[simp] theorem setFlt_flt (f : Faults) : (setFlt s f).flt = f := rfl
@[simp] theorem setPwr_pwr (p : Power) : (setPwr s p).pwr = p := rfl
@[simp] theorem setMp_mp (m : Mp) : (setMp s m).mp = m := rfl
@[simp] theorem setPark_parking (p : Parking) : (setPark s p).mp.parking = p := rfl
@[simp] theorem setChg_chg (c : Charger) : (setChg s c).chg = c := rfl

theorem win_setWin (w v : Nat) (q : QWin) : win (setWin s w q) v = if w = v ∧ w < 26 then q else win s v := vget_vput ..
theorem strm_setStrm (m k : Nat) (t : Stream) : strm (setStrm s m t) k = if m = k ∧ m < 17 then t else strm s k := vget_vput ..
theorem dom_setDom (k j : Nat) (d : Domain) : dom (setDom s k d) j = if k = j ∧ k < 13 then d else dom s j := vget_vput ..
theorem rail_setRail (n m : Nat) (r : Rail) : rail (setRail s n r) m = if n = m ∧ n < 8 then r else rail s m := vget_vput ..
theorem phs_setPhs (p q : Nat) (x : Phase) : phs (setPhs s p x) q = if p = q ∧ p < 12 then x else phs s q := vget_vput ..
theorem port_setPort (p q : Nat) (x : Port) : port (setPort s p x) q = if p = q ∧ p < 16 then x else port s q := vget_vput ..
@[simp] theorem strm_setWin (w m : Nat) (q : QWin) : strm (setWin s w q) m = strm s m := rfl
@[simp] theorem win_setStrm (w m : Nat) (t : Stream) : win (setStrm s m t) w = win s w := rfl
@[simp] theorem phs_setRail (n p : Nat) (r : Rail) : phs (setRail s n r) p = phs s p := rfl
@[simp] theorem rail_setPhs (n p : Nat) (x : Phase) : rail (setPhs s p x) n = rail s n := rfl
@[simp] theorem node_setPort (p a : Nat) (x : Port) : node (setPort s p x) a = node s a := rfl
@[simp] theorem port_setNode (p a : Nat) (x : Node) : port (setNode s a x) p = port s p := rfl
@[simp] theorem node_setNode_self (a : Nat) (x : Node) : node (setNode s a x) a = x := Sparse.getD_set_self ..
theorem node_setNode_other (a b : Nat) (x : Node) (h : b ≠ a) : node (setNode s a x) b = node s b := Sparse.getD_set_other _ _ _ h
@[simp] theorem line_setLine_self (c : Nat) (l : Line) : line (setLine s c l) c = some l := Sparse.get?_set_self ..
theorem line_setLine_other (c k : Nat) (l : Line) (h : k ≠ c) : line (setLine s c l) k = line s k := Sparse.get?_set_other _ _ h
theorem line_dropLine_other (c k : Nat) (h : k ≠ c) : line (dropLine s c) k = line s k := Sparse.get?_del_other _ h

/-- A line that is asserted is found, with the detail it came with first (R488). -/
theorem assertLine_lines (k : Nat) (x : Word) :
    Sparse.get? (assertLine s k x).flt.lines k = some ((Sparse.get? s.flt.lines k).getD x) := by
  unfold assertLine
  split
  · next h => obtain ⟨v, hv⟩ := Option.isSome_iff_exists.mp h; simp [hv]
  · next h => simp [Option.not_isSome_iff_eq_none.mp h]

/-- The other lines stay. -/
theorem assertLine_other (k j : Nat) (x : Word) (h : j ≠ k) : Sparse.get? (assertLine s k x).flt.lines j = Sparse.get? s.flt.lines j := by
  unfold assertLine
  split
  · rfl
  · exact Sparse.get?_set_other _ _ h

/-- A register write goes through the register file. -/
theorem wr_regs (off : Nat) (w mask : Word) : (wr s off w mask).regs = s.regs.put s.otp off w mask := rfl

end Sys2Proof.Machine
end

