-- ==== Sys2Proof/Laws/Events.lean ====
section
/-! SUPPORT. What the shared operations can do: register reads after writes, canonical memories, and the reach of an event. -/

namespace Sys2Proof.Machine

/-! ### Registers -/

/-- A register reads what was put into it under the mask. -/
@[simp] theorem rd_wr_self (s : State) (off : Nat) (w mask : Word) : rd (wr s off w mask) off = mergeMask (rd s off) w mask := by
  simp [rd, wr, RegFile.put, RegFile.get]

/-- The other registers read as before. -/
theorem rd_wr_other (s : State) {off o : Nat} (w mask : Word) (h : o ≠ off) : rd (wr s off w mask) o = rd s o := by
  simp [rd, wr, RegFile.put, RegFile.get, Sparse.getD_set_other _ _ _ h]

/-- Registers and OTP values decide what every field reads. -/
theorem rd_congr {s t : State} (hr : t.regs = s.regs) (ho : t.otp = s.otp) (off : Nat) : rd t off = rd s off := by simp [rd, hr, ho]
theorem fld_congr {s t : State} (hr : t.regs = s.regs) (ho : t.otp = s.otp) (off lo len : Nat) : fld t off lo len = fld s off lo len := by
  simp [fld, rd_congr hr ho]
theorem flag_congr {s t : State} (hr : t.regs = s.regs) (ho : t.otp = s.otp) (off i : Nat) : flag t off i = flag s off i := by
  simp [flag, rd_congr hr ho]
theorem domOn_congr {s t : State} (h : t.pwr = s.pwr) (k : Nat) : domOn t k = domOn s k := by simp [domOn, h]

/-! ### Canonical memories -/

theorem reset_memWf : State.reset.memWf := ⟨rfl, rfl, rfl⟩

/-- The three memories decide it. -/
theorem State.memWf.congr {s t : State} (h : s.memWf) (hh : t.hostMem = s.hostMem) (hm : t.mpSram = s.mpSram) (hf : t.flash = s.flash) : t.memWf := by
  unfold State.memWf at *; rwa [hh, hm, hf]

theorem hostWrite_memWf {s : State} (h : s.memWf) (a : Nat) (bs : List Byte) : (hostWrite s a bs).memWf := ⟨Mem.wf_write h.1, h.2⟩
theorem sramWrite_memWf {s : State} (h : s.memWf) (a : Nat) (bs : List Byte) : (sramWrite s a bs).memWf := ⟨h.1, Mem.wf_write h.2.1, h.2.2⟩
theorem flashWrite_memWf {s : State} (h : s.memWf) (a : Nat) (bs : List Byte) : (flashWrite s a bs).memWf := ⟨h.1, h.2.1, Mem.wf_write h.2.2⟩

theorem Mem.wfFrom_outside {d : Byte} (a n : Nat) {m : List Host.Cell} : ∀ {lo : Nat}, Mem.wfFrom d lo m = true → Mem.wfFrom d lo (Mem.outside a n m) = true := by
  induction m with
  | nil => intro lo _; rfl
  | cons c t ih =>
    intro lo h
    simp only [Mem.wfFrom, Bool.and_eq_true, decide_eq_true_eq] at h
    have ht := ih h.2
    unfold Mem.outside at ht ⊢
    rw [List.filter_cons]
    split
    · simp [Mem.wfFrom, h.1.1, h.1.2, ht]
    · exact Mem.wfFrom_mono (Nat.le_succ_of_le h.1.1) ht

theorem flashErase_memWf {s : State} (h : s.memWf) (a n : Nat) : (flashErase s a n).memWf := ⟨h.1, h.2.1, Mem.wfFrom_outside a n h.2.2⟩

/-- A byte of host memory after a write. -/
theorem hostByte_hostWrite_other {s : State} (h : s.memWf) {a x : Nat} {bs : List Byte} (hx : x < a ∨ a + bs.length ≤ x) :
    hostByte (hostWrite s a bs) x = hostByte s x := Mem.get_write_other h.1 hx
theorem hostByte_hostWrite_at {s : State} (h : s.memWf) {a i : Nat} {bs : List Byte} (hi : i < bs.length) :
    hostByte (hostWrite s a bs) (a + i) = bs[i] := Mem.get_write_at h.1 hi

/-! ### The reach of an event: `OnlyEvents` -/

theorem OnlyEvents.refl (s : State) : OnlyEvents s s := rfl

theorem OnlyEvents.trans {s t u : State} (h1 : OnlyEvents s t) (h2 : OnlyEvents t u) : OnlyEvents s u := by
  unfold OnlyEvents at *
  rw [h2, h1]

theorem takeFree_onlyEvents (s : State) : OnlyEvents s (takeFree s) := rfl
theorem hostWrite_onlyEvents (s : State) (a : Nat) (bs : List Byte) : OnlyEvents s (hostWrite s a bs) := rfl
theorem setWin_onlyEvents (s : State) (w : Nat) (q : QWin) : OnlyEvents s (setWin s w q) := rfl
theorem evPend_onlyEvents (s : State) (k : Nat) (o : Occ) : OnlyEvents s (evPend s k o) := rfl
theorem evHold_onlyEvents (s : State) (k : Nat) (o : Occ) : OnlyEvents s (evHold s k o) := rfl
theorem evRecord_onlyEvents (s : State) (k : Nat) (d : DWord) : OnlyEvents s (evRecord s k d) := rfl
theorem pushEntry_onlyEvents (s : State) (w : Nat) (bs : List Byte) : OnlyEvents s (pushEntry s w bs) := rfl

theorem msixSend_onlyEvents (s : State) (v : Nat) : OnlyEvents s (msixSend s v) := by
  unfold msixSend
  split
  · rfl
  · dsimp only; split <;> rfl

theorem msixFlush_onlyEvents (v : Nat) (s : State) : OnlyEvents s (msixFlush v s) := by
  unfold msixFlush; dsimp only; split <;> rfl

theorem coalSend_onlyEvents (v : Nat) (s : State) : OnlyEvents s (coalSend v s) :=
  OnlyEvents.trans (t := { s with evr := { s.evr with coal := Sparse.del s.evr.coal v } }) rfl (msixSend_onlyEvents ..)

theorem coalCount_onlyEvents (s : State) (v : Nat) : OnlyEvents s (coalCount s v) := by
  unfold coalCount; dsimp only
  split
  · exact coalSend_onlyEvents ..
  · rfl

theorem evMsix_onlyEvents (s : State) (k : Nat) : OnlyEvents s (evMsix s k) := by
  unfold evMsix
  split
  · exact coalCount_onlyEvents ..
  · rfl

theorem routeEv4_onlyEvents (s : State) (o : Occ) : OnlyEvents s (routeEv4 s o) := by
  unfold routeEv4
  split
  · rfl
  · exact (evRecord_onlyEvents s 4 o.detail).trans (evMsix_onlyEvents ..)

theorem eqPost_onlyEvents (s : State) (k : Nat) (o : Occ) : OnlyEvents s (eqPost s k o) := by
  unfold eqPost
  split
  · rfl
  · split
    · rfl
    · split
      · exact ((pushEntry_onlyEvents ..).trans (takeFree_onlyEvents _)).trans (routeEv4_onlyEvents ..)
      · rfl

theorem evRoute_onlyEvents (s : State) (k : Nat) (o : Occ) : OnlyEvents s (evRoute s k o) := by
  unfold evRoute
  split
  · rfl
  · refine (evRecord_onlyEvents s k o.detail).trans (OnlyEvents.trans ?_ (evMsix_onlyEvents ..))
    split
    · exact eqPost_onlyEvents ..
    · rfl

theorem occur_onlyEvents (s : State) (k : Nat) (o : Occ) : OnlyEvents s (occur s k o) := by
  unfold occur
  split
  · exact evRoute_onlyEvents ..
  · rfl

/-- All that raising an event can do. -/
theorem raise_onlyEvents (s : State) (k : Nat) (d : DWord) : OnlyEvents s (raise s k d) := (takeFree_onlyEvents s).trans (occur_onlyEvents ..)

theorem evUnmask_onlyEvents (k : Nat) (s : State) : OnlyEvents s (evUnmask k s) := by
  unfold evUnmask
  split
  · rfl
  · split
    · rfl
    · dsimp only
      split
      · exact OnlyEvents.trans (t := { s with evr := { s.evr with pend := Sparse.del s.evr.pend k } }) rfl (evRoute_onlyEvents ..)
      · split <;> rfl

theorem forEach_onlyEvents {α : Type} {f : α → State → State} (l : List α) (s : State) (h : ∀ a q, OnlyEvents q (f a q)) : OnlyEvents s (forEach l f s) :=
  forEach_induct (P := OnlyEvents s) rfl fun a _ q hq => hq.trans (h a q)

theorem evDeliver_onlyEvents (s : State) : OnlyEvents s (evDeliver s) :=
  OnlyEvents.trans (t := { s with held := { s.held with latches := [] } }) rfl (forEach_onlyEvents _ _ fun e q => evRoute_onlyEvents q e.1 e.2)

theorem evGooseLast_onlyEvents (s : State) : OnlyEvents s (evGooseLast s) := by
  unfold evGooseLast
  split
  · rfl
  · rfl

/-- All that a look at the routing conditions can do. -/
theorem evUpdate_onlyEvents (s : State) : OnlyEvents s (evUpdate s) := by
  unfold evUpdate
  extract_lets seen e0 s1 now e1 s2 s3
  have h1 : OnlyEvents s s1 := rfl
  split
  · have h2 : OnlyEvents s s2 := rfl
    have h3 : OnlyEvents s s3 := by
      show OnlyEvents s (if s1.evr.resume then _ else _)
      split
      · exact h2.trans (forEach_onlyEvents _ _ coalSend_onlyEvents)
      · exact h2
    exact (h3.trans (evGooseLast_onlyEvents _)).trans (evDeliver_onlyEvents _)
  · rfl

/-- What an event leaves as it was. -/
theorem OnlyEvents.frame {s t : State} (h : OnlyEvents s t) :
    t.regs = s.regs ∧ t.otp = s.otp ∧ t.pwr = s.pwr ∧ t.flt = s.flt ∧ t.rc = s.rc ∧ t.seq = s.seq ∧ t.chg = s.chg ∧ t.lp = s.lp ∧ t.mp = s.mp ∧
      t.nvm = s.nvm ∧ t.rtc = s.rtc ∧ t.pending = s.pending ∧ t.mpSram = s.mpSram ∧ t.flash = s.flash := by
  unfold OnlyEvents at h
  rw [h]
  exact ⟨rfl, rfl, rfl, rfl, rfl, rfl, rfl, rfl, rfl, rfl, rfl, rfl, rfl, rfl⟩

/-! ### Events keep the memories canonical -/

theorem msixSend_memWf {s : State} (h : s.memWf) (v : Nat) : (msixSend s v).memWf := by
  unfold msixSend
  split
  · exact h
  · dsimp only
    split
    · exact h
    · exact hostWrite_memWf h ..

theorem coalCount_memWf {s : State} (h : s.memWf) (v : Nat) : (coalCount s v).memWf := by
  unfold coalCount; dsimp only
  split
  · exact msixSend_memWf (s := { s with evr := { s.evr with coal := Sparse.del s.evr.coal v } }) h v
  · exact h

theorem evMsix_memWf {s : State} (h : s.memWf) (k : Nat) : (evMsix s k).memWf := by
  unfold evMsix
  split
  · exact coalCount_memWf h _
  · exact h

theorem pushEntry_memWf {s : State} (h : s.memWf) (w : Nat) (bs : List Byte) : (pushEntry s w bs).memWf := hostWrite_memWf (s := s) h _ bs

theorem pushEntry_takeFree_memWf {s : State} (h : s.memWf) (w : Nat) (bs : List Byte) : (takeFree (pushEntry s w bs)).memWf := pushEntry_memWf h w bs

theorem routeEv4_memWf {s : State} (h : s.memWf) (o : Occ) : (routeEv4 s o).memWf := by
  unfold routeEv4
  split
  · exact h
  · exact evMsix_memWf (s := evRecord s 4 o.detail) h 4

theorem eqPost_memWf {s : State} (h : s.memWf) (k : Nat) (o : Occ) : (eqPost s k o).memWf := by
  unfold eqPost
  split
  · exact h
  · split
    · exact h
    · split
      · exact routeEv4_memWf (pushEntry_takeFree_memWf h ..) _
      · exact pushEntry_memWf h ..

/-- Routing an event keeps the memories canonical. -/
theorem evRoute_memWf {s : State} (h : s.memWf) (k : Nat) (o : Occ) : (evRoute s k o).memWf := by
  unfold evRoute
  split
  · exact h
  · refine evMsix_memWf ?_ k
    split
    · exact eqPost_memWf (s := evRecord s k o.detail) h k o
    · exact h

theorem raise_memWf {s : State} (h : s.memWf) (k : Nat) (d : DWord) : (raise s k d).memWf := by
  unfold raise occur
  split
  · exact evRoute_memWf (s := takeFree s) h ..
  · exact h

/-! ### What is raised -/

theorem coalCount_last (s : State) (v : Nat) : (coalCount s v).evr.last = s.evr.last := by
  unfold coalCount coalSend msixSend; dsimp only
  split
  · split
    · rfl
    · split <;> rfl
  · rfl

theorem evMsix_last (s : State) (k : Nat) : (evMsix s k).evr.last = s.evr.last := by
  unfold evMsix
  split
  · exact coalCount_last ..
  · rfl

theorem eqPost_last (s : State) {k : Nat} (o : Occ) (h : k ≠ 4) : Sparse.getD (eqPost s k o).evr.last k = Sparse.getD s.evr.last k := by
  funext d
  unfold eqPost
  split
  · rfl
  · split
    · rfl
    · split
      · unfold routeEv4; dsimp only
        split
        · rfl
        · rw [evMsix_last]
          exact Sparse.getD_set_other _ _ _ h
      · rfl

/-- A routed occurrence is pending where it is masked, else the last one recorded (R632, R639). -/
theorem evRoute_seen (s : State) (k : Nat) (o : Occ) :
    (evMasked s k = true → Sparse.get? (evRoute s k o).evr.pend k = some o) ∧
    (evMasked s k = false → (Sparse.getD (evRoute s k o).evr.last k { detail := 0, count := 0 }).detail = o.detail) := by
  constructor <;> intro h
  · simp [evRoute, h, evPend]
  · simp only [evRoute, h, Bool.false_eq_true, if_false, evMsix_last]
    split
    · next hk => rw [eqPost_last _ _ (by simp at hk; exact hk.2)]; simp [evRecord]
    · simp [evRecord]

/-- Raising an event does raise it. -/
theorem raise_eventRaised (s : State) (k : Nat) (d : DWord) : EventRaised s (raise s k d) k d := by
  have hm : evMasked (takeFree s) k = evMasked s k := rfl
  have hr : ((takeFree s).evr.routing && rootAlive (takeFree s)) = routes s := rfl
  refine ⟨fun h _ => ?_, fun h m => ?_, fun h m => ?_⟩ <;> unfold raise occur <;> rw [hr, h]
  · simp [evHold]
  · simp [(evRoute_seen (takeFree s) k { ts := stamp s, detail := d }).1 (hm.trans m)]
  · exact (evRoute_seen (takeFree s) k { ts := stamp s, detail := d }).2 (hm.trans m)

end Sys2Proof.Machine
end

