-- ==== Sys2Proof/Laws/Commands.lean ====
section
/-! SUPPORT. What a completion can do, how a command reaches its block, and what a step is. -/

namespace Sys2Proof.Machine

/-! ### The reach of a completion -/

/-- At most what a completion brings about differs: what an event does, the queue engine, the captures' reserved spaces, the writes to
host memory that wait for bus mastering, and the MP's completion records. -/
def OnlyReply (s t : State) : Prop :=
  t = { s with evr := t.evr, held := t.held, qe := t.qe, hostMem := t.hostMem, mc := { s.mc with captures := t.mc.captures }
               pcie := { s.pcie with pba := t.pcie.pba, posted := t.pcie.posted }, free := t.free, ret := { s.ret with lastPending := t.ret.lastPending }
               mp := { s.mp with completions := t.mp.completions } }

theorem OnlyReply.refl (s : State) : OnlyReply s s := rfl

theorem OnlyReply.trans {s t u : State} (h1 : OnlyReply s t) (h2 : OnlyReply t u) : OnlyReply s u := by
  unfold OnlyReply at *
  rw [h2, h1]

theorem OnlyEvents.reply {s t : State} (h : OnlyEvents s t) : OnlyReply s t := by
  unfold OnlyEvents at h
  rw [h]
  rfl

theorem forEach_onlyReply {α : Type} {f : α → State → State} (l : List α) (s : State) (h : ∀ a q, OnlyReply q (f a q)) : OnlyReply s (forEach l f s) :=
  forEach_induct (P := OnlyReply s) rfl fun a _ q hq => hq.trans (h a q)

theorem forUpTo_onlyReply {f : Nat → State → State} (n : Nat) (s : State) (h : ∀ i q, OnlyReply q (f i q)) : OnlyReply s (forUpTo n f s) :=
  forUpTo_induct (P := OnlyReply s) n rfl fun i q _ hq => hq.trans (h i q)

theorem cqWrite_onlyReply (s : State) (n tag status opcode : Nat) (r : DWord) : OnlyReply s (cqWrite s n tag status opcode r) :=
  ((pushEntry_onlyEvents ..).trans (raise_onlyEvents ..)).reply

theorem cqPost_onlyReply (s : State) (c : CqWait) : OnlyReply s (cqPost s c) := cqWrite_onlyReply ..

theorem cqKick_onlyReply (s : State) : OnlyReply s (cqKick s) := by
  unfold cqKick
  split
  · exact OnlyReply.trans (t := { s with qe := { s.qe with cqWait := [] } }) rfl (forEach_onlyReply _ _ fun c q => cqPost_onlyReply q c)
  · rfl

theorem hostPost_onlyReply (s : State) (a : Nat) (bs : List Byte) : OnlyReply s (hostPost s a bs) := by
  unfold hostPost
  split <;> rfl

theorem tsFinish_onlyReply (m : Nat) (l : LateBuf) (s : State) : OnlyReply s (tsFinish m l s) := by
  unfold tsFinish; dsimp only
  split
  · exact (hostPost_onlyReply ..).trans (coalCount_onlyEvents ..).reply
  · exact hostPost_onlyReply ..

theorem qe_onlyReply (s : State) (x : QueueEngine) : OnlyReply s { s with qe := x } := rfl
theorem setStrm_onlyReply (s : State) (m : Nat) (t : Stream) : OnlyReply s (setStrm s m t) := rfl
theorem setWin_onlyReply (s : State) (w : Nat) (q : QWin) : OnlyReply s (setWin s w q) := rfl

theorem tsClose_onlyReply (flushed : Bool) (m : Nat) (s : State) : OnlyReply s (tsClose flushed m s) := by
  unfold tsClose
  split
  · rfl
  · dsimp only
    split
    · exact ((setWin_onlyReply ..).trans (setStrm_onlyReply ..)).trans (setStrm_onlyReply ..)
    · exact ((setWin_onlyReply ..).trans (setStrm_onlyReply ..)).trans (tsFinish_onlyReply ..)

theorem tsLate_onlyReply (s : State) : OnlyReply s (tsLate s) :=
  (setStrm_onlyReply s 16 _).trans (forEach_onlyReply _ _ (tsFinish_onlyReply 16))

theorem tsStop_onlyReply (s : State) : OnlyReply s (tsStop s) :=
  (OnlyReply.trans (t := capGiveUp s) rfl (forUpTo_onlyReply 17 _ (tsClose_onlyReply false))).trans (tsLate_onlyReply _)

theorem qeDrain_onlyReply (s : State) : OnlyReply s (qeDrain s) := by
  unfold qeDrain
  split
  · dsimp only
    split
    · exact tsStop_onlyReply s
    · exact ((tsStop_onlyReply s).trans (qe_onlyReply ..)).trans (evUpdate_onlyEvents _).reply
  · rfl

theorem finishHost_onlyReply (s : State) (id sq opcode : Nat) (tag : BitVec 16) (quiet : Bool) (status : Nat) (r : DWord) :
    OnlyReply s (finishHost s id sq opcode tag quiet status r) := by
  unfold finishHost
  split
  · exact (qe_onlyReply ..).trans (cqKick_onlyReply _)
  · rfl

theorem dropUnknown_onlyReply (s : State) : OnlyReply s (dropUnknown s) := by
  unfold dropUnknown
  split
  · rfl
  · exact finishHost_onlyReply ..

theorem dropUnknowns_onlyReply (n : Nat) : ∀ s : State, OnlyReply s (dropUnknowns n s) := by
  induction n with
  | zero => intro s; rfl
  | succ n ih => intro s; exact (dropUnknown_onlyReply s).trans (ih _)

/-- All that completing a command can do. -/
theorem complete_onlyReply (s : State) (t : Ticket) (status : Nat) (r : DWord) : OnlyReply s (complete s t status r) := by
  unfold complete
  split
  · rfl
  · split
    · exact ((finishHost_onlyReply ..).trans (dropUnknowns_onlyReply _ _)).trans (qeDrain_onlyReply _)
    · split <;> rfl

theorem completeAll_onlyReply (s : State) (ts : List Ticket) (status : Nat) (r : DWord) : OnlyReply s (completeAll s ts status r) :=
  forEach_onlyReply _ _ fun t q => complete_onlyReply q t status r

/-- What a completion leaves as it was. -/
theorem OnlyReply.frame {s t : State} (h : OnlyReply s t) :
    t.regs = s.regs ∧ t.otp = s.otp ∧ t.pwr = s.pwr ∧ t.flt = s.flt ∧ t.rc = s.rc ∧ t.seq = s.seq ∧ t.chg = s.chg ∧ t.lp = s.lp ∧ t.ct = s.ct ∧
      t.ox = s.ox ∧ t.nvm = s.nvm ∧ t.rtc = s.rtc ∧ t.pending = s.pending ∧ t.mpSram = s.mpSram ∧ t.flash = s.flash := by
  unfold OnlyReply at h
  rw [h]
  exact ⟨rfl, rfl, rfl, rfl, rfl, rfl, rfl, rfl, rfl, rfl, rfl, rfl, rfl, rfl, rfl⟩

/-- The MP's record of its command, which QUIET suppresses on success (R70, R86). -/
theorem complete_mp (s : State) (op : Nat) (tag : BitVec 16) (quiet : Bool) (status : Nat) (r : DWord) (h : s.flt.rootOverride = false) :
    (complete s (.mp op tag quiet) status r).mp.completions =
      if quiet && status = stSuccess then s.mp.completions
      else s.mp.completions ++ [{ tag := tag, opcode := op, status := status, result := resultOf status r }] := by
  simp only [complete, h, Bool.false_eq_true, if_false]
  split <;> rfl

/-! ### How a command reaches its block -/

/-- A command that cannot arrive changes nothing. -/
theorem command_absent {sp : OpSpec} {rq : Requester} {d : Desc} {act : State → Ticket → State} {s : State} (h : arrive s sp.opcode rq d = none) :
    command sp rq d act s = s := by simp [command, h]

/-- A failed check completes it at once. -/
theorem command_refused {sp : OpSpec} {rq : Requester} {d : Desc} {act : State → Ticket → State} {s q : State} {k : Ticket} {st : Nat}
    (h : arrive s sp.opcode rq d = some (q, k)) (hc : commonCheck q sp rq d = some st) : command sp rq d act s = complete q k st 0 := by
  simp [command, h, hc]

/-- A taken command is its block's. -/
theorem command_taken {sp : OpSpec} {rq : Requester} {d : Desc} {act : State → Ticket → State} {s q : State} {k : Ticket} (h : Taken sp rq d s q k) :
    command sp rq d act s = act q k := by simp [command, h.1, h.2.1, h.2.2]

/-- An MP command arrives with the MP's stores made. -/
theorem arrive_mp {s q : State} {op : Nat} {w : Stores} {d : Desc} {k : Ticket} (h : arrive s op (.mp w) d = some (q, k)) :
    q = sramStores s w ∧ k = .mp op d.tag d.quiet := by
  unfold arrive at h
  dsimp only at h
  split at h
  · simpa [eq_comm] using h
  · simp at h

/-- What a command's arrival leaves as it was: the queue engine and MP SRAM apart, everything. -/
theorem arrive_frame {s q : State} {op : Nat} {rq : Requester} {d : Desc} {k : Ticket} (h : arrive s op rq d = some (q, k)) :
    q = { s with qe := q.qe, mpSram := q.mpSram } := by
  cases rq with
  | mp w =>
    rw [(arrive_mp h).1]
    exact forEach_induct (P := fun q : State => q = { s with qe := q.qe, mpSram := q.mpSram }) rfl fun e _ q hq => by
      rw [hq]; rfl
  | host n =>
    unfold arrive at h
    dsimp only at h
    split at h
    · simp at h
    · split at h
      · split at h
        · simp only [Option.some.injEq, Prod.mk.injEq] at h
          rw [← h.1]
        · simp at h
      · split at h
        · simp at h
        · simp only [Option.some.injEq, Prod.mk.injEq] at h
          rw [← h.1]; rfl

/-! ### A step -/

/-- A step on an empty queue idles. -/
@[simp] theorem step_nil {s : State} (h : s.pending = []) : step s = .next s := by simp [step, h]

/-- A step runs the command in front. -/
theorem step_cons {s : State} {c : Instr} {t : List Instr} (h : s.pending = c :: t) : step s = exec c { s with pending := t } := by simp [step, h]

/-- The table gives no word, so nothing is put in front of the queue. -/
@[simp] theorem withFetchWord_eq (s : State) (n w : Nat) : s.withFetchWord n w = s := rfl

end Sys2Proof.Machine
end

