-- ==== Sys2Proof/Laws/Pack.lean ====
section
/-! SUPPORT. The laws of the BAUTH frames: what an answer with a right CRC is read as. -/

namespace Sys2Proof.Machine

/-- Bytes written least significant first read back as the number. -/
theorem leNat_leBytes : ∀ k v, v < 256 ^ k → leNat (leBytes k v) = v
  | 0, v, h => by simp at h; simp [leBytes, leNat, h]
  | k + 1, v, h => by
    have hv : v / 256 < 256 ^ k := Nat.div_lt_of_lt_mul (by rw [Nat.pow_succ] at h; omega)
    simp only [leBytes, leNat, leNat_leBytes k _ hv, BitVec.toNat_ofNat]
    omega

theorem leBytes_length : ∀ k v, (leBytes k v).length = k
  | 0, _ => rfl
  | k + 1, v => by simp [leBytes, leBytes_length k]

theorem crcStepL16_lt (c : Nat) : crcStepL 16 0x1021 c < 65536 := by
  unfold crcStepL
  have h : c * 2 % 2 ^ 16 < 2 ^ 16 := Nat.mod_lt _ (by decide)
  split
  · exact Nat.xor_lt_two_pow h (by decide)
  · exact h

/-- A CRC-16 fits 2 bytes. -/
theorem crc16_lt (bs : List Byte) : crc16 bs < 65536 := by
  rcases List.eq_nil_or_concat bs with rfl | ⟨l, b, rfl⟩
  · decide
  · simp only [crc16, List.concat_eq_append, List.foldl_append, List.foldl_cons, List.foldl_nil]
    exact crcStepL16_lt _

/-- The answer frame of a STATUS and a payload. -/
def bauthReply (status : Nat) (p : List Byte) : List Byte :=
  let body := leBytes 1 status ++ (leBytes 1 p.length ++ p)
  leBytes 1 0x5A ++ (body ++ leBytes 2 (crc16 body))

/-- A frame with a right CRC is an answer. -/
theorem bauthAnswer_reply (status : Nat) (p : List Byte) (hs : status < 256) (hp : p.length < 256) :
    bauthAnswer (some (bauthReply status p)) = some (status, p) := by
  have hc := crc16_lt (leBytes 1 status ++ (leBytes 1 p.length ++ p))
  have h2 := leNat_leBytes 2 _ hc
  have h2l := leBytes_length 2 (crc16 (leBytes 1 status ++ (leBytes 1 p.length ++ p)))
  generalize hw : leBytes 2 (crc16 (leBytes 1 status ++ (leBytes 1 p.length ++ p))) = w at h2 h2l
  have hn : leField (bauthReply status p) 2 1 = p.length := by simp [bauthReply, leField, leBytes, leNat, Nat.mod_eq_of_lt hp]
  have h0 : leField (bauthReply status p) 0 1 = 0x5A := by simp [bauthReply, leField, leBytes, leNat]
  have h1 : leField (bauthReply status p) 1 1 = status := by simp [bauthReply, leField, leBytes, leNat, Nat.mod_eq_of_lt hs]
  have hl : (bauthReply status p).length = p.length + 5 := by simp [bauthReply, leBytes]
  have hb : ((bauthReply status p).drop 1).take (p.length + 2) = leBytes 1 status ++ (leBytes 1 p.length ++ p) := by
    simp [bauthReply, leBytes]
  have hd : ((bauthReply status p).drop 3).take p.length = p := by simp [bauthReply, leBytes]
  have he : leField (bauthReply status p) (p.length + 3) 2 = crc16 (leBytes 1 status ++ (leBytes 1 p.length ++ p)) := by
    have : (bauthReply status p).drop (p.length + 3) = w := by
      simp only [bauthReply, hw]
      rw [← List.append_assoc, List.drop_left' (by simp [leBytes])]
    rw [leField, this, List.take_of_length_le (by omega), h2]
  simp only [bauthAnswer, hn, h0, h1, hl, hb, hd, he, decide_true, Bool.and_true, if_true]

/-- What CHALLENGE's answer of 8 bytes is read as. -/
theorem packResponse_reply (r : BitVec 64) : packResponse (some (bauthReply 0 (leBytes 8 r.toNat))) = some r := by
  have hl := leBytes_length 8 r.toNat
  have ha := bauthAnswer_reply 0 (leBytes 8 r.toNat) (by decide) (by omega)
  have hv : leNat (leBytes 8 r.toNat) = r.toNat := leNat_leBytes 8 _ r.isLt
  simp [packResponse, bauthPayload, ha, hl, hv]

/-- What IDENT's answer of 16 bytes is read as. -/
theorem packIdent_reply (i : BitVec 128) : packIdent (some (bauthReply 0 (leBytes 16 i.toNat))) = some i := by
  have hl := leBytes_length 16 i.toNat
  have ha := bauthAnswer_reply 0 (leBytes 16 i.toNat) (by decide) (by omega)
  have hv : leNat (leBytes 16 i.toNat) = i.toNat := leNat_leBytes 16 _ i.isLt
  simp [packIdent, bauthPayload, ha, hl, hv]

end Sys2Proof.Machine
end

