-- ==== Sys2Proof/Laws/Reach.lean ====
section
/-! SUPPORT. The reach of the operations that only raise an event of their own, and of a telemetry record. -/

namespace Sys2Proof.Machine

theorem ev5_onlyEvents (s : State) (p kind : Nat) : OnlyEvents s (ev5 s p kind) := raise_onlyEvents ..
theorem ev44_onlyEvents (s : State) (kind : Nat) : OnlyEvents s (ev44 s kind) := raise_onlyEvents ..
theorem ev46_onlyEvents (s : State) (kind : Nat) (src : Source) (reason : Nat) : OnlyEvents s (ev46 s kind src reason) := raise_onlyEvents ..
theorem ev58_onlyEvents (s : State) (kind item : Nat) (v : Int) : OnlyEvents s (ev58 s kind item v) := raise_onlyEvents ..
theorem railEventAs_onlyEvents (s : State) (n : Nat) (st : RailState) (kind sub phases : Nat) (m : Option RailMeas) :
    OnlyEvents s (railEventAs s n st kind sub phases m) := by
  unfold railEventAs; dsimp only
  refine OnlyEvents.trans ?_ (raise_onlyEvents ..)
  split <;> rfl

theorem railEvent_onlyEvents (s : State) (n kind sub phases : Nat) (m : Option RailMeas) : OnlyEvents s (railEvent s n kind sub phases m) :=
  railEventAs_onlyEvents ..

theorem tsOpen_onlyReply (s : State) (m : Nat) (ts : Stamp) : OnlyReply s (tsOpen s m ts) := by
  unfold tsOpen; dsimp only
  split
  · exact (setStrm_onlyReply ..).trans (raise_onlyEvents ..).reply
  · exact setStrm_onlyReply ..

theorem tsDiscard_onlyReply (s : State) (m k : Nat) : OnlyReply s (tsDiscard s m k) := (setWin_onlyReply ..).trans (setStrm_onlyReply ..)

/-- All that reserving room for a record can do. -/
theorem tsReserve_onlyReply (s : State) (m n : Nat) (ts : Stamp) : OnlyReply s (tsReserve s m n ts).1 := by
  unfold tsReserve
  split
  · rfl
  · extract_lets s1 s2
    have h1 : OnlyReply s s1 := by
      unfold s1
      split
      · split
        · rfl
        · exact tsClose_onlyReply ..
      · rfl
    have h2 : OnlyReply s s2 := by
      unfold s2
      split
      · exact h1.trans (tsOpen_onlyReply ..)
      · exact h1
    split
    · exact h2
    · exact h2.trans (setStrm_onlyReply ..)

/-- All that a telemetry record can do. -/
theorem tsRecord_onlyReply (s : State) (m : Nat) (ts : Stamp) (bs : List Byte) : OnlyReply s (tsRecord s m ts bs) := by
  have h := tsReserve_onlyReply s m bs.length ts
  unfold tsRecord
  split
  · next s1 a he => rw [he] at h; exact h.trans (hostPost_onlyReply ..)
  · next s1 he => rw [he] at h; exact h.trans (tsDiscard_onlyReply ..)

end Sys2Proof.Machine
end

