-- ==== Sys2Proof/Tests/Base.lean ====
section
/-! SUPPORT. The states and helpers the witnesses are built from. -/

namespace Sys2Proof.Tests
open Sys2Proof.Machine

/-- A powered block: every domain on, the OTP loaded, the firmware running, the link up, routing open. -/
def powered : State :=
  { State.reset with
    pwr := { Power.reset with doms := Vector.replicate 13 Domain.always, pllRuns := true, startStep := 0, path := .main, vmainQual := true
                              vbakPresent := true, bkpLost := false }
    glb := { Glb.reset with mpRunning := true, otpLoaded := true }
    pcie := { Pcie.reset with perst := false, linkUp := true, busMaster := true }
    evr := { Evr.reset with open_ := true, ranSinceOpen := true, routing := true } }

/-- Queue window `w` enabled with a ring of 16 entries at an address of its own. -/
def withWindow (w : Nat) (s : State) : State :=
  wr (wr s (winBase w) (BitVec.ofNat 32 (0x10000 * (w + 1))) 0xFFFFF000) (winBase w + 8) 0x104 0x10F

/-- A block that takes commands: SQ0 and CQ0 of 16 entries, the queue engine running. -/
def ready : State :=
  let s := withWindow 4 (withWindow 0 { powered with qe := { QueueEngine.reset with running := true } })
  setWin s 4 { win s 4 with phase := true }

/-- The host on SQ0. -/
def h0 : Requester := .host 0
/-- The MP, having stored nothing new. -/
def mp0 : Requester := .mp []
/-- A descriptor with a TARGET, an address and one operand field from bit `lo` of descriptor byte 16. -/
def dsc (target addr : Nat) (ops : List (Nat × Nat × Nat)) : Desc :=
  { Desc.zero with tag := 7, target := BitVec.ofNat 32 target, addr := BitVec.ofNat 64 addr, ops := pack 384 (ops.map fun e => (e.1 - 128, e.2.1, e.2.2)) }

/-- The state in which a command has arrived, and its ticket. -/
def got (sp : OpSpec) (rq : Requester) (d : Desc) (s : State) : State := ((arrive s sp.opcode rq d).getD (s, .mp 0 0 false)).1
def tkt (sp : OpSpec) (rq : Requester) (d : Desc) (s : State) : Ticket := ((arrive s sp.opcode rq d).getD (s, .mp 0 0 false)).2

/-- The state a step answers. -/
def after (o : Host.Outcome State Fault Refusal) : State := match o with | .next t => t | _ => State.reset
def goesOn (o : Host.Outcome State Fault Refusal) : Bool := match o with | .next _ => true | _ => false

theorem steps {o : Host.Outcome State Fault Refusal} (h : goesOn o = true) : o = .next (after o) := by
  cases o with
  | next t => rfl
  | fault r => cases h
  | refused r => cases h

/-- What a parser answered. -/
def okOf {α : Type} (x : Except Nat α) : Option α := match x with | .ok v => some v | .error _ => none
def errorOf {α : Type} (x : Except Nat α) : Option Nat := match x with | .ok _ => none | .error e => some e

theorem parse_ok {α : Type} {x : Except Nat α} {v : α} (h : okOf x = some v) : x = .ok v := by
  cases x with
  | ok w => cases h; rfl
  | error e => cases h

theorem parse_error {α : Type} {x : Except Nat α} {e : Nat} (h : errorOf x = some e) : x = .error e := by
  cases x with
  | ok w => cases h
  | error f => cases h; rfl

/-- A fact of every node of every capture of a list. -/
theorem all_nodes {l : List Capture} {R : Capture → CapNode → Prop} (h : ∀ x ∈ l, ∀ y ∈ x.nodes, R x y) :
    ∀ x y, x ∈ l → y ∈ x.nodes → R x y := fun x y hx hy => h x hx y hy

/-- A command that can arrive does. -/
theorem arrives {op : OpSpec} {rq : Requester} {d : Desc} {s : State} (h : (arrive s op.opcode rq d).isSome = true) :
    arrive s op.opcode rq d = some (got op rq d s, tkt op rq d s) := by
  cases e : arrive s op.opcode rq d with
  | none => rw [e] at h; cases h
  | some x => simp [got, tkt, e]

/-- A command that arrives and passes the common checks is taken. -/
theorem taken {sp : OpSpec} {rq : Requester} {d : Desc} {s : State} (h : (arrive s sp.opcode rq d).isSome = true)
    (c : commonCheck (got sp rq d s) sp rq d = none) (w : hostWaits (got sp rq d s) sp rq = false := by decide) :
    Taken sp rq d s (got sp rq d s) (tkt sp rq d s) := by
  exact ⟨arrives h, c, w⟩

end Sys2Proof.Tests
end

