-- ==== Sys2Proof/Tests/Common.lean ====
section
/-! SUPPORT. Witnesses of the statements on reset, the queue and the checks common to all commands: states and operands that meet each clause. -/

namespace Sys2Proof.Tests
open Sys2Proof.Machine
set_option exponentiation.threshold 30000
set_option Elab.async false

/-- A state with the command in front of the queue. -/
def queued (c : Instr) (s : State) : State := { s with pending := [c] }
/-- The fault state, as the sources leave it: SAFE_N asserted. -/
def faulted (s : State) : State := { s with flt := { s.flt with faultState := true, safeN := true } }
def nopD : Desc := dsc 0 0 []
def quietD : Desc := { nopD with quiet := true }
def fenceD : Desc := { nopD with rsv := 1 }
def railD : Desc := dsc 3 0 [(128, 16, 1000)]
def reverseD : Desc := dsc 0 0 [(128, 1, 1)]
def resetD : Desc := dsc 0 0 [(128, 32, 0xC41F0A5E)]
/-- A Goose chip restart that need not wait. -/
def restart0 : Restart := { g0 := true, g1 := false, waitDown := false }
def restart1 : Restart := { g0 := true, g1 := true, waitDown := true }
def restarting : State := { ready with restart := some restart0 }
/-- A restart that waited for the end of the down sequence. -/
def restartAfterDown : State := { ready with restart := some restart1, seq := { Seq.reset with state := .down } }
def noVrtc : State := { ready with pwr := { ready.pwr with vrtcOk := false } }
def noVsys : State := { ready with pwr := { ready.pwr with vsysOk := false } }
def heldLow : State := { ready with pwr := { ready.pwr with resetLow := true } }
/-- The always-on supply gone. -/
def unpowered : State := after (exec (.powerOnReset none) ready)
def linkedUp : State := { ready with wakeMp := true, seq := { ready.seq with wdiPulse := true } }
/-- The root clocks stopped by the override. -/
def rootOff : State := { ready with flt := { ready.flt with rootOverride := true } }
def noRegcA : State := { ready with pwr := { ready.pwr with doms := vput ready.pwr.doms 10 (Domain.init .off) } }
/-- Every domain of a save as the save leaves it. -/
def parkedDoms : State := { ready with pwr := { ready.pwr with doms := saveDoms.foldl (fun d e => vput d e.1 (Domain.init e.2)) ready.pwr.doms } }
def oscMove : DomMove := { req := { target := .on, byMp := false, ticket := none, byHost := false }, stage := 2, failed := 0, fromOff := true }
/-- PD_MP on its way to on, at the clock stage of the start-up. -/
def oscWaits : State :=
  { State.reset with pwr := { Power.reset with startStep := 5, doms := vput initDomains 3 { Domain.init .on with regRdy := true, move := some oscMove } } }
/-- The OTP load is all that is left of the start-up. -/
def otpWaits : State := { powered with pwr := { powered.pwr with startStep := 6 }, glb := { Glb.reset with otpLoaded := false } }

theorem witness_StepShortensQueue : step (queued Instr.brownOut ready) = Host.Outcome.next (after (step (queued Instr.brownOut
  ready))) := steps (by decide)

theorem witness_MemoryStaysCanonical : (queued (Instr.nop h0 nopD) ready).memWf ∧ step (queued (Instr.nop h0 nopD) ready) =
  Host.Outcome.next (after (step (queued (Instr.nop h0 nopD) ready))) := ⟨by unfold State.memWf; decide, steps (by decide)⟩

theorem witness_FaultStateLasts : (queued Instr.aliveEdge (faulted ready)).pending = [Instr.aliveEdge] ∧ resetRow
  Instr.aliveEdge = false ∧ (queued Instr.aliveEdge (faulted ready)).flt.faultState = true ∧ step (queued Instr.aliveEdge
  (faulted ready)) = Host.Outcome.next (after (step (queued Instr.aliveEdge (faulted ready)))) := ⟨by decide, by decide,
  by decide, steps (by decide)⟩

theorem witness_SafeOutputHeld : ((queued Instr.aliveEdge (faulted ready)).flt.faultState = true → (queued Instr.aliveEdge
  (faulted ready)).flt.safeN = true) ∧ step (queued Instr.aliveEdge (faulted ready)) = Host.Outcome.next (after (step (queued
  Instr.aliveEdge (faulted ready)))) ∧ (after (step (queued Instr.aliveEdge (faulted ready)))).flt.faultState = true :=
  ⟨by decide, steps (by decide), by decide⟩

theorem witness_CommonChecksComeFirst :
  (cmdOf (Instr.nop h0 nopD) = some (specNop, h0, nopD) ∧ arrive Tests.powered specNop.opcode h0 nopD = none) ∧
  (cmdOf (Instr.nop h0 fenceD) = some (specNop, h0, fenceD) ∧ arrive ready specNop.opcode h0 fenceD = some (got specNop h0
    fenceD ready, tkt specNop h0 fenceD ready) ∧ commonCheck (got specNop h0 fenceD ready) specNop h0 fenceD = some
    stInvalidField) :=
  ⟨(by decide), ⟨by decide, arrives (by decide), by decide⟩⟩

theorem witness_MpMayNotSubmit : cmdOf (Instr.ctAttach mp0 nopD false []) = some (specCtAttach, Requester.mp [], nopD) ∧ arrive
  ready specCtAttach.opcode (Requester.mp []) nopD = some (got specCtAttach mp0 nopD ready, tkt specCtAttach mp0 nopD ready) ∧
  goodForm specCtAttach nopD ∧ specCtAttach.opcode ∈ [1, 16, 17, 18, 19, 20, 21, 34, 40, 41, 48, 49, 64, 66, 74, 105, 106, 107,
  128, 129, 136, 137] := ⟨by decide, arrives (by decide), by unfold goodForm; decide, by decide⟩

theorem witness_FaultStateRefuses :
  (cmdOf (Instr.railSetVoltage h0 railD) = some (specRailSetVoltage, h0, railD) ∧ specRailSetVoltage.opcode ∈ [64, 65, 66, 72] ∧
    arrive (faulted ready) specRailSetVoltage.opcode h0 railD = some (got specRailSetVoltage h0 railD (faulted ready), tkt
    specRailSetVoltage h0 railD (faulted ready)) ∧ goodForm specRailSetVoltage railD ∧ (reqIsMp h0 = true →
    specRailSetVoltage.mpOk = true) ∧ (∀ (j : Nat), specRailSetVoltage.dom = some j → domOn (got specRailSetVoltage h0 railD
    (faulted ready)) j = true) ∧ (got specRailSetVoltage h0 railD (faulted ready)).flt.faultState = true) ∧
  (∃ q k, Taken specChgReverse h0 reverseD (faulted ready) q k ∧ opn reverseD 16 0 1 = 1 ∧ q.flt.faultState = true) :=
  ⟨⟨by decide, by decide, arrives (by decide), by unfold goodForm; decide, by decide, (fun j h => by cases h; decide),
    by decide⟩, ⟨_, _, taken (by decide) (by decide), by decide⟩⟩

theorem witness_NopCompletes :
  (∃ q k, Taken specNop h0 nopD ready q k) ∧
  (∃ q k, Taken specNop (Requester.host 0) nopD ready q k ∧ canMaster ready = true ∧ ready.qe.inflight = [] ∧ ready.qe.cqWait =
    [] ∧ nopD.quiet = false ∧ ready.evr.routing = true ∧ flag ready (45312 + 4 * 0) 8 = false ∧ flag ready (45312 + 4 * 0) 9 =
    false) ∧
  (∃ q k, Taken specNop (Requester.host 0) quietD ready q k ∧ canMaster ready = true ∧ ready.qe.inflight = [] ∧ ready.qe.cqWait
    = [] ∧ quietD.quiet = true) ∧
  (∃ q k, Taken specNop (Requester.mp []) nopD ready q k ∧ nopD.quiet = false) :=
  ⟨⟨_, _, taken (by decide) (by decide)⟩, ⟨_, _, taken (by decide) (by decide), by decide⟩, ⟨_, _, taken (by decide)
    (by decide), by decide⟩, ⟨_, _, taken (by decide) (by decide), by decide⟩⟩

theorem witness_ResetsRecordCause :
  (∃ q k, Taken specChipReset h0 resetD ready q k ∧ opn resetD 16 0 32 = 3290368606) ∧
  (ready.pwr.vsysOk = true) ∧
  (ready.pwr.resetLow = false ∧ Machine.powered ready = true ∧ noVsys.pwr.resetLow = false ∧ Machine.powered noVsys = true) ∧
  (restarting.restart = some restart0 ∧ (restart0.waitDown = false ∨ restarting.seq.state ≠ SeqState.upRunning ∧
    restarting.seq.state ≠ SeqState.up ∧ restarting.seq.state ≠ SeqState.downRunning)) ∧
  (restartAfterDown.restart = some restart1 ∧ (restart1.waitDown = false ∨ restartAfterDown.seq.state ≠ SeqState.upRunning ∧
    restartAfterDown.seq.state ≠ SeqState.up ∧ restartAfterDown.seq.state ≠ SeqState.downRunning)) :=
  ⟨⟨_, _, taken (by decide) (by decide), by decide⟩, (by decide), (by decide), (by decide), (by decide)⟩

theorem witness_PowerOnReset :
  (Machine.powered ready = true) ∧
  (Machine.powered unpowered = false ∧ (Instr.powerOnReset none = Instr.powerOnReset none ∨ (∃ a b, Instr.powerOnReset none =
    Instr.vmainLow a b) ∨ (∃ a b, Instr.powerOnReset none = Instr.vmainOv a b) ∨ (∃ a b, Instr.powerOnReset none =
    Instr.vbakLost a b) ∨ (∃ a b, Instr.powerOnReset none = Instr.vbakPresent a b) ∨ (∃ a b u, Instr.powerOnReset none =
    Instr.vmainQualGained a b u) ∨ (∃ a b, Instr.powerOnReset none = Instr.vmainQualLost a b) ∨ (∃ a b u, Instr.powerOnReset
    none = Instr.returnTimerExpiry a b u) ∨ Instr.powerOnReset none = Instr.vsysStartAfterBrownOut)) :=
  ⟨(by decide), ⟨by decide, (Or.inl rfl)⟩⟩

theorem witness_PinLevels_1 :
  (ready.pwr.vsysOk = true) ∧
  (ready.pwr.resetLow = false ∧ Machine.powered ready = true ∧ noVsys.pwr.resetLow = false ∧ Machine.powered noVsys = true) ∧
  (∃ q k, Taken specChipReset h0 resetD linkedUp q k ∧ opn resetD 16 0 32 = 3290368606) ∧
  (Machine.powered rootOff = true ∧ rootOff.flt.rootOverride = true) ∧
  (Machine.powered ready = true ∧ ready.flt.rootOverride = false) :=
  ⟨(by decide), (by decide), ⟨_, _, taken (by decide) (by decide), by decide⟩, (by decide), (by decide)⟩

theorem witness_PinLevels_2 :
  (Machine.powered ready = true) ∧
  (Machine.powered unpowered = false) ∧
  ((∀ (e : Nat × DomState), e ∈ saveDoms → (dom parkedDoms e.fst).state = e.snd ∨ (dom parkedDoms e.fst).state = DomState.off)) :=
  ⟨(by decide), (by decide), (by decide)⟩

theorem witness_StartUp :
  (noVsys.pwr.vsysOk = false ∧ Machine.powered noVsys = true) ∧
  (heldLow.pwr.resetLow = true) ∧
  ((dom oscWaits 3).move = some oscMove ∧ oscWaits.pwr.startStep = 5 ∧ oscMove.req.target = DomState.on ∧ oscMove.failed = 0 ∧
    oscMove.stage = 2) ∧
  (otpWaits.pwr.startStep = 6 ∧ domOn otpWaits 3 = true ∧ rootAlive otpWaits = true ∧ otpWaits.glb.otpLoaded = false) :=
  ⟨(by decide), (by decide), (by decide), (by decide)⟩

end Sys2Proof.Tests
end

