-- ==== Sys2Proof/Tests/Host.lean ====
section
/-! SUPPORT. Witnesses of the statements on the host interface and the registers: states and operands that meet each clause. -/

namespace Sys2Proof.Tests
open Sys2Proof.Machine
set_option exponentiation.threshold 30000
set_option Elab.async false

/-- The link of a running engine with a command outstanding. -/
def busy : State := after (exec (.powerState h0 (dsc 10 0 [(128, 2, 2)])) ready)
def linkTrains : State := { powered with pcie := { powered.pcie with linkUp := false, training := true } }
/-- PERST_N asserted, PD_PCIE off. -/
def pcieOff : State :=
  { powered with pcie := { powered.pcie with linkUp := false, perst := true }
                 pwr := { powered.pwr with doms := vput powered.pwr.doms 5 (Domain.init .off) } }
def inReset : State := { powered with pcie := { powered.pcie with linkUp := false, perst := true } }
/-- The queue engine configured, not running; `bad` gives SQ0 a depth below 16. -/
def stopped : State := { ready with qe := { ready.qe with running := false } }
def shallow : State := wr stopped (winBase 0 + 8) 0x103 0x10F
/-- SQ0 holds two descriptors, the first a NOP. -/
def twoInSq : State := setWin ready 0 { win ready 0 with tail := 2 }
def heldTwo : State := setWin (withWindow 9 ready) 9 { QWin.reset with tail := 3 }
def coalesced : State := { ready with evr := { ready.evr with coal := [(3, 2)] } }
/-- MSI-X enabled, vector 3 unmasked at an address. -/
def msixOn : State :=
  { coalesced with pcie := { coalesced.pcie with msixEnable := true, msix := vput coalesced.pcie.msix 3 { addr := 0xFEE00000, data := 0x41, masked := false } } }
def noCore : State := { ready with pwr := { ready.pwr with doms := vput ready.pwr.doms 4 (Domain.init .off) } }
def noRegc : State := { ready with pwr := { ready.pwr with doms := vput ready.pwr.doms 10 (Domain.init .off) } }
def noChg : State := { ready with pwr := { ready.pwr with doms := vput ready.pwr.doms 11 (Domain.init .off) } }
def noMp : State := { ready with pwr := { ready.pwr with doms := vput ready.pwr.doms 3 (Domain.init .off) } }
def cycling : State := { ready with lp := { ready.lp with running := true } }
def debugging : State := { ready with otp := { ready.otp with debugOpen := true } }
/-- The sideband port may write; its pointer at an offset. -/
def sbAt (off : Nat) : State :=
  let s := wr ready 0x10 0x3 0x3
  { s with sb := { s.sb with pointer := BitVec.ofNat 16 off, outMsg := some [1, 2] } }
def shadowed : State := { ready with regs := { ready.regs with shadow := [(0x3004, 100)] } }
/-- The sideband port with its PEC chosen in the OTP. -/
def pecOn : State := { sbAt 0xE010 with otp := { (sbAt 0xE010).otp with items := [(1, 0x15C)] } }
def noBytes : List Byte := []
def rootLost : State := { ready with flt := { ready.flt with rootOverride := true } }
def inBusy : State := { ready with sb := { ready.sb with inMsg := some [5] } }

/-- The OTP load not done yet. -/
def loading : State := { ready with glb := { ready.glb with otpLoaded := false } }
/-- Doorbells written while the queue engine stands: in range, at the depth, and for a queue that is not enabled. -/
def rung : State := after (exec (.sqTailDoorbell 0 15 []) stopped)
def rungHigh : State := after (exec (.sqTailDoorbell 0 16 []) stopped)
def rungOther : State := after (exec (.sqTailDoorbell 1 1 []) stopped)
def rungHead : State := after (exec (.cqHeadDoorbell 0 1) stopped)

theorem witness_PcieResets :
  (ready.pcie.perst = false) ∧
  ((ready.pcie.linkUp = true ∨ ready.pcie.training = true)) ∧
  ((linkTrains.pcie.linkUp = true ∨ linkTrains.pcie.training = true)) ∧
  (domOn busy 5 = true ∧ busy.pcie.linkUp = true ∧ busy.glb.otpLoaded = true) ∧
  (domOn loading 5 = true ∧ loading.pcie.linkUp = true ∧ loading.glb.otpLoaded = false) :=
  ⟨(by decide), (by decide), (by decide), (by decide), (by decide)⟩

theorem witness_LinkComesUp :
  ((dom inReset 5).state = DomState.on) ∧
  ((dom pcieOff 5).state = DomState.off ∧ (dom pcieOff 5).move = none ∧ mpRising pcieOff = true ∧ startBarred pcieOff 5 = false) ∧
  (linkTrains.pcie.training = true ∧ domOn linkTrains 5 = true) ∧
  (domOn ready 5 = true ∧ ready.pcie.linkUp = true ∧ ready.glb.otpLoaded = true) ∧
  (domOn linkTrains 5 = false ∨ linkTrains.pcie.linkUp = false) :=
  ⟨(by decide), (by decide), (by decide), (by decide), (by decide)⟩

theorem witness_QueueEngineStarts :
  (qeReach (hostStores stopped [(65536, [1#8, 2#8, 3#8])]) Via.host = true ∧ (hostStores stopped [(65536, [1#8, 2#8,
    3#8])]).pcie.perst = false ∧ (hostStores stopped [(65536, [1#8, 2#8, 3#8])]).qe.running = false ∧ (∀ (n : Nat), n < 26 →
    winEnabled (hostStores stopped [(65536, [1#8, 2#8, 3#8])]) n = true → (4 ≤ fld (hostStores stopped [(65536, [1#8, 2#8,
    3#8])]) (winBase n + 8) 0 4 ∧ fld (hostStores stopped [(65536, [1#8, 2#8, 3#8])]) (winBase n + 8) 0 4 ≤ 12) ∧ (9 ≤ n → 12 ≤
    fld (hostStores stopped [(65536, [1#8, 2#8, 3#8])]) (winBase n + 8) 16 5 ∧ fld (hostStores stopped [(65536, [1#8, 2#8,
    3#8])]) (winBase n + 8) 16 5 ≤ 21))) ∧
  (qeReach (hostStores shallow []) Via.mp = true ∧ (hostStores shallow []).pcie.perst = false ∧ (hostStores shallow
    []).qe.running = false ∧ (∃ n, n < 26 ∧ ¬(winEnabled (hostStores shallow []) n = true → (4 ≤ fld (hostStores shallow [])
    (winBase n + 8) 0 4 ∧ fld (hostStores shallow []) (winBase n + 8) 0 4 ≤ 12) ∧ (9 ≤ n → 12 ≤ fld (hostStores shallow [])
    (winBase n + 8) 16 5 ∧ fld (hostStores shallow []) (winBase n + 8) 16 5 ≤ 21)))) :=
  ⟨⟨by decide, by decide, by decide, (by decide)⟩, ⟨by decide, by decide, by decide, ⟨0, by decide⟩⟩⟩

theorem witness_QueueEngineStopsAndFetches :
  (qeReach ready Via.host = true ∧ ready.pcie.perst = false ∧ ready.qe.running = true ∧ ready.qe.inflight = [] ∧ ready.qe.cqWait
    = [] ∧ canMaster ready = true ∧ ready.pcie.posted = []) ∧
  (qeReach inReset Via.mp = true ∧ inReset.pcie.perst = true) ∧
  (qeReach busy Via.mp = true ∧ busy.pcie.perst = false ∧ busy.qe.running = true ∧ busy.qe.inflight ≠ [] ∧ (∀ (i : InFlight), i
    ∈ busy.qe.inflight → i.opcode ∈ knownOpcodes)) ∧
  ((domOn twoInSq 4 = true ∧ rootAlive twoInSq = true ∧ twoInSq.qe.running = true ∧ twoInSq.qe.stopping = false ∧ canMaster
    twoInSq = true) ∧ nextSq twoInSq = some 0 ∧ (∀ (i : InFlight), i ∈ twoInSq.qe.inflight → i.opcode ∈ knownOpcodes) ∧ bitsOf
    (BitVec.ofNat 512 (leNat (hostRead twoInSq (winAddr twoInSq 0 + 64 * (win twoInSq 0).head.toNat) 64))) 0 8 ∈ knownOpcodes) ∧
  ((domOn twoInSq 4 = true ∧ rootAlive twoInSq = true ∧ twoInSq.qe.running = true ∧ twoInSq.qe.stopping = false ∧ canMaster
    twoInSq = true) ∧ nextSq twoInSq = some 0) :=
  ⟨(by decide), (by decide), (by decide), (by decide), (by decide)⟩

/-- Recorded doorbells at the start. -/
theorem witness_QueueEngineStarts_2 :
  ((win rung 0).recorded = true ∧ winEnabled rung 0 = true ∧ (win rung 0).tail.toNat < winDepth rung 0) ∧
  ((win rungHigh 0).recorded = true ∧ winEnabled rungHigh 0 = true ∧ winDepth rungHigh 0 ≤ (win rungHigh 0).tail.toNat) ∧
  ((win rungOther 1).recorded = true ∧ winEnabled rungOther 1 = false) ∧
  ((win rungHead 4).recorded = true ∧ winEnabled rungHead 4 = true ∧ (win rungHead 4).head ≠ 0) ∧
  (∀ s ∈ [rung, rungHigh, rungOther, rungHead], qeReach s .host = true ∧ s.pcie.perst = false ∧ s.qe.running = false) := by decide

/-- A doorbell while the queue engine runs, and while it stands. -/
theorem witness_Doorbells_4 :
  (doorbellReach stopped = true ∧ stopped.qe.running = false ∧ 4096 ≤ (4096#32).toNat ∧ (4095#32).toNat < 4096) ∧
  (doorbellReach ready = true ∧ ready.qe.running = true ∧ winEnabled ready 0 = true ∧ (15#32).toNat < winDepth ready 0 ∧
    winDepth ready 0 ≤ (16#32).toNat ∧ winEnabled ready 1 = false) := by decide

theorem witness_Doorbells_1 :
  (doorbellReach (hostStores noCore []) = false) ∧
  (doorbellReach (hostStores ready []) = true ∧ (winEnabled (hostStores ready []) 0 = false ∨ winDepth (hostStores ready []) 0 ≤
    (16#32).toNat ∨ (hostStores ready []).qe.running = true ∧ False)) ∧
  (doorbellReach (hostStores ready []) = true ∧ (winEnabled (hostStores ready []) 1 = false ∨ winDepth (hostStores ready []) 1 ≤
    (1#32).toNat ∨ (hostStores ready []).qe.running = true ∧ False)) ∧
  (doorbellReach (hostStores ready [(65536, [1#8, 2#8])]) = true ∧ winEnabled (hostStores ready [(65536, [1#8, 2#8])]) 0 = true
    ∧ (15#32).toNat < winDepth (hostStores ready [(65536, [1#8, 2#8])]) 0 ∧ ((hostStores ready [(65536, [1#8, 2#8])]).qe.running
    = true → ¬False)) ∧
  (doorbellReach noCore = false) :=
  ⟨(by decide), (by decide), (by decide), (by decide), (by decide)⟩

theorem witness_Doorbells_2 :
  (doorbellReach ready = true ∧ (winEnabled ready (4 + 0) = false ∨ winDepth ready (4 + 0) ≤ (1#32).toNat ∨ ready.qe.running =
    true ∧ ringDiff (winDepth ready (4 + 0)) (win ready (4 + 0)).tail (win ready (4 + 0)).head < ringDiff (winDepth ready (4 +
    0)) (BitVec.setWidth 12 1#32) (win ready (4 + 0)).head)) ∧
  (doorbellReach twoInSq = true ∧ winEnabled twoInSq (4 + 0) = true ∧ (0#32).toNat < winDepth twoInSq (4 + 0) ∧
    (twoInSq.qe.running = true → ¬ringDiff (winDepth twoInSq (4 + 0)) (win twoInSq (4 + 0)).tail (win twoInSq (4 + 0)).head <
    ringDiff (winDepth twoInSq (4 + 0)) (BitVec.setWidth 12 0#32) (win twoInSq (4 + 0)).head)) ∧
  (doorbellReach noCore = false) ∧
  (doorbellReach ready = true ∧ (winEnabled ready 8 = false ∨ winDepth ready 8 ≤ (0#32).toNat ∨ ready.qe.running = true ∧
    ringDiff (winDepth ready 8) (win ready 8).tail (win ready 8).head < ringDiff (winDepth ready 8) (BitVec.setWidth 12 0#32)
    (win ready 8).head)) ∧
  (doorbellReach (withWindow 8 ready) = true ∧ (winEnabled (withWindow 8 ready) 8 = false ∨ winDepth (withWindow 8 ready) 8 ≤
    (1#32).toNat ∨ (withWindow 8 ready).qe.running = true ∧ ringDiff (winDepth (withWindow 8 ready) 8) (win (withWindow 8 ready)
    8).tail (win (withWindow 8 ready) 8).head < ringDiff (winDepth (withWindow 8 ready) 8) (BitVec.setWidth 12 1#32) (win
    (withWindow 8 ready) 8).head)) :=
  ⟨(by decide), (by decide), (by decide), (by decide), (by decide)⟩

theorem witness_Doorbells_3 :
  (doorbellReach (withWindow 8 ready) = true ∧ winEnabled (withWindow 8 ready) 8 = true ∧ (0#32).toNat < winDepth (withWindow 8
    ready) 8 ∧ ((withWindow 8 ready).qe.running = true → ¬ringDiff (winDepth (withWindow 8 ready) 8) (win (withWindow 8 ready)
    8).tail (win (withWindow 8 ready) 8).head < ringDiff (winDepth (withWindow 8 ready) 8) (BitVec.setWidth 12 0#32) (win
    (withWindow 8 ready) 8).head)) ∧
  (doorbellReach noCore = false) ∧
  (doorbellReach ready = true ∧ (winEnabled ready (9 + 16) = false ∨ winDepth ready (9 + 16) ≤ (0#32).toNat ∨ ready.qe.running =
    true ∧ ringDiff (winDepth ready (9 + 16)) (BitVec.setWidth 12 0#32) (win ready (9 + 16)).head < ringDiff (winDepth ready (9
    + 16)) (win ready (9 + 16)).tail (win ready (9 + 16)).head)) ∧
  (doorbellReach (withWindow 25 ready) = true ∧ winEnabled (withWindow 25 ready) (9 + 16) = true ∧ (15#32).toNat < winDepth
    (withWindow 25 ready) (9 + 16) ∧ ((withWindow 25 ready).qe.running = true → ¬ringDiff (winDepth (withWindow 25 ready) (9 +
    16)) (BitVec.setWidth 12 15#32) (win (withWindow 25 ready) (9 + 16)).head < ringDiff (winDepth (withWindow 25 ready) (9 +
    16)) (win (withWindow 25 ready) (9 + 16)).tail (win (withWindow 25 ready) (9 + 16)).head)) ∧
  (doorbellReach heldTwo = true ∧ (winEnabled heldTwo (9 + 0) = false ∨ winDepth heldTwo (9 + 0) ≤ (2#32).toNat ∨
    heldTwo.qe.running = true ∧ ringDiff (winDepth heldTwo (9 + 0)) (BitVec.setWidth 12 2#32) (win heldTwo (9 + 0)).head <
    ringDiff (winDepth heldTwo (9 + 0)) (win heldTwo (9 + 0)).tail (win heldTwo (9 + 0)).head)) :=
  ⟨(by decide), (by decide), (by decide), (by decide), (by decide)⟩

theorem witness_EventRoutingRegisters_1 :
  (evrReach ready Via.host = true) ∧
  (evrReach ready Via.mp = true) ∧
  (evrReach ready Via.mp = true) ∧
  (evrReach ready Via.host = true) ∧
  (Via.mp ≠ Via.sideband ∧ viaReach ready Via.mp = true ∧ domOn ready 4 = true) :=
  ⟨(by decide), (by decide), (by decide), (by decide), (by decide)⟩

theorem witness_EventRoutingRegisters_2 :
  (domOn coalesced 4 = true ∧ rootAlive coalesced = true ∧ (coalesced.evr.coal.get? 3).isSome = true) ∧
  (domOn msixOn 4 = true ∧ rootAlive msixOn = true ∧ (msixOn.evr.coal.get? 3).isSome = true) :=
  ⟨(by decide), (by decide)⟩

theorem witness_UnpoweredRegisters_1 :
  (viaReach noRegc Via.mp = true ∧ (16384#16).toNat % 4 = 0 ∧ regDomain (16384#16).toNat = some 10 ∧ domOn noRegc 10 = false) ∧
  (viaReach noCore Via.host = true ∧ domOn noCore 4 = false) ∧
  (viaReach noCore Via.mp = true ∧ domOn noCore 4 = false ∧ Via.mp ≠ Via.sideband) ∧
  (viaReach noRegc Via.sideband = true ∧ domOn noRegc 10 = false) ∧
  (viaReach noChg Via.host = true ∧ domOn noChg 11 = false) :=
  ⟨(by decide), (by decide), (by decide), (by decide), (by decide)⟩

theorem witness_UnpoweredRegisters_2 : viaReach noMp Via.host = true ∧ domOn noMp 3 = false := by decide

theorem witness_RegisterAccess_1 :
  (hostReach ready = true ∧ (true = false ∨ (258#16).toNat % 4 ≠ 0)) ∧
  (hostReach ready = true ∧ (false = false ∨ (256#16).toNat % 4 ≠ 0)) ∧
  (viaReach ready Via.host = true ∧ (57348#16).toNat % 4 = 0 ∧ regOn ready (57348#16).toNat = true ∧ (Via.host = Via.sideband →
    sbWindow (57348#16).toNat % 2 = 1)) ∧
  (viaReach ready Via.sideband = true ∧ (57348#16).toNat % 4 = 0 ∧ regOn ready (57348#16).toNat = true ∧ (Via.sideband =
    Via.sideband → sbWindow (57348#16).toNat % 2 = 1)) ∧
  (hostReach ready = true) :=
  ⟨(by decide), (by decide), (by decide), (by decide), (by decide)⟩

theorem witness_RegisterAccess_2 :
  (Via.mp ≠ Via.sideband ∧ viaReach ready Via.mp = true) ∧
  (Via.host ≠ Via.sideband ∧ viaReach ready Via.host = true ∧ 32 ≤ (32#16).toNat ∧ (32#16).toNat < 4096 ∧ (32#16).toNat % 4 = 0) ∧
  (Via.host ≠ Via.sideband ∧ viaReach ready Via.host = true ∧ 32 ≤ (4092#16).toNat ∧ (4092#16).toNat < 4096 ∧ (4092#16).toNat %
    4 = 0) ∧
  (viaReach ready Via.mp = true) ∧
  (viaReach ready Via.host = true) :=
  ⟨(by decide), (by decide), (by decide), (by decide), (by decide)⟩

theorem witness_RegisterAccess_3 :
  (hostReach ready = true) ∧
  (Via.host ≠ Via.sideband ∧ viaReach debugging Via.host = true ∧ 61444 ≤ (61444#16).toNat ∧ (61444#16).toNat % 4 = 0) ∧
  (Via.mp ≠ Via.sideband ∧ viaReach ready Via.mp = true ∧ 61444 ≤ (65532#16).toNat ∧ (65532#16).toNat % 4 = 0) :=
  ⟨(by decide), (by decide), (by decide)⟩

/-- Reads of SEQ_CLOCK and of GOOSE0_TIME while they count. -/
theorem witness_RegisterAccess_4 :
  (let s := { ready with seq := { ready.seq with started := true, us := 100 } };
    viaReach s .host = true ∧ (0x5010#16).toNat % 4 = 0 ∧ regOn s 0x5010 = true ∧ s.seq.started = true ∧ s.seq.us ≤ 200) ∧
  (let s := { ready with goose0 := { Goose.reset with started := true, period := 100, t := 10 } };
    viaReach s .mp = true ∧ regOn s 0x7110 = true ∧ gooseCounts s 0 = true ∧ s.goose0.t ≤ 8000 ∧ 8000 < expiryAt s.goose0) := by decide

theorem witness_ChangeClasses_1 :
  (Via.host ≠ Via.sideband ∧ viaReach cycling Via.host = true ∧ (cycling.lp.running = true ∨ flag cycling 12288 0 = true)) ∧
  (Via.mp ≠ Via.sideband ∧ viaReach ready Via.mp = true ∧ ready.lp.running = false ∧ flag ready 12288 0 = false) ∧
  (Via.mp ≠ Via.sideband ∧ viaReach cycling Via.mp = true) ∧
  (Via.mp ≠ Via.sideband ∧ viaReach cycling Via.mp = true) ∧
  (Via.host ≠ Via.sideband ∧ viaReach cycling Via.host = true ∧ bitOf (3#32) 1 = true ∧ cycling.lp.running = true) :=
  ⟨(by decide), (by decide), (by decide), (by decide), (by decide)⟩

theorem witness_ChangeClasses_2 :
  (Via.host ≠ Via.sideband ∧ viaReach cycling Via.host = true ∧ cycling.lp.running = true ∧ bitOf (1#32) 1 = false) ∧
  (Via.host ≠ Via.sideband ∧ viaReach ready Via.host = true ∧ ready.lp.running = false ∧ bitOf (1#32) 1 = false ∧
    ready.regs.late = [] ∧ ready.regs.captured = []) ∧
  (Via.mp ≠ Via.sideband ∧ viaReach shadowed Via.mp = true ∧ shadowed.lp.running = false ∧ bitOf (2#32) 1 = true ∧
    shadowed.lp.commit = false ∧ shadowed.regs.late = [] ∧ shadowed.regs.captured = [] ∧ shadowed.regs.shadow = [(12292,
    100#32)]) ∧
  (Via.host ≠ Via.sideband ∧ viaReach cycling Via.host = true ∧ cycling.lp.running = true) ∧
  (Via.mp ≠ Via.sideband ∧ viaReach ready Via.mp = true ∧ domOn ready 4 = true ∧ rootAlive ready = true ∧ bitOf (3#32) 1 = true
    ∧ ready.ox.commit = false) :=
  ⟨(by decide), (by decide), (by decide), (by decide), (by decide)⟩

theorem witness_ChangeClasses_3 : Via.mp ≠ Via.sideband ∧ viaReach ready Via.mp = true ∧ domOn ready 11 = true ∧ rootAlive ready
  = true := by decide

theorem witness_SidebandRegisters_1 :
  (sbDead (sbAt 0) = false ∧ [16#8, 0#8].length = 2 ∧ sbWindow (leNat [16#8, 0#8]) ≠ 0) ∧
  ((sbDead rootLost = true ∨ 1#8 ≠ 1#8 ∨ [16#8, 0#8].length ≠ 2 ∨ sbWindow (leNat [16#8, 0#8]) = 0)) ∧
  ((sbDead ready = true ∨ 1#8 ≠ 1#8 ∨ [2#8, 0#8].length ≠ 2 ∨ sbWindow (leNat [2#8, 0#8]) = 0)) ∧
  ((sbDead ready = true ∨ 2#8 ≠ 1#8 ∨ [16#8, 0#8].length ≠ 2 ∨ sbWindow (leNat [16#8, 0#8]) = 0)) ∧
  ((sbDead ready = true ∨ 1#8 ≠ 1#8 ∨ [16#8].length ≠ 2 ∨ sbWindow (leNat [16#8]) = 0)) :=
  ⟨(by decide), (by decide), (by decide), (by decide), (by decide)⟩

theorem witness_SidebandRegisters_2 :
  (sbDead (sbAt 57360) = false ∧ [1#8, 2#8, 3#8, 4#8].length = 4 ∧ 2 ≤ sbWindow (sbAt 57360).sb.pointer.toNat ∧ flag (sbAt
    57360) 16 0 = true ∧ (true || !sbPec (sbAt 57360)) = true ∧ exec (Instr.registerWrite Via.sideband false (sbAt
    57360).sb.pointer true (BitVec.ofNat 32 (leNat [1#8, 2#8, 3#8, 4#8]))) (sbAt 57360) = Host.Outcome.next (after (exec
    (Instr.registerWrite Via.sideband false (sbAt 57360).sb.pointer true (BitVec.ofNat 32 (leNat [1#8, 2#8, 3#8, 4#8]))) (sbAt
    57360)))) ∧
  ((sbDead ready = true ∨ [1#8, 2#8, 3#8, 4#8].length ≠ 4 ∨ sbWindow ready.sb.pointer.toNat < 2 ∨ flag ready 16 0 = false)) ∧
  (sbDead (sbAt 57360) = false ∧ sbWindow (sbAt 57360).sb.pointer.toNat % 2 = 1) ∧
  (sbDead (sbAt 24) = false ∧ (sbAt 24).sb.pointer = 24#16) ∧
  ((sbDead rootLost = true ∨ sbWindow rootLost.sb.pointer.toNat = 0)) :=
  ⟨⟨by decide, by decide, by decide, by decide, by decide, steps (by decide)⟩, (by decide), (by decide), (by decide),
    (by decide)⟩

theorem witness_SidebandRegisters_3 :
  ((sbDead (sbAt 2) = true ∨ sbWindow (sbAt 2).sb.pointer.toNat = 0)) ∧
  (sbDead (sbAt 0) = false) ∧
  (sbDead (sbAt 0) = false ∧ flag (sbAt 0) 16 1 = true ∧ ((sbAt 0).sb.outMsg.isSome = true ∨ (sbAt 0).sb.alertReq = true ∧ domOn
    (sbAt 0) 3 = true)) :=
  ⟨(by decide), (by decide), (by decide)⟩

theorem witness_SidebandRequest :
  (sbDead (sbAt 24) = false ∧ flag (sbAt 24) 16 0 = true ∧ (true || !sbPec (sbAt 24)) = true) ∧
  (sbDead (sbAt 24) = false ∧ flag (sbAt 24) 16 0 = true ∧ (true || !sbPec (sbAt 24)) = true ∧ [1#8, 2#8, 3#8, 4#8].length = 4 ∧
    (sbAt 24).sb.pointer = 24#16) :=
  ⟨(by decide), (by decide)⟩

theorem witness_Mailbox_1 :
  (sbDead ready = false ∧ [1#8] ≠ [] ∧ [1#8].length ≤ 240 ∧ ready.sb.inMsg = none ∧ mpRuns ready = true ∧ (true || !sbPec ready)
    = true) ∧
  (sbDead inBusy = false ∧ (inBusy.sb.inMsg.isSome = true ∨ mpRuns inBusy = false ∨ [1#8] = [] ∨ 240 < [1#8].length)) ∧
  (sbDead noMp = false ∧ (noMp.sb.inMsg.isSome = true ∨ mpRuns noMp = false ∨ [1#8] = [] ∨ 240 < [1#8].length)) ∧
  (sbDead ready = false ∧ (ready.sb.inMsg.isSome = true ∨ mpRuns ready = false ∨ noBytes = [] ∨ 240 < noBytes.length)) ∧
  (sbDead ready = false ∧ (ready.sb.inMsg.isSome = true ∨ mpRuns ready = false ∨ List.replicate 241 1#8 = [] ∨ 240 <
    (List.replicate 241 1#8).length)) :=
  ⟨(by decide), (by decide), (by decide), (by decide), (by decide +kernel)⟩

theorem witness_Mailbox_2 :
  (sbDead ready = false ∧ ready.sb.outMsg = none ∧ sbPec ready = false) ∧
  (sbDead (sbAt 0) = false ∧ (sbAt 0).sb.outMsg = some [1#8, 2#8]) ∧
  (mpRuns inBusy = true) ∧
  (mpRuns ready = true) :=
  ⟨(by decide), (by decide), (by decide), (by decide)⟩

end Sys2Proof.Tests
end

