-- ==== Sys2Proof/Tests/Power.lean ====
section
/-! SUPPORT. Witnesses of the statements on power, resets and clocks: states and operands that meet each clause. -/

namespace Sys2Proof.Tests
open Sys2Proof.Machine
set_option exponentiation.threshold 30000
set_option Elab.async false

/-- Domain `k` as given, the rest of `powered` unchanged. -/
def withDom (k : Nat) (d : Domain) (s : State) : State := { s with pwr := { s.pwr with doms := vput s.pwr.doms k d } }
def upMove (n : Nat) : DomMove := { req := { target := .on, byMp := false, ticket := none, byHost := false }, stage := n, failed := 0, fromOff := true }
def downMove (n : Nat) : DomMove := { req := { target := .off, byMp := false, ticket := none, byHost := false }, stage := n, failed := 0, fromOff := false }
/-- PD_LNK1 on its way up or down at a stage. -/
def lnkUp (n : Nat) : State := withDom 7 { Domain.init .on with move := some (upMove n) } ready
def lnkDown (n : Nat) : State := withDom 7 { Domain.always with req := .off, move := some (downMove n) } ready
def askOn : Desc := dsc 7 0 [(128, 8, 0)]
def askOff : Desc := dsc 7 0 [(128, 8, 2)]
def lnkOff : State := withDom 7 (Domain.init .off) ready
def railBusy : State := { ready with rc := { ready.rc with rails := vput ready.rc.rails 2 { Rail.reset with state := .regulating } } }
def uv6 : State := after (exec (.supplyUv 6) ready)
def notRegulated : State := { ready with pwr := { ready.pwr with vsysOk := false } }
def onBak : State := { ready with pwr := { ready.pwr with path := .bak, vmainQual := false } }
def onHold : State := { ready with pwr := { ready.pwr with path := .hold, vmainQual := false, vbakPresent := false } }
def holdVbak : State := { ready with pwr := { ready.pwr with path := .hold, vmainQual := true } }
def returning : State := { ready with pwr := { ready.pwr with path := .bak, vmainQual := true, retTiming := true, retFrom := 5 } }
def notDue : State := { ready with mp := { ready.mp with hourSave := 1 } }
def spareOk : State := { ready with mp := { ready.mp with onSeconds := 3600 }, nvm := { ready.nvm with spareReady := true } }
def spareUsed : State := { ready with mp := { ready.mp with onSeconds := 3600 }, nvm := { ready.nvm with spareReady := false } }
def savingNow (p : Bool) : State := { ready with nvm := { ready.nvm with saving := some p } }
def saveEnded : State :=
  withDom 4 { Domain.init .on with state := .retention } { powered with pwr := { powered.pwr with saveActive := true, saveEnded := true } }
def eraseDue : State := { spareUsed with nvm := { spareUsed.nvm with eraseDue := true } }

theorem witness_PowerDomainRequests_1 :
  (∃ q k, Taken specPowerState h0 (dsc 13 0 [(128, 8, 0)]) ready q k ∧ (12 < (dsc 13 0 [(128, 8, 0)]).target.toNat ∨ 2 < opn
    (dsc 13 0 [(128, 8, 0)]) 16 0 8)) ∧
  (∃ q k, Taken specPowerState h0 (dsc 0 0 [(128, 8, 3)]) ready q k ∧ (12 < (dsc 0 0 [(128, 8, 3)]).target.toNat ∨ 2 < opn (dsc
    0 0 [(128, 8, 3)]) 16 0 8)) ∧
  (∃ q k, Taken specPowerState h0 (dsc 10 0 [(128, 8, 1)]) ready q k ∧ (dsc 10 0 [(128, 8, 1)]).target.toNat ≤ 12 ∧ opn (dsc 10
    0 [(128, 8, 1)]) 16 0 8 ≤ 2 ∧ (dsc 10 0 [(128, 8, 1)]).target.toNat = 10 ∧ opn (dsc 10 0 [(128, 8, 1)]) 16 0 8 = 1) ∧
  (∃ q k, Taken specPowerState h0 (dsc 2 0 [(128, 8, 2)]) ready q k ∧ (dsc 2 0 [(128, 8, 2)]).target.toNat ≤ 12 ∧ opn (dsc 2 0
    [(128, 8, 2)]) 16 0 8 ≤ 2 ∧ (dsc 2 0 [(128, 8, 2)]).target.toNat ≤ 2 ∧ opn (dsc 2 0 [(128, 8, 2)]) 16 0 8 ≠ 0) ∧
  (∃ q k, Taken specPowerState h0 (dsc 3 0 [(128, 8, 2)]) ready q k ∧ (dsc 3 0 [(128, 8, 2)]).target.toNat ≤ 12 ∧ opn (dsc 3 0
    [(128, 8, 2)]) 16 0 8 ≤ 2 ∧ (dsc 3 0 [(128, 8, 2)]).target.toNat = 3 ∧ opn (dsc 3 0 [(128, 8, 2)]) 16 0 8 ≠ 0 ∧ reqIsMp h0 =
    false) :=
  ⟨⟨_, _, taken (by decide) (by decide), by decide⟩, ⟨_, _, taken (by decide) (by decide), by decide⟩, ⟨_, _, taken (by decide)
    (by decide), by decide⟩, ⟨_, _, taken (by decide) (by decide), by decide⟩, ⟨_, _, taken (by decide) (by decide), by decide⟩⟩

theorem witness_PowerDomainRequests_2 :
  (∃ q k, Taken specPowerState h0 (dsc 10 0 [(128, 8, 2)]) Tests.railBusy q k ∧ (dsc 10 0 [(128, 8, 2)]).target.toNat ≤ 12 ∧ opn
    (dsc 10 0 [(128, 8, 2)]) 16 0 8 ≤ 2 ∧ (dsc 10 0 [(128, 8, 2)]).target.toNat = 10 ∧ opn (dsc 10 0 [(128, 8, 2)]) 16 0 8 = 2 ∧
    anyRailBusy q = true) ∧
  (∃ q k, Taken specPowerState h0 (dsc 12 0 [(128, 8, 0)]) ready q k ∧ (dsc 12 0 [(128, 8, 0)]).target.toNat ≤ 12 ∧ opn (dsc 12
    0 [(128, 8, 0)]) 16 0 8 ≤ 2 ∧ (domRefusal q (dsc 12 0 [(128, 8, 0)]).target.toNat (if opn (dsc 12 0 [(128, 8, 0)]) 16 0 8 =
    0 then DomState.on else if opn (dsc 12 0 [(128, 8, 0)]) 16 0 8 = 1 then DomState.retention else DomState.off) (reqIsMp h0) =
    none) ∧ (dom q (dsc 12 0 [(128, 8, 0)]).target.toNat).move = none ∧ ((dom q (dsc 12 0 [(128, 8, 0)]).target.toNat).state =
    if opn (dsc 12 0 [(128, 8, 0)]) 16 0 8 = 0 then DomState.on else if opn (dsc 12 0 [(128, 8, 0)]) 16 0 8 = 1 then
    DomState.retention else DomState.off)) ∧
  (∃ q k, Taken specPowerState h0 askOff ready q k ∧ askOff.target.toNat ≤ 12 ∧ opn askOff 16 0 8 ≤ 2 ∧ (domRefusal q
    askOff.target.toNat (if opn askOff 16 0 8 = 0 then DomState.on else if opn askOff 16 0 8 = 1 then DomState.retention else
    DomState.off) (reqIsMp h0) = none) ∧ (dom q askOff.target.toNat).move = none ∧ ((dom q askOff.target.toNat).state ≠ if opn
    askOff 16 0 8 = 0 then DomState.on else if opn askOff 16 0 8 = 1 then DomState.retention else DomState.off) ∧ (opn askOff 16
    0 8 = 0 → startBarred q askOff.target.toNat = false)) ∧
  (∃ q k, Taken specPowerState mp0 askOn lnkOff q k ∧ askOn.target.toNat ≤ 12 ∧ opn askOn 16 0 8 ≤ 2 ∧ (domRefusal q
    askOn.target.toNat (if opn askOn 16 0 8 = 0 then DomState.on else if opn askOn 16 0 8 = 1 then DomState.retention else
    DomState.off) (reqIsMp mp0) = none) ∧ (dom q askOn.target.toNat).move = none ∧ ((dom q askOn.target.toNat).state ≠ if opn
    askOn 16 0 8 = 0 then DomState.on else if opn askOn 16 0 8 = 1 then DomState.retention else DomState.off) ∧ (opn askOn 16 0
    8 = 0 → startBarred q askOn.target.toNat = false)) ∧
  (viaReach ready Via.host = true ∧ (Via.host = Via.sideband → flag ready 16 0 = true) ∧ (Via.mp = Via.mp ∨ mpRising ready = true) ∧
    mpRising ready = true ∧
    bitsOf (3#32) 0 2 = 3) :=
  ⟨⟨_, _, taken (by decide) (by decide), by decide⟩, ⟨_, _, taken (by decide) (by decide), by decide⟩, ⟨_, _, taken (by decide)
    (by decide), by decide⟩, ⟨_, _, taken (by decide) (by decide), by decide⟩, (by decide)⟩

theorem witness_PowerDomainRequests_3 :
  (viaReach ready Via.host = true ∧ (Via.host = Via.sideband → flag ready 16 0 = true) ∧ (Via.mp = Via.mp ∨ mpRising ready = true) ∧
    mpRising ready = true ∧
    bitsOf (2#32) 0 2 ≠ 3 ∧ domRefusal ready 3 (domState (bitsOf (2#32) 0 2)) (decide (Via.host = Via.mp)) = some
    (stAccessDenied, 3)) ∧
  (viaReach ready Via.mp = true ∧ (Via.mp = Via.sideband → flag ready 16 0 = true) ∧ (Via.mp = Via.mp ∨ mpRising ready = true) ∧
    mpRising ready = true ∧ bitsOf
    (2#32) 0 2 ≠ 3 ∧ domRefusal ready 7 (domState (bitsOf (2#32) 0 2)) (decide (Via.mp = Via.mp)) = none ∧ (dom ready 7).move =
    none ∧ (dom ready 7).state ≠ domState (bitsOf (2#32) 0 2) ∧ (domState (bitsOf (2#32) 0 2) = DomState.on → startBarred ready
    7 = false)) :=
  ⟨(by decide), (by decide)⟩

theorem witness_PowerDomainStages_1 :
  ((dom (lnkUp 1) 7).move = some (upMove 1) ∧ (upMove 1).req.target = DomState.on ∧ (upMove 1).failed = 0 ∧ ((upMove 1).stage =
    1 → heldOff (lnkUp 1) 7 = false) ∧ ((upMove 1).stage = 2 → rootDom 7 = true → (lnkUp 1).flt.rootOverride = false) ∧ (upMove
    1).stage ∈ [1, 2, 3]) ∧
  ((dom (lnkUp 3) 7).move = some (upMove 3) ∧ (upMove 3).req.target = DomState.on ∧ (upMove 3).failed = 0 ∧ ((upMove 3).stage =
    1 → heldOff (lnkUp 3) 7 = false) ∧ ((upMove 3).stage = 2 → rootDom 7 = true → (lnkUp 3).flt.rootOverride = false) ∧ (upMove
    3).stage ∈ [1, 2, 3]) ∧
  ((dom (lnkUp 4) 7).move = some (upMove 4) ∧ (upMove 4).req.target = DomState.on ∧ (upMove 4).failed = 0 ∧ ((upMove 4).stage =
    1 → heldOff (lnkUp 4) 7 = false) ∧ ((upMove 4).stage = 2 → rootDom 7 = true → (lnkUp 4).flt.rootOverride = false) ∧ (upMove
    4).stage = 4 ∧ (dom (lnkUp 4) 7).waiting = none) ∧
  ((dom (lnkDown 4) 7).move = some (downMove 4) ∧ ((downMove 4).req.target ≠ DomState.on ∨ (downMove 4).failed ≠ 0) ∧ (downMove
    4).stage ∈ [2, 3, 4]) ∧
  ((dom (lnkDown 2) 7).move = some (downMove 2) ∧ ((downMove 2).req.target ≠ DomState.on ∨ (downMove 2).failed ≠ 0) ∧ (downMove
    2).stage ∈ [2, 3, 4]) :=
  ⟨(by decide), (by decide), (by decide), (by decide), (by decide)⟩

theorem witness_PowerDomainStages_2 :
  ((dom (lnkDown 1) 7).move = some (downMove 1) ∧ ((downMove 1).req.target ≠ DomState.on ∨ (downMove 1).failed ≠ 0) ∧ (downMove
    1).stage = 1 ∧ (dom (lnkDown 1) 7).waiting = none) ∧
  ((dom (lnkUp 2) 7).move = some (upMove 2) ∧ (upMove 2).req.target = DomState.on ∧ (upMove 2).failed = 0) :=
  ⟨(by decide), (by decide)⟩

theorem witness_InternalSupplies :
  (regulated ready = true ∧ bitOf ready.pwr.uvNow 6 = false ∧ (dom ready 10).waiting = none) ∧
  (regulated ready = true) ∧
  (regulated uv6 = true ∧ bitOf uv6.pwr.uvNow 6 = true) ∧
  (regulated notRegulated = false) :=
  ⟨(by decide), (by decide), (by decide +kernel), (by decide)⟩

theorem witness_PowerPathChanges_1 :
  (Machine.powered ready = true ∧ ready.pwr.path = Path.main ∧ ready.pwr.vbakPresent = true ∧ (749#16).toNat < 750) ∧
  (Machine.powered ready = true ∧ ready.pwr.path = Path.main ∧ ready.pwr.vbakPresent = true ∧ 750 ≤ (750#16).toNat ∧
    (750#16).toNat < (701#16).toNat + 50) ∧
  (Machine.powered ready = true ∧ 750 ≤ (750#16).toNat ∧ (700#16).toNat + 50 ≤ (750#16).toNat) ∧
  (Machine.powered ready = true ∧ ready.pwr.path = Path.main ∧ 6200 < (6201#16).toNat) ∧
  (Machine.powered onBak = true ∧ onBak.pwr.path = Path.bak ∧ onBak.pwr.vmainQual = false ∧ (699#16).toNat < 700) :=
  ⟨(by decide), (by decide), (by decide), (by decide), (by decide)⟩

theorem witness_PowerPathChanges_2 :
  (Machine.powered ready = true ∧ ready.pwr.path = Path.main ∧ (0#16).toNat < 700) ∧
  (Machine.powered onHold = true ∧ onHold.pwr.path = Path.hold ∧ onHold.pwr.vbakPresent = false ∧ onHold.pwr.vmainQual = false ∧
    750 < (751#16).toNat) ∧
  (Machine.powered ready = true ∧ 700 ≤ (700#16).toNat) ∧
  (Machine.powered ready = true ∧ (750#16).toNat ≤ 750) ∧
  (Machine.powered onBak = true ∧ onBak.pwr.vmainQual = false ∧ (900 < (901#16).toNat ∧ (800#16).toNat + 100 < (901#16).toNat ∧
    (901#16).toNat < 6000)) :=
  ⟨(by decide), (by decide), (by decide), (by decide), (by decide)⟩

theorem witness_PowerPathChanges_3 :
  (Machine.powered onHold = true ∧ onHold.pwr.vmainQual = false ∧ (900 < (5999#16).toNat ∧ (0#16).toNat + 100 < (5999#16).toNat
    ∧ (5999#16).toNat < 6000)) ∧
  (Machine.powered ready = true ∧ ready.pwr.path = Path.main ∧ (¬(900 < (800#16).toNat ∧ (700#16).toNat + 100 < (800#16).toNat ∧
    (800#16).toNat < 6000))) ∧
  (Machine.powered holdVbak = true ∧ holdVbak.pwr.path = Path.hold ∧ holdVbak.pwr.vbakPresent = true ∧ (¬(900 < (0#16).toNat ∧
    (800#16).toNat + 100 < (0#16).toNat ∧ (0#16).toNat < 6000))) ∧
  (Machine.powered returning = true ∧ returning.pwr.path ≠ Path.main ∧ returning.pwr.retTiming = true ∧ returning.pwr.vmainQual
    = true ∧ returning.pwr.retFrom + 100000 ≤ 100005) ∧
  (Machine.powered returning = true ∧ returning.pwr.path ≠ Path.main ∧ returning.pwr.retTiming = true ∧ returning.pwr.vmainQual
    = true ∧ 100004 < returning.pwr.retFrom + 100000) :=
  ⟨(by decide), (by decide), (by decide), (by decide), (by decide)⟩

theorem witness_Saves_1 :
  (let u := { spareOk with pwr := { spareOk.pwr with saveActive := true, saveEnded := true } };
    u.pwr.saveEnded = true ∧ regulated u = true ∧ domOn u 3 = true) ∧
  (spareOk.pwr.saveActive = false ∧ regulated spareOk = true ∧ domOn spareOk 3 = true) ∧
  (domOn (savingNow true) 3 = true ∧ (savingNow true).nvm.saving = some true) ∧
  (domOn (savingNow false) 3 = true ∧ (savingNow false).nvm.saving = some false) ∧
  (Machine.powered saveEnded = true ∧ saveEnded.pwr.saveActive = true ∧ saveEnded.pwr.saveEnded = true ∧ saveEnded.pwr.vsysOk =
    true) ∧
  (domOn notDue 3 = true ∧ hourDue notDue notDue.mp.hourSave = false) :=
  ⟨(by decide), (by decide), (by decide), (by decide), (by decide), (by decide)⟩

theorem witness_Saves_2 :
  (domOn spareOk 3 = true ∧ rootAlive spareOk = true ∧ spareOk.glb.otpLoaded = true ∧ spareOk.pwr.saveActive = false ∧
    spareOk.nvm.saving = none ∧ hourDue spareOk spareOk.mp.hourSave = true ∧ spareOk.nvm.spareReady = true) ∧
  (domOn spareUsed 3 = true ∧ rootAlive spareUsed = true ∧ spareUsed.glb.otpLoaded = true ∧ spareUsed.pwr.saveActive = false ∧
    spareUsed.nvm.saving = none ∧ hourDue spareUsed spareUsed.mp.hourSave = true ∧ spareUsed.nvm.spareReady = false) ∧
  (domOn eraseDue 3 = true ∧ rootAlive eraseDue = true ∧ eraseDue.glb.otpLoaded = true ∧ eraseDue.nvm.eraseDue = true ∧
    eraseDue.nvm.saving = none ∧ eraseDue.pwr.saveActive = false) :=
  ⟨(by decide), (by decide), (by decide)⟩

end Sys2Proof.Tests
end

