-- ==== Sys2Proof/Tests/LinkPorts.lean ====
section
/-! SUPPORT. Witnesses of the statements on the link ports and the captures: states and operands that meet each clause. -/

namespace Sys2Proof.Tests
open Sys2Proof.Machine
set_option exponentiation.threshold 30000
set_option Elab.async false

/-- Every link port enabled; port 0 as given, cycles running. -/
def linked (x : Port) : State := let s := setPort (wr ready 0x300C 0xFFFF 0xFFFF) 0 x
  { s with lp := { s.lp with running := true } }
def ring : Port := { Port.reset with mode := 1, nodes := 2 }
def nodeIn : Node := { Node.reset with present := true, auth := 1, everPassed := true }
/-- A ring of two nodes. -/
def ring2 : State := setNode (setNode (linked ring) 0 nodeIn) 1 nodeIn
def noLinks : State := withDom 9 (Domain.init .off) (withDom 8 (Domain.init .off) (withDom 7 (Domain.init .off) (withDom 6 (Domain.init .off) ready)))
def linkD (t : Nat) : Desc := dsc t 0 []
def armD (on th : Nat) : Desc := dsc 0 0 [(128, 1, on), (144, 16, th)]
def profD (t m : Nat) : Desc := dsc t 0x300000 [(128, 16, m)]
def packKnown : State := { ring2 with mc := { ring2.mc with noPack := false } }
def idle : State := { ring2 with lp := { ring2.lp with running := false } }
/-- Five captures outstanding. -/
def cap0 : Capture :=
  { seq := 1, forced := false, ref := 10, refTs := 0, captTs := 0, since := 0, steps := 0, d := 0, nodes := [{ node := 0, place := some 0x400000, pieces := [(0, [1])], unsync := false, ts := 0, post := 0, done := false, given := false }],
    excluded := 1, pi := [] }
def capN : CapNode := { node := 0, place := some 0x400000, pieces := [(0, [1])], unsync := false, ts := 0, post := 0, done := false, given := false }
def cap5 : State := { ring2 with mc := { ring2.mc with captures := List.replicate 5 cap0 } }
def cap1 : State := { ring2 with mc := { ring2.mc with captures := [cap0] } }
def capNode0 : CapNode := { node := 0, place := none, pieces := [], unsync := false, ts := 0, post := 0, done := false, given := false }
def capFresh : Capture := { cap0 with nodes := [capNode0] }
def capFreshS : State := { ring2 with mc := { ring2.mc with captures := [capFresh] } }
def runBit (s : State) : State := wr s 0x3000 1 1
def enumAt (st : Nat) (whole : Bool) : Port := { Port.reset with mode := 3, enum := some { recovery := false, stage := st, whole := whole } }
def enum2 : EnumState := { recovery := false, stage := 2, whole := true }
def enum4 : EnumState := { recovery := false, stage := 4, whole := true }
def enum4b : EnumState := { recovery := false, stage := 4, whole := false }
def enum9 : EnumState := { recovery := false, stage := 9, whole := true }
def enumR9 : EnumState := { recovery := true, stage := 9, whole := false }
def recoverAt : Port := { Port.reset with mode := 4, enum := some { recovery := true, stage := 9, whole := false } }
def recovered : State := let s := linked recoverAt; { s with lp := { s.lp with ms := 100 } }
def expect5 (s : State) : State := wr s 0x3100 5 0x3F
def cmd4 : NodeCmd := { pos := 0, bcast := false, chainB := false, ncmd := 4, param := [], why := 1, sends := 1 }
def cmd3 (sends : Nat) : NodeCmd := { pos := 1, bcast := false, chainB := false, ncmd := 3, param := [], why := 4, sends := sends }
def cmd9 (sends : Nat) : NodeCmd := { pos := 1, bcast := false, chainB := false, ncmd := 9, param := [], why := 7, sends := sends }
def cmd0C (sends : Nat) : NodeCmd := { pos := 1, bcast := false, chainB := false, ncmd := 0x0C, param := [], why := 9, sends := sends }
def cmd6 (sends : Nat) : NodeCmd := { pos := 0, bcast := false, chainB := false, ncmd := 6, param := [], why := 3, sends := sends }
def sent (c : NodeCmd) : SentCmd := { cmd := c, seq := 9, trains := 8 }
def asked (c : NodeCmd) : State := setNode (setNode (linked { ring with sentA := some (sent c) }) 0 { nodeIn with challenge := some (7, 3) }) 1 nodeIn
def echoed : State := linked { enumAt 6 true with sentA := some (sent cmd4) }
def withCmd (c : NodeCmd) : State := setPort ring2 0 { ring with queue := [c] }
/-- Node `a` of port 0 has answered with a status and data. -/
def heard (a : Nat) (sq st : Byte) (dat : List Byte) (s : State) : State := setNode s a { node s a with resp := [(sq, st, dat)] }
def sentYoung (c : NodeCmd) : SentCmd := { cmd := c, seq := 9, trains := 7 }
def askedYoung (c : NodeCmd) : State := setNode (setNode (linked { ring with sentA := some (sentYoung c) }) 0 nodeIn) 1 nodeIn
/-- Keys good; the right answer of node 0 to challenge 7 with serial 5. -/
def keyed (s : State) : State := { s with otp := { s.otp with keyOk := s.otp.keyOk ||| maskOf 4 0 1 } }
def answer0 : List Byte := authExpected (keyed (asked (cmd6 1))) 0 7 5 ++ leBytes 8 5
/-- A segment of node 0 of port 0 on the line. -/
def segSyms (crcOk : Bool) (body : List Byte) : List (BitVec 10) :=
  let h : List Byte := [0, 0] ++ body
  encodeLine false (.sos :: (h ++ leBytes 2 (if crcOk then crc16 h else crc16 h ^^^ 1)).map LineChar.data)
def segCrc (ok : Bool) (body : List Byte) : List Byte := let c := crc16 ([0, 0] ++ body); leBytes 2 (if ok then c else c ^^^ 1)
def respBody : List Byte := [2, 4, 9, 0, 0x11, 0x22]
def discovering : State := linked (enumAt 4 false)
def failing : State := linked { ring with failRun := 7, breakAt := 100, trainOut := true }
def dual : Port := { Port.reset with mode := 2 }
def resetNode : State := setNode ring2 0 { nodeIn with nstat := 2, unrestored := true }
def oldPass : State := { ring2 with upSeconds := 86400 }
def cycRec : BitVec 11552 := BitVec.ofNat 11552 (5 + 0x1234 * 2 ^ 32 + 0x77 * 2 ^ 10272)
def accRec : BitVec 24032 := BitVec.ofNat 24032 (5 + 0x1234 * 2 ^ 32)
def cycBad : BitVec 11552 := BitVec.ofNat 11552 6
def accBad : BitVec 24032 := BitVec.ofNat 24032 6
def tick0 : Tick := { cycle := 5, ms := 100, len := 50, before := 50, ts := 0 }
def ticked : State := { ring2 with lp := { ring2.lp with ticks := [tick0], latches := [tick0] } }
def quar0 : State := setPort ticked 0 { ring with quarantine := 1 }
def acc0 : AccSet := { ms := 50, values := 1 }
def accd (ms : Nat) : State := setNode ticked 0 { nodeIn with acc := some { ms := ms, values := 1 }, accLost := true }
def accOf (ms : Nat) : AccSet := { ms := ms, values := 1 }
/-- PI_NODE 0 streams. -/
def cycled (r : BitVec 11552) (s : State) : State := setNode s 0 { node s 0 with cycDone := [r] }
def accDue (r : BitVec 24032) (s : State) : State := setNode s 0 { node s 0 with accDone := [r] }
def streaming : State := wr ring2 0x301C 0x8000 0x81FF
def quarStream : State := setPort streaming 0 { ring with quarantine := 1 }
def armedS : State :=
  { streaming with mc := { streaming.mc with armed := true, noPack := false, threshCode := 100, piLast := some 4, hist := [(90, 0), (80, 0)] } }
def armedLate : State := { armedS with mc := { armedS.mc with lastCapt := some 1000 } }
def armedBarred : State := { armedS with mc := { armedS.mc with captures := List.replicate 5 cap0 } }
/-- A PI sub-block of node 0 waits. -/
def piIn (code : BitVec 24) (k : Byte) (s : State) : State := setNode s 0 { node s 0 with pi := [(code, k)] }
/-- A CAP sub-block of node 0 waits. -/
def capIn (num : Byte) (off : Nat) (bs : List Byte) (s : State) : State := setNode s 0 { node s 0 with caps := [(num, off, bs)] }
def capQuar : State := setPort cap1 0 { ring with quarantine := 1 }
/-- All but the last byte of node 0's record has come. -/
def capPart : CapNode := { capN with pieces := [(0, [1]), (5, [1])] }
def cap2 : State := { ring2 with mc := { ring2.mc with captures := [{ cap0 with nodes := [capPart] }] } }
def capEnd1 : Capture := { cap0 with nodes := [{ capN with pieces := [(0, [1]), (129031, [1])] }] }
/-- The sub-block taken, and its bytes kept. -/
def capTaken (s : State) : State := setNode s 0 { node s 0 with caps := [] }
def capKept (off : Nat) (bs : List Byte) (s : State) : State :=
  updCapNode (capTaken s) 1 0 fun y => { y with pieces := y.pieces ++ [(off, bs)] }
def capLate : State := { cap1 with mc := { cap1.mc with now := 8000000 } }
/-- Stream 0 with a buffer open. -/
def openB : OpenBuf := { used := 64, records := 1, firstTs := 3, lossBefore := true }
def streamed : State :=
  let s := wr (setStrm ready 0 { Stream.reset with openBuf := some openB, seq := 4 }) 0x1208 0xC0104 0x1F010F
  setWin (wr s 0x1200 0x500000 0xFFFFF000) 9 { QWin.reset with tail := 5, phase := true }

theorem witness_LinkCommands_1 :
  (∃ q k, Taken specLinkEnumerate h0 (linkD 4294967295) noLinks q k ∧ (linkD 4294967295).target = 4294967295#32 ∧ anyGroupOn q =
    false) ∧
  (∃ q k, Taken specLinkEnumerate h0 (linkD 16) ready q k ∧ (linkD 16).target ≠ 4294967295#32 ∧ 15 < (linkD 16).target.toNat) ∧
  (∃ q k, Taken specLinkEnumerate h0 (linkD 15) noLinks q k ∧ (linkD 15).target.toNat ≤ 15 ∧ domOn q (groupDom (linkD
    15).target.toNat) = false) ∧
  (∃ q k, Taken specLinkEnumerate h0 (linkD 3) ready q k ∧ (linkD 3).target.toNat ≤ 15 ∧ domOn q (groupDom (linkD
    3).target.toNat) = true ∧ (q.lp.wait = none ∧ q.lp.jobs = []) ∧ flag q 12300 (linkD 3).target.toNat = false) ∧
  (∃ q k, Taken specLinkEnumerate h0 (linkD 0) ring2 q k ∧ (linkD 0).target.toNat ≤ 15 ∧ domOn q (groupDom (linkD
    0).target.toNat) = true ∧ (q.lp.wait = none ∧ q.lp.jobs = []) ∧ flag q 12300 (linkD 0).target.toNat = true) :=
  ⟨⟨_, _, taken (by decide) (by decide), by decide⟩, ⟨_, _, taken (by decide) (by decide), by decide⟩, ⟨_, _, taken (by decide)
    (by decide), by decide⟩, ⟨_, _, taken (by decide) (by decide), by decide⟩, ⟨_, _, taken (by decide) (by decide), by decide⟩⟩

theorem witness_LinkCommands_2 :
  (∃ q k, Taken specLinkEnumerate h0 (linkD 4294967295) ready q k ∧ (linkD 4294967295).target = 4294967295#32 ∧ anyGroupOn q =
    true ∧ (q.lp.wait = none ∧ q.lp.jobs = []) ∧ (∀ (p : Nat), p < 16 → portOn q p = false)) ∧
  (∃ q k, Taken specLinkEnumerate h0 (linkD 4294967295) ring2 q k ∧ (linkD 4294967295).target = 4294967295#32 ∧ anyGroupOn q =
    true ∧ (q.lp.wait = none ∧ q.lp.jobs = []) ∧ (∃ p, p < 16 ∧ portOn q p = true)) ∧
  (∃ q k, Taken specNodeAuth h0 (linkD 511) noLinks q k ∧ domOn q (groupDom ((linkD 511).target.toNat / 32)) = false) ∧
  (∃ q k, Taken specNodeAuth h0 (linkD 2) ring2 q k ∧ domOn q (groupDom ((linkD 2).target.toNat / 32)) = true ∧ (q.lp.wait =
    none ∧ q.lp.jobs = []) ∧ reachable q (linkD 2).target.toNat = false) ∧
  (∃ q k, Taken specNodeAuth h0 (linkD 1) ring2 q k ∧ domOn q (groupDom ((linkD 1).target.toNat / 32)) = true ∧ (q.lp.wait =
    none ∧ q.lp.jobs = []) ∧ reachable q (linkD 1).target.toNat = true) :=
  ⟨⟨_, _, taken (by decide) (by decide), by decide⟩, ⟨_, _, taken (by decide) (by decide), by decide⟩, ⟨_, _, taken (by decide)
    (by decide), by decide⟩, ⟨_, _, taken (by decide) (by decide), by decide⟩, ⟨_, _, taken (by decide) (by decide), by decide⟩⟩

theorem witness_LinkCommands_3 :
  (arrive ready 34 h0 (profD 512 1) = some (got specNodeProfileLoad h0 (profD 512 1) ready, tkt specNodeProfileLoad h0 (profD
    512 1) ready) ∧ (profD 512 1).target ≠ 4294967295#32 ∧ 511 < (profD 512 1).target.toNat) ∧
  (∃ q k, Taken specNodeProfileLoad h0 (profD 511 1) noLinks q k ∧ (profD 511 1).target.toNat ≤ 511 ∧ domOn q (groupDom ((profD
    511 1).target.toNat / 32)) = false) ∧
  (∃ q k, Taken specNodeProfileLoad h0 (profD 4294967295 1) noLinks q k ∧ (profD 4294967295 1).target = 4294967295#32 ∧
    anyGroupOn q = false) ∧
  (∃ q k, Taken specNodeProfileLoad h0 (profD 0 1) ready q k ∧ (profD 0 1).target.toNat ≤ 511 ∧ domOn q (groupDom ((profD 0
    1).target.toNat / 32)) = true) ∧
  (∃ q k, Taken specNodeProfileLoad h0 (profD 0 1) ready q k ∧ (profD 0 1).target.toNat ≤ 511 ∧ domOn q (groupDom ((profD 0
    1).target.toNat / 32)) = true ∧ (q.lp.wait = none ∧ q.lp.jobs = []) ∧ reachable q (profD 0 1).target.toNat = false) :=
  ⟨⟨(arrives (op := specNodeProfileLoad) (by decide)), by decide⟩, ⟨_, _, taken (by decide) (by decide), by decide⟩, ⟨_, _,
    taken (by decide) (by decide), by decide⟩, ⟨_, _, taken (by decide) (by decide), by decide⟩, ⟨_, _, taken (by decide)
    (by decide), by decide⟩⟩

theorem witness_LinkCommands_4 :
  (∃ q k, Taken specNodeProfileLoad h0 (profD 0 32769) ring2 q k ∧ (profD 0 32769).target.toNat ≤ 511 ∧ domOn q (groupDom
    ((profD 0 32769).target.toNat / 32)) = true ∧ (q.lp.wait = none ∧ q.lp.jobs = []) ∧ reachable q (profD 0 32769).target.toNat
    = true ∧ BitVec.ofNat 16 (opn (profD 0 32769) 16 0 16) ≠ 0#16) ∧
  (∃ q k, Taken specNodeProfileLoad h0 (profD 4294967295 3) ring2 q k ∧ (profD 4294967295 3).target = 4294967295#32 ∧ anyGroupOn
    q = true) ∧
  (∃ q k, Taken specNodeProfileLoad h0 (profD 4294967295 3) ring2 q k ∧ (profD 4294967295 3).target = 4294967295#32 ∧ anyGroupOn
    q = true ∧ (q.lp.wait = none ∧ q.lp.jobs = [])) ∧
  (∃ q k, Taken specCaptureArm h0 (armD 1 100) noLinks q k ∧ anyGroupOn q = false) ∧
  (∃ q k, Taken specCaptureArm h0 (armD 1 1001) ready q k ∧ anyGroupOn q = true ∧ (q.lp.wait = none ∧ q.lp.jobs = []) ∧ 1000 <
    opn (armD 1 1001) 18 0 16) :=
  ⟨⟨_, _, taken (by decide) (by decide), by decide⟩, ⟨_, _, taken (by decide) (by decide), by decide⟩, ⟨_, _, taken (by decide)
    (by decide), by decide⟩, ⟨_, _, taken (by decide) (by decide), by decide⟩, ⟨_, _, taken (by decide) (by decide), by decide⟩⟩

theorem witness_LinkCommands_5 :
  (∃ q k, Taken specCaptureArm h0 (armD 1 1000) ready q k ∧ anyGroupOn q = true ∧ (q.lp.wait = none ∧ q.lp.jobs = []) ∧ opn
    (armD 1 1000) 18 0 16 ≤ 1000 ∧ bitOf (armD 1 1000).ops 0 = true ∧ q.mc.noPack = true) ∧
  (∃ q k, Taken specCaptureArm h0 (armD 1 0) packKnown q k ∧ anyGroupOn q = true ∧ (q.lp.wait = none ∧ q.lp.jobs = []) ∧ opn
    (armD 1 0) 18 0 16 ≤ 1000 ∧ bitOf (armD 1 0).ops 0 = true ∧ q.mc.noPack = false) ∧
  (∃ q k, Taken specCaptureArm h0 (armD 0 0) packKnown q k ∧ anyGroupOn q = true ∧ (q.lp.wait = none ∧ q.lp.jobs = []) ∧ opn
    (armD 0 0) 18 0 16 ≤ 1000 ∧ bitOf (armD 0 0).ops 0 = false) ∧
  (∃ q k, Taken specCaptureForce h0 (linkD 0) noLinks q k ∧ anyGroupOn q = false) ∧
  (∃ q k, Taken specCaptureForce h0 (linkD 0) ready q k ∧ anyGroupOn q = true ∧ (q.lp.wait = none ∧ q.lp.jobs = []) ∧
    q.lp.running = false) :=
  ⟨⟨_, _, taken (by decide) (by decide), by decide⟩, ⟨_, _, taken (by decide) (by decide), by decide⟩, ⟨_, _, taken (by decide)
    (by decide), by decide⟩, ⟨_, _, taken (by decide) (by decide), by decide⟩, ⟨_, _, taken (by decide) (by decide), by decide⟩⟩

theorem witness_LinkCommands_6 :
  (∃ q k, Taken specCaptureForce h0 (linkD 0) cap5 q k ∧ anyGroupOn q = true ∧ (q.lp.wait = none ∧ q.lp.jobs = []) ∧
    q.lp.running = true ∧ (captBarred q).isSome = true) ∧
  (∃ q k, Taken specCaptureForce h0 (linkD 0) ring2 q k ∧ anyGroupOn q = true ∧ (q.lp.wait = none ∧ q.lp.jobs = []) ∧
    q.lp.running = true ∧ captBarred q = none) :=
  ⟨⟨_, _, taken (by decide) (by decide), by decide⟩, ⟨_, _, taken (by decide) (by decide), by decide⟩⟩

theorem witness_LinkPorts_1 :
  (rootAlive ready = true ∧ ready.lp.jobs = [] ∧ ready.lp.running = false ∧ flag ready 12288 0 = false) ∧
  (rootAlive (runBit ready) = true ∧ (runBit ready).lp.jobs = [] ∧ (runBit ready).lp.running = false ∧ flag (runBit ready) 12288
    0 = true) ∧
  (rootAlive (runBit ring2) = true ∧ (runBit ring2).lp.jobs = [] ∧ (runBit ring2).lp.running = true ∧ flag (linkBoundary (runBit
    ring2)) 12288 0 = true) ∧
  (rootAlive ring2 = true ∧ ring2.lp.jobs = [] ∧ ring2.lp.running = true ∧ flag (linkBoundary ring2) 12288 0 = false) ∧
  (rootAlive ring2 = true ∧ portOn ring2 0 = true ∧ (portRuns ring2 0 = true ∨ (port ring2 0).mode = 3 ∨ (port ring2 0).mode =
    4) ∧ (∀ (e : EnumState), (port ring2 0).enum = some e → e.stage ≠ 2) ∧ (false = true → twoChains (port ring2 0) = true)) :=
  ⟨(by decide), (by decide), (by decide), (by decide), ⟨by decide, by decide, by decide, (fun e h => by cases h), (fun h => by
    cases h)⟩⟩

theorem witness_LinkPorts_2 :
  (rootAlive ring2 = true ∧ portOn ring2 0 = true ∧ (port ring2 0).mode ≠ 0 ∧ ring2.lp.jobs = [] ∧ ring2.lp.wait = none) ∧
  (rootAlive (linked (enumAt 2 true)) = true ∧ portOn (linked (enumAt 2 true)) 0 = true ∧ (port (linked (enumAt 2 true)) 0).mode ≠ 0 ∧
    (linked (enumAt 2 true)).lp.jobs = []
    ∧ (linked (enumAt 2 true)).lp.wait = none ∧ (port (linked (enumAt 2 true)) 0).enum = some enum2 ∧ enum2.stage = 2) ∧
  (rootAlive (expect5 (linked (enumAt 4 true))) = true ∧ portOn (expect5 (linked (enumAt 4 true))) 0 = true ∧
    (port (expect5 (linked (enumAt 4 true))) 0).mode ≠ 0 ∧ (expect5 (linked
    (enumAt 4 true))).lp.jobs = [] ∧ (expect5 (linked (enumAt 4 true))).lp.wait = none ∧ (port (expect5 (linked (enumAt 4
    true))) 0).enum = some enum4 ∧ enum4.stage = 4 ∧ enum4.whole = true ∧ fld (expect5 (linked (enumAt 4 true))) (12544 + 64 *
    0) 0 6 ≠ 0 ∧ (fld (expect5 (linked (enumAt 4 true))) (12544 + 64 * 0) 0 6 ≠ if 4 < 32 then 4 else 32)) ∧
  (rootAlive (linked (enumAt 4 true)) = true ∧ portOn (linked (enumAt 4 true)) 0 = true ∧ (port (linked (enumAt 4 true)) 0).mode ≠ 0 ∧
    (linked (enumAt 4 true)).lp.jobs = []
    ∧ (linked (enumAt 4 true)).lp.wait = none ∧ (port (linked (enumAt 4 true)) 0).enum = some enum4 ∧ enum4.stage = 4 ∧
    enum4.whole = true ∧ (fld (linked (enumAt 4 true)) (12544 + 64 * 0) 0 6 = 0 ∨ fld (linked (enumAt 4 true)) (12544 + 64 * 0)
    0 6 = if 33 < 32 then 33 else 32) ∧ 0 < 33) ∧
  (rootAlive discovering = true ∧ portOn discovering 0 = true ∧ (port discovering 0).mode ≠ 0 ∧ discovering.lp.jobs = [] ∧
    discovering.lp.wait = none ∧ (port
    discovering 0).enum = some enum4b ∧ enum4b.stage = 4 ∧ enum4b.whole = false ∧ enum4b.recovery = false ∧ fld discovering
    (12544 + 64 * 0) 0 6 = 0 ∧ 30 + 2 ≤ 32) :=
  ⟨(by decide), (by decide), (by decide), (by decide), (by decide)⟩

theorem witness_LinkPorts_3 :
  (rootAlive echoed = true ∧ portOn echoed 0 = true ∧ (port echoed 0).mode ≠ 0 ∧ echoed.lp.jobs = [] ∧ echoed.lp.wait = none ∧ sentOn (port echoed 0)
    false = some (sent cmd4) ∧ (sent cmd4).cmd.ncmd = 4) ∧
  (rootAlive ring2 = true ∧ portOn ring2 0 = true ∧ (port ring2 0).mode ≠ 0 ∧ ring2.lp.jobs = [] ∧ ring2.lp.wait = none ∧ segmentBytes false [245#10,
    0#10] = none) ∧
  (rootAlive ring2 = true ∧ portOn ring2 0 = true ∧ (port ring2 0).mode ≠ 0 ∧ ring2.lp.jobs = [] ∧ ring2.lp.wait = none ∧ segmentBytes false (segSyms
    false respBody) = some (0#8 :: 0#8 :: respBody ++ segCrc false respBody) ∧ (segCrc false respBody).length = 2 ∧ (node ring2
    (32 * 0 + (0#8).toNat % 32)).present = true ∧ ¬segCrc false respBody = leBytes 2 (crc16 (0#8 :: 0#8 :: respBody))) ∧
  (rootAlive ring2 = true ∧ portOn ring2 0 = true ∧ (port ring2 0).mode ≠ 0 ∧ ring2.lp.jobs = [] ∧ ring2.lp.wait = none ∧ segmentBytes false (segSyms
    true respBody) = some (0#8 :: 0#8 :: respBody ++ segCrc true respBody) ∧ (segCrc true respBody).length = 2 ∧ (node ring2 (32
    * 0 + (0#8).toNat % 32)).present = true ∧ segCrc true respBody = leBytes 2 (crc16 (0#8 :: 0#8 :: respBody)) ∧ quarantined
    ring2 (32 * 0 + (0#8).toNat % 32) = false) ∧
  (rootAlive ring2 = true ∧ portOn ring2 0 = true ∧ (port ring2 0).mode ≠ 0 ∧ ring2.lp.jobs = [] ∧ ring2.lp.wait = none ∧ segmentBytes false (segSyms
    true respBody) = some (0#8 :: 0#8 :: respBody ++ segCrc true respBody) ∧ (segCrc true respBody).length = 2 ∧ (node ring2 (32
    * 0 + (0#8).toNat % 32)).present = true ∧ segCrc true respBody = leBytes 2 (crc16 (0#8 :: 0#8 :: respBody)) ∧ respBody =
    [2#8, BitVec.ofNat 8 (2 + [17#8, 34#8].length), 9#8, 0#8] ++ [17#8, 34#8] ∧ [17#8, 34#8].length < 254) :=
  ⟨(by decide), (by decide), (by decide +kernel), (by decide +kernel), (by decide +kernel)⟩

theorem witness_LinkPorts_4 :
  (rootAlive ring2 = true ∧ portOn ring2 0 = true ∧ (port ring2 0).mode ≠ 0 ∧ ring2.lp.jobs = [] ∧ ring2.lp.wait = none ∧ (node ring2 (32 * 0 +
    1)).present = true) ∧
  (rootAlive (linked (enumAt 9 true)) = true ∧ portOn (linked (enumAt 9 true)) 0 = true ∧ (port (linked (enumAt 9 true)) 0).mode ≠ 0 ∧
    (linked (enumAt 9 true)).lp.jobs = []
    ∧ (linked (enumAt 9 true)).lp.wait = none ∧ (port (linked (enumAt 9 true)) 0).enum = some enum9 ∧ enum9.stage = 9 ∧
    enum9.recovery = false ∧ (port (linked (enumAt 9 true)) 0).mode = 3 ∧ ((linked (enumAt 9 true)).lp.running = false ∨ (port
    (linked (enumAt 9 true)) 0).mf = 0 ∧ (port (linked (enumAt 9 true)) 0).mfA = false ∧ (port (linked (enumAt 9 true)) 0).mfB =
    false)) ∧
  (rootAlive ring2 = true ∧ portOn ring2 0 = true ∧ (port ring2 0).mode ≠ 0 ∧ ((port ring2 0).mode ≠ 1 ∨ (port ring2 0).failRun < 7)) ∧
  (rootAlive failing = true ∧ portOn failing 0 = true ∧ (port failing 0).mode ≠ 0 ∧ (port failing 0).mode = 1 ∧ 7 ≤ (port failing 0).failRun) ∧
  (rootAlive recovered = true ∧ portOn recovered 0 = true ∧ (port recovered 0).mode ≠ 0 ∧ (port recovered 0).enum = some enumR9 ∧
    enumR9.recovery = true ∧
    (port recovered 0).mode = 4 ∧ recovered.lp.running = true ∧ ((port recovered 0).mf = 0 ∧ (port recovered 0).mfA = false ∧
    (port recovered 0).mfB = false) ∧ ((port recovered 0).breakAt + 74 ≤ 8 * recovered.lp.ms ∧ enumR9.stage = 9 ∨ 3 ≤ (port
    recovered 0).bounds)) :=
  ⟨(by decide), (by decide), (by decide), (by decide), (by decide)⟩

theorem witness_LinkPorts_5 :
  (rootAlive (linked recoverAt) = true ∧ portOn (linked recoverAt) 0 = true ∧ (port (linked recoverAt) 0).mode ≠ 0 ∧
    (port (linked recoverAt) 0).enum = some enumR9 ∧
    enumR9.recovery = true ∧ (port (linked recoverAt) 0).mode = 4 ∧ (linked recoverAt).lp.running = true ∧ ((port (linked
    recoverAt) 0).mf = 0 ∧ (port (linked recoverAt) 0).mfA = false ∧ (port (linked recoverAt) 0).mfB = false) ∧ (8 * (linked
    recoverAt).lp.ms < (port (linked recoverAt) 0).breakAt + 74 ∨ enumR9.stage ≠ 9) ∧ (port (linked recoverAt) 0).bounds < 3) ∧
  (rootAlive (linked dual) = true ∧ portOn (linked dual) 0 = true ∧ (port (linked dual) 0).mode ≠ 0 ∧ (port (linked dual) 0).mode = 2 ∧
    (port (linked dual)
    0).healed = false) :=
  ⟨(by decide), (by decide)⟩

theorem witness_NodeCommands_1 :
  (sentOn (port (heard 1 8#8 0#8 [] (asked (cmd3 1))) 0) false = some (sent (cmd3 1)) ∧ rootAlive (heard 1 8#8 0#8 [] (asked (cmd3 1))) = true ∧
    portOn (heard 1 8#8 0#8 [] (asked (cmd3
    1))) 0 = true ∧ (heard 1 8#8 0#8 [] (asked (cmd3 1))).lp.jobs = [] ∧ (sent (cmd3 1)).cmd.pos = 1 ∧ (node (heard 1 8#8 0#8 []
    (asked (cmd3 1))) (32 * 0 + (sent (cmd3 1)).cmd.pos)).chainB = false ∧ (node (heard 1 8#8 0#8 [] (asked (cmd3 1))) (32 * 0 +
    (sent (cmd3 1)).cmd.pos)).resp = [(8#8, 0#8, [])] ∧ 8#8 ≠ (sent (cmd3 1)).seq) ∧
  (sentOn (port (heard 1 9#8 0#8 [] (asked (cmd9 1))) 0) false = some (sent (cmd9 1)) ∧ rootAlive (heard 1 9#8 0#8 [] (asked (cmd9 1))) = true ∧
    portOn (heard 1 9#8 0#8 [] (asked (cmd9
    1))) 0 = true ∧ (heard 1 9#8 0#8 [] (asked (cmd9 1))).lp.jobs = [] ∧ (sent (cmd9 1)).cmd.pos = 1 ∧ (node (heard 1 9#8 0#8 []
    (asked (cmd9 1))) (32 * 0 + (sent (cmd9 1)).cmd.pos)).chainB = false ∧ (node (heard 1 9#8 0#8 [] (asked (cmd9 1))) (32 * 0 +
    (sent (cmd9 1)).cmd.pos)).resp = [(9#8, 0#8, [])] ∧ 9#8 = (sent (cmd9 1)).seq ∧ 0#8 = 0#8 ∧ (port (heard 1 9#8 0#8 [] (asked
    (cmd9 1))) 0).enum = none ∧ ¬(sent (cmd9 1)).cmd.ncmd ∈ [3, 4, 6, 7, 12, 13]) ∧
  (sentOn (port (heard 1 9#8 0#8 [4#8, 5#8] (asked (cmd3 1))) 0) false = some (sent (cmd3 1)) ∧
    rootAlive (heard 1 9#8 0#8 [4#8, 5#8] (asked (cmd3 1))) = true ∧ portOn (heard 1 9#8 0#8 [4#8,
    5#8] (asked (cmd3 1))) 0 = true ∧ (heard 1 9#8 0#8 [4#8, 5#8] (asked (cmd3 1))).lp.jobs = [] ∧ (sent (cmd3 1)).cmd.pos = 1 ∧
    (node (heard 1 9#8 0#8 [4#8, 5#8] (asked (cmd3 1))) (32 * 0 + (sent (cmd3 1)).cmd.pos)).chainB = false ∧ (node (heard 1 9#8
    0#8 [4#8, 5#8] (asked (cmd3 1))) (32 * 0 + (sent (cmd3 1)).cmd.pos)).resp = [(9#8, 0#8, [4#8, 5#8])] ∧ 9#8 = (sent (cmd3
    1)).seq ∧ 0#8 = 0#8 ∧ (port (heard 1 9#8 0#8 [4#8, 5#8] (asked (cmd3 1))) 0).enum = none ∧ (sent (cmd3 1)).cmd.ncmd = 3) ∧
  (sentOn (port (heard 1 9#8 0#8 [4#8, 5#8] (asked (cmd0C 1))) 0) false = some (sent (cmd0C 1)) ∧
    rootAlive (heard 1 9#8 0#8 [4#8, 5#8] (asked (cmd0C 1))) = true ∧ portOn (heard 1 9#8 0#8 [4#8,
    5#8] (asked (cmd0C 1))) 0 = true ∧ (heard 1 9#8 0#8 [4#8, 5#8] (asked (cmd0C 1))).lp.jobs = [] ∧ (sent (cmd0C 1)).cmd.pos =
    1 ∧ (node (heard 1 9#8 0#8 [4#8, 5#8] (asked (cmd0C 1))) (32 * 0 + (sent (cmd0C 1)).cmd.pos)).chainB = false ∧ (node (heard
    1 9#8 0#8 [4#8, 5#8] (asked (cmd0C 1))) (32 * 0 + (sent (cmd0C 1)).cmd.pos)).resp = [(9#8, 0#8, [4#8, 5#8])] ∧ 9#8 = (sent
    (cmd0C 1)).seq ∧ 0#8 = 0#8 ∧ (port (heard 1 9#8 0#8 [4#8, 5#8] (asked (cmd0C 1))) 0).enum = none ∧ (sent (cmd0C 1)).cmd.ncmd
    = 12) ∧
  (sentOn (port (heard 0 (9#8) (0#8) answer0 (keyed (asked (cmd6 1)))) 0) false = some (sent (cmd6 1)) ∧
    rootAlive (heard 0 (9#8) (0#8) answer0 (keyed (asked (cmd6 1)))) = true ∧ portOn (heard 0 (9#8)
    (0#8) answer0 (keyed (asked (cmd6 1)))) 0 = true ∧ (heard 0 (9#8) (0#8) answer0 (keyed (asked (cmd6 1)))).lp.jobs = [] ∧
    (sent (cmd6 1)).cmd.pos = 0 ∧ (node (heard 0 (9#8) (0#8) answer0 (keyed (asked (cmd6 1)))) (32 * 0 + (sent (cmd6
    1)).cmd.pos)).chainB = false ∧ (node (heard 0 (9#8) (0#8) answer0 (keyed (asked (cmd6 1)))) (32 * 0 + (sent (cmd6
    1)).cmd.pos)).resp = [(9#8, 0#8, answer0)] ∧ 9#8 = (sent (cmd6 1)).seq ∧ (sent (cmd6 1)).cmd.ncmd = 6 ∧ (node (heard 0 (9#8)
    (0#8) answer0 (keyed (asked (cmd6 1)))) (32 * 0 + (sent (cmd6 1)).cmd.pos)).challenge = some (7#128, 3) ∧ 3 ≠ 4 ∧ bitOf
    (heard 0 (9#8) (0#8) answer0 (keyed (asked (cmd6 1)))).otp.keyOk 0 = true ∧ 0#8 = 0#8 ∧ List.take 8 answer0 = authExpected
    (heard 0 (9#8) (0#8) answer0 (keyed (asked (cmd6 1)))) (32 * 0 + (sent (cmd6 1)).cmd.pos) (7#128) (BitVec.ofNat 64 (leField
    answer0 8 8))) :=
  ⟨(by decide), (by decide), (by decide), (by decide), (by decide +kernel)⟩

theorem witness_NodeCommands_2 :
  (sentOn (port (heard 0 (9#8) (1#8) answer0 (keyed (asked (cmd6 1)))) 0) false = some (sent (cmd6 1)) ∧
    rootAlive (heard 0 (9#8) (1#8) answer0 (keyed (asked (cmd6 1)))) = true ∧ portOn (heard 0 (9#8)
    (1#8) answer0 (keyed (asked (cmd6 1)))) 0 = true ∧ (heard 0 (9#8) (1#8) answer0 (keyed (asked (cmd6 1)))).lp.jobs = [] ∧
    (sent (cmd6 1)).cmd.pos = 0 ∧ (node (heard 0 (9#8) (1#8) answer0 (keyed (asked (cmd6 1)))) (32 * 0 + (sent (cmd6
    1)).cmd.pos)).chainB = false ∧ (node (heard 0 (9#8) (1#8) answer0 (keyed (asked (cmd6 1)))) (32 * 0 + (sent (cmd6
    1)).cmd.pos)).resp = [(9#8, 1#8, answer0)] ∧ 9#8 = (sent (cmd6 1)).seq ∧ (sent (cmd6 1)).cmd.ncmd = 6 ∧ (node (heard 0 (9#8)
    (1#8) answer0 (keyed (asked (cmd6 1)))) (32 * 0 + (sent (cmd6 1)).cmd.pos)).challenge = some (7#128, 3) ∧ 3 ≠ 4 ∧ bitOf
    (heard 0 (9#8) (1#8) answer0 (keyed (asked (cmd6 1)))).otp.keyOk 0 = true ∧ (1#8 = 1#8 ∨ 1#8 = 0#8 ∧ List.take 8 answer0 ≠
    authExpected (heard 0 (9#8) (1#8) answer0 (keyed (asked (cmd6 1)))) (32 * 0 + (sent (cmd6 1)).cmd.pos) (7#128) (BitVec.ofNat
    64 (leField answer0 8 8)))) ∧
  (sentOn (port (heard 0 9#8 2#8 [] (keyed (asked (cmd6 1)))) 0) false = some (sent (cmd6 1)) ∧
    rootAlive (heard 0 9#8 2#8 [] (keyed (asked (cmd6 1)))) = true ∧ portOn (heard 0 9#8 2#8 []
    (keyed (asked (cmd6 1)))) 0 = true ∧ (heard 0 9#8 2#8 [] (keyed (asked (cmd6 1)))).lp.jobs = [] ∧ (sent (cmd6 1)).cmd.pos =
    0 ∧ (node (heard 0 9#8 2#8 [] (keyed (asked (cmd6 1)))) (32 * 0 + (sent (cmd6 1)).cmd.pos)).chainB = false ∧ (node (heard 0
    9#8 2#8 [] (keyed (asked (cmd6 1)))) (32 * 0 + (sent (cmd6 1)).cmd.pos)).resp = [(9#8, 2#8, [])] ∧ 9#8 = (sent (cmd6 1)).seq
    ∧ (sent (cmd6 1)).cmd.ncmd = 6 ∧ (node (heard 0 9#8 2#8 [] (keyed (asked (cmd6 1)))) (32 * 0 + (sent (cmd6
    1)).cmd.pos)).challenge = some (7#128, 3) ∧ 3 ≠ 4 ∧ bitOf (heard 0 9#8 2#8 [] (keyed (asked (cmd6 1)))).otp.keyOk 0 = true ∧
    2 ≤ (2#8).toNat) ∧
  (sentOn (port (askedYoung (cmd3 1)) 0) false = some (sentYoung (cmd3 1)) ∧ rootAlive (askedYoung (cmd3 1)) = true ∧
    portOn (askedYoung (cmd3 1)) 0 = true ∧ (askedYoung
    (cmd3 1)).lp.jobs = [] ∧ (sentYoung (cmd3 1)).trains < 8) ∧
  (sentOn (port (asked (cmd3 2)) 0) false = some (sent (cmd3 2)) ∧ rootAlive (asked (cmd3 2)) = true ∧ portOn (asked (cmd3 2)) 0 = true ∧
    (asked (cmd3 2)).lp.jobs =
    [] ∧ 8 ≤ (sent (cmd3 2)).trains ∧ (sent (cmd3 2)).cmd.sends < 3) ∧
  (sentOn (port (asked (cmd3 3)) 0) false = some (sent (cmd3 3)) ∧ rootAlive (asked (cmd3 3)) = true ∧ portOn (asked (cmd3 3)) 0 = true ∧
    (asked (cmd3 3)).lp.jobs =
    [] ∧ 8 ≤ (sent (cmd3 3)).trains ∧ 3 ≤ (sent (cmd3 3)).cmd.sends ∧ (port (asked (cmd3 3)) 0).enum = none ∧ ¬(sent (cmd3
    3)).cmd.why ∈ [1, 2, 5] ∧ ¬(sent (cmd3 3)).cmd.ncmd ∈ [6, 11]) :=
  ⟨(by decide +kernel), (by decide), (by decide), (by decide), (by decide)⟩

theorem witness_NodeCommands_3 :
  (sentOn (port (keyed (asked (cmd6 3))) 0) false = some (sent (cmd6 3)) ∧ rootAlive (keyed (asked (cmd6 3))) = true ∧
    portOn (keyed (asked (cmd6 3))) 0 = true ∧ (keyed
    (asked (cmd6 3))).lp.jobs = [] ∧ 8 ≤ (sent (cmd6 3)).trains ∧ 3 ≤ (sent (cmd6 3)).cmd.sends ∧ (sent (cmd6 3)).cmd.ncmd = 6 ∧
    (sent (cmd6 3)).cmd.pos < 32 ∧ (node (keyed (asked (cmd6 3))) (32 * 0 + (sent (cmd6 3)).cmd.pos)).challenge = some (7#128,
    3) ∧ 3 ≠ 4 ∧ bitOf (keyed (asked (cmd6 3))).otp.keyOk 0 = true) ∧
  ((node ring2 (32 * 0 + 1)).resp = []) ∧
  ((node resetNode 0).present = true ∧ (node resetNode 0).restoring = false ∧ rootAlive resetNode = true ∧ portOn resetNode (0 / 32) = true ∧ ((port
    resetNode (0 / 32)).mode = 1 ∨ (port resetNode (0 / 32)).mode = 2) ∧ (node resetNode 0).unrestored = true) ∧
  ((node ring2 0).present = true ∧ (node ring2 0).restoring = false ∧ rootAlive ring2 = true ∧ portOn ring2 (0 / 32) = true ∧
    ((port ring2 (0 / 32)).mode
    = 1 ∨ (port ring2 (0 / 32)).mode = 2) ∧ (node ring2 0).unrestored = false) ∧
  (rootAlive oldPass = true ∧ reachable oldPass 1 = true ∧ (node oldPass 1).everPassed = true ∧ (node oldPass 1).renewed = false ∧
    (node oldPass 1).auth = 1 ∧ (node oldPass 1).challenge = none ∧ (node oldPass 1).passAt + 86400
    ≤ oldPass.upSeconds) :=
  ⟨(by decide), (by decide), (by decide), (by decide), (by decide)⟩

theorem witness_NodeCommands_4 :
  (rootAlive ring2 = true ∧ reachable ring2 1 = true ∧ (node ring2 1).everPassed = true ∧ (node ring2 1).renewed = false ∧
    (node ring2 1).auth = 1 ∧ (node ring2 1).challenge = none ∧ ring2.upSeconds < (node ring2
    1).passAt + 86400) ∧
  ((node ring2 2).cycDone = []) ∧
  ((node ring2 2).accDone = []) ∧
  ((node (cycled cycRec quar0) 0).cycDone = [cycRec] ∧ rootAlive (cycled cycRec quar0) = true ∧ delivers (cycled cycRec quar0) 0 = false) ∧
  ((node (cycled cycBad ticked) 0).cycDone = [cycBad] ∧ rootAlive (cycled cycBad ticked) = true ∧ delivers (cycled cycBad ticked) 0 = true ∧
    (∀ (k : Tick), k ∈ (cycled
    cycBad ticked).lp.ticks → BitVec.setWidth 8 k.cycle ≠ BitVec.setWidth 8 cycBad)) :=
  ⟨(by decide), (by decide), (by decide), (by decide), ⟨by decide, by decide, (by decide)⟩⟩

theorem witness_NodeCommands_5 :
  ((node (cycled cycRec ticked) 0).cycDone = [cycRec] ∧ rootAlive (cycled cycRec ticked) = true ∧ delivers (cycled cycRec ticked) 0 = true ∧
    tick0 ∈ (cycled cycRec
    ticked).lp.ticks ∧ BitVec.setWidth 8 tick0.cycle = BitVec.setWidth 8 cycRec) ∧
  ((node (accDue accRec quar0) 0).accDone = [accRec] ∧ rootAlive (accDue accRec quar0) = true ∧ delivers (accDue accRec quar0) 0 = false) ∧
  ((node (accDue accBad ticked) 0).accDone = [accBad] ∧ rootAlive (accDue accBad ticked) = true ∧ delivers (accDue accBad ticked) 0 = true ∧
    (∀ (k : Tick), k ∈ (accDue
    accBad ticked).lp.latches → BitVec.setWidth 8 k.cycle ≠ BitVec.setWidth 8 accBad)) ∧
  ((node (accDue accRec ticked) 0).accDone = [accRec] ∧ rootAlive (accDue accRec ticked) = true ∧ delivers (accDue accRec ticked) 0 = true ∧
    (accDue accRec
    ticked).lp.latches = [tick0] ∧ BitVec.setWidth 8 tick0.cycle = BitVec.setWidth 8 accRec ∧ (node (accDue accRec ticked)
    0).acc = none) ∧
  ((node (accDue accRec (accd 100)) 0).accDone = [accRec] ∧ rootAlive (accDue accRec (accd 100)) = true ∧
    delivers (accDue accRec (accd 100)) 0 = true ∧ (accDue accRec (accd
    100)).lp.latches = [tick0] ∧ BitVec.setWidth 8 tick0.cycle = BitVec.setWidth 8 accRec ∧ (node (accDue accRec (accd 100))
    0).acc = some (accOf 100) ∧ tick0.ms ≤ (accOf 100).ms) :=
  ⟨(by decide), (by decide), (by decide), (by decide), (by decide)⟩

theorem witness_NodeCommands_6 : (node (accDue accRec (accd 99)) 0).accDone = [accRec] ∧ rootAlive (accDue accRec (accd 99)) = true ∧
    delivers (accDue accRec (accd 99)) 0 =
  true ∧ (accDue accRec (accd 99)).lp.latches = [tick0] ∧ BitVec.setWidth 8 tick0.cycle = BitVec.setWidth 8 accRec ∧ (node
  (accDue accRec (accd 99)) 0).acc = some (accOf 99) ∧ (accOf 99).ms < tick0.ms := by decide

theorem witness_Captures_1 :
  ((node ring2 (piNode ring2)).pi = []) ∧
  ((node (piIn (4660#24) (5#8) ring2) (piNode (piIn (4660#24) (5#8) ring2))).pi = [(4660#24, 5#8)] ∧ (¬(piEn (piIn (4660#24)
    (5#8) ring2) = true ∧ rootAlive (piIn (4660#24) (5#8) ring2) = true ∧
    delivers (piIn (4660#24) (5#8) ring2) (piNode (piIn (4660#24) (5#8) ring2)) = true))) ∧
  ((node (piIn (4660#24) (5#8) quarStream) (piNode (piIn (4660#24) (5#8) quarStream))).pi = [(4660#24, 5#8)] ∧ (¬(piEn (piIn
    (4660#24) (5#8) quarStream) = true ∧ rootAlive (piIn (4660#24) (5#8) quarStream) = true ∧
    delivers (piIn (4660#24) (5#8) quarStream) (piNode (piIn (4660#24) (5#8) quarStream)) =
    true))) ∧
  ((node (piIn (4660#24) (5#8) streaming) (piNode (piIn (4660#24) (5#8) streaming))).pi = [(4660#24, 5#8)] ∧ (piEn (piIn
    (4660#24) (5#8) streaming) = true ∧ rootAlive (piIn (4660#24) (5#8) streaming) = true ∧
    delivers (piIn (4660#24) (5#8) streaming) (piNode (piIn (4660#24) (5#8) streaming)) =
    true)) ∧
  ((node (piIn (4660#24) (13#8) armedS) (piNode (piIn (4660#24) (13#8) armedS))).pi = [(4660#24, 13#8)] ∧ (piEn (piIn (4660#24)
    (13#8) armedS) = true ∧ rootAlive (piIn (4660#24) (13#8) armedS) = true ∧
    delivers (piIn (4660#24) (13#8) armedS) (piNode (piIn (4660#24) (13#8) armedS)) = true) ∧ (piIn
    (4660#24) (13#8) armedS).mc.piLast = some 4#8 ∧ 8 ≤ BitVec.toNat (13#8 - 4#8 - 1#8)) :=
  ⟨(by decide), (by decide), (by decide), (by decide), (by decide)⟩

theorem witness_Captures_2 :
  ((node (piIn (4660#24) (5#8) streaming) (piNode (piIn (4660#24) (5#8) streaming))).pi = [(4660#24, 5#8)] ∧ (piEn (piIn
    (4660#24) (5#8) streaming) = true ∧ rootAlive (piIn (4660#24) (5#8) streaming) = true ∧
    delivers (piIn (4660#24) (5#8) streaming) (piNode (piIn (4660#24) (5#8) streaming)) =
    true) ∧ ((piIn (4660#24) (5#8) streaming).mc.armed = false ∨ (piIn (4660#24) (5#8) streaming).mc.noPack = true ∨ stepSize
    (piIn (4660#24) (5#8) streaming) 100 (BitVec.setWidth 20 4660#24) < (piIn (4660#24) (5#8) streaming).mc.threshCode.toNat)) ∧
  ((node (piIn (4660#24) (5#8) armedS) (piNode (piIn (4660#24) (5#8) armedS))).pi = [(4660#24, 5#8)] ∧ (piEn (piIn (4660#24)
    (5#8) armedS) = true ∧ rootAlive (piIn (4660#24) (5#8) armedS) = true ∧
    delivers (piIn (4660#24) (5#8) armedS) (piNode (piIn (4660#24) (5#8) armedS)) = true) ∧ (piIn
    (4660#24) (5#8) armedS).mc.armed = true ∧ (piIn (4660#24) (5#8) armedS).mc.noPack = false ∧ (piIn (4660#24) (5#8) armedS).mc.above = false ∧
    (piIn (4660#24) (5#8)
    armedS).mc.piLost = false ∧ (piIn (4660#24) (5#8) armedS).mc.piLast = some (5#8 - 1#8) ∧ nodeMissing (piIn (4660#24) (5#8)
    armedS) (piNode (piIn (4660#24) (5#8) armedS)) = false ∧ unsynced (piIn (4660#24) (5#8) armedS) (piNode (piIn (4660#24)
    (5#8) armedS)) = false ∧ (piIn (4660#24) (5#8) armedS).mc.threshCode.toNat ≤ stepSize (piIn (4660#24) (5#8) armedS) 100
    (BitVec.setWidth 20 4660#24) ∧ (∃ e, e ∈ (piIn (4660#24) (5#8) armedS).mc.hist ∧ e.fst < 100 ∧ 100 ≤ e.fst + 16) ∧ (∀ (u :
    Nat), (piIn (4660#24) (5#8) armedS).mc.lastCapt = some u → u + 96000 < 125 * 100) ∧ captBarred (piIn (4660#24) (5#8) armedS)
    = none) ∧
  ((node (piIn (4660#24) (5#8) armedBarred) (piNode (piIn (4660#24) (5#8) armedBarred))).pi = [(4660#24, 5#8)] ∧ (piEn (piIn
    (4660#24) (5#8) armedBarred) = true ∧ rootAlive (piIn (4660#24) (5#8) armedBarred) = true ∧
    delivers (piIn (4660#24) (5#8) armedBarred) (piNode (piIn (4660#24) (5#8)
    armedBarred)) = true) ∧ (piIn (4660#24) (5#8) armedBarred).mc.armed = true ∧ (piIn (4660#24) (5#8) armedBarred).mc.noPack =
    false ∧ (piIn (4660#24) (5#8) armedBarred).mc.above = false ∧ (piIn (4660#24) (5#8) armedBarred).mc.piLost = false ∧
    (piIn (4660#24) (5#8) armedBarred).mc.piLast = some (5#8 -
    1#8) ∧ nodeMissing (piIn (4660#24) (5#8) armedBarred) (piNode (piIn (4660#24) (5#8) armedBarred)) = false ∧ unsynced (piIn
    (4660#24) (5#8) armedBarred) (piNode (piIn (4660#24) (5#8) armedBarred)) = false ∧ (piIn (4660#24) (5#8)
    armedBarred).mc.threshCode.toNat ≤ stepSize (piIn (4660#24) (5#8) armedBarred) 100 (BitVec.setWidth 20 4660#24) ∧ (∃ e, e ∈
    (piIn (4660#24) (5#8) armedBarred).mc.hist ∧ e.fst < 100 ∧ 100 ≤ e.fst + 16) ∧ (∀ (u : Nat), (piIn (4660#24) (5#8)
    armedBarred).mc.lastCapt = some u → u + 96000 < 125 * 100) ∧ (captBarred (piIn (4660#24) (5#8) armedBarred)).isSome = true) ∧
  ((node (piIn (4660#24) (5#8) armedLate) (piNode (piIn (4660#24) (5#8) armedLate))).pi = [(4660#24, 5#8)] ∧ (piEn (piIn
    (4660#24) (5#8) armedLate) = true ∧ rootAlive (piIn (4660#24) (5#8) armedLate) = true ∧
    delivers (piIn (4660#24) (5#8) armedLate) (piNode (piIn (4660#24) (5#8) armedLate)) =
    true) ∧ (piIn (4660#24) (5#8) armedLate).mc.armed = true ∧ (piIn (4660#24) (5#8) armedLate).mc.noPack = false ∧
    (piIn (4660#24) (5#8) armedLate).mc.above = false ∧ (piIn
    (4660#24) (5#8) armedLate).mc.piLost = false ∧ (piIn (4660#24) (5#8) armedLate).mc.piLast = some (5#8 - 1#8) ∧ nodeMissing
    (piIn (4660#24) (5#8) armedLate) (piNode (piIn (4660#24) (5#8) armedLate)) = false ∧ unsynced (piIn (4660#24) (5#8)
    armedLate) (piNode (piIn (4660#24) (5#8) armedLate)) = false ∧ (piIn (4660#24) (5#8) armedLate).mc.threshCode.toNat ≤
    stepSize (piIn (4660#24) (5#8) armedLate) 100 (BitVec.setWidth 20 4660#24) ∧ (∃ e, e ∈ (piIn (4660#24) (5#8)
    armedLate).mc.hist ∧ e.fst < 100 ∧ 100 ≤ e.fst + 16) ∧ (piIn (4660#24) (5#8) armedLate).mc.lastCapt = some 1000 ∧ 125 * 100
    ≤ 1000 + 96000) ∧
  ((node ring2 2).caps = []) :=
  ⟨(by decide), ⟨by decide, by decide, by decide, by decide, by decide, by decide, by decide, by decide, by decide, by decide, ⟨(90, 0),
    by decide⟩, by decide⟩, ⟨by decide, by decide, by decide, by decide, by decide, by decide, by decide, by decide, by decide, by decide,
    ⟨(90, 0), by decide⟩, by decide⟩, ⟨by decide, by decide, by decide, by decide, by decide, by decide, by decide, by decide, by decide,
    by decide, ⟨(90, 0), by decide⟩, by decide⟩, (by decide)⟩

theorem witness_Captures_3 :
  ((node (capIn (1#8) 0 [1#8] capQuar) 0).caps = [(1#8, 0, [1#8])] ∧ rootAlive (capIn (1#8) 0 [1#8] capQuar) = true ∧
    delivers (capIn (1#8) 0 [1#8] capQuar) 0 = false) ∧
  ((node (capIn (2#8) 0 [1#8] cap1) 0).caps = [(2#8, 0, [1#8])] ∧ rootAlive (capIn (2#8) 0 [1#8] cap1) = true ∧
    delivers (capIn (2#8) 0 [1#8] cap1) 0 = true ∧ (∀ (c :
    Capture) (k : CapNode), c ∈ (capIn (2#8) 0 [1#8] cap1).mc.captures → k ∈ c.nodes → k.node = 0 → k.done = false →
    BitVec.setWidth 8 c.seq ≠ 2#8)) ∧
  ((node (capIn (1#8) 129032 [1#8] cap1) 0).caps = [(1#8, 129032, [1#8])] ∧ rootAlive (capIn (1#8) 129032 [1#8] cap1) = true ∧
    delivers (capIn (1#8) 129032 [1#8] cap1) 0 = true ∧
    List.find? (fun x ↦ decide (x.seq = cap0.seq)) (capIn (1#8) 129032 [1#8] cap1).mc.captures = some cap0 ∧ List.find? (fun y ↦
    decide (y.node = 0)) cap0.nodes = some capN ∧ capN.done = false ∧ List.find? (fun x ↦ decide (BitVec.setWidth 8 x.seq = 1#8)
    && x.nodes.any fun y ↦ decide (y.node = 0) && !y.done) (capIn (1#8) 129032 [1#8] cap1).mc.captures = some cap0 ∧ ([1#8] = []
    ∨ capLen < 129032 + [1#8].length)) ∧
  ((node (capIn (1#8) 1 [1#8, 2#8] cap1) 0).caps = [(1#8, 1, [1#8, 2#8])] ∧ rootAlive (capIn (1#8) 1 [1#8, 2#8] cap1) = true ∧
    delivers (capIn (1#8) 1 [1#8, 2#8] cap1) 0 = true ∧
    List.find? (fun x ↦ decide (x.seq = cap0.seq)) (capIn (1#8) 1 [1#8, 2#8] cap1).mc.captures = some cap0 ∧ List.find? (fun y ↦
    decide (y.node = 0)) cap0.nodes = some capN ∧ capN.done = false ∧ List.find? (fun x ↦ decide (BitVec.setWidth 8 x.seq = 1#8)
    && x.nodes.any fun y ↦ decide (y.node = 0) && !y.done) (capIn (1#8) 1 [1#8, 2#8] cap1).mc.captures = some cap0 ∧ [1#8, 2#8]
    ≠ [] ∧ 1 + [1#8, 2#8].length ≤ capLen ∧ (∀ x y, x ∈ (capKept 1 [1, 2] (capIn 1 1 [1, 2] cap1)).mc.captures → y ∈ x.nodes →
    y.done = false → capGaps y.pieces ≠ []) ∧ (∀ x, x ∈ (capKept 1 [1, 2] (capIn 1 1 [1, 2] cap1)).mc.captures → capReady
    (capTaken (capIn 1 1 [1, 2] cap1)) x = false) ∧ capN.pieces ≠ [] ∧ capN.place = some 4194304 ∧ 1 + [1#8, 2#8].length <
    capLen) ∧
  ((node (capIn (1#8) 129031 [1#8] cap1) 0).caps = [(1#8, 129031, [1#8])] ∧ rootAlive (capIn (1#8) 129031 [1#8] cap1) = true ∧
    delivers (capIn (1#8) 129031 [1#8] cap1) 0 = true ∧
    List.find? (fun x ↦ decide (x.seq = cap0.seq)) (capIn (1#8) 129031 [1#8] cap1).mc.captures = some cap0 ∧ List.find? (fun y ↦
    decide (y.node = 0)) cap0.nodes = some capN ∧ capN.done = false ∧ List.find? (fun x ↦ decide (BitVec.setWidth 8 x.seq = 1#8)
    && x.nodes.any fun y ↦ decide (y.node = 0) && !y.done) (capIn (1#8) 129031 [1#8] cap1).mc.captures = some cap0 ∧ [1#8] ≠ []
    ∧ 129031 + [1#8].length ≤ capLen ∧ (∀ x y, x ∈ (capKept 129031 [1] (capIn 1 129031 [1] cap1)).mc.captures → y ∈ x.nodes →
    y.done = false → capGaps y.pieces ≠ []) ∧ (∀ x, x ∈ (capKept 129031 [1] (capIn 1 129031 [1] cap1)).mc.captures → capReady
    (capTaken (capIn 1 129031 [1] cap1)) x = false) ∧ ((capKept 129031 [1] (capIn 1 129031 [1] cap1)).mc.captures.find? (fun x
    => x.seq = cap0.seq) = some capEnd1) ∧ capN.place = some 4194304 ∧ 129031 + [1#8].length = capLen) :=
  ⟨(by decide), ⟨by decide, by decide, by decide, (all_nodes (by decide))⟩, (by decide), ⟨by decide, by decide, by decide, by decide, by decide,
    by decide, by decide, by decide, by decide, (all_nodes (by decide)), by decide⟩, ⟨by decide, by decide, by decide, by decide,
    by decide, by decide, by decide, by decide, by decide, (all_nodes (by decide)), by decide⟩⟩

theorem witness_Captures_4 :
  ((node (capIn (1#8) 0 [1#8] capFreshS) 0).caps = [(1#8, 0, [1#8])] ∧ rootAlive (capIn (1#8) 0 [1#8] capFreshS) = true ∧
    delivers (capIn (1#8) 0 [1#8] capFreshS) 0 = true ∧
    List.find? (fun x ↦ decide (x.seq = capFresh.seq)) (capIn (1#8) 0 [1#8] capFreshS).mc.captures = some capFresh ∧ List.find?
    (fun y ↦ decide (y.node = 0)) capFresh.nodes = some capNode0 ∧ capNode0.done = false ∧ List.find? (fun x ↦ decide
    (BitVec.setWidth 8 x.seq = 1#8) && x.nodes.any fun y ↦ decide (y.node = 0) && !y.done) (capIn (1#8) 0 [1#8]
    capFreshS).mc.captures = some capFresh ∧ [1#8] ≠ [] ∧ 0 + [1#8].length ≤ capLen ∧ (∀ x y, x ∈ (capKept 0 [1] (capIn 1 0 [1]
    capFreshS)).mc.captures → y ∈ x.nodes → y.done = false → capGaps y.pieces ≠ []) ∧ (∀ x, x ∈ (capKept 0 [1] (capIn 1 0 [1]
    capFreshS)).mc.captures → capReady (capTaken (capIn 1 0 [1] capFreshS)) x = false) ∧ capNode0.pieces = [] ∧ capNode0.place =
    none ∧ (winBuf (capIn (1#8) 0 [1#8] capFreshS) 25 < 2 ^ 18 ∨ tsMay (capIn (1#8) 0 [1#8] capFreshS) 16 129064 = false) ∧ 0 +
    [1#8].length < capLen) ∧
  (ring2.mc.captures = []) ∧
  (rootAlive cap1 = true ∧ cap1.mc.captures = [cap0] ∧ cap1.mc.now < cap0.since + 1000 * clampN 1000 8000 (fld cap1 14352 0 13)) ∧
  (rootAlive capLate = true ∧ capLate.mc.captures = [cap0] ∧ cap0.since + 1000 * clampN 1000 8000 (fld capLate 14352 0 13) ≤ capLate.mc.now ∧ (∀ (x :
    Capture), x ∈ [] → capReady capLate x = false)) ∧
  (rootAlive ready = true ∧ ready.qe.running = true ∧ canMaster ready = true ∧ domOn ready 4 = true ∧ (strm ready 16).openBuf = none) :=
  ⟨⟨by decide, by decide, by decide, by decide, by decide, by decide, by decide, by decide, by decide, (all_nodes (by decide)), by decide⟩,
    (by decide), (by decide), (by decide), (by decide)⟩

theorem witness_Captures_5 : rootAlive streamed = true ∧ streamed.qe.running = true ∧ canMaster streamed = true ∧ domOn streamed 4 = true ∧
    (strm streamed
  0).openBuf = some openB := by decide

/-- With the PLL stopped the root clocks stand. -/
def rootDead : State := { ring2 with pwr := { ring2.pwr with pllRuns := false } }
theorem witness_rootDead : rootAlive rootDead = false := by decide

/-- A quarantined node a day after its last pass; a profile load of a node that cannot be reached; the sample of a step already seen. -/
theorem witness_NodeCommands_7 :
  (let s := setNode oldPass 1 { nodeIn with auth := 2 };
    rootAlive s = true ∧ reachable s 1 = true ∧ (node s 1).everPassed = true ∧ (node s 1).renewed = false ∧ (node s 1).challenge = none ∧
      (node s 1).passAt + 86400 ≤ s.upSeconds) ∧
  (reachable ready 0 = false ∧ reachable ring2 0 = true) ∧
  (let s := piIn 4660 5 { armedS with mc := { armedS.mc with above := true } };
    (node s (piNode s)).pi = [(4660, 5)] ∧ piEn s = true ∧ delivers s (piNode s) = true ∧ rootAlive s = true ∧ s.mc.above = true) := by decide

end Sys2Proof.Tests
end

