-- ==== Sys2Proof/Tests/Charging.lean ====
section
/-! SUPPORT. Witnesses of the statements on the chargers, pack authentication and the gauge: states and operands that meet each clause. -/

namespace Sys2Proof.Tests
open Sys2Proof.Machine
set_option exponentiation.threshold 30000
set_option Elab.async false

/-! ### The charger, pack authentication and the gauge -/

/-- A configuration block within every range of Table 10-2; `e` are bits 16–23. -/
def blockOf (e : Nat) : BitVec 512 :=
  pack 512 [(0, 16, 0x0A01), (16, 8, e), (24, 8, 1), (32, 16, 14600), (48, 16, 500), (64, 8, 4), (72, 8, 4), (80, 16, 13200), (96, 16, 100),
    (112, 16, 10000), (128, 8, 30), (136, 8, 0), (144, 8, 10), (152, 8, 45), (160, 8, 60), (168, 8, 30), (176, 8, 50), (184, 8, 50), (192, 8, 10),
    (200, 8, 50), (208, 16, 3380), (224, 16, 1000), (240, 16, 1000), (256, 32, 100000), (288, 16, 2500), (304, 16, 3600), (320, 8, 60),
    (336, 16, 3000), (352, 8, 10)]
/-- The same with a charge voltage of 14,010 mV, which leaves no room for a recharge at 13,900 mV. -/
def blockBad : BitVec 512 := putBits (blockOf 7) 32 16 14605
def blockForm : BitVec 512 := putBits (blockOf 7) 0 16 0x0A02
def withBlock (b : BitVec 512) : State := hostWrite ready 0x300000 (leBytes 64 b.toNat)
def cfgD : Desc := dsc 0 0x300000 []
def revD (e v c : Nat) : Desc := dsc 0 0 [(128, 1, e), (144, 16, v), (160, 16, c)]
/-- A charger in a state, every run of ticks long enough. -/
def chgAs (st : ChgState) (e : Nat) : Charger :=
  { Charger.reset with
    state := st, qualMs := 1001, vaLowMs := 10, weakMs := 60000, rechgMs := 10000, termMs := 60000, mpptMs := 250, stepMs := 20, sweepMs := 600000
    revMs := 6000000, retryMs := 60000, bandMs := 100, authMs := 100, timerH := 1, timerHalf := 7200000, preMin := 1, preMs := 60001, vas := [2000, 2010], powers := [4000, 4100], mode := .buck, cfg := some (blockOf e), band := 2, va := 2000, vb := 13000, ib := 100 }
def chargeS (c : Charger) : State := { ready with chg := c }
/-- Reverse mode is permitted by its fuse bit, the gauge at 50 %. -/
def revOk (c : Charger) : State := { chargeS c with otp := { ready.otp with records := [(0x604C, 1)] }, gauge := { Gauge.zero with socRep := 5000 } }
def revIdle : State := revOk (chgAs .idle 5)
def revRuns : State := revOk { chgAs .reverse 5 with revV := 2400, source := .vehicle, vehGate := true }
def revBarred : State := revOk (chgAs .idle 3)
def chgOff : State := withDom 11 (Domain.init .off) ready
def sample (vb : Nat) : ChgSample :=
  { va := 2000, shuntA := 1000, shuntB := 0xFFFFF830, vbak := BitVec.ofNat 16 (vb - 2), tj := 250, bntc := 32768, cv := 800, iin := 900, vin := 900, peak := 100, boot := 5000, vaHeld := 2000 }
def hotSample : ChgSample := { sample 13000 with tj := 1100 }
/-- PD_CHG in retention, its root clock stopped or not. -/
def chgRetains : State := withDom 11 { Domain.init .on with state := .retention } ready
def blockedS : State := chargeS { chgAs .idle 0 with state := .idle }
def revSoon : State := revOk { chgAs .idle 5 with revStart := 2, revTickets := [.mp 0 0 false], pvGate := false }
def youngS (st : ChgState) (e : Nat) : State := let s := chargeS (chgAs st e)
  { s with chg := { s.chg with qualMs := 0, vaLowMs := 0, weakMs := 0, rechgMs := 0, termMs := 0, mpptMs := 0, stepMs := 0, sweepMs := 0, revMs := 0, timerHalf := 0, preMs := 0, retryMs := 0, bandMs := 0, authMs := 0 } }
def needS : State := chargeS { chgAs .idle 7 with band := 1 }
def ccS : State := chargeS { chgAs .cc 7 with source := .panel, pvGate := true, vref := 1800, voc := 2000, loop := 5 }
def putS : State := chargeS { chgAs .cc 7 with cfgNext := [(blockOf 3, .mp 0 0 false)] }
def qualS (c : Source) (vb : Nat) : State := chargeS { chgAs .qualifying 7 with cand := c, vb := vb }
def lostS (va ib : Nat) : State := chargeS { chgAs .cc 7 with source := .vehicle, vehGate := true, va := va, ib := ib, loop := 4, vaLowMs := if va < 1000 then 10 else 0 }
def sweepAt (n : Nat) : Sweep := { vocMs := 0, step := n, best := some (1700, 90), vref0 := 1800 }
def sweepS (st : ChgState) (n vb : Nat) : State :=
  chargeS { chgAs st 7 with source := .panel, pvGate := true, sweep := some (sweepAt n), voc := 2000, vb := vb }
def suspS : State := chargeS (chgAs .suspended 7)
def preS : State := chargeS { chgAs .precharge 7 with source := .panel }
def cvS : State := chargeS { chgAs .cv 7 with source := .panel, loop := 2, ib := 19 }
def againS (vb : Nat) : State := chargeS { chgAs .done 7 with waitRechg := true, vb := vb }
/-- A run of authentication attempts; the pack root key is usable. -/
def authS (e n : Nat) (ser : Option (BitVec 64)) : State :=
  keyed { chargeS { chgAs .cc e with authRunning := true, authAttempts := n } with ret := { ready.ret with packSerial := ser } }
def keysGood (s : State) : State := { s with otp := { s.otp with keyOk := 0x3F } }
def bakIdent : BitVec 128 := pack 128 [(0, 64, 77), (80, 8, 1), (88, 8, 4)]
def bakResp (s : State) : BitVec 64 := packExpected s (Config.freeChallenge s.free) (bakIdent.setWidth 64)
/-- The answers to IDENT and CHALLENGE as they come back. -/
def bakRawI : Option (List Byte) := some (bauthReply 0 (leBytes 16 bakIdent.toNat))
def bakRawR (s : State) : Option (List Byte) := some (bauthReply 0 (leBytes 8 (bakResp s).toNat))
def authA : State := keysGood (authS 0x10 0 none)
def authB : State := keysGood (authS 0x10 0 (some 5))
def passedS (at_ : Nat) : State := { chargeS { chgAs .idle 0x10 with authPassAt := some 5 } with upSeconds := at_ }
def ibStep : List (Int × Int) := (List.replicate 32 (0, 13000)) ++ (List.replicate 96 (200, 13000))
def ibFlat : List (Int × Int) := (List.replicate 32 (0, 13000)) ++ (List.replicate 96 (199, 13000))
def gaugeNone : State := { ready with chg := { Charger.reset with qb := 50 }, gauge := { Gauge.zero with lastQb := 20, gap := false } }
def gaugeSome : State := { chargeS { chgAs .cc 7 with qb := 50 } with gauge := { gaugeInit Gauge.zero 100000 with lastQb := 20, gap := false } }
def mpAsleep : State :=
  wr (wr (withDom 3 (Domain.init .off) { ready with chg := { Charger.reset with qb := 7 } }) 0x6044 0x80000000 0x8000FFFF) 0x6040 7 0xFFFFFFFF

theorem witness_ChargerControl_1 :
  (∃ q k, Taken specChgConfig h0 cfgD (withBlock (blockOf 7)) q k ∧ reqIsMp h0 = false) ∧
  (∃ q k, Taken specChgConfig h0 cfgD (withBlock blockForm) q k ∧ (false = false ∨ reqIsMp h0 = true) ∧ (cU (BitVec.ofNat 512
    (leNat (cmdRead q h0 cfgD.addr.toNat 64))) 0 2 ≠ 2561 ∨ bitsOf (BitVec.ofNat 512 (leNat (cmdRead q h0 cfgD.addr.toNat 64)))
    22 2 ≠ 0)) ∧
  (∃ q k, Taken specChgConfig h0 cfgD (withBlock blockBad) q k ∧ (false = false ∨ reqIsMp h0 = true) ∧ cU (BitVec.ofNat 512
    (leNat (cmdRead q h0 cfgD.addr.toNat 64))) 0 2 = 2561 ∧ bitsOf (BitVec.ofNat 512 (leNat (cmdRead q h0 cfgD.addr.toNat 64)))
    22 2 = 0 ∧ (cU (BitVec.ofNat 512 (leNat (cmdRead q h0 cfgD.addr.toNat 64))) 3 1 = 0 ∨ cU (BitVec.ofNat 512 (leNat (cmdRead q
    h0 cfgD.addr.toNat 64))) 4 2 < 14000 ∨ 14600 < cU (BitVec.ofNat 512 (leNat (cmdRead q h0 cfgD.addr.toNat 64))) 4 2 ∨ cU
    (BitVec.ofNat 512 (leNat (cmdRead q h0 cfgD.addr.toNat 64))) 4 2 % 10 ≠ 0 ∨ cI (BitVec.ofNat 512 (leNat (cmdRead q h0
    cfgD.addr.toNat 64))) 18 ≤ cI (BitVec.ofNat 512 (leNat (cmdRead q h0 cfgD.addr.toNat 64))) 17)) ∧
  (∃ q k, Taken specChgConfig h0 cfgD (withBlock (blockOf 7)) q k ∧ (false = false ∨ reqIsMp h0 = true) ∧ chgCheck (BitVec.ofNat
    512 (leNat (cmdRead q h0 cfgD.addr.toNat 64))) = none) ∧
  (∃ q k, Taken specChgReverse h0 (revD 0 1 0) ready q k ∧ opn (revD 0 1 0) 16 0 1 = 0 ∧ (opn (revD 0 1 0) 18 0 16 ≠ 0 ∨ opn
    (revD 0 1 0) 20 0 16 ≠ 0)) :=
  ⟨⟨_, _, taken (by decide) (by decide), by decide⟩, ⟨_, _, taken (by decide +kernel) (by decide +kernel), by decide +kernel⟩,
    ⟨_, _, taken (by decide +kernel) (by decide +kernel), by decide +kernel⟩, ⟨_, _, taken (by decide +kernel)
    (by decide +kernel), by decide +kernel⟩, ⟨_, _, taken (by decide) (by decide), by decide⟩⟩

theorem witness_ChargerControl_2 :
  (∃ q k, Taken specChgReverse h0 (revD 0 0 0) ready q k ∧ opn (revD 0 0 0) 16 0 1 = 0 ∧ opn (revD 0 0 0) 18 0 16 = 0 ∧ opn
    (revD 0 0 0) 20 0 16 = 0 ∧ q.chg.state ≠ ChgState.reverse ∧ q.chg.revStart = 0) ∧
  (∃ q k, Taken specChgReverse h0 (revD 0 0 0) revRuns q k ∧ opn (revD 0 0 0) 16 0 1 = 0 ∧ opn (revD 0 0 0) 18 0 16 = 0 ∧ opn
    (revD 0 0 0) 20 0 16 = 0 ∧ q.chg.state = ChgState.reverse ∧ q.chg.revStart = 0) ∧
  (∃ q k, Taken specChgReverse h0 (revD 1 2000 10) ready q k ∧ opn (revD 1 2000 10) 16 0 1 = 1 ∧ q.flt.faultState = false ∧ flag
    q 24652 0 = false) ∧
  (∃ q k, Taken specChgReverse h0 (revD 1 1999 10) revIdle q k ∧ opn (revD 1 1999 10) 16 0 1 = 1 ∧ q.flt.faultState = false ∧
    flag q 24652 0 = true ∧ (opn (revD 1 1999 10) 18 0 16 < 2000 ∨ 3200 < opn (revD 1 1999 10) 18 0 16 ∨ opn (revD 1 1999 10) 20
    0 16 < 10 ∨ 800 < opn (revD 1 1999 10) 20 0 16)) ∧
  (∃ q k, Taken specChgReverse h0 (revD 1 2000 10) revBarred q k ∧ opn (revD 1 2000 10) 16 0 1 = 1 ∧ q.flt.faultState = false ∧
    flag q 24652 0 = true ∧ 2000 ≤ opn (revD 1 2000 10) 18 0 16 ∧ opn (revD 1 2000 10) 18 0 16 ≤ 3200 ∧ 10 ≤ opn (revD 1 2000
    10) 20 0 16 ∧ opn (revD 1 2000 10) 20 0 16 ≤ 800 ∧ revRefused q (opn (revD 1 2000 10) 18 0 16) false = some stRefused) :=
  ⟨⟨_, _, taken (by decide) (by decide), by decide⟩, ⟨_, _, taken (by decide) (by decide), by decide⟩, ⟨_, _, taken (by decide)
    (by decide), by decide⟩, ⟨_, _, taken (by decide) (by decide), by decide⟩, ⟨_, _, taken (by decide) (by decide), by decide⟩⟩

theorem witness_ChargerControl_3 :
  (∃ q k, Taken specChgReverse h0 (revD 1 3200 800) revRuns q k ∧ opn (revD 1 3200 800) 16 0 1 = 1 ∧ q.flt.faultState = false ∧
    flag q 24652 0 = true ∧ 2000 ≤ opn (revD 1 3200 800) 18 0 16 ∧ opn (revD 1 3200 800) 18 0 16 ≤ 3200 ∧ 10 ≤ opn (revD 1 3200
    800) 20 0 16 ∧ opn (revD 1 3200 800) 20 0 16 ≤ 800 ∧ revRefused q (opn (revD 1 3200 800) 18 0 16) false = none ∧ q.chg.state
    = ChgState.reverse) ∧
  (∃ q k, Taken specChgReverse h0 (revD 1 2000 800) revIdle q k ∧ opn (revD 1 2000 800) 16 0 1 = 1 ∧ q.flt.faultState = false ∧
    flag q 24652 0 = true ∧ 2000 ≤ opn (revD 1 2000 800) 18 0 16 ∧ opn (revD 1 2000 800) 18 0 16 ≤ 3200 ∧ 10 ≤ opn (revD 1 2000
    800) 20 0 16 ∧ opn (revD 1 2000 800) 20 0 16 ≤ 800 ∧ revRefused q (opn (revD 1 2000 800) 18 0 16) false = none ∧ q.chg.state
    ≠ ChgState.reverse ∧ q.chg.revStart = 0) ∧
  (viaReach ready Via.sideband = true ∧ domOn ready 11 = true) ∧
  ((rootAlive chgOff = false ∧ domOn chgOff 11 = true ∨ domOff chgOff 11 = true ∧ domOn chgOff 11 = false)) ∧
  ((rootAlive rootLost = false ∧ domOn rootLost 11 = true ∨ domOff rootLost 11 = true ∧ domOn rootLost 11 = false)) :=
  ⟨⟨_, _, taken (by decide) (by decide), by decide⟩, ⟨_, _, taken (by decide) (by decide), by decide⟩, (by decide), (by decide),
    (by decide)⟩

theorem witness_ChargerControl_4 :
  (domOn chgRetains 11 = false ∧ domOff chgRetains 11 = false) ∧
  (rootAlive ccS = true ∧ domOn ccS 11 = true) ∧
  (rootAlive putS = true ∧ domOn putS 11 = true ∧ putS.chg.cfgNext = [(blockOf 3, Ticket.mp 0 (0#16) false)]) ∧
  (rootAlive blockedS = true ∧ domOn blockedS 11 = true ∧ blockedS.chg.cfgNext = [] ∧ blockedS.regs.late = [] ∧
    blockedS.chg.revStart = 0 ∧ blockedS.chg.state = ChgState.idle ∧ blockedS.chg.pvGate = false ∧ blockedS.chg.vehGate = false
    ∧ (blockedS.chg.cfg.isSome = true → (↑(sample 13000).vbak.toNat - roundDiv (sample 13000).shuntB.toInt 1000).toNat ≤ cvTarget blockedS + 400) ∧
    fwdBlocked blockedS = true) ∧
  (rootAlive needS = true ∧ domOn needS 11 = true ∧ needS.chg.cfgNext = [] ∧ needS.regs.late = [] ∧ needS.chg.revStart = 0 ∧
    needS.chg.state = ChgState.idle ∧ needS.chg.pvGate = false ∧ needS.chg.vehGate = false ∧ fwdBlocked needS = false ∧
    (needS.chg.cfg.isSome = true → (↑(sample 14499).vbak.toNat - roundDiv (sample 14499).shuntB.toInt 1000).toNat ≤ cvTarget needS + 400) ∧ 
    needS.chg.waitRechg = false ∧ needS.chg.retryWait = false ∧ candidates needS = [Source.panel, Source.vehicle] ∧ 1 ≤
    needS.chg.band ∧ needS.chg.band ≤ 3 ∧ (↑(sample 14499).vbak.toNat - roundDiv (sample 14499).shuntB.toInt 1000).toNat + 100 <
    cvMv needS) :=
  ⟨(by decide), (by decide), (by decide), (by decide), (by decide)⟩

theorem witness_ChargerControl_5 :
  (rootAlive ccS = true ∧ domOn ccS 11 = true ∧ ccS.chg.cfgNext = [] ∧ ccS.regs.late = [] ∧ ccS.chg.revStart = 0 ∧ inSession ccS
    = true ∧ flag ccS 24576 0 = false ∧ bitOf ccS.chg.faults 3 = false ∧ cvTarget ccS + 400 < (↑(sample 15001).vbak.toNat -
    roundDiv (sample 15001).shuntB.toInt 1000).toNat) ∧
  (rootAlive ccS = true ∧ domOn ccS 11 = true ∧ ccS.chg.cfgNext = [] ∧ ccS.regs.late = [] ∧ ccS.chg.revStart = 0 ∧ ccS.chg.state
    = ChgState.cc ∧ fwdBlocked ccS = false ∧ (↑(sample 13000).vbak.toNat - roundDiv (sample 13000).shuntB.toInt 1000).toNat ≤
    cvTarget ccS + 400 ∧ (sample 13000).va.toNat ≤ 6000 ∧ (sample 13000).peak.toNat < cycleLimit ccS ∧ 4000 ≤ (sample
    13000).boot.toNat) ∧
  (rootAlive revSoon = true ∧ domOn revSoon 11 = true ∧ revSoon.chg.cfgNext = [] ∧ revSoon.regs.late = [] ∧ 1 <
    revSoon.chg.revStart ∧ revSoon.chg.state = ChgState.idle ∧ revSoon.chg.pvGate = false ∧
    (revSoon.chg.cfg.isSome = true → (↑(sample 13000).vbak.toNat - roundDiv (sample 13000).shuntB.toInt 1000).toNat ≤ cvTarget revSoon + 400) ∧
    revSoon.chg.vehGate = false) :=
  ⟨(by decide), (by decide), (by decide)⟩

/-- A sweep that waits for Voc; ticks at which TRIM has nothing to do, and one at which it has a step to make. -/
def vocS : State := setChg ccS { ccS.chg with sweep := some { sweepAt 0 with vocMs := 2 } }
def trims : State := { ccS with mp := { ccS.mp with trimGoal := some 3 } }
theorem witness_ChargerControl_6 :
  (rootAlive vocS = true ∧ domOn vocS 11 = true ∧ vocS.chg.cfgNext = [] ∧ vocS.regs.late = [] ∧ vocS.chg.revStart = 0 ∧
    vocS.chg.state = .cc ∧ fwdBlocked vocS = false ∧ vocS.chg.sweep = some { sweepAt 0 with vocMs := 2 } ∧ ccS.chg.sweep = none) ∧
  (∀ s ∈ [ccS, putS, vocS, blockedS, needS, revSoon, chgOff, chgRetains, rootLost], s.mp.trimGoal = none ∧ s.mp.itemsWait = false) ∧
  (mpRuns chgOff = true ∧ mpRuns { chgOff with glb := { chgOff.glb with mpRunning := false } } = false) ∧
  (rootAlive (trimTick trims) = true ∧ domOn (trimTick trims) 11 = true ∧ (trimTick trims).chg.cfgNext = [] ∧
    bntcTemp (trimTick trims) (sample 13000).bntc.toNat = some 250 ∧ (trimTick trims).chg.cfg.isSome = true) :=
  ⟨by decide, by decide, by decide, by decide +kernel⟩

/-- The best power so far met again at a higher voltage; the mover of more than 5 %. -/
theorem witness_ChargerEvents_7 :
  (5 * (sweepAt 63).vref0 < 100 * (((1700 : Nat) : Int) - (sweepAt 63).vref0).natAbs) ∧
  (let c := (sweepS .cc 62 13000).chg; c.sweep = some (sweepAt 62) ∧ 1700 < sweepV c.voc 5) := by decide

theorem witness_ChargerEvents_1 :
  (chgRuns (youngS ChgState.idle 7) = true ∧ (youngS ChgState.idle 7).chg.qualMs < 1001) ∧
  (chgRuns (qualS Source.panel 13000) = true ∧ (qualS Source.panel 13000).chg.state = ChgState.qualifying ∧ (qualS Source.panel
    13000).chg.source = Source.none ∧ 1001 ≤ (qualS Source.panel 13000).chg.qualMs ∧ wakeOnSource (qualS Source.panel 13000) =
    false ∧ (qualS Source.panel 13000).chg.cand = Source.panel) ∧
  (chgRuns (qualS Source.vehicle 6000) = true ∧ (qualS Source.vehicle 6000).chg.state = ChgState.qualifying ∧ (qualS
    Source.vehicle 6000).chg.source = Source.none ∧ 1001 ≤ (qualS Source.vehicle 6000).chg.qualMs ∧ wakeOnSource (qualS
    Source.vehicle 6000) = false ∧ (qualS Source.vehicle 6000).chg.cand = Source.vehicle ∧ 6000 ≤ (qualS Source.vehicle
    6000).chg.vb) ∧
  (chgRuns (qualS Source.vehicle 5999) = true ∧ (qualS Source.vehicle 5999).chg.state = ChgState.qualifying ∧ (qualS
    Source.vehicle 5999).chg.source = Source.none ∧ 1001 ≤ (qualS Source.vehicle 5999).chg.qualMs ∧ wakeOnSource (qualS
    Source.vehicle 5999) = false ∧ (qualS Source.vehicle 5999).chg.cand = Source.vehicle ∧ (qualS Source.vehicle 5999).chg.vb <
    6000 ∧ bitOf (qualS Source.vehicle 5999).chg.faults 2 = false) ∧
  (chgRuns (youngS ChgState.cc 7) = true ∧ (youngS ChgState.cc 7).chg.vaLowMs < 10 ∧ (inSession (youngS ChgState.cc 7) = false ∨
    (youngS ChgState.cc 7).chg.weakMs < 60000)) :=
  ⟨(by decide), (by decide), (by decide), (by decide), (by decide)⟩

theorem witness_ChargerEvents_2 :
  (chgRuns (lostS 999 100) = true ∧ inSession (lostS 999 100) = true ∧ (lostS 999 100).chg.source ≠ Source.none ∧ 10 ≤ (lostS
    999 100).chg.vaLowMs) ∧
  (chgRuns (lostS 1000 9) = true ∧ inSession (lostS 1000 9) = true ∧ (lostS 1000 9).chg.source ≠ Source.none ∧ (lostS 1000
    9).chg.vaLowMs < 10 ∧ 60000 ≤ (lostS 1000 9).chg.weakMs) ∧
  (chgRuns (youngS ChgState.cc 7) = true ∧ (youngS ChgState.cc 7).chg.mpptMs < 250) ∧
  (chgRuns ccS = true ∧ mpptActive ccS = true ∧ ccS.chg.sweep = none ∧ 250 ≤ ccS.chg.mpptMs) ∧
  (chgRuns (youngS ChgState.cc 7) = true ∧ (youngS ChgState.cc 7).chg.stepMs < 20) :=
  ⟨(by decide), (by decide), (by decide), (by decide), (by decide)⟩

theorem witness_ChargerEvents_3 :
  (chgRuns (sweepS ChgState.cc 62 13000) = true ∧ (sweepS ChgState.cc 62 13000).chg.source = Source.panel ∧ (sweepS ChgState.cc
    62 13000).chg.sweep = some (sweepAt 62) ∧ 20 ≤ (sweepS ChgState.cc 62 13000).chg.stepMs ∧ (sweepAt 62).step < 63) ∧
  (chgRuns (sweepS ChgState.cc 63 13000) = true ∧ (sweepS ChgState.cc 63 13000).chg.source = Source.panel ∧ (sweepS ChgState.cc
    63 13000).chg.sweep = some (sweepAt 63) ∧ 20 ≤ (sweepS ChgState.cc 63 13000).chg.stepMs ∧ (sweepAt 63).step = 63 ∧ (sweepS
    ChgState.cc 63 13000).chg.state ≠ ChgState.qualifying) ∧
  (chgRuns (sweepS ChgState.qualifying 63 6000) = true ∧ (sweepS ChgState.qualifying 63 6000).chg.source = Source.panel ∧
    (sweepS ChgState.qualifying 63 6000).chg.sweep = some (sweepAt 63) ∧ 20 ≤ (sweepS ChgState.qualifying 63 6000).chg.stepMs ∧
    (sweepAt 63).step = 63 ∧ (sweepS ChgState.qualifying 63 6000).chg.state = ChgState.qualifying ∧ 6000 ≤ (sweepS
    ChgState.qualifying 63 6000).chg.vb) ∧
  (chgRuns (youngS ChgState.cc 7) = true ∧ (youngS ChgState.cc 7).chg.sweepMs < 600000) ∧
  (chgRuns ccS = true ∧ mpptActive ccS = true ∧ inSession ccS = true ∧ ccS.chg.sweep = none ∧ 600000 ≤ ccS.chg.sweepMs) :=
  ⟨(by decide), (by decide), (by decide), (by decide), (by decide)⟩

theorem witness_ChargerEvents_4 :
  (chgRuns ccS = true ∧ ccS.chg.cfg.isSome = true ∧ 100 ≤ ccS.chg.bandMs ∧ ((1965#16).toNat * 100 < 3 * 65536 ∨ 97 * 65536 < (1965#16).toNat * 100) ∧
    inSession ccS = true ∧ bitOf ccS.chg.faults 5 = false) ∧
  (chgRuns ccS = true ∧ ccS.chg.cfg.isSome = true ∧ 100 ≤ ccS.chg.bandMs ∧ bntcTemp ccS (32768#16).toNat = some 250) ∧
  (chgRuns (youngS ChgState.cc 7) = true ∧ (youngS ChgState.cc 7).chg.timerHalf < (youngS ChgState.cc 7).chg.timerH * 7200000) ∧
  (chgRuns ccS = true ∧ inSession ccS = true ∧ ccS.chg.state ≠ ChgState.suspended ∧ ccS.chg.timerH * 7200000 ≤ ccS.chg.timerHalf
    ∧ bitOf ccS.chg.faults 0 = false) ∧
  (chgRuns (youngS ChgState.precharge 7) = true ∧ (youngS ChgState.precharge 7).chg.preMs ≤ (youngS ChgState.precharge
    7).chg.preMin * 60000) :=
  ⟨(by decide), (by decide +kernel), (by decide), (by decide), (by decide)⟩

theorem witness_ChargerEvents_5 :
  (chgRuns preS = true ∧ preS.chg.state = ChgState.precharge ∧ preS.chg.preMin * 60000 < preS.chg.preMs ∧ bitOf preS.chg.faults
    1 = false) ∧
  (chgRuns (youngS ChgState.cv 7) = true ∧ (youngS ChgState.cv 7).chg.termMs < 60000) ∧
  (chgRuns cvS = true ∧ cvS.chg.state = ChgState.cv ∧ 60000 ≤ cvS.chg.termMs) ∧
  (chgRuns (againS 13199) = true ∧ (againS 13199).chg.waitRechg = true ∧ ((againS 13199).chg.state = ChgState.idle ∨ (againS
    13199).chg.state = ChgState.done) ∧ (10000 ≤ (againS 13199).chg.rechgMs ∨ cU (chgBlock (againS 13199)) 25 1 ≠ 0 ∧ (againS
    13199).gauge.socRep < 100 * cU (chgBlock (againS 13199)) 25 1)) ∧
  (chgRuns (youngS ChgState.reverse 5) = true ∧ (youngS ChgState.reverse 5).chg.revMs < 60000 * 1 + 100) :=
  ⟨(by decide), (by decide), (by decide), (by decide), (by decide)⟩

theorem witness_ChargerEvents_6 :
  (chgRuns revRuns = true ∧ revRuns.chg.state = ChgState.reverse ∧ (60000 * (if fld revRuns 0x6024 16 8 = 0 then 1 else fld revRuns 0x6024
    16 8) + 100 ≤ revRuns.chg.revMs) ∧ fld revRuns 24612 0 16 ≤ 10 * (2200#16).toNat) ∧
  (chgRuns revRuns = true ∧ revRuns.chg.state = ChgState.reverse ∧ (60000 * (if fld revRuns 0x6024 16 8 = 0 then 1 else fld revRuns 0x6024
    16 8) + 100 ≤ revRuns.chg.revMs) ∧ 10 * (2199#16).toNat < fld revRuns 24612 0 16) ∧
  (chgRuns (youngS ChgState.idle 7) = true ∧ (youngS ChgState.idle 7).chg.retryMs < 60000 ∧ (youngS ChgState.idle 7).chg.bandMs < 100) ∧
  (chgRuns ccS = true ∧ 60000 ≤ ccS.chg.retryMs) :=
  ⟨(by decide), (by decide), (by decide), (by decide)⟩

theorem witness_PackAndGauge_1 :
  (chgRuns authA = true ∧ authA.chg.authRunning = true ∧ (authA.chg.authAttempts = 0 ∨ 100 ≤ authA.chg.authMs) ∧
    packIdent bakRawI = some bakIdent ∧ packResponse (bakRawR authA) = some
    (packExpected authA (Config.freeChallenge authA.free) (BitVec.setWidth 64 bakIdent)) ∧ packKeyOk authA = true ∧ bitsOf
    bakIdent 80 8 = 1 ∧ bitsOf bakIdent 88 8 = 4 ∧ (¬(authA.ret.packSerial.isSome = true ∧ authA.ret.packSerial ≠ some
    (BitVec.setWidth 64 bakIdent)))) ∧
  (chgRuns authB = true ∧ authB.chg.authRunning = true ∧ (authB.chg.authAttempts = 0 ∨ 100 ≤ authB.chg.authMs) ∧
    packIdent bakRawI = some bakIdent ∧ packResponse (bakRawR authB) = some
    (packExpected authB (Config.freeChallenge authB.free) (BitVec.setWidth 64 bakIdent)) ∧ packKeyOk authB = true ∧ bitsOf
    bakIdent 80 8 = 1 ∧ bitsOf bakIdent 88 8 = 4 ∧ (authB.ret.packSerial.isSome = true ∧ authB.ret.packSerial ≠ some
    (BitVec.setWidth 64 bakIdent))) ∧
  (chgRuns authA = true ∧ authA.chg.authRunning = true ∧ (authA.chg.authAttempts = 0 ∨ 100 ≤ authA.chg.authMs) ∧
    (¬ ∃ i : BitVec 128, packIdent none = some i ∧ packResponse none
    = some (packExpected authA (Config.freeChallenge (authA).free) (i.setWidth 64)) ∧ packKeyOk authA = true
    ∧ bitsOf i 80 8 = 1 ∧ bitsOf i 88 8 = 4) ∧ authA.chg.authAttempts < 2) ∧
  (chgRuns (keysGood (authS 16 2 none)) = true ∧ (keysGood (authS 16 2 none)).chg.authRunning = true ∧
    ((keysGood (authS 16 2 none)).chg.authAttempts = 0 ∨ 100 ≤ (keysGood (authS 16 2 none)).chg.authMs) ∧ (¬ ∃ i : BitVec 128,
    packIdent none = some i ∧ packResponse none = some (packExpected (keysGood (authS 0x10 2 none))
    (Config.freeChallenge ((keysGood (authS 0x10 2 none))).free) (i.setWidth 64)) ∧ packKeyOk (keysGood (authS 0x10 2 none)) =
    true ∧ bitsOf i 80 8 = 1 ∧ bitsOf i 88 8 = 4) ∧ 2 ≤ (keysGood (authS 16 2 none)).chg.authAttempts) ∧
  (chgRuns (passedS 86405) = true ∧ authReq (passedS 86405) = true ∧ (passedS 86405).chg.authRunning = false ∧ (passedS
    86405).chg.authPassAt = some 5 ∧ 86400 + 5 ≤ (passedS 86405).upSeconds) :=
  ⟨⟨by decide, by decide, by decide, packIdent_reply _, packResponse_reply _, by decide⟩,
    ⟨by decide, by decide, by decide, packIdent_reply _, packResponse_reply _, by decide⟩,
    ⟨by decide, by decide, by decide, (fun ⟨_, h, _⟩ => by cases h), by decide⟩,
    ⟨by decide, by decide, by decide, (fun ⟨_, h, _⟩ => by cases h), by decide⟩, (by decide)⟩

/-- An attempt that comes before 100 ms have passed. -/
theorem witness_PackAndGauge_early : let s := setChg authA { authA.chg with authAttempts := 1, authMs := 99 }
    chgRuns s = true ∧ s.chg.authRunning = true ∧ s.chg.authAttempts ≠ 0 ∧ s.chg.authMs < 100 := by decide

theorem witness_PackAndGauge_2 :
  (chgRuns (passedS 86404) = true ∧ authReq (passedS 86404) = true ∧ (passedS 86404).chg.authRunning = false ∧ (passedS
    86404).chg.authPassAt = some 5 ∧ (passedS 86404).upSeconds < 86400 + 5) ∧
  (chgRuns ccS = true ∧ ccS.chg.capture = none ∧ ibStep.length = 128 ∧ (200 ≤ (capIb ibStep 32 - capIb ibStep 31).natAbs ∨ 200 ≤
    (capIb ibStep 32 - capIb ibStep 30).natAbs ∨ 200 ≤ (capIb ibStep 33 - capIb ibStep 31).natAbs)) ∧
  (chgRuns ccS = true ∧ ccS.chg.capture = none ∧ (ibFlat.length ≠ 128 ∨ ¬(200 ≤ (capIb ibFlat 32 - capIb ibFlat 31).natAbs ∨ 200
    ≤ (capIb ibFlat 32 - capIb ibFlat 30).natAbs ∨ 200 ≤ (capIb ibFlat 33 - capIb ibFlat 31).natAbs))) ∧
  (domOn gaugeNone 3 = true ∧ rootAlive gaugeNone = true ∧ gaugeNone.glb.mpRunning = true) ∧
  (domOn gaugeNone 3 = true ∧ rootAlive gaugeNone = true ∧ gaugeNone.glb.mpRunning = true ∧ gaugeNone.chg.cfg = none) :=
  ⟨(by decide), (by decide +kernel), (by decide +kernel), (by decide), (by decide)⟩

theorem witness_PackAndGauge_3 :
  (domOn gaugeSome 3 = true ∧ rootAlive gaugeSome = true ∧ gaugeSome.glb.mpRunning = true ∧ gaugeSome.chg.cfg = some (blockOf
    7)) ∧
  ((domOff ready 11 = true ∨ flag ready 24644 31 = false ∨ (BitVec.extractLsb' 0 16 (rd ready 24644) ++ rd ready 24640).toInt <
    ready.chg.qb.toInt)) ∧
  (domOff mpAsleep 11 = false ∧ flag mpAsleep 24644 31 = true ∧ mpAsleep.chg.qb.toInt ≤ (BitVec.extractLsb' 0 16 (rd mpAsleep
    24644) ++ rd mpAsleep 24640).toInt ∧ (dom mpAsleep 3).state ≠ DomState.on ∧ (dom mpAsleep 3).move = none ∧ startBarred
    mpAsleep 3 = false) :=
  ⟨(by decide), (by decide), (by decide)⟩

end Sys2Proof.Tests
end

