-- ==== Sys2Proof/Tests/Faults.lean ====
section
/-! SUPPORT. Witnesses of the statements on fault lines and Goose: states and operands that meet each clause. -/

namespace Sys2Proof.Tests
open Sys2Proof.Machine
set_option exponentiation.threshold 30000
set_option Elab.async false

/-- Line `k` asserted with a detail. -/
def lined (k : Nat) (s : State) : State := assertLine s k 0x1234
def latched9 : State := { ready with flt := { ready.flt with status := 0x200, safeN := false, aliveRun := true, firstValid := true, firstSource := 9 } }
def alive : State := { ready with flt := { ready.flt with safeN := false, aliveRun := true } }
/-- The MP lockup line asserted with PD_MP off. -/
def mpOffLine : State := let s := lined 21 alive; { s with pwr := { s.pwr with doms := vput s.pwr.doms 3 (Domain.init .off) } }
/-- Without CLK_SAFE. -/
def noClk : State := { ready with flt := { ready.flt with clkSafe := false } }
/-- Goose instances in the middle of a normal period of 100 ms. -/
def gooseIn : Goose := { Goose.reset with started := true, period := 100, mask := 3, nextPeriod := 200, nextMask := 1, configured := true, t := 10 }
def goosed : State := { ready with goose0 := gooseIn, goose1 := gooseIn }
def gooseAll : State := { ready with goose0 := { gooseIn with checked := 3 }, goose1 := { gooseIn with checked := 3 } }
def gooseBooting : State := { ready with goose0 := { gooseIn with boot := true }, goose1 := { gooseIn with boot := true, configured := false } }
def gooseStrictOn : State := wr gooseAll 0x7180 4 4
def gooseEsc (n : Nat) : State :=
  { ready with goose0 := { gooseIn with level := 1 }, goose1 := { gooseIn with level := 1 }, ret := { ready.ret with streak0 := n, streak1 := n } }
def gcfg (i p : Nat) : Desc := dsc i 0 [(128, 16, p), (144, 16, 5)]
def key (n : Nat) : Word := BitVec.ofNat 32 (0x60050000 + n)
def wdiPulse : State := { ready with seq := { ready.seq with wdiPulse := true, pulseAt := some 0, hostRst := false }, goose0 := { gooseIn with hold := true } }
def g0Pulse : State := { ready with g0Reset := true, g0ResetAt := some 0, seq := { ready.seq with hostRst := false }, goose0 := { gooseIn with hold := true } }

theorem witness_FaultLatches_1 :
  ((lined 25 alive).flt.clkSafe = true ∧ bitOf (lined 25 alive).flt.status 25 = false ∧ (lined 25 alive).flt.lines.get? 25 =
    some 4660#32 ∧ lineReads (lined 25 alive) 25 4660#32 = true) ∧
  ((lined 31 latched9).flt.clkSafe = true ∧ bitOf (lined 31 latched9).flt.status 31 = false ∧ (lined 31 latched9).flt.lines.get?
    31 = some 4660#32 ∧ lineReads (lined 31 latched9) 31 4660#32 = true) ∧
  ((lined 0 latched9).flt.clkSafe = true ∧ bitOf (lined 0 latched9).flt.status 0 = false ∧ (lined 0 latched9).flt.lines.get? 0 =
    some 4660#32 ∧ lineReads (lined 0 latched9) 0 4660#32 = true) ∧
  (latched9.flt.clkSafe = true ∧ bitOf latched9.flt.status 9 = true) ∧
  (mpOffLine.flt.clkSafe = true ∧ mpOffLine.flt.lines.get? 21 = some 4660#32 ∧ lineReads mpOffLine 21 4660#32 = false ∧
    lineReads mpOffLine 21 0#32 = false) :=
  ⟨(by decide), (by decide), (by decide), (by decide), (by decide)⟩

theorem witness_FaultLatches_alone :
  ((lined 25 alive).flt.firstValid = false ∧ ∀ j, j < 25 → fltPending (lined 25 alive) j = none) ∧
  (latched9.flt.firstValid = true) ∧ (mpOffLine.flt.firstValid = false ∧ ∀ j, j < 21 → fltPending mpOffLine j = none) ∧
  ((lined 25 (lined 9 alive)).flt.clkSafe = true ∧ (lined 25 (lined 9 alive)).flt.firstValid = false ∧
    (∀ j, j < 9 → fltPending (lined 25 (lined 9 alive)) j = none) ∧ fltPending (lined 25 (lined 9 alive)) 9 = some 4660#32) :=
  ⟨(by decide), (by decide), (by decide), (by decide)⟩

/-- Rows for a source whose bit is 1: one that latched on chip, an outside source, and one whose domain is off. -/
theorem witness_FaultLatches_3 :
  (let s := { latched9 with flt := { latched9.flt with status := 0x10200200 } };
    s.flt.clkSafe = true ∧ s.flt.firstValid = true ∧
    (bitOf s.flt.status 9 = true ∧ 9 ∉ outsideSources ∧ 9 ≠ 6) ∧
    (bitOf s.flt.status 28 = true ∧ 28 ∈ [2, 5, 21, 28] ∧ lineReads s 28 0 = true ∧ s.flt.lines.get? 28 = none) ∧
    (bitOf s.flt.status 21 = true ∧ lineReads { s with pwr := { s.pwr with doms := vput s.pwr.doms 3 (Domain.init .off) } } 21 0 = false)) := by
  decide

theorem witness_FaultLatches_2 :
  (alive.flt.clkSafe = true ∧ bitOf alive.flt.status 4 = false) ∧
  (alive.flt.clkSafe = true) ∧
  (alive.flt.aliveRun = true ∧ alive.flt.clkSafe = true) :=
  ⟨(by decide), (by decide), (by decide)⟩

theorem witness_FaultRegisters_1 :
  (Via.host ≠ Via.sideband ∧ viaReach latched9 Via.host = true ∧ latched9.flt.clkSafe = true ∧ (noClk.flt.clkSafe = false)) ∧
  (Via.host ≠ Via.sideband ∧ viaReach (faulted ready) Via.host = true ∧ (faulted ready).flt.faultState = true ∧ (faulted ready).flt.clkSafe = true) ∧
  (Via.mp ≠ Via.sideband ∧ viaReach latched9 Via.mp = true ∧ latched9.flt.faultState = false ∧ latched9.flt.clkSafe = true) ∧
  (Via.mp ≠ Via.sideband ∧ viaReach ready Via.mp = true ∧ bitsOf (2119565313#32) 16 16 ≠ 32343) ∧
  (Via.host ≠ Via.sideband ∧ viaReach ready Via.host = true ∧ bitsOf (2119696383#32) 16 16 = 32343 ∧ ready.flt.lines.get? 22 =
    none) :=
  ⟨(by decide), (by decide), (by decide), (by decide), (by decide)⟩

theorem witness_FaultRegisters_2 :
  (Via.host ≠ Via.sideband ∧ viaReach ready Via.host = true) ∧
  (ready.pwr.pllRuns = true) ∧
  ((ready.pwr.pllRuns = true ∨ ready.flt.pllFirst = true) ∧ ready.flt.lines.get? 3 = none) :=
  ⟨(by decide), (by decide), (by decide)⟩

theorem witness_GooseServices_1 :
  (∃ q k, Taken specGooseConfig h0 (gcfg 1 5) ready q k ∧ (gcfg 1 5).target.toNat < 2 ∧ (¬((gcfg 1 5).target.toNat = 1 ↔ reqIsMp
    h0 = true))) ∧
  (∃ q k, Taken specGooseConfig mp0 (gcfg 0 5) ready q k ∧ (gcfg 0 5).target.toNat < 2 ∧ (¬((gcfg 0 5).target.toNat = 1 ↔
    reqIsMp mp0 = true))) ∧
  (∃ q k, Taken specGooseConfig h0 (gcfg 2 5) ready q k ∧ 2 ≤ (gcfg 2 5).target.toNat) ∧
  (∃ q k, Taken specGooseConfig h0 (gcfg 0 0) ready q k ∧ (gcfg 0 0).target.toNat < 2 ∧ ((gcfg 0 0).target.toNat = 1 ↔ reqIsMp
    h0 = true) ∧ opn (gcfg 0 0) 16 0 16 = 0) ∧
  (∃ q k, Taken specGooseConfig h0 (gcfg 0 5) ready q k ∧ (gcfg 0 5).target.toNat < 2 ∧ ((gcfg 0 5).target.toNat = 1 ↔ reqIsMp
    h0 = true) ∧ opn (gcfg 0 5) 16 0 16 ≠ 0 ∧ (goose q (gcfg 0 5).target.toNat).started = false) :=
  ⟨⟨_, _, taken (by decide) (by decide), by decide⟩, ⟨_, _, taken (by decide) (by decide), by decide⟩, ⟨_, _, taken (by decide)
    (by decide), by decide⟩, ⟨_, _, taken (by decide) (by decide), by decide⟩, ⟨_, _, taken (by decide) (by decide), by decide⟩⟩

theorem witness_GooseServices_2 :
  (∃ q k, Taken specGooseConfig mp0 (gcfg 1 1) ready q k ∧ (gcfg 1 1).target.toNat < 2 ∧ ((gcfg 1 1).target.toNat = 1 ↔ reqIsMp
    mp0 = true) ∧ opn (gcfg 1 1) 16 0 16 ≠ 0 ∧ (goose q (gcfg 1 1).target.toNat).started = false) ∧
  (∃ q k, Taken specGooseConfig h0 (gcfg 0 5) goosed q k ∧ (gcfg 0 5).target.toNat < 2 ∧ ((gcfg 0 5).target.toNat = 1 ↔ reqIsMp
    h0 = true) ∧ opn (gcfg 0 5) 16 0 16 ≠ 0 ∧ (goose q (gcfg 0 5).target.toNat).started = true ∧ (goose q (gcfg 0
    5).target.toNat).hold = false ∧ gooseCounts q (gcfg 0 5).target.toNat = true ∧ (goose q (gcfg 0 5).target.toNat).t ≤ 200000
    ∧ windowFrom q (goose q (gcfg 0 5).target.toNat) ≤ 200000 ∧ 200000 < expiryAt (goose q (gcfg 0 5).target.toNat)) ∧
  (∃ q k, Taken specGooseConfig h0 (gcfg 0 5) goosed q k ∧ (gcfg 0 5).target.toNat < 2 ∧ ((gcfg 0 5).target.toNat = 1 ↔ reqIsMp
    h0 = true) ∧ opn (gcfg 0 5) 16 0 16 ≠ 0 ∧ (goose q (gcfg 0 5).target.toNat).started = true ∧ (goose q (gcfg 0
    5).target.toNat).hold = false ∧ gooseCounts q (gcfg 0 5).target.toNat = true ∧ (goose q (gcfg 0 5).target.toNat).t ≤ 399999
    ∧ windowFrom q (goose q (gcfg 0 5).target.toNat) ≤ 399999 ∧ 399999 < expiryAt (goose q (gcfg 0 5).target.toNat)) ∧
  (∃ q k, Taken specGooseConfig h0 (gcfg 0 5) goosed q k ∧ (gcfg 0 5).target.toNat < 2 ∧ ((gcfg 0 5).target.toNat = 1 ↔ reqIsMp
    h0 = true) ∧ opn (gcfg 0 5) 16 0 16 ≠ 0 ∧ (goose q (gcfg 0 5).target.toNat).started = true ∧ (goose q (gcfg 0
    5).target.toNat).hold = false ∧ (199999 < (goose q (gcfg 0 5).target.toNat).t ∨ 199999 < windowFrom q (goose q (gcfg 0
    5).target.toNat) ∨ expiryAt (goose q (gcfg 0 5).target.toNat) ≤ 199999)) ∧
  (∃ q k, Taken specGooseConfig h0 (gcfg 0 5) goosed q k ∧ (gcfg 0 5).target.toNat < 2 ∧ ((gcfg 0 5).target.toNat = 1 ↔ reqIsMp
    h0 = true) ∧ opn (gcfg 0 5) 16 0 16 ≠ 0 ∧ (goose q (gcfg 0 5).target.toNat).started = true ∧ (goose q (gcfg 0
    5).target.toNat).hold = false ∧ (400000 < (goose q (gcfg 0 5).target.toNat).t ∨ 400000 < windowFrom q (goose q (gcfg 0
    5).target.toNat) ∨ expiryAt (goose q (gcfg 0 5).target.toNat) ≤ 400000)) :=
  ⟨⟨_, _, taken (by decide) (by decide), by decide⟩, ⟨_, _, taken (by decide) (by decide), by decide⟩, ⟨_, _, taken (by decide)
    (by decide), by decide⟩, ⟨_, _, taken (by decide) (by decide), by decide⟩, ⟨_, _, taken (by decide) (by decide), by decide⟩⟩

theorem witness_GooseServices_3 :
  (gooseOwner goosed 1 = true ∧ gooseCounts goosed 1 = true ∧ (goose goosed 1).t ≤ 20 ∧ 20 < expiryAt (goose goosed 1) ∧ bitsOf
    (0#32) 16 16 ≠ 24581) ∧
  (gooseOwner goosed 0 = true ∧ gooseCounts goosed 0 = true ∧ (goose goosed 0).t ≤ 20 ∧ 20 < expiryAt (goose goosed 0) ∧ bitsOf
    (key 1) 16 16 = 24581 ∧ ((goose goosed 0).boot = true ∨ bitOf (goose goosed 0).mask (bitsOf (key 1) 0 4) = true ∧ bitOf
    (goose goosed 0).checked (bitsOf (key 1) 0 4) = false)) ∧
  (gooseOwner gooseBooting 0 = true ∧ gooseCounts gooseBooting 0 = true ∧ (goose gooseBooting 0).t ≤ 20 ∧ 20 < expiryAt (goose
    gooseBooting 0) ∧ bitsOf (key 9) 16 16 = 24581 ∧ ((goose gooseBooting 0).boot = true ∨ bitOf (goose gooseBooting 0).mask
    (bitsOf (key 9) 0 4) = true ∧ bitOf (goose gooseBooting 0).checked (bitsOf (key 9) 0 4) = false)) ∧
  (gooseOwner gooseAll 1 = true ∧ gooseCounts gooseAll 1 = true ∧ (goose gooseAll 1).t ≤ 20 ∧ 20 < expiryAt (goose gooseAll 1) ∧
    bitsOf (key 5) 16 16 = 24581 ∧ (goose gooseAll 1).boot = false ∧ bitOf (goose gooseAll 1).mask (bitsOf (key 5) 0 4) = false
    ∧ gooseStrict gooseAll = false) ∧
  (gooseOwner gooseStrictOn 0 = true ∧ gooseCounts gooseStrictOn 0 = true ∧ (goose gooseStrictOn 0).t ≤ 20 ∧ 20 < expiryAt
    (goose gooseStrictOn 0) ∧ bitsOf (key 5) 16 16 = 24581 ∧ (goose gooseStrictOn 0).boot = false ∧ bitOf (goose gooseStrictOn
    0).mask (bitsOf (key 5) 0 4) = false ∧ gooseStrict gooseStrictOn = true) :=
  ⟨(by decide), (by decide), (by decide), (by decide), (by decide)⟩

theorem witness_GooseServices_4 :
  (gooseOwner gooseAll 1 = true ∧ gooseCounts gooseAll 1 = true ∧ (goose gooseAll 1).t ≤ 20 ∧ 20 < expiryAt (goose gooseAll 1) ∧
    bitsOf (key 1) 16 16 = 24581 ∧ (goose gooseAll 1).boot = false ∧ bitOf (goose gooseAll 1).mask (bitsOf (key 1) 0 4) = true ∧
    bitOf (goose gooseAll 1).checked (bitsOf (key 1) 0 4) = true ∧ gooseStrict gooseAll = false) ∧
  (gooseOwner gooseStrictOn 0 = true ∧ gooseCounts gooseStrictOn 0 = true ∧ (goose gooseStrictOn 0).t ≤ 20 ∧ 20 < expiryAt
    (goose gooseStrictOn 0) ∧ bitsOf (key 1) 16 16 = 24581 ∧ (goose gooseStrictOn 0).boot = false ∧ bitOf (goose gooseStrictOn
    0).mask (bitsOf (key 1) 0 4) = true ∧ bitOf (goose gooseStrictOn 0).checked (bitsOf (key 1) 0 4) = true ∧ gooseStrict
    gooseStrictOn = true) ∧
  (gooseOwner gooseAll 0 = true ∧ gooseCounts gooseAll 0 = true ∧ (goose gooseAll 0).t ≤ 199999 ∧ 199999 < expiryAt (goose
    gooseAll 0) ∧ bitsOf (key 0) 16 16 = 24581 ∧ (goose gooseAll 0).boot = false ∧ 199999 < windowFrom gooseAll (goose gooseAll
    0)) ∧
  (gooseOwner goosed 1 = true ∧ gooseCounts goosed 1 = true ∧ (goose goosed 1).t ≤ 200000 ∧ 200000 < expiryAt (goose goosed 1) ∧
    bitsOf (key 0) 16 16 = 24581 ∧ (goose goosed 1).boot = false ∧ windowFrom goosed (goose goosed 1) ≤ 200000 ∧ (goose goosed
    1).mask &&& ~~~(goose goosed 1).checked ≠ 0#16) ∧
  (gooseOwner gooseAll 0 = true ∧ gooseCounts gooseAll 0 = true ∧ (goose gooseAll 0).t ≤ 200000 ∧ 200000 < expiryAt (goose
    gooseAll 0) ∧ bitsOf (key 0) 16 16 = 24581 ∧ ((goose gooseAll 0).boot = true ∨ windowFrom gooseAll (goose gooseAll 0) ≤
    200000 ∧ (goose gooseAll 0).mask &&& ~~~(goose gooseAll 0).checked = 0#16)) :=
  ⟨(by decide), (by decide), (by decide), (by decide), (by decide)⟩

theorem witness_GooseServices_5 :
  (gooseOwner gooseAll 1 = true ∧ gooseCounts gooseAll 1 = true ∧ (goose gooseAll 1).t ≤ 399999 ∧ 399999 < expiryAt (goose
    gooseAll 1) ∧ bitsOf (key 0) 16 16 = 24581 ∧ ((goose gooseAll 1).boot = true ∨ windowFrom gooseAll (goose gooseAll 1) ≤
    399999 ∧ (goose gooseAll 1).mask &&& ~~~(goose gooseAll 1).checked = 0#16)) ∧
  (gooseOwner gooseBooting 1 = true ∧ gooseCounts gooseBooting 1 = true ∧ (goose gooseBooting 1).t ≤ 20 ∧ 20 < expiryAt (goose
    gooseBooting 1) ∧ bitsOf (key 0) 16 16 = 24581 ∧ ((goose gooseBooting 1).boot = true ∨ windowFrom gooseBooting (goose
    gooseBooting 1) ≤ 20 ∧ (goose gooseBooting 1).mask &&& ~~~(goose gooseBooting 1).checked = 0#16)) :=
  ⟨(by decide), (by decide)⟩

/-- The cycle of a violation, and the time after it. -/
theorem witness_GooseServices_6 :
  (let s := { goosed with goose0 := { gooseIn with violated := true, boot := true, t := 0 } };
    gooseOwner s 0 = true ∧ gooseCounts s 0 = true ∧ (goose s 0).t ≤ 0 ∧ 1 < expiryAt (goose s 0) ∧ (goose s 0).violated = true ∧
    bitsOf (key 1) 16 16 = 24581) ∧
  goosed.goose0.violated = false := by decide

theorem witness_GooseEscalations_1 :
  (gooseCounts goosed 0 = true ∧ goosed.goose0.level = 0) ∧
  (gooseCounts goosed 1 = true ∧ goosed.goose1.level = 0 ∧ (dom goosed 3).move = none) ∧
  (gooseCounts (gooseEsc 0) 0 = true ∧ (goose (gooseEsc 0) 0).level ≠ 0 ∧ streak (gooseEsc 0) 0 < gooseN (gooseEsc 0)) ∧
  (gooseCounts (gooseEsc 0) 1 = true ∧ (goose (gooseEsc 0) 1).level ≠ 0 ∧ streak (gooseEsc 0) 1 < gooseN (gooseEsc 0)) ∧
  (gooseCounts (gooseEsc 7) 0 = true ∧ (goose (gooseEsc 7) 0).level ≠ 0 ∧ gooseN (gooseEsc 7) ≤ streak (gooseEsc 7) 0) :=
  ⟨(by decide), (by decide), (by decide), (by decide), (by decide)⟩

theorem witness_GooseEscalations_2 :
  (gooseCounts (gooseEsc 7) 1 = true ∧ (goose (gooseEsc 7) 1).level ≠ 0 ∧ gooseN (gooseEsc 7) ≤ streak (gooseEsc 7) 1) ∧
  (gooseCounts goosed 0 = true ∧ goosed.goose0.warned = false ∧ goosed.goose0.t ≤ warnAt goosed.goose0) ∧
  (gooseCounts goosed 0 = true ∧ goosed.goose0.warned = false ∧ goosed.goose0.t ≤ warnAt goosed.goose0 ∧ 0 <
    goosed.goose0.period ∧ goosed.goose0.level = 0) ∧
  (wdiPulse.seq.wdiPulse = true ∧ waited wdiPulse.seq.pulseAt (1000 * clampN 1 255 (fld wdiPulse 0x5020 16 8)) 999 = false) ∧
  (wdiPulse.seq.wdiPulse = true ∧ waited wdiPulse.seq.pulseAt (1000 * clampN 1 255 (fld wdiPulse 0x5020 16 8)) 255000 = true) :=
  ⟨(by decide), (by decide), (by decide), (by decide), (by decide)⟩

theorem witness_GooseEscalations_3 :
  (g0Pulse.g0Reset = true ∧ waited g0Pulse.g0ResetAt (1000 * clampN 1 255 (fld g0Pulse 0x7180 16 8)) 999 = false) ∧
  (g0Pulse.g0Reset = true ∧ waited g0Pulse.g0ResetAt (1000 * clampN 1 255 (fld g0Pulse 0x7180 16 8)) 255000 = true) ∧
  (gooseCounts goosed 0 = true ∧ gooseCounts goosed 1 = true ∧ escalOf goosed 0 ≠ .final ∧ escalOf goosed 1 ≠ .final) ∧
  (gooseCounts (gooseEsc 0) 0 = true ∧ gooseCounts (gooseEsc 0) 1 = true ∧ escalOf (gooseEsc 0) 0 ≠ .final ∧ escalOf (gooseEsc 0) 1 ≠ .final) :=
  ⟨(by decide), (by decide), (by decide), (by decide)⟩

end Sys2Proof.Tests
end

