-- ==== Sys2Proof/Tests/Rails.lean ====
section
/-! SUPPORT. Witnesses of the statements on the rail controllers: states and operands that meet each clause. -/

namespace Sys2Proof.Tests
open Sys2Proof.Machine
set_option exponentiation.threshold 30000
set_option Elab.async false

/-- Rail 3 on phases 0 and 1, its target 1 V, in a state; `soft` sets its soft stop. -/
def railed (r : Rail) : State :=
  let s := wr (wr (wr ready 0x4280 0x11003 0x17FFF) 0x4600 0x1E000 0xFFFFFF01) 0x4620 0x1E000 0xFFFFFF01
  setRail s 3 { r with target := 1000 }
def hardStop (r : Rail) : State := wr (railed r) 0x4280 0 0x10000
def rIn (st : RailState) : Rail := { Rail.reset with state := st, ref := 1, reachedTarget := true, pg := true }
def setV (n v sl : Nat) : Desc := dsc n 0 [(128, 16, v), (144, 16, sl)]
def enR (n on : Nat) : Desc := dsc n 0 [(128, 1, on)]
def modeR (n m : Nat) : Desc := dsc n 0 [(128, 8, m)]
/-- The sequence table holds rail 3. -/
def rec0 : SeqRec :=
  { mtype := 1, index := 3, enPin := 15, enHigh := true, enOd := false, pgPin := 15, pgHigh := true, onDelay := 0, offDelay := 0, pgDebounce := 0,
    pgDeadline := 10, offMv := 50, offTimeout := 100, chatterLim := 0, safe := 0 }
def mem0 (c : SeqRec) (st : MState) : Member := { cfg := c, state := st, slot := false, pgGood := false, chatters := 0, pgTime := 0, pgAt := none, pgSeen := false, faulted := false, on := false }
def ownedRail : State := let s := railed Rail.reset
  { s with seq := { s.seq with state := .down, members := vput s.seq.members 0 (some (mem0 rec0 .off)) } }
def softStarting : State := railed { rIn .softstart with pg := false, ramp := some (1, .ss), ref := 1 / 2, reachedTarget := false }
def atTarget : State := railed { rIn .softstart with pg := false, pgIn := 4000, sinceTarget := 2000000000 }
def slewing : State := railed { rIn .slewing with ref := 1 / 2, ramp := some (1, .cmd 10) }
def m1000 : RailMeas := { mv := 1000, ia := 20, us := 5, cycle := 77 }
def mHigh : RailMeas := { mv := 3000, ia := 20, us := 5, cycle := 77 }
def mLow : RailMeas := { mv := 3, ia := 20, us := 5, cycle := 77 }
/-- The ramps at their ends, and an OV fault whose phases are held low. -/
def rampingUp : State := railed { rIn .softstart with ramp := some (1, .ss) }
def rampedDown : State := railed { rIn .stopping with ref := 0 }
def slewingFull : State := railed { rIn .slewing with ramp := some (1, .cmd 10) }
def ovHigh : State := railed { rIn .fault with vs := 900000, ovLow := true }
def limited : State := railed { rIn .regulating with ilimActive := true, ilimHeld := 250000 }
def ovFault : State := railed { rIn .fault with reason := 2, ovLow := true, pg := false, faultMv := 3000, lowCycles := 250000 }
def slewPg : State := railed { rIn .slewing with pg := false, pgIn := 4000 }
/-- Regulating, each condition of a protection having held long enough. -/
def out (r : Rail) : State := railed { r with ovRun := 250, uvRun := 250000, pgOut := 4000 }
def freshFault : State := railed { rIn .fault with reason := 2, faultCycle := some 77, faultFrom := .regulating, uvRun := 250000 }
def openPhase : State := let s := railed (rIn .regulating)
  { s with rc := { s.rc with phases := vput s.rc.phases 1 { phs s 1 with openRun := 8 } } }
def deciding : State := railed { rIn .precheck with preCycles := 250 * 400 }
def tmonOn (s : State) : State := wr s 0x4000 1 1
def autoR : State := railed { rIn .regulating with mode := .autoBurst, pulseCur := List.replicate 64 0 }
def burstR : State := railed { rIn .regulating with mode := .autoBurst, burst := true, burstPulses := 65, msCycles := 250000 }
def sleepR : State := railed { rIn .regulating with mode := .autoBurst, burst := true, asleep := true }
def sample0 : RailSample := { cycles := 1, vs := 990000, imon := [(0, 1200000), (1, 1210000)], vin := [(0, 12000)] }
def trimming (ok : Bool) : State := railed { rIn .regulating with trimCycles := 250000, trimPulses := 600, trimOk := ok, msCycles := 250000 }
def stoppedMs : State := railed { Rail.reset with msCycles := 250000 }
def blanked : State := railed { rIn .regulating with blank := 1 }

theorem witness_RailCommands_1 :
  (∃ q k, Taken specRailSetVoltage h0 (setV 8 1000 10) ready q k ∧ (8 ≤ (setV 8 1000 10).target.toNat ∨ refMvOf q (setV 8 1000
    10).target.toNat (opn (setV 8 1000 10) 16 0 16) < 300 ∨ 1800 < refMvOf q (setV 8 1000 10).target.toNat (opn (setV 8 1000 10)
    16 0 16) ∨ opn (setV 8 1000 10) 18 0 16 = 0 ∨ 200 < opn (setV 8 1000 10) 18 0 16)) ∧
  (∃ q k, Taken specRailSetVoltage h0 (setV 3 299 10) ready q k ∧ (8 ≤ (setV 3 299 10).target.toNat ∨ refMvOf q (setV 3 299
    10).target.toNat (opn (setV 3 299 10) 16 0 16) < 300 ∨ 1800 < refMvOf q (setV 3 299 10).target.toNat (opn (setV 3 299 10) 16
    0 16) ∨ opn (setV 3 299 10) 18 0 16 = 0 ∨ 200 < opn (setV 3 299 10) 18 0 16)) ∧
  (∃ q k, Taken specRailSetVoltage h0 (setV 3 1801 10) ready q k ∧ (8 ≤ (setV 3 1801 10).target.toNat ∨ refMvOf q (setV 3 1801
    10).target.toNat (opn (setV 3 1801 10) 16 0 16) < 300 ∨ 1800 < refMvOf q (setV 3 1801 10).target.toNat (opn (setV 3 1801 10)
    16 0 16) ∨ opn (setV 3 1801 10) 18 0 16 = 0 ∨ 200 < opn (setV 3 1801 10) 18 0 16)) ∧
  (∃ q k, Taken specRailSetVoltage h0 (setV 3 1000 201) ready q k ∧ (8 ≤ (setV 3 1000 201).target.toNat ∨ refMvOf q (setV 3 1000
    201).target.toNat (opn (setV 3 1000 201) 16 0 16) < 300 ∨ 1800 < refMvOf q (setV 3 1000 201).target.toNat (opn (setV 3 1000
    201) 16 0 16) ∨ opn (setV 3 1000 201) 18 0 16 = 0 ∨ 200 < opn (setV 3 1000 201) 18 0 16)) ∧
  (∃ q k, Taken specRailSetVoltage h0 (setV 3 300 1) ready q k ∧ (setV 3 300 1).target.toNat < 8 ∧ 300 ≤ refMvOf q (setV 3 300
    1).target.toNat (opn (setV 3 300 1) 16 0 16) ∧ refMvOf q (setV 3 300 1).target.toNat (opn (setV 3 300 1) 16 0 16) ≤ 1800 ∧ 1
    ≤ opn (setV 3 300 1) 18 0 16 ∧ opn (setV 3 300 1) 18 0 16 ≤ 200 ∧ (rail q (setV 3 300 1).target.toNat).state ∈
    [RailState.off, RailState.precheck, RailState.stopping, RailState.fault]) :=
  ⟨⟨_, _, taken (by decide) (by decide), by decide⟩, ⟨_, _, taken (by decide) (by decide), by decide⟩, ⟨_, _, taken (by decide)
    (by decide), by decide⟩, ⟨_, _, taken (by decide) (by decide), by decide⟩, ⟨_, _, taken (by decide) (by decide), by decide⟩⟩

theorem witness_RailCommands_2 :
  (∃ q k, Taken specRailSetVoltage h0 (setV 3 1800 200) (railed (rIn RailState.regulating)) q k ∧ (setV 3 1800 200).target.toNat
    < 8 ∧ 300 ≤ refMvOf q (setV 3 1800 200).target.toNat (opn (setV 3 1800 200) 16 0 16) ∧ refMvOf q (setV 3 1800
    200).target.toNat (opn (setV 3 1800 200) 16 0 16) ≤ 1800 ∧ 1 ≤ opn (setV 3 1800 200) 18 0 16 ∧ opn (setV 3 1800 200) 18 0 16
    ≤ 200 ∧ (rail q (setV 3 1800 200).target.toNat).state = RailState.regulating ∧ (targetRef (setRail q 3
    { rail q 3 with target := 1800 }) 3 ≠ (rail q 3).ref)) ∧
  (∃ q k, Taken specRailSetVoltage h0 (setV 3 1100 5) softStarting q k ∧ (setV 3 1100 5).target.toNat < 8 ∧ 300 ≤ refMvOf q
    (setV 3 1100 5).target.toNat (opn (setV 3 1100 5) 16 0 16) ∧ refMvOf q (setV 3 1100 5).target.toNat (opn (setV 3 1100 5) 16
    0 16) ≤ 1800 ∧ 1 ≤ opn (setV 3 1100 5) 18 0 16 ∧ opn (setV 3 1100 5) 18 0 16 ≤ 200 ∧ (rail q (setV 3 1100
    5).target.toNat).state = RailState.softstart ∧ (rail q (setV 3 1100 5).target.toNat).waitSet = none) ∧
  (∃ q k, Taken specRailEnable h0 (enR 8 1) ready q k ∧ 8 ≤ (enR 8 1).target.toNat) ∧
  (∃ q k, Taken specRailEnable h0 (enR 3 1) ownedRail q k ∧ (enR 3 1).target.toNat < 8 ∧ railOwned q (enR 3 1).target.toNat =
    true) ∧
  (∃ q k, Taken specRailEnable h0 (enR 3 1) (railed Rail.reset) q k ∧ (enR 3 1).target.toNat < 8 ∧ railOwned q (enR 3
    1).target.toNat = false ∧ opn (enR 3 1) 16 0 1 = 1 ∧ (rail q (enR 3 1).target.toNat).state = RailState.off ∧ startCheck q
    (enR 3 1).target.toNat = none ∧ q.rc.tmonShdn = false) :=
  ⟨⟨_, _, taken (by decide +kernel) (by decide +kernel), by decide +kernel⟩, ⟨_, _, taken (by decide) (by decide), by decide⟩,
    ⟨_, _, taken (by decide) (by decide), by decide⟩, ⟨_, _, taken (by decide) (by decide), by decide⟩, ⟨_, _, taken (by decide)
    (by decide), by decide⟩⟩

theorem witness_RailCommands_3 :
  (∃ q k, Taken specRailEnable h0 (enR 2 1) (railed Rail.reset) q k ∧ (enR 2 1).target.toNat < 8 ∧ railOwned q (enR 2
    1).target.toNat = false ∧ opn (enR 2 1) 16 0 1 = 1 ∧ (rail q (enR 2 1).target.toNat).state = RailState.off ∧ startCheck q
    (enR 2 1).target.toNat = some stNotPresent) ∧
  (∃ q k, Taken specRailEnable h0 (enR 3 1) softStarting q k ∧ (enR 3 1).target.toNat < 8 ∧ railOwned q (enR 3 1).target.toNat =
    false ∧ opn (enR 3 1) 16 0 1 = 1 ∧ (rail q (enR 3 1).target.toNat).state ∈ [RailState.precheck, RailState.softstart]) ∧
  (∃ q k, Taken specRailEnable h0 (enR 3 1) slewing q k ∧ (enR 3 1).target.toNat < 8 ∧ railOwned q (enR 3 1).target.toNat =
    false ∧ opn (enR 3 1) 16 0 1 = 1 ∧ (rail q (enR 3 1).target.toNat).state ∈ [RailState.regulating, RailState.slewing]) ∧
  (∃ q k, Taken specRailEnable h0 (enR 3 1) ovFault q k ∧ (enR 3 1).target.toNat < 8 ∧ railOwned q (enR 3 1).target.toNat =
    false ∧ opn (enR 3 1) 16 0 1 = 1 ∧ (rail q (enR 3 1).target.toNat).state = RailState.fault) ∧
  (∃ q k, Taken specRailEnable h0 (enR 3 0) ready q k ∧ (enR 3 0).target.toNat < 8 ∧ railOwned q (enR 3 0).target.toNat = false
    ∧ opn (enR 3 0) 16 0 1 = 0 ∧ (rail q (enR 3 0).target.toNat).state = RailState.off) :=
  ⟨⟨_, _, taken (by decide) (by decide), by decide⟩, ⟨_, _, taken (by decide) (by decide), by decide⟩, ⟨_, _, taken (by decide)
    (by decide), by decide⟩, ⟨_, _, taken (by decide) (by decide), by decide⟩, ⟨_, _, taken (by decide) (by decide), by decide⟩⟩

theorem witness_RailCommands_4 :
  (∃ q k, Taken specRailEnable h0 (enR 3 0) (railed (rIn RailState.regulating)) q k ∧ (enR 3 0).target.toNat < 8 ∧ railOwned q
    (enR 3 0).target.toNat = false ∧ opn (enR 3 0) 16 0 1 = 0 ∧ (rail q (enR 3 0).target.toNat).state = RailState.regulating ∧
    flag q (railBase (enR 3 0).target.toNat) 16 = true) ∧
  (∃ q k, Taken specRailEnable h0 (enR 3 0) (hardStop (rIn RailState.regulating)) q k ∧ (enR 3 0).target.toNat < 8 ∧ railOwned q
    (enR 3 0).target.toNat = false ∧ opn (enR 3 0) 16 0 1 = 0 ∧ (rail q (enR 3 0).target.toNat).state = RailState.regulating ∧
    flag q (railBase (enR 3 0).target.toNat) 16 = false) ∧
  (∃ q k, Taken specRailMode h0 (modeR 3 3) ready q k ∧ 3 ≤ opn (modeR 3 3) 16 0 8) ∧
  (∃ q k, Taken specRailMode h0 (modeR 8 2) ready q k ∧ opn (modeR 8 2) 16 0 8 < 3 ∧ 8 ≤ (modeR 8 2).target.toNat) ∧
  (∃ q k, Taken specRailMode h0 (modeR 3 2) (railed (rIn RailState.regulating)) q k ∧ opn (modeR 3 2) 16 0 8 < 3 ∧ (modeR 3
    2).target.toNat < 8 ∧ railSwitching q (modeR 3 2).target.toNat = true) :=
  ⟨⟨_, _, taken (by decide) (by decide), by decide⟩, ⟨_, _, taken (by decide) (by decide), by decide⟩, ⟨_, _, taken (by decide)
    (by decide), by decide⟩, ⟨_, _, taken (by decide) (by decide), by decide⟩, ⟨_, _, taken (by decide) (by decide), by decide⟩⟩

theorem witness_RailCommands_5 :
  (∃ q k, Taken specRailMode h0 (modeR 3 1) ready q k ∧ opn (modeR 3 1) 16 0 8 < 3 ∧ (modeR 3 1).target.toNat < 8 ∧
    railSwitching q (modeR 3 1).target.toNat = false ∧ (rail q (modeR 3 1).target.toNat).waitMode = []) ∧
  (Via.host ≠ Via.sideband ∧ viaReach ready Via.host = true ∧ domOn ready 10 = true ∧ rootAlive ready = true ∧ (bitOf (0#32) 0 =
    false ∨ (rail ready 3).commit = true)) ∧
  (Via.host ≠ Via.sideband ∧ viaReach (railed (rIn RailState.regulating)) Via.host = true ∧ domOn (railed (rIn
    RailState.regulating)) 10 = true ∧ rootAlive (railed (rIn RailState.regulating)) = true ∧ bitOf (1#32) 0 = true ∧ (rail
    (railed (rIn RailState.regulating)) 3).commit = false ∧ railSwitching (railed (rIn RailState.regulating)) 3 = true) ∧
  (Via.host ≠ Via.sideband ∧ viaReach ready Via.host = true ∧ domOn ready 10 = true ∧ rootAlive ready = true ∧ bitOf (1#32) 0 =
    true ∧ (rail ready 3).commit = false ∧ railSwitching ready 3 = false) ∧
  (Via.host ≠ Via.sideband ∧ viaReach (tmonOn ready) Via.host = true ∧ domOn (tmonOn ready) 10 = true ∧ rootAlive (tmonOn ready)
    = true) :=
  ⟨⟨_, _, taken (by decide) (by decide), by decide⟩, (by decide), (by decide), (by decide), (by decide)⟩

theorem witness_RailSequence_1 :
  ((rail deciding 3).state = RailState.precheck ∧ decisionAt deciding 3 ≤ (rail deciding 3).preCycles ∧ (∀ (e : Nat × List Nat),
    e ∈ [(0, [100])] → ∀ (v : Nat), v ∈ e.snd → v * 1000 ≤ rfld deciding 3 40 0 12 500 4000 * 1000)) ∧
  ((rail (railed (rIn RailState.precheck)) 3).state = RailState.precheck ∧ (rail (railed (rIn RailState.precheck)) 3).preCycles
    < decisionAt (railed (rIn RailState.precheck)) 3) ∧
  ((rail deciding 3).state = RailState.precheck ∧ decisionAt deciding 3 ≤ (rail deciding 3).preCycles ∧ 0 ∈ railPhases deciding
    3 ∧ 12 ≤ countIf (fun v ↦ decide (max (rfld deciding 3 40 0 12 500 4000 * 1000) ((0#16).toNat * divRatio deciding 3 +
    1000000) < v * 1000)) (List.replicate 12 5000000)) ∧
  ((rail softStarting 3).state = RailState.softstart ∧ (rail softStarting 3).ramp ≠ none ∧ (rail softStarting 3).ref ≠ targetRef
    softStarting 3) ∧
  ((rail rampingUp 3).state = RailState.softstart ∧ (rail rampingUp 3).ramp ≠ none ∧ (rail rampingUp 3).ref = targetRef rampingUp 3) :=
  ⟨⟨by decide, by decide, (by decide)⟩, (by decide), (by decide), (by decide +kernel), (by decide +kernel)⟩

/-- The decision with `V_s` above the target, at it and below it. -/
theorem witness_RailSequence_4 :
  targetRef deciding 3 < (((1001#16).toNat : Rat) / 1000) ∧ targetRef deciding 3 ≤ (((1000#16).toNat : Rat) / 1000) ∧
    (((999#16).toNat : Rat) / 1000) < targetRef deciding 3 := by decide +kernel

theorem witness_RailSequence_2 :
  ((rail atTarget 3).state = RailState.softstart ∧ (rail atTarget 3).pg = false ∧ pgCycles ≤ (rail atTarget 3).pgIn ∧ (rail
    atTarget 3).ref = targetRef atTarget 3) ∧
  (((rail slewPg 3).state = RailState.regulating ∨ (rail slewPg 3).state = RailState.slewing) ∧ (rail slewPg 3).pg = false ∧
    pgCycles ≤ (rail slewPg 3).pgIn) ∧
  (((rail (out (rIn RailState.regulating)) 3).state = RailState.regulating ∨ (rail (out (rIn RailState.regulating)) 3).state =
    RailState.slewing) ∧ (rail (out (rIn RailState.regulating)) 3).pg = true ∧ pgCycles ≤ (rail (out (rIn RailState.regulating))
    3).pgOut) ∧
  (((rail ready 3).pg = true ∨ (rail ready 3).pgIn < pgCycles)) ∧
  ((rail ready 3).pgOut < pgCycles) :=
  ⟨(by decide +kernel), (by decide), (by decide), (by decide), (by decide)⟩

theorem witness_RailSequence_3 :
  ((rail atTarget 3).state = RailState.softstart ∧ (rail atTarget 3).reachedTarget = true ∧ 100 * usCycles * rfld atTarget 3 28
    16 16 1 65535 ≤ (rail atTarget 3).sinceTarget) ∧
  ((rail rampedDown 3).state = RailState.stopping ∧ (rail rampedDown 3).ref = 0 ∧ (rail rampedDown 3).after = AfterStop.stay) ∧
  ((rail (railed (rIn RailState.stopping)) 3).state = RailState.stopping ∧ (rail (railed (rIn RailState.stopping)) 3).ref ≠ 0) ∧
  ((rail slewingFull 3).state = RailState.slewing ∧ (rail slewingFull 3).ramp ≠ none ∧ (rail slewingFull 3).ref = targetRef slewingFull 3) :=
  ⟨(by decide), (by decide), (by decide), (by decide +kernel)⟩

theorem witness_RailProtections_1 :
  (Machine.railBusy (rail (out (rIn RailState.regulating)) 3) = true ∧ usCycles ≤ (rail (out (rIn RailState.regulating))
    3).ovRun) ∧
  (Machine.railBusy (rail (railed (rIn RailState.regulating)) 3) = true ∧ (rail (railed (rIn RailState.regulating)) 3).ovRun <
    usCycles) ∧
  ((rail ovFault 3).state = RailState.fault ∧ (rail ovFault 3).ovLow = true ∧ (2 * (rail ovFault 3).vs < 1000 * ↑(rail ovFault
    3).faultMv ∨ msCycles ≤ (rail ovFault 3).lowCycles)) ∧
  ((rail ovHigh 3).state = RailState.fault ∧ (rail ovHigh 3).ovLow = true ∧ 1000 * ↑(rail ovHigh 3).faultMv ≤ 2 * (rail ovHigh 3).vs ∧
    (rail ovHigh 3).lowCycles < msCycles) ∧
  (((rail (railed (rIn RailState.regulating)) 3).state = RailState.regulating ∨ (rail (railed (rIn RailState.regulating))
    3).state = RailState.slewing) ∧ (rail (railed (rIn RailState.regulating)) 3).uvRun < usCycles * rfld (railed (rIn
    RailState.regulating)) 3 20 20 8 1 255) :=
  ⟨(by decide), (by decide), (by decide), (by decide), (by decide)⟩

theorem witness_RailProtections_2 :
  (((rail (out (rIn RailState.regulating)) 3).state = RailState.regulating ∨ (rail (out (rIn RailState.regulating)) 3).state =
    RailState.slewing) ∧ usCycles * rfld (out (rIn RailState.regulating)) 3 20 20 8 1 255 ≤ (rail (out (rIn
    RailState.regulating)) 3).uvRun) ∧
  ((rail freshFault 3).state = RailState.fault ∧ (rail freshFault 3).faultCycle = some mLow.cycle ∧ ((rail freshFault
    3).faultFrom = RailState.regulating ∨ (rail freshFault 3).faultFrom = RailState.slewing) ∧ usCycles * rfld freshFault 3 20
    20 8 1 255 ≤ (rail freshFault 3).uvRun) ∧
  (railSwitching limited 3 = true ∧ (rail limited 3).ilimActive = true ∧ (rail limited 3).ilimRaised = false ∧ msCycles ≤ (rail
    limited 3).ilimHeld) ∧
  (((rail (railed (rIn RailState.regulating)) 3).state = RailState.regulating ∨ (rail (railed (rIn RailState.regulating))
    3).state = RailState.slewing) ∧ (rail (railed (rIn RailState.regulating)) 3).burst = false ∧ List.filter (fun p ↦ decide (8
    ≤ (phs (railed (rIn RailState.regulating)) p).openRun) || decide (8 ≤ (phs (railed (rIn RailState.regulating)) p).senseRun))
    (activePhases (railed (rIn RailState.regulating)) 3) = []) ∧
  (((rail openPhase 3).state = RailState.regulating ∨ (rail openPhase 3).state = RailState.slewing) ∧ (rail openPhase 3).burst =
    false ∧ List.filter (fun p ↦ decide (8 ≤ (phs openPhase p).openRun) || decide (8 ≤ (phs openPhase p).senseRun))
    (activePhases openPhase 3) ≠ []) :=
  ⟨(by decide), (by decide), (by decide), (by decide), (by decide)⟩

theorem witness_RailProtections_3 :
  (domOn (tmonOn ready) 10 = true ∧ flag (tmonOn ready) 0x4000 0 = true ∧ (tmonOn ready).rc.tmonWarn = false ∧
    tmonWarnAt (tmonOn ready) ≤ tmonTemp (2000#16).toNat) ∧
  (let s := tmonOn (railed (rIn .regulating));
    domOn s 10 = true ∧ flag s 0x4000 0 = true ∧ s.rc.tmonShdn = false ∧ (tmonShdnAt s ≤ tmonTemp (2501#16).toNat ∨ 2500 < (2501#16).toNat) ∧
      Machine.railBusy (rail s 3) = true ∧ stateAt (rail s 4) 77 ∈ [RailState.off, RailState.fault]) ∧
  (domOn (tmonOn ready) 10 = true ∧ flag (tmonOn ready) 0x4000 0 = true ∧ (999 < 1000 ∨ 300 ≤ (300#16).toNat)) ∧
  ((tmonOn ready).rc.tmonLost = false ∧ (299#16).toNat < 300 ∧ 1000 ≤ 1000) :=
  ⟨(by decide), (by decide), (by decide), (by decide)⟩

theorem witness_RailLoop_1 :
  (sample0.cycles = 1 ∧ railSwitching (railed (rIn RailState.regulating)) 3 = true ∧ domOn (railed (rIn RailState.regulating))
    10 = true ∧ rootAlive (railed (rIn RailState.regulating)) = true ∧ (rail (railed (rIn RailState.regulating)) 3).asleep =
    false ∧ (railed (rIn RailState.regulating)).regs.late = [] ∧ (railed (rIn RailState.regulating)).regs.captured = [] ∧ ((rail
    (railed (rIn RailState.regulating)) 3).state = RailState.stopping → flag (railed (rIn RailState.regulating)) (railBase 3) 16
    = true)) ∧
  ((rail (railed (rIn RailState.regulating)) 3).trimCycles < msCycles) ∧
  (msCycles ≤ (rail (trimming false) 3).trimCycles ∧ (rail (trimming false) 3).trimOk = false) ∧
  (msCycles ≤ (rail (trimming true) 3).trimCycles ∧ (rail (trimming true) 3).trimOk = true ∧ (activePhases (trimming true)
    3).length ≠ 0) ∧
  (railSwitching autoR 3 = true ∧ (rail autoR 3).mode = RailMode.autoBurst ∧ continuousNow (rail autoR 3) = false ∧ (rail autoR
    3).reachedTarget = true ∧ (rail autoR 3).ramp = none ∧ (rail autoR 3).burst = false ∧ (rail autoR 3).pulseCur.length = 64 ∧
    (10 * (rail autoR 3).pulseCur.foldl (· + ·) 0 / 64 < (burstEnter autoR 3 : Rat))) :=
  ⟨(by decide), (by decide), (by decide), (by decide), (by decide +kernel)⟩

theorem witness_RailLoop_2 :
  ((rail burstR 3).burst = true ∧ ((∃ q d, (rail burstR 3).burstLast = some (q, d) ∧ 0 < d ∧ ↑(burstExit burstR 3) ≤ 10 * q /
    ↑d) ∨ 64 < (rail burstR 3).burstPulses)) ∧
  ((rail burstR 3).burst = true ∧ (rail burstR 3).asleep = false ∧ (rail burstR 3).ref * 1000 + ↑(rfld burstR 3 32 24 8 2 40) ≤
    ↑(1050#16).toNat) ∧
  ((rail sleepR 3).burst = true ∧ (rail sleepR 3).asleep = true ∧ ↑(999#16).toNat < (rail sleepR 3).ref * 1000) ∧
  (domOn (railed (rIn RailState.regulating)) 10 = true ∧ (rail (railed (rIn RailState.regulating)) 3).msCycles < msCycles) ∧
  (domOn (trimming true) 10 = true ∧ msCycles ≤ (rail (trimming true) 3).msCycles) :=
  ⟨⟨by decide, (Or.inr (by decide))⟩, (by decide +kernel), (by decide +kernel), (by decide), (by decide)⟩

/-- A millisecond that ends on a rail that switches, on one that has stopped, and on one that shares phase 1 with a rail that switches. -/
theorem witness_RailLoop_3 :
  railSwitching (trimming true) 3 = true ∧ (msCycles ≤ (rail stoppedMs 3).msCycles ∧ railSwitching stoppedMs 3 = false) ∧
    (∀ j, j < 8 → j ≠ 3 → railSwitching stoppedMs j = true → (phaseMask stoppedMs j).testBit 1 = false) ∧
    (rail blanked 3).blank ≠ 0 := by decide +kernel

end Sys2Proof.Tests
end

