-- ==== Sys2Proof/Tests/Sequencing.lean ====
section
/-! SUPPORT. Witnesses of the statements on the sequencer and Flock: states and operands that meet each clause. -/

namespace Sys2Proof.Tests
open Sys2Proof.Machine
set_option exponentiation.threshold 30000
set_option Elab.async false

def rec2 : SeqRec :=
  { mtype := 2, index := 0, enPin := 0, enHigh := true, enOd := false, pgPin := 1, pgHigh := true, onDelay := 0, offDelay := 0, pgDebounce := 0,
    pgDeadline := 10, offMv := 0, offTimeout := 100, chatterLim := 0, safe := 0 }
def rec3 : SeqRec := { rec2 with mtype := 3, enPin := 15, enHigh := false, pgPin := 15, pgHigh := false, pgDeadline := 0 }
/-- A sequencer in a state with members 0 and 1. -/
def seqd (st : SeqState) (m0 m1 : Member) : State :=
  { ready with seq := { ready.seq with state := st, members := vput (vput ready.seq.members 0 (some m0)) 1 (some m1) } }
def one (st : SeqState) (m : Member) : State := { ready with seq := { ready.seq with state := st, members := vput ready.seq.members 0 (some m) } }
def lateM : Member := mem0 { rec2 with onDelay := 9 } .waitOn
def delayed : State := seqd .upRunning lateM (mem0 rec3 .waitOn)
def down2 : State := seqd .down (mem0 rec2 .off) (mem0 rec3 .off)
def up2 : State := seqd .up { mem0 rec2 .on with on := true, pgGood := true } { mem0 rec3 .on with on := true }
def upRun : State := seqd .upRunning (mem0 rec2 .waitOn) (mem0 rec3 .waitOn)
def downRun : State := seqd .downRunning (mem0 rec2 .waitOff) (mem0 rec3 .waitOff)
def safeSeq : State := seqd .safe (mem0 rec2 .off) (mem0 rec3 .off)
def follower (s : State) : State := wr s 0x5040 0x83 0xFF
def bellwether (s : State) : State := wr (wr s 0x5040 0x40 0xFF) 0x5044 0x6 0xFFFFFFFF
def wdiOn (r : Nat) (s : State) : State := wr { s with seq := { s.seq with wdiArmed := true, wdiDue := some 50 } } 0x5020 (BitVec.ofNat 32 (r * 2 ^ 29 + 100)) 0x60003FFF
def inSlot (good : Bool) : Member := { mem0 rec2 .inSlot with slot := true, pgGood := good, pgSeen := good }
def slotted (good : Bool) : State := one .upRunning (inSlot good)
def downReact (s : State) : State := wr s 0x5000 0x100 0x300
def keepReact (s : State) : State := wr s 0x5000 0 0x300
def railWaits : State := { railed Rail.reset with seq := (one .upRunning (mem0 rec0 .waitOn)).seq }
def pgHigh : State := { slotted false with seq := { (slotted false).seq with levels := 2 } }
def slowPg : Member := { inSlot false with pgAt := some 0, cfg := { rec2 with pgDebounce := 5000 } }
def pgDue : State := { one .upRunning slowPg with seq := { (one .upRunning slowPg).seq with levels := 2 } }
def m2off : Member := mem0 rec2 .switchingOff
def offOne : State := one .downRunning m2off
def offHeld : State := { offOne with seq := { offOne.seq with levels := 2 } }
/-- A sequence table of one type-2 member, its CRC right or wrong. -/
def tableHead : List Byte := leBytes 2 0x0801 ++ zeroBytes 26
def tableRecs : List Byte := [2, 0, 0x10, 0x11] ++ leBytes 2 0 ++ leBytes 2 0 ++ leBytes 2 0 ++ leBytes 2 10 ++ leBytes 2 0 ++ leBytes 2 100 ++ zeroBytes 464
def tableBytes : List Byte := tableHead ++ leBytes 4 (crc32 (tableHead ++ tableRecs)) ++ tableRecs
def tabled (s : State) : State := hostWrite s 0x200000 tableBytes
def loadD : Desc := dsc 0 0x200000 []
def upD : Desc := dsc 0 0 []
def tableOk : List (Option SeqRec) := some rec2 :: List.replicate 15 none
def pingFrame : List Byte := flkFrame 1 false 3 0 []
def armFrame : List Byte := flkFrame 2 true 0 5 []
def downFrame : List Byte := flkFrame 3 true 0 0 []
def cancelFrame : List Byte := flkFrame 4 true 0 0 []
def ackFrame : List Byte := flkFrame 5 false 3 0 [0xC0]
def armedUp : State := follower { down2 with flk := { down2.flk with armed := true, armAt := some 0 } }
def lostMaster : State := follower { ready with flk := { ready.flk with masterLost := false, heardAt := some 0 } }
def polled : State := bellwether { down2 with flk := { down2.flk with pollAt := some 0 } }
def arming : State := keepReact (bellwether { down2 with flk := { down2.flk with job := .arming, armAt := some 0 } })
/-- A right reply of a follower in UP, and a wrong one. -/
def reply0 : List Byte := [3, 0, 1, 0]
def reply1 : List Byte := reply0 ++ [BitVec.ofNat 8 (crc8 reply0)]
def lostFollower : State := bellwether { down2 with flk := { down2.flk with lost := 2, misses := [(1, 3), (2, 2)], pinged := 4 } }

theorem witness_SequencerCommands_1 :
  (∃ q k, Taken specSeqUp h0 upD (follower down2) q k ∧ flkRole q = 2) ∧
  (∃ q k, Taken specSeqUp h0 upD ready q k ∧ flkRole q ≠ 2 ∧ q.seq.state = SeqState.empty) ∧
  (∃ q k, Taken specSeqUp h0 upD down2 q k ∧ flkRole q ≠ 2 ∧ q.seq.state = SeqState.down ∧ flkRole q = 0 ∧ q.flk.job ≠
    FlockJob.arming ∧ (hasRailMember q = true → domOn q 10 = true) ∧ (∃ i, i < 16 ∧ member q i ≠ none)) ∧
  (∃ q k, Taken specSeqUp h0 upD upRun q k ∧ flkRole q ≠ 2 ∧ q.seq.state = SeqState.upRunning) ∧
  (∃ q k, Taken specSeqUp mp0 upD up2 q k ∧ flkRole q ≠ 2 ∧ q.seq.state = SeqState.up ∧ q.flk.job ≠ FlockJob.up) :=
  ⟨⟨_, _, taken (by decide) (by decide), by decide⟩, ⟨_, _, taken (by decide) (by decide), by decide⟩, ⟨_, _, taken (by decide)
    (by decide), by decide, by decide, by decide, by decide, by decide, ⟨0, by decide, by decide⟩⟩, ⟨_, _, taken (by decide)
    (by decide), by decide⟩, ⟨_, _, taken (by decide) (by decide), by decide⟩⟩

theorem witness_SequencerCommands_2 :
  (∃ q k, Taken specSeqUp h0 upD downRun q k ∧ flkRole q ≠ 2 ∧ q.seq.state = SeqState.downRunning) ∧
  (∃ q k, Taken specSeqUp h0 upD safeSeq q k ∧ flkRole q ≠ 2 ∧ q.seq.state = SeqState.safe) ∧
  (∃ q k, Taken specSeqDown h0 upD (follower down2) q k ∧ flkRole q = 2) ∧
  (∃ q k, Taken specSeqDown h0 upD ready q k ∧ flkRole q ≠ 2 ∧ q.seq.state = SeqState.empty) ∧
  (∃ q k, Taken specSeqDown h0 upD safeSeq q k ∧ flkRole q ≠ 2 ∧ q.seq.state = SeqState.safe) :=
  ⟨⟨_, _, taken (by decide) (by decide), by decide⟩, ⟨_, _, taken (by decide) (by decide), by decide⟩, ⟨_, _, taken (by decide)
    (by decide), by decide⟩, ⟨_, _, taken (by decide) (by decide), by decide⟩, ⟨_, _, taken (by decide) (by decide), by decide⟩⟩

set_option maxRecDepth 100000 in
theorem witness_SequencerCommands_3 :
  (∃ q k, Taken specSeqDown h0 upD up2 q k ∧ flkRole q ≠ 2 ∧ (q.seq.state = SeqState.up ∨ q.seq.state = SeqState.upRunning) ∧
    flkRole q = 0 ∧ (∃ i m, i < 16 ∧ member q i = some m ∧ m.state ∈ [MState.on, MState.inSlot, MState.failed])) ∧
  (∃ q k, Taken specSeqLoad h0 loadD (tabled down2) q k) ∧
  (∃ q k, Taken specSeqLoad h0 loadD down2 q k ∧ seqParse (cmdRead q h0 loadD.addr.toNat 512) = Except.error stCrcError) ∧
  (∃ q k, Taken specSeqLoad h0 loadD (tabled up2) q k ∧ seqParse (cmdRead q h0 loadD.addr.toNat 512) = Except.ok tableOk ∧
    seqLoadRefused q tableOk = true) ∧
  (∃ q k, Taken specSeqLoad h0 loadD (tabled down2) q k ∧ seqParse (cmdRead q h0 loadD.addr.toNat 512) = Except.ok tableOk ∧
    seqLoadRefused q tableOk = false) :=
  ⟨⟨_, _, taken (by decide) (by decide), by decide, by decide, by decide, ⟨0, _, by decide, rfl, by decide⟩⟩, ⟨_, _, taken
    (by decide) (by decide)⟩, ⟨_, _, taken (by decide) (by decide), (parse_error (by decide +kernel))⟩, ⟨_, _, taken (by decide)
    (by decide), (parse_ok (by decide +kernel)), by decide⟩, ⟨_, _, taken (by decide) (by decide), (parse_ok
    (by decide +kernel)), by decide⟩⟩

theorem witness_SequencerSteps_1 :
  (member delayed 0 = some lateM ∧ delayed.seq.state = SeqState.upRunning ∧ lateM.state = MState.waitOn ∧ seqNext delayed (100 *
    lateM.cfg.onDelay) = false) ∧
  (member upRun 0 = some (mem0 rec2 MState.waitOn) ∧ upRun.seq.state = SeqState.upRunning ∧ (mem0 rec2 MState.waitOn).state =
    MState.waitOn ∧ seqNext upRun (100 * (mem0 rec2 MState.waitOn).cfg.onDelay) = true ∧ (mem0 rec2 MState.waitOn).cfg.mtype = 2
    ∧ hasPg (mem0 rec2 MState.waitOn).cfg = true) ∧
  (member upRun 1 = some (mem0 rec3 MState.waitOn) ∧ upRun.seq.state = SeqState.upRunning ∧ (mem0 rec3 MState.waitOn).state =
    MState.waitOn ∧ seqNext upRun (100 * (mem0 rec3 MState.waitOn).cfg.onDelay) = true ∧ (mem0 rec3 MState.waitOn).cfg.mtype =
    3) ∧
  (member (one SeqState.upRunning (mem0 rec2 MState.waitOn)) 0 = some (mem0 rec2 MState.waitOn) ∧ (one SeqState.upRunning (mem0
    rec2 MState.waitOn)).seq.state = SeqState.upRunning ∧ (mem0 rec2 MState.waitOn).state = MState.waitOn ∧ seqNext (one
    SeqState.upRunning (mem0 rec2 MState.waitOn)) (100 * (mem0 rec2 MState.waitOn).cfg.onDelay) = true ∧ (mem0 rec2
    MState.waitOn).cfg.mtype = 2 ∧ hasPg (mem0 rec2 MState.waitOn).cfg = true) ∧
  (member Tests.railWaits 0 = some (mem0 rec0 MState.waitOn) ∧ Tests.railWaits.seq.state = SeqState.upRunning ∧ (mem0 rec0
    MState.waitOn).state = MState.waitOn ∧ seqNext Tests.railWaits (100 * (mem0 rec0 MState.waitOn).cfg.onDelay) = true ∧ (mem0
    rec0 MState.waitOn).cfg.mtype = 1 ∧ (mem0 rec0 MState.waitOn).cfg.index < 8 ∧ railRuns Tests.railWaits = true ∧ (rail
    Tests.railWaits (mem0 rec0 MState.waitOn).cfg.index).state = RailState.off ∧ startCheck Tests.railWaits (mem0 rec0
    MState.waitOn).cfg.index = none ∧ Tests.railWaits.rc.tmonShdn = false) :=
  ⟨(by decide), (by decide), (by decide), (by decide), (by decide)⟩

theorem witness_SequencerSteps_2 :
  (member (slotted true) 0 = some (inSlot true) ∧ (slotted true).seq.state = SeqState.upRunning ∧ (inSlot true).slot = true ∧
    seqNext (slotted true) (100 * ((inSlot true).cfg.onDelay + (inSlot true).cfg.pgDeadline)) = true ∧ (inSlot true).pgGood =
    true ∧ (inSlot true).faulted = false) ∧
  (member (keepReact (slotted false)) 0 = some (inSlot false) ∧ (keepReact (slotted false)).seq.state = SeqState.upRunning ∧
    (inSlot false).slot = true ∧ seqNext (keepReact (slotted false)) (100 * ((inSlot false).cfg.onDelay + (inSlot
    false).cfg.pgDeadline)) = true ∧ (inSlot false).pgGood = false ∧ (inSlot false).faulted = false ∧ (inSlot false).state =
    MState.inSlot ∧ flkRole (keepReact (slotted false)) = 0 ∧ faultReact (keepReact (slotted false)) = 0) ∧
  (member (downReact (slotted false)) 0 = some (inSlot false) ∧ (downReact (slotted false)).seq.state = SeqState.upRunning ∧
    (inSlot false).slot = true ∧ seqNext (downReact (slotted false)) (100 * ((inSlot false).cfg.onDelay + (inSlot
    false).cfg.pgDeadline)) = true ∧ (inSlot false).pgGood = false ∧ (inSlot false).faulted = false ∧ (inSlot false).state =
    MState.inSlot ∧ flkRole (downReact (slotted false)) = 0 ∧ faultReact (downReact (slotted false)) = 1) ∧
  (member downRun 1 = some (mem0 rec3 MState.waitOff) ∧ downRun.seq.state = SeqState.downRunning ∧ downRun.seq.held = false ∧
    downRun.seq.retryUp = false ∧ (mem0 rec3 MState.waitOff).state = MState.waitOff ∧ seqNext downRun (100 * (mem0 rec3
    MState.waitOff).cfg.offDelay) = true ∧ (mem0 rec3 MState.waitOff).cfg.mtype = 3) ∧
  (member downRun 0 = some (mem0 rec2 MState.waitOff) ∧ downRun.seq.state = SeqState.downRunning ∧ downRun.seq.held = false ∧
    downRun.seq.retryUp = false ∧ (mem0 rec2 MState.waitOff).state = MState.waitOff ∧ seqNext downRun (100 * (mem0 rec2
    MState.waitOff).cfg.offDelay) = true ∧ (mem0 rec2 MState.waitOff).cfg.mtype = 2 ∧ hasPg (mem0 rec2 MState.waitOff).cfg =
    true) :=
  ⟨(by decide), (by decide), (by decide), (by decide), (by decide)⟩

theorem witness_SequencerSteps_3 :
  (member offOne 0 = some m2off ∧ offOne.seq.state = SeqState.downRunning ∧ offOne.seq.held = false ∧ offOne.seq.retryUp = false
    ∧ m2off.state = MState.switchingOff ∧ offHolds (seqAt offOne 700) m2off = true) ∧
  (member offHeld 0 = some m2off ∧ offHeld.seq.state = SeqState.downRunning ∧ offHeld.seq.held = false ∧ offHeld.seq.retryUp =
    false ∧ m2off.state = MState.switchingOff ∧ offHolds (seqAt offHeld 700) m2off = false) ∧
  (member offOne 0 = some m2off ∧ offOne.seq.state = SeqState.downRunning ∧ offOne.seq.held = false ∧ offOne.seq.retryUp = false
    ∧ m2off.state = MState.switchingOff ∧ seqNext offOne (100 * (m2off.cfg.offDelay + m2off.cfg.offTimeout)) = true) ∧
  (member pgDue 0 = some slowPg ∧ pgDue.seq.state ≠ SeqState.safe ∧ hasPg slowPg.cfg = true ∧ pgRaw pgDue slowPg.cfg = true ∧
    slowPg.pgGood = false ∧ waited slowPg.pgAt slowPg.cfg.pgDebounce (seqAt pgDue 4999).seq.us = false) ∧
  (member pgDue 0 = some slowPg ∧ pgDue.seq.state ≠ SeqState.safe ∧ hasPg slowPg.cfg = true ∧ pgRaw pgDue slowPg.cfg = true ∧
    slowPg.pgGood = false ∧ waited slowPg.pgAt slowPg.cfg.pgDebounce (seqAt pgDue 5000).seq.us = true) :=
  ⟨(by decide), (by decide), (by decide), (by decide), (by decide)⟩

theorem witness_SequencerSteps_4 :
  ((wdiOn 0 up2).seq.wdiArmed = true ∧ (wdiOn 0 up2).seq.wdiDue = some 50 ∧ 49 < 50) ∧
  ((wdiOn 0 up2).seq.wdiArmed = true ∧ (wdiOn 0 up2).seq.wdiDue = some 50 ∧ 50 ≤ 50) ∧
  ((wdiOn 2 up2).seq.wdiArmed = true ∧ (wdiOn 2 up2).seq.wdiDue = some 50 ∧ 50 ≤ 52) :=
  ⟨(by decide), (by decide), (by decide)⟩

theorem witness_FlockBus_1 :
  (flkRole (follower down2) = 2 ∧ rootAlive (follower down2) = true ∧ (pingFrame.length = 0 + 4 ∧
    crc8 (List.take (0 + 3) pingFrame) = leField pingFrame (0 + 3) 1)
    ∧ (leField pingFrame 0 1 % 16 = 1 ∧ (leField pingFrame 0 1).testBit 4 = false ∧ leField pingFrame 1 1 % 32 = flkAddr
    (follower down2))) ∧
  (flkRole (follower down2) = 2 ∧ rootAlive (follower down2) = true ∧ (armFrame.length = 0 + 4 ∧
    crc8 (List.take (0 + 3) armFrame) = leField armFrame (0 + 3) 1) ∧
    (leField armFrame 0 1 % 16 = 2 ∧ (leField armFrame 0 1).testBit 4 = true) ∧ (follower down2).seq.state = SeqState.down) ∧
  (flkRole (follower down2) = 2 ∧ rootAlive (follower down2) = true ∧ (downFrame.length = 0 + 4 ∧
    crc8 (List.take (0 + 3) downFrame) = leField downFrame (0 + 3) 1)
    ∧ (leField downFrame 0 1 % 16 = 3 ∧ (leField downFrame 0 1).testBit 4 = true)) ∧
  (flkRole (follower down2) = 2 ∧ rootAlive (follower down2) = true ∧ (cancelFrame.length = 0 + 4 ∧
    crc8 (List.take (0 + 3) cancelFrame) = leField cancelFrame (0 +
    3) 1) ∧ (leField cancelFrame 0 1 % 16 = 4 ∧ (leField cancelFrame 0 1).testBit 4 = true)) ∧
  (flkRole (follower down2) = 2 ∧ rootAlive (follower down2) = true ∧ (ackFrame.length = 1 + 4 ∧
    crc8 (List.take (1 + 3) ackFrame) = leField ackFrame (1 + 3) 1) ∧
    (leField ackFrame 0 1 % 16 = 5 ∧ (leField ackFrame 0 1).testBit 4 = false ∧ leField ackFrame 1 1 % 32 = flkAddr (follower
    down2))) :=
  ⟨(by decide), (by decide), (by decide), (by decide), (by decide)⟩

theorem witness_FlockBus_2 :
  (flkRole (follower down2) = 2 ∧ rootAlive (follower down2) = true ∧ (¬([1#8, 2#8].length = 0 + 4 ∧
    crc8 (List.take (0 + 3) [1#8, 2#8]) = leField [1#8, 2#8] (0 +
    3) 1)) ∧ Instr.flockPing [1#8, 2#8] ∈ [Instr.flockPing [1#8, 2#8], Instr.flockUpArm [1#8, 2#8], Instr.flockDownArm [1#8,
    2#8], Instr.flockCancel [1#8, 2#8]]) ∧
  (mpRising armedUp = true ∧ flkRole armedUp = 2 ∧ armedUp.flk.armed = true ∧ armedUp.seq.state = SeqState.down ∧
    (hasRailMember armedUp = true → domOn
    armedUp 10 = true) ∧ (∃ i, i < 16 ∧ member armedUp i ≠ none)) ∧
  (flkRole (follower up2) = 2 ∧ (follower up2).flk.armed = false ∧ (follower up2).seq.state = SeqState.up ∧ (∃ i m, i < 16 ∧
    member (follower up2) i = some m ∧ m.state = MState.on)) ∧
  (flkRole armedUp = 2 ∧ waited armedUp.flk.armAt (1000 * clampN 1 255 (fld armedUp 0x5040 24 8)) 999 = false) ∧
  (flkRole armedUp = 2 ∧ waited armedUp.flk.armAt (1000 * clampN 1 255 (fld armedUp 0x5040 24 8)) 255000 = true) :=
  ⟨(by decide), ⟨by decide, by decide, by decide, by decide, by decide, ⟨0, by decide, by decide⟩⟩, ⟨by decide, by decide, by decide, ⟨0,
    _, by decide, rfl, by decide⟩⟩, (by decide), (by decide)⟩

theorem witness_FlockBus_3 :
  (flkRole lostMaster = 2 ∧ lostMaster.flk.masterLost = false ∧ waited lostMaster.flk.heardAt 100000 99999 = false) ∧
  (flkRole lostMaster = 2 ∧ lostMaster.flk.masterLost = false ∧ waited lostMaster.flk.heardAt 100000 100000 = true) ∧
  (flkRole arming = 1 ∧ arming.flk.job = FlockJob.arming ∧ faultReact arming = 0 ∧ waited arming.flk.armAt (1000 * clampN 1 255 (fld
    arming 0x5040 24 8)) 255007 = true) ∧
  (flkRole polled = 1 ∧ (waited polled.flk.pollAt (1000 * clampN 1 255 (fld polled 0x5040 16 8)) 999 && rootAlive polled) = false) ∧
  (flkRole polled = 1 ∧ polled.flk.pinged = 0 ∧ (waited polled.flk.pollAt (1000 * clampN 1 255 (fld polled 0x5040 16 8)) 255000 && rootAlive polled) = true) :=
  ⟨(by decide), (by decide), (by decide), (by decide), (by decide)⟩

theorem witness_FlockBus_4 :
  (flkRole lostFollower = 1 ∧ rootAlive lostFollower = true ∧ bitOf (flkExpect lostFollower) 1 = true ∧
    ([1#8, 2#8].length ≠ 5 ∨ crc8 (List.take 4 [1#8, 2#8]) ≠
    leField [1#8, 2#8] 4 1)) ∧
  (flkRole lostFollower = 1 ∧ rootAlive lostFollower = true ∧ bitOf (flkExpect lostFollower) 1 = true ∧ reply1.length = 5 ∧
    crc8 (List.take 4 reply1) = leField
    reply1 4 1 ∧ (reply1.all fun x ↦ decide (x = 255#8)) = false ∧ leField reply1 0 1 < 64) ∧
  (flkRole (bellwether down2) = 1) ∧
  (flkRole (bellwether rootLost) = 1 ∧ flkRole (follower rootLost) = 2 ∧ rootAlive (bellwether rootLost) = false ∧
    rootAlive (follower rootLost) = false) :=
  ⟨(by decide), (by decide), (by decide), (by decide)⟩

end Sys2Proof.Tests
end

