-- ==== Sys2Proof/Tests/Images.lean ====
section
/-! SUPPORT. Witnesses of the statements on firmware: states and operands that meet each clause. -/

namespace Sys2Proof.Tests
open Sys2Proof.Machine
set_option exponentiation.threshold 30000
set_option Elab.async false

/-! ### Firmware -/

/-- A signed image of version 7 and rollback value 3: its 256 bytes of header, then 4 bytes of code. The P-256 key is the public key of the
private key 0x1234567890ABCDEF, the signature made with the nonce 0xCAFE1234567. -/
def signedHead : List Byte := leBytes 256
  0x581e3c271f2c1325e2ea13ece9fdd9d14e6dcf49d524a6e7487df0471d780f1c70edcd855b5de7f4bd707f1f936c688be9f35e963bdb469f95b2c2e85682a2a64ffd072aeca89137bfa44ec6cdb0c03331e6bfb1e50f47c2e270109f7645cb0734599aa5131d4f0cceb571f80c2bde096aef2cd81400017fefbb08aeae84ad9f55b852781b9995a44c939b64e441ae2724b96f99c8f4fb9a141cfc9842c4b0e350a4aa153d208dd856d451780b2dd4bac53bc12f4c3f0b4efff0241072ddab6700000000000000000000000000000004000000030000000700020e0157465856
def signedImage : List Byte := signedHead ++ leBytes 4 1
/-- A header with one data page. -/
def dataHead : List Byte := leBytes 256
  0x71e215ee398b2a30308b29ddbf2dea8d429bfee58ea1a6badd8989e50047b57270edcd855b5de7f4bd707f1f936c688be9f35e963bdb469f95b2c2e85682a2a64ffd072aeca89137bfa44ec6cdb0c03331e6bfb1e50f47c2e270109f7645cb0734599aa5131d4f0cceb571f80c2bde096aef2cd81400017fefbb08aeae84ad9fece04b2f00f9b25d96ae6d8d9af1c726fe7b80127a1c62dba5fa68d59c3597da50a4aa153d208dd856d451780b2dd4bac53bc12f4c3f0b4efff0241072ddab6700000000000000000000100000000004000000010000000900020e0157465856
/-- The hash of the key in OTP words 328–335, usable. -/
def otpKeys (s : State) : State := { s with otp := { s.otp with
  keyOk := 4
  cells := [(328, OtpCell.clean (otpEncode 0x6a171e99)), (329, OtpCell.clean (otpEncode 0xcc194362)), (330, OtpCell.clean (otpEncode 0x80625e14)),
    (331, OtpCell.clean (otpEncode 0x21e208ef)), (332, OtpCell.clean (otpEncode 0xec52406)), (333, OtpCell.clean (otpEncode 0x13e2bf2f)),
    (334, OtpCell.clean (otpEncode 0x310d420c)), (335, OtpCell.clean (otpEncode 0x42aa6050))] } }
set_option maxRecDepth 100000 in
theorem head_signed : ecdsaVerify ((signedHead.drop 96).take 64) ((signedHead.drop 160).take 64) (signedHead.take 160) = true := by decide +kernel
set_option maxRecDepth 100000 in
theorem head_form : (headFormOk signedHead && headSizeOk signedHead && headLevelOk signedHead) = true := by decide +kernel
/-- A slot that holds the signed header verifies where its hashes and the key do. -/
theorem verified {s : State} {n : Nat} (h : slotHead s n = signedHead) (e : s.otp.rollback ≤ headRollback signedHead)
    (i : (headKeyOk s signedHead && imageHashesOk s n signedHead && imagePagesOk s n signedHead) = true) : verifySlot s n = true := by
  have f := head_form
  simp only [Bool.and_eq_true] at f i
  simp [verifySlot, h, head_signed, f, i, e]
def sgD (n len : Nat) : Desc := dsc n 0x300000 [(128, 32, len)]
def slD (n : Nat) : Desc := dsc n 0 []
/-- The image in host memory; its copy in the flash. -/
def staged (n : Nat) (s : State) : State := otpKeys (flashWrite s (slotBase n) signedImage)
def hosted : State := otpKeys (hostWrite ready 0x300000 signedImage)
def running (n : Nat) : State := { ready with mp := { ready.mp with bootState := n + 1, image := signedHead } }
def stoppedFw : State := { ready with glb := { ready.glb with mpRunning := false } }
def magicOnly : State := flashWrite ready 0 fwMagic
def logged : State := { ready with mp := { ready.mp with logCount := 2, lseq := 2 } }
def logBad : State := setPage logged 256 { Page.fresh with a := some { Slot.programmed 0 1 with commit := .set, crc := 0 } }
def lgD (off len : Nat) : Desc := dsc off 0x300000 [(128, 32, len)]
def bootS (n : Nat) : State := staged n stoppedFw
def trialS (p k : Nat) : State := bootWrite (bootS p) { preferred := p, trial := true, fails := k }
def dataS (f : List Byte → List Byte) : State :=
  { ready with mp := { ready.mp with bootState := 1, image := dataHead ++ f (sha256 (dataPage ready 0 dataHead 0)) } }
theorem beBytes_length (k v : Nat) : (beBytes k v).length = k := by
  unfold beBytes
  rw [List.length_reverse]
  induction k generalizing v with
  | zero => rfl
  | succ k ih => simp [leBytes, ih]
theorem sha256_length (m : List Byte) : (sha256 m).length = 32 := by
  simp only [sha256, List.flatMap_cons, List.flatMap_nil, List.length_append, beBytes_length, List.length_nil]
set_option maxRecDepth 100000 in
theorem dataHead_length : dataHead.length = 256 := by decide +kernel
theorem image_take (f : List Byte → List Byte) : (dataS f).mp.image.take 256 = dataHead := by
  show (dataHead ++ f (sha256 (dataPage ready 0 dataHead 0))).take 256 = dataHead
  exact List.take_left' dataHead_length
theorem image_table (f : List Byte → List Byte) (h : (f (sha256 (dataPage ready 0 dataHead 0))).length = 32) :
    ((dataS f).mp.image.drop (256 + 32 * 0)).take 32 = f (sha256 (dataPage ready 0 dataHead 0)) := by
  show ((dataHead ++ f (sha256 (dataPage ready 0 dataHead 0))).drop 256).take 32 = _
  rw [List.drop_left' dataHead_length, List.take_of_length_le (Nat.le_of_eq h)]
/-- Every byte one more. -/
def bump (l : List Byte) : List Byte := l.map (· + 1)
theorem page_bytes (f : List Byte → List Byte) : dataPage (dataS f) 0 dataHead 0 = dataPage ready 0 dataHead 0 :=
  congrArg (fun m => Mem.read flashByte m (slotBase 0 + dataStart dataHead + 4096 * 0) 4096) (rfl : (dataS f).flash = ready.flash)
theorem page_good : sha256 (dataPage (dataS id) 0 ((dataS id).mp.image.take 256) 0) = ((dataS id).mp.image.drop (256 + 32 * 0)).take 32 := by
  rw [image_take, image_table id (sha256_length _), page_bytes, id]
theorem bump_ne : ∀ l : List Byte, l.length = 32 → l ≠ bump l
  | [], h => by cases h
  | b :: t, _ => fun e => by
    have d : ∀ c : Byte, c ≠ c + 1 := by decide +kernel
    exact d b (List.cons.inj e).1
theorem page_bad : sha256 (dataPage (dataS bump) 0 ((dataS bump).mp.image.take 256) 0) ≠ ((dataS bump).mp.image.drop (256 + 32 * 0)).take 32 := by
  rw [image_take, image_table bump (by simp [bump, sha256_length]), page_bytes]
  exact bump_ne _ (sha256_length _)
theorem data_pages (f : List Byte → List Byte) : 0 < headData ((dataS f).mp.image.take 256) / 4096 := by
  rw [image_take]; decide +kernel
def onTrial : State := { running 0 with mp := { (running 0).mp with trial := true }, goose1 := { ready.goose1 with clean := true } }
def rolled (s : State) : State := { s with otp := { s.otp with rollback := 3 } }
def goalS (n : Nat) : State := { running 0 with mp := { (running 0).mp with rollbackGoal := n } }
/-- The trial image has run for 60 seconds. -/
def minuteIn (s : State) : State := { s with mp := { s.mp with onSeconds := 60, bootSeconds := 0 } }
def hourIn (s : State) : State := { s with mp := { s.mp with onSeconds := 3600, hourRoll := 0 } }
def ready1 : State := running 0
theorem log_two {q : State} {n : Nat} {f : Nat → Nat} (h : n = 60) (r : ((List.range 60).all fun i => (nvRead q (f i)).isSome) = true) :
    ∀ i, i < n → (nvRead q (f i)).isSome = true := by
  subst h
  exact fun i hi => List.all_eq_true.mp r i (List.mem_range.mpr hi)

theorem witness_Firmware_1 :
  (∃ q k, Taken specFwStage h0 (sgD 0 260) stoppedFw q k ∧ fwServed q = false) ∧
  (∃ q k, Taken specFwStage h0 (sgD 2 260) ready q k ∧ fwServed q = true ∧ 1 < (sgD 2 260).target.toNat) ∧
  (∃ q k, Taken specFwStage h0 (sgD 1 260) (running 1) q k ∧ fwServed q = true ∧ (sgD 1 260).target.toNat ≤ 1 ∧ runningSlot q =
    some (sgD 1 260).target.toNat) ∧
  (∃ q k, Taken specFwStage h0 (sgD 1 255) ready q k ∧ fwServed q = true ∧ (sgD 1 255).target.toNat ≤ 1 ∧ runningSlot q ≠ some
    (sgD 1 255).target.toNat ∧ (opn (sgD 1 255) 16 0 32 < 256 ∨ 2097152 < opn (sgD 1 255) 16 0 32)) ∧
  (∃ q k, Taken specFwStage h0 (sgD 1 256) ready q k ∧ fwServed q = true ∧ (sgD 1 256).target.toNat ≤ 1 ∧ runningSlot q ≠ some
    (sgD 1 256).target.toNat ∧ 256 ≤ opn (sgD 1 256) 16 0 32 ∧ opn (sgD 1 256) 16 0 32 ≤ 2097152) :=
  ⟨⟨_, _, taken (by decide) (by decide), by decide⟩, ⟨_, _, taken (by decide) (by decide), by decide⟩, ⟨_, _, taken (by decide)
    (by decide), by decide⟩, ⟨_, _, taken (by decide) (by decide), by decide⟩, ⟨_, _, taken (by decide) (by decide), by decide⟩⟩

theorem witness_Firmware_2 :
  (∃ q k, Taken specFwStage h0 (sgD 1 260) hosted q k ∧ fwServed q = true ∧ (sgD 1 260).target.toNat ≤ 1 ∧ runningSlot q ≠ some
    (sgD 1 260).target.toNat ∧ 256 ≤ opn (sgD 1 260) 16 0 32 ∧ opn (sgD 1 260) 16 0 32 ≤ 2097152 ∧ verifySlot (fwCopy q (sgD 1
    260).target.toNat (hostRead q (sgD 1 260).addr.toNat (opn (sgD 1 260) 16 0 32))) (sgD 1 260).target.toNat = true) ∧
  (∃ q k, Taken specFwStage h0 (sgD 0 256) ready q k ∧ fwServed q = true ∧ (sgD 0 256).target.toNat ≤ 1 ∧ runningSlot q ≠ some
    (sgD 0 256).target.toNat ∧ 256 ≤ opn (sgD 0 256) 16 0 32 ∧ opn (sgD 0 256) 16 0 32 ≤ 2097152 ∧ verifySlot (fwCopy q (sgD 0
    256).target.toNat (hostRead q (sgD 0 256).addr.toNat (opn (sgD 0 256) 16 0 32))) (sgD 0 256).target.toNat = false) ∧
  (∃ q k, Taken specFwCommit h0 (slD 0) stoppedFw q k ∧ fwServed q = false) ∧
  (∃ q k, Taken specFwCommit h0 (slD 2) ready q k ∧ fwServed q = true ∧ 1 < (slD 2).target.toNat) ∧
  (∃ q k, Taken specFwCommit h0 (slD 0) (running 0) q k ∧ fwServed q = true ∧ (slD 0).target.toNat ≤ 1 ∧ runningSlot q = some
    (slD 0).target.toNat) :=
  ⟨⟨_, _, taken (by decide) (by decide), by decide, by decide, by decide, by decide, by decide, (verified (by decide +kernel)
    (by decide +kernel) (by decide +kernel))⟩, ⟨_, _, taken (by decide +kernel) (by decide +kernel), by decide +kernel⟩, ⟨_, _,
    taken (by decide) (by decide), by decide⟩, ⟨_, _, taken (by decide) (by decide), by decide⟩, ⟨_, _, taken (by decide)
    (by decide), by decide⟩⟩

theorem witness_Firmware_3 :
  (∃ q k, Taken specFwCommit h0 (slD 1) ready q k ∧ fwServed q = true ∧ (slD 1).target.toNat ≤ 1 ∧ runningSlot q ≠ some (slD
    1).target.toNat ∧ List.take 4 (slotHead q (slD 1).target.toNat) ≠ fwMagic) ∧
  (∃ q k, Taken specFwCommit h0 (slD 0) magicOnly q k ∧ fwServed q = true ∧ (slD 0).target.toNat ≤ 1 ∧ runningSlot q ≠ some (slD
    0).target.toNat ∧ List.take 4 (slotHead q (slD 0).target.toNat) = fwMagic ∧ verifySlot q (slD 0).target.toNat = false) ∧
  (∃ q k, Taken specFwCommit h0 (slD 1) (staged 1 ready) q k ∧ fwServed q = true ∧ (slD 1).target.toNat ≤ 1 ∧ runningSlot q ≠
    some (slD 1).target.toNat ∧ verifySlot q (slD 1).target.toNat = true) ∧
  (∃ q k, Taken specLogRead h0 (lgD 0 32) stoppedFw q k ∧ q.glb.mpRunning = false) ∧
  (∃ q k, Taken specLogRead h0 (lgD 32767 2) ready q k ∧ q.glb.mpRunning = true ∧ (32767 < (lgD 32767 2).target.toNat ∨ 32768 <
    (lgD 32767 2).target.toNat + opn (lgD 32767 2) 16 0 32)) :=
  ⟨⟨_, _, taken (by decide) (by decide), by decide⟩, ⟨_, _, taken (by decide) (by decide), by decide⟩, ⟨_, _, taken (by decide)
    (by decide), by decide, by decide, by decide, (verified (by decide +kernel) (by decide +kernel) (by decide +kernel))⟩, ⟨_,
    _, taken (by decide) (by decide), by decide⟩, ⟨_, _, taken (by decide) (by decide), by decide⟩⟩

theorem witness_Firmware_4 :
  (∃ q k, Taken specLogRead h0 (lgD 4 60) logged q k ∧ q.glb.mpRunning = true ∧ (lgD 4 60).target.toNat ≤ 32767 ∧ (lgD 4
    60).target.toNat + opn (lgD 4 60) 16 0 32 ≤ 32768 ∧ (∀ (i : Nat), (i < if 32 * q.mp.logCount ≤ (lgD 4 60).target.toNat then
    0 else if (lgD 4 60).target.toNat + opn (lgD 4 60) 16 0 32 ≤ 32 * q.mp.logCount then opn (lgD 4 60) 16 0 32 else 32 *
    q.mp.logCount - (lgD 4 60).target.toNat) → (nvRead q (logPage (q.mp.lseq.toNat + 65536 - q.mp.logCount + ((lgD 4
    60).target.toNat + i) / 32))).isSome = true)) ∧
  (∃ q k, Taken specLogRead h0 (lgD 0 64) logBad q k ∧ q.glb.mpRunning = true ∧ (lgD 0 64).target.toNat ≤ 32767 ∧ (lgD 0
    64).target.toNat + opn (lgD 0 64) 16 0 32 ≤ 32768 ∧ (∃ i, (i < if 32 * q.mp.logCount ≤ (lgD 0 64).target.toNat then 0 else
    if (lgD 0 64).target.toNat + opn (lgD 0 64) 16 0 32 ≤ 32 * q.mp.logCount then opn (lgD 0 64) 16 0 32 else 32 * q.mp.logCount
    - (lgD 0 64).target.toNat) ∧ nvRead q (logPage (q.mp.lseq.toNat + 65536 - q.mp.logCount + ((lgD 0 64).target.toNat + i) /
    32)) = none)) ∧
  (domOn (bootS 0) 3 = true ∧ rootAlive (bootS 0) = true ∧ (bootS 0).glb.otpLoaded = true ∧ (bootS 0).mp.bootState = 0 ∧ (bootS
    0).glb.mpRunning = false ∧ (bootCtl (bootS 0)).trial = false ∧ verifySlot (bootS 0) (bootCtl (bootS 0)).preferred = true) ∧
  (domOn (bootS 1) 3 = true ∧ rootAlive (bootS 1) = true ∧ (bootS 1).glb.otpLoaded = true ∧ (bootS 1).mp.bootState = 0 ∧ (bootS
    1).glb.mpRunning = false ∧ (bootCtl (bootS 1)).trial = false ∧ verifySlot (bootS 1) (bootCtl (bootS 1)).preferred = false ∧
    verifySlot (bootS 1) (1 - (bootCtl (bootS 1)).preferred) = true) ∧
  (domOn stoppedFw 3 = true ∧ rootAlive stoppedFw = true ∧ stoppedFw.glb.otpLoaded = true ∧ stoppedFw.mp.bootState = 0 ∧
    stoppedFw.glb.mpRunning = false ∧ verifySlot stoppedFw 0 = false ∧ verifySlot stoppedFw 1 = false) :=
  ⟨⟨_, _, taken (by decide) (by decide), by decide, by decide, by decide, (log_two (by decide) (by decide +kernel))⟩, ⟨_, _,
    taken (by decide +kernel) (by decide +kernel), by decide +kernel⟩, ⟨by decide, by decide, by decide, by decide, by decide,
    by decide, (verified (by decide +kernel) (by decide +kernel) (by decide +kernel))⟩, ⟨by decide +kernel, by decide +kernel,
    by decide +kernel, by decide +kernel, by decide +kernel, by decide +kernel, by decide +kernel, (verified (by decide +kernel)
    (by decide +kernel) (by decide +kernel))⟩, (by decide)⟩

theorem witness_Firmware_5 :
  (domOn (trialS 1 2) 3 = true ∧ rootAlive (trialS 1 2) = true ∧ (trialS 1 2).glb.otpLoaded = true ∧ (trialS 1 2).mp.bootState =
    0 ∧ (trialS 1 2).glb.mpRunning = false ∧ (bootCtl (trialS 1 2)).trial = true ∧ (bootCtl (trialS 1 2)).fails < 3) ∧
  (domOn (trialS 1 3) 3 = true ∧ rootAlive (trialS 1 3) = true ∧ (trialS 1 3).glb.otpLoaded = true ∧ (trialS 1 3).mp.bootState =
    0 ∧ (trialS 1 3).glb.mpRunning = false ∧ (bootCtl (trialS 1 3)).trial = true ∧ 3 ≤ (bootCtl (trialS 1 3)).fails) ∧
  (domOn ready 3 = true ∧ rootAlive ready = true) ∧
  (mpRuns (dataS id) = true ∧ runningSlot (dataS id) = some 0 ∧ 0 < headData (List.take 256 (dataS id).mp.image) / 4096 ∧ sha256
    (dataPage (dataS id) 0 (List.take 256 (dataS id).mp.image) 0) = List.take 32 (List.drop (256 + 32 * 0) (dataS id).mp.image)) ∧
  (mpRuns (dataS bump) = true ∧ runningSlot (dataS bump) = some 0 ∧ 0 < headData (List.take 256 (dataS bump).mp.image) / 4096 ∧
    sha256 (dataPage (dataS bump) 0 (List.take 256 (dataS bump).mp.image) 0) ≠ List.take 32 (List.drop (256 + 32 * 0) (dataS
    bump).mp.image)) :=
  ⟨(by decide +kernel), (by decide +kernel), (by decide), ⟨(by decide), (by decide), (data_pages id), (page_good)⟩,
    ⟨(by decide), (by decide), (data_pages bump), (page_bad)⟩⟩

theorem witness_Firmware_6 :
  (mpRuns onTrial = true ∧ runningSlot onTrial = some 0 ∧ onTrial.mp.onSeconds < onTrial.mp.bootSeconds + 60) ∧
  (mpRuns (minuteIn onTrial) = true ∧ runningSlot (minuteIn onTrial) = some 0 ∧ (minuteIn onTrial).mp.trial = true ∧ (minuteIn
    onTrial).mp.confirmed = false ∧ (minuteIn onTrial).goose1.clean = true ∧ (minuteIn onTrial).mp.bootSeconds + 60 ≤ (minuteIn
    onTrial).mp.onSeconds) ∧
  (mpRuns ready1 = true ∧ runningSlot ready1 = some 0 ∧ ready1.mp.onSeconds / 3600 ≤ ready1.mp.hourRoll) ∧
  (mpRuns (hourIn (rolled (goalS 3))) = true ∧ runningSlot (hourIn (rolled (goalS 3))) = some 0 ∧ (hourIn (rolled (goalS
    3))).mp.hourRoll < (hourIn (rolled (goalS 3))).mp.onSeconds / 3600 ∧ ((hourIn (rolled (goalS 3))).mp.rollbackGoal ≤ (hourIn
    (rolled (goalS 3))).otp.rollback ∨ otpUnfit (hourIn (rolled (goalS 3))) = true)) ∧
  (mpRuns (hourIn (goalS 96)) = true ∧ runningSlot (hourIn (goalS 96)) = some 0 ∧ (hourIn (goalS 96)).mp.hourRoll < (hourIn
    (goalS 96)).mp.onSeconds / 3600 ∧ (hourIn (goalS 96)).otp.rollback < (hourIn (goalS 96)).mp.rollbackGoal ∧ (hourIn (goalS
    96)).mp.rollbackGoal ≤ 96 ∧ otpUnfit (hourIn (goalS 96)) = false) :=
  ⟨(by decide), (by decide), (by decide), (by decide), (by decide)⟩

/-- A restart of firmware whose domain is at rest, and of one whose domain is on its way to retention; a cut in each programming of the counter. -/
theorem witness_Firmware_7 :
  ((dom ready 3).move = none ∧ (dom ready 3).waiting = none) ∧
  (let s := withDom 3 { Domain.always with
      move := some { req := { target := .retention, byMp := false, ticket := none, byHost := false }, stage := 4, failed := 0, fromOff := false } } ready;
    domOn s 3 = true ∧ rootAlive s = true ∧ (dom s 3).move ≠ none) ∧
  (let s := hourIn (goalS 96); ∀ i, i < 96 → s.otp.rollback + ({ step := i, normal := 0, high := 0, low := 1 } : OtpCut).step < s.mp.rollbackGoal) ∧
  (cutCell { step := 0, normal := 0, high := 0, low := 1 } ≠ OtpCell.clean 0) ∧
  (let s := minuteIn onTrial; let h := s.mp.image.take 256; s.otp.rollback < headRollback h ∧ headRollback h < 96 ∧ otpUnfit s = false) := by
  decide +kernel

end Sys2Proof.Tests
end

