-- ==== Sys2Proof/Tests/NvmOtp.lean ====
section
/-! SUPPORT. Witnesses of the statements on NVM and OTP: states and operands that meet each clause. -/

namespace Sys2Proof.Tests
open Sys2Proof.Machine
set_option exponentiation.threshold 30000
set_option Elab.async false

/-! ### NVM and OTP -/

def nvD (t n : Nat) : Desc := dsc t 0x300000 [(128, 32, n)]
def saving1 : State := { ready with pwr := { ready.pwr with saveActive := true } }
def nv1 (p : Page) : State := setPage ready 1023 p
def slot0 : Slot := { Slot.programmed 0x55AA 1 with commit := .set }
/-- A page with one valid slot, and one whose only slot fails its check code. -/
def goodPage : Page := { Page.fresh with a := some slot0 }
def zeroNv : State := nv1 { Page.fresh with a := some { slot0 with data := 0, crc := slotCrc 0 1 } }
def badPage : Page := { Page.fresh with a := some { slot0 with crc := slot0.crc + 1 } }
def pw (ask : NvmAsk) : PageWrite := { page := 1023, off := 0, data := [1, 2], ask := ask }
def busyNv (ask : NvmAsk) : State :=
  { nv1 { goodPage with b := some (Slot.programmed 0x55AB 2) } with nvm := { (nv1 { goodPage with b := some (Slot.programmed 0x55AB 2) }).nvm with busy := some (pw ask) } }
def sbHeld : State := { ready with flt := { ready.flt with rootOverride := true } }
def nvOpen : State := wr ready 0x8044 1 1
def nvLocked : State := wr ready 0x8044 0 1
/-- SB_PEC is on, and the NVM writes are open. -/
def pecNv : State := { nvOpen with otp := { nvOpen.otp with items := [(1, 0x15C)] } }
def otpAt (lc : Nat) : State := { ready with otp := { ready.otp with lcState := lc } }
def otD (w v auth : Nat) : Desc := dsc w 0 [(128, 32, v), (160, 128, auth)]
def lockD (r : Nat) : Desc := dsc r 0 []
def advD (n key : Nat) : Desc := dsc 0 0 [(128, 8, n), (160, 32, key)]
def readLocked : State := { ready with otp := { ready.otp with readLock := 4, cells := [(5, OtpCell.clean (otpEncode 0x123))] } }
def lcMarg (lc : Nat) : State := { otpAt lc with otp := { (otpAt lc).otp with lcMarginal := true } }
def otpBarred (lc : Nat) : State := { otpAt lc with pwr := { ready.pwr with saveActive := true, saveEnded := true } }
def otpLocked0 : State := { otpAt 1 with otp := { (otpAt 1).otp with locked := 1 } }
/-- A word that reads differently at the high reference. -/
def weakRead (w : Nat) : MarginRead := { word := w, normal := otpEncode 0x123, high := 0, low := otpEncode 0x123 }
/-- The next powered hour of the MP is due. -/
def hourDue : State := { ready with mp := { ready.mp with onSeconds := 3600, hourPass := 0 } }
def cutAt (n : Nat) : OtpCut := { step := n, normal := 0, high := 0, low := otpEncode 1 }
theorem one_page {q : State} {a n : Nat} (h : a = 65472 ∧ n = 64) (r : (nvRead q 1023).isSome = true) :
    ∀ p, 64 * p < a + n → a < 64 * p + 64 → (nvRead q p).isSome = true := by
  obtain ⟨rfl, rfl⟩ := h
  intro p h1 h2
  obtain rfl : p = 1023 := by omega
  exact r

theorem witness_NvmAccess_1 :
  (∃ q k, Taken specNvmRead h0 (nvD 65473 64) ready q k ∧ 65536 < (nvD 65473 64).target.toNat + opn (nvD 65473 64) 16 0 32) ∧
  (∃ q k, Taken specNvmRead h0 (nvD 65472 64) saving1 q k ∧ (nvD 65472 64).target.toNat + opn (nvD 65472 64) 16 0 32 ≤ 65536 ∧
    nvmShut q = true) ∧
  (∃ q k, Taken specNvmRead h0 (nvD 65472 64) (nv1 goodPage) q k ∧ (nvD 65472 64).target.toNat + opn (nvD 65472 64) 16 0 32 ≤
    65536 ∧ (q.nvm.busy = none ∧ q.nvm.queue = [] ∧ nvmShut q = false) ∧ (∀ (p : Nat), 64 * p < (nvD 65472 64).target.toNat +
    opn (nvD 65472 64) 16 0 32 → (nvD 65472 64).target.toNat < 64 * p + 64 → (nvRead q p).isSome = true)) ∧
  (∃ q k, Taken specNvmRead h0 (nvD 65470 66) (nv1 badPage) q k ∧ (nvD 65470 66).target.toNat + opn (nvD 65470 66) 16 0 32 ≤
    65536 ∧ (q.nvm.busy = none ∧ q.nvm.queue = [] ∧ nvmShut q = false) ∧ (∃ i, i < opn (nvD 65470 66) 16 0 32 ∧ nvRead q (((nvD
    65470 66).target.toNat + i) / 64) = none)) ∧
  (∃ q k, Taken specNvmRead h0 (nvD 0 65536) (busyNv NvmAsk.internal) q k ∧ (nvD 0 65536).target.toNat + opn (nvD 0 65536) 16 0
    32 ≤ 65536 ∧ nvmShut q = false ∧ q.nvm.busy = some (pw NvmAsk.internal)) :=
  ⟨⟨_, _, taken (by decide) (by decide), by decide⟩, ⟨_, _, taken (by decide) (by decide), by decide⟩, ⟨_, _, taken (by decide)
    (by decide), by decide, by decide, (one_page (by decide) (by decide +kernel))⟩, ⟨_, _, taken (by decide +kernel)
    (by decide +kernel), by decide +kernel⟩, ⟨_, _, taken (by decide) (by decide), by decide⟩⟩

theorem witness_NvmAccess_2 :
  (∃ q k, Taken specNvmWrite h0 (nvD (9 * 64) 1) ready q k ∧ (nvD (9 * 64) 1).target.toNat / 64 < 1024 ∧ reqIsMp h0 = false ∧
    hostPage ((nvD (9 * 64) 1).target.toNat / 64) = false) ∧
  (∃ q k, Taken specNvmWrite h0 (nvD 65536 1) ready q k ∧ ((nvD 65536 1).target.toNat / 64 < 1024 → reqIsMp h0 = true ∨ hostPage
    ((nvD 65536 1).target.toNat / 64) = true) ∧ (opn (nvD 65536 1) 16 0 32 = 0 ∨ 64 < opn (nvD 65536 1) 16 0 32 ∨ 1023 < (nvD
    65536 1).target.toNat / 64)) ∧
  (∃ q k, Taken specNvmWrite h0 (nvD 0 64) saving1 q k ∧ ((nvD 0 64).target.toNat / 64 < 1024 → reqIsMp h0 = true ∨ hostPage
    ((nvD 0 64).target.toNat / 64) = true) ∧ 1 ≤ opn (nvD 0 64) 16 0 32 ∧ opn (nvD 0 64) 16 0 32 ≤ 64 ∧ (nvD 0 64).target.toNat
    / 64 ≤ 1023 ∧ nvmShut q = true) ∧
  (∃ q k, Taken specNvmWrite h0 (nvD 0 64) ready q k ∧ ((nvD 0 64).target.toNat / 64 < 1024 → reqIsMp h0 = true ∨ hostPage ((nvD
    0 64).target.toNat / 64) = true) ∧ 1 ≤ opn (nvD 0 64) 16 0 32 ∧ opn (nvD 0 64) 16 0 32 ≤ 64 ∧ (nvD 0 64).target.toNat / 64 ≤
    1023 ∧ nvmShut q = false ∧ true = true ∧ reqIsMp h0 = false) ∧
  (∃ q k, Taken specNvmWrite mp0 (dsc 65472 768 [(128, 32, 2)]) zeroNv q k ∧ ((dsc 65472 768 [(128, 32, 2)]).target.toNat / 64 <
    1024 → reqIsMp mp0 = true ∨ hostPage ((dsc 65472 768 [(128, 32, 2)]).target.toNat / 64) = true) ∧ 1 ≤ opn (dsc 65472 768
    [(128, 32, 2)]) 16 0 32 ∧ opn (dsc 65472 768 [(128, 32, 2)]) 16 0 32 ≤ 64 ∧ (dsc 65472 768 [(128, 32, 2)]).target.toNat / 64
    ≤ 1023 ∧ (q.nvm.busy = none ∧ q.nvm.queue = [] ∧ nvmShut q = false) ∧ (true = false ∨ reqIsMp mp0 = true) ∧ nvRead q ((dsc
    65472 768 [(128, 32, 2)]).target.toNat / 64) = some (List.replicate 64 0#8) ∧ mergeWrap (List.replicate 64 0#8) ((dsc 65472
    768 [(128, 32, 2)]).target.toNat % 64) (cmdRead q mp0 (dsc 65472 768 [(128, 32, 2)]).addr.toNat (opn (dsc 65472 768 [(128,
    32, 2)]) 16 0 32)) = List.replicate 64 0#8) :=
  ⟨⟨_, _, taken (by decide) (by decide), by decide⟩, ⟨_, _, taken (by decide) (by decide), by decide⟩, ⟨_, _, taken (by decide)
    (by decide), by decide⟩, ⟨_, _, taken (by decide) (by decide), by decide⟩, ⟨_, _, taken (by decide +kernel)
    (by decide +kernel), by decide +kernel⟩⟩

theorem witness_NvmAccess_3 :
  (∃ q k, Taken specNvmWrite h0 (nvD 65535 1) ready q k ∧ ((nvD 65535 1).target.toNat / 64 < 1024 → reqIsMp h0 = true ∨ hostPage
    ((nvD 65535 1).target.toNat / 64) = true) ∧ 1 ≤ opn (nvD 65535 1) 16 0 32 ∧ opn (nvD 65535 1) 16 0 32 ≤ 64 ∧ (nvD 65535
    1).target.toNat / 64 ≤ 1023 ∧ (q.nvm.busy = none ∧ q.nvm.queue = [] ∧ nvmShut q = false) ∧ (false = false ∨ reqIsMp h0 =
    true) ∧ nvRead q ((nvD 65535 1).target.toNat / 64) = some (List.replicate 64 255#8) ∧ mergeWrap (List.replicate 64 255#8)
    ((nvD 65535 1).target.toNat % 64) (cmdRead q h0 (nvD 65535 1).addr.toNat (opn (nvD 65535 1) 16 0 32)) ≠ List.replicate 64
    255#8) ∧
  (domOn ready 3 = true ∧ ready.nvm.busy = none) ∧
  (domOn (busyNv (NvmAsk.command (Ticket.mp 0 (0#16) false) 2)) 3 = true ∧ (busyNv (NvmAsk.command (Ticket.mp 0 (0#16) false)
    2)).nvm.busy = some (pw (NvmAsk.command (Ticket.mp 0 (0#16) false) 2)) ∧ (busyNv (NvmAsk.command (Ticket.mp 0 (0#16) false)
    2)).nvm.queue = [] ∧ (pw (NvmAsk.command (Ticket.mp 0 (0#16) false) 2)).ask = NvmAsk.command (Ticket.mp 0 (0#16) false) 2) ∧
  (domOn (busyNv NvmAsk.internal) 3 = true ∧ (busyNv NvmAsk.internal).nvm.busy = some (pw NvmAsk.internal) ∧ (busyNv
    NvmAsk.internal).nvm.queue = [] ∧ (pw NvmAsk.internal).ask = NvmAsk.internal) ∧
  (domOn (busyNv NvmAsk.sideband) 3 = true ∧ (busyNv NvmAsk.sideband).nvm.busy = some (pw NvmAsk.sideband) ∧ (busyNv
    NvmAsk.sideband).nvm.queue = [] ∧ (pw NvmAsk.sideband).ask = NvmAsk.sideband) :=
  ⟨⟨_, _, taken (by decide) (by decide), by decide⟩, (by decide), (by decide), (by decide), (by decide)⟩

theorem witness_NvmAccess_4 :
  (nvmAddressTaken sbHeld = false) ∧
  (nvmAddressTaken ready = true ∧ 256 * (255#8).toNat + (192#8).toNat + 64 ≤ 65536) ∧
  (nvmAddressTaken nvOpen = true ∧ ([1#8] = [] ∨ 64 < [1#8].length ∨ hostPage ((256 * (64#8).toNat + (2#8).toNat) / 64) = false
    ∨ flag nvOpen 32836 0 = false)) ∧
  (nvmAddressTaken pecNv = true ∧ [1#8] ≠ [] ∧ [1#8].length ≤ 64 ∧ hostPage ((256 * (2#8).toNat + (0#8).toNat) / 64) = true ∧
    flag pecNv 32836 0 = true ∧ false = false ∧ sbPec pecNv = true) ∧
  (nvmAddressTaken nvOpen = true ∧ [1#8, 2#8] ≠ [] ∧ [1#8, 2#8].length ≤ 64 ∧ hostPage ((256 * (2#8).toNat + (63#8).toNat) / 64)
    = true ∧ flag nvOpen 32836 0 = true ∧ (true = true ∨ sbPec nvOpen = false) ∧ nvOpen.nvm.queue = [] ∧ nvRead nvOpen ((256 *
    (2#8).toNat + (63#8).toNat) / 64) = some (List.replicate 64 255#8) ∧ mergeWrap (List.replicate 64 255#8) ((256 * (2#8).toNat
    + (63#8).toNat) % 64) [1#8, 2#8] ≠ List.replicate 64 255#8) :=
  ⟨(by decide), (by decide), (by decide), (by decide), (by decide)⟩

theorem witness_NvmAccess_5 : nvmAddressTaken nvOpen = true ∧ [255#8] ≠ [] ∧ [255#8].length ≤ 64 ∧ hostPage ((256 *
  (192#8).toNat + (0#8).toNat) / 64) = true ∧ flag nvOpen 32836 0 = true ∧ (true = true ∨ sbPec nvOpen = false) ∧
  nvOpen.nvm.queue = [] ∧ nvRead nvOpen ((256 * (192#8).toNat + (0#8).toNat) / 64) = some (List.replicate 64 255#8) ∧ mergeWrap
  (List.replicate 64 255#8) ((256 * (192#8).toNat + (0#8).toNat) % 64) [255#8] = List.replicate 64 255#8 := by decide

theorem witness_OtpAccess_1 :
  (∃ q k, Taken specOtpRead h0 (nvD 1023 2) ready q k ∧ 1024 < (nvD 1023 2).target.toNat + opn (nvD 1023 2) 16 0 32) ∧
  (∃ q k, Taken specOtpRead h0 (nvD 1023 1) ready q k ∧ (nvD 1023 1).target.toNat + opn (nvD 1023 1) 16 0 32 ≤ 1024) ∧
  (∃ q k, Taken specOtpProgram h0 (otD 1024 1 0) (otpAt 1) q k ∧ programStatus q (otD 1024 1 0).target.toNat (BitVec.ofNat 32
    (opn (otD 1024 1 0) 16 0 32)) (opn (otD 1024 1 0) 20 0 128) none = some stRange) ∧
  (∃ q k, Taken specOtpProgram h0 (otD 768 1 0) (otpAt 1) q k ∧ (768 ≤ (otD 768 1 0).target.toNat ∧ (otD 768 1 0).target.toNat <
    928 ∨ (otD 768 1 0).target.toNat < 1024 ∧ mayProgram q.otp.lcState (otD 768 1 0).target.toNat = false ∨ (otD 768 1
    0).target.toNat < 1024 ∧ bitOf q.otp.locked (otpRegion (otD 768 1 0).target.toNat) = true)) ∧
  (∃ q k, Taken specOtpProgram h0 (otD 319 1 0) (otpAt 1) q k ∧ programStatus q (otD 319 1 0).target.toNat (BitVec.ofNat 32 (opn
    (otD 319 1 0) 16 0 32)) (opn (otD 319 1 0) 20 0 128) none = none) :=
  ⟨⟨_, _, taken (by decide) (by decide), by decide⟩, ⟨_, _, taken (by decide) (by decide), by decide⟩, ⟨_, _, taken (by decide)
    (by decide), by decide⟩, ⟨_, _, taken (by decide) (by decide), by decide⟩, ⟨_, _, taken (by decide) (by decide), by decide⟩⟩

theorem witness_OtpAccess_2 :
  (∃ q k, Taken specOtpProgram h0 (otD 0 291 0) (otpAt 1) q k ∧ programStatus q (otD 0 291 0).target.toNat (BitVec.ofNat 32 (opn
    (otD 0 291 0) 16 0 32)) (opn (otD 0 291 0) 20 0 128) none = none ∧ ((judge (weakRead 0)).marginal = true ∨ (judge (weakRead
    0)).value ≠ BitVec.ofNat 32 (opn (otD 0 291 0) 16 0 32))) ∧
  (∃ q k, Taken specOtpLockRegion h0 (lockD 6) (otpAt 1) q k ∧ 5 < (lockD 6).target.toNat) ∧
  (∃ q k, Taken specOtpLockRegion h0 (lockD 0) otpLocked0 q k ∧ ((lockD 0).target.toNat = 4 ∨ (lockD 0).target.toNat = 5 ∨
    (lockD 0).target.toNat < 4 ∧ bitOf q.otp.locked (lockD 0).target.toNat = true)) ∧
  (∃ q k, Taken specOtpLockRegion h0 (lockD 2) (otpAt 1) q k ∧ (lockD 2).target.toNat < 4 ∧ bitOf q.otp.locked (lockD
    2).target.toNat = false ∧ (mayLock q.otp.lcState (lockD 2).target.toNat = false ∨ bitOf q.otp.progLock (lockD
    2).target.toNat = true ∨ q.otp.lcMarginal = true)) ∧
  (∃ q k, Taken specOtpLockRegion h0 (lockD 1) (otpBarred 1) q k ∧ (lockD 1).target.toNat < 4 ∧ bitOf q.otp.locked (lockD
    1).target.toNat = false ∧ mayLock q.otp.lcState (lockD 1).target.toNat = true ∧ bitOf q.otp.progLock (lockD 1).target.toNat
    = false ∧ q.otp.lcMarginal = false ∧ otpUnfit q = true) :=
  ⟨⟨_, _, taken (by decide) (by decide), by decide⟩, ⟨_, _, taken (by decide) (by decide), by decide⟩, ⟨_, _, taken (by decide)
    (by decide), by decide⟩, ⟨_, _, taken (by decide) (by decide), by decide⟩, ⟨_, _, taken (by decide) (by decide), by decide⟩⟩

theorem witness_OtpAccess_3 :
  (∃ q k, Taken specOtpLockRegion h0 (lockD 3) (otpAt 2) q k ∧ (lockD 3).target.toNat < 4 ∧ bitOf q.otp.locked (lockD
    3).target.toNat = false ∧ mayLock q.otp.lcState (lockD 3).target.toNat = true ∧ bitOf q.otp.progLock (lockD 3).target.toNat
    = false ∧ q.otp.lcMarginal = false ∧ otpUnfit q = false) ∧
  (∃ q k, Taken specLcAdvance h0 (advD 1 2050789861) (otpAt 0) q k ∧ opn (advD 1 2050789861) 20 0 32 ≠ 2050789860) ∧
  (∃ q k, Taken specLcAdvance h0 (advD 1 2050789860) (lcMarg 0) q k ∧ opn (advD 1 2050789860) 20 0 32 = 2050789860 ∧
    q.otp.lcMarginal = true) ∧
  (∃ q k, Taken specLcAdvance h0 (advD 5 2050789860) (otpAt 4) q k ∧ opn (advD 5 2050789860) 20 0 32 = 2050789860 ∧
    q.otp.lcMarginal = false ∧ (opn (advD 5 2050789860) 16 0 8 ≠ q.otp.lcState + 1 ∨ q.otp.lcState = 4)) ∧
  (∃ q k, Taken specLcAdvance h0 (advD 1 2050789860) (otpBarred 0) q k ∧ opn (advD 1 2050789860) 20 0 32 = 2050789860 ∧
    q.otp.lcMarginal = false ∧ opn (advD 1 2050789860) 16 0 8 = q.otp.lcState + 1 ∧ q.otp.lcState < 4 ∧ otpUnfit q = true) :=
  ⟨⟨_, _, taken (by decide) (by decide), by decide⟩, ⟨_, _, taken (by decide) (by decide), by decide⟩, ⟨_, _, taken (by decide)
    (by decide), by decide⟩, ⟨_, _, taken (by decide) (by decide), by decide⟩, ⟨_, _, taken (by decide) (by decide), by decide⟩⟩

theorem witness_OtpAccess_4 :
  (∃ q k, Taken specLcAdvance h0 (advD 4 2050789860) (otpAt 3) q k ∧ opn (advD 4 2050789860) 20 0 32 = 2050789860 ∧
    q.otp.lcMarginal = false ∧ opn (advD 4 2050789860) 16 0 8 = q.otp.lcState + 1 ∧ q.otp.lcState < 4 ∧ otpUnfit q = false) ∧
  ((domOn ready 3 = false ∨ rootAlive ready = false ∨ ready.mp.onSeconds / 3600 ≤ ready.mp.hourPass)) ∧
  (domOn Tests.hourDue 3 = true ∧ rootAlive Tests.hourDue = true ∧ Tests.hourDue.mp.hourPass < Tests.hourDue.mp.onSeconds / 3600
    ∧ marginals Tests.hourDue.otp [] = []) ∧
  (domOn Tests.hourDue 3 = true ∧ rootAlive Tests.hourDue = true ∧ Tests.hourDue.mp.hourPass < Tests.hourDue.mp.onSeconds / 3600
    ∧ marginals Tests.hourDue.otp [weakRead 4, weakRead 5] = [4, 5]) :=
  ⟨⟨_, _, taken (by decide) (by decide), by decide⟩, (by decide), (by decide), (by decide)⟩

/-- Word 0 already programmed at the low reference only; a cut in each step of a lock and of an advance; a word that reads programmed. -/
theorem witness_OtpAccess_5 :
  (∃ q k, Taken specOtpProgram h0 (otD 0 291 0) (otpAt 1) q k ∧
    programStatus q 0 291 0 (some { word := 0, normal := 0, high := 0, low := otpEncode 1 }) = some stRefused) ∧
  (∃ q k, Taken specOtpLockRegion h0 (lockD 3) { otpAt 2 with otp := { (otpAt 2).otp with cells := [(900, OtpCell.clean (otpEncode 7))] } } q k ∧
    (lockD 3).target.toNat < 4 ∧ bitOf q.otp.locked 3 = false ∧ mayLock q.otp.lcState 3 = true ∧ bitOf q.otp.progLock 3 = false ∧
    q.otp.lcMarginal = false ∧ otpUnfit q = false ∧ (cutAt 0).step < 2 ∧ (cutAt 1).step < 2 ∧ cutCell (cutAt 0) ≠ OtpCell.clean 0) ∧
  (∃ q k, Taken specLcAdvance h0 (advD 2 2050789860) (otpAt 1) q k ∧ opn (advD 2 2050789860) 20 0 32 = 2050789860 ∧
    q.otp.lcMarginal = false ∧ opn (advD 2 2050789860) 16 0 8 = q.otp.lcState + 1 ∧ q.otp.lcState < 4 ∧ otpUnfit q = false ∧
    (cutAt (2 * (toSeal q).length)).step = 2 * (toSeal q).length ∧ (cutAt 0).step ≤ 2 * (toSeal q).length) ∧
  (judge (weakRead 0)).prog = true :=
  ⟨⟨_, _, taken (by decide) (by decide), by decide⟩, ⟨_, _, taken (by decide) (by decide), by decide⟩,
    ⟨_, _, taken (by decide) (by decide), by decide⟩, by decide⟩

end Sys2Proof.Tests
end

