-- ==== Sys2Proof/Tests/Rtc.lean ====
section
/-! SUPPORT. Witnesses of the statements on the calendar: states and operands that meet each clause. -/

namespace Sys2Proof.Tests
open Sys2Proof.Machine
set_option exponentiation.threshold 30000
set_option Elab.async false

/-! ### The calendar -/

def rtcS (r : Rtc) : State := { ready with rtc := r }
/-- 2024-02-29 23:59:59, and the last second of 2399. -/
def leapEve : Cal := { year := 24, month := 2, day := 29, hour := 23, min := 59, sec := 59 }
def lastSecond : Cal := { year := 399, month := 12, day := 31, hour := 23, min := 59, sec := 59 }
def timeW : Word := leapEve.timeWord false
def dateW : Word := leapEve.dateWord
def badDate : Word := { leapEve with year := 23 }.dateWord
def rtc0 : Rtc := { Rtc.lost with cal := leapEve, timeInvalid := false }
def crossS (o : RtcOp) : State := rtcS { rtc0 with crossing := [o, .date 0], dateStaged := some dateW }
def crossBad (o : RtcOp) : State := rtcS { rtc0 with crossing := [o], dateStaged := some badDate }
def crossStop (o : RtcOp) : State := rtcS { rtc0 with stopped := true, crossing := [o, .date 0], dateStaged := some dateW }
def mpK : Ticket := .mp 0 0 false
def setD : Desc := dsc 0 0 [(128, 32, (timeW &&& timeMask).toNat), (160, 32, dateW.toNat)]
def almD (a t d : Nat) : Desc := dsc 0 0 [(128, 1, a), (160, 32, t), (192, 32, d)]
def perD (p : Nat) : Desc := dsc 0 0 [(128, 32, p)]
def stoppedS : State := rtcS { rtc0 with stopped := true }
def alarmed (sec : Nat) (r : Rtc) : Rtc := { r with alarmArmed := true, alarmTime := { leapEve with sec := sec }.timeWord false, alarmDate := dateW }
def dueS : State := rtcS (alarmed 59 rtc0)
def notDueS : State := rtcS (alarmed 59 { rtc0 with cal := { leapEve with sec := 58 } })
def stoppedDue : State := rtcS (alarmed 58 { rtc0 with stopped := true })
def mpOff (s : State) : State := withDom 3 (Domain.init .off) s
def perS : State := rtcS { rtc0 with period := 8 }
def comp63 : State := rtcS { rtc0 with compSecs := 63 }
/-- 64 seconds counted since the last compensation. -/
def comp64 : State := rtcS { rtc0 with compSecs := 64, offset := 120, ageing := -7 }

theorem witness_CalendarCommands_1 :
  (∃ q k, Taken specRtcGet h0 (dsc 0 0 []) (rtcS rtc0) q k) ∧
  (∃ q k, Taken specRtcSet h0 setD ready q k) ∧
  (∃ q k, Taken specAlarmSet h0 (almD 0 1 0) ready q k ∧ opn (almD 0 1 0) 16 0 1 = 0 ∧ opn (almD 0 1 0) 20 0 64 ≠ 0) ∧
  (∃ q k, Taken specAlarmSet h0 (almD 0 0 0) ready q k ∧ (opn (almD 0 0 0) 16 0 1 = 1 ∨ opn (almD 0 0 0) 20 0 64 = 0)) ∧
  (∃ q k, Taken specPeriodicSet h0 (perD 5529601) ready q k ∧ 5529600 < opn (perD 5529601) 16 0 32) :=
  ⟨⟨_, _, taken (by decide) (by decide)⟩, ⟨_, _, taken (by decide) (by decide)⟩, ⟨_, _, taken (by decide) (by decide),
    by decide⟩, ⟨_, _, taken (by decide) (by decide), by decide⟩, ⟨_, _, taken (by decide) (by decide), by decide⟩⟩

theorem witness_CalendarCommands_2 :
  (∃ q k, Taken specPeriodicSet h0 (perD 5529600) ready q k ∧ opn (perD 5529600) 16 0 32 ≤ 5529600) ∧
  (Via.mp ≠ Via.sideband ∧ viaReach ready Via.mp = true) ∧
  (viaReach ready Via.sideband = true) ∧
  (ready.rtc.crossing = []) ∧
  ((crossS (RtcOp.date dateW)).rtc.stopped = false ∧ (32769 < (crossS (RtcOp.date dateW)).rtc.edge ∨ 32768 < 32769)) :=
  ⟨⟨_, _, taken (by decide) (by decide), by decide⟩, (by decide), (by decide), (by decide), (by decide)⟩

theorem witness_CalendarCommands_3 :
  ((crossS (RtcOp.time timeW true)).rtc.crossing = [RtcOp.time timeW true, RtcOp.date 0#32] ∧ (crossS (RtcOp.time timeW
    true)).rtc.stopped = false ∧ (Cal.ofWords timeW (stagedDate (crossS (RtcOp.time timeW true)))).valid = true) ∧
  ((crossS (RtcOp.time timeW true)).rtc.crossing = [RtcOp.time timeW true, RtcOp.date 0#32] ∧ ((crossS (RtcOp.time timeW
    true)).rtc.stopped = true ∨ (crossS (RtcOp.time timeW true)).rtc.edge ≤ 0 ∧ 0 < 32768) ∧ RtcOp.time timeW true = RtcOp.time
    timeW true ∧ (Cal.ofWords timeW (stagedDate (crossS (RtcOp.time timeW true)))).valid = true) ∧
  ((crossBad (RtcOp.time timeW true)).rtc.crossing = [RtcOp.time timeW true] ∧ ((crossBad (RtcOp.time timeW true)).rtc.stopped =
    true ∨ (crossBad (RtcOp.time timeW true)).rtc.edge ≤ 32767 ∧ 32767 < 32768) ∧ RtcOp.time timeW true = RtcOp.time timeW true
    ∧ (Cal.ofWords timeW (stagedDate (crossBad (RtcOp.time timeW true)))).valid = false) ∧
  ((crossS (RtcOp.date dateW)).rtc.crossing = [RtcOp.date dateW, RtcOp.date 0#32] ∧ ((crossS (RtcOp.date dateW)).rtc.stopped =
    true ∨ (crossS (RtcOp.date dateW)).rtc.edge ≤ 5 ∧ 5 < 32768) ∧ RtcOp.date dateW = RtcOp.date dateW) ∧
  ((crossS (RtcOp.set mpK timeW dateW false)).rtc.crossing = [RtcOp.set mpK timeW dateW false, RtcOp.date 0#32] ∧ ((crossS
    (RtcOp.set mpK timeW dateW false)).rtc.stopped = true ∨ (crossS (RtcOp.set mpK timeW dateW false)).rtc.edge ≤ 5 ∧ 5 < 32768)
    ∧ RtcOp.set mpK timeW dateW false = RtcOp.set mpK timeW dateW false ∧ (Cal.ofWords timeW dateW).valid = true) :=
  ⟨(by decide), (by decide), (by decide), (by decide), (by decide)⟩

theorem witness_CalendarCommands_4 :
  ((crossS (RtcOp.set mpK timeW badDate true)).rtc.crossing = [RtcOp.set mpK timeW badDate true, RtcOp.date 0#32] ∧ ((crossS
    (RtcOp.set mpK timeW badDate true)).rtc.stopped = true ∨ (crossS (RtcOp.set mpK timeW badDate true)).rtc.edge ≤ 5 ∧ 5 <
    32768) ∧ RtcOp.set mpK timeW badDate true = RtcOp.set mpK timeW badDate true ∧ (Cal.ofWords timeW badDate).valid = false) ∧
  ((crossS (RtcOp.alarm mpK true timeW badDate)).rtc.crossing = [RtcOp.alarm mpK true timeW badDate, RtcOp.date 0#32] ∧ ((crossS
    (RtcOp.alarm mpK true timeW badDate)).rtc.stopped = true ∨ (crossS (RtcOp.alarm mpK true timeW badDate)).rtc.edge ≤ 5 ∧ 5 <
    32768) ∧ RtcOp.alarm mpK true timeW badDate = RtcOp.alarm mpK true timeW badDate ∧ (Cal.ofWords timeW badDate).valid =
    false) ∧
  ((crossS (RtcOp.alarm mpK true timeW 19071233#32)).rtc.crossing = [RtcOp.alarm mpK true timeW 19071233#32, RtcOp.date 0#32] ∧
    ((crossS (RtcOp.alarm mpK true timeW 19071233#32)).rtc.stopped = true ∨ (crossS (RtcOp.alarm mpK true timeW
    19071233#32)).rtc.edge ≤ 5 ∧ 5 < 32768) ∧ RtcOp.alarm mpK true timeW 19071233#32 = RtcOp.alarm mpK true timeW 19071233#32 ∧
    (Cal.ofWords timeW 19071233#32).valid = true ∧ calSeconds (crossS (RtcOp.alarm mpK true timeW 19071233#32)) < (Cal.ofWords
    timeW 19071233#32).seconds) ∧
  ((crossS (RtcOp.alarm mpK true timeW dateW)).rtc.crossing = [RtcOp.alarm mpK true timeW dateW, RtcOp.date 0#32] ∧ ((crossS
    (RtcOp.alarm mpK true timeW dateW)).rtc.stopped = true ∨ (crossS (RtcOp.alarm mpK true timeW dateW)).rtc.edge ≤ 5 ∧ 5 <
    32768) ∧ RtcOp.alarm mpK true timeW dateW = RtcOp.alarm mpK true timeW dateW ∧ (Cal.ofWords timeW dateW).valid = true ∧
    (Cal.ofWords timeW dateW).seconds ≤ calSeconds (crossS (RtcOp.alarm mpK true timeW dateW))) ∧
  ((crossS (RtcOp.alarm mpK false 0#32 0#32)).rtc.crossing = [RtcOp.alarm mpK false 0#32 0#32, RtcOp.date 0#32] ∧ ((crossS
    (RtcOp.alarm mpK false 0#32 0#32)).rtc.stopped = true ∨ (crossS (RtcOp.alarm mpK false 0#32 0#32)).rtc.edge ≤ 5 ∧ 5 < 32768)
    ∧ RtcOp.alarm mpK false 0#32 0#32 = RtcOp.alarm mpK false 0#32 0#32) :=
  ⟨(by decide), (by decide), (by decide), (by decide), (by decide)⟩

theorem witness_CalendarCommands_5 : (crossStop (RtcOp.periodic mpK 5529600)).rtc.crossing = [RtcOp.periodic mpK 5529600,
  RtcOp.date 0#32] ∧ ((crossStop (RtcOp.periodic mpK 5529600)).rtc.stopped = true ∨ (crossStop (RtcOp.periodic mpK
  5529600)).rtc.edge ≤ 40000 ∧ 40000 < 32768) ∧ RtcOp.periodic mpK 5529600 = RtcOp.periodic mpK 5529600 := by decide

theorem witness_CalendarCommands_6 : (crossS (RtcOp.status 0x78#32)).rtc.crossing = [RtcOp.status 0x78#32, RtcOp.date 0#32] ∧
  ((crossS (RtcOp.status 0x78#32)).rtc.stopped = true ∨ (crossS (RtcOp.status 0x78#32)).rtc.edge ≤ 5 ∧ 5 < 32768) ∧
  RtcOp.status 0x78#32 = RtcOp.status 0x78#32 := by decide

theorem witness_CalendarRuns_1 :
  (stoppedS.rtc.stopped = true ∧ (¬(stoppedS.rtc.alarmArmed = true ∧ (alarmCal stoppedS).seconds ≤ calSeconds stoppedS))) ∧
  (stoppedDue.rtc.stopped = true ∧ (stoppedDue.rtc.alarmArmed = true ∧ (alarmCal stoppedDue).seconds ≤ calSeconds stoppedDue)) ∧
  (comp63.rtc.stopped = false ∧ comp63.rtc.compSecs < 64) ∧
  (comp64.rtc.stopped = false ∧ 64 ≤ comp64.rtc.compSecs) ∧
  (notDueS.rtc.stopped = false ∧ (¬(notDueS.rtc.alarmArmed = true ∧ (alarmCal notDueS).seconds ≤ calSeconds notDueS))) :=
  ⟨(by decide), (by decide), (by decide), (by decide), (by decide)⟩

theorem witness_CalendarRuns_2 :
  (dueS.rtc.stopped = false ∧ (dueS.rtc.alarmArmed = true ∧ (alarmCal dueS).seconds ≤ calSeconds dueS)) ∧
  (perS.rtc.stopped = false ∧ (perS.rtc.period = 0 ∨ 32768 < perS.rtc.edge ∨ 32768 ≤ 32768)) ∧
  (perS.rtc.stopped = false ∧ perS.rtc.period ≠ 0 ∧ perS.rtc.edge ≤ 4095 ∧ 4095 < 32768) ∧
  (perS.rtc.stopped = false ∧ perS.rtc.period ≠ 0 ∧ perS.rtc.edge ≤ 4096 ∧ 4096 < 32768) ∧
  (dueS.rtc.stopped = false) :=
  ⟨(by decide), (by decide), (by decide), (by decide), (by decide)⟩

end Sys2Proof.Tests
end

