-- ==== Sys2Proof/Tests/Scans.lean ====
section
/-! SUPPORT. Witnesses of the statements on parking, ageing and the margin plan: states and operands that meet each clause. -/

namespace Sys2Proof.Tests
open Sys2Proof.Machine
set_option exponentiation.threshold 30000
set_option Elab.async false

/-! ### Parking, ageing and the margin plan -/

def mpDown : State := withDom 3 (Domain.init .off) ready
/-- PD_CORE is off; groups 0 and 2 are to park, a check holding for two scans. -/
def toPark : State := wr (withDom 4 (Domain.init .off) ring2) 0xA010 0x205 0xF1F
/-- Group 0 parks; PD_LNK0 in retention, or on with every enabled port of the group enumerated. -/
def scanS : State :=
  let s := withDom 6 { Domain.init .on with state := .retention } toPark
  setPark s { s.mp.parking with active := true, groups := 1, runs := List.replicate 16 1, woken := List.replicate 16 false }
def scanOn : State := wr (withDom 6 { Domain.init .on with state := .on } scanS) 0x300C 1 0xFFFF
def scanNone : State := setPark scanS { scanS.mp.parking with active := false }
/-- Group 0's scan is due from 1,000 ms on. -/
def scanWait : State := setPark scanS { scanS.mp.parking with dueMs := [1000, 0, 0, 0] }
def scanUp : State := { scanS with seq := { scanS.seq with state := .up } }
/-- A record of node 0 with the TEMPS code 100 of its first input. -/
def hotRec : BitVec 11552 := putBits 0 (8 * 1412) 16 100
def hotScan (s : State) : State := wr s 0xA018 100 0xFFFFFFFF
def applying (s : State) : State := { s with mp := { s.mp with applying := true } }
/-- POLICY 0 AUTO, 1 PROPOSE, 2 FROZEN. -/
def policy (n : Nat) : State := wr ready 0xA034 (BitVec.ofNat 32 n) 3
def fwDown : State := { ready with glb := { ready.glb with mpRunning := false } }
def planS : State := policy 1
/-- Monitor 0 has aged by 12,000 ppm. -/
def aged (s : State) : State := { s with mp := { s.mp with monitors := [(0, 12000)] } }
def inputs0 : List (Nat × Int) := [(1, 600), (2, 3), (17, 900), (18, 0), (20, 0), (21, 0)]
def planDue (s : State) : State := { s with mp := { s.mp with onSeconds := 360000, hourPlan := 0 } }
def propose : State := after (exec (.marginReplanPeriodic inputs0) (planDue (aged planS)))
def ageDue : State := { ready with mp := { ready.mp with onSeconds := 3600, hourAge := 0 } }
def getD0 : Desc := dsc 0 0x300000 []
def accD (n : Nat) : Desc := dsc 0 0 [(128, 32, n)]
def disarmedS : State := { ready with mp := { ready.mp with dieArmed := false } }

theorem witness_ParkingRuns_1 :
  ((mpRuns ready = false ∨ (dom ready 4).state = DomState.on ∨ parkGroups ready = 0#4 ∨ ready.mp.parking.active = true)) ∧
  (mpRuns toPark = true ∧ (dom toPark 4).state ≠ DomState.on ∧ parkGroups toPark ≠ 0#4 ∧ toPark.mp.parking.active = false) ∧
  ((scanNone.glb.mpRunning = false ∨ scanNone.mp.parking.active = false ∨ bitOf scanNone.mp.parking.groups 0 = false ∨ (dom
    scanNone (6 + 0)).move.isSome = true ∨ 0 < scanNone.mp.parking.dueMs[0]?.getD 0)) ∧
  ((scanWait.glb.mpRunning = false ∨ scanWait.mp.parking.active = false ∨ bitOf scanWait.mp.parking.groups 0 = false ∨ (dom
    scanWait (6 + 0)).move.isSome = true ∨ 999 < scanWait.mp.parking.dueMs[0]?.getD 0)) ∧
  (scanS.mp.parking.dueMs[0]?.getD 0 ≤ 0 ∧ scanS.glb.mpRunning = true ∧ scanS.mp.parking.active = true ∧ bitOf
    scanS.mp.parking.groups 0 = true ∧ (dom scanS (6 + 0)).move = none ∧ domOff scanS (6 + 0) = false ∧ (domOn scanS (6 + 0) =
    true → unenumerated scanS 0 = [] ∧ scanS.lp.jobs = [] ∧ scanS.lp.wait = none)) :=
  ⟨(by decide), (by decide), (by decide), (by decide), (by decide)⟩

theorem witness_ParkingRuns_2 : scanOn.mp.parking.dueMs[0]?.getD 0 ≤ 7 ∧ scanOn.glb.mpRunning = true ∧ scanOn.mp.parking.active
  = true ∧ bitOf scanOn.mp.parking.groups 0 = true ∧ (dom scanOn (6 + 0)).move = none ∧ domOff scanOn (6 + 0) = false ∧ (domOn
  scanOn (6 + 0) = true → unenumerated scanOn 0 = [] ∧ scanOn.lp.jobs = [] ∧ scanOn.lp.wait = none) := by decide

theorem witness_AgeingAndPlan_1 :
  (mpRuns mpDown = false) ∧
  (mpRuns ready = true ∧ ready.mp.onSeconds / 360000 ≤ ready.mp.hourPlan) ∧
  (mpRuns (planDue (applying ready)) = true ∧ (planDue (applying ready)).mp.hourPlan < (planDue (applying ready)).mp.onSeconds /
    360000 ∧ (planDue (applying ready)).mp.applying = true) ∧
  (mpRuns (planDue (policy 0)) = true ∧ (planDue (policy 0)).mp.hourPlan < (planDue (policy 0)).mp.onSeconds / 360000 ∧ (planDue
    (policy 0)).mp.applying = false) ∧
  (Via.host ≠ Via.sideband ∧ viaReach ready Via.host = true ∧ domOn ready 3 = true ∧ rootAlive ready = true ∧ (bitOf (2#32) 2 =
    false ∨ ready.glb.mpRunning = false)) :=
  ⟨(by decide), (by decide), (by decide), (by decide), (by decide)⟩

theorem witness_AgeingAndPlan_2 :
  (Via.mp ≠ Via.sideband ∧ viaReach (applying ready) Via.mp = true ∧ domOn (applying ready) 3 = true ∧ rootAlive (applying
    ready) = true ∧ bitOf (4#32) 2 = true ∧ (applying ready).glb.mpRunning = true ∧ (applying ready).mp.applying = true) ∧
  (Via.host ≠ Via.sideband ∧ viaReach ready Via.host = true ∧ domOn ready 3 = true ∧ rootAlive ready = true ∧ bitOf (5#32) 2 =
    true ∧ ready.glb.mpRunning = true ∧ ready.mp.applying = false) ∧
  (mpRuns ready = true ∧ ready.mp.applying = false) ∧
  (mpRuns (applying ready) = true ∧ (applying ready).mp.applying = true ∧ (applying ready).mp.replanHeld = false) ∧
  (∃ q k, Taken specMarginPlanGet h0 getD0 fwDown q k ∧ q.glb.mpRunning = false) :=
  ⟨(by decide), (by decide), (by decide), (by decide), ⟨_, _, taken (by decide) (by decide), by decide⟩⟩

theorem witness_AgeingAndPlan_3 :
  (∃ q k, Taken specMarginPlanGet h0 getD0 ready q k ∧ q.glb.mpRunning = true) ∧
  (∃ q k, Taken specMarginPlanAccept h0 (accD 0) fwDown q k ∧ q.glb.mpRunning = false) ∧
  (∃ q k, Taken specMarginPlanAccept h0 (accD 1) ready q k ∧ q.glb.mpRunning = true ∧ opn (accD 1) 16 0 32 ≠ BitVec.toNat
    q.mp.revision) ∧
  (∃ q k, Taken specMarginPlanAccept h0 (accD 0) ready q k ∧ q.glb.mpRunning = true ∧ opn (accD 0) 16 0 32 = BitVec.toNat
    q.mp.revision ∧ (marginPolicy q ≠ 1 ∨ q.mp.pending = false ∨ q.mp.applying = true)) ∧
  (∃ q k, Taken specMarginPlanAccept h0 (accD 1) propose q k ∧ q.glb.mpRunning = true ∧ opn (accD 1) 16 0 32 = BitVec.toNat
    q.mp.revision ∧ marginPolicy q = 1 ∧ q.mp.pending = true ∧ q.mp.applying = false) :=
  ⟨⟨_, _, taken (by decide) (by decide), by decide⟩, ⟨_, _, taken (by decide) (by decide), by decide⟩, ⟨_, _, taken (by decide)
    (by decide), by decide⟩, ⟨_, _, taken (by decide) (by decide), by decide⟩, ⟨_, _, taken (by decide +kernel)
    (by decide +kernel), by decide +kernel⟩⟩

theorem witness_AgeingAndPlan_4 :
  ((mpRuns ready = false ∨ ready.mp.onSeconds / 3600 ≤ ready.mp.hourAge)) ∧
  (mpRuns ageDue = true ∧ ageDue.mp.hourAge < ageDue.mp.onSeconds / 3600) ∧
  (mpRuns disarmedS = true ∧ (disarmedS.mp.dieArmed = false ∨ (32767#16).toInt < warnTemp disarmedS)) ∧
  (mpRuns ready = true ∧ ready.mp.dieArmed = true ∧ warnTemp ready ≤ (32767#16).toInt) ∧
  (mpRuns ready = true) :=
  ⟨(by decide), (by decide), (by decide), (by decide), (by decide)⟩

/-- A plan that moves TRIM by more than one step; the application it starts, at its first and at its last control tick. -/
def trimPlan (n : Int) : State := let s := propose
  { s with mp := { s.mp with items := listSet s.mp.items 0 { (margin s 0) with planned := n }, pending := true } }
theorem witness_AgeingAndPlan_5 :
  (∃ q k, Taken specMarginPlanAccept h0 (accD 1) (trimPlan 3) q k ∧ q.glb.mpRunning = true ∧ opn (accD 1) 16 0 32 = q.mp.revision.toNat ∧
    marginPolicy q = 1 ∧ q.mp.pending = true ∧ q.mp.applying = false ∧ (margin q 0).planned ≠ (margin q 0).present) ∧
  ((margin (trimPlan 0) 0).planned = (margin (trimPlan 0) 0).present ∧ (trimPlan 0).mp.trimGoal = none ∧ (trimPlan 0).mp.items.length = 24) ∧
  (let s := { propose with mp := { propose.mp with trimGoal := some 2, itemsWait := true } };
    mpRuns s = true ∧ s.mp.itemsWait = true ∧ s.mp.items.length = 24 ∧ (trimTick s).pwr.trim ≠ 2 ∧
      (trimTick { s with mp := { s.mp with trimGoal := some 1 } }).pwr.trim = 1) ∧
  ((applying ready).mp.trimGoal = none ∧ (applying ready).mp.itemsWait = false) ∧
  (ready.pwr.saveActive = false ∧ ready.nvm.busy = none) :=
  ⟨⟨_, _, taken (by decide +kernel) (by decide +kernel), by decide +kernel⟩, by decide +kernel, by decide +kernel, by decide, by decide⟩

/-- A scan whose records break the limits at the due check. -/
theorem witness_ParkingRuns_3 :
  (let s := hotScan scanS; s.mp.parking.runs.length = 16 ∧ 0 < s.mp.parking.dueMs.length ∧ parkPersist s ≤ 2 ∧
    s.mp.parking.woken[0]?.getD false = false) := by decide

end Sys2Proof.Tests
end

