-- ==== Sys2Proof/WellFormed.lean ====
section
/-! DEFINITION. Which commands are well-formed: lists of measurements, reads and stores that name things the device has. -/

namespace Sys2Proof

/-- Keys of a list of measurements lie below a bound. -/
def keysBelow {α : Type} (n : Nat) (l : List (Nat × α)) : Bool := l.all fun e => decide (e.1 < n)

/-- Stores lie in the 64-bit address space (R34). -/
def storesOk (w : Stores) : Bool := w.all fun e => decide (e.1 + e.2.length ≤ 2 ^ 64)

/-- What the MP has stored lies in its address space. -/
def requesterOk : Requester → Bool
  | .host _ => true
  | .mp w => storesOk w

/-- Reads of the 1,024 OTP words, none named twice (R519, R524). -/
def readsOk (rs : List MarginRead) : Bool := keysBelow 1024 (rs.map fun r => (r.word, r.normal)) && decide (rs.map MarginRead.word).Nodup

/-- Samples of the 12 phases (R318, R319). -/
def sampleOk (x : RailSample) : Bool := keysBelow 12 x.imon && keysBelow 12 x.vin

/-- Cache errors of channels, of the kinds single-bit, uncorrectable, and uncorrectable in the tag (R134–R136). -/
def errorsOk (l : List (Nat × Nat)) : Bool := keysBelow 0x40000 l && l.all fun e => decide (e.2 < 3)

/-- Channels of the table (R103). -/
def channelsOk (l : List Nat) : Bool := l.all fun c => decide (c < 0x40000)

/-- Node addresses of one link group: 4 ports of 32 positions (Table 4-1). -/
def nodesOf {α : Type} (g : Fin 4) (l : List (Nat × α)) : Bool := l.all fun e => decide (128 * g.val ≤ e.1) && decide (e.1 < 128 * g.val + 128)

/-- A command is well-formed. -/
def WellFormed (i : Instr) : Bool :=
  match i with
  | .nop rq _ => requesterOk rq
  | .chipReset rq _ => requesterOk rq
  | .powerState rq _ => requesterOk rq
  | .ctAttach rq _ _ bad => requesterOk rq && channelsOk bad
  | .ctFlush rq _ => requesterOk rq
  | .ceUpdate rq _ _ _ bad => requesterOk rq && channelsOk bad
  | .ceInvalidate rq _ => requesterOk rq
  | .ctRebuild rq _ _ => requesterOk rq
  | .cePin rq _ _ bad => requesterOk rq && channelsOk bad
  | .linkEnumerate rq _ => requesterOk rq
  | .nodeAuth rq _ => requesterOk rq
  | .nodeProfileLoad rq _ _ => requesterOk rq
  | .captureArm rq _ => requesterOk rq
  | .captureForce rq _ => requesterOk rq
  | .estRestore rq _ _ => requesterOk rq
  | .estSnapshot rq _ => requesterOk rq
  | .railSetVoltage rq _ => requesterOk rq
  | .railEnable rq _ => requesterOk rq
  | .railMode rq _ => requesterOk rq
  | .seqUp rq _ => requesterOk rq
  | .seqDown rq _ => requesterOk rq
  | .seqLoad rq _ _ => requesterOk rq
  | .chgConfig rq _ _ => requesterOk rq
  | .chgReverse rq _ => requesterOk rq
  | .nvmRead rq _ => requesterOk rq
  | .nvmWrite rq _ _ => requesterOk rq
  | .otpRead rq _ reads => requesterOk rq && readsOk reads
  | .otpProgram rq _ before verify _ => requesterOk rq && readsOk before.toList && readsOk verify.toList
  | .otpLockRegion rq _ _ => requesterOk rq
  | .lcAdvance rq _ _ => requesterOk rq
  | .rtcSet rq _ => requesterOk rq
  | .rtcGet rq _ => requesterOk rq
  | .alarmSet rq _ => requesterOk rq
  | .periodicSet rq _ => requesterOk rq
  | .gooseConfig rq _ _ => requesterOk rq
  | .fwStage rq _ _ _ => requesterOk rq
  | .fwCommit rq _ => requesterOk rq
  | .logRead rq _ => requesterOk rq
  | .marginPlanGet rq _ => requesterOk rq
  | .marginPlanAccept rq _ => requesterOk rq
  | .setPointer code _ _ => code = 0x01 || !([0x01, 0x02, 0x10, 0x11, 0x12] : List Byte).contains code
  | .regDataWrite _ _ => true
  | .regDataRead _ => true
  | .mbxIn _ _ => true
  | .mbxOut => true
  | .mbxStatus => true
  | .nvmAddressWrite _ _ _ _ => true
  | .nvmAddressRead _ _ _ => true
  | .alertResponse => true
  | .registerWrite via bar2 _ _ _ => !bar2 || via = .host
  | .rcFieldRead via bar2 _ _ _ => !bar2 || via = .host
  | .sqTailDoorbell _ _ stores => storesOk stores
  | .cqHeadDoorbell _ _ => true
  | .eqHeadDoorbell _ => true
  | .bufferReturnDoorbell _ _ => true
  | .qeRunStart _ stores => storesOk stores
  | .qeRunStop _ => true
  | .detach _ _ => true
  | .lpCommit _ _ => true
  | .oxCommit _ _ => true
  | .railCommit _ _ _ => true
  | .lpRun _ _ => true
  | .lpPiCfgWrite _ _ => true
  | .glbSbRequestWrite _ _ => true
  | .pwrReqWrite _ _ _ => true
  | .fltStatusClear _ _ => true
  | .firstClr _ => true
  | .fltTest _ _ => true
  | .fltReactWrite _ _ _ => true
  | .gooseCheckin _ _ _ => true
  | .gooseService _ _ _ => true
  | .sweepNow _ _ => true
  | .authNow _ _ => true
  | .chgHold _ _ => true
  | .rtcTimeWrite _ _ => true
  | .rtcDateWrite _ _ => true
  | .rtcTimeRead _ => true
  | .chgQbLoRead _ => true
  | .evrLastLoRead _ => true
  | .evrMaskWrite _ _ _ => true
  | .evrPendClear _ _ _ => true
  | .evrOpenWrite _ _ => true
  | .replan _ _ inputs => keysBelow 24 inputs
  | .tmonEnWrite _ _ => true
  | .powerOnReset _ => true
  | .brownOut => true
  | .resetN => true
  | .perstNAssert => true
  | .perstNRelease => true
  | .linkDown _ => true
  | .functionLevelReset => true
  | .refclkReturn => true
  | .vsysSave _ => true
  | .saveDone => true
  | .vsysStartAfterSave => true
  | .vmainLow _ _ => true
  | .vmainOv _ _ => true
  | .vbakLost _ _ => true
  | .vbakPresent _ _ => true
  | .vmainQualGained _ _ _ => true
  | .vmainQualLost _ _ => true
  | .returnTimerExpiry _ _ _ => true
  | .supplyUv _ => true
  | .supplyOv _ => true
  | .pllLossOfLock => true
  | .clkCoreLoss => true
  | .clkSafeLoss _ => true
  | .clkLrxLoss _ => true
  | .oscStop => true
  | .oscStartTimeout => true
  | .domainStageReady _ => true
  | .domainStageTimeout _ => true
  | .otpLoadComplete reads unary => readsOk reads && unary.all fun e => e.1 < 24 && e.2 < 448
  | .mpBoot inputs => keysBelow 24 inputs
  | .mpSelfRestart => true
  | .mpDataPageFill _ => true
  | .fwConfirm _ => true
  | .rollbackRetry _ => true
  | .faultLatch _ _ => true
  | .goosePeriodExpiry _ _ => true
  | .gooseEarlyWarning => true
  | .hostRstNRelease _ _ => true
  | .gooseChipRestart => true
  | .railPrestartDecision _ _ _ _ _ samples => keysBelow 12 samples
  | .railPulse _ samples => samples.all sampleOk
  | .railFreqTrim _ => true
  | .railRefAtTarget _ => true
  | .railPgGained _ _ => true
  | .railPgLost _ _ => true
  | .railStartTimeout _ _ => true
  | .railStopDone _ => true
  | .railSlewDone _ => true
  | .railOv _ _ => true
  | .railOvDriveEnd _ => true
  | .railUv _ _ => true
  | .tmonWarn _ => true
  | .tmonShutdown _ _ _ => true
  | .tmonLost _ _ => true
  | .tmonClear _ _ => true
  | .railIlim _ _ => true
  | .phaseShed _ _ => true
  | .railBurstEnter _ => true
  | .railBurstExit _ => true
  | .railBurstSleep _ _ => true
  | .railBurstWake _ _ => true
  | .railTelemetryRenew _ _ => true
  | .seqOnInstant _ => true
  | .seqSlotClose _ => true
  | .pgPinChange _ _ _ => true
  | .pgDebounceDone _ _ => true
  | .seqOffInstant _ => true
  | .seqMemberOffReached _ _ => true
  | .seqOffTimeout _ => true
  | .wdiToggle _ _ => true
  | .wdiMiss _ => true
  | .flockPing _ => true
  | .flockPingReply _ _ _ => true
  | .flockUpArm _ => true
  | .flockDownArm _ => true
  | .flockCancel _ => true
  | .flockAckReq _ => true
  | .fsyncEdge => true
  | .flockArmTimeout _ => true
  | .flockPoll _ _ => true
  | .flockMasterLost _ => true
  | .flockBusError _ => true
  | .cycleTick => true
  | .microframeTrain _ _ => true
  | .segmentReceived _ _ => true
  | .enumerationComplete _ => true
  | .trainFailed _ => true
  | .dualChainStart _ => true
  | .farLockHealed _ => true
  | .nodeResponse _ _ _ => true
  | .commandRetryTimeout _ _ => true
  | .nodeRestore _ _ => true
  | .authRenewal _ => true
  | .cycleRecordComplete _ => true
  | .accRecordComplete _ => true
  | .piSample _ _ => true
  | .capturePiece _ => true
  | .captureTimeout => true
  | .tsBufferFlush _ => true
  | .epochBoundary => true
  | .batchFetch errs _ bad => errorsOk errs && channelsOk bad
  | .batchPass errs _ => errorsOk errs
  | .epochEnd => true
  | .fitCompute => true
  | .cacheScrub errs _ => errorsOk errs
  | .mulePrepare _ bad => channelsOk bad
  | .muleSwitch _ _ => true
  | .descriptorFetch _ => true
  | .coalesceTimeout _ => true
  | .chgControlTick _ => true
  | .chgSourceQualified => true
  | .chgSourceRetry => true
  | .chgSourceLost => true
  | .mpptStep => true
  | .sweepStep => true
  | .periodicSweep => true
  | .chgBandUpdate _ => true
  | .safetyTimerExpiry => true
  | .prechargeTimer => true
  | .chgTermination => true
  | .rechargeCondition => true
  | .reverseCheck _ => true
  | .authAttempt _ _ => true
  | .gaugeCapture _ => true
  | .qbWake => true
  | .gaugeEpoch => true
  | .otpMarginPass reads => readsOk reads
  | .nvmPageWriteDone => true
  | .spareEraseDone => true
  | .checkpointSave => true
  | .rtcCommit _ => true
  | .alarmFire => true
  | .periodicWake _ => true
  | .rtcCompensation _ => true
  | .parkingStart => true
  | .parkingScan g recs _ _ auths _ => nodesOf g recs && auths.all (fun e => e.1 / 128 = g.val)
  | .ageingMeasure monitors lost _ drifts => keysBelow 24 monitors && lost.all (fun k => decide (k < 24)) && decide (drifts.length ≤ 3)
  | .dieTempWarn _ _ => true
  | .marginReplanPeriodic inputs => keysBelow 24 inputs
  | .marginApplyDone inputs => keysBelow 24 inputs
  | .resetNRelease => true
  | .vsysStartAfterBrownOut => true
  | .supplyRecovers _ => true
  | .vrtcOkChange _ => true
  | .crystalRestart => true
  | .secondBoundary => true
  | .aliveEdge => true
  | .linkTrainingComplete speed width => 1 ≤ speed && speed ≤ 3 && 1 ≤ width && width ≤ 2
  | .pcieConfigWrite _ _ _ => true
  | .smbusTimeout => true
  | .mpMailboxTake => true
  | .mpMessagePost msg _ => match msg with | some m => decide (m.length ≤ 255) | none => true
  | .packAuthRenewal => true
  | .onTimeSecond sensors => keysBelow 52 sensors

end Sys2Proof
end

