-- ==== Sys2Proof/Tests/Slice0.lean ====
section
/-! SUPPORT. Tests: an ill-formed command for each check of WellFormed, and worked examples of the spec, with the values the spec gives. -/

namespace Sys2Proof.Tests
open Sys2Proof.Machine
set_option exponentiation.threshold 30000
set_option Elab.async false

/-! ### WellFormed refuses -/

/-- Bytes stored beyond the 64-bit address space. -/
def farStore : Stores := [(2 ^ 64 - 1, [1, 2])]
def noRead : MarginRead := { word := 1024, normal := 0, high := 0, low := 0 }
def read3 : MarginRead := { noRead with word := 3 }
def badSample : RailSample := { cycles := 1, vs := 0, imon := [(12, 5)], vin := [] }
def badVin : RailSample := { cycles := 1, vs := 0, imon := [], vin := [(12, 5)] }

theorem test_wf_refuses_requester : WellFormed (.nop (.mp farStore) Desc.zero) = false := by decide +kernel
theorem test_wf_refuses_doorbell_stores : WellFormed (.sqTailDoorbell 0 0 farStore) = false := by decide +kernel
theorem test_wf_refuses_run_stores : WellFormed (.qeRunStart .host farStore) = false := by decide +kernel
theorem test_wf_refuses_otp_read : WellFormed (.otpRead h0 Desc.zero [noRead]) = false := by decide
theorem test_wf_refuses_otp_twice : WellFormed (.otpRead h0 Desc.zero [read3, read3]) = false := by decide
theorem test_wf_refuses_otp_verify : WellFormed (.otpProgram h0 Desc.zero none (some noRead) none) = false := by decide
theorem test_wf_refuses_otp_before : WellFormed (.otpProgram h0 Desc.zero (some noRead) none none) = false := by decide
theorem test_wf_refuses_unary : WellFormed (.otpLoadComplete [] [(24, 0)]) = false := by decide
theorem test_wf_refuses_otp_load : WellFormed (.otpLoadComplete [noRead] []) = false := by decide
theorem test_wf_refuses_margin_pass : WellFormed (.otpMarginPass [read3, read3]) = false := by decide
theorem test_wf_refuses_bar2_write : WellFormed (.registerWrite .sideband true 0 true 0) = false := by decide
theorem test_wf_refuses_bar2_read : WellFormed (.rcFieldRead .mp true 0 true 0) = false := by decide
theorem test_wf_refuses_prestart : WellFormed (.railPrestartDecision 0 0 0 1 0 [(12, [])]) = false := by decide
theorem test_wf_refuses_pulse : WellFormed (.railPulse 0 [badSample]) = false := by decide
theorem test_wf_refuses_pulse_vin : WellFormed (.railPulse 0 [badVin]) = false := by decide
theorem test_wf_refuses_fetch_channel : WellFormed (.batchFetch [(0x40000, 0)] false []) = false := by decide
theorem test_wf_refuses_pass_kind : WellFormed (.batchPass [(1, 3)] false) = false := by decide
theorem test_wf_refuses_scrub : WellFormed (.cacheScrub [(0x40000, 0)] false) = false := by decide
theorem test_wf_refuses_replan : WellFormed (.replan .host 0 [(24, 1)]) = false := by decide
theorem test_wf_refuses_boot : WellFormed (.mpBoot [(24, 1)]) = false := by decide
theorem test_wf_refuses_periodic_replan : WellFormed (.marginReplanPeriodic [(24, 1)]) = false := by decide
theorem test_wf_refuses_apply_done : WellFormed (.marginApplyDone [(24, 1)]) = false := by decide
theorem test_wf_refuses_monitor : WellFormed (.ageingMeasure [(24, 1, 1)] [] 0 []) = false := by decide
theorem test_wf_refuses_lost_monitor : WellFormed (.ageingMeasure [] [24] 0 []) = false := by decide
theorem test_wf_refuses_drifts : WellFormed (.ageingMeasure [] [] 0 [1, 2, 3, 4]) = false := by decide
theorem test_wf_refuses_sensor : WellFormed (.onTimeSecond [(52, 1)]) = false := by decide
theorem test_wf_refuses_parking : WellFormed (.parkingScan 1 [(127, 0)] none [] [] 0) = false := by decide
theorem test_wf_refuses_parking_auth : WellFormed (.parkingScan 1 [] none [] [(256, 0)] 0) = false := by decide
theorem test_wf_refuses_code : WellFormed (.setPointer 0x10 [] true) = false := by decide
theorem test_wf_refuses_attach : WellFormed (.ctAttach h0 Desc.zero false [0x40000]) = false := by decide
theorem test_wf_refuses_fetch_bad : WellFormed (.batchFetch [] false [0x40000]) = false := by decide
theorem test_wf_refuses_link_speed : WellFormed (.linkTrainingComplete 4 1) = false := by decide
theorem test_wf_refuses_link_width : WellFormed (.linkTrainingComplete 3 4) = false := by decide
theorem test_wf_refuses_message : WellFormed (.mpMessagePost (some (List.replicate 256 0)) false) = false := by decide +kernel

/-! ### OTP check codes (Table 12-2) -/

theorem test_otp_codewords : ([1, 3, 0x80000000].map fun d => (otpEncode d).toNat / 2 ^ 32) = [0x43, 0x06, 0x26] := by decide +kernel
theorem test_otp_lost_bit : otpDecode (otpEncode 1 &&& ~~~ 1) = { data := 1, corrected := true, uncorr := false } := by decide +kernel

/-! ### The calendar (Tables 13-4 and 13-5) -/

/-- The latest occurrence of event `k`, by its detail. -/
def detailOf (s : State) (k : Nat) : Option DWord := (Sparse.get? s.evr.last k).map LastOcc.detail
def clockAt (c : Cal) : State := { powered with rtc := { Rtc.lost with cal := c, timeInvalid := false } }
def feb2100 : State := clockAt { year := 100, month := 2, day := 27, hour := 1, min := 2, sec := 3 }
/-- A write of RTC_TIME is crossing after a staged date. -/
def timeAfter (d t : Word) : State := { feb2100 with rtc := { feb2100.rtc with crossing := [.date d, .time t false] } }
def dateTaken (d t : Word) : State := after (exec (.rtcCommit 4) (timeAfter d t))

theorem test_rtc_date_staged : (dateTaken 0x0064021D 0x000C0000).rtc.dateStaged = some 0x0064021D := by decide +kernel
theorem test_rtc_feb29_2100 : (fun s : State => (s.rtc.cal, s.rtc.invalidWrite, s.rtc.dateStaged, detailOf s 56))
    (after (exec (.rtcCommit 9) (dateTaken 0x0064021D 0x000C0000))) = (feb2100.rtc.cal, true, none, some 0x0064021D00000001) := by decide +kernel
/-- 2100-02-28 23:59:59 is committed. -/
def feb28 : State := after (exec (.rtcCommit 9) (dateTaken 0x0064021C 0x00173B3B))
theorem test_rtc_feb28_2100 : (feb28.rtc.cal, feb28.rtc.cal.weekday, feb28.rtc.edge) =
    (({ year := 100, month := 2, day := 28, hour := 23, min := 59, sec := 59 } : Cal), 7, 0) := by decide +kernel
theorem test_rtc_next_second : (fun s : State => (s.rtc.cal, s.rtc.cal.weekday, calSeconds s)) (after (exec .secondBoundary feb28)) =
    (({ year := 100, month := 3, day := 1, hour := 0, min := 0, sec := 0 } : Cal), 1, 3160857600) := by decide +kernel
theorem test_rtc_feb29_2000 : (Cal.ofWords 0x000C0000 0x0000021D).valid = true := by decide +kernel

def june15 (h m s : Nat) : Cal := { year := 31, month := 6, day := 15, hour := h, min := m, sec := s }
/-- The alarm is armed for 06:00:00 at 05:59:50, and the host's RTC_SET has reached PD_BKP. -/
def alarmSoon : State :=
  let s := clockAt (june15 5 59 50)
  { s with rtc := { s.rtc with alarmArmed := true, alarmTime := (june15 6 0 0).timeWord false, alarmDate := (june15 6 0 0).dateWord
                               crossing := [.set (.mp 0 0 false) ((june15 6 0 5).timeWord false) (june15 6 0 5).dateWord false] } }
theorem test_alarm_by_adjust : (fun s : State => (s.rtc.cal, s.rtc.alarmArmed, s.rtc.alarmFired, s.rtc.alarmByAdjust, (detailOf s 54).map (bitOf · 0)))
    (after (exec (.rtcCommit 4) alarmSoon)) = (june15 6 0 5, false, true, true, some true) := by decide +kernel
theorem test_alarm_stays_off : (fun s : State => (s.rtc.alarmFired, (detailOf s 54).isSome))
    (after (exec .secondBoundary (clockAt (june15 5 59 59)))) = (false, false) := by decide +kernel

/-! ### Goose 0's double service (Table 11-5) -/

/-- P = 100 ms, mask 0x0007, the tasks checked in; the window opens at cycle 200,000. -/
def gooseRun (checked : BitVec 16) : State :=
  wr { powered with
    goose0 := { Goose.reset with started := true, configured := true, period := 100, nextPeriod := 100, mask := 7, nextMask := 7, checked := checked }
    seq := { powered.seq with hostRst := false } } 0x7180 0x32 0xFFFFFFFF
theorem test_goose_window_edge : (fun s : State => (s.goose0.services, s.goose0.violations, s.goose0.level, s.goose0.checked))
    (after (exec (.gooseService 0 200000 0x60050000) (gooseRun 7))) = (1, 0, 0, 0) := by decide +kernel
theorem test_goose_early : (fun s : State => (s.goose0.lastViol, s.goose0.level, hostRstLow s, s.ret.resetCount, detailOf s 49))
    (after (exec (.gooseService 0 1200 0x60050000) (gooseRun 0))) = (2, 1, true, 1, some 0x10022) := by decide +kernel
theorem test_goose_boot_service : (fun s : State => (s.goose0.services, s.goose0.level, s.goose0.boot, s.goose0.period, s.goose0.mask))
    (after (exec (.gooseService 0 9600000 0x60050000) { gooseRun 0 with goose0 := { (gooseRun 0).goose0 with boot := true, period := 5000, level := 1 } })) =
      (1, 0, false, 100, 7) := by decide +kernel

/-! ### A margin re-plan under PROPOSE (Tables 14-7 and 14-8) -/

/-- Monitor 3 at 9,300 ppm, PH2 at 61,000 stress hours, a rate of 2.3 ppm; CORE_CEILING above its limit, the bandgap at +0.12 %. -/
def planIn : State :=
  let s := wr (wr powered 0x4648 550 0xFFFFFFFF) 0xA034 1 3
  let items := listSet (listSet (listSet (listSet (listSet s.mp.items 0 { MarginItem.zero 0 with present := 2, limit := 8 }) 1 { MarginItem.zero 1 with limit := 500 })
    2 { MarginItem.zero 2 with present := -9, limit := 50 }) 6 { MarginItem.zero 6 with present := 2, limit := 10 }) 16 { MarginItem.zero 16 with present := -14, limit := 500 }
  { s with
    otp := { s.otp with records := [(0x4648, 550)] }
    pwr := { s.pwr with trim := 2 }, rtc := { Rtc.lost with timeInvalid := false, ageing := -14 }
    mp := { s.mp with
      onSeconds := 360000
      monitors := [(3, 9300)], rate := some 23, items := items, revision := 431, inputs := [(1, 534), (2, 12), (17, 0), (18, 0), (20, 0), (21, 0)]
      shadows := { s.mp.shadows with stress := listSet s.mp.shadows.stress 2 (61000 * 3600) } } }
def planned : State := after (exec (.marginReplanPeriodic []) planIn)
theorem test_replan_proposes : (([0, 2, 6, 16].map fun i => (margin planned i).planned), planned.mp.revision, planned.mp.pending,
    (margin planned 0).present) = ([3, -12, 3, 9], 432, true, 2) := by decide +kernel
theorem test_plan_applies : (fun s : State => (s.pwr.trim, fld s 0x4648 0 10, s.rtc.ageing)) (marginApply planned) = (3, 533, 9) := by decide +kernel

/-! ### Link timing and quotas (Tables 4-13 and 4-17) -/

/-- An ECHO to position `k` of port 1 is out, in enumeration. -/
def echoOut (k : Fin 32) : State :=
  let s := setPort powered 1 { port powered 1 with mode := 1, sentA := some { cmd := { nodeCmd powered (32 + k) 4 [] 2 with pos := k }, seq := 0, trains := 0 } }
  setNode (wr s 0x300C 2 0xFFFF) (32 + k) { Node.reset with present := true }
theorem test_echo_position1 : (fun s : State => ((node s 33).delay, (node s 33).hold))
    (after (exec (.segmentReceived 1 (.echo false 452)) (echoOut 1))) = (66, 6184) := by decide +kernel
theorem test_echo_position31 : (fun s : State => ((node s 63).delay, (node s 63).hold))
    (after (exec (.segmentReceived 1 (.echo false 4352)) (echoOut 31))) = (2016, 4234) := by decide +kernel

/-- A ring of `n` nodes on port 0; `pi` puts the shunt stream there. -/
def ringOf (n : Nat) (pi : Bool) : State :=
  let s := wr (setPort powered 0 { port powered 0 with mode := 1, nodes := n }) 0x301C (if pi then 0x8000 else 0) 0x81FF
  forUpTo n (fun k q => setNode q k { Node.reset with present := true }) s
theorem test_quotas : (quota (ringOf 32 true) 0 false 0, quota (ringOf 32 false) 0 false 0, quota (ringOf 31 false) 0 false 0, rdivOf 47 10) =
    (47, 48, 49, (0, false)) := by decide +kernel

/-! ### Cell conversion, fit, end of discharge (05 and 06, worked examples) -/

/-- R25 1,200,000 nΩ, TCR 4,000 ppm/K, TEMP_CH naming channel 9, whose T_FILT is 45.00 °C. -/
def linkEntry : Entry := pack 2048 [(0, 3, 1), (16, 9, 0), (128, 32, 1200000), (160, 16, 4000), (176, 32, 9)]
def warmTable : State :=
  { powered with
    ct := { powered.ct with attached := true, dir := [(0, { DirEntry.empty with tempFirst := 9, tempCount := 1 })] }
    mc := { powered.mc with tfilt := [(0, 4500)] } }
theorem test_cell_current : roundQ (convAmps warmTable linkEntry (-33000) * 1000) = -2546 := by decide +kernel
theorem test_cell_charge : roundQ (deltaCharge warmTable linkEntry { latch := 0, sum := -33000000, n := 1000, ts := 0 }) = -2546296 := by decide +kernel

/-- Table 6-3's entry before and its fit. -/
def fitEntry : Entry :=
  eSetStatus (ePut (ePut (ePut (ePut (ePut (ePut (ePut linkEntry 22 4 0x3FFFF) 72 4 19800) 76 4 8100) 80 2 310) 82 2 900) 84 2 800) 86 2 800) 3 true
def fit : Fit :=
  { rs := 20140 / 1200, rp := 7900 / 1200, tau := 296 / 10000, q := 974, cRs := 950, cRp := 880, cTau := 880, capture := 0, refTs := 0, mean := 0 }
def fitted : Entry := applyFit powered fit fitEntry
theorem test_fit_blend : (eN fitted 72 4, eN fitted 76 4, eN fitted 80 2) = (19888, 8046, 306) := by decide +kernel
theorem test_fit_confidence : (eN fitted 82 2, eN fitted 84 2, eN fitted 86 2, eI fitted 100 4) = (906, 810, 810, -4394) := by decide +kernel

/-- The group of Table 6-5 at step 4. -/
def reserve : Est :=
  { charge := -44640000, capEst := 1240000, socConf := 700, status := 0x110, anchorKind := 0, anchorTime := 0, anchors := 0
    sRef := some 10000, qRef := -4508640000, lastV := none, firstAnchor := false }
theorem test_end_of_discharge : (fun x : Est => (x.charge, x.capEst, stBit x.status 6, stBit x.status 8, stBit x.status 4))
    (endEvents true false (-1) reserve) = (0, 1243100, true, false, false) := by decide +kernel

/-! ### VOUT0 of Table 7-13 -/

/-- 104.2 ns and 109.7 ns are 833 and 878 steps of 125 ps. 0.75 V from 12 V on PH0–PH3 at 600 kHz, 150 nH, 1,000 µΩ, ILIM_RAIL 200 A, VLY_LIM 55 A. -/
def vout0 : State :=
  let s := wr (wr (wr (wr powered 0x4100 0x1300F 0xFFFFFFFF) 0x4104 (0x2EE003E8) 0xFFFFFFFF) 0x4108 (0x03E80258) 0xFFFFFFFF) 0x4110 2000 0xFFFF
  let s1 := forUpTo 4 (fun p q => wr (wr q (0x4600 + 0x20 * p) 0xF00 0xFF00) (0x4608 + 0x20 * p) 550 0x3FF) s
  setRail s1 0 { Rail.reset with state := .regulating, ref := 3 / 4, target := 750 }
theorem test_on_time : ([0, 40].map fun i => roundQ (onTime vout0 0 0 i * 8000000000)) = [833, 878] := by decide +kernel
theorem test_ripple : (roundQ (rippleOf vout0 0 0 (onTime vout0 0 0 40) * 100), roundQ (valleyLimit vout0 0 0 (onTime vout0 0 0 40) * 10)) = (823, 459) := by decide +kernel

/-! ### The MPPT sweep and the power path (Tables 10-10 and 9-13) -/

theorem test_sweep : (sweepHi 4650, sweepLo 4650, sweepV 4650 12, sweepV 4650 43) = (4418, 1860, 3931, 2672) := by decide +kernel
/-- VBAK at 13.2 V. -/
theorem test_path_margin : (fun s : State => (s.pwr.path, s.pwr.switchovers, (detailOf s 43).map fun d => bitsOf d 4 3))
    (after (exec (.vmainLow 1369 1320) powered)) = (.bak, 1, some 2) := by decide +kernel
theorem test_path_return : (fun s : State => (s.pwr.path, s.pwr.returns, (detailOf s 43).map fun d => bitsOf d 4 3))
    (after (exec (.returnTimerExpiry 2760 1320 100000) { powered with pwr := { powered.pwr with path := .bak, retTiming := true } })) = (.main, 1, some 4) := by
  decide +kernel
theorem test_path_bounce : (fun s : State => (s.pwr.path, s.pwr.vmainQual, s.pwr.retTiming))
    (after (exec (.vmainQualLost 400 1320) { powered with pwr := { powered.pwr with path := .bak, retTiming := true } })) = (.bak, false, false) := by
  decide +kernel

/-! ### Balls, package and line characters (Tables 16-1 to 16-3, 4-2) -/

theorem test_reset_levels : ([.hostRstN, .safeN, .stgEn 0, .pwm 3, .clkreqN] : List Ball).map (ballLevel State.reset) =
    [.low, .low, .low, .hiZ, .released] := by decide +kernel
theorem test_unpowered_levels : ([.hostRstN, .safeN, .gmain, .pwm 3] : List Ball).map unpoweredLevel = [.released, .released, .held, .hiZ] := by decide
theorem test_clkreq_on : ballLevel powered .clkreqN = .low := by decide +kernel
theorem test_ball_counts : (ballMap.flatMap Prod.snd).length = 256 ∧ supplyBalls.all (fun e => ballCount e.1 = e.2) = true := by decide +kernel
/-- D0.0 and K28.5 at negative running disparity (IEEE 802.3). -/
theorem test_code_words : encodeChar false (.data 0) = (0x274, false) ∧ encodeChar false .idle = (0x0FA, true) := by decide +kernel
theorem test_code_bytes : (List.range 256).all (fun b => [false, true].all fun rd =>
    decodeChar rd (encodeChar rd (.data (BitVec.ofNat 8 b))).1 = (.data (BitVec.ofNat 8 b), (encodeChar rd (.data (BitVec.ofNat 8 b))).2)) = true := by
  decide +kernel
theorem test_code_no_symbol : ((decodeChar false 0).1, (decodeChar true 0x274).1) = (.err, .err) := by decide +kernel

end Sys2Proof.Tests
end

