-- ==== Sys2Proof/Tests/Tables.lean ====
section
/-! SUPPORT. Witnesses of the statements on the channel table, the Mule and the Ox engine: states and operands that meet each clause. -/

namespace Sys2Proof.Tests
open Sys2Proof.Machine
set_option exponentiation.threshold 30000
set_option Elab.async false

/-! ### Channel table, Mule and Ox engine -/

/-- A CELL entry of node 0 at a tap, of generation 5, with its CRC. -/
def cellEntry (tap : Nat) : Entry :=
  let e : Entry := pack 2048 [(0, 3, 1), (16, 9, 0), (32, 9, tap), (80, 16, 5)]
  ePut e 252 4 (eCrc e)
/-- Two CELL channels in the first chunk of host memory, generation 5; nothing attached. -/
def tableMem (a : Nat) (s : State) : State :=
  hostWrite (hostWrite s a (leBytes 256 (cellEntry 0).toNat)) (a + 256) (leBytes 256 (cellEntry 1).toNat)
def stored : State := tableMem 0x800000 (wr (wr (wr ready 0x2100 0x800000 0xFFE00000) 0x2014 1 0x3F) 0x200C 5 0xFFFF)
def twoCells : DirEntry := { DirEntry.empty with cellCount := 2 }
def ctAttached : ChanTable := { ChanTable.reset with attached := true, gen := 5, count := 2, dir := [(0, twoCells)] }
/-- The table attached. -/
def withTable : State := { stored with ct := ctAttached }
def lineOf (tap : Nat) (dirty pinned reserved : Bool) : Line :=
  { data := cellEntry tap, way := 0, dirty := dirty, pinned := pinned, reserved := reserved, used := 0 }
def cached (d p r : Bool) : State := setLine withTable 0 (lineOf 0 d p r)
def held1 (s : State) : State := { s with ct := { s.ct with hold := true } }
def inPhase (n : Nat) (s : State) : State := { s with ct := { s.ct with mule := { s.ct.mule with phase := n } } }
def badTable : State := wr stored 0x200C 6 0xFFFF
def attD (n resume : Nat) : Desc := dsc 0 0 [(128, 1, resume), (160, 32, n)]
def rngD (t n bit : Nat) : Desc := dsc t 0 [(128, 32, n), (160, 1, bit)]
def updD (t mask : Nat) : Desc := dsc t 0x900000 [(128, 224, mask)]
def rebD (n m : Nat) : Desc := dsc 0 0x900000 [(128, 32, n), (160, 32, m)]
/-- Byte 64 of channel 0's entry. -/
def upd64 : Desc := updD 0 (2 ^ 64)
/-- The source of an update that differs in NODE; and one that is right in every byte. -/
def updSrc (s : State) : State := hostWrite s 0x900000 (zeroBytes 2 ++ [9] ++ zeroBytes 253)
def updEntry (s : State) : State := hostWrite s 0x900000 (leBytes 256 (cellEntry 0).toNat)
def updAll : Desc := updD 0 (2 ^ 224 - 1)
def chunkList (a : Nat) : State := hostWrite withTable 0x900000 (leBytes 8 a)
def excl1 : State := { withTable with ct := { withTable.ct with excluded := [1] } }
/-- 512 pinned entries of channels 1024 and up. -/
def fullPins : State :=
  { withTable with ct := { withTable.ct with cache := (List.range 512).map fun i => (1024 + i, { lineOf 1 false true false with way := i / 256 }) } }
def scrubOn (s : State) : State := wr s 0x2000 4 4
/-- The preparation of generation 6 with one channel in a shadow chunk. -/
def muleOne : Mule := { Mule.reset with phase := 1, nextGen := 6, chunks := [0xA00000], count := 1 }
def cell6 : Entry := let e : Entry := pack 2048 [(0, 3, 1), (80, 16, 6)]; ePut e 252 4 (eCrc e)
def prepBad : State := { withTable with ct := { withTable.ct with mule := { muleOne with nextGen := 6, chunks := [0x800000] } } }
def prepGood : State :=
  let s := hostWrite withTable 0xA00000 (leBytes 256 cell6.toNat)
  wr { s with ct := { s.ct with mule := muleOne } } 0x2028 1 0x7F
def muleAt (n : Nat) (again : Bool) : State :=
  { prepGood with ct := { prepGood.ct with mule := { muleOne with phase := n, again := again, copyEpochs := 1, prepNext := 1
                                                                  dir := [(0, { DirEntry.empty with cellCount := 1 })] } } }
theorem chunks_ok {l : List DWord} {P : Prop} (h : (l.all fun c => c.toNat % 2097152 = 0) = true) :
    ¬ (P ∧ ∃ c, c ∈ l ∧ c.toNat % 2097152 ≠ 0) := fun ⟨_, c, e, k⟩ => k (by
  simpa using List.all_eq_true.mp h c e)
/-- Command `op` of SQ0 fetched, and bus mastering off since. -/
def fetchedOff (op : Nat) (d : Desc) (s : State) : State :=
  { s with qe := { s.qe with inflight := [{ id := 0, sq := 0, opcode := op, desc := descBits op d, dispatched := false }], nextId := 1 }
           pcie := { s.pcie with busMaster := false } }
def noBme (s : State) : State := { s with pcie := { s.pcie with busMaster := false } }
/-- An epoch in progress. -/
def epochOn (s : State) : State := { s with ox := { s.ox with active := true } }
def fetched : State := after (exec (.batchFetch [] false []) (epochOn withTable))
def ending : State := { epochOn withTable with ox := { (epochOn withTable).ox with nextBatch := 1 } }
def bothCached : State := setLine (epochOn (cached false false false)) 1 { lineOf 1 false false false with way := 0 }
/-- A batch of two channels in flight with node 0 in quarantine. -/
def quarBatch : State := setPort fetched 0 { ring with quarantine := 1 }
/-- Twelve pinned entries of set 0, of channels outside the first batch. -/
def crowded : State :=
  epochOn { withTable with ct := { withTable.ct with cache := (List.range 12).map fun k => (512 + 256 * k, { lineOf 1 false true false with way := k }) } }
def jobAt (t : Nat) (ps : List Byte) : FitJob := { capture := 1, refTs := 3, node := 0, taps := [t], pieces := [(0, ps)] }
def fitS (j : FitJob) : State := { withTable with ox := { withTable.ox with fits := [j] } }
/-- 128 samples of 16 bits that step to a value at the 32nd. -/
def stepTap (v : Int) : List Byte := leBytes 64 0 ++ (List.replicate 96 (leBytes 2 (toTwos 16 v))).flatten
def jobStep (u g : Int) : FitJob := { capture := 1, refTs := 3, node := 0, taps := [1], pieces := [(264, stepTap u), (126984, stepTap g)] }
def fitOfJob (j : FitJob) : Option (Fit × Bool) :=
  computeFit ((capTap j.pieces 1).map fun (x : Int) => (x : Rat) * 4 / 10000000)
    (0 :: (capTap j.pieces (groupTap withTable 0 1)).tail.map fun (x : Int) => (x : Rat) / 100000) (natQ (fld withTable 0x280C 0 16) / 1000000)
    (if fld withTable 0x280C 16 10 < 1000 then fld withTable 0x280C 16 10 else 1000) j.capture j.refTs
def noFit : Fit := { rs := 0, rp := 0, tau := 0, q := 0, cRs := 0, cRp := 0, cTau := 0, capture := 0, refTs := 0, mean := 0 }
def jobFlat : FitJob := jobStep 0 100
def jobGood : FitJob := jobStep 5000 100
def jobBad : FitJob := jobStep 5000 (-100)
def fitGood : Fit := ((fitOfJob jobGood).map Prod.fst).getD noFit
def fitBad : Fit := ((fitOfJob jobBad).map Prod.fst).getD noFit

theorem witness_TableCommands_1 :
  (∃ q k, Taken specCtAttach h0 (attD 262145 0) stored q k ∧ q.ct.waits = [] ∧ (opn (attD 262145 0) 20 0 32 = 0 ∨ 262144 < opn
    (attD 262145 0) 20 0 32 ∨ fld q 8212 0 6 * 8192 < opn (attD 262145 0) 20 0 32)) ∧
  (∃ q k, Taken specCtAttach h0 (attD 8192 1) withTable q k ∧ q.ct.waits = [] ∧ 0 < opn (attD 8192 1) 20 0 32 ∧ opn (attD 8192
    1) 20 0 32 ≤ 262144 ∧ opn (attD 8192 1) 20 0 32 ≤ fld q 8212 0 6 * 8192 ∧ (bitOf (attD 8192 1).ops 0 = true ∧ (q.ct.attached
    = false ∨ opn (attD 8192 1) 20 0 32 ≠ q.ct.count))) ∧
  (∃ q k, Taken specCtAttach h0 (attD 2 0) (fetchedOff 16 (attD 2 0) stored) q k ∧ q.ct.waits = [] ∧ 0 < opn (attD 2 0) 20 0 32
    ∧ opn (attD 2 0) 20 0 32 ≤ 262144 ∧ opn (attD 2 0) 20 0 32 ≤ fld q 8212 0 6 * 8192 ∧ (¬(bitOf (attD 2 0).ops 0 = true ∧
    (q.ct.attached = false ∨ opn (attD 2 0) 20 0 32 ≠ q.ct.count))) ∧ canMaster q = false) ∧
  (∃ q k, Taken specCtAttach h0 (attD 2 1) (cached true false false) q k ∧ q.ct.waits = [] ∧ 0 < opn (attD 2 1) 20 0 32 ∧ opn
    (attD 2 1) 20 0 32 ≤ 262144 ∧ opn (attD 2 1) 20 0 32 ≤ fld q 8212 0 6 * 8192 ∧ (¬(bitOf (attD 2 1).ops 0 = true ∧
    (q.ct.attached = false ∨ opn (attD 2 1) 20 0 32 ≠ q.ct.count))) ∧ canMaster q = true ∧ bitOf (attD 2 1).ops 0 = true ∧
    q.ct.repin = []) ∧
  (∃ q k, Taken specCtAttach h0 (attD 2 0) stored q k ∧ q.ct.waits = [] ∧ 0 < opn (attD 2 0) 20 0 32 ∧ opn (attD 2 0) 20 0 32 ≤
    262144 ∧ opn (attD 2 0) 20 0 32 ≤ fld q 8212 0 6 * 8192 ∧ canMaster q = true ∧ bitOf (attD 2 0).ops 0 = false ∧
    q.ct.mule.phase = 0) :=
  ⟨⟨_, _, taken (by decide) (by decide), by decide⟩, ⟨_, _, taken (by decide) (by decide), by decide⟩, ⟨_, _, taken (by decide)
    (by decide), by decide⟩, ⟨_, _, taken (by decide) (by decide), by decide⟩, ⟨_, _, taken (by decide) (by decide), by decide⟩⟩

set_option maxRecDepth 100000 in
theorem witness_TableCommands_2 :
  (∃ q k, Taken specCtAttach h0 (attD 2 0) stored q k ∧ q.ct.waits = [] ∧ 0 < opn (attD 2 0) 20 0 32 ∧ opn (attD 2 0) 20 0 32 ≤
    262144 ∧ opn (attD 2 0) 20 0 32 ≤ fld q 8212 0 6 * 8192 ∧ canMaster q = true ∧ bitOf (attD 2 0).ops 0 = false ∧
    q.ct.mule.phase = 0 ∧ (scanTable q [1] (opn (attD 2 0) 20 0 32) (fld q 8204 0 16)).bad = none ∧ q.lp.jobs = []) ∧
  (∃ q k, Taken specCtAttach h0 (attD 2 0) badTable q k ∧ q.ct.waits = [] ∧ 0 < opn (attD 2 0) 20 0 32 ∧ opn (attD 2 0) 20 0 32
    ≤ 262144 ∧ opn (attD 2 0) 20 0 32 ≤ fld q 8212 0 6 * 8192 ∧ canMaster q = true ∧ bitOf (attD 2 0).ops 0 = false ∧
    q.ct.mule.phase = 0 ∧ (scanTable q [] (opn (attD 2 0) 20 0 32) (fld q 8204 0 16)).bad = some ({ reason := 2, index := 0 },
    stStale)) ∧
  (∃ q k, Taken specCtFlush h0 (rngD 2 1 0) withTable q k ∧ q.ct.waits = [] ∧ q.ox.inFlight = [] ∧ ((q.ct.count < (rngD 2 1
    0).target.toNat + if opn (rngD 2 1 0) 16 0 32 = 0 then q.ct.count - (rngD 2 1 0).target.toNat else opn (rngD 2 1 0) 16 0 32)
    ∨ q.ct.count < (rngD 2 1 0).target.toNat ∨ q.ct.count ≤ (rngD 2 1 0).target.toNat ∧ opn (rngD 2 1 0) 16 0 32 ≠ 0)) ∧
  (∃ q k, Taken specCtFlush h0 (rngD 0 2 0) (held1 withTable) q k ∧ q.ct.waits = [] ∧ q.ox.inFlight = [] ∧ (((rngD 0 2
    0).target.toNat + if opn (rngD 0 2 0) 16 0 32 = 0 then q.ct.count - (rngD 0 2 0).target.toNat else opn (rngD 0 2 0) 16 0 32)
    ≤ q.ct.count) ∧ (opn (rngD 0 2 0) 16 0 32 = 0 ∨ (rngD 0 2 0).target.toNat < q.ct.count) ∧ q.ct.hold = true) ∧
  (∃ q k, Taken specCtFlush h0 (rngD 0 2 0) (fetchedOff 17 (rngD 0 2 0) (cached true false false)) q k ∧ q.ct.waits = [] ∧
    q.ox.inFlight = [] ∧ (((rngD 0 2 0).target.toNat + if opn (rngD 0 2 0) 16 0 32 = 0 then q.ct.count - (rngD 0 2
    0).target.toNat else opn (rngD 0 2 0) 16 0 32) ≤ q.ct.count) ∧ (opn (rngD 0 2 0) 16 0 32 = 0 ∨ (rngD 0 2 0).target.toNat <
    q.ct.count) ∧ q.ct.hold = false ∧ (dirtyIn q (rngD 0 2 0).target.toNat (if opn (rngD 0 2 0) 16 0 32 = 0 then q.ct.count -
    (rngD 0 2 0).target.toNat else opn (rngD 0 2 0) 16 0 32) ≠ 0) ∧ tableReach q = false) :=
  ⟨⟨_, _, taken (by decide +kernel) (by decide +kernel), by decide +kernel⟩, ⟨_, _, taken (by decide +kernel)
    (by decide +kernel), by decide +kernel⟩, ⟨_, _, taken (by decide) (by decide), by decide⟩, ⟨_, _, taken (by decide)
    (by decide), by decide⟩, ⟨_, _, taken (by decide) (by decide), by decide⟩⟩

theorem witness_TableCommands_3 :
  (∃ q k, Taken specCtFlush h0 (rngD 0 0 1) (cached true false false) q k ∧ q.ct.waits = [] ∧ q.ox.inFlight = [] ∧ (((rngD 0 0
    1).target.toNat + if opn (rngD 0 0 1) 16 0 32 = 0 then q.ct.count - (rngD 0 0 1).target.toNat else opn (rngD 0 0 1) 16 0 32)
    ≤ q.ct.count) ∧ (opn (rngD 0 0 1) 16 0 32 = 0 ∨ (rngD 0 0 1).target.toNat < q.ct.count) ∧ q.ct.hold = false ∧ (dirtyIn q
    (rngD 0 0 1).target.toNat (if opn (rngD 0 0 1) 16 0 32 = 0 then q.ct.count - (rngD 0 0 1).target.toNat else opn (rngD 0 0 1)
    16 0 32) = 0 ∨ tableReach q = true)) ∧
  (∃ q k, Taken specCeInvalidate h0 (rngD 1 2 0) withTable q k ∧ q.ct.waits = [] ∧ q.ox.inFlight = [] ∧ q.ct.count < (rngD 1 2
    0).target.toNat + opn (rngD 1 2 0) 16 0 32) ∧
  (∃ q k, Taken specCeInvalidate h0 (rngD 0 2 1) (held1 withTable) q k ∧ q.ct.waits = [] ∧ q.ox.inFlight = [] ∧ (rngD 0 2
    1).target.toNat + opn (rngD 0 2 1) 16 0 32 ≤ q.ct.count ∧ q.ct.hold = true ∧ bitOf (rngD 0 2 1).ops 32 = true) ∧
  (∃ q k, Taken specCeInvalidate h0 (rngD 0 2 1) (fetchedOff 19 (rngD 0 2 1) (cached true false false)) q k ∧ q.ct.waits = [] ∧
    q.ox.inFlight = [] ∧ (rngD 0 2 1).target.toNat + opn (rngD 0 2 1) 16 0 32 ≤ q.ct.count ∧ q.ct.hold = false ∧ bitOf (rngD 0 2
    1).ops 32 = true ∧ dirtyIn q (rngD 0 2 1).target.toNat (opn (rngD 0 2 1) 16 0 32) ≠ 0 ∧ tableReach q = false) ∧
  (∃ q k, Taken specCeInvalidate h0 (rngD 0 2 0) (cached true true false) q k ∧ q.ct.waits = [] ∧ q.ox.inFlight = [] ∧ (rngD 0 2
    0).target.toNat + opn (rngD 0 2 0) 16 0 32 ≤ q.ct.count ∧ (bitOf (rngD 0 2 0).ops 32 = false ∨ q.ct.hold = false ∧ (dirtyIn
    q (rngD 0 2 0).target.toNat (opn (rngD 0 2 0) 16 0 32) = 0 ∨ tableReach q = true))) :=
  ⟨⟨_, _, taken (by decide) (by decide), by decide⟩, ⟨_, _, taken (by decide) (by decide), by decide⟩, ⟨_, _, taken (by decide)
    (by decide), by decide⟩, ⟨_, _, taken (by decide) (by decide), by decide⟩, ⟨_, _, taken (by decide) (by decide), by decide⟩⟩

set_option maxRecDepth 100000 in
theorem witness_TableCommands_4 :
  (∃ q k, Taken specCeUpdate h0 (updD 2 1) withTable q k ∧ q.ct.waits = [] ∧ q.ct.count ≤ (updD 2 1).target.toNat) ∧
  (∃ q k, Taken specCeUpdate h0 (updD 1 1) (held1 withTable) q k ∧ q.ct.waits = [] ∧ (updD 1 1).target.toNat < q.ct.count ∧
    q.ct.hold = true) ∧
  (∃ q k, Taken specCeUpdate h0 (updD 1 1) fetched q k ∧ q.ct.waits = [] ∧ (updD 1 1).target.toNat < q.ct.count ∧ q.ct.hold =
    false ∧ inBatch q (updD 1 1).target.toNat = true) ∧
  (∃ q k, Taken specCeUpdate h0 (updD 1 1) (inPhase 3 withTable) q k ∧ q.ct.waits = [] ∧ (updD 1 1).target.toNat < q.ct.count ∧
    q.ct.hold = false ∧ inBatch q (updD 1 1).target.toNat = false ∧ ((q.ct.mule.phase = 1 ∨ q.ct.mule.phase = 3) ∧ bitsOf
    (BitVec.setWidth 256 (updD 1 1).ops) 0 64 ≠ 0)) ∧
  (∃ q k, Taken specCeUpdate h0 (updD 1 1) (inPhase 1 withTable) q k ∧ q.ct.waits = [] ∧ (updD 1 1).target.toNat < q.ct.count ∧
    q.ct.hold = false ∧ inBatch q (updD 1 1).target.toNat = false ∧ ((q.ct.mule.phase = 1 ∨ q.ct.mule.phase = 3) ∧ bitsOf
    (BitVec.setWidth 256 (updD 1 1).ops) 0 64 ≠ 0)) :=
  ⟨⟨_, _, taken (by decide) (by decide), by decide⟩, ⟨_, _, taken (by decide) (by decide), by decide⟩, ⟨_, _, taken
    (by decide +kernel) (by decide +kernel), by decide +kernel⟩, ⟨_, _, taken (by decide) (by decide), by decide⟩, ⟨_, _, taken
    (by decide) (by decide), by decide⟩⟩

set_option maxRecDepth 100000 in
theorem witness_TableCommands_5 :
  (∃ q k, Taken specCeUpdate h0 upd64 (inPhase 1 withTable) q k ∧ q.ct.waits = [] ∧ upd64.target.toNat < q.ct.count ∧ q.ct.hold
    = false ∧ inBatch q upd64.target.toNat = false ∧ (¬((q.ct.mule.phase = 1 ∨ q.ct.mule.phase = 3) ∧ bitsOf (BitVec.setWidth
    256 upd64.ops) 0 64 ≠ 0))) ∧
  (∃ q k, Taken specCeUpdate h0 (updD 0 1) (inPhase 2 withTable) q k ∧ q.ct.waits = [] ∧ (updD 0 1).target.toNat < q.ct.count ∧
    q.ct.hold = false ∧ inBatch q (updD 0 1).target.toNat = false ∧ (¬((q.ct.mule.phase = 1 ∨ q.ct.mule.phase = 3) ∧ bitsOf
    (BitVec.setWidth 256 (updD 0 1).ops) 0 64 ≠ 0))) ∧
  (∃ q k, Taken specCeUpdate h0 upd64 withTable q k ∧ q.ct.waits = [] ∧ upd64.target.toNat < q.ct.count ∧ q.ct.hold = false ∧
    inBatch q upd64.target.toNat = false ∧ (¬((q.ct.mule.phase = 1 ∨ q.ct.mule.phase = 3) ∧ bitsOf (BitVec.setWidth 256
    upd64.ops) 0 64 ≠ 0)) ∧ line q upd64.target.toNat = none ∧ tableReach q = true) ∧
  (∃ q k, Taken specCeUpdate h0 upd64 (cached false false false) q k ∧ q.ct.waits = [] ∧ upd64.target.toNat < q.ct.count ∧
    q.ct.hold = false ∧ inBatch q upd64.target.toNat = false ∧ q.ct.mule.phase = 0 ∧ line q upd64.target.toNat = some (lineOf 0
    false false false) ∧ (dirIdentity q.ct.dir upd64.target.toNat = some (eKind (mergeMask (lineOf 0 false false false).data
    (BitVec.ofNat 2048 (leNat (cmdRead q h0 upd64.addr.toNat 256))) (byteMask (BitVec.setWidth 256 upd64.ops))), eNode
    (mergeMask (lineOf 0 false false false).data (BitVec.ofNat 2048 (leNat (cmdRead q h0 upd64.addr.toNat 256))) (byteMask
    (BitVec.setWidth 256 upd64.ops))), eTap (mergeMask (lineOf 0 false false false).data (BitVec.ofNat 2048 (leNat (cmdRead q h0
    upd64.addr.toNat 256))) (byteMask (BitVec.setWidth 256 upd64.ops)))) ∧ eGen (mergeMask (lineOf 0 false false false).data
    (BitVec.ofNat 2048 (leNat (cmdRead q h0 upd64.addr.toNat 256))) (byteMask (BitVec.setWidth 256 upd64.ops))) =
    q.ct.gen.toNat)) ∧
  (∃ q k, Taken specCeUpdate h0 (updD 0 (2 ^ 2)) (updSrc (cached false false false)) q k ∧ q.ct.waits = [] ∧ (updD 0 (2 ^
    2)).target.toNat < q.ct.count ∧ q.ct.hold = false ∧ inBatch q (updD 0 (2 ^ 2)).target.toNat = false ∧ q.ct.mule.phase = 0 ∧
    line q (updD 0 (2 ^ 2)).target.toNat = some (lineOf 0 false false false) ∧ (dirIdentity q.ct.dir (updD 0 (2 ^
    2)).target.toNat).isSome = true ∧ (¬(dirIdentity q.ct.dir (updD 0 (2 ^ 2)).target.toNat = some (eKind (mergeMask (lineOf 0
    false false false).data (BitVec.ofNat 2048 (leNat (cmdRead q h0 (updD 0 (2 ^ 2)).addr.toNat 256))) (byteMask
    (BitVec.setWidth 256 (updD 0 (2 ^ 2)).ops))), eNode (mergeMask (lineOf 0 false false false).data (BitVec.ofNat 2048 (leNat
    (cmdRead q h0 (updD 0 (2 ^ 2)).addr.toNat 256))) (byteMask (BitVec.setWidth 256 (updD 0 (2 ^ 2)).ops))), eTap (mergeMask
    (lineOf 0 false false false).data (BitVec.ofNat 2048 (leNat (cmdRead q h0 (updD 0 (2 ^ 2)).addr.toNat 256))) (byteMask
    (BitVec.setWidth 256 (updD 0 (2 ^ 2)).ops)))) ∧ eGen (mergeMask (lineOf 0 false false false).data (BitVec.ofNat 2048 (leNat
    (cmdRead q h0 (updD 0 (2 ^ 2)).addr.toNat 256))) (byteMask (BitVec.setWidth 256 (updD 0 (2 ^ 2)).ops))) = q.ct.gen.toNat))) :=
  ⟨⟨_, _, taken (by decide) (by decide), by decide⟩, ⟨_, _, taken (by decide) (by decide), by decide⟩, ⟨_, _, taken (by decide)
    (by decide), by decide⟩, ⟨_, _, taken (by decide +kernel) (by decide +kernel), by decide +kernel⟩, ⟨_, _, taken
    (by decide +kernel) (by decide +kernel), by decide +kernel⟩⟩

set_option maxRecDepth 100000 in
theorem witness_TableCommands_6 :
  (∃ q k, Taken specCeUpdate h0 updAll (updEntry withTable) q k ∧ q.ct.waits = [] ∧ updAll.target.toNat < q.ct.count ∧ q.ct.hold
    = false ∧ inBatch q updAll.target.toNat = false ∧ q.ct.mule.phase = 0 ∧ line q updAll.target.toNat = none ∧ tableReach q =
    true ∧ freeWay q updAll.target.toNat = some 0 ∧ fullMask (BitVec.setWidth 256 updAll.ops) = true ∧ (dirIdentity q.ct.dir
    updAll.target.toNat = some (eKind (mergeMask (entryAt q (entryAddr q updAll.target.toNat)) (BitVec.ofNat 2048 (leNat
    (cmdRead q h0 updAll.addr.toNat 256))) (byteMask (BitVec.setWidth 256 updAll.ops))), eNode (mergeMask (entryAt q (entryAddr
    q updAll.target.toNat)) (BitVec.ofNat 2048 (leNat (cmdRead q h0 updAll.addr.toNat 256))) (byteMask (BitVec.setWidth 256
    updAll.ops))), eTap (mergeMask (entryAt q (entryAddr q updAll.target.toNat)) (BitVec.ofNat 2048 (leNat (cmdRead q h0
    updAll.addr.toNat 256))) (byteMask (BitVec.setWidth 256 updAll.ops)))) ∧ eGen (mergeMask (entryAt q (entryAddr q
    updAll.target.toNat)) (BitVec.ofNat 2048 (leNat (cmdRead q h0 updAll.addr.toNat 256))) (byteMask (BitVec.setWidth 256
    updAll.ops))) = q.ct.gen.toNat)) ∧
  (∃ q k, Taken specCePin h0 (rngD 1 2 1) withTable q k ∧ q.ct.waits = [] ∧ q.ct.count < (rngD 1 2 1).target.toNat + opn (rngD 1
    2 1) 16 0 32) ∧
  (∃ q k, Taken specCePin h0 (rngD 0 2 0) (cached false true false) q k ∧ q.ct.waits = [] ∧ (rngD 0 2 0).target.toNat + opn
    (rngD 0 2 0) 16 0 32 ≤ q.ct.count ∧ bitOf (rngD 0 2 0).ops 32 = false) ∧
  (∃ q k, Taken specCePin h0 (rngD 0 2 1) (held1 withTable) q k ∧ q.ct.waits = [] ∧ (rngD 0 2 1).target.toNat + opn (rngD 0 2 1)
    16 0 32 ≤ q.ct.count ∧ bitOf (rngD 0 2 1).ops 32 = true ∧ q.ct.hold = true) ∧
  (∃ q k, Taken specCePin h0 (rngD 0 2 1) excl1 q k ∧ q.ct.waits = [] ∧ (rngD 0 2 1).target.toNat + opn (rngD 0 2 1) 16 0 32 ≤
    q.ct.count ∧ bitOf (rngD 0 2 1).ops 32 = true ∧ q.ct.hold = false ∧ (∃ c, (rngD 0 2 1).target.toNat ≤ c ∧ c < (rngD 0 2
    1).target.toNat + opn (rngD 0 2 1) 16 0 32 ∧ (c ∈ q.ct.excluded ∨ dirIdentity q.ct.dir c = none))) :=
  ⟨⟨_, _, taken (by decide +kernel) (by decide +kernel), by decide +kernel⟩, ⟨_, _, taken (by decide) (by decide), by decide⟩,
    ⟨_, _, taken (by decide) (by decide), by decide⟩, ⟨_, _, taken (by decide) (by decide), by decide⟩, ⟨_, _, taken (by decide)
    (by decide), by decide, by decide, by decide, by decide, ⟨1, by decide⟩⟩⟩

set_option maxRecDepth 100000 in
theorem witness_TableCommands_7 :
  (∃ q k, Taken specCePin h0 (rngD 0 1 1) (cached false true false) q k ∧ q.ct.waits = [] ∧ (rngD 0 1 1).target.toNat + opn
    (rngD 0 1 1) 16 0 32 ≤ q.ct.count ∧ bitOf (rngD 0 1 1).ops 32 = true ∧ q.ct.hold = false ∧ opn (rngD 0 1 1) 16 0 32 = 1 ∧
    ¬(rngD 0 1 1).target.toNat ∈ q.ct.excluded ∧ (dirIdentity q.ct.dir (rngD 0 1 1).target.toNat).isSome = true ∧ q.ct.repin =
    [] ∧ line q (rngD 0 1 1).target.toNat = some (lineOf 0 false true false) ∧ (lineOf 0 false true false).pinned = true ∧
    pinnedCount q ≤ 512) ∧
  (∃ q k, Taken specCePin h0 (rngD 0 1 1) fullPins q k ∧ q.ct.waits = [] ∧ (rngD 0 1 1).target.toNat + opn (rngD 0 1 1) 16 0 32
    ≤ q.ct.count ∧ bitOf (rngD 0 1 1).ops 32 = true ∧ q.ct.hold = false ∧ opn (rngD 0 1 1) 16 0 32 = 1 ∧ ¬(rngD 0 1
    1).target.toNat ∈ q.ct.excluded ∧ (dirIdentity q.ct.dir (rngD 0 1 1).target.toNat).isSome = true ∧ q.ct.repin = [] ∧ line q
    (rngD 0 1 1).target.toNat = none ∧ (512 ≤ pinnedCount q ∨ 2 ≤ countIf (fun e ↦ e.snd.pinned && decide (e.fst % 256 = (rngD 0
    1 1).target.toNat % 256)) q.ct.cache)) ∧
  (∃ q k, Taken specCePin h0 (rngD 0 1 1) withTable q k ∧ q.ct.waits = [] ∧ (rngD 0 1 1).target.toNat + opn (rngD 0 1 1) 16 0 32
    ≤ q.ct.count ∧ bitOf (rngD 0 1 1).ops 32 = true ∧ q.ct.hold = false ∧ opn (rngD 0 1 1) 16 0 32 = 1 ∧ ¬(rngD 0 1
    1).target.toNat ∈ q.ct.excluded ∧ (dirIdentity q.ct.dir (rngD 0 1 1).target.toNat).isSome = true ∧ q.ct.repin = [] ∧ line q
    (rngD 0 1 1).target.toNat = none ∧ pinnedCount q < 512 ∧ countIf (fun e ↦ e.snd.pinned && decide (e.fst % 256 = (rngD 0 1
    1).target.toNat % 256)) q.ct.cache < 2 ∧ tableReach q = true) ∧
  (∃ q k, Taken specCePin h0 (rngD 0 1 1) withTable q k ∧ q.ct.waits = [] ∧ (rngD 0 1 1).target.toNat + opn (rngD 0 1 1) 16 0 32
    ≤ q.ct.count ∧ bitOf (rngD 0 1 1).ops 32 = true ∧ q.ct.hold = false ∧ opn (rngD 0 1 1) 16 0 32 = 1 ∧ ¬(rngD 0 1
    1).target.toNat ∈ q.ct.excluded ∧ (dirIdentity q.ct.dir (rngD 0 1 1).target.toNat).isSome = true ∧ q.ct.repin = [] ∧ line q
    (rngD 0 1 1).target.toNat = none ∧ pinnedCount q < 512 ∧ countIf (fun e ↦ e.snd.pinned && decide (e.fst % 256 = (rngD 0 1
    1).target.toNat % 256)) q.ct.cache < 2 ∧ tableReach q = true ∧ freeWay q (rngD 0 1 1).target.toNat = some 0 ∧ readFault q []
    (rngD 0 1 1).target.toNat (entryAt q (entryAddr q (rngD 0 1 1).target.toNat)) = none) ∧
  (∃ q k, Taken specCtRebuild h0 (rebD 1 0) stored q k ∧ q.ct.waits = [] ∧ (opn (rebD 1 0) 20 0 32 = 0 ∨ 32 < opn (rebD 1 0) 20
    0 32 ∨ opn (rebD 1 0) 16 0 32 = 0 ∨ 262144 < opn (rebD 1 0) 16 0 32 ∨ 8192 * opn (rebD 1 0) 20 0 32 < opn (rebD 1 0) 16 0
    32)) :=
  ⟨⟨_, _, taken (by decide +kernel) (by decide +kernel), by decide +kernel⟩, ⟨_, _, taken (by decide +kernel)
    (by decide +kernel), by decide +kernel⟩, ⟨_, _, taken (by decide) (by decide), by decide⟩, ⟨_, _, taken (by decide +kernel)
    (by decide +kernel), by decide +kernel⟩, ⟨_, _, taken (by decide) (by decide), by decide⟩⟩

set_option maxRecDepth 100000 in
theorem witness_TableCommands_8 :
  (∃ q k, Taken specCtRebuild h0 (rebD 8192 1) (chunkList 1048576) q k ∧ q.ct.waits = [] ∧ 0 < opn (rebD 8192 1) 20 0 32 ∧ opn
    (rebD 8192 1) 20 0 32 ≤ 32 ∧ 0 < opn (rebD 8192 1) 16 0 32 ∧ opn (rebD 8192 1) 16 0 32 ≤ 262144 ∧ opn (rebD 8192 1) 16 0 32
    ≤ 8192 * opn (rebD 8192 1) 20 0 32 ∧ ((opn (rebD 8192 1) 20 0 32 ≤ 32 ∧
    ∃ c, c ∈ readChunks q h0 (rebD 8192 1).addr.toNat (opn (rebD 8192 1) 20 0 32) ∧ c.toNat % 2097152 ≠ 0))) ∧
  (∃ q k, Taken specCtRebuild h0 (rebD 1 1) stored q k ∧ q.ct.waits = [] ∧ 0 < opn (rebD 1 1) 20 0 32 ∧ opn (rebD 1 1) 20 0 32 ≤
    32 ∧ 0 < opn (rebD 1 1) 16 0 32 ∧ opn (rebD 1 1) 16 0 32 ≤ 262144 ∧ opn (rebD 1 1) 16 0 32 ≤ 8192 * opn (rebD 1 1) 20 0 32 ∧
    (true = true ∨ ¬(opn (rebD 1 1) 20 0 32 ≤ 32 ∧ ∃ c, c ∈ readChunks q h0 (rebD 1 1).addr.toNat (opn (rebD 1 1) 20 0 32) ∧
    c.toNat % 2097152 ≠ 0)) ∧ (q.ct.attached = false ∨ q.ct.hold = true ∨ q.ct.mule.phase ≠ 0)) ∧
  (∃ q k, Taken specCtRebuild h0 (rebD 8192 1) (inPhase 1 (chunkList 10485760)) q k ∧ q.ct.waits = [] ∧ 0 < opn (rebD 8192 1) 20
    0 32 ∧ opn (rebD 8192 1) 20 0 32 ≤ 32 ∧ 0 < opn (rebD 8192 1) 16 0 32 ∧ opn (rebD 8192 1) 16 0 32 ≤ 262144 ∧ opn (rebD 8192
    1) 16 0 32 ≤ 8192 * opn (rebD 8192 1) 20 0 32 ∧ (true = true ∨ ¬(opn (rebD 8192 1) 20 0 32 ≤ 32 ∧
    ∃ c, c ∈ readChunks q h0 (rebD 8192 1).addr.toNat (opn (rebD 8192 1) 20 0 32) ∧ c.toNat % 2097152 ≠ 0)) ∧ (q.ct.attached =
    false ∨ q.ct.hold = true ∨ q.ct.mule.phase ≠ 0)) ∧
  (∃ q k, Taken specCtRebuild h0 (rebD 1 1) withTable q k ∧ q.ct.waits = [] ∧ 0 < opn (rebD 1 1) 20 0 32 ∧ opn (rebD 1 1) 20 0
    32 ≤ 32 ∧ 0 < opn (rebD 1 1) 16 0 32 ∧ opn (rebD 1 1) 16 0 32 ≤ 262144 ∧ opn (rebD 1 1) 16 0 32 ≤ 8192 * opn (rebD 1 1) 20 0
    32 ∧ (¬(q.ct.attached = false ∨ q.ct.hold = true ∨ q.ct.mule.phase ≠ 0))) ∧
  (∃ q k, Taken specCtRebuild h0 (rebD 8192 1) (chunkList 10485760) q k ∧ q.ct.waits = [] ∧ 0 < opn (rebD 8192 1) 20 0 32 ∧ opn
    (rebD 8192 1) 20 0 32 ≤ 32 ∧ 0 < opn (rebD 8192 1) 16 0 32 ∧ opn (rebD 8192 1) 16 0 32 ≤ 262144 ∧ opn (rebD 8192 1) 16 0 32
    ≤ 8192 * opn (rebD 8192 1) 20 0 32 ∧ (¬(opn (rebD 8192 1) 20 0 32 ≤ 32 ∧
    ∃ c, c ∈ readChunks q h0 (rebD 8192 1).addr.toNat (opn (rebD 8192 1) 20 0 32) ∧ c.toNat % 2097152 ≠ 0)) ∧ (¬(q.ct.attached = false ∨
    q.ct.hold = true ∨ q.ct.mule.phase ≠ 0))) :=
  ⟨⟨_, _, taken (by decide +kernel) (by decide +kernel), by decide +kernel, by decide +kernel, by decide +kernel,
    by decide +kernel, by decide +kernel, by decide +kernel, ⟨by decide +kernel, 0x100000, by decide +kernel⟩⟩, ⟨_, _, taken (by decide)
    (by decide), by decide, by decide, by decide, by decide, by decide, by decide, (Or.inl rfl), by decide⟩, ⟨_, _, taken
    (by decide) (by decide), by decide, by decide, by decide, by decide, by decide, by decide, (Or.inl rfl), by decide⟩, ⟨_, _,
    taken (by decide) (by decide), by decide⟩, ⟨_, _, taken (by decide +kernel) (by decide +kernel), by decide +kernel,
    by decide +kernel, by decide +kernel, by decide +kernel, by decide +kernel, by decide +kernel, (chunks_ok
    (by decide +kernel)), by decide +kernel⟩⟩

theorem witness_TableCommands_9 :
  (Via.host ≠ Via.sideband ∧ viaReach withTable Via.host = true ∧ domOn withTable 4 = true ∧ rootAlive withTable = true ∧ bitOf
    (6#32) 0 = false) ∧
  (Via.host ≠ Via.sideband ∧ viaReach (cached true true true) Via.host = true ∧ domOn (cached true true true) 4 = true ∧
    rootAlive (cached true true true) = true ∧ bitOf (7#32) 0 = true ∧ (cached true true true).ct.attached = true) :=
  ⟨(by decide), (by decide)⟩

set_option maxRecDepth 100000 in
/-- A misaligned chunk beside a count out of range; a pin of an absent channel under HOLD, and of a present one. -/
theorem witness_TableCommands_10 :
  (∃ q k, Taken specCtRebuild h0 (rebD 300000 1) (chunkList 1048576) q k ∧ q.ct.waits = [] ∧ 262144 < opn (rebD 300000 1) 16 0 32 ∧
    opn (rebD 300000 1) 20 0 32 ≤ 32 ∧ ∃ c, c ∈ readChunks q h0 (rebD 300000 1).addr.toNat (opn (rebD 300000 1) 20 0 32) ∧ c.toNat % 2097152 ≠ 0) ∧
  (∃ q k, Taken specCePin h0 (rngD 0 2 1) (held1 excl1) q k ∧ q.ct.waits = [] ∧ (rngD 0 2 1).target.toNat + opn (rngD 0 2 1) 16 0 32 ≤ q.ct.count ∧
    bitOf (rngD 0 2 1).ops 32 = true ∧ 1 ∈ q.ct.excluded ∧ q.ct.hold = true) ∧
  (∃ q k, Taken specCePin h0 (rngD 0 1 1) (held1 withTable) q k ∧ q.ct.waits = [] ∧
    (rngD 0 1 1).target.toNat + opn (rngD 0 1 1) 16 0 32 ≤ q.ct.count ∧
    bitOf (rngD 0 1 1).ops 32 = true ∧ q.ct.excluded = [] ∧ dirIdentity q.ct.dir 0 ≠ none ∧ q.ct.hold = true) :=
  ⟨⟨_, _, taken (by decide +kernel) (by decide +kernel), by decide +kernel, by decide +kernel, by decide +kernel, 0x100000, by decide +kernel⟩,
    ⟨_, _, taken (by decide) (by decide), by decide⟩, ⟨_, _, taken (by decide) (by decide), by decide⟩⟩

theorem witness_MuleAndScrub_1 :
  ((domOn (withDom 4 (Domain.init DomState.off) ready) 4 = false ∨ rootAlive (withDom 4 (Domain.init DomState.off) ready) =
    false ∨ flag (withDom 4 (Domain.init DomState.off) ready) 8192 2 = false)) ∧
  (domOn (scrubOn (cached true false false)) 4 = true ∧ rootAlive (scrubOn (cached true false false)) = true ∧ flag (scrubOn
    (cached true false false)) 8192 2 = true) ∧
  (domOn (scrubOn (cached true false false)) 4 = true ∧ rootAlive (scrubOn (cached true false false)) = true ∧ flag (scrubOn
    (cached true false false)) 8192 2 = true ∧ line (scrubOn (cached true false false)) 0 = some (lineOf 0 true false false)) ∧
  (domOn (scrubOn (cached true false false)) 4 = true ∧ rootAlive (scrubOn (cached true false false)) = true ∧ flag (scrubOn
    (cached true false false)) 8192 2 = true ∧ line (scrubOn (cached true false false)) 0 = some (lineOf 0 true false false) ∧
    (scrubOn (cached true false false)).ct.repin = [] ∧ (lineOf 0 true false false).pinned = false ∧ (lineOf 0 true false
    false).reserved = false ∧ (false = false ∨ ∀ (e : Nat × Line), e ∈ (scrubOn (cached true false false)).ct.cache → e.fst %
    256 = 0 % 256 → e.snd.dirty = false)) ∧
  (domOn (scrubOn (cached false false false)) 4 = true ∧ rootAlive (scrubOn (cached false false false)) = true ∧ flag (scrubOn
    (cached false false false)) 8192 2 = true ∧ line (scrubOn (cached false false false)) 0 = some (lineOf 0 false false false)
    ∧ (scrubOn (cached false false false)).ct.repin = [] ∧ (lineOf 0 false false false).pinned = false ∧ (lineOf 0 false false
    false).reserved = false ∧ (true = false ∨ ∀ (e : Nat × Line), e ∈ (scrubOn (cached false false false)).ct.cache → e.fst %
    256 = 0 % 256 → e.snd.dirty = false)) :=
  ⟨(by decide), (by decide), (by decide +kernel), (by decide +kernel), (by decide +kernel)⟩

set_option maxRecDepth 100000 in
theorem witness_MuleAndScrub_2 :
  (domOn (scrubOn (cached true false false)) 4 = true ∧ rootAlive (scrubOn (cached true false false)) = true ∧ flag (scrubOn
    (cached true false false)) 8192 2 = true ∧ line (scrubOn (cached true false false)) 0 = some (lineOf 0 true false false) ∧
    (scrubOn (cached true false false)).ct.repin = [] ∧ (∃ e, e ∈ (scrubOn (cached true false false)).ct.cache ∧ e.fst % 256 = 0
    % 256 ∧ e.snd.dirty = true) ∧ (∀ (e : Nat × Line), e ∈ (scrubOn (cached true false false)).ct.cache → e.fst % 256 = 0 % 256
    → e.snd.pinned = false ∧ e.snd.reserved = false ∧ line (scrubOn (cached true false false)) e.fst = some e.snd)) ∧
  ((rootAlive withTable = false ∨ tableReach withTable = false ∨ withTable.ct.mule.phase ≠ 1)) ∧
  (rootAlive prepGood = true ∧ tableReach prepGood = true ∧ prepGood.ct.mule.phase = 1) ∧
  (rootAlive prepBad = true ∧ tableReach prepBad = true ∧ prepBad.ct.mule.phase = 1 ∧ (scanEntry prepBad.ct.mule.nextGen.toNat
    prepBad.ct.mule.prepNext false (crcFails prepBad [] prepBad.ct.mule.prepNext (entryAt prepBad (shadowAddr prepBad
    prepBad.ct.mule.prepNext))) (entryAt prepBad (shadowAddr prepBad prepBad.ct.mule.prepNext))
    { dir := prepBad.ct.mule.dir, excluded := TableScan.empty.excluded, parents := prepBad.ct.mule.parents, calib := TableScan.empty.calib, tfilt := TableScan.empty.tfilt, bad := TableScan.empty.bad }).bad
    = some ({ reason := 2, index := 0 }, stStale)) ∧
  (rootAlive prepGood = true ∧ tableReach prepGood = true ∧ prepGood.ct.mule.phase = 1 ∧ (scanEntry
    prepGood.ct.mule.nextGen.toNat prepGood.ct.mule.prepNext false (crcFails prepGood [] prepGood.ct.mule.prepNext (entryAt
    prepGood (shadowAddr prepGood prepGood.ct.mule.prepNext))) (entryAt prepGood (shadowAddr prepGood
    prepGood.ct.mule.prepNext))
    { dir := prepGood.ct.mule.dir, excluded := TableScan.empty.excluded, parents := prepGood.ct.mule.parents, calib := TableScan.empty.calib, tfilt := TableScan.empty.tfilt, bad := TableScan.empty.bad }).bad
    = none ∧ fld prepGood 8232 0 7 ≤ 1) :=
  ⟨⟨by decide +kernel, by decide +kernel, by decide +kernel, by decide +kernel, by decide +kernel, ⟨(0, lineOf 0 true false
    false), by decide +kernel⟩, by decide +kernel⟩, (by decide), (by decide), (by decide +kernel), (by decide +kernel)⟩

theorem witness_MuleAndScrub_3 :
  (oxRuns (inPhase 2 withTable) = true ∧ (inPhase 2 withTable).ox.active = false ∧ (inPhase 2 withTable).ct.attached = true ∧
    (inPhase 2 withTable).ct.mule.phase = 2) ∧
  (oxRuns (muleAt 3 true) = true ∧ (muleAt 3 true).ox.active = false ∧ (muleAt 3 true).ct.attached = true ∧ (muleAt 3
    true).ct.mule.phase = 3 ∧ ((muleAt 3 true).ct.mule.again = true ∨ (muleAt 3 true).ct.mule.recopy ≠ [])) ∧
  (oxRuns (muleAt 3 false) = true ∧ (muleAt 3 false).ox.active = false ∧ (muleAt 3 false).ct.attached = true ∧ (muleAt 3
    false).ct.mule.phase = 3 ∧ (muleAt 3 false).ct.mule.again = false ∧ (muleAt 3 false).ct.mule.recopy = [] ∧ tableReach
    (muleAt 3 false) = true) ∧
  (oxRuns (muleAt 4 false) = true ∧ (muleAt 4 false).ox.active = false ∧ (muleAt 4 false).ct.attached = true ∧ ((muleAt 4
    false).ct.mule.phase = 4 ∨ (muleAt 4 false).ct.mule.phase = 3 ∧ (muleAt 4 false).ct.mule.again = false ∧ (muleAt 4
    false).ct.mule.recopy = [] ∧ tableReach (muleAt 4 false) = false)) ∧
  (oxRuns (noBme (muleAt 3 false)) = true ∧ (noBme (muleAt 3 false)).ox.active = false ∧ (noBme (muleAt 3 false)).ct.attached =
    true ∧ ((noBme (muleAt 3 false)).ct.mule.phase = 4 ∨ (noBme (muleAt 3 false)).ct.mule.phase = 3 ∧ (noBme (muleAt 3
    false)).ct.mule.again = false ∧ (noBme (muleAt 3 false)).ct.mule.recopy = [] ∧ tableReach (noBme (muleAt 3 false)) = false)) :=
  ⟨(by decide), (by decide), (by decide), (by decide), (by decide)⟩

/-- A pinned line whose refetch can end in an error; a channel of the shadow table that cannot be read. -/
theorem witness_MuleAndScrub_5 :
  (let s := scrubOn (cached false true false);
    domOn s 4 = true ∧ rootAlive s = true ∧ flag s 0x2000 2 = true ∧ line s 0 = some (lineOf 0 false true false) ∧ s.ct.repin = [] ∧
    tableReach s = true ∧
      (∀ e ∈ s.ct.cache, e.1 % 256 = 0 → e.2.dirty = false)) ∧
  (let s := { muleAt 4 false with ct := { (muleAt 4 false).ct with mule := { (muleAt 4 false).ct.mule with failed := [0] } } };
    s.ct.mule.phase = 4 ∧ tableReach s = true ∧ s.ct.waits = [] ∧ 0 ∈ s.ct.mule.failed) := by decide +kernel

theorem witness_MuleAndScrub_4 :
  ((withTable.ct.mule.phase ≠ 4 ∨ tableReach withTable = false)) ∧
  ((muleAt 4 false).ct.mule.phase = 4 ∧ tableReach (muleAt 4 false) = true ∧ (muleAt 4 false).ct.waits = []) :=
  ⟨(by decide), (by decide)⟩

theorem witness_OxEpochs_1 :
  (oxRuns (withDom 4 (Domain.init DomState.off) ready) = false ∧ Instr.fitCompute ∈ [Instr.epochBoundary, Instr.epochEnd,
    Instr.fitCompute]) ∧
  (oxRuns (withDom 4 (Domain.init DomState.off) ready) = false) ∧
  (oxRuns (withDom 4 (Domain.init DomState.off) ready) = false) ∧
  (oxRuns (epochOn withTable) = true ∧ (epochOn withTable).ox.active = true) ∧
  (oxRuns stored = true ∧ stored.ox.active = false ∧ stored.ct.attached = false) :=
  ⟨⟨by decide, (by decide)⟩, (by decide), (by decide), (by decide), (by decide)⟩

theorem witness_OxEpochs_2 :
  (oxRuns withTable = true ∧ withTable.ox.active = false ∧ withTable.ct.attached = true ∧ withTable.ct.mule.phase ≤ 1) ∧
  (oxRuns ending = true ∧ ending.ox.active = true ∧ (tableReach ending = false ∨ ending.ct.count ≤ 496 * ending.ox.nextBatch ∨
    ending.ox.maxBatches ≤ ending.ox.inFlight.length)) ∧
  (oxRuns crowded = true ∧ crowded.ox.active = true ∧ tableReach crowded = true ∧ 496 * crowded.ox.nextBatch < crowded.ct.count
    ∧ crowded.ox.inFlight.length < crowded.ox.maxBatches ∧ crowded.ct.repin = [] ∧ batchFits crowded (batchChannels crowded
    crowded.ox.nextBatch) = false) ∧
  (oxRuns (epochOn withTable) = true ∧ (epochOn withTable).ox.active = true ∧ tableReach (epochOn withTable) = true ∧ 496 *
    (epochOn withTable).ox.nextBatch < (epochOn withTable).ct.count ∧ (epochOn withTable).ox.inFlight.length < (epochOn
    withTable).ox.maxBatches ∧ (epochOn withTable).ct.repin = [] ∧ batchFits (epochOn withTable) (batchChannels (epochOn
    withTable) (epochOn withTable).ox.nextBatch) = true) ∧
  (oxRuns bothCached = true ∧ bothCached.ox.active = true ∧ tableReach bothCached = true ∧ 496 * bothCached.ox.nextBatch <
    bothCached.ct.count ∧ bothCached.ox.inFlight.length < bothCached.ox.maxBatches ∧ bothCached.ct.repin = [] ∧ batchFits
    bothCached (batchChannels bothCached bothCached.ox.nextBatch) = true) :=
  ⟨(by decide), (by decide), (by decide +kernel), (by decide +kernel), (by decide +kernel)⟩

set_option maxRecDepth 100000 in
theorem witness_OxEpochs_3 :
  (oxRuns (epochOn withTable) = true ∧ (epochOn withTable).ox.active = true ∧ (epochOn withTable).ox.inFlight = []) ∧
  (oxRuns (noBme fetched) = true ∧ (noBme fetched).ox.active = true ∧ tableReach (noBme fetched) = false) ∧
  (oxRuns fetched = true ∧ fetched.ox.active = true ∧ tableReach fetched = true ∧ fetched.ox.inFlight = [0] ∧ fetched.ct.waits =
    []) ∧
  (oxRuns quarBatch = true ∧ quarBatch.ox.active = true ∧ tableReach quarBatch = true ∧ quarBatch.ox.inFlight = [0] ∧
    quarBatch.ct.waits = [] ∧ quarBatch.ct.mule.phase ≠ 3 ∧ quarBatch.ct.mule.recopy = []) ∧
  (oxRuns ending = true ∧ ending.ox.active = true ∧ tableReach ending = true ∧ ending.ct.count ≤ 496 * ending.ox.nextBatch ∧
    ending.ox.inFlight = [] ∧ ending.ox.parkLeft = []) :=
  ⟨(by decide), (by decide +kernel), (by decide +kernel), (by decide +kernel), (by decide)⟩

theorem witness_OxEpochs_4 :
  (oxRuns (epochOn withTable) = true ∧ (epochOn withTable).ox.active = true ∧ ((epochOn withTable).ct.count > 496 * (epochOn
    withTable).ox.nextBatch ∨ (epochOn withTable).ox.inFlight ≠ [] ∨ tableReach (epochOn withTable) = false)) ∧
  (oxRuns withTable = true ∧ withTable.ox.fits = []) ∧
  (oxRuns (fitS (jobAt 5 [])) = true ∧ (fitS (jobAt 5 [])).ox.fits = [jobAt 5 []] ∧ (jobAt 5 []).taps = [5] ∧ dirChannel (fitS
    (jobAt 5 [])).ct.dir 1 (jobAt 5 []).node 5 = none) ∧
  (oxRuns (fitS jobFlat) = true ∧ (fitS jobFlat).ox.fits = [jobFlat] ∧ jobFlat.taps = [1] ∧ dirChannel (fitS jobFlat).ct.dir 1
    jobFlat.node 1 = some 1 ∧ capTap jobFlat.pieces (groupTap (fitS jobFlat) jobFlat.node 1) = (capTap jobFlat.pieces (groupTap
    (fitS jobFlat) 0 1)).headD 0 :: (capTap jobFlat.pieces (groupTap (fitS jobFlat) 0 1)).tail ∧ (computeFit ((capTap
    jobFlat.pieces 1).map fun (x : Int) => (x : Rat) * 4 / 10000000) (0 :: (capTap jobFlat.pieces (groupTap (fitS jobFlat) 0
    1)).tail.map fun (x : Int) => (x : Rat) / 100000) (natQ (fld (fitS jobFlat) 0x280C 0 16) / 1000000) (if fld (fitS jobFlat)
    0x280C 16 10 < 1000 then fld (fitS jobFlat) 0x280C 16 10 else 1000) jobFlat.capture jobFlat.refTs = none)) ∧
  (oxRuns (fitS jobBad) = true ∧ (fitS jobBad).ox.fits = [jobBad] ∧ jobBad.taps = [1] ∧ dirChannel (fitS jobBad).ct.dir 1
    jobBad.node 1 = some 1 ∧ capTap jobBad.pieces (groupTap (fitS jobBad) jobBad.node 1) = (capTap jobBad.pieces (groupTap (fitS
    jobBad) 0 1)).headD 0 :: (capTap jobBad.pieces (groupTap (fitS jobBad) 0 1)).tail ∧ (computeFit ((capTap jobBad.pieces
    1).map fun (x : Int) => (x : Rat) * 4 / 10000000) (0 :: (capTap jobBad.pieces (groupTap (fitS jobBad) 0 1)).tail.map fun (x
    : Int) => (x : Rat) / 100000) (natQ (fld (fitS jobBad) 0x280C 0 16) / 1000000) (if fld (fitS jobBad) 0x280C 16 10 < 1000
    then fld (fitS jobBad) 0x280C 16 10 else 1000) jobBad.capture jobBad.refTs = some (fitBad, true))) :=
  ⟨(by decide), (by decide), (by decide), (by decide +kernel), (by decide +kernel)⟩

theorem witness_OxEpochs_5 : oxRuns (fitS jobGood) = true ∧ (fitS jobGood).ox.fits = [jobGood] ∧ jobGood.taps = [1] ∧ dirChannel
  (fitS jobGood).ct.dir 1 jobGood.node 1 = some 1 ∧ capTap jobGood.pieces (groupTap (fitS jobGood) jobGood.node 1) = (capTap
  jobGood.pieces (groupTap (fitS jobGood) 0 1)).headD 0 :: (capTap jobGood.pieces (groupTap (fitS jobGood) 0 1)).tail ∧
  (computeFit ((capTap jobGood.pieces 1).map fun (x : Int) => (x : Rat) * 4 / 10000000) (0 :: (capTap jobGood.pieces (groupTap
  (fitS jobGood) 0 1)).tail.map fun (x : Int) => (x : Rat) / 100000) (natQ (fld (fitS jobGood) 0x280C 0 16) / 1000000) (if fld
  (fitS jobGood) 0x280C 16 10 < 1000 then fld (fitS jobGood) 0x280C 16 10 else 1000) jobGood.capture jobGood.refTs = some
  (fitGood, false)) := by decide +kernel

end Sys2Proof.Tests
end

