-- ==== Sys2Proof/Tests/Snapshots.lean ====
section
/-! SUPPORT. Witnesses of the statements on the snapshots: states and operands that meet each clause. -/

namespace Sys2Proof.Tests
open Sys2Proof.Machine
set_option exponentiation.threshold 30000
set_option Elab.async false

/-! ### Snapshots -/

def snD (t len : Nat) : Desc := dsc t 0x300000 [(128, 32, len)]
def withoutMp : State := withDom 3 (Domain.init .off) ready
def fwStopped : State := { ready with glb := { ready.glb with mpRunning := false } }
def rec1 : ParkRec := { chan := 3, charge := -5, socRep := 5000, socConf := 10, status := 1, sRef := 0xFFFF, qRef := 0, floor := none }
def park1 : ParkState := { time := 9, gen := 5, recs := [rec1] }
def parked : State := { ready with park := some park1, ox := { ready.ox with parkValid := true } }
/-- A snapshot at the address of `snD`. -/
def withSnap (bs : List Byte) : State := hostWrite ready 0x300000 bs
def snapGauge : List Byte := snapshot 0 1 0 0 (zeroBytes 64)
def snapPark : List Byte := snapshot 1 1 5 0 (parkBytes rec1)
def gen5 (s : State) : State := { s with ct := { s.ct with gen := 5 } }

theorem witness_Snapshots_1 :
  (∃ q k, Taken specEstSnapshot h0 (snD 2 0) ready q k ∧ 1 < (snD 2 0).target.toNat) ∧
  (∃ q k, Taken specEstSnapshot h0 (snD 0 96) withoutMp q k ∧ (snD 0 96).target.toNat ≤ 1 ∧ (domOn q (if (snD 0 96).target.toNat
    = 0 then 3 else 4) = false)) ∧
  (∃ q k, Taken specEstSnapshot h0 (snD 0 96) fwStopped q k ∧ (snD 0 96).target.toNat = 0 ∧ domOn q 3 = true ∧ q.glb.mpRunning =
    false) ∧
  (∃ q k, Taken specEstSnapshot h0 (snD 0 95) ready q k ∧ (snD 0 95).target.toNat = 0 ∧ domOn q 3 = true ∧ q.glb.mpRunning =
    true ∧ opn (snD 0 95) 16 0 32 < 96) ∧
  (∃ q k, Taken specEstSnapshot h0 (snD 0 96) ready q k ∧ (snD 0 96).target.toNat = 0 ∧ domOn q 3 = true ∧ q.glb.mpRunning =
    true ∧ 96 ≤ opn (snD 0 96) 16 0 32) :=
  ⟨⟨_, _, taken (by decide) (by decide), by decide⟩, ⟨_, _, taken (by decide) (by decide), by decide⟩, ⟨_, _, taken (by decide)
    (by decide), by decide⟩, ⟨_, _, taken (by decide) (by decide), by decide⟩, ⟨_, _, taken (by decide) (by decide), by decide⟩⟩

theorem witness_Snapshots_2 :
  (∃ q k, Taken specEstSnapshot h0 (snD 1 96) ready q k ∧ (snD 1 96).target.toNat = 1 ∧ domOn q 4 = true ∧ (q.park = none ∨
    q.ox.parkValid = false)) ∧
  (∃ q k, Taken specEstSnapshot h0 (snD 1 56) parked q k ∧ (snD 1 56).target.toNat = 1 ∧ domOn q 4 = true ∧ q.park = some park1
    ∧ q.ox.parkValid = true) ∧
  (∃ q k, Taken specEstRestore h0 (snD 2 96) ready q k ∧ 1 < (snD 2 96).target.toNat) ∧
  (∃ q k, Taken specEstRestore h0 (snD 0 96) withoutMp q k ∧ (snD 0 96).target.toNat ≤ 1 ∧ (domOn q (if (snD 0 96).target.toNat
    = 0 then 3 else 4) = false)) ∧
  (∃ q k, Taken specEstRestore h0 (snD 0 96) fwStopped q k ∧ (snD 0 96).target.toNat = 0 ∧ domOn q 3 = true ∧ q.glb.mpRunning =
    false) :=
  ⟨⟨_, _, taken (by decide) (by decide), by decide⟩, ⟨_, _, taken (by decide) (by decide), by decide⟩, ⟨_, _, taken (by decide)
    (by decide), by decide⟩, ⟨_, _, taken (by decide) (by decide), by decide⟩, ⟨_, _, taken (by decide) (by decide), by decide⟩⟩

theorem witness_Snapshots_3 :
  (∃ q k, Taken specEstRestore h0 (snD 1 56) ready q k ∧ (snD 1 56).target.toNat ≤ 1 ∧ (domOn q (if (snD 1 56).target.toNat = 0
    then 3 else 4) = true) ∧ ((snD 1 56).target.toNat = 0 → q.glb.mpRunning = true)) ∧
  (∃ q k, Taken specEstRestore h0 (snD 1 31) (withSnap snapPark) q k ∧ (snD 1 31).target.toNat ≤ 1 ∧ (domOn q (if (snD 1
    31).target.toNat = 0 then 3 else 4) = true) ∧ ((snD 1 31).target.toNat = 0 → q.glb.mpRunning = true) ∧ (opn (snD 1 31) 16 0
    32 < 32 ∨ leField (cmdRead q h0 (snD 1 31).addr.toNat (if opn (snD 1 31) 16 0 32 < 49024 then opn (snD 1 31) 16 0 32 else
    49024)) 0 2 ≠ 1537 ∨ leField (cmdRead q h0 (snD 1 31).addr.toNat (if opn (snD 1 31) 16 0 32 < 49024 then opn (snD 1 31) 16 0
    32 else 49024)) 2 1 ≠ (snD 1 31).target.toNat ∨ leField (cmdRead q h0 (snD 1 31).addr.toNat (if opn (snD 1 31) 16 0 32 <
    49024 then opn (snD 1 31) 16 0 32 else 49024)) 4 4 ≠ opn (snD 1 31) 16 0 32 ∨ (opn (snD 1 31) 16 0 32 ≠ if (snD 1
    31).target.toNat = 0 then 96 else 32 + 24 * leField (cmdRead q h0 (snD 1 31).addr.toNat (if opn (snD 1 31) 16 0 32 < 49024
    then opn (snD 1 31) 16 0 32 else 49024)) 16 2) ∨ (snD 1 31).target.toNat = 1 ∧ 2040 < leField (cmdRead q h0 (snD 1
    31).addr.toNat (if opn (snD 1 31) 16 0 32 < 49024 then opn (snD 1 31) 16 0 32 else 49024)) 16 2)) ∧
  (∃ q k, Taken specEstRestore h0 (snD 0 96) (withSnap (listSet snapGauge 40 1#8)) q k ∧ (snD 0 96).target.toNat ≤ 1 ∧ (domOn q
    (if (snD 0 96).target.toNat = 0 then 3 else 4) = true) ∧ ((snD 0 96).target.toNat = 0 → q.glb.mpRunning = true) ∧ (leField
    (cmdRead q h0 (snD 0 96).addr.toNat (if opn (snD 0 96) 16 0 32 < 49024 then opn (snD 0 96) 16 0 32 else 49024)) 0 2 = 1537)
    ∧ (leField (cmdRead q h0 (snD 0 96).addr.toNat (if opn (snD 0 96) 16 0 32 < 49024 then opn (snD 0 96) 16 0 32 else 49024)) 2
    1 = (snD 0 96).target.toNat) ∧ (leField (cmdRead q h0 (snD 0 96).addr.toNat (if opn (snD 0 96) 16 0 32 < 49024 then opn (snD
    0 96) 16 0 32 else 49024)) 4 4 = opn (snD 0 96) 16 0 32) ∧ (opn (snD 0 96) 16 0 32 = if (snD 0 96).target.toNat = 0 then 96
    else 32 + 24 * leField (cmdRead q h0 (snD 0 96).addr.toNat (if opn (snD 0 96) 16 0 32 < 49024 then opn (snD 0 96) 16 0 32
    else 49024)) 16 2) ∧ ((snD 0 96).target.toNat = 1 → leField (cmdRead q h0 (snD 0 96).addr.toNat (if opn (snD 0 96) 16 0 32 <
    49024 then opn (snD 0 96) 16 0 32 else 49024)) 16 2 ≤ 2040) ∧ (¬leField (cmdRead q h0 (snD 0 96).addr.toNat (if opn (snD 0
    96) 16 0 32 < 49024 then opn (snD 0 96) 16 0 32 else 49024)) 28 4 = crc32 (List.take 28 (cmdRead q h0 (snD 0 96).addr.toNat
    (if opn (snD 0 96) 16 0 32 < 49024 then opn (snD 0 96) 16 0 32 else 49024)) ++ List.drop 32 (cmdRead q h0 (snD 0
    96).addr.toNat (if opn (snD 0 96) 16 0 32 < 49024 then opn (snD 0 96) 16 0 32 else 49024))))) ∧
  (∃ q k, Taken specEstRestore h0 (snD 1 56) (withSnap snapPark) q k ∧ (snD 1 56).target.toNat ≤ 1 ∧ (domOn q (if (snD 1
    56).target.toNat = 0 then 3 else 4) = true) ∧ ((snD 1 56).target.toNat = 0 → q.glb.mpRunning = true) ∧ (leField (cmdRead q
    h0 (snD 1 56).addr.toNat (if opn (snD 1 56) 16 0 32 < 49024 then opn (snD 1 56) 16 0 32 else 49024)) 0 2 = 1537) ∧ (leField
    (cmdRead q h0 (snD 1 56).addr.toNat (if opn (snD 1 56) 16 0 32 < 49024 then opn (snD 1 56) 16 0 32 else 49024)) 2 1 = (snD 1
    56).target.toNat) ∧ (leField (cmdRead q h0 (snD 1 56).addr.toNat (if opn (snD 1 56) 16 0 32 < 49024 then opn (snD 1 56) 16 0
    32 else 49024)) 4 4 = opn (snD 1 56) 16 0 32) ∧ (opn (snD 1 56) 16 0 32 = if (snD 1 56).target.toNat = 0 then 96 else 32 +
    24 * leField (cmdRead q h0 (snD 1 56).addr.toNat (if opn (snD 1 56) 16 0 32 < 49024 then opn (snD 1 56) 16 0 32 else 49024))
    16 2) ∧ ((snD 1 56).target.toNat = 1 → leField (cmdRead q h0 (snD 1 56).addr.toNat (if opn (snD 1 56) 16 0 32 < 49024 then
    opn (snD 1 56) 16 0 32 else 49024)) 16 2 ≤ 2040) ∧ (leField (cmdRead q h0 (snD 1 56).addr.toNat (if opn (snD 1 56) 16 0 32 <
    49024 then opn (snD 1 56) 16 0 32 else 49024)) 28 4 = crc32 (List.take 28 (cmdRead q h0 (snD 1 56).addr.toNat (if opn (snD 1
    56) 16 0 32 < 49024 then opn (snD 1 56) 16 0 32 else 49024)) ++ List.drop 32 (cmdRead q h0 (snD 1 56).addr.toNat (if opn
    (snD 1 56) 16 0 32 < 49024 then opn (snD 1 56) 16 0 32 else 49024)))) ∧ (snD 1 56).target.toNat = 1 ∧ (leField (cmdRead q h0
    (snD 1 56).addr.toNat (if opn (snD 1 56) 16 0 32 < 49024 then opn (snD 1 56) 16 0 32 else 49024)) 14 2 ≠ q.ct.gen.toNat)) ∧
  (∃ q k, Taken specEstRestore h0 (snD 0 96) (withSnap snapGauge) q k ∧ (snD 0 96).target.toNat ≤ 1 ∧ (domOn q (if (snD 0
    96).target.toNat = 0 then 3 else 4) = true) ∧ ((snD 0 96).target.toNat = 0 → q.glb.mpRunning = true) ∧ (leField (cmdRead q
    h0 (snD 0 96).addr.toNat (if opn (snD 0 96) 16 0 32 < 49024 then opn (snD 0 96) 16 0 32 else 49024)) 0 2 = 1537) ∧ (leField
    (cmdRead q h0 (snD 0 96).addr.toNat (if opn (snD 0 96) 16 0 32 < 49024 then opn (snD 0 96) 16 0 32 else 49024)) 2 1 = (snD 0
    96).target.toNat) ∧ (leField (cmdRead q h0 (snD 0 96).addr.toNat (if opn (snD 0 96) 16 0 32 < 49024 then opn (snD 0 96) 16 0
    32 else 49024)) 4 4 = opn (snD 0 96) 16 0 32) ∧ (opn (snD 0 96) 16 0 32 = if (snD 0 96).target.toNat = 0 then 96 else 32 +
    24 * leField (cmdRead q h0 (snD 0 96).addr.toNat (if opn (snD 0 96) 16 0 32 < 49024 then opn (snD 0 96) 16 0 32 else 49024))
    16 2) ∧ ((snD 0 96).target.toNat = 1 → leField (cmdRead q h0 (snD 0 96).addr.toNat (if opn (snD 0 96) 16 0 32 < 49024 then
    opn (snD 0 96) 16 0 32 else 49024)) 16 2 ≤ 2040) ∧ (leField (cmdRead q h0 (snD 0 96).addr.toNat (if opn (snD 0 96) 16 0 32 <
    49024 then opn (snD 0 96) 16 0 32 else 49024)) 28 4 = crc32 (List.take 28 (cmdRead q h0 (snD 0 96).addr.toNat (if opn (snD 0
    96) 16 0 32 < 49024 then opn (snD 0 96) 16 0 32 else 49024)) ++ List.drop 32 (cmdRead q h0 (snD 0 96).addr.toNat (if opn
    (snD 0 96) 16 0 32 < 49024 then opn (snD 0 96) 16 0 32 else 49024)))) ∧ (snD 0 96).target.toNat = 0) :=
  ⟨⟨_, _, taken (by decide) (by decide), by decide⟩, ⟨_, _, taken (by decide) (by decide), by decide⟩, ⟨_, _, taken
    (by decide +kernel) (by decide +kernel), by decide +kernel⟩, ⟨_, _, taken (by decide +kernel) (by decide +kernel),
    by decide +kernel⟩, ⟨_, _, taken (by decide +kernel) (by decide +kernel), by decide +kernel⟩⟩

theorem witness_Snapshots_4 : ∃ q k, Taken specEstRestore h0 (snD 1 56) (gen5 (withSnap snapPark)) q k ∧ (snD 1 56).target.toNat
  ≤ 1 ∧ (domOn q (if (snD 1 56).target.toNat = 0 then 3 else 4) = true) ∧ ((snD 1 56).target.toNat = 0 → q.glb.mpRunning = true)
  ∧ (leField (cmdRead q h0 (snD 1 56).addr.toNat (if opn (snD 1 56) 16 0 32 < 49024 then opn (snD 1 56) 16 0 32 else 49024)) 0 2
  = 1537) ∧ (leField (cmdRead q h0 (snD 1 56).addr.toNat (if opn (snD 1 56) 16 0 32 < 49024 then opn (snD 1 56) 16 0 32 else
  49024)) 2 1 = (snD 1 56).target.toNat) ∧ (leField (cmdRead q h0 (snD 1 56).addr.toNat (if opn (snD 1 56) 16 0 32 < 49024 then
  opn (snD 1 56) 16 0 32 else 49024)) 4 4 = opn (snD 1 56) 16 0 32) ∧ (opn (snD 1 56) 16 0 32 = if (snD 1 56).target.toNat = 0
  then 96 else 32 + 24 * leField (cmdRead q h0 (snD 1 56).addr.toNat (if opn (snD 1 56) 16 0 32 < 49024 then opn (snD 1 56) 16 0
  32 else 49024)) 16 2) ∧ ((snD 1 56).target.toNat = 1 → leField (cmdRead q h0 (snD 1 56).addr.toNat (if opn (snD 1 56) 16 0 32
  < 49024 then opn (snD 1 56) 16 0 32 else 49024)) 16 2 ≤ 2040) ∧ (leField (cmdRead q h0 (snD 1 56).addr.toNat (if opn (snD 1
  56) 16 0 32 < 49024 then opn (snD 1 56) 16 0 32 else 49024)) 28 4 = crc32 (List.take 28 (cmdRead q h0 (snD 1 56).addr.toNat
  (if opn (snD 1 56) 16 0 32 < 49024 then opn (snD 1 56) 16 0 32 else 49024)) ++ List.drop 32 (cmdRead q h0 (snD 1
  56).addr.toNat (if opn (snD 1 56) 16 0 32 < 49024 then opn (snD 1 56) 16 0 32 else 49024)))) ∧ (snD 1 56).target.toNat = 1 ∧
  (leField (cmdRead q h0 (snD 1 56).addr.toNat (if opn (snD 1 56) 16 0 32 < 49024 then opn (snD 1 56) 16 0 32 else 49024)) 14 2
  = q.ct.gen.toNat) := ⟨_, _, taken (by decide +kernel) (by decide +kernel), by decide +kernel⟩

end Sys2Proof.Tests
end

section
/-! PROOFS. The reset state, and the accesses to registers: what a read returns and leaves, what a write reaches (R13, R15, R17, R57, R60, R75, R645, R646). -/

namespace Sys2Proof.Machine

/-! ### The reset state -/

/-- Every rail of the reset state is off. -/
theorem rail_reset_state (n : Nat) : (rail State.reset n).state = .off := by
  unfold rail vget
  split
  · simp [State.reset, RailCtl.reset, Rail.reset]
  · rfl

/-- Settles O6: the memories by `reset_memWf`, the rails by `rail_reset_state`, the other fields by evaluation. -/
theorem resetState : Obligations.ResetState :=
  ⟨reset_memWf, rfl, rfl, rfl, rfl, rfl, rfl, rfl, rfl, rfl, rfl, rfl, rfl, rfl, rfl, rfl,
    fun n _ => rail_reset_state n, rfl, rfl, rfl, rfl, rfl⟩

/-! ### Register accesses -/

/-- A register that lies in a domain which is not on does not answer. -/
theorem regOn_of_domain {s : State} {off k : Nat} (hk : regDomain off = some k) : regOn s off = domOn s k := by
  simp [regOn, hk]

theorem regRead_of_off {s : State} {off : Nat} (h : regOn s off = false) (c : Nat) : regRead s off c = (s, 0) := by
  simp [regRead, h]

theorem regWrite_of_off {s : State} {off : Nat} (h : regOn s off = false) (via : Via) (w : Word) : regWrite s via off w = s := by
  simp [regWrite, h]

/-- What a read of an aligned doubleword of BAR0 answers, by a path that reaches the device. -/
theorem exec_rcFieldRead_aligned {s : State} {via : Via} {off : BitVec 16} (hv : viaReach s via = true) (ha : off.toNat % 4 = 0) (c : Nat) :
    exec (.rcFieldRead via false off true c) s = .next (if mayRead via off.toNat
      then { (regRead s off.toNat c).1 with readData := (regRead s off.toNat c).2 } else { s with readData := 0 }) := by
  change execRcFieldRead via false off true c s = _
  by_cases hm : mayRead via off.toNat = true <;> simp [execRcFieldRead, hv, ha, brokenAccess, hm]

/-- What a write of an aligned doubleword of BAR0 does, by a path that reaches the device, away from the debug registers. -/
theorem exec_registerWrite_aligned {s : State} {via : Via} {off : BitVec 16} (hv : viaReach s via = true) (ha : off.toNat % 4 = 0)
    (hd : debugOpenAt s off.toNat = false) (w : Word) :
    exec (.registerWrite via false off true w) s = .next (if mayWrite s via off.toNat then regWrite s via off.toNat w else s) := by
  change execRegisterWrite via false off true w s = _
  by_cases hm : mayWrite s via off.toNat = true <;> simp [execRegisterWrite, hv, ha, brokenAccess, hm, hd]

/-- The debug registers lie in no switched domain. -/
theorem debugOpenAt_of_domain {s : State} {off k : Nat} (hk : regDomain off = some k) : debugOpenAt s off = false := by
  by_cases h : 0xF004 ≤ off
  · simp only [regDomain] at hk
    repeat rw [if_neg (by omega)] at hk
    cases hk
  · simp [debugOpenAt, h]

/-- Settles O21: every row that reaches a register of a domain asks first whether that domain is on. -/
theorem unpoweredRegisters : Obligations.UnpoweredRegisters := by
  intro s via hv
  refine ⟨fun off w k c ha hk hoff => ?_, fun w hi hoff => ?_, fun hoff hs => ?_, fun w n hoff => ?_, fun w hoff => ?_, fun w xs hoff => ?_⟩
  · have hr : regOn s off.toNat = false := (regOn_of_domain hk).trans hoff
    constructor
    · rw [exec_rcFieldRead_aligned hv ha, regRead_of_off hr]; exact congrArg _ (ite_self _)
    · rw [exec_registerWrite_aligned hv ha (debugOpenAt_of_domain hk), regWrite_of_off hr, ite_self]
  · have hq : qeReach s via = false := by simp [qeReach, hoff]
    have he : evrReach s via = false := by simp [evrReach, hoff]
    simp [exec, execDetach, execOxCommit, execQeRunStop, execQeRunStart, execEvrMaskWrite, execEvrPendClear, execEvrOpenWrite,
      hoff, hq, he, hostStores, forEach]
  · simp [exec, execEvrLastLoRead, hv, hs, hoff]
  · simp [exec, execRailCommit, execTmonEnWrite, hoff]
  · have hl : chgLive s 0x6000 w = s := by simp [chgLive, hoff]
    simp [exec, execSweepNow, execAuthNow, execChgHold, execChgQbLoRead, qbLoRead, hv, hoff, hl]
  · simp [exec, execReplan, hoff]

/-! ### Bit fields -/

theorem bitOf_mergeMask {n : Nat} (old w m : BitVec n) (i : Nat) : bitOf (mergeMask old w m) i = if bitOf m i then bitOf w i else bitOf old i := by
  by_cases hi : i < n
  · by_cases hm : bitOf m i = true
    · rw [if_pos hm]
      rw [bitOf] at hm
      simp only [bitOf, mergeMask, BitVec.getLsbD_or, BitVec.getLsbD_and, BitVec.getLsbD_not, hm, Bool.and_true, Bool.not_true, Bool.and_false,
        Bool.false_or]
    · rw [if_neg hm]
      rw [bitOf, Bool.not_eq_true] at hm
      simp only [bitOf, mergeMask, BitVec.getLsbD_or, BitVec.getLsbD_and, BitVec.getLsbD_not, hm, hi, decide_true, Bool.not_false, Bool.and_true,
        Bool.and_false, Bool.or_false]
  · simp [bitOf, BitVec.getLsbD_of_ge _ _ (Nat.le_of_not_lt hi)]

/-- The bits of a field decide its number. -/
theorem bitsOf_congr {n : Nat} {a b : BitVec n} {lo len : Nat} (h : ∀ i < len, bitOf a (lo + i) = bitOf b (lo + i)) :
    bitsOf a lo len = bitsOf b lo len := by
  refine congrArg BitVec.toNat (BitVec.eq_of_getLsbD_eq fun i hi => ?_)
  simpa [BitVec.getLsbD_extractLsb', hi, bitOf] using h i hi

/-- A field that the mask covers takes the new bits. -/
theorem bitsOf_mergeMask {n : Nat} (old w : BitVec n) {m : BitVec n} {lo len : Nat} (h : ∀ i < len, bitOf m (lo + i) = true) :
    bitsOf (mergeMask old w m) lo len = bitsOf w lo len :=
  bitsOf_congr fun i hi => by rw [bitOf_mergeMask, h i hi, if_pos rfl]

theorem mergeMask_ones (old w : Word) : mergeMask old w 0xFFFFFFFF = w := by
  refine BitVec.eq_of_getLsbD_eq fun i hi => ?_
  have hm : bitOf (0xFFFFFFFF : Word) i = true := (by decide : ∀ i < 32, bitOf (0xFFFFFFFF : Word) i = true) i hi
  have h := bitOf_mergeMask old w 0xFFFFFFFF i
  rwa [hm, if_pos rfl] at h

/-- Two half-words packed into a word. -/
theorem fields_halves_toNat (a b : Nat) : (fields [(0, 16, a), (16, 16, b)]).toNat = b % 65536 * 65536 + a % 65536 := by
  have ha : a % 65536 < 2 ^ 16 := Nat.mod_lt _ (by decide)
  have hb : b % 65536 < 2 ^ 16 := Nat.mod_lt _ (by decide)
  have hor := Nat.shiftLeft_add_eq_or_of_lt ha (b % 65536)
  rw [Nat.shiftLeft_eq, Nat.or_comm] at hor
  have hl : a % 65536 * 2 ^ 0 % 2 ^ 32 = a % 65536 := by omega
  have hh : b % 65536 * 2 ^ 16 % 2 ^ 32 = b % 65536 * 2 ^ 16 := by omega
  change a % 65536 * 2 ^ 0 % 2 ^ 32 ||| (b % 65536 * 2 ^ 16 % 2 ^ 32 ||| 0) = _
  rw [hl, hh, Nat.or_zero, ← hor]

theorem bitsOf_fields_low (a b : Nat) : bitsOf (fields [(0, 16, a), (16, 16, b)]) 0 16 = a % 65536 := by
  rw [bitsOf, BitVec.extractLsb'_toNat, fields_halves_toNat, Nat.shiftRight_zero]
  omega

theorem bitsOf_fields_high (a b : Nat) : bitsOf (fields [(0, 16, a), (16, 16, b)]) 16 16 = b % 65536 := by
  rw [bitsOf, BitVec.extractLsb'_toNat, fields_halves_toNat, Nat.shiftRight_eq_div_pow]
  omega

/-! ### What a read does -/

theorem regRead_of_on {s : State} {off : Nat} (h : regOn s off = true) (c : Nat) :
    regRead s off c = (takeFree (readEffect (clockSeen s off c) off), viewReg (clockSeen s off c) off) := by
  simp [regRead, h]

/-- Registers, fetched descriptors and the three memories are as before. -/
def SameStore (s t : State) : Prop :=
  t.regs = s.regs ∧ t.qe.inflight = s.qe.inflight ∧ t.hostMem = s.hostMem ∧ t.mpSram = s.mpSram ∧ t.flash = s.flash

theorem SameStore.refl (s : State) : SameStore s s := ⟨rfl, rfl, rfl, rfl, rfl⟩

theorem setPort_sameStore (s : State) (p : Nat) (x : Port) : SameStore s (setPort s p x) := ⟨rfl, rfl, rfl, rfl, rfl⟩

theorem setRail_sameStore (s : State) (n : Nat) (r : Rail) : SameStore s (setRail s n r) := ⟨rfl, rfl, rfl, rfl, rfl⟩

/-- What a read clears and captures are counts and holding registers only. -/
theorem readEffect_sameStore (s : State) (off : Nat) : SameStore s (readEffect s off) := by
  fun_cases readEffect s off
  case case25 => simp only [*]; exact ⟨rfl, rfl, rfl, rfl, rfl⟩
  case case26 => simp only [*]; exact .refl s
  case case27 => simp only [*]; exact setPort_sameStore ..
  case case28 => simp only [*]; exact setPort_sameStore ..
  case case29 => simp only [*]; exact .refl s
  case case30 => simp only [*]; exact setRail_sameStore ..
  case case31 => simp only [*]; exact .refl s
  all_goals exact ⟨rfl, rfl, rfl, rfl, rfl⟩

theorem SameBytes.of_mem {s t : State} (hh : t.hostMem = s.hostMem) (hm : t.mpSram = s.mpSram) (hf : t.flash = s.flash) : SameBytes s t :=
  fun a => ⟨by rw [hostByte, hh, hostByte], by rw [sramByte, hm, sramByte], by rw [flashByteAt, hf, flashByteAt]⟩

/-- The counters behind a read stand still but for SEQ_CLOCK and the Goose registers. -/
theorem clockSeen_other {s : State} {off : Nat} (h5 : off ≠ 0x5010) (h7 : off < 0x7100 ∨ 0x7180 ≤ off) (c : Nat) : clockSeen s off c = s := by
  have hg : (decide (0x7100 ≤ off) && decide (off < 0x7180)) = false := by simp; omega
  simp [clockSeen, h5, hg]

theorem OnlyEvents.inflight {s t : State} (h : OnlyEvents s t) : t.qe.inflight = s.qe.inflight := by
  unfold OnlyEvents at h
  rw [h]

theorem OnlyEvents.goose0 {s t : State} (h : OnlyEvents s t) : t.goose0 = s.goose0 := by
  unfold OnlyEvents at h
  rw [h]

/-- Registers and fetched descriptors are as before. -/
def KeepsRegs (s t : State) : Prop := t.regs = s.regs ∧ t.qe.inflight = s.qe.inflight

theorem KeepsRegs.trans {s t u : State} (h : KeepsRegs s t) (h' : KeepsRegs t u) : KeepsRegs s u := ⟨h'.1.trans h.1, h'.2.trans h.2⟩

/-- The period of a Goose timer going on raises at most EV48: registers and descriptors stay. -/
theorem gooseTo_keeps (s : State) (i t : Nat) : KeepsRegs s (gooseTo s i t) := by
  unfold gooseTo
  split
  · have h := raise_onlyEvents { s with goose0 := { s.goose0 with warned := true, t := if s.goose0.t < warnAt s.goose0 then warnAt s.goose0 else s.goose0.t } } 48
      (pack 64 [(0, 16, s.goose0.checked.toNat), (16, 16, s.goose0.mask.toNat), (32, 16, s.goose0.period)])
    exact ⟨h.frame.1, h.inflight⟩
  · exact ⟨rfl, rfl⟩

theorem setGoose_keeps (s : State) (i : Nat) (g : Goose) : KeepsRegs s (setGoose s i g) := by
  unfold setGoose
  split <;> exact ⟨rfl, rfl⟩

theorem clockSeen_keeps (s : State) (off c : Nat) : KeepsRegs s (clockSeen s off c) := by
  fun_cases clockSeen s off c
  case case3 i _ q => exact (gooseTo_keeps s i c).trans (setGoose_keeps ..)
  all_goals exact ⟨rfl, rfl⟩

/-- Away from the Goose registers a read changes no memory. -/
theorem clockSeen_mem {s : State} {off : Nat} (h7 : off < 0x7100 ∨ 0x7180 ≤ off) (c : Nat) : SameStore s (clockSeen s off c) := by
  by_cases h5 : off = 0x5010
  · subst h5
    unfold clockSeen
    rw [if_pos rfl]
    split <;> exact ⟨rfl, rfl, rfl, rfl, rfl⟩
  · rw [clockSeen_other h5 h7]
    exact ⟨rfl, rfl, rfl, rfl, rfl⟩

/-- SEQ_CLOCK read at `c` µs (Table 8-7). -/
theorem viewReg_seqClock {s : State} {c : Nat} (hs : s.seq.started = true) (hc : s.seq.us ≤ c) :
    viewReg (clockSeen s 0x5010 c) 0x5010 = BitVec.ofNat 32 (min (c / 100) 0xFFFFFFFF) := by
  have hus : (if s.seq.us < c then c else s.seq.us) = c := by split <;> omega
  have hk : clampN 0 0xFFFFFFFF (c / 100) = min (c / 100) 0xFFFFFFFF := by unfold clampN; split <;> (try split) <;> omega
  have hq : clockSeen s 0x5010 c = seqAt s c := by simp [clockSeen, hs]
  rw [hq]
  change (if s.seq.started then clockOf (if s.seq.us < c then c else s.seq.us) else 0) = _
  rw [if_pos hs, hus, clockOf, hk]

/-- EV48 notes the warning and nothing else of its timer. -/
theorem gooseTo_goose0 (s : State) (t : Nat) :
    (gooseTo s 0 t).goose0.started = s.goose0.started ∧ (gooseTo s 0 t).goose0.hold = s.goose0.hold := by
  unfold gooseTo
  split
  · unfold gooseWarn
    have h := fun q d => OnlyEvents.goose0 (raise_onlyEvents q 48 d)
    constructor <;> rw [h]
  · exact ⟨rfl, rfl⟩

/-- ELAPSED of the running Goose 0 period at its cycle `c`: whole milliseconds (Table 11-6). -/
theorem viewReg_goose0_elapsed {s : State} {c : Nat} (hg : gooseCounts s 0 = true) (ht : s.goose0.t ≤ c) (he : c < expiryAt s.goose0) :
    bitsOf (viewReg (clockSeen s 0x7110 c) 0x7110) 0 16 = min (c / 4000) 0xFFFF := by
  have hcond : (gooseCounts s 0 && decide ((goose s 0).t ≤ c) && decide (c < expiryAt (goose s 0))) = true := by simp [hg, goose, ht, he]
  have hq : clockSeen s 0x7110 c = setGoose (gooseTo s 0 c) 0 { goose (gooseTo s 0 c) 0 with t := c } := if_pos hcond
  obtain ⟨hst, hho⟩ := gooseTo_goose0 s c
  simp only [gooseCounts, goose, if_true, Bool.and_eq_true, Bool.not_eq_true'] at hg
  obtain ⟨⟨⟨hs, hh⟩, -⟩, -⟩ := hg
  have hsat : sat16 (c / 4000) = min (c / 4000) 0xFFFF := by unfold sat16; split <;> omega
  rw [hq]
  change bitsOf (fields [(0, 16, if (gooseTo s 0 c).goose0.started && !(gooseTo s 0 c).goose0.hold then sat16 (c / 4000) else 0),
    (16, 16, (gooseTo s 0 c).goose0.nextPeriod)]) 0 16 = _
  rw [bitsOf_fields_low, hst, hho, hs, hh, if_pos (by rfl), hsat]
  omega

/-! ### Accesses to BAR0 and BAR2 -/

/-- A read that its path allows, of a register that answers. -/
theorem exec_rcFieldRead_on {s : State} {via : Via} {off : BitVec 16} (hv : viaReach s via = true) (ha : off.toNat % 4 = 0)
    (hm : mayRead via off.toNat = true) (ho : regOn s off.toNat = true) (c : Nat) :
    exec (.rcFieldRead via false off true c) s = .next
      { takeFree (readEffect (clockSeen s off.toNat c) off.toNat) with readData := viewReg (clockSeen s off.toNat c) off.toNat } := by
  rw [exec_rcFieldRead_aligned hv ha, if_pos hm, regRead_of_on ho]

theorem exec_broken {s : State} {b2 whole : Bool} {off : BitVec 16} (hr : hostReach s = true) (hb : whole = false ∨ off.toNat % 4 ≠ 0)
    (w : Word) (c : Nat) :
    exec (.registerWrite .host b2 off whole w) s = .next (accessError s) ∧
      exec (.rcFieldRead .host b2 off whole c) s = .next { accessError s with readData := 0 } := by
  have hbr : brokenAccess .host off.toNat whole = true := by rcases hb with h | h <;> simp [brokenAccess, h]
  have hv : viaReach s .host = true := hr
  constructor
  · change execRegisterWrite .host b2 off whole w s = _
    simp [execRegisterWrite, hv, hbr]
  · change execRcFieldRead .host b2 off whole c s = _
    simp [execRcFieldRead, hv, hbr]

theorem mayRead_of_path {via : Via} {off : Nat} (h : via = .sideband → sbWindow off % 2 = 1) : mayRead via off = true := by
  by_cases hs : via = .sideband <;> simp_all [mayRead]

theorem mayRead_of_ne {via : Via} (h : via ≠ .sideband) (off : Nat) : mayRead via off = true := mayRead_of_path fun hs => absurd hs h

theorem mayWrite_of_ne {s : State} {via : Via} (h : via ≠ .sideband) (off : Nat) : mayWrite s via off = true := by simp [mayWrite, h]

/-- What a read of an answering register returns and leaves (R13, R645). -/
theorem rcFieldRead_answers {s : State} {via : Via} {off : BitVec 16} (c : Nat) (hv : viaReach s via = true) (ha : off.toNat % 4 = 0)
    (ho : regOn s off.toNat = true) (hs : via = .sideband → sbWindow off.toNat % 2 = 1) : Answers (.rcFieldRead via false off true c) s fun t =>
      t.readData = viewReg (clockSeen s off.toNat c) off.toNat ∧ t.regs = s.regs ∧ t.qe.inflight = s.qe.inflight ∧
      ((off.toNat < 0x7100 ∨ 0x7180 ≤ off.toNat) → SameBytes s t ∧ (off.toNat ≠ 0x5010 → t.readData = viewReg s off.toNat)) ∧
      (off = 0x5010 → s.seq.started = true → s.seq.us ≤ c → t.readData = BitVec.ofNat 32 (min (c / 100) 0xFFFFFFFF)) ∧
      (off = 0x7110 → gooseCounts s 0 = true → s.goose0.t ≤ c → c < expiryAt s.goose0 → bitsOf t.readData 0 16 = min (c / 4000) 0xFFFF) := by
  refine ⟨_, exec_rcFieldRead_on hv ha (mayRead_of_path hs) ho c, rfl, ?_, ?_, fun h7 => ⟨?_, fun h5 => ?_⟩, fun h hst hus => ?_, fun h hg ht he => ?_⟩
  · exact (readEffect_sameStore ..).1.trans (clockSeen_keeps ..).1
  · exact (readEffect_sameStore ..).2.1.trans (clockSeen_keeps ..).2
  · obtain ⟨-, -, hh, hm, hf⟩ := readEffect_sameStore (clockSeen s off.toNat c) off.toNat
    obtain ⟨-, -, hh', hm', hf'⟩ := clockSeen_mem (s := s) h7 c
    exact .of_mem (hh.trans hh') (hm.trans hm') (hf.trans hf')
  · change viewReg (clockSeen s off.toNat c) off.toNat = _
    rw [clockSeen_other h5 h7]
  · subst h
    exact viewReg_seqClock hst hus
  · subst h
    exact viewReg_goose0_elapsed hg ht he

/-- The counts of switch-overs and returns are read and cleared (Table 9-12). -/
theorem read_switchovers {s : State} (c : Nat) (hr : hostReach s = true) : Answers (.rcFieldRead .host false 0xE004 true c) s fun t =>
    t.pwr.returns = 0 ∧ t.pwr.switchovers = 0 ∧ bitsOf t.readData 0 16 = s.pwr.switchovers.toNat ∧ bitsOf t.readData 16 16 = s.pwr.returns.toNat := by
  refine ⟨_, exec_rcFieldRead_on (via := .host) hr rfl rfl rfl c, rfl, rfl, ?_, ?_⟩
  · change bitsOf (fields [(0, 16, s.pwr.switchovers.toNat), (16, 16, s.pwr.returns.toNat)]) 0 16 = _
    rw [bitsOf_fields_low]
    exact Nat.mod_eq_of_lt s.pwr.switchovers.isLt
  · change bitsOf (fields [(0, 16, s.pwr.switchovers.toNat), (16, 16, s.pwr.returns.toNat)]) 16 16 = _
    rw [bitsOf_fields_high]
    exact Nat.mod_eq_of_lt s.pwr.returns.isLt

/-- A write that its path allows, of a register that answers on a clock that runs and that PERST_N does not hold. -/
theorem exec_registerWrite_on {s : State} {via : Via} {off : BitVec 16} (hv : viaReach s via = true) (ha : off.toNat % 4 = 0)
    (hd : off.toNat < 0xF004) (hm : mayWrite s via off.toNat = true) (ho : regOn s off.toNat = true) (hr : rootReg off.toNat = false)
    (hp : perstHeld s off.toNat = false) (w : Word) :
    exec (.registerWrite via false off true w) s = .next (writeReg s via off.toNat w) := by
  have hdo : debugOpenAt s off.toNat = false := by simp [debugOpenAt, Nat.not_le.mpr hd]
  rw [exec_registerWrite_aligned hv ha hdo, if_pos hm]
  simp [regWrite, ho, hr, hp]

/-- Only the host's ones clear causes (R60). -/
theorem writeReg_rstCause (s : State) (via : Via) (w : Word) : writeReg s via 0x0C w =
    if via = .host then { s with glb := { s.glb with rstCause := s.glb.rstCause &&& ~~~ (w.setWidth 10) } } else s := rfl

theorem regDef_reserved {off : Nat} (hl : 0x20 ≤ off) (hh : off < 0x1000) : regDef off = none := by
  unfold regDef
  repeat rw [if_neg (by omega)]
  unfold singleDef
  split
  all_goals try omega
  rfl

/-- A reserved offset of the identity block ignores a write (R645). -/
theorem writeReg_reserved (s : State) (via : Via) {off : Nat} (w : Word) (hl : 0x20 ≤ off) (hh : off < 0x1000) : writeReg s via off w = s := by
  have hput : putLive s off w = s := by simp [putLive, putFields, regDef_reserved hl hh]
  unfold writeReg writeGlb
  rw [if_pos hh]
  split
  case h_4 => exact hput
  all_goals omega

theorem regDomain_low {off : Nat} (hh : off < 0x1000) : regDomain off = none := by
  unfold regDomain
  repeat rw [if_neg (by omega)]

theorem perstHeld_outside (s : State) {off : Nat} (h1 : off < 0x1000 ∨ 0x2000 ≤ off) (h2 : off < 0xC000 ∨ 0xE000 ≤ off) :
    perstHeld s off = false := by
  have ha : (decide (0x1000 ≤ off) && decide (off < 0x2000)) = false := by simp; omega
  have hb : (decide (0xC000 ≤ off) && decide (off < 0xE000)) = false := by simp; omega
  simp only [perstHeld, ha, hb, Bool.or_self, Bool.and_false]

theorem rootReg_low {off : Nat} (hh : off < 0x1000) : rootReg off = false := by simp [rootReg, regDomain_low hh]

theorem regOn_low (s : State) {off : Nat} (hh : off < 0x1000) : regOn s off = true := by simp [regOn, regDomain_low hh]

theorem doorbellWindow_sq (n : Fin 4) : doorbellWindow (BitVec.ofNat 16 (8 * n.val)).toNat = some n.val := by
  revert n; decide

/-- A whole BAR2 write is a doorbell (R75). -/
theorem exec_bar2Write {s : State} (hr : hostReach s = true) (n : Fin 4) (w : Word) :
    exec (.registerWrite .host true (BitVec.ofNat 16 (8 * n.val)) true w) s = exec (.sqTailDoorbell n w []) s := by
  have ha : (BitVec.ofNat 16 (8 * n.val)).toNat % 4 = 0 := (by decide : ∀ k : Fin 4, (BitVec.ofNat 16 (8 * k.val)).toNat % 4 = 0) n
  have hv : viaReach s .host = true := hr
  change execRegisterWrite .host true (BitVec.ofNat 16 (8 * n.val)) true w s = .next (sqDoorbell s n.val w)
  simp only [execRegisterWrite, hv, brokenAccess, ha, bar2Write, doorbellWindow_sq]
  simp

theorem exec_bar2Read {s : State} (hr : hostReach s = true) (n : Fin 4) (c : Nat) :
    exec (.rcFieldRead .host true (BitVec.ofNat 16 (8 * n.val)) true c) s =
      .next { s with readData := bar2Read s (BitVec.ofNat 16 (8 * n.val)).toNat } := by
  have ha : (BitVec.ofNat 16 (8 * n.val)).toNat % 4 = 0 := (by decide : ∀ k : Fin 4, (BitVec.ofNat 16 (8 * k.val)).toNat % 4 = 0) n
  have hv : viaReach s .host = true := hr
  change execRcFieldRead .host true (BitVec.ofNat 16 (8 * n.val)) true c s = _
  simp only [execRcFieldRead, hv, brokenAccess, ha]
  simp

theorem bar2Read_sq {s : State} (hd : domOn s 4 = true) (n : Fin 4) :
    bar2Read s (BitVec.ofNat 16 (8 * n.val)).toNat = (win s n.val).tail.setWidth 32 := by
  have hn : ¬ (4 ≤ n.val ∧ n.val < 9) := by omega
  simp only [bar2Read, hd, doorbellWindow_sq, Bool.not_true, Bool.false_eq_true, if_false, if_neg hn]

/-- A write at a debug register: a stop where debug access is open, else nothing (R646). -/
theorem exec_registerWrite_debug {s : State} {via : Via} {off : BitVec 16} (hv : viaReach s via = true) (ha : off.toNat % 4 = 0)
    (hl : 0xF004 ≤ off.toNat) (hs : via ≠ .sideband) (w : Word) :
    exec (.registerWrite via false off true w) s = if s.otp.debugOpen then .fault .debugRegister else .next s := by
  have hm : mayWrite s via off.toNat = true := mayWrite_of_ne hs _
  by_cases ho : s.otp.debugOpen = true
  · change execRegisterWrite via false off true w s = _
    simp [execRegisterWrite, hv, ha, brokenAccess, hm, debugOpenAt, hl, hs, ho]
  · have hw : writeReg s via off.toNat w = s := by
      unfold writeReg
      repeat rw [if_neg (by omega)]
    rw [exec_registerWrite_aligned hv ha (by simp [debugOpenAt, ho]), if_neg ho, if_pos hm, regWrite, hw, ite_self]

/-- Settles O22: broken accesses by `exec_broken`, reads by `rcFieldRead_answers`, writes by what `writeReg` does at the offset, and BAR2 by
the doorbells. -/
theorem registerAccess : Obligations.RegisterAccess := by
  refine ⟨fun s b2 whole off w c hr hb => exec_broken hr hb w c, fun s via off c hv ha ho hs => rcFieldRead_answers c hv ha ho hs,
    fun s c hr => read_switchovers c hr, fun s via w hs hv => ?_, fun s via off w c hs hv hl hh ha => ⟨?_, ?_⟩, fun s via w hv => ?_,
    fun s n w c hr => ⟨?_, fun hd => ?_⟩, fun s via off w hs hv hl ha => ?_⟩
  · refine ⟨_, exec_registerWrite_on hv rfl (by decide) (mayWrite_of_ne hs _) rfl rfl (perstHeld_outside s (by decide) (by decide)) w, ?_⟩
    change (rd (wr s 0x1C w 0xFFFFFFFF) 0x1C = w) ∧ _
    refine ⟨by rw [rd_wr_self, mergeMask_ones], fun off h => rd_wr_other s _ _ h, .of_mem rfl rfl rfl, rfl, rfl, rfl⟩
  · rw [exec_registerWrite_on hv ha (by omega) (mayWrite_of_ne hs _) (regOn_low s hh) (rootReg_low hh)
      (perstHeld_outside s (.inl hh) (by omega)), writeReg_reserved s via w hl hh]
  · refine ⟨_, exec_rcFieldRead_on hv ha (mayRead_of_ne hs _) (regOn_low s hh) c, ?_⟩
    change viewReg _ off.toNat = 0
    rw [viewReg, if_pos hh, if_neg (by omega)]
  · by_cases hs : via = .sideband
    · subst hs
      refine ⟨s, ?_, by simp, .of_mem rfl rfl rfl, rfl⟩
      rw [exec_registerWrite_aligned hv rfl (by simp [debugOpenAt])]
      simp [mayWrite, sbWindow]
    · refine ⟨_, exec_registerWrite_on hv rfl (by decide) (mayWrite_of_ne hs _) rfl rfl (perstHeld_outside s (by decide) (by decide)) w, ?_⟩
      change (writeReg s via 0x0C w).glb.rstCause = _ ∧ SameBytes s (writeReg s via 0x0C w) ∧ (writeReg s via 0x0C w).regs = s.regs
      rw [writeReg_rstCause]
      split
      · exact ⟨rfl, .of_mem rfl rfl rfl, rfl⟩
      · exact ⟨rfl, .of_mem rfl rfl rfl, rfl⟩
  · exact exec_bar2Write hr n w
  · exact ⟨_, exec_bar2Read hr n c, by rw [bar2Read_sq hd]⟩
  · exact exec_registerWrite_debug hv ha hl hs w

end Sys2Proof.Machine
end

section
/-! PROOFS. The change classes of the link block, and the writes that wait for a cycle boundary (R16–R21, R165, R206, R313, R475). -/

namespace Sys2Proof.Machine

/-! ### The registers of the link block by change class -/

/-- What a register access by PCIe or from the MP reaches at an offset that is always on. -/
theorem exec_registerWrite_link {s : State} {via : Via} {off : BitVec 16} (hs : via ≠ .sideband) (hv : viaReach s via = true)
    (ha : off.toNat % 4 = 0) (hl : 0x3000 ≤ off.toNat) (hh : off.toNat < 0x3100) (w : Word) :
    exec (.registerWrite via false off true w) s = .next (writeReg s via off.toNat w) := by
  have hd : regDomain off.toNat = none := by
    unfold regDomain
    repeat rw [if_neg (by omega)]
  exact exec_registerWrite_on hv ha (by omega) (mayWrite_of_ne hs _) (by simp [regOn, hd]) (by simp [rootReg, hd])
    (perstHeld_outside s (by omega) (by omega)) w

/-- LP_PORT_EN is IDLE (R20). -/
theorem writeReg_lpPortEn (s : State) (via : Via) (w : Word) : writeReg s via 0x300C w =
    if !s.lp.running && !flag s 0x3000 0 then wr s 0x300C w 0xFFFF else { s with lp := { s.lp with cfgReject := true } } := rfl

/-! ### Captured shadows (R18) -/

theorem Sparse.get?_append {β : Type} (t u : Sparse β) (a : Nat) : Sparse.get? (t ++ u) a = (Sparse.get? t a).or (Sparse.get? u a) := by
  induction t with
  | nil => rfl
  | cons e t ih =>
    by_cases hk : e.1 = a
    · simp [Sparse.get?, hk]
    · simp [Sparse.get?, hk, ih]

/-- The entries whose keys pass a test. -/
theorem Sparse.get?_filter {β : Type} (t : Sparse β) (p : Nat → Bool) (a : Nat) :
    Sparse.get? (t.filter fun e => p e.1) a = if p a then Sparse.get? t a else none := by
  induction t with
  | nil => simp [Sparse.get?]
  | cons e t ih =>
    by_cases hk : e.1 = a
    · subst hk
      by_cases hp : p e.1 = true <;> simp [Sparse.get?, hp, ih]
    · by_cases hp : p e.1 = true
      · simp [Sparse.get?, hp, hk, ih]
      · simp [Sparse.get?, hp, hk, ih]

/-- COMMIT captures the shadows that it selects, and none where there is none. -/
theorem RegFile.get?_capture (r : RegFile) {p : Nat → Bool} {off : Nat} (hp : p off = true) :
    Sparse.get? (r.capture p).captured off = Sparse.get? r.shadow off := by
  have hold : Sparse.get? (r.captured.filter fun e => !p e.1) off = none := by
    rw [Sparse.get?_filter r.captured (fun a => !p a), hp]; rfl
  rw [RegFile.capture, Sparse.get?_append, hold, Sparse.get?_filter, hp, if_pos rfl, Option.none_or]

/-! ### LP_CTRL (R18, R165, R206) -/

/-- A LIVE write that waits for its block's cycle boundary. -/
def lateWrite (s : State) (off : Nat) (w : Word) : State := { s with regs := { s.regs with late := s.regs.late ++ [(off, w)] } }

/-- A row that only adds its word to the waiting writes. -/
theorem lateWrite_answers {i : Instr} {s : State} {off : Nat} {w : Word} (h : exec i s = .next (lateWrite s off w)) :
    Answers i s fun t => t.regs.late = s.regs.late ++ [(off, w)] ∧ t.regs.inForce = s.regs.inForce ∧ SameBytes s t ∧ t.chg = s.chg :=
  ⟨_, h, rfl, rfl, .of_mem rfl rfl rfl, rfl⟩

theorem rowReach_of {s : State} {via : Via} (hs : via ≠ .sideband) (hv : viaReach s via = true) : rowReach s via = true := by
  simp [rowReach, hs, hv]

theorem linkLive_running {s : State} (hr : s.lp.running = true) (off : Nat) (w : Word) : linkLive s off w = lateWrite s off w := by
  simp [linkLive, hr, lateWrite]

theorem linkLive_ctrl_stopped {s : State} (hr : s.lp.running = false) (w : Word) : linkLive s 0x3000 w = wr s 0x3000 w 1 := by
  simp only [linkLive, hr, Bool.false_eq_true, if_false]
  rfl

/-- COMMIT captures the shadows of the link block, once. -/
def lpCommitted (s : State) (w : Word) : State :=
  if bitOf w 1 && !s.lp.commit then { s with regs := s.regs.capture linkReg, lp := { s.lp with commit := true } } else s

theorem lpCommitted_running (s : State) (w : Word) : (lpCommitted s w).lp.running = s.lp.running := by
  unfold lpCommitted
  split <;> rfl

theorem lpCommitted_of_run {w : Word} (h : bitOf w 1 = false) (s : State) : lpCommitted s w = s := by simp [lpCommitted, h]

theorem lpCommitted_of_pending {s : State} (h : s.lp.commit = true) (w : Word) : lpCommitted s w = s := by simp [lpCommitted, h]

theorem lpCommitted_of_commit {s : State} {w : Word} (h : bitOf w 1 = true) (hc : s.lp.commit = false) :
    lpCommitted s w = { s with regs := s.regs.capture linkReg, lp := { s.lp with commit := true } } := by simp [lpCommitted, h, hc]

/-- A write of LP_CTRL while cycles run. -/
theorem lpCtrlWrite_running {s : State} (hr : s.lp.running = true) (w : Word) :
    lpCtrlWrite s w = lateWrite (lpCommitted s w) 0x3000 w := by
  change linkLive (if s.lp.running then lpCommitted s w else linkBoundary (lpCommitted s w)) 0x3000 w = _
  rw [if_pos hr, linkLive_running ((lpCommitted_running s w).trans hr)]

/-- A write of LP_CTRL while no cycle runs: what waits takes effect first. -/
theorem lpCtrlWrite_stopped {s : State} (hr : s.lp.running = false) (w : Word) :
    lpCtrlWrite s w = wr (linkBoundary (lpCommitted s w)) 0x3000 w 1 := by
  change linkLive (if s.lp.running then lpCommitted s w else linkBoundary (lpCommitted s w)) 0x3000 w = _
  rw [if_neg (by simp [hr]), linkLive_ctrl_stopped (s := linkBoundary (lpCommitted s w)) ((lpCommitted_running s w).trans hr)]

/-- With nothing waiting a cycle boundary changes no register. -/
theorem RegFile.boundary_idle {r : RegFile} (hl : r.late = []) (hc : r.captured = []) (o : Otp) (p : Nat → Bool) :
    (r.applyLate o p).applyCaptured o p = r := by
  obtain ⟨inForce, late, shadow, captured⟩ := r
  subst hl hc
  rfl

/-- A cycle boundary right after COMMIT puts the only shadow into force. -/
theorem RegFile.boundary_captured {r : RegFile} {k : Nat} {v : Word} {p : Nat → Bool} (hl : r.late = []) (hc : r.captured = [])
    (hs : r.shadow = [(k, v)]) (hp : p k = true) (o : Otp) : ((r.capture p).applyLate o p).applyCaptured o p =
      r.put o k v (match regDef k with | some d => d.staged | none => 0) := by
  obtain ⟨inForce, late, shadow, captured⟩ := r
  subst hl hc hs
  simp [RegFile.capture, RegFile.applyLate, RegFile.applyCaptured, RegFile.put, RegFile.get, forEach, hp] <;> rfl

/-- A bit that the mask lets through. -/
theorem flag_wr_self (s : State) {off i : Nat} (w : Word) {m : Word} (h : bitOf m i = true) : flag (wr s off w m) off i = bitOf w i := by
  rw [flag, rd_wr_self, bitOf_mergeMask, if_pos h]

theorem exec_oxCommit {s : State} {via : Via} (hs : via ≠ .sideband) (hv : viaReach s via = true) (hd : domOn s 4 = true)
    (hr : rootAlive s = true) (w : Word) : exec (.oxCommit via w) s = .next (oxCtrlWrite s w) := by
  change Host.Outcome.next (if rowReach s via && domOn s 4 && rootAlive s then _ else _) = _
  rw [if_pos (by simp [rowReach_of hs hv, hd, hr])]

theorem exec_lpCommit {s : State} {via : Via} (hs : via ≠ .sideband) (hv : viaReach s via = true) (w : Word) :
    exec (.lpCommit via w) s = .next (lpCtrlWrite s w) := by
  change Host.Outcome.next (if rowReach s via then _ else _) = _
  rw [if_pos (rowReach_of hs hv)]

theorem exec_lpRun {s : State} {via : Via} (hs : via ≠ .sideband) (hv : viaReach s via = true) (w : Word) :
    exec (.lpRun via w) s = .next (lpCtrlWrite s w) := exec_lpCommit hs hv w

theorem exec_lpPiCfgWrite {s : State} {via : Via} (hs : via ≠ .sideband) (hv : viaReach s via = true) (hr : s.lp.running = true) (w : Word) :
    exec (.lpPiCfgWrite via w) s = .next (lateWrite s 0x301C w) := by
  change Host.Outcome.next (if rowReach s via then _ else _) = _
  rw [if_pos (rowReach_of hs hv), linkLive_running hr]

/-- The three rows that write CHG_CTRL (R468, R475, R483). -/
theorem exec_chgCtrl {s : State} {via : Via} (hs : via ≠ .sideband) (hv : viaReach s via = true) (hd : domOn s 11 = true)
    (hr : rootAlive s = true) (w : Word) : exec (.sweepNow via w) s = .next (lateWrite s 0x6000 w) ∧
      exec (.authNow via w) s = .next (lateWrite s 0x6000 w) ∧ exec (.chgHold via w) s = .next (lateWrite s 0x6000 w) := by
  have hl : chgLive s 0x6000 w = lateWrite s 0x6000 w := by simp [chgLive, hd, hr, lateWrite]
  have hx : (if rowReach s via then chgLive s 0x6000 w else s) = lateWrite s 0x6000 w := by rw [if_pos (rowReach_of hs hv), hl]
  exact ⟨congrArg Host.Outcome.next hx, congrArg Host.Outcome.next hx, congrArg Host.Outcome.next hx⟩

/-- Settles O23: each row is its write (`writeReg_lpPortEn`, `lpCtrlWrite_running`, `lateWrite_answers`), and a register's own equation says what
that write does. -/
theorem changeClasses : Obligations.ChangeClasses := by
  refine ⟨fun s via w hs hv => ⟨fun hrun => ?_, fun hr hf => ?_, ?_⟩, fun s via w hs hv => ?_, fun s via w hs hv hw hr => ?_,
    fun s via w hs hv hr hw => ?_, fun s via w hs hv hr hw hl hc => ?_, fun s via w v hs hv hr hw hcm hl hc hsh => ?_,
    fun s via w hs hv hr => lateWrite_answers (exec_lpPiCfgWrite hs hv hr w), fun s via w hs hv hd hro hw hcm => ?_, fun s via w hs hv hd hro => ?_⟩
  · refine ⟨_, exec_registerWrite_link hs hv rfl (by decide) (by decide) w, ?_⟩
    have hb : (!s.lp.running && !flag s 0x3000 0) = false := by rcases hrun with h | h <;> simp [h]
    have hw : writeReg s via (0x300C : BitVec 16).toNat w = _ := writeReg_lpPortEn s via w
    rw [hw, hb]
    exact ⟨rfl, rfl, .of_mem rfl rfl rfl⟩
  · refine ⟨_, exec_registerWrite_link hs hv rfl (by decide) (by decide) w, ?_⟩
    have hw : writeReg s via (0x300C : BitVec 16).toNat w = wr s 0x300C w 0xFFFF := (writeReg_lpPortEn s via w).trans (by simp [hr, hf])
    rw [hw]
    refine ⟨?_, rfl, .of_mem rfl rfl rfl⟩
    rw [rd_wr_self]
    exact bitsOf_mergeMask _ _ (by decide)
  · exact ⟨_, exec_registerWrite_link hs hv rfl (by decide) (by decide) w, rfl⟩
  · refine ⟨_, exec_registerWrite_link hs hv rfl (by decide) (by decide) w, fun off => rfl, ?_, .of_mem rfl rfl rfl⟩
    change bitsOf (Sparse.getD (Sparse.set s.regs.shadow 0x3004 _) 0x3004 0) 0 7 = _
    rw [Sparse.getD_set_self]
    exact bitsOf_mergeMask _ _ (by decide)
  · refine ⟨_, exec_lpCommit hs hv w, ?_⟩
    rw [lpCtrlWrite_running hr]
    by_cases hc : s.lp.commit = true
    · rw [lpCommitted_of_pending hc]
      exact ⟨hc, rfl, rfl, rfl, .of_mem rfl rfl rfl, fun h => absurd (hc.symm.trans h) (by decide), fun _ => rfl⟩
    · rw [Bool.not_eq_true] at hc
      rw [lpCommitted_of_commit hw hc]
      exact ⟨rfl, rfl, rfl, rfl, .of_mem rfl rfl rfl, fun _ => RegFile.get?_capture s.regs rfl, fun h => absurd (hc.symm.trans h) (by decide)⟩
  · exact lateWrite_answers ((exec_lpRun hs hv w).trans (by rw [lpCtrlWrite_running hr, lpCommitted_of_run hw]))
  · refine ⟨_, exec_lpRun hs hv w, ?_⟩
    rw [lpCtrlWrite_stopped hr, lpCommitted_of_run hw, linkBoundary, RegFile.boundary_idle hl hc]
    exact ⟨flag_wr_self _ _ (by rfl), fun off h => rd_wr_other _ _ _ h, .of_mem rfl rfl rfl⟩
  · refine ⟨_, exec_lpCommit hs hv w, ?_⟩
    rw [lpCtrlWrite_stopped hr, lpCommitted_of_commit hw hcm, linkBoundary, RegFile.boundary_captured hl hc hsh rfl]
    refine ⟨rfl, ?_, flag_wr_self _ _ (by rfl), .of_mem rfl rfl rfl⟩
    rw [rd_wr_other _ _ _ (by decide)]
    change bitsOf (rd (wr s 0x3004 v 0x7F) 0x3004) 0 7 = _
    rw [rd_wr_self]
    exact bitsOf_mergeMask _ _ (by decide)
  · refine ⟨_, exec_oxCommit hs hv hd hro w, ?_⟩
    rw [oxCtrlWrite, hw, hcm]
    exact ⟨rfl, rfl, rfl, .of_mem rfl rfl rfl⟩
  · obtain ⟨hsweep, hauth, hhold⟩ := exec_chgCtrl hs hv hd hro w
    exact ⟨lateWrite_answers hsweep, lateWrite_answers hauth, lateWrite_answers hhold⟩

end Sys2Proof.Machine
end

section
/-! PROOFS. Rail control: which rail an operation can change, what a stop leaves of it, and the rail commands (R315, R332–R337, R345, R354). -/

namespace Sys2Proof.Machine

/-! ### Rails by number -/

theorem rail_setRail_self (s : State) {n : Nat} (hn : n < 8) (r : Rail) : rail (setRail s n r) n = r := by simp [rail_setRail, hn]

theorem rail_setRail_other (s : State) {n j : Nat} (r : Rail) (h : j ≠ n) : rail (setRail s n r) j = rail s j := by
  simp [rail_setRail, Ne.symm h]

theorem rail_congr {s t : State} (h : t.rc = s.rc) (j : Nat) : rail t j = rail s j := by rw [rail, rail, h]

theorem OnlyReply.rc {s t : State} (h : OnlyReply s t) : t.rc = s.rc := by
  obtain ⟨-, -, -, -, hrc, -⟩ := h.frame
  exact hrc

theorem OnlyReply.rail {s t : State} (h : OnlyReply s t) (j : Nat) : rail t j = rail s j := rail_congr h.rc j

/-- A fold of phase changes leaves every rail. -/
theorem rail_forEach_setPhs (l : List Nat) (f : Nat → State → Phase) (s : State) (j : Nat) :
    rail (forEach l (fun p q => setPhs q p (f p q)) s) j = rail s j :=
  forEach_same (fun q => rail q j) l s fun _ _ => rfl

/-! ### What a change of one rail leaves -/

/-- A register that neither rail `n` nor a phase owns. -/
def offRail (n off : Nat) : Prop := off < 0x4600 ∧ (off < railBase n ∨ railBase n + 0x80 ≤ off)

/-- At most rail `n`, its phases and their registers differ, of what rail control and the sequencer hold. -/
structure OnlyRail (n : Nat) (s t : State) : Prop where
  rail : ∀ j, j ≠ n → rail t j = rail s j
  seq : t.seq = s.seq
  otp : t.otp = s.otp
  fault : t.flt.faultState = s.flt.faultState
  rd : ∀ off, offRail n off → rd t off = rd s off

theorem OnlyRail.refl (n : Nat) (s : State) : OnlyRail n s s := ⟨fun _ _ => rfl, rfl, rfl, rfl, fun _ _ => rfl⟩

theorem OnlyRail.trans {n : Nat} {s t u : State} (h : OnlyRail n s t) (h' : OnlyRail n t u) : OnlyRail n s u :=
  ⟨fun j hj => (h'.rail j hj).trans (h.rail j hj), h'.seq.trans h.seq, h'.otp.trans h.otp, h'.fault.trans h.fault,
    fun off ho => (h'.rd off ho).trans (h.rd off ho)⟩

theorem OnlyReply.onlyRail {s t : State} (h : OnlyReply s t) (n : Nat) : OnlyRail n s t := by
  obtain ⟨hregs, hotp, -, hflt, -, hseq, -⟩ := h.frame
  exact ⟨fun j _ => h.rail j, hseq, hotp, congrArg _ hflt, fun off _ => rd_congr hregs hotp off⟩

theorem setRail_onlyRail (s : State) (n : Nat) (r : Rail) : OnlyRail n s (setRail s n r) :=
  ⟨fun _ hj => rail_setRail_other s r hj, rfl, rfl, rfl, fun _ _ => rfl⟩

theorem setPhs_onlyRail (s : State) (n p : Nat) (x : Phase) : OnlyRail n s (setPhs s p x) :=
  ⟨fun _ _ => rfl, rfl, rfl, rfl, fun _ _ => rfl⟩

theorem forEach_onlyRail {α : Type} {n : Nat} {f : α → State → State} (l : List α) (s : State) (h : ∀ a q, OnlyRail n q (f a q)) :
    OnlyRail n s (forEach l f s) :=
  forEach_induct (P := OnlyRail n s) (.refl n s) fun a _ q hq => hq.trans (h a q)

theorem drivePhases_onlyRail (s : State) (n : Nat) (v : Pwm) : OnlyRail n s (drivePhases s n v) :=
  forEach_onlyRail _ s fun p q => setPhs_onlyRail q n p _

theorem railQuiet_onlyRail (s : State) (n : Nat) : OnlyRail n s (railQuiet s n) :=
  (setRail_onlyRail s n _).trans (forEach_onlyRail _ _ fun p q => setPhs_onlyRail q n p _)

theorem losePg_onlyRail (s : State) (n : Nat) (m : Option RailMeas) : OnlyRail n s (losePg s n m) := by
  unfold losePg
  split
  · exact (setRail_onlyRail ..).trans ((railEvent_onlyEvents ..).reply.onlyRail n)
  · exact .refl n s

/-! ### The boundary of a rail (R18, R336, R357) -/

/-- Writes put into registers that a test selects leave the others. -/
theorem RegFile.forEach_put_get (l : List (Nat × Word)) (o : Otp) (m : Nat × Word → Word) (off : Nat) : ∀ r : RegFile, (∀ e ∈ l, e.1 ≠ off) →
    (forEach l (fun e q => RegFile.put q o e.1 e.2 (m e)) r).get o off = r.get o off := by
  induction l with
  | nil => intro r _; rfl
  | cons e l ih =>
    intro r h
    refine (ih _ fun a ha => h a (List.mem_cons_of_mem _ ha)).trans ?_
    exact Sparse.getD_set_other _ _ _ (h e (List.mem_cons_self ..)).symm

theorem RegFile.applyLate_get (r : RegFile) (o : Otp) {p : Nat → Bool} {off : Nat} (h : p off = false) :
    (r.applyLate o p).get o off = r.get o off := by
  unfold RegFile.applyLate
  dsimp only
  rw [RegFile.forEach_put_get]
  · rfl
  · intro e he hk
    subst hk
    simp [h] at he

theorem RegFile.applyCaptured_get (r : RegFile) (o : Otp) {p : Nat → Bool} {off : Nat} (h : p off = false) :
    (r.applyCaptured o p).get o off = r.get o off := by
  unfold RegFile.applyCaptured
  dsimp only
  rw [RegFile.forEach_put_get]
  · rfl
  · intro e he hk
    subst hk
    simp [h] at he

/-- The registers of a rail and its phases. -/
def railMine (s : State) (n off : Nat) : Bool :=
  (railBase n ≤ off && off < railBase n + 0x80) || (railPhases s n).any fun p => phBase p ≤ off && off < phBase p + 0x20

theorem railMine_of_offRail {s : State} {n off : Nat} (h : offRail n off) : railMine s n off = false := by
  obtain ⟨hlow, hout⟩ := h
  have hp : ∀ p, ¬ phBase p ≤ off := fun p => by simp only [phBase]; omega
  have hr : (decide (railBase n ≤ off) && decide (off < railBase n + 0x80)) = false := by simp; omega
  simp [railMine, hr, hp]

theorem railBoundary_eq (s : State) (n : Nat) : railBoundary s n =
    { setRail s n { rail s n with commit := false } with
      regs := (s.regs.applyLate s.otp (railMine s n)).applyCaptured s.otp (railMine s n) } := rfl

theorem railBoundary_onlyRail (s : State) (n : Nat) : OnlyRail n s (railBoundary s n) := by
  refine ⟨fun j hj => rail_setRail_other s _ hj, rfl, rfl, rfl, fun off ho => ?_⟩
  have hm := railMine_of_offRail (s := s) ho
  exact (RegFile.applyCaptured_get _ _ hm).trans (RegFile.applyLate_get _ _ hm)

theorem applyMode_onlyRail (s : State) (n : Nat) : OnlyRail n s (applyMode s n) :=
  (setRail_onlyRail s n _).trans (forEach_onlyRail _ _ fun _ q => (setRail_onlyRail q n _).trans ((complete_onlyReply ..).onlyRail n))

theorem railSettle_onlyRail (s : State) (n : Nat) : OnlyRail n s (railSettle s n) := by
  unfold railSettle
  split
  · exact .refl n s
  · exact (railBoundary_onlyRail s n).trans (applyMode_onlyRail _ n)

/-- The rail as sequencer, host and telemetry judge it, which no mode and no boundary changes. -/
def Rail.run (r : Rail) : RailState × Bool × List Ticket × List Ticket := (r.state, r.pg, r.waitOn, r.waitOff)

theorem applyMode_run (s : State) {n : Nat} (hn : n < 8) : (rail (applyMode s n) n).run = (rail s n).run := by
  refine (forEach_same (fun q => (rail q n).run) _ _ fun e q => ?_).trans ?_
  · rw [(complete_onlyReply ..).rail, rail_setRail_self _ hn]; rfl
  · rw [rail_setRail_self _ hn]; rfl

theorem railSettle_run (s : State) {n : Nat} (hn : n < 8) : (rail (railSettle s n) n).run = (rail s n).run := by
  unfold railSettle
  split
  · rfl
  · rw [applyMode_run _ hn, railBoundary_eq]
    change (rail (setRail s n _) n).run = _
    rw [rail_setRail_self _ hn]; rfl

/-! ### Starts, stops and faults of a rail change no other (R315, R331, R335, R346) -/

/-- A change of rail control that leaves the rails. -/
theorem rc_onlyRail (s : State) (n : Nat) {c : RailCtl} (h : c.rails = s.rc.rails) : OnlyRail n s { s with rc := c } :=
  ⟨fun j _ => by rw [rail, rail, h], rfl, rfl, rfl, fun _ _ => rfl⟩

theorem takeFree_onlyRail (s : State) (n : Nat) : OnlyRail n s (takeFree s) := ⟨fun _ _ => rfl, rfl, rfl, rfl, fun _ _ => rfl⟩

theorem assertLine_onlyRail (s : State) (n k : Nat) (w : Word) : OnlyRail n s (assertLine s k w) := by
  unfold assertLine
  split
  · exact .refl n s
  · exact ⟨fun _ _ => rfl, rfl, rfl, rfl, fun _ _ => rfl⟩

theorem complete_onlyRail (s : State) (n : Nat) (t : Ticket) (st : Nat) (r : DWord) : OnlyRail n s (complete s t st r) :=
  (complete_onlyReply ..).onlyRail n

theorem completeAll_onlyRail (s : State) (n : Nat) (ts : List Ticket) (st : Nat) (r : DWord) : OnlyRail n s (completeAll s ts st r) :=
  (completeAll_onlyReply ..).onlyRail n

theorem railEvent_onlyRail (s : State) (n kind sub phases : Nat) (m : Option RailMeas) : OnlyRail n s (railEvent s n kind sub phases m) :=
  (railEvent_onlyEvents ..).reply.onlyRail n

theorem OnlyRail.ite {n : Nat} {s a b : State} {c : Prop} [Decidable c] (ha : OnlyRail n s a) (hb : OnlyRail n s b) :
    OnlyRail n s (if c then a else b) := by
  split
  · exact ha
  · exact hb

theorem railFaultToo_onlyRail (s : State) (n reason phases : Nat) (m : Option RailMeas) : OnlyRail n s (railFaultToo s n reason phases m) := by
  have hline := assertLine_onlyRail s n (reasonLine reason n) (maskOf 32 n 1)
  have h2 := fun r : Rail => hline.trans (setRail_onlyRail _ n r)
  refine .ite ?_ (.ite (h2 _) hline)
  exact (OnlyRail.ite (h2 _) hline).trans ((setRail_onlyRail ..).trans (drivePhases_onlyRail ..))

theorem railFault_onlyRail (s : State) (n reason phases : Nat) (m : Option RailMeas) (c : Option Nat) :
    OnlyRail n s (railFault s n reason phases m c) := by
  refine .ite (railFaultToo_onlyRail ..) (.trans (.trans (.trans ?_ (completeAll_onlyRail ..)) (completeAll_onlyRail ..)) (railSettle_onlyRail ..))
  have h0 : OnlyRail n s (if m.isSome then s else takeFree s) := .ite (.refl n s) (takeFree_onlyRail s n)
  have hend := fun (r : Rail) (v : Pwm) (ph : Nat) (k : Nat) (w : Word) => h0.trans <| (setRail_onlyRail _ n r).trans <|
    (losePg_onlyRail _ n m).trans <| (drivePhases_onlyRail _ n v).trans <| (railQuiet_onlyRail _ n).trans <|
    (railEvent_onlyRail _ n 3 reason ph m).trans (assertLine_onlyRail _ n k w)
  split
  · exact (hend ..).trans (complete_onlyRail ..)
  · exact hend ..

theorem railBegin_onlyRail (s : State) (n : Nat) (b : Bool) : OnlyRail n s (railBegin s n b) := by
  unfold railBegin
  have h2 := fun r ps (x : Nat → State → Phase) =>
    (setRail_onlyRail s n r).trans (forEach_onlyRail (f := fun p q => setPhs q p (x p q)) ps _ fun p q => setPhs_onlyRail q n p _)
  exact .ite ((h2 ..).trans (railFault_onlyRail ..)) (h2 ..)

theorem railStart_onlyRail (s : State) (n : Nat) (b : Bool) : OnlyRail n s (railStart s n b).1 := by
  unfold railStart
  split
  · exact .ite (rc_onlyRail s n rfl) (.refl n s)
  · exact railBegin_onlyRail s n b

/-- What a rail that reaches OFF has done before a start held behind its stop. -/
def railRested (s : State) (n : Nat) : State :=
  railSettle (completeAll (railQuiet (drivePhases (setRail s n { rail s n with
    state := .off, ref := 0, ramp := none, burst := false, asleep := false, ovLow := false, ilimActive := false, waitOff := [], after := .stay
    safeActive := false }) n .tri) n) (rail s n).waitOff stSuccess 0) n

theorem railOff_stay {s : State} {n : Nat} (h : (rail s n).after = .stay) : railOff s n = railRested s n := by
  unfold railOff
  dsimp only
  rw [if_neg (by simp [h])]
  rfl

theorem railRested_onlyRail (s : State) (n : Nat) : OnlyRail n s (railRested s n) :=
  (setRail_onlyRail s n _).trans <| (drivePhases_onlyRail ..).trans <| (railQuiet_onlyRail ..).trans <|
    (completeAll_onlyRail ..).trans (railSettle_onlyRail ..)

theorem railOff_onlyRail (s : State) (n : Nat) : OnlyRail n s (railOff s n) := by
  have hstart := (railRested_onlyRail s n).trans (railStart_onlyRail (railRested s n) n (rail s n).bySeq)
  refine .ite ?_ (railRested_onlyRail s n)
  change OnlyRail n s (match railStart (railRested s n) n (rail s n).bySeq with | (s3, some st) => _ | (s3, none) => s3)
  generalize railStart (railRested s n) n (rail s n).bySeq = x at hstart
  obtain ⟨s3, st⟩ := x
  cases st with
  | none => exact hstart
  | some st => exact hstart.trans ((setRail_onlyRail ..).trans (completeAll_onlyRail ..))

theorem railStop_onlyRail (s : State) (n : Nat) : OnlyRail n s (railStop s n) := by
  have hset := setRail_onlyRail s n
  unfold railStop
  dsimp only
  split
  · exact .refl n s
  · exact (hset _).trans (railOff_onlyRail ..)
  · exact (hset _).trans (completeAll_onlyRail ..)
  · have hlost := fun r => (hset r).trans (losePg_onlyRail _ n none)
    have hdone : ∀ q ts, OnlyRail n s q → OnlyRail n s (completeAll q ts stAborted 0) := fun q ts h => h.trans (completeAll_onlyRail ..)
    refine .ite (hdone _ _ ?_) ((hdone _ _ ?_).trans (railOff_onlyRail ..))
    all_goals
      split
      · exact (hlost _).trans (complete_onlyRail ..)
      · exact hlost _

theorem railEnable_onlyRail (s : State) (n : Nat) (on : Bool) (t : Ticket) : OnlyRail n s (railEnable s n on t) := by
  have hset := setRail_onlyRail s n
  have hdone := complete_onlyRail s n t
  have hstart := fun r => (hset r).trans (railStart_onlyRail (setRail s n r) n false)
  have hstop := fun r => (hset r).trans (railStop_onlyRail (setRail s n r) n)
  unfold railEnable
  dsimp only
  split
  · split
    · split
      · exact (hstart _).trans ((setRail_onlyRail ..).trans (complete_onlyRail ..))
      · exact hstart _
    · exact hset _
    · exact hset _
    · exact hset _
    · exact hdone _ _
    · exact hdone _ _
  · split
    · exact hdone _ _
    · exact hstop _

/-! ### What the sequencer sees of a rail command (R337, R371, R372) -/

/-- A member of the loaded table that is a rail owns it. -/
theorem index_ne_of_railOwned {s : State} {n i : Nat} {m : Member} (h : railOwned s n = false) (hs : s.seq.state ≠ .empty)
    (hm : member s i = some m) (ht : m.cfg.mtype = 1) : m.cfg.index ≠ n := by
  intro hn
  have hmem : some m ∈ s.seq.members.toList := by
    unfold member vget at hm
    split at hm
    · next hi => exact hm ▸ Vector.mem_toList_iff.mpr (Vector.getElem_mem hi)
    · cases hm
  simp only [railOwned, hs, ne_eq, not_false_eq_true, decide_true, Bool.true_and, List.any_eq_false] at h
  simpa [ht, hn] using h _ hmem

/-- The sequencer stands still where the rails of its table have not changed. -/
theorem seqWatch_of_rails {old s : State} (h : ∀ i m, s.seq.state ≠ .empty → member s i = some m → m.cfg.mtype = 1 →
    rail s m.cfg.index = rail old m.cfg.index) : seqWatch old s none = s := by
  unfold seqWatch
  split
  · rfl
  · next hs =>
    have he : s.seq.state ≠ .empty := fun he => hs (by simp [he])
    refine forUpTo_induct (P := fun q => q = s) 16 rfl fun i q _ hq => ?_
    subst hq
    split
    · rfl
    · next m hm =>
      split
      · rfl
      · next ht =>
        simp [h i m he hm (Decidable.not_not.mp ht)]

theorem seqWatch_of_onlyRail {old q t : State} {n : Nat} (hold : ∀ j, rail q j = rail old j) (h : OnlyRail n q t)
    (ho : railOwned q n = false) : seqWatch old t none = t := by
  refine seqWatch_of_rails fun i m hs hm ht => ?_
  have hmem : member q i = some m := by rw [← hm, member, member, h.seq]
  rw [h.seq] at hs
  exact (h.rail _ (index_ne_of_railOwned ho hs hmem ht)).trans (hold _)

theorem seqWatch_complete {old q : State} (hold : ∀ j, rail q j = rail old j) (k : Ticket) (st : Nat) (r : DWord) :
    seqWatch old (complete q k st r) none = complete q k st r :=
  seqWatch_of_rails fun _ m _ _ _ => ((complete_onlyReply ..).rail _).trans (hold m.cfg.index)

theorem Taken.rail {sp : OpSpec} {rq : Requester} {d : Desc} {s q : State} {k : Ticket} (h : Taken sp rq d s q k) (j : Nat) :
    rail q j = rail s j := by
  rw [arrive_frame h.1]
  rfl

/-! ### RAIL_SET_VOLTAGE (R332–R334) -/

theorem exec_railSetVoltage {rq : Requester} {d : Desc} {s q : State} {k : Ticket} (h : Taken specRailSetVoltage rq d s q k) :
    exec (.railSetVoltage rq d) s = .next
      (if 8 ≤ d.target.toNat || refMvOf q d.target.toNat (opn d 16 0 16) < 300 || 1800 < refMvOf q d.target.toNat (opn d 16 0 16) ||
          opn d 18 0 16 = 0 || 200 < opn d 18 0 16 then complete q k stRange 0
        else railSetVoltage q d.target.toNat (opn d 16 0 16) (opn d 18 0 16) k) :=
  congrArg Host.Outcome.next (command_taken h)

/-- The reference of a target follows the target alone, of what rail control holds. -/
theorem targetRef_congr {s t : State} {n : Nat} (hr : t.regs = s.regs) (ho : t.otp = s.otp) (ht : (rail t n).target = (rail s n).target) :
    targetRef t n = targetRef s n := by
  have hd : divRatio t n = divRatio s n := by simp only [divRatio, rfld, fld, rd_congr hr ho]
  rw [targetRef, targetRef, refMvOf, refMvOf, ht, hd]

/-- A ramp of a rail put at `r`, to the target that it had. -/
theorem rail_rampTo_setRail (s : State) {n : Nat} (hn : n < 8) {r : Rail} (hr : r.target = (rail s n).target) (slew : Slew) :
    rail (rampTo (setRail s n r) n slew) n =
      { r with ramp := some (targetRef s n, slew), preHold := false, burst := false, asleep := false,
               ccmPulses := if targetRef s n < r.ref then 64 else r.ccmPulses } := by
  have ht : targetRef (setRail s n r) n = targetRef s n := targetRef_congr rfl rfl (by rw [rail_setRail_self s hn, hr])
  rw [rampTo, rail_setRail_self _ hn, rail_setRail_self _ hn, ht]

/-- The rail has taken a new target. -/
def retarget (s : State) (n v : Nat) : State := setRail s n { rail s n with target := v }

theorem rail_retarget (s : State) {n : Nat} (hn : n < 8) (v : Nat) : rail (retarget s n v) n = { rail s n with target := v } :=
  rail_setRail_self s hn _

/-- RAIL_SET_VOLTAGE in a state that regulates. -/
def slewOrDone (s : State) (n slew : Nat) (t : Ticket) : State :=
  if targetRef s n = (rail s n).ref then
    complete (setRail s n { rail s n with state := .regulating, ramp := none }) t stSuccess (setPoint s n)
  else rampTo (setRail s n { rail s n with state := .slewing, waitSet := some t }) n (.cmd slew)

/-- RAIL_SET_VOLTAGE in soft start. -/
def rampOnward (s : State) (n : Nat) (t : Ticket) : State := rampTo (setRail s n { rail s n with waitSet := some t }) n .ss

theorem railSetVoltage_eq (s : State) (n v slew : Nat) (t : Ticket) : railSetVoltage s n v slew t =
    match (rail s n).state with
    | .softstart => rampOnward (supersede (retarget s n v) n) n t
    | .regulating => slewOrDone (retarget s n v) n slew t
    | .slewing => slewOrDone (supersede (retarget s n v) n) n slew t
    | _ => complete (retarget s n v) t stSuccess (setPoint (retarget s n v) n) := rfl

theorem supersede_idle {s : State} {n : Nat} (h : (rail s n).waitSet = none) : supersede s n = s := by
  unfold supersede
  rw [h]

/-- A rail that regulates slews to a target that differs from its reference. -/
theorem railSetVoltage_slews {s : State} {n v : Nat} (hn : n < 8) (h : (rail s n).state = .regulating)
    (hne : targetRef (retarget s n v) n ≠ (rail s n).ref) (slew : Nat) (k : Ticket) :
    let t := railSetVoltage s n v slew k
    (rail t n).state = .slewing ∧ (rail t n).target = v ∧ (rail t n).waitSet = some k ∧ (rail t n).ref = (rail s n).ref ∧
      (rail t n).ramp = some (targetRef (retarget s n v) n, .cmd slew) ∧ (∀ j, j ≠ n → rail t j = rail s j) ∧ SameBytes s t := by
  have hr := rail_retarget s hn v
  rw [railSetVoltage_eq, h]
  dsimp only
  rw [slewOrDone, if_neg (by rw [hr]; exact hne), rail_rampTo_setRail _ hn ?_, hr]
  · exact ⟨rfl, rfl, rfl, rfl, rfl,
      ((setRail_onlyRail s n _).trans ((setRail_onlyRail _ n _).trans (setRail_onlyRail _ n _))).rail, .of_mem rfl rfl rfl⟩
  · rfl

/-- A rail in soft start goes on to the new target. -/
theorem railSetVoltage_softstart {s : State} {n : Nat} (hn : n < 8) (h : (rail s n).state = .softstart)
    (hw : (rail s n).waitSet = none) (v slew : Nat) (k : Ticket) :
    let t := railSetVoltage s n v slew k
    (rail t n).state = .softstart ∧ (rail t n).target = v ∧ (rail t n).waitSet = some k ∧
      (rail t n).ramp = some (targetRef (retarget s n v) n, .ss) ∧ (∀ j, j ≠ n → rail t j = rail s j) ∧ SameBytes s t := by
  have hr := rail_retarget s hn v
  rw [railSetVoltage_eq, h]
  dsimp only
  rw [supersede_idle (by rw [hr]; exact hw), rampOnward, rail_rampTo_setRail _ hn ?_, hr]
  · exact ⟨h, rfl, rfl, rfl, ((setRail_onlyRail s n _).trans ((setRail_onlyRail _ n _).trans (setRail_onlyRail _ n _))).rail, .of_mem rfl rfl rfl⟩
  · rfl

/-! ### RAIL_ENABLE (R335, R337) -/

theorem exec_railEnable_refused {rq : Requester} {d : Desc} {s q : State} {k : Ticket} (h : Taken specRailEnable rq d s q k) :
    (8 ≤ d.target.toNat → exec (.railEnable rq d) s = .next (complete q k stRange 0)) ∧
      (d.target.toNat < 8 → railOwned q d.target.toNat = true → exec (.railEnable rq d) s = .next (complete q k stOverridden 0)) := by
  refine ⟨fun hn => ?_, fun hn ho => ?_⟩ <;> change Host.Outcome.next (seqWatch s (command ..) none) = _ <;> rw [command_taken h]
  · rw [if_pos hn, seqWatch_complete h.rail]
  · rw [if_neg (by omega), if_pos ho, seqWatch_complete h.rail]

theorem exec_railEnable {rq : Requester} {d : Desc} {s q : State} {k : Ticket} (h : Taken specRailEnable rq d s q k)
    (hn : d.target.toNat < 8) (ho : railOwned q d.target.toNat = false) :
    exec (.railEnable rq d) s = .next (railEnable q d.target.toNat (opn d 16 0 1 = 1) k) := by
  change Host.Outcome.next (seqWatch s (command ..) none) = _
  rw [command_taken h, if_neg (by omega), if_neg (by simp [ho]), seqWatch_of_onlyRail h.rail (railEnable_onlyRail ..) ho]

theorem startCheck_setRail (s : State) (n : Nat) {r : Rail} (h : r.target = (rail s n).target) (hn : n < 8) :
    startCheck (setRail s n r) n = startCheck s n := by
  have hshared : ∀ j, (decide (j ≠ n) && railBusy (rail (setRail s n r) j)) = (decide (j ≠ n) && railBusy (rail s j)) := fun j => by
    by_cases hj : j = n
    · simp [hj]
    · rw [rail_setRail_other s r hj]
  have htarget : (rail (setRail s n r) n).target = (rail s n).target := by rw [rail_setRail_self s hn, h]
  have hmask : phaseMask (setRail s n r) = phaseMask s := rfl
  have hmin : minPhases (setRail s n r) = minPhases s := rfl
  have hflag : flag (setRail s n r) = flag s := rfl
  have hdiv : divRatio (setRail s n r) = divRatio s := rfl
  simp only [startCheck, hmask, hmin, hflag, hdiv, htarget, hshared]

/-- Phase changes leave the rails, the stages' flag and the memories. -/
theorem forEach_setPhs_frame (l : List Nat) (f : Nat → State → Phase) (s : State) :
    let t := forEach l (fun p q => setPhs q p (f p q)) s
    t.rc.rails = s.rc.rails ∧ t.rc.tmonShdn = s.rc.tmonShdn ∧ t.hostMem = s.hostMem ∧ t.mpSram = s.mpSram ∧ t.flash = s.flash :=
  forEach_induct (P := fun t : State => t.rc.rails = s.rc.rails ∧ t.rc.tmonShdn = s.rc.tmonShdn ∧ t.hostMem = s.hostMem ∧ t.mpSram = s.mpSram ∧
    t.flash = s.flash) ⟨rfl, rfl, rfl, rfl, rfl⟩ fun _ _ _ h => h

/-- A start that has passed its checks while no stage is shut down is in PRECHECK. -/
theorem railBegin_precheck (s : State) {n : Nat} (hn : n < 8) (b : Bool) (h : s.rc.tmonShdn = false) :
    let t := railBegin s n b
    (rail t n).state = .precheck ∧ (rail t n).waitOn = (rail s n).waitOn ∧ (rail t n).bySeq = b ∧ SameBytes s t := by
  unfold railBegin
  extract_lets r wake s1 x s2 t
  obtain ⟨hrails, htmon, hhost, hsram, hflash⟩ : _ ∧ _ ∧ _ ∧ _ ∧ _ := forEach_setPhs_frame (railPhases s1 n) _ s1
  have hr : rail s2 n = rail s1 n := congrArg (vget · n Rail.reset) hrails
  have hnot : ¬ (s2.rc.tmonShdn && flag s2 0x4000 0) = true := by
    have : s2.rc.tmonShdn = false := htmon.trans h
    simp [this]
  have ht : t = s2 := if_neg hnot
  rw [ht, hr, rail_setRail_self s hn]
  exact ⟨rfl, rfl, rfl, .of_mem hhost hsram hflash⟩

/-- RAIL_ENABLE on an OFF rail. -/
def enableFromOff (s : State) (n : Nat) (t : Ticket) : State :=
  let x := railStart (setRail s n { rail s n with waitOn := [t] }) n false
  match x.2 with
  | some st => complete (setRail x.1 n { rail x.1 n with waitOn := [] }) t st 0
  | none => x.1

/-- RAIL_ENABLE on a rail that is starting. -/
def enableToo (s : State) (n : Nat) (t : Ticket) : State := setRail s n { rail s n with waitOn := (rail s n).waitOn ++ [t] }

theorem railEnable_on_eq (s : State) (n : Nat) (t : Ticket) : railEnable s n true t =
    match (rail s n).state with
    | .off => enableFromOff s n t
    | .precheck => enableToo s n t
    | .softstart => enableToo s n t
    | .stopping => setRail s n { rail s n with waitOn := (rail s n).waitOn ++ [t], after := .start, bySeq := false }
    | .fault => complete s t stRefused 0
    | _ => complete s t stSuccess 1 := rfl

theorem railEnable_off_eq (s : State) (n : Nat) (t : Ticket) : railEnable s n false t =
    match (rail s n).state with
    | .off => complete s t stSuccess 0
    | _ => railStop (setRail s n { rail s n with waitOff := (rail s n).waitOff ++ [t] }) n := rfl

theorem enableFromOff_start {s : State} {n : Nat} (hn : n < 8) (h : startCheck s n = none) (t : Ticket) :
    enableFromOff s n t = railBegin (setRail s n { rail s n with waitOn := [t] }) n false := by
  have hc : startCheck (setRail s n { rail s n with waitOn := [t] }) n = none := Eq.trans (startCheck_setRail s n rfl hn) h
  simp only [enableFromOff, railStart, hc]

/-- The state after a refused start (R315). -/
def startRefused (s : State) (st : Nat) : State := if st = stRefused then { s with rc := { s.rc with cfgErr := true } } else s

theorem enableFromOff_refused {s : State} {n st : Nat} (hn : n < 8) (h : startCheck s n = some st) (t : Ticket) :
    enableFromOff s n t = (let x := startRefused (setRail s n { rail s n with waitOn := [t] }) st
      complete (setRail x n { rail x n with waitOn := [] }) t st 0) := by
  have hc : startCheck (setRail s n { rail s n with waitOn := [t] }) n = some st := Eq.trans (startCheck_setRail s n rfl hn) h
  simp only [enableFromOff, railStart, hc, startRefused]

theorem rail_startRefused (s : State) (st j : Nat) : rail (startRefused s st) j = rail s j := by
  unfold startRefused
  split <;> rfl

/-! ### A stop (R331, R335) -/

theorem rail_losePg (s : State) {n : Nat} (hn : n < 8) (m : Option RailMeas) : rail (losePg s n m) n = { rail s n with pg := false } := by
  unfold losePg
  split
  · rw [(railEvent_onlyEvents ..).reply.rail, rail_setRail_self s hn]
  · next h =>
    rw [Bool.not_eq_true] at h
    generalize rail s n = r at h
    cases r
    cases h
    rfl

/-- A stop has begun: the waiting commands of the start have left the rail, and PG is lost (R331, R335). -/
def stopBegun (s : State) (n : Nat) : State :=
  losePg (setRail s n { rail s n with
    state := if flag s (railBase n) 16 then .stopping else .off, waitSet := none, waitOn := [], burst := false, asleep := false, after := .stay
    ramp := some (0, .off), ccmPulses := 64 }) n none

/-- A rail that regulates ramps down or is off at once, as OFF_MODE says, when the waiting commands of its start have ended (R331, R335). -/
theorem railStop_regulating {s : State} {n : Nat} (h : (rail s n).state = .regulating) :
    ∃ t, OnlyReply (stopBegun s n) t ∧ railStop s n = if flag s (railBase n) 16 then t else railOff t n := by
  have hramps : (flag s (railBase n) 16 && decide ((rail s n).state ≠ .precheck)) = flag s (railBase n) 16 := by simp [h]
  unfold railStop
  dsimp only
  split
  · next hs => exact absurd (h.symm.trans hs) (by decide)
  · next hs => exact absurd (h.symm.trans hs) (by decide)
  · next hs => exact absurd (h.symm.trans hs) (by decide)
  · rw [hramps]
    refine ⟨_, ?_, rfl⟩
    refine OnlyReply.trans ?_ (completeAll_onlyReply ..)
    split
    · exact complete_onlyReply ..
    · exact .refl _

theorem railRested_run (s : State) {n : Nat} (hn : n < 8) :
    (rail (railRested s n) n).run = (.off, (rail s n).pg, (rail s n).waitOn, []) := by
  rw [railRested, railSettle_run _ hn, (completeAll_onlyReply ..).rail, railQuiet, rail_forEach_setPhs, rail_setRail_self _ hn,
    drivePhases, rail_forEach_setPhs, rail_setRail_self _ hn]
  rfl

theorem railEnable_starts {s : State} {n : Nat} (hn : n < 8) (hs : (rail s n).state = .off) (hc : startCheck s n = none)
    (htm : s.rc.tmonShdn = false) (k : Ticket) :
    let t := railEnable s n true k
    (rail t n).state = .precheck ∧ (rail t n).waitOn = [k] ∧ (rail t n).bySeq = false ∧ SameBytes s t := by
  rw [railEnable_on_eq, hs]
  dsimp only
  rw [enableFromOff_start hn hc]
  obtain ⟨hpre, hon, hby, hbytes⟩ := railBegin_precheck (setRail s n { rail s n with waitOn := [k] }) hn false htm
  rw [rail_setRail_self s hn] at hon
  exact ⟨hpre, hon, hby, hbytes⟩

theorem railEnable_refuses {s : State} {n st : Nat} (hn : n < 8) (hs : (rail s n).state = .off) (hc : startCheck s n = some st) (k : Ticket) :
    let t := railEnable s n true k
    (rail t n).state = .off ∧ (rail t n).waitOn = [] ∧ (st = stRefused → t.rc.cfgErr = true) := by
  rw [railEnable_on_eq, hs]
  dsimp only
  rw [enableFromOff_refused hn hc]
  dsimp only
  rw [(complete_onlyReply ..).rail, (complete_onlyReply ..).rc, rail_setRail_self _ hn, rail_startRefused, rail_setRail_self s hn]
  refine ⟨hs, rfl, fun hst => ?_⟩
  rw [startRefused, if_pos hst]
  rfl

/-- RAIL_ENABLE with enable 0 on a rail that regulates. -/
theorem railEnable_stops {s : State} {n : Nat} (hn : n < 8) (hs : (rail s n).state = .regulating) (k : Ticket) :
    let t := railEnable s n false k
    (rail t n).state = (if flag s (railBase n) 16 then .stopping else .off) ∧
      (rail t n).waitOff = (if flag s (railBase n) 16 then (rail s n).waitOff ++ [k] else []) ∧ (rail t n).pg = false := by
  intro t
  have ht : t = railStop (setRail s n { rail s n with waitOff := (rail s n).waitOff ++ [k] }) n := by
    change railEnable s n false k = _
    rw [railEnable_off_eq, hs]
  generalize hq : setRail s n { rail s n with waitOff := (rail s n).waitOff ++ [k] } = q at ht
  have hr : rail q n = { rail s n with waitOff := (rail s n).waitOff ++ [k] } := hq ▸ rail_setRail_self s hn _
  have hf : flag q (railBase n) 16 = flag s (railBase n) 16 := hq ▸ rfl
  obtain ⟨u, hu, hstop⟩ := railStop_regulating (s := q) (n := n) (by rw [hr]; exact hs)
  have hru : rail u n = _ := (hu.rail n).trans ((rail_losePg _ hn none).trans (by rw [rail_setRail_self _ hn]))
  rw [hf] at hstop hru
  rw [ht, hstop]
  by_cases hm : flag s (railBase n) 16 = true
  · simp only [if_pos hm, hru, hr]
    exact ⟨trivial, trivial, trivial⟩
  · have hrun := railRested_run u hn
    rw [hru] at hrun
    simp only [Rail.run, Prod.mk.injEq] at hrun
    obtain ⟨hst, hpg, -, hoff⟩ := hrun
    simp only [if_neg hm]
    rw [railOff_stay (by rw [hru])]
    exact ⟨hst, hoff, hpg⟩

/-! ### RAIL_MODE and COMMIT (R18, R19, R336) -/

theorem railSwitching_setRail (s : State) {n : Nat} (hn : n < 8) {r : Rail} (h : r.state = (rail s n).state) :
    railSwitching (setRail s n r) n = railSwitching s n := by rw [railSwitching, railSwitching, rail_setRail_self s hn, h]

theorem railSettle_switching {s : State} {n : Nat} (h : railSwitching s n = true) : railSettle s n = s := if_pos h

theorem railSettle_idle {s : State} {n : Nat} (h : railSwitching s n = false) : railSettle s n = applyMode (railBoundary s n) n :=
  if_neg (by simp [h])

theorem rail_railBoundary (s : State) {n : Nat} (hn : n < 8) : rail (railBoundary s n) n = { rail s n with commit := false } :=
  rail_setRail_self s hn _

/-- The command that a mode waits for gives the rail its mode. -/
theorem applyMode_single {s : State} {n : Nat} (hn : n < 8) {k : Ticket} {mode : RailMode} (h : (rail s n).waitMode = [(k, mode)]) :
    (rail (applyMode s n) n).mode = mode ∧ (rail (applyMode s n) n).waitMode = [] := by
  rw [applyMode, h, forEach, forEach, (complete_onlyReply ..).rail, rail_setRail_self _ hn, rail_setRail_self _ hn]
  exact ⟨rfl, rfl⟩

theorem applyMode_commit (s : State) {n : Nat} (hn : n < 8) : (rail (applyMode s n) n).commit = (rail s n).commit := by
  refine (forEach_same (fun q => (rail q n).commit) _ _ fun e q => ?_).trans ?_
  · rw [(complete_onlyReply ..).rail, rail_setRail_self _ hn]
  · rw [rail_setRail_self _ hn]

theorem applyMode_regs (s : State) (n : Nat) : (applyMode s n).regs = s.regs := by
  refine forEach_same (fun q : State => q.regs) _ _ fun e q => ?_
  obtain ⟨hregs, -⟩ := (complete_onlyReply (setRail q n { rail q n with
    mode := e.2, burst := (rail q n).burst && e.2 = .autoBurst, asleep := (rail q n).asleep && e.2 = .autoBurst }) e.1 stSuccess 0).frame
  exact hregs

/-- What the boundary has applied is no longer captured. -/
theorem RegFile.get?_applyCaptured (r : RegFile) (o : Otp) {p : Nat → Bool} {off : Nat} (h : p off = true) :
    Sparse.get? (r.applyCaptured o p).captured off = none := by
  have hc : (r.applyCaptured o p).captured = r.captured.filter fun e => !p e.1 := forEach_same RegFile.captured _ _ fun _ _ => rfl
  rw [hc, Sparse.get?_filter r.captured (fun a => !p a), h]
  rfl

/-- RAIL_MODE waits for a switching cycle (R336). -/
def modeAsked (s : State) (n : Nat) (k : Ticket) (mode : RailMode) : State :=
  setRail s n { rail s n with waitMode := (rail s n).waitMode ++ [(k, mode)] }

theorem modeAsked_switching (s : State) {n : Nat} (hn : n < 8) (k : Ticket) (mode : RailMode) :
    railSwitching (modeAsked s n k mode) n = railSwitching s n := railSwitching_setRail s hn rfl

/-- On a rail that does not switch the mode is taken at once. -/
theorem modeAsked_taken {s : State} {n : Nat} (hn : n < 8) (hw : (rail s n).waitMode = []) (k : Ticket) (mode : RailMode) :
    let t := applyMode (railBoundary (modeAsked s n k mode) n) n
    (rail t n).mode = mode ∧ (rail t n).waitMode = [] := by
  refine applyMode_single hn (k := k) ?_
  rw [rail_railBoundary _ hn, modeAsked, rail_setRail_self s hn, hw]
  rfl

theorem exec_railMode {rq : Requester} {d : Desc} {s q : State} {k : Ticket} (h : Taken specRailMode rq d s q k) :
    exec (.railMode rq d) s = .next
      (if 3 ≤ opn d 16 0 8 then complete q k stInvalidField 0
        else if 8 ≤ d.target.toNat then complete q k stRange 0
        else railSettle (modeAsked q d.target.toNat k (if opn d 16 0 8 = 0 then .continuous else if opn d 16 0 8 = 1 then .autoBurst else .diode))
          d.target.toNat) :=
  congrArg Host.Outcome.next (command_taken h)

/-- The shadows of a rail's window are captured. -/
def railCaptured (s : State) (n : Nat) : State :=
  setRail { s with regs := s.regs.capture fun off => decide (railBase n ≤ off) && decide (off < railBase n + 0x80) } n
    { rail s n with commit := true }

theorem railCommitWrite_eq (s : State) (n : Nat) (w : Word) :
    railCommitWrite s n w = if bitOf w 0 && !(rail s n).commit then railSettle (railCaptured s n) n else s := rfl

theorem exec_railCommit {s : State} {via : Via} (hs : via ≠ .sideband) (hv : viaReach s via = true) (hd : domOn s 10 = true)
    (hr : rootAlive s = true) (n : Fin 8) (w : Word) : exec (.railCommit via n w) s = .next (railCommitWrite s n.val w) := by
  change Host.Outcome.next (if rowReach s via && domOn s 10 && rootAlive s then _ else _) = _
  rw [if_pos (by simp [rowReach_of hs hv, hd, hr])]

theorem railCaptured_switching (s : State) {n : Nat} (hn : n < 8) : railSwitching (railCaptured s n) n = railSwitching s n :=
  railSwitching_setRail { s with regs := _ } hn rfl

/-! ### A write of RC_CTRL (R345, R354) -/

/-- SAFE_STG has been written: one rail's turn. -/
def stgTurn (n : Nat) (q : State) : State := if railStgSafe q n && (rail q n).state ≠ .off then railStgOff q n else q

theorem railStgOff_onlyRail (s : State) (n : Nat) : OnlyRail n s (railStgOff s n) :=
  (setRail_onlyRail ..).trans <| (losePg_onlyRail ..).trans (railOff_onlyRail ..)

theorem railStgOff_state (s : State) {n : Nat} (hn : n < 8) : (rail (railStgOff s n) n).state = .off := by
  have hafter : (rail (losePg (setRail s n { rail s n with after := .stay, state := .off }) n none) n).after = .stay := by
    rw [rail_losePg _ hn, rail_setRail_self _ hn]
  have hrun := railRested_run (losePg (setRail s n { rail s n with after := .stay, state := .off }) n none) hn
  rw [railStgOff, railOff_stay hafter]
  exact congrArg Prod.fst hrun

theorem stgTurn_onlyRail (n : Nat) (q : State) : OnlyRail n q (stgTurn n q) := .ite (railStgOff_onlyRail ..) (.refl n q)

theorem stgTurn_safe {n : Nat} (hn : n < 8) {q : State} (h : railStgSafe q n = true) : (rail (stgTurn n q) n).state = .off := by
  unfold stgTurn
  split
  · exact railStgOff_state q hn
  · next hoff => simpa [h] using hoff

theorem stgTurn_unsafe {n : Nat} {q : State} (h : railStgSafe q n = false) : stgTurn n q = q := by simp [stgTurn, h]

/-- Whether SAFE_STG takes a rail follows RC_CTRL and the rail's phases. -/
theorem railStgSafe_congr {s t : State} {n : Nat} (hc : rd t 0x4000 = rd s 0x4000) (hp : rd t (railBase n) = rd s (railBase n)) :
    railStgSafe t n = railStgSafe s n := by
  have hmask : phaseMask t n = phaseMask s n := by rw [phaseMask, phaseMask, fld, fld, hp]
  have hflag : ∀ i, flag t 0x4000 i = flag s 0x4000 i := fun i => by rw [flag, flag, hc]
  unfold railStgSafe
  rw [hmask]
  simp only [hflag]

theorem offRail_rcCtrl (n : Nat) : offRail n 0x4000 := by simp only [offRail, railBase]; omega

theorem offRail_railBase {n j : Nat} (hj : j < 8) (h : j ≠ n) : offRail n (railBase j) := by simp only [offRail, railBase]; omega

/-- After the turns of the rails below `m`: those that SAFE_STG takes are OFF, and nothing else has changed of the rails. -/
def StgTurned (u t : State) (m : Nat) : Prop :=
  rd t 0x4000 = rd u 0x4000 ∧ (∀ n, n < 8 → m ≤ n → rd t (railBase n) = rd u (railBase n) ∧ rail t n = rail u n) ∧
    ∀ n, n < m → (railStgSafe u n = true → (rail t n).state = .off) ∧ (railStgSafe u n = false → rail t n = rail u n)

theorem StgTurned.turn {u t : State} {m : Nat} (hm : m < 8) (h : StgTurned u t m) : StgTurned u (stgTurn m t) (m + 1) := by
  obtain ⟨hctrl, hlater, hdone⟩ := h
  obtain ⟨hbase, hsame⟩ := hlater m hm (Nat.le_refl m)
  have honly := stgTurn_onlyRail m t
  have hsafe : railStgSafe t m = railStgSafe u m := railStgSafe_congr hctrl hbase
  refine ⟨(honly.rd _ (offRail_rcCtrl m)).trans hctrl, fun n hn hmn => ?_, fun n hn => ?_⟩
  · obtain ⟨hb, hr⟩ := hlater n hn (by omega)
    exact ⟨(honly.rd _ (offRail_railBase hn (by omega))).trans hb, (honly.rail n (by omega)).trans hr⟩
  · by_cases hnm : n = m
    · subst hnm
      exact ⟨fun hs => stgTurn_safe hm (hsafe.trans hs), fun hs => by rw [stgTurn_unsafe (hsafe.trans hs), hsame]⟩
    · rw [honly.rail n hnm]
      exact hdone n (by omega)

theorem stgTurned_forUpTo (u : State) : ∀ m, m ≤ 8 → StgTurned u (forUpTo m stgTurn u) m
  | 0, _ => ⟨rfl, fun _ _ _ => ⟨rfl, rfl⟩, fun _ h => absurd h (Nat.not_lt_zero _)⟩
  | m + 1, h => (stgTurned_forUpTo u m (by omega)).turn (by omega)

theorem railStgWritten_fault {u : State} (h : u.flt.faultState = true) : railStgWritten u = forUpTo 8 stgTurn u := if_pos h

theorem railStgWritten_normal {u : State} (h : u.flt.faultState = false) : railStgWritten u = u := if_neg (by simp [h])

theorem railStgWritten_ctrl (u : State) : rd (railStgWritten u) 0x4000 = rd u 0x4000 := by
  cases h : u.flt.faultState with
  | false => rw [railStgWritten_normal h]
  | true => exact railStgWritten_fault h ▸ (stgTurned_forUpTo u 8 (Nat.le_refl 8)).1

theorem exec_tmonEnWrite {s : State} {via : Via} (hs : via ≠ .sideband) (hv : viaReach s via = true) (hd : domOn s 10 = true)
    (hr : rootAlive s = true) (w : Word) : exec (.tmonEnWrite via w) s = .next (rcCtrlWrite s w) := by
  change Host.Outcome.next (if rowReach s via && domOn s 10 && rootAlive s then _ else _) = _
  rw [if_pos (by simp [rowReach_of hs hv, hd, hr])]

/-- The TMON flags after a write of RC_CTRL. -/
def tmonWritten (s : State) (w : Word) : State := if bitOf w 0 then s else tmonOff s

theorem rcCtrlWrite_eq (s : State) (w : Word) : rcCtrlWrite s w = tmonWritten (railStgWritten (liveNow 0x4000 w s)) w := rfl

theorem tmonWritten_frame (s : State) (w : Word) :
    (∀ off, rd (tmonWritten s w) off = rd s off) ∧ (∀ n, rail (tmonWritten s w) n = rail s n) ∧ SameBytes s (tmonWritten s w) ∧
      (tmonWritten s w).rc.rails = s.rc.rails := by
  unfold tmonWritten
  split
  · exact ⟨fun _ => rfl, fun _ => rfl, .of_mem rfl rfl rfl, rfl⟩
  · exact ⟨fun _ => rfl, fun _ => rfl, .of_mem rfl rfl rfl, rfl⟩

theorem tmonWritten_off {w : Word} (h : bitOf w 0 = false) (s : State) : tmonWritten s w = tmonOff s := if_neg (by simp [h])

theorem tmonWritten_on {w : Word} (h : bitOf w 0 = true) (s : State) : tmonWritten s w = s := if_pos h

theorem flag_liveNow_rcCtrl (s : State) (w : Word) : flag (liveNow 0x4000 w s) 0x4000 0 = bitOf w 0 := flag_wr_self s w (by rfl)

theorem rd_liveNow_rcCtrl (s : State) (w : Word) {off : Nat} (h : off ≠ 0x4000) : rd (liveNow 0x4000 w s) off = rd s off :=
  rd_wr_other _ _ _ h

/-- Settles O36: a command is its block's operation on the rail it names (`exec_railSetVoltage`, `exec_railEnable`, `exec_railMode`), an operation on
a rail leaves the others (`OnlyRail`), so that the sequencer sees nothing of a rail it does not own (`seqWatch_of_onlyRail`); SAFE_STG's turns go by
induction on the rails (`stgTurned_forUpTo`). -/
theorem railCommands : Obligations.RailCommands := by
  refine ⟨fun s q k rq d hk => ⟨fun hbad => ?_, fun hn hlo hhi hs1 hs2 => ⟨fun hst => ?_, fun hst hne => ?_, fun hst hw => ?_⟩⟩,
    fun s q k rq d hk => ⟨(exec_railEnable_refused hk).1, (exec_railEnable_refused hk).2, fun hn ho hon => ?_, fun hn ho hoff => ?_⟩,
    fun s q k rq d hk => ⟨fun hm => ?_, fun hm hn => ?_, fun hm hn hsw => ?_, fun hm hn hsw hw => ?_⟩,
    fun s via n w hs hv hd hr => ⟨fun hnot => ?_, fun hb hc hsw => ?_, fun hb hc hsw => ?_⟩, fun s via w hs hv hd hr => ?_⟩
  · rw [exec_railSetVoltage hk, if_pos]
    simpa [or_assoc] using hbad
  · rw [exec_railSetVoltage hk, if_neg (by simp; omega), railSetVoltage_eq]
    simp only [List.mem_cons, List.not_mem_nil, or_false] at hst
    rcases hst with h | h | h | h <;> rw [h] <;> rfl
  · exact ⟨_, (exec_railSetVoltage hk).trans (congrArg _ (if_neg (by simp; omega))), railSetVoltage_slews hn hst hne _ k⟩
  · exact ⟨_, (exec_railSetVoltage hk).trans (congrArg _ (if_neg (by simp; omega))), railSetVoltage_softstart hn hst hw _ _ k⟩
  · have hx := exec_railEnable hk hn ho
    have honly := (railEnable_onlyRail q d.target.toNat true k).rail
    simp only [hon, decide_true] at hx
    refine ⟨fun hst hc htm => ?_, fun st hst hc => ?_, fun hst => ?_, fun hst => ?_, fun hst => ?_⟩
    · obtain ⟨hpre, hwait, hby, hbytes⟩ := railEnable_starts hn hst hc htm k
      exact ⟨_, hx, hpre, hwait, hby, honly, hbytes⟩
    · obtain ⟨hoff, hwait, herr⟩ := railEnable_refuses hn hst hc k
      exact ⟨_, hx, hoff, hwait, honly, herr⟩
    · have ht : railEnable q d.target.toNat true k = enableToo q d.target.toNat k := by
        simp only [List.mem_cons, List.not_mem_nil, or_false] at hst
        rcases hst with h | h <;> rw [railEnable_on_eq, h]
      rw [ht] at hx honly
      have hr : rail (enableToo q d.target.toNat k) d.target.toNat = _ := rail_setRail_self q hn _
      exact ⟨_, hx, by rw [hr], by rw [hr], honly, .of_mem rfl rfl rfl⟩
    · simp only [List.mem_cons, List.not_mem_nil, or_false] at hst
      rcases hst with h | h <;> rw [hx, railEnable_on_eq, h]
    · rw [hx, railEnable_on_eq, hst]
  · have hx := exec_railEnable hk hn ho
    have honly := (railEnable_onlyRail q d.target.toNat false k).rail
    simp only [hoff, Nat.zero_ne_one, decide_false] at hx
    refine ⟨fun hst => ?_, fun hst hf => ?_, fun hst hf => ?_⟩
    · rw [hx, railEnable_off_eq, hst]
    · obtain ⟨hstate, hwait, hpg⟩ := railEnable_stops hn hst k
      rw [hf] at hstate hwait
      exact ⟨_, hx, hstate, hwait, hpg, honly⟩
    · obtain ⟨hstate, hwait, hpg⟩ := railEnable_stops hn hst k
      rw [hf] at hstate hwait
      exact ⟨_, hx, hstate, hwait, hpg, honly⟩
  · rw [exec_railMode hk, if_pos hm]
  · rw [exec_railMode hk, if_neg (by omega), if_pos hn]
  · rw [exec_railMode hk, if_neg (by omega), if_neg (by omega), railSettle_switching ((modeAsked_switching q hn _ _).trans hsw)]
    rfl
  · have hx := exec_railMode hk
    rw [if_neg (by omega), if_neg (by omega), railSettle_idle ((modeAsked_switching q hn _ _).trans hsw)] at hx
    obtain ⟨hmode, hwait⟩ := modeAsked_taken hn hw k _
    exact ⟨_, hx, hmode, hwait, ((setRail_onlyRail ..).trans ((railBoundary_onlyRail ..).trans (applyMode_onlyRail ..))).rail⟩
  · rw [exec_railCommit hs hv hd hr, railCommitWrite_eq, if_neg]
    rcases hnot with h | h <;> simp [h]
  · refine ⟨railCaptured s n.val, ?_, ?_⟩
    · rw [exec_railCommit hs hv hd hr, railCommitWrite_eq, if_pos (by simp [hb, hc]),
        railSettle_switching ((railCaptured_switching s n.isLt).trans hsw)]
    · refine ⟨?_, (setRail_onlyRail ..).rail, fun _ => rfl, .of_mem rfl rfl rfl, fun off hlo hhi => RegFile.get?_capture _ (by simp [hlo, hhi])⟩
      rw [railCaptured, rail_setRail_self _ n.isLt]
  · refine ⟨applyMode (railBoundary (railCaptured s n.val) n.val) n.val, ?_, ?_, ?_, fun off hlo hhi => ?_⟩
    · rw [exec_railCommit hs hv hd hr, railCommitWrite_eq, if_pos (by simp [hb, hc]), railSettle_idle ((railCaptured_switching s n.isLt).trans hsw)]
    · rw [applyMode_commit _ n.isLt, rail_railBoundary _ n.isLt]
    · exact fun j hj => (((railBoundary_onlyRail ..).trans (applyMode_onlyRail ..)).rail j hj).trans (rail_setRail_other _ _ hj)
    · rw [applyMode_regs, railBoundary_eq]
      exact RegFile.get?_applyCaptured _ _ (by simp [railMine, hlo, hhi])
  · obtain ⟨hrd, hrail, hbytes, hrails⟩ := tmonWritten_frame (railStgWritten (liveNow 0x4000 w s)) w
    refine ⟨_, exec_tmonEnWrite hs hv hd hr w, ?_⟩
    rw [rcCtrlWrite_eq]
    refine ⟨?_, fun hb => ?_, fun hf => ?_, fun hf n hn => ?_⟩
    · rw [flag, hrd, railStgWritten_ctrl]
      exact flag_liveNow_rcCtrl s w
    · rw [tmonWritten_off hb]
      exact ⟨rfl, rfl, rfl⟩
    · rw [railStgWritten_normal (u := liveNow 0x4000 w s) hf] at hrd hbytes hrails ⊢
      exact ⟨fun off h => (hrd off).trans (rd_liveNow_rcCtrl s w h), hbytes, hrails, fun hb => by rw [tmonWritten_on hb]; rfl⟩
    · rw [hrail, railStgWritten_fault (u := liveNow 0x4000 w s) hf]
      exact (stgTurned_forUpTo (liveNow 0x4000 w s) 8 (Nat.le_refl 8)).2.2 n hn

end Sys2Proof.Machine
end

section
/-! PROOFS. The control tick of the charger, and a session without a configuration block (R447, Table 10-6). -/

namespace Sys2Proof.Machine

/-- A suspended session on a charger without a configuration block, which no run reaches: PD_CHG and the root-derived clocks run, no fault is
latched. -/
def unconfiguredSession : State :=
  { State.reset with pwr := { Power.reset with doms := vput initDomains 11 Domain.always, pllRuns := true }
                     chg := { Charger.reset with state := .suspended } }

/-- A tick that measures a pack of 14.0 V, and nothing else. -/
def packOf14V : ChgSample :=
  { va := 0, shuntA := 0, shuntB := 0, vbak := 14000, tj := 0, bntc := 0, cv := 0, iin := 0, vin := 0, peak := 0, boot := 0, vaHeld := 0 }

/-- Without a block there is no CV target, so the tick latches no over-voltage (Table 10-6). -/
theorem unconfiguredSession_latches_nothing : (chgTick (trimTick unconfiguredSession) packOf14V).chg.faults = 0 := by
  decide +kernel

theorem unconfiguredSession_above_target : cvTarget (trimTick unconfiguredSession) + 400 <
   ((packOf14V.vbak.toNat : Int) - roundDiv packOf14V.shuntB.toInt 1000).toNat := by decide +kernel

theorem exec_chgControlTick (r : State) (x : ChgSample) : exec (.chgControlTick x) r = .next (chgTick (trimTick r) x) := rfl

/-- Refutes O51: its clause on an over-voltage of the pack does not ask for a configuration block; in a session without one, which no run of
the charger reaches, VB stands above the CV target 0 of the absent block and nothing is latched. -/
theorem not_chargerControl : ¬ Obligations.ChargerControl := by
  intro h
  obtain ⟨-, -, -, -, -, -, htick⟩ := h
  obtain ⟨-, -, hcalm, -⟩ := htick unconfiguredSession packOf14V rfl rfl
  obtain ⟨-, hov, -⟩ := hcalm rfl rfl rfl
  obtain ⟨t, ht, hlatched, -⟩ := hov rfl rfl rfl unconfiguredSession_above_target
  rw [exec_chgControlTick, Host.Outcome.next.injEq] at ht
  rw [← ht, unconfiguredSession_latches_nothing] at hlatched
  exact absurd hlatched (by decide)

end Sys2Proof.Machine
end

section
/-! PROOFS. What every operation keeps: the queue of commands, the canonical memories, the fault state with SAFE_N, and the power domains with
what bars them (R34, R415, R495, R500, R594, R595). -/

namespace Sys2Proof.Machine

/-! ### What most operations leave as it was -/

/-- What the fault collector has latched. -/
structure Latches where
  status : Word
  details : Sparse Word
  firstValid : Bool
  firstSource : Nat
  firstTime : Stamp
  ovf : Bool
  aliveRun : Bool
  clkSafe : Bool

abbrev latches (s : State) : Latches where
  status := s.flt.status
  details := s.flt.details
  firstValid := s.flt.firstValid
  firstSource := s.flt.firstSource
  firstTime := s.flt.firstTime
  ovf := s.flt.ovf
  aliveRun := s.flt.aliveRun
  clkSafe := s.flt.clkSafe

/-- The parts of the state that most operations leave as they were: the queue of commands, the three memories, the fault state with
SAFE_N, the latches, the line of the internal supplies, and of the power block the domains, the under-voltages, the path and what bars a domain's start, and the PCIe function with its last read. -/
@[ext] structure Seen where
  pending : List Instr
  hostMem : List Host.Cell
  mpSram : List Host.Cell
  flash : List Host.Cell
  faultState : Bool
  safeN : Bool
  latches : Latches
  lineZero : Bool
  activeZero : Bool
  doms : Vector Domain 13
  uvNow : BitVec 8
  uvFlags : BitVec 8
  path : Path
  vsysOk : Bool
  resetLow : Bool
  starting : Bool
  restarting : Bool
  pcie : Pcie
  readData : Word

abbrev seen (s : State) : Seen where
  pending := s.pending
  hostMem := s.hostMem
  mpSram := s.mpSram
  flash := s.flash
  faultState := s.flt.faultState
  safeN := s.flt.safeN
  latches := latches s
  lineZero := (Sparse.get? s.flt.lines 0).isSome
  activeZero := bitOf s.flt.active 0
  doms := s.pwr.doms
  uvNow := s.pwr.uvNow
  uvFlags := s.pwr.uvFlags
  path := s.pwr.path
  vsysOk := s.pwr.vsysOk
  resetLow := s.pwr.resetLow
  starting := 1 ≤ s.pwr.startStep && s.pwr.startStep ≤ 4
  restarting := s.pwr.startStep = 7
  pcie := { s.pcie with posted := [], pba := 0 }
  readData := s.readData

/-- A predicate of the state that looks at those parts only, and survives each of the changes that an operation makes to them. -/
structure Kept (P : State → Prop) : Prop where
  same : ∀ {s t : State}, P s → seen t = seen s → P t
  hostWrite : ∀ {s : State} {a : Nat} {bs : List Byte}, P s → P (hostWrite s a bs)
  /-- The fault state is entered with SAFE_N asserted (R495). -/
  faultEntered : ∀ {s : State}, P s → P { s with flt := { s.flt with faultState := true, safeN := true, aliveRun := false } }

/-- The predicate holds of a state. -/
def Kept.on {P : State → Prop} (_ : Kept P) (s : State) : Prop := P s

/-- It survives every change of the PCIe function too. -/
def Kept.Links {P : State → Prop} (K : Kept P) : Prop := ∀ {s : State} {p : Pcie} {w : Word}, K.on s → K.on { s with pcie := p, readData := w }

/-- It survives what is stored in MP SRAM and the flash too. -/
structure Kept.Stores {P : State → Prop} (K : Kept P) : Prop where
  sramWrite : ∀ {s : State} {a : Nat} {bs : List Byte}, K.on s → K.on (sramWrite s a bs)
  sramLost : ∀ {s : State}, K.on s → K.on { s with mpSram := [] }
  flashWrite : ∀ {s : State} {a : Nat} {bs : List Byte}, K.on s → K.on (flashWrite s a bs)
  flashErase : ∀ {s : State} {a n : Nat}, K.on s → K.on (flashErase s a n)

/-- It survives the transitions of domain `k`, or of any domain, too. -/
structure Kept.MovesAt {P : State → Prop} (K : Kept P) (k : Nat) : Prop where
  dom : ∀ {s : State} {d : Domain}, K.on s → K.on (setDom s k d)
  links : K.Links
  stores : K.Stores

def Kept.Moves {P : State → Prop} (K : Kept P) : Prop := ∀ k, K.MovesAt k

/-- It survives every change of the power block, of the PCIe function, and of the fault collector's lines and latches. -/
structure Kept.Free {P : State → Prop} (K : Kept P) : Prop where
  links : K.Links
  stores : K.Stores
  power : ∀ {s : State} {p : Power}, K.on s → K.on { s with pwr := p }
  lines : ∀ {s : State} {f : Faults}, f.faultState = s.flt.faultState → f.safeN = s.flt.safeN → K.on s → K.on { s with flt := f }
  /-- SAFE_N follows the fault state at the end of the OTP load (R500). -/
  safeFollows : ∀ {s : State} {go : Bool}, K.on s → K.on { s with flt := { s.flt with safeN := s.flt.faultState, aliveRun := go } }

theorem Kept.Free.moves {P : State → Prop} {K : Kept P} (F : K.Free) : K.Moves := fun _ => ⟨F.power, F.links, F.stores⟩

/-- The outcome is a stop, or a next state with the property. -/
def Kept.after {P : State → Prop} (K : Kept P) : Host.Outcome State Fault Refusal → Prop
  | .next t => K.on t
  | .fault _ => True
  | .refused _ => True

/-- An update of anything else leaves them. -/
theorem upd_seen {s : State} {regs posted pba glb qe evr held sb ct lp mc ox park gauge rc seq flk holdByOv retTiming retFrom vmainQual vmainOv vbakPresent
  vrtcOk saveActive saveEnded returns switchovers ovFlags trim saveDone saveIncomplete bkpLost wake pllRuns chg goose0 goose1 restart ret otp nvm rtc mp wakePcie wakeMp
  g0Reset g0ResetAt upSeconds free lowerReject aliveHigh pllFirst rootOverride} :
    seen { s with regs := regs, pcie := { s.pcie with posted := posted, pba := pba }, glb := glb, qe := qe, evr := evr, held := held, sb := sb, ct := ct, lp := lp, mc := mc, ox := ox, park := park,
                  gauge := gauge, rc := rc, seq := seq, flk := flk,
                  pwr := { s.pwr with holdByOv := holdByOv, retTiming := retTiming, retFrom := retFrom, vmainQual := vmainQual, vmainOv := vmainOv, vbakPresent := vbakPresent,
                                      vrtcOk := vrtcOk, saveActive := saveActive, saveEnded := saveEnded, returns := returns, switchovers := switchovers,
                                      ovFlags := ovFlags, trim := trim, saveDone := saveDone, saveIncomplete := saveIncomplete, bkpLost := bkpLost, wake := wake, pllRuns := pllRuns },
                  chg := chg, goose0 := goose0, goose1 := goose1, restart := restart, ret := ret,
                  otp := otp, nvm := nvm, rtc := rtc, mp := mp, wakePcie := wakePcie, wakeMp := wakeMp, g0Reset := g0Reset, g0ResetAt := g0ResetAt,
                  upSeconds := upSeconds, free := free,
                  flt := { s.flt with lowerReject := lowerReject, aliveHigh := aliveHigh, pllFirst := pllFirst, rootOverride := rootOverride } } = seen s := rfl

theorem bitOf_maskOf {n lo len i : Nat} (h : lo + len ≤ n) : bitOf (maskOf n lo len) i = (decide (lo ≤ i) && decide (i < lo + len)) := by
  have hm : (2 ^ len - 1) * 2 ^ lo < 2 ^ n := by
    calc (2 ^ len - 1) * 2 ^ lo < 2 ^ len * 2 ^ lo := Nat.mul_lt_mul_of_pos_right (Nat.sub_lt (Nat.two_pow_pos _) Nat.one_pos) (Nat.two_pow_pos _)
      _ = 2 ^ (lo + len) := by rw [← Nat.pow_add, Nat.add_comm]
      _ ≤ 2 ^ n := Nat.pow_le_pow_right (by decide) h
  rw [bitOf, maskOf, BitVec.getLsbD_ofNat, Nat.mul_comm, Nat.testBit_two_pow_mul, Nat.testBit_two_pow_sub_one]
  by_cases hl : lo ≤ i
  · by_cases hi : i < lo + len
    · simp [hl, hi, show i < n by omega, show i - lo < len by omega]
    · simp [hi, show ¬ i - lo < len by omega]
  · simp [hl]

theorem bitZero_or (w : Word) {k : Nat} (hk : k ≠ 0) (h : k + 1 ≤ 32) : bitOf (w ||| maskOf 32 k 1) 0 = bitOf w 0 := by
  have hm := bitOf_maskOf (n := 32) (lo := k) (len := 1) (i := 0) h
  rw [show decide (k ≤ 0) = false by simp [hk], Bool.false_and, bitOf] at hm
  simp only [bitOf, BitVec.getLsbD_or, hm, Bool.or_false]

theorem bitZero_and_not (w : Word) {k : Nat} (hk : k ≠ 0) (h : k + 1 ≤ 32) : bitOf (w &&& ~~~ maskOf 32 k 1) 0 = bitOf w 0 := by
  have hm := bitOf_maskOf (n := 32) (lo := k) (len := 1) (i := 0) h
  rw [show decide (k ≤ 0) = false by simp [hk], Bool.false_and, bitOf] at hm
  simp only [bitOf, BitVec.getLsbD_and, BitVec.getLsbD_not, hm, Bool.not_false, Bool.and_true, Nat.zero_lt_succ, decide_true]

theorem seen_ite {c : Prop} [Decidable c] {a b : State} {v} (ha : seen a = v) (hb : seen b = v) : seen (if c then a else b) = v := by
  split
  · exact ha
  · exact hb

theorem kept_ite {α : Sort _} {P : α → Prop} {c : Prop} [Decidable c] {a b : α} (ha : P a) (hb : P b) : P (if c then a else b) := by
  split
  · exact ha
  · exact hb

theorem ite_of {α : Sort _} {P : α → Prop} {c : Prop} [Decidable c] {a b : α} (ha : c → P a) (hb : ¬ c → P b) : P (if c then a else b) := by
  split
  · exact ha ‹_›
  · exact hb ‹_›

theorem forUpTo_kept {P : State → Prop} {n : Nat} {f : Nat → State → State} {s : State} (h : P s) (hf : ∀ i q, P q → P (f i q)) : P (forUpTo n f s) :=
  forUpTo_induct n h fun i q _ => hf i q

theorem forEach_kept {α : Type} {P : State → Prop} {l : List α} {f : α → State → State} {s : State} (h : P s) (hf : ∀ a q, P q → P (f a q)) :
    P (forEach l f s) := forEach_induct h fun a _ => hf a

theorem arrive_host_seen {s q : State} {op : Nat} {n : Fin 4} {d : Desc} {k : Ticket} (h : arrive s op (.host n) d = some (q, k)) :
    seen q = seen s := by
  unfold arrive at h; dsimp only at h
  split at h
  · cases h
  · split at h
    · split at h
      · cases h; exact upd_seen
      · cases h
    · split at h
      · cases h
      · cases h; exact upd_seen
theorem evGooseLast_seen (s : State) : seen (evGooseLast s) = seen s := seen_ite rfl rfl
theorem assertLine_seen (s : State) {k : Nat} (detail : Word) (hk : k ≠ 0) : seen (assertLine s k detail) = seen s := by
  unfold assertLine
  split
  · rfl
  · exact Seen.ext rfl rfl rfl rfl rfl rfl rfl (congrArg Option.isSome (Sparse.get?_set_other s.flt.lines detail hk.symm)) rfl rfl rfl rfl rfl rfl rfl rfl rfl rfl rfl
theorem endLine_seen (s : State) {k : Nat} (hk : k ≠ 0) (h : k < 32) : seen (endLine s k) = seen s :=
  Seen.ext rfl rfl rfl rfl rfl rfl rfl rfl (bitZero_and_not s.flt.active hk h) rfl rfl rfl rfl rfl rfl rfl rfl rfl rfl
theorem holdLine_seen (s : State) {k : Nat} (detail : Word) (hk : k ≠ 0) (h : k < 32) : seen (holdLine s k detail) = seen s :=
  (Seen.ext rfl rfl rfl rfl rfl rfl rfl rfl (bitZero_or (assertLine s k detail).flt.active hk h) rfl rfl rfl rfl rfl rfl rfl rfl rfl rfl :
    seen (holdLine s k detail) = seen (assertLine s k detail)).trans (assertLine_seen s detail hk)
theorem linesLost_seen (s : State) (dom : Nat) : seen (linesLost s dom) = seen s := by
  have h : (Sparse.get? (linesLost s dom).flt.lines 0).isSome = (Sparse.get? s.flt.lines 0).isSome := by
    suffices h : ∀ l : Sparse Word, (Sparse.get? (l.filter fun e => lineDomain s e.1 e.2 ≠ some dom) 0).isSome = (Sparse.get? l 0).isSome from h _
    intro l
    induction l with
    | nil => rfl
    | cons e l ih =>
      obtain ⟨k, d⟩ := e
      by_cases hk : k = 0
      · subst hk
        simp [lineDomain, Sparse.get?]
      · by_cases hd : lineDomain s k d = some dom
        · simpa [List.filter_cons, hd, Sparse.get?, hk] using ih
        · simpa [List.filter_cons, hd, Sparse.get?, hk] using ih
  exact Seen.ext rfl rfl rfl rfl rfl rfl rfl h rfl rfl rfl rfl rfl rfl rfl rfl rfl rfl rfl
theorem recordDoorbell_seen (s : State) (w : Nat) (v : Word) : seen (recordDoorbell s w v) = seen s := seen_ite rfl (seen_ite rfl rfl)
theorem sqDoorbell_seen (s : State) (n : Nat) (v : Word) : seen (sqDoorbell s n v) = seen s :=
  seen_ite rfl (seen_ite (recordDoorbell_seen ..) (seen_ite rfl rfl))
theorem headDoorbell_seen (s : State) (w : Nat) (v : Word) : seen (headDoorbell s w v) = seen s :=
  seen_ite rfl (seen_ite (recordDoorbell_seen ..) (seen_ite rfl (seen_ite rfl rfl)))
theorem returnDoorbell_seen (s : State) (m : Nat) (v : Word) : seen (returnDoorbell s m v) = seen s :=
  seen_ite rfl (seen_ite (recordDoorbell_seen ..) (seen_ite rfl (seen_ite rfl rfl)))
theorem bar2Write_seen (s : State) (off : Nat) (v : Word) : seen (bar2Write s off v) = seen s := by
  unfold bar2Write
  split
  · exact rfl
  · exact seen_ite (sqDoorbell_seen ..) (seen_ite (headDoorbell_seen ..) (returnDoorbell_seen ..))
theorem wakeNote_seen (s : State) (code : Nat) : seen (wakeNote s code) = seen s := seen_ite rfl rfl
theorem wakeOther_seen (s : State) : seen (wakeOther s) = seen s := wakeNote_seen ..
theorem rtcTimeRead_seen (s : State) : seen (rtcTimeRead s).1 = seen s := rfl
theorem drivePhases_seen (s : State) (n : Nat) (v : Pwm) : seen (drivePhases s n v) = seen s := forEach_same seen _ _ fun _ _ => rfl
theorem reasonLine_ne_zero (reason n : Nat) : reasonLine reason n ≠ 0 := by
  unfold reasonLine
  split <;> omega
theorem railFaultToo_seen (s : State) (n reason phases : Nat) (m : Option RailMeas) : seen (railFaultToo s n reason phases m) = seen s :=
  seen_ite ((drivePhases_seen ..).trans (seen_ite (assertLine_seen _ _ (reasonLine_ne_zero _ _)) (assertLine_seen _ _ (reasonLine_ne_zero _ _)))) (seen_ite (assertLine_seen _ _ (reasonLine_ne_zero _ _)) (assertLine_seen _ _ (reasonLine_ne_zero _ _)))
theorem railQuiet_seen (s : State) (n : Nat) : seen (railQuiet s n) = seen s := forEach_same seen _ _ fun _ _ => rfl
theorem phasesFree_seen (s : State) : seen (phasesFree s) = seen s := by
  unfold phasesFree
  exact forUpTo_same seen _ _ fun _ _ => seen_ite rfl upd_seen
theorem rampStep_seen (s : State) (n : Nat) : seen (rampStep s n) = seen s := by
  unfold rampStep; dsimp only
  split
  · exact rfl
  · exact rfl
theorem firePulse_seen (s : State) (n p : Nat) (i ton iRail : Rat) : seen (firePulse s n p i ton iRail) = seen s := seen_ite rfl rfl
theorem driveCycle_seen (s : State) (n : Nat) (x : RailSample) : seen (driveCycle s n x) = seen s := forEach_same seen _ _ fun _ _ => rfl
theorem takeVin_seen (s : State) (x : RailSample) : seen (takeVin s x) = seen s := forEach_same seen _ _ fun _ _ => seen_ite rfl rfl
theorem railSleep_seen (s : State) (n : Nat) : seen (railSleep s n) = seen s := forEach_same seen _ _ fun _ _ => rfl
theorem hostRstUpdate_seen (s : State) : seen (hostRstUpdate s) = seen s := seen_ite rfl (seen_ite rfl (seen_ite rfl rfl))
theorem driveEn_seen (s : State) (c : SeqRec) (active : Bool) : seen (driveEn s c active) = seen s := seen_ite rfl rfl
theorem seqHostRst_seen (s : State) (v : Bool) : seen (seqHostRst s v) = seen s := hostRstUpdate_seen ..
theorem wdiUpdate_seen (s : State) : seen (wdiUpdate s) = seen s := seen_ite rfl (seen_ite rfl rfl)
theorem seqState_seen (s : State) (x : SeqState) : seen (seqState s x) = seen s := wdiUpdate_seen ..
theorem flkTryEdge_seen (s : State) : seen (flkTryEdge s) = seen s := seen_ite rfl rfl
theorem flkArm_seen (s : State) : seen (flkArm s) = seen s := flkTryEdge_seen ..
theorem pgBecomesGood_seen (s : State) (i : Nat) (clk : Option Word) : seen (pgBecomesGood s i clk) = seen s := by
  unfold pgBecomesGood; dsimp only
  split
  · exact rfl
  · exact seen_ite rfl rfl
theorem seqInstall_seen (s : State) (ms : List (Option SeqRec)) (crc : Nat) : seen (seqInstall s ms crc) = seen s := by
  unfold seqInstall; dsimp only
  refine (seqHostRst_seen ..).trans ?_
  refine (forEach_same seen _ _ fun _ _ => ?_).trans (seqState_seen ..)
  split
  · exact driveEn_seen ..
  · exact rfl
theorem memberDrivenOff_seen (s : State) (i : Nat) : seen (memberDrivenOff i s) = seen s := by
  unfold memberDrivenOff
  split
  · exact rfl
  · exact rfl
theorem safeRailMembers_seen (s : State) : seen (safeRailMembers s) = seen s := by
  unfold safeRailMembers
  split
  · exact rfl
  · refine forUpTo_same seen _ _ fun _ _ => ?_
    split
    · exact seen_ite rfl rfl
    · exact rfl
theorem setGoose_seen (s : State) (i : Nat) (g : Goose) : seen (setGoose s i g) = seen s := seen_ite rfl rfl
theorem setStreak_seen (s : State) (i v : Nat) : seen (setStreak s i v) = seen s := seen_ite rfl rfl
theorem gooseBoot_seen (s : State) (i : Nat) : seen (gooseBoot s i) = seen s := setGoose_seen ..
theorem noteCount_seen (s : State) (k : Nat) : seen (noteCount s k) = seen s := rfl
theorem noteLog_seen (s : State) (type : Nat) (data : BitVec 128) : seen (noteLog s type data) = seen s := rfl
theorem resetCountInc_seen (s : State) : seen (resetCountInc s) = seen s := rfl
theorem gooseLast_seen (s : State) (d : DWord) (pending : Bool) : seen (gooseLast s d pending) = seen s := rfl
theorem gooseAfter_seen (s : State) (i : Nat) : seen (gooseAfter s i) = seen s := setGoose_seen ..
theorem goose1Loaded_seen (s : State) : seen (goose1Loaded s) = seen s := seen_ite rfl rfl
theorem goose1Start_seen (s : State) : seen (goose1Start s) = seen s := gooseBoot_seen ..
theorem gooseRecord_seen (s : State) (i kind : Nat) : seen (gooseRecord s i kind) = seen s := setGoose_seen ..
theorem gooseSuppressed_seen (s : State) (i kind : Nat) : seen (gooseSuppressed s i kind) = seen s := (gooseAfter_seen ..).trans (gooseRecord_seen ..)
theorem gooseServe_seen (s : State) (i : Nat) : seen (gooseServe s i) = seen s := (setGoose_seen ..).trans (setStreak_seen ..)
theorem nvLook_seen (s : State) (ps : List Nat) : seen (nvLook ps s) = seen s := forEach_same seen _ _ fun _ _ => seen_ite rfl rfl
theorem nvBytes_seen (s : State) (off n : Nat) : seen (nvBytes s off n).1 = seen s := forEach_same seen _ _ fun _ _ => rfl
theorem nvmOwn_seen (s : State) (page off : Nat) (bs : List Byte) : seen (nvmOwn s page off bs) = seen s := by
  unfold nvmOwn; dsimp only
  split
  · exact rfl
  · split
    · exact rfl
    · split
      · exact seen_ite rfl rfl
      · exact seen_ite rfl rfl
theorem countRollover_seen (s : State) (c : CountCopy) : seen (countRollover s c) = seen s := nvmOwn_seen ..
theorem countBit_seen (s : State) (k : Nat) : seen (countBit s k) = seen s := by
  unfold countBit
  split
  · exact rfl
  · split
    · exact seen_ite rfl rfl
    · exact rfl
theorem countInc_seen (s0 : State) (k : Nat) : seen (countInc s0 k) = seen s0 := by
  unfold countInc; dsimp only
  split
  · exact (nvmOwn_seen ..).trans (nvLook_seen ..)
  · exact seen_ite (((countBit_seen ..).trans (countRollover_seen ..)).trans (nvLook_seen ..)) ((countBit_seen ..).trans (nvLook_seen ..))
theorem otpRun_seen : ∀ (l : List (Nat × Word)) (s : State) (cut : Option OtpCut), seen (otpRun s l cut).1 = seen s
  | [], _, _ => rfl
  | _ :: es, s, none => otpRun_seen es (otpWrite s _ _) none
  | e :: es, s, some c => by
    unfold otpRun
    split
    · rfl
    · exact otpRun_seen es (otpWrite s _ _) _
theorem markLocked_seen (s : State) (rs : List Nat) : seen (markLocked s rs) = seen s := rfl
theorem lockRegion_seen (s : State) (r : Nat) (cut : Option OtpCut) : seen (lockRegion s r cut).1 = seen s :=
  (markLocked_seen ..).trans (otpRun_seen ..)
theorem bootWrite_seen (s : State) (c : BootCtl) : seen (bootWrite s c) = seen s := nvmOwn_seen ..
theorem mpTodoDo_seen (s : State) (e : MpTodo) : seen (mpTodoDo e s) = seen s := by
  unfold mpTodoDo; dsimp only
  split
  · exact countInc_seen ..
  · exact nvmOwn_seen ..
theorem mpFlush_seen (s : State) : seen (mpFlush s) = seen s := seen_ite (forEach_same seen _ _ fun _ _ => mpTodoDo_seen ..) rfl
theorem derateApply_seen (s : State) (p : Nat) : seen (derateApply s p) = seen s := seen_ite rfl rfl
theorem derateAll_seen (s : State) : seen (derateAll s) = seen s := by
  unfold derateAll
  exact forUpTo_same seen _ _ fun _ _ => seen_ite (derateApply_seen ..) rfl
theorem ageingWrite_seen (s : State) (v : Int) : seen (ageingWrite s v) = seen s := nvmOwn_seen ..
theorem trimStep_seen (s : State) : seen (trimStep s) = seen s := by
  unfold trimStep; dsimp only
  split
  · exact rfl
  · exact rfl
theorem trimTo_seen (s : State) (v : Int) : seen (trimTo s v) = seen s := trimStep_seen ..
theorem planStore_seen (s : State) : seen (planStore s) = seen s := (nvmOwn_seen ..).trans (forUpTo_same seen _ _ fun _ _ => nvmOwn_seen ..)
theorem planReapply_seen (s : State) (rev : Nat) (recs : List Byte) : seen (planReapply s rev recs) = seen s :=
  (trimTo_seen ..).trans (derateAll_seen ..)
theorem mpNoImage_seen (s : State) : seen (mpNoImage s) = seen s := assertLine_seen _ _ (by decide)
theorem calWrite_seen (s : State) (via : Via) (o : RtcOp) : seen (calWrite via o s) = seen s := seen_ite rfl rfl
theorem chgTry_seen (s : State) : seen (chgTry s) = seen s := by
  unfold chgTry; dsimp only
  split
  · exact rfl
  · exact rfl
theorem chgCandFail_seen (s : State) : seen (chgCandFail s) = seen s := chgTry_seen ..
theorem setMp_seen (s : State) (m : Mp) : seen (setMp s m) = seen s := rfl
theorem setPark_seen (s : State) (p : Parking) : seen (setPark s p) = seen s := rfl
theorem logLost_seen (s : State) : seen (logLost s) = seen s := rfl
theorem slotVersions_seen (s : State) : seen (slotVersions s) = seen s := Eq.trans (b := seen s) rfl rfl
theorem bootShow_seen (s : State) (c : BootCtl) : seen (bootShow s c) = seen s := rfl
theorem setChg_seen (s : State) (c : Charger) : seen (setChg s c) = seen s := rfl
theorem senseB_seen (s : State) (x : ChgSample) : seen (senseB s x) = seen s := rfl
theorem chgMeasure_seen (s : State) (x : ChgSample) : seen (chgMeasure s x) = seen s := (setChg_seen _ _).trans (senseB_seen s x)
theorem qbAdd_seen (s : State) (ib : Int) : seen (qbAdd s ib) = seen s := rfl
theorem chgStage_seen (s : State) (x : ChgSample) : seen (chgStage s x) = seen s := (setChg_seen _ _).trans (setChg_seen _ _)
theorem chgRuns1_seen (s : State) : seen (chgRuns1 s) = seen s := setChg_seen ..
theorem secondClear_seen (s : State) : seen (secondClear s) = seen s := rfl
theorem sweepAnew_seen (s : State) : seen (sweepAnew s) = seen s := upd_seen
theorem authStart_seen (s : State) : seen (authStart s) = seen s := upd_seen
theorem vocTick_seen (s : State) : seen (vocTick s) = seen s := by
  unfold vocTick; dsimp only
  split
  · exact upd_seen
  · exact seen_ite upd_seen (seen_ite upd_seen upd_seen)
theorem bandApply_seen (s : State) : seen (bandApply s) = seen s := seen_ite upd_seen (seen_ite upd_seen upd_seen)
theorem revRamp_seen (s : State) : seen (revRamp s) = seen s := seen_ite rfl rfl
theorem chgPhase_seen (s : State) : seen (chgPhase s) = seen s := by
  unfold chgPhase; dsimp only
  split
  · exact rfl
  · exact rfl
  · exact rfl
  · exact rfl
theorem chgTimers_seen (s : State) : seen (chgTimers s) = seen s := seen_ite rfl (seen_ite rfl rfl)
theorem chgQualTick_seen (s : State) : seen (chgQualTick s) = seen s := seen_ite rfl (seen_ite (chgCandFail_seen ..) rfl)
theorem fltTest_seen (s : State) (w : Word) : seen (fltTest s w) = seen s := seen_ite (assertLine_seen _ _ (by decide)) rfl
theorem piJudge_seen (s : State) (a : Nat) : seen (piJudge s a) = seen s := seen_ite rfl rfl
theorem portRates_seen (s : State) (p : Nat) : seen (portRates p s) = seen s := seen_ite rfl rfl
theorem cmdChallenge_seen (s : State) (p : Nat) (c : NodeCmd) : seen (cmdChallenge s p c).1 = seen s := by
  unfold cmdChallenge
  split
  · rfl
  · rfl
theorem sendTrain_seen (s : State) (p : Nat) (chainB : Bool) : seen (sendTrain s p chainB) = seen s := by
  unfold sendTrain; dsimp only
  split
  · exact cmdChallenge_seen ..
  · rfl
theorem fitsDue_seen (s : State) (c : Capture) (k : CapNode) : seen (fitsDue s c k) = seen s := seen_ite rfl rfl
theorem capMark_seen (s : State) (a : Nat) (ks : List Nat) (t : Stamp) : seen (capMark s a ks t) = seen s := by
  unfold capMark
  split
  · exact rfl
  · exact seen_ite rfl (forEach_same seen _ _ fun _ _ => forUpTo_same seen _ _ fun _ _ => rfl)
theorem askMissing_seen (s : State) (a : Nat) (c : Capture) : seen (askMissing s a c) = seen s := by
  unfold askMissing
  split
  · exact seen_ite rfl rfl
  · exact rfl
theorem askOldest_seen (s : State) (a : Nat) : seen (askOldest s a) = seen s := by
  unfold askOldest
  split
  · exact askMissing_seen ..
  · exact rfl
theorem captPort_seen (s : State) (us : Nat) (n : Byte) (p : Nat) : seen (captPort us n p s) = seen s := seen_ite rfl (seen_ite rfl rfl)
theorem takeFree_seen (s : State) : seen (takeFree s) = seen s := rfl
theorem updCapture_seen (s : State) (seq : Word) (f : Capture → Capture) : seen (updCapture s seq f) = seen s := rfl
theorem updCapNode_seen (s : State) (seq : Word) (a : Nat) (f : CapNode → CapNode) : seen (updCapNode s seq a f) = seen s := rfl
theorem cmdTiming_seen (s : State) (a why : Nat) : seen (cmdTiming s a why).1 = seen s := rfl
theorem captEmit_seen (s : State) (us d : Nat) (forced : Bool) : seen (captEmit s us d forced) = seen s := by
  unfold captEmit
  extract_lets seq ref behind captTs s0 refTs s1 ringTs s2 dualTs s3 all part nodes c m s4
  have h3 : seen s3 = seen s := (takeFree_seen s2).trans ((takeFree_seen s1).trans ((takeFree_seen s0).trans (takeFree_seen s)))
  clear_value s3 c
  clear_value m
  have h4 : seen s4 = seen s3 := rfl
  clear_value s4
  exact (forEach_same seen _ _ fun _ _ => captPort_seen ..).trans (h4.trans h3)
theorem enumNote_seen (s : State) (p status : Nat) : seen (enumNote s p status) = seen s := by
  unfold enumNote; dsimp only
  split
  · exact seen_ite rfl rfl
  · exact rfl
theorem addressNodes_seen (s : State) (p : Nat) (at_ : Nat → Option Bool) : seen (addressNodes s p at_) = seen s := by
  unfold addressNodes; dsimp only
  refine forUpTo_same seen _ _ fun _ _ => ?_
  split
  · exact rfl
  · exact rfl
theorem cmdTimings_seen (p why : Nat) (l : List Nat) : ∀ r : State × List NodeCmd,
    seen (l.foldl (fun a k => let c := cmdTiming a.1 (32 * p + k) why; (c.1, a.2 ++ [c.2])) r).1 = seen r.1 := by
  induction l with
  | nil => exact fun _ => rfl
  | cons k l ih => exact fun r => ih _

theorem enumLock_seen (s : State) (p : Nat) (whole : Bool) : seen (enumLock s p whole) = seen s := by
  unfold enumLock; dsimp only
  split
  · exact seen_ite rfl (seen_ite rfl rfl)
  · exact rfl
theorem subBlockIn_seen (s : State) (a : Nat) (b : Nat × List Byte) : seen (subBlockIn a b s) = seen s := by
  unfold subBlockIn; dsimp only
  split
  · exact seen_ite rfl rfl
  · exact seen_ite rfl rfl
  · exact seen_ite rfl rfl
  · exact seen_ite rfl rfl
  · exact seen_ite rfl rfl
  · exact rfl
theorem groupCycle_seen (s : State) (k : Tick) (c : Nat) (x : Int) : seen (groupCycle s k c x) = seen s := by
  unfold groupCycle; dsimp only
  split
  · exact upd_seen
  · rfl
theorem packCycle_seen (s : State) (k : Tick) (c : Nat) : seen (packCycle s k c) = seen s := by
  unfold packCycle; dsimp only
  split
  · exact rfl
  · exact rfl
theorem holdSample_seen (s : State) (k : Tick) (r : BitVec 11552) (kind t c : Nat) : seen (holdSample k r kind t c s) = seen s := by
  unfold holdSample; dsimp only
  split
  · exact rfl
  · exact groupCycle_seen ..
  · exact seen_ite rfl rfl
  · exact packCycle_seen ..
  · exact rfl
  · exact rfl
theorem holdSamples_seen (s : State) (k : Tick) (a : Nat) (r : BitVec 11552) : seen (holdSamples s k a r) = seen s := by
  unfold holdSamples; dsimp only
  split
  · exact rfl
  · exact seen_ite rfl (forEach_same seen _ _ fun _ _ => forUpTo_same seen _ _ fun _ _ => seen_ite rfl (holdSample_seen ..))
theorem voltageCheck_seen (s : State) (a : Nat) (counts : Bool) (r : BitVec 11552) : seen (voltageCheck s a counts r) = seen s := by
  refine forUpTo_same seen _ _ fun _ _ => seen_ite rfl ?_
  have h : ∀ q : State, ∀ n : Node, seen (setNode q a n) = seen q := fun _ _ => upd_seen
  exact seen_ite ((assertLine_seen _ _ (by decide)).trans (seen_ite ((assertLine_seen _ _ (by decide)).trans (h ..)) (h ..))) (seen_ite ((assertLine_seen _ _ (by decide)).trans (h ..)) (h ..))
theorem heatCheck_seen (s : State) (a : Nat) (counts : Bool) (r : BitVec 11552) : seen (heatCheck s a counts r) = seen s :=
  seen_ite rfl (forUpTo_same seen _ _ fun _ _ => seen_ite (assertLine_seen _ _ (by decide)) rfl)
theorem clusterCheck_seen (s : State) (a : Nat) (r : BitVec 11552) : seen (clusterCheck s a r) = seen s := seen_ite (assertLine_seen _ _ (by decide)) rfl
theorem syncCheck_seen (s : State) : seen (syncCheck s) = seen s := seen_ite (seen_ite (holdLine_seen _ _ (by decide) (by decide)) rfl) (endLine_seen _ (by decide) (by decide))
theorem packOcCheck_seen (s : State) (x : BitVec 20) : seen (packOcCheck s x) = seen s :=
  seen_ite rfl (seen_ite rfl (seen_ite (assertLine_seen _ _ (by decide)) rfl))
theorem flagStep_seen (s : State) (a : Nat) (old : BitVec 1024) (r : BitVec 11552) (t : Nat) : seen (flagStep a old r t s) = seen s := by
  unfold flagStep; dsimp only
  split
  · exact rfl
  · split
    · split
      · split
        · split
          · exact rfl
          · exact rfl
        · exact rfl
      · split
        · split
          · exact rfl
          · exact rfl
        · exact rfl
    · split
      · split
        · split
          · split
            · exact rfl
            · exact rfl
          · exact rfl
        · split
          · split
            · exact rfl
            · exact rfl
          · exact rfl
      · split
        · split
          · exact rfl
          · exact rfl
        · exact rfl
theorem holdDelta_seen (s : State) (a : Nat) (d : Nat → Delta) (i : Nat) : seen (holdDelta a d i s) = seen s := by
  unfold holdDelta
  split
  · exact rfl
  · exact seen_ite rfl rfl
theorem accRecord_seen (s : State) (a : Nat) (r : BitVec 24032) : seen (accRecord s a r) = seen s := by
  unfold accRecord
  split
  · rfl
  · split
    · rfl
    · extract_lets n v t n1 s1
      have h1 : seen s1 = seen s := rfl
      split
      · exact h1
      · split
        · rfl
        · clear_value s1
          extract_lets sum
          generalize 497 = channels
          refine seen_ite ((forUpTo_same seen _ _ fun _ _ => holdDelta_seen ..).trans ?_) ?_
          · exact seen_ite (upd_seen.trans h1) h1
          · exact seen_ite (upd_seen.trans h1) h1
theorem shuntTell_seen (s : State) : seen (shuntTell s) = seen s :=
  seen_ite upd_seen ((piJudge_seen ..).trans (seen_ite (seen_ite (seen_ite upd_seen upd_seen) upd_seen) (seen_ite (seen_ite upd_seen upd_seen) upd_seen)))
theorem latchNow_seen (s : State) (k : Tick) : seen (latchNow s k) = seen s := forEach_same seen _ _ fun _ _ => rfl
theorem portCycle_seen (s : State) (p : Nat) : seen (portCycle p s) = seen s := portRates_seen ..
theorem linkLive_seen (s : State) (off : Nat) (w : Word) : seen (linkLive s off w) = seen s := seen_ite rfl (seen_ite (piJudge_seen ..) rfl)
theorem lpCtrlWrite_seen (s : State) (w : Word) : seen (lpCtrlWrite s w) = seen s :=
  (linkLive_seen ..).trans (seen_ite (seen_ite rfl rfl) (seen_ite rfl rfl))
theorem latchJoin_seen (s : State) (p : Nat) : seen (latchJoin p s) = seen s := seen_ite rfl rfl
theorem leaveParent_seen (s : State) (c p : Nat) : seen (leaveParent c p s) = seen s := by
  unfold leaveParent
  split
  · split
    · exact rfl
    · split
      · exact rfl
      · exact rfl
  · exact rfl
theorem cellToGroup_seen (s0 : State) (c : Nat) (q : Rat) (h : ChanPend) (e : Entry) : seen (cellToGroup c q h e s0) = seen s0 := by
  unfold cellToGroup; dsimp only
  split
  · exact leaveParent_seen ..
  · exact leaveParent_seen ..
theorem passEstimate_seen (c : Nat) (e : Entry) (s : State) : seen (passEstimate c e s).1 = seen s := by
  unfold passEstimate; dsimp only
  split
  · rfl
  · split
    · rfl
    · rfl
theorem usedUp_seen (s : State) (passed open_ shareUp : Bool) (c : Nat) : seen (usedUp s passed open_ shareUp c) = seen s := upd_seen
theorem pendMod_seen (s : State) (c : Nat) (f : ChanPend → ChanPend) : seen (pendMod s c f) = seen s := upd_seen
theorem ctHostErr_seen (s : State) : seen (ctHostErr s) = seen s := upd_seen
theorem forgetTable_seen (s : State) : seen (forgetTable s) = seen s := upd_seen
theorem parkPassed_seen (s : State) (c : Nat) : seen (parkPassed c s) = seen s := seen_ite rfl rfl
theorem fitCompute_seen (s : State) : seen (fitCompute s) = seen s := by
  unfold fitCompute; dsimp only
  split
  · exact rfl
  · split
    · exact rfl
    · split
      · exact rfl
      · split
        · exact rfl
        · exact seen_ite rfl rfl
theorem ctRebuild_seen (s : State) (w : CtWait) : seen (ctRebuild s w).1 = seen s := by
  unfold ctRebuild; dsimp only
  split
  · rfl
  · split
    · rfl
    · split
      · rfl
      · split
        · rfl
        · rfl
theorem muleInstall_seen (s : State) : seen (muleInstall s) = seen s := forUpTo_same seen _ _ fun _ _ => rfl
theorem oxCtrlWrite_seen (s : State) (w : Word) : seen (oxCtrlWrite s w) = seen s := seen_ite rfl rfl
theorem epochStart_seen (s : State) : seen (epochStart s) = seen s := upd_seen
theorem muleBoundary_seen {s t : State} (h : muleBoundary s = some t) : seen t = seen s := by
  unfold muleBoundary at h; dsimp only at h
  split at h
  · cases h; rfl
  · split at h
    · cases h; rfl
    · cases h
  · cases h
  · cases h; rfl
theorem muleReplay_seen (s : State) : seen (muleReplay s) = seen s := seen_ite rfl rfl
theorem parkSkip_seen (s : State) : seen (parkSkip s) = seen s := seen_ite rfl rfl
theorem shadowLoad_seen (s : State) : seen (shadowLoad s) = seen s := by
  refine Eq.trans ?_ (nvLook_seen s ((List.range 32).map fun k => k + 64))
  unfold shadowLoad; dsimp only
  generalize nvLook _ s = q
  split
  · exact seen_ite rfl rfl
  · rfl
  · rfl
  · rfl
theorem saveBegin_seen (s : State) (power : Bool) : seen (saveBegin s power) = seen s :=
  seen_ite (seen_ite upd_seen upd_seen) (seen_ite (seen_ite upd_seen upd_seen) (forUpTo_same seen _ _ fun _ _ => upd_seen))
theorem saveFinish_seen (s : State) (power : Bool) : seen (saveFinish s power) = seen s := seen_ite upd_seen upd_seen
theorem parkAcc_seen (s : State) (acc : Option (BitVec 48 × Nat)) : seen (parkAcc s acc) = seen s := by
  unfold parkAcc; dsimp only
  split
  · rfl
  · split
    · exact seen_ite upd_seen upd_seen
    · exact upd_seen
theorem parkFaults_seen (s : State) (e : Nat × BitVec 11552) : seen (parkFaults e s) = seen s :=
  ((heatCheck_seen ..).trans (voltageCheck_seen ..)).trans (clusterCheck_seen ..)
theorem pllUpdate_seen (s : State) : seen (pllUpdate s) = seen s := seen_ite rfl rfl
theorem pllFollow_seen (old s : State) : seen (pllFollow old s) = seen s := seen_ite rfl (seen_ite rfl rfl)
theorem parkResume_seen (s : State) : seen (parkResume s) = seen s := seen_ite rfl rfl
theorem rtcAgeingLoad_seen (s : State) : seen (rtcAgeingLoad s) = seen s := by
  unfold rtcAgeingLoad; dsimp only
  split
  · exact rfl
  · exact seen_ite rfl rfl
theorem chgLive_seen (s : State) (off : Nat) (w : Word) : seen (chgLive s off w) = seen s := seen_ite rfl rfl
theorem qbLoRead_seen (s : State) : seen (qbLoRead s).1 = seen s := by
  unfold qbLoRead
  split
  · rfl
  · rfl
theorem readEffect_seen (s : State) (off : Nat) : seen (readEffect s off) = seen s := by
  unfold readEffect; dsimp only
  split
  · exact upd_seen
  · exact upd_seen
  · exact upd_seen
  · exact upd_seen
  · exact upd_seen
  · exact upd_seen
  · exact upd_seen
  · exact upd_seen
  · exact upd_seen
  · exact upd_seen
  · exact upd_seen
  · exact upd_seen
  · exact upd_seen
  · exact upd_seen
  · exact seen_ite upd_seen upd_seen
  · exact upd_seen
  · exact upd_seen
  · exact rtcTimeRead_seen ..
  · exact upd_seen
  · exact upd_seen
  · exact upd_seen
  · exact upd_seen
  · exact upd_seen
  · split
    · exact seen_ite upd_seen upd_seen
    · split
      · split
        · exact upd_seen
        · exact upd_seen
        · exact upd_seen
      · exact seen_ite upd_seen upd_seen
theorem putFields_seen (s : State) (off : Nat) (w : Word) (stopped : Bool) {reject live : State → State} (hr : ∀ q, seen (reject q) = seen q)
    (hl : ∀ q, seen (live q) = seen q) : seen (putFields s off w stopped reject live) = seen s := by
  unfold putFields; dsimp only
  split
  · rfl
  · next d _ =>
    have h1 : seen (if d.idle = 0 then s else if stopped then wr s off w d.idle else reject s) = seen s := seen_ite rfl (seen_ite rfl (hr s))
    generalize (if d.idle = 0 then s else _) = q at h1 ⊢
    have h2 : seen (if d.staged = 0 then q else { q with regs := q.regs.putShadow q.otp off w d.staged }) = seen s := seen_ite h1 (upd_seen.trans h1)
    exact seen_ite h2 ((hl _).trans h2)
theorem putLive_seen (s : State) (off : Nat) (w : Word) : seen (putLive s off w) = seen s := putFields_seen _ _ _ _ (fun _ => rfl) fun _ => rfl
theorem writeOx_seen (s : State) (off : Nat) (w : Word) : seen (writeOx s off w) = seen s := seen_ite (oxCtrlWrite_seen ..) (putFields_seen _ _ _ _ (fun _ => rfl) fun _ => rfl)
theorem writeLink_seen (s : State) (via : Via) (off : Nat) (w : Word) : seen (writeLink s via off w) = seen s := by
  unfold writeLink
  exact seen_ite (lpCtrlWrite_seen ..) (seen_ite upd_seen (seen_ite upd_seen (putFields_seen _ _ _ _ (fun _ => upd_seen) fun _ => linkLive_seen ..)))
theorem railLive_seen (s : State) (off : Nat) (w : Word) : seen (railLive off w s) = seen s := seen_ite rfl rfl
theorem writeSeq_seen (s : State) (via : Via) (off : Nat) (w : Word) : seen (writeSeq s via off w) = seen s := by
  unfold writeSeq; dsimp only
  split
  · exact rfl
  · exact rfl
  · exact wdiUpdate_seen ..
  · exact (pllFollow_seen ..).trans (putFields_seen _ _ _ _ (fun _ => rfl) fun _ => rfl)
theorem writeChg_seen (s : State) (off : Nat) (w : Word) : seen (writeChg s off w) = seen s := putFields_seen _ _ _ _ (fun _ => rfl) fun _ => chgLive_seen ..
theorem writeOtp_seen (s : State) (off : Nat) (w : Word) : seen (writeOtp s off w) = seen s := by
  unfold writeOtp; dsimp only
  split
  · exact rfl
  · exact rfl
  · exact rfl
  · exact putLive_seen ..
theorem writeRtc_seen (s : State) (via : Via) (off : Nat) (w : Word) : seen (writeRtc s via off w) = seen s := by
  unfold writeRtc
  split
  · exact rfl
  · exact rfl
  · exact rfl
  · exact rfl
theorem flkTake_seen (s : State) (bytes : List Byte) (ftype len : Nat) : seen (flkTake s bytes ftype len).1 = seen s := by
  unfold flkTake
  split
  · rfl
  · split
    · rfl
    · rfl
theorem liveNow_seen (s : State) (off : Nat) (w : Word) : seen (liveNow off w s) = seen s := rfl
theorem lastLoRead_seen (s : State) : seen (lastLoRead s).1 = seen s := upd_seen
theorem setPhs_seen (s : State) (p : Nat) (x : Phase) : seen (setPhs s p x) = seen s := rfl
theorem otpProgram_seen (s : State) (w : Nat) (data : Word) (auth : Nat) (before verify : Option MarginRead) :
    seen (otpProgram s w data auth before verify).1 = seen s := by
  have hr : ∀ q, seen q = seen s → seen (if hostField w then newNonce q else q) = seen s := fun q h => seen_ite (upd_seen.trans h) h
  unfold otpProgram; dsimp only
  split
  · exact hr s rfl
  · split
    · exact hr _ upd_seen
    · split
      · exact hr _ upd_seen
      · exact hr _ upd_seen
theorem lcStep_seen (s : State) (cut : Option OtpCut) : seen (lcStep s cut).1 = seen s := by
  unfold lcStep
  extract_lets lc l s1
  have h1 : seen s1 = seen s := (markLocked_seen ..).trans (otpRun_seen ..)
  split
  · exact upd_seen.trans h1
  · exact h1

section
variable {P : State → Prop} {K : Kept P} {s : State}

/-- An update of anything else keeps it. -/
theorem Kept.on.upd (h : K.on s) {regs posted pba glb qe evr held sb ct lp mc ox park gauge rc seq flk holdByOv retTiming retFrom vmainQual vmainOv vbakPresent
  vrtcOk saveActive saveEnded returns switchovers ovFlags trim saveDone saveIncomplete bkpLost wake pllRuns chg goose0 goose1 restart ret otp nvm rtc mp wakePcie wakeMp
  g0Reset g0ResetAt upSeconds free lowerReject aliveHigh pllFirst rootOverride} :
    K.on { s with regs := regs, pcie := { s.pcie with posted := posted, pba := pba }, glb := glb, qe := qe, evr := evr, held := held, sb := sb, ct := ct, lp := lp, mc := mc, ox := ox, park := park,
                  gauge := gauge, rc := rc, seq := seq, flk := flk,
                  pwr := { s.pwr with holdByOv := holdByOv, retTiming := retTiming, retFrom := retFrom, vmainQual := vmainQual, vmainOv := vmainOv, vbakPresent := vbakPresent,
                                      vrtcOk := vrtcOk, saveActive := saveActive, saveEnded := saveEnded, returns := returns, switchovers := switchovers,
                                      ovFlags := ovFlags, trim := trim, saveDone := saveDone, saveIncomplete := saveIncomplete, bkpLost := bkpLost, wake := wake, pllRuns := pllRuns },
                  chg := chg, goose0 := goose0, goose1 := goose1, restart := restart, ret := ret,
                  otp := otp, nvm := nvm, rtc := rtc, mp := mp, wakePcie := wakePcie, wakeMp := wakeMp, g0Reset := g0Reset, g0ResetAt := g0ResetAt,
                  upSeconds := upSeconds, free := free,
                  flt := { s.flt with lowerReject := lowerReject, aliveHigh := aliveHigh, pllFirst := pllFirst, rootOverride := rootOverride } } := K.same h rfl
theorem Kept.Links.upd (L : K.Links) (h : K.on s) {regs pcie glb qe evr held sb ct lp mc ox park gauge rc seq flk holdByOv retTiming retFrom vmainQual vmainOv vbakPresent
  vrtcOk saveActive saveEnded returns switchovers ovFlags trim saveDone saveIncomplete bkpLost wake pllRuns chg goose0 goose1 restart ret otp nvm rtc mp wakePcie wakeMp
  g0Reset g0ResetAt upSeconds free readData lowerReject aliveHigh pllFirst rootOverride} :
    K.on { s with regs := regs, pcie := pcie, glb := glb, qe := qe, evr := evr, held := held, sb := sb, ct := ct, lp := lp, mc := mc, ox := ox, park := park,
                  gauge := gauge, rc := rc, seq := seq, flk := flk,
                  pwr := { s.pwr with holdByOv := holdByOv, retTiming := retTiming, retFrom := retFrom, vmainQual := vmainQual, vmainOv := vmainOv, vbakPresent := vbakPresent,
                                      vrtcOk := vrtcOk, saveActive := saveActive, saveEnded := saveEnded, returns := returns, switchovers := switchovers,
                                      ovFlags := ovFlags, trim := trim, saveDone := saveDone, saveIncomplete := saveIncomplete, bkpLost := bkpLost, wake := wake, pllRuns := pllRuns },
                  chg := chg, goose0 := goose0, goose1 := goose1, restart := restart, ret := ret,
                  otp := otp, nvm := nvm, rtc := rtc, mp := mp, wakePcie := wakePcie, wakeMp := wakeMp, g0Reset := g0Reset, g0ResetAt := g0ResetAt,
                  upSeconds := upSeconds, free := free, readData := readData,
                  flt := { s.flt with lowerReject := lowerReject, aliveHigh := aliveHigh, pllFirst := pllFirst, rootOverride := rootOverride } } :=
  Kept.on.upd (L h (p := pcie) (w := readData))
theorem Kept.Free.upd (F : K.Free) (h : K.on s) {regs pcie glb qe evr held sb ct lp mc ox park gauge rc seq flk pwr chg goose0 goose1 restart ret otp nvm rtc mp wakePcie wakeMp g0Reset
  g0ResetAt upSeconds free readData status lines active details firstValid firstSource firstTime ovf lowerReject aliveHigh aliveRun clkSafe pllFirst rootOverride} :
    K.on { s with regs := regs, pcie := pcie, glb := glb, qe := qe, evr := evr, held := held, sb := sb, ct := ct, lp := lp, mc := mc, ox := ox, park := park,
                  gauge := gauge, rc := rc, seq := seq, flk := flk, pwr := pwr, chg := chg, goose0 := goose0, goose1 := goose1, restart := restart, ret := ret,
                  otp := otp, nvm := nvm, rtc := rtc, mp := mp, wakePcie := wakePcie, wakeMp := wakeMp, g0Reset := g0Reset, g0ResetAt := g0ResetAt,
                  upSeconds := upSeconds, free := free, readData := readData,
                  flt := { s.flt with status := status, lines := lines, active := active, details := details, firstValid := firstValid, firstSource := firstSource,
                                      firstTime := firstTime, ovf := ovf, lowerReject := lowerReject, aliveHigh := aliveHigh, aliveRun := aliveRun, clkSafe := clkSafe,
                                      pllFirst := pllFirst, rootOverride := rootOverride } } :=
  Kept.on.upd (F.links (F.power (F.lines (f := { s.flt with status := status, lines := lines, active := active, details := details, firstValid := firstValid, firstSource := firstSource, firstTime := firstTime, ovf := ovf, lowerReject := lowerReject, aliveHigh := aliveHigh, aliveRun := aliveRun, clkSafe := clkSafe, pllFirst := pllFirst, rootOverride := rootOverride }) rfl rfl h) (p := pwr)) (p := pcie) (w := readData))
theorem Kept.on.same {t : State} (h : K.on s) (e : seen t = seen s) : K.on t := K.same h e

theorem firstClear_kept (F : K.Free) (h : K.on s) : K.on (firstClear s) := kept_ite h (F.upd h)
theorem setDom_kept {k : Nat} (D : K.MovesAt k) (h : K.on s) {d : Domain} : K.on (setDom s k d) := D.dom h
theorem setNode_kept (h : K.on s) {a : Nat} {n : Node} : K.on (setNode s a n) := h.upd
theorem setPort_kept (h : K.on s) {p : Nat} {x : Port} : K.on (setPort s p x) := h.upd
theorem setRail_kept (h : K.on s) {n : Nat} {r : Rail} : K.on (setRail s n r) := h.upd
theorem whilePowered_kept (h : K.on s) {f : State → State} (hf : ∀ q, K.on q → K.on (f q)) : K.on (whilePowered s f) := kept_ite (hf s h) h

/-! ### Memory, events and completions -/

theorem hostWrite_kept (h : K.on s) {a : Nat} {bs : List Byte} : K.on (hostWrite s a bs) := K.hostWrite h
theorem hostPost_kept (hs : K.on s) {a : Nat} {bs : List Byte} : K.on (hostPost s a bs) := kept_ite (hostWrite_kept hs) hs.upd
theorem hostKick_kept (hs : K.on s) : K.on (hostKick s) := kept_ite (forEach_kept hs.upd fun _ _ hq => hostWrite_kept hq) hs
theorem sramWrite_kept (S : K.Stores) (h : K.on s) {a : Nat} {bs : List Byte} : K.on (sramWrite s a bs) := S.sramWrite h
theorem hostStores_kept (hs : K.on s) {w : Stores} : K.on (hostStores s w) := forEach_kept hs fun _ _ hq => hostWrite_kept hq
theorem sramStores_kept (S : K.Stores) (hs : K.on s) {w : Stores} : K.on (sramStores s w) := forEach_kept hs fun _ _ hq => sramWrite_kept S hq
theorem msixSend_kept (hs : K.on s) {v : Nat} : K.on (msixSend s v) := kept_ite hs (kept_ite hs.upd (hostWrite_kept hs))
theorem msixFlush_kept (hs : K.on s) {v : Nat} : K.on (msixFlush v s) := kept_ite (hostWrite_kept hs.upd) hs
theorem msixFlushAll_kept (hs : K.on s) : K.on (msixFlushAll s) := forUpTo_kept hs fun _ _ hq => msixFlush_kept hq
theorem coalSend_kept (hs : K.on s) {v : Nat} : K.on (coalSend v s) := msixSend_kept hs.upd
theorem coalCount_kept (hs : K.on s) {v : Nat} : K.on (coalCount s v) := kept_ite (coalSend_kept hs) hs.upd
theorem pushEntry_kept (hs : K.on s) {w : Nat} {bs : List Byte} : K.on (pushEntry s w bs) := (hostWrite_kept hs).upd
theorem evMsix_kept (hs : K.on s) {k : Nat} : K.on (evMsix s k) := kept_ite (coalCount_kept hs) hs
theorem routeEv4_kept (hs : K.on s) {o : Occ} : K.on (routeEv4 s o) := kept_ite hs.upd (evMsix_kept hs.upd)
theorem eqPost_kept (hs : K.on s) {k : Nat} {o : Occ} : K.on (eqPost s k o) :=
  kept_ite hs (kept_ite hs.upd (kept_ite (routeEv4_kept ((pushEntry_kept hs).upd)) (pushEntry_kept hs)))
theorem evRoute_kept (hs : K.on s) {k : Nat} {o : Occ} : K.on (evRoute s k o) := kept_ite hs.upd (evMsix_kept (kept_ite (eqPost_kept hs.upd) hs.upd))
theorem evDeliver_kept (hs : K.on s) : K.on (evDeliver s) := forEach_kept hs.upd fun _ _ hq => evRoute_kept hq
theorem evUpdate_kept (hs : K.on s) : K.on (evUpdate s) :=
  kept_ite (evDeliver_kept ((kept_ite (forEach_kept hs.upd fun _ _ hq => coalSend_kept hq) hs.upd).same (evGooseLast_seen ..))) hs.upd
theorem occur_kept (hs : K.on s) {k : Nat} {o : Occ} : K.on (occur s k o) := kept_ite (evRoute_kept hs) hs.upd
theorem raise_kept (hs : K.on s) {k : Nat} {detail : DWord} : K.on (raise s k detail) := occur_kept hs.upd
theorem evUnmask_kept (hs : K.on s) {k : Nat} : K.on (evUnmask k s) := by
  unfold evUnmask; dsimp only
  split
  · exact hs
  · split
    · exact hs
    · split
      · exact evRoute_kept hs.upd
      · split
        · exact hs.upd
        · exact hs.upd
theorem tsFinish_kept (hs : K.on s) {m : Nat} {l : LateBuf} : K.on (tsFinish m l s) := kept_ite (coalCount_kept (hostPost_kept hs)) (hostPost_kept hs)
theorem tsClose_kept (hs : K.on s) {flushed : Bool} {m : Nat} : K.on (tsClose flushed m s) := by
  unfold tsClose; dsimp only
  split
  · exact hs
  · exact kept_ite hs.upd (tsFinish_kept hs.upd)
theorem tsLate_kept (hs : K.on s) : K.on (tsLate s) := forEach_kept hs.upd fun _ _ hq => tsFinish_kept hq
theorem tsStop_kept (hs : K.on s) : K.on (tsStop s) := tsLate_kept (forUpTo_kept hs.upd fun _ _ hq => tsClose_kept hq)
theorem tsOpen_kept (hs : K.on s) {m : Nat} {ts : Stamp} : K.on (tsOpen s m ts) := kept_ite (raise_kept hs.upd) hs.upd
theorem tsReserve_kept (h : K.on s) {m n : Nat} {ts : Stamp} : K.on (tsReserve s m n ts).1 := by
  unfold tsReserve
  split
  · exact h
  · extract_lets s1 s2
    have h1 : K.on s1 := by
      unfold s1
      split
      · exact kept_ite h (tsClose_kept h)
      · exact h
    have h2 : K.on s2 := kept_ite (tsOpen_kept h1) h1
    split
    · exact h2
    · exact h2.upd
theorem tsRecord_kept (h : K.on s) {m : Nat} {ts : Stamp} {bs : List Byte} : K.on (tsRecord s m ts bs) := by
  have h1 := tsReserve_kept h (m := m) (n := bs.length) (ts := ts)
  unfold tsRecord
  split
  · next he => rw [he] at h1; exact hostPost_kept h1
  · next he => rw [he] at h1; exact h1.upd
theorem cqWrite_kept (hs : K.on s) {n tag status opcode : Nat} {r : DWord} : K.on (cqWrite s n tag status opcode r) := raise_kept (pushEntry_kept hs)
theorem cqPost_kept (hs : K.on s) {c : CqWait} : K.on (cqPost s c) := cqWrite_kept hs
theorem cqKick_kept (hs : K.on s) : K.on (cqKick s) := kept_ite (forEach_kept hs.upd fun _ _ hq => cqPost_kept hq) hs
theorem qeDrain_kept (hs : K.on s) : K.on (qeDrain s) := by
  unfold qeDrain; dsimp only
  have h1 := tsStop_kept hs
  split
  · generalize tsStop s = q at h1 ⊢
    split
    · exact h1
    · exact evUpdate_kept h1.upd
  · exact hs
theorem finishHost_kept (hs : K.on s) {id sq opcode : Nat} {tag : BitVec 16} {quiet : Bool} {status : Nat} {r : DWord} : K.on (finishHost s id sq opcode tag quiet status r) :=
  kept_ite (cqKick_kept hs.upd) hs
theorem dropUnknown_kept (hs : K.on s) : K.on (dropUnknown s) := by
  unfold dropUnknown
  split
  · exact hs
  · exact finishHost_kept hs
theorem dropUnknowns_kept {n : Nat} (hs : K.on s) : K.on (dropUnknowns n s) := by
  induction n generalizing s with
  | zero => exact hs
  | succ n ih => exact ih (dropUnknown_kept hs)
theorem qeSettle_kept (hs : K.on s) : K.on (qeSettle s) := qeDrain_kept (dropUnknowns_kept hs)
theorem complete_kept (hs : K.on s) {t : Ticket} {status : Nat} {r : DWord} : K.on (complete s t status r) := by
  unfold complete; dsimp only
  split
  · exact hs
  · split
    · exact qeSettle_kept (finishHost_kept hs)
    · exact kept_ite hs hs.upd
theorem completeAll_kept (hs : K.on s) {ts : List Ticket} {status : Nat} {r : DWord} : K.on (completeAll s ts status r) :=
  forEach_kept hs fun _ _ hq => complete_kept hq
theorem arrive_kept (S : K.Stores) (h : K.on s) {op : Nat} {rq : Requester} {d : Desc} {q : State} {k : Ticket} (ha : arrive s op rq d = some (q, k)) : K.on q := by
  cases rq with
  | mp w => rw [(arrive_mp ha).1]; exact sramStores_kept S h
  | host n => exact h.same (arrive_host_seen ha)
theorem command_kept (S : K.Stores) (h : K.on s) {sp : OpSpec} {rq : Requester} {d : Desc} {act : State → Ticket → State} (hact : ∀ q k, K.on q → K.on (act q k)) :
    K.on (command sp rq d act s) := by
  unfold command
  split
  · exact h
  · next q k ha =>
    have hq := arrive_kept S h ha
    split
    · exact complete_kept hq
    · exact kept_ite h (hact q k hq)
theorem cmdWrite_kept (S : K.Stores) (hs : K.on s) {rq : Requester} {a : Nat} {bs : List Byte} : K.on (cmdWrite s rq a bs) :=
  kept_ite (sramWrite_kept S hs) (hostPost_kept hs)
theorem setOpen_kept (hs : K.on s) {v : Bool} : K.on (setOpen s v) := kept_ite (evUpdate_kept hs.upd) (evUpdate_kept hs.upd)
theorem pcieReset_kept (L : K.Links) (hs : K.on s) {cause : Nat} : K.on (pcieReset s cause) := evUpdate_kept (Kept.on.upd (L.upd hs))
theorem startTraining_kept (L : K.Links) (hs : K.on s) : K.on (startTraining s) := kept_ite (L.upd hs) hs
theorem configPut_kept (L : K.Links) (hs : K.on s) {off : Nat} {w : Word} : K.on (configPut s off w) := by
  unfold configPut; dsimp only
  split
  case h_16 => exact hs
  all_goals exact L.upd hs
theorem configWrite_kept (L : K.Links) (hs : K.on s) {off : Nat} {be : BitVec 4} {w : Word} : K.on (configWrite s off be w) :=
  L.upd (kept_ite hs (configPut_kept L hs) : K.on (if be = 0 then s else configPut s off _))

/-! ### The queue engine and the channel table -/

theorem qeStart_kept (hs : K.on s) : K.on (qeStart s) := kept_ite hs.upd (kept_ite hs.upd (evUpdate_kept hs.upd))
theorem qeStop_kept (hs : K.on s) : K.on (qeStop s) := kept_ite (qeSettle_kept hs.upd) hs
theorem qeCtrlWrite_kept (hs : K.on s) {w : Word} : K.on (qeCtrlWrite s w) := kept_ite hs (kept_ite (qeStart_kept hs.upd) (qeStop_kept hs.upd))
theorem fetchDescriptor_kept (hs : K.on s) {fails : Bool} : K.on (fetchDescriptor s fails) := by
  unfold fetchDescriptor; dsimp only
  split
  · exact hs
  · split
    · exact hs
    · exact kept_ite (cqWrite_kept hs.upd) (qeSettle_kept hs.upd)
theorem maskWrite_kept (hs : K.on s) {hi : Bool} {w : Word} : K.on (maskWrite s hi w) := forEach_kept hs.upd fun _ _ hq => evUnmask_kept hq
theorem masterAgain_kept (hs : K.on s) : K.on (masterAgain s) := evUpdate_kept (msixFlushAll_kept (qeSettle_kept (cqKick_kept (hostKick_kept hs))))
theorem entryPut_kept (hs : K.on s) {a : Nat} {e : Entry} : K.on (entryPut s a e) := hostPost_kept (hostPost_kept hs)
theorem writeBack_kept (hs : K.on s) {c : Nat} : K.on (writeBack c s) := by
  unfold writeBack
  split
  · exact hs
  · exact kept_ite ((entryPut_kept hs).upd) hs
theorem takeWay_kept (h : K.on s) {c : Nat} {q : State} {w : Nat} (ht : takeWay s c = some (q, w)) : K.on q := by
  unfold takeWay at ht
  split at ht
  · cases ht; exact h
  · split at ht
    · cases ht
    · cases ht; exact (writeBack_kept h).upd
theorem excludeChannel_kept (hs : K.on s) {c reason : Nat} : K.on (excludeChannel s c reason) := raise_kept hs.upd
theorem withReads_kept (h : K.on s) {fault : Bool} {f : State → State} (hf : ∀ q, K.on q → K.on (f q)) : K.on (withReads fault f s) :=
  (hf _ h.upd).upd
theorem fetchChannel_kept (h : K.on s) {bad : List Nat} {c : Nat} {pinned reserved : Bool} : K.on (fetchChannel s bad c pinned reserved).1 := by
  unfold fetchChannel
  split
  · exact h.upd
  · split
    · exact h
    · split
      · exact h.upd
      · split
        · exact h
        · next ht =>
          have h1 := takeWay_kept h ht
          dsimp only
          split
          · exact h1.upd
          · exact excludeChannel_kept h1
theorem takeEntry_kept (h : K.on s) {c : Nat} : K.on (takeEntry s c).1 := by
  unfold takeEntry; dsimp only
  split
  · exact h
  · split
    · exact h
    · split
      · exact h.upd
      · split
        · exact h
        · exact excludeChannel_kept h
theorem seeAll_kept (hs : K.on s) {cs : List Nat} : K.on (seeAll cs s) := forEach_kept hs fun _ _ hq => takeEntry_kept hq
theorem refetchPinned_kept (h : K.on s) : K.on (refetchPinned s) := by
  refine kept_ite h (forEach_kept h fun c q hq => ?_)
  have h1 := fetchChannel_kept hq (bad := []) (c := c) (pinned := true) (reserved := false)
  split
  · next he => rw [he] at h1; exact h1
  · next he => rw [he] at h1; exact h1.upd
theorem dropBadLine_kept (hs : K.on s) {tag : Bool} {c : Nat} : K.on (dropBadLine tag c s) := by
  unfold dropBadLine; dsimp only
  split
  · exact hs
  · exact kept_ite (fetchChannel_kept (refetchPinned_kept (kept_ite ((raise_kept hs.upd).same (assertLine_seen _ _ (by decide))) (raise_kept hs.upd)))) (refetchPinned_kept
    (kept_ite ((raise_kept hs.upd).same (assertLine_seen _ _ (by decide))) (raise_kept hs.upd)))
theorem cacheUncorrectable_kept (hs : K.on s) {c : Nat} {tag : Bool} : K.on (cacheUncorrectable s c tag) :=
  kept_ite hs (kept_ite (forEach_kept hs fun _ _ hq => dropBadLine_kept hq) (dropBadLine_kept hs))
theorem cacheErrors_kept (hs : K.on s) {errs : List (Nat × Nat)} : K.on (cacheErrors s errs) :=
  forEach_kept hs fun _ _ hq => kept_ite (kept_ite hq.upd hq) (cacheUncorrectable_kept hq)
theorem flushAll_kept (hs : K.on s) : K.on (flushAll s) := forEach_kept hs fun _ _ hq => writeBack_kept hq
theorem muleEnd_kept (hs : K.on s) {status replayed : Nat} : K.on (muleEnd s status replayed) := raise_kept hs.upd
theorem muleAbort_kept (hs : K.on s) : K.on (muleAbort s) := kept_ite hs (muleEnd_kept hs)
theorem shadowExclude_kept (hs : K.on s) {h reason : Nat} : K.on (shadowExclude s h reason) := raise_kept hs.upd
theorem shadowTake_kept (h : K.on s) {bad : List Nat} {i : Nat} : K.on (shadowTake s bad i).1 := by
  unfold shadowTake
  split
  · exact h
  · split
    · exact h.upd
    · dsimp only
      split
      · exact h
      · exact shadowExclude_kept h
theorem carryInto_kept (h : K.on s) {bad : List Nat} {i : Nat} {src : Entry → Entry} : K.on (carryInto bad i src s) := by
  have h1 := shadowTake_kept h (bad := bad) (i := i)
  unfold carryInto
  split
  · next he => rw [he] at h1; exact h1
  · next he => rw [he] at h1; exact (hostPost_kept (hostPost_kept h1)).upd
theorem carryFresh_kept (hs : K.on s) {bad : List Nat} {h : Nat} : K.on (carryFresh bad h s) := carryInto_kept hs
theorem carryOne_kept (h : K.on s) {bad : List Nat} {i : Nat} : K.on (carryOne bad i s) := by
  unfold carryOne
  split
  · exact h
  · split
    · exact carryFresh_kept h
    · next c _ =>
      have h1 := fetchChannel_kept h (bad := bad) (c := c) (pinned := false) (reserved := false)
      split
      · exact carryFresh_kept h
      · split
        · next he => rw [he] at h1; exact h1
        · next he => rw [he] at h1; exact carryFresh_kept h1
        · next he =>
          rw [he] at h1
          split
          · exact carryInto_kept h1
          · exact h1
theorem muleCopy_kept (hs : K.on s) {c : Nat} : K.on (muleCopy c s) := by
  unfold muleCopy
  split
  · exact hs
  · split
    · exact hs
    · exact carryOne_kept hs
theorem muleRecopy_kept (hs : K.on s) : K.on (muleRecopy s) := by
  refine kept_ite hs (forEach_kept hs fun k q hq => ?_)
  dsimp only
  have h1 := forEach_kept (l := (chunkChannels q k).filter fun h => !q.ct.mule.copied.contains h) (f := carryOne []) hq fun _ _ hq2 => carryOne_kept hq2
  generalize forEach ((chunkChannels q k).filter fun h => !q.ct.mule.copied.contains h) (carryOne []) q = q1 at h1 ⊢
  split
  · exact h1.upd
  · exact h1
theorem logChange_kept (hs : K.on s) {c : Nat} : K.on (logChange c s) := by
  unfold logChange; dsimp only
  split
  · exact hs
  · split
    · exact hs
    · exact kept_ite hs (kept_ite hs.upd (kept_ite (kept_ite (hostPost_kept hs.upd) hs.upd) (muleRecopy_kept hs.upd)))
theorem reinitChannel_kept (hs : K.on s) {c : Nat} : K.on (reinitChannel c s) := by
  unfold reinitChannel; dsimp only
  split
  · exact hs.upd
  · split
    · exact logChange_kept ((fetchChannel_kept hs.upd).upd)
    · exact (fetchChannel_kept hs.upd).upd
theorem parkWrite_kept (hs : K.on s) : K.on (parkWrite s) := kept_ite hs ((seeAll_kept (flushAll_kept hs)).upd)

/-! ### Domains and the clock -/

theorem domTicket_kept (hs : K.on s) {t : Option Ticket} {status : Nat} {r : DWord} : K.on (domTicket s t status r) := by
  unfold domTicket
  split
  · exact hs
  · exact complete_kept hs
theorem domDownStart_kept (L : K.Links) (hs : K.on s) {k : Nat} {save : Bool} : K.on (domDownStart s k save) := by
  unfold domDownStart
  extract_lets _ s1 q1
  have h1 : K.on s1 := L.upd hs
  clear_value s1
  have hq : K.on { s1 with pcie := s1.pcie.resetFunction } := L.upd h1
  exact kept_ite (kept_ite hs (kept_ite (parkWrite_kept hs) hs)) (kept_ite (kept_ite (pcieReset_kept L h1) (evUpdate_kept hq.upd)) hs)
theorem domStart_kept {k : Nat} (D : K.MovesAt k) (hs : K.on s) {r : DomReq} {save : Bool} : K.on (domStart s k r save) :=
  kept_ite (domTicket_kept hs) (D.dom (kept_ite (kept_ite (domTicket_kept hs) hs) (domDownStart_kept D.links (kept_ite (domTicket_kept hs) hs))))
theorem domRequest_kept {k : Nat} (D : K.MovesAt k) (hs : K.on s) {r : DomReq} : K.on (domRequest s k r) := by
  unfold domRequest; dsimp only
  split
  · exact domTicket_kept (D.dom hs)
  · split
    · refine setDom_kept D ?_
      split
      · exact domTicket_kept (setDom_kept D (setDom_kept D hs))
      · exact (D.dom hs)
    · exact kept_ite (domTicket_kept (D.dom hs)) (domStart_kept D (D.dom hs))
theorem domAsk_kept {k : Nat} (D : K.MovesAt k) (hs : K.on s) {target : DomState} {byMp byHost : Bool} : K.on (domAsk s k target byMp byHost) := domRequest_kept D hs
theorem wakeMpDomain_kept (D : K.Moves) (hs : K.on s) {code : Nat} : K.on (wakeMpDomain s code) := kept_ite hs (domAsk_kept (D _) (hs.same (wakeNote_seen ..)))
theorem alarmWake_kept (D : K.Moves) (hs : K.on s) : K.on (alarmWake s) := kept_ite hs.upd (wakeMpDomain_kept D hs)
theorem alarmFire_kept (D : K.Moves) (hs : K.on s) {byAdjust atArm : Bool} : K.on (alarmFire s byAdjust atArm) := alarmWake_kept D (raise_kept hs.upd)
theorem alarmCheck_kept (D : K.Moves) (hs : K.on s) {byAdjust atArm : Bool} : K.on (alarmCheck s byAdjust atArm) := kept_ite (alarmFire_kept D hs) hs
theorem rtcReject_kept (hs : K.on s) {requester : Nat} {date : Word} : K.on (rtcReject s requester date) := raise_kept hs.upd
theorem rtcCommitCal_kept (D : K.Moves) (h : K.on s) {time date : Word} {requester : Nat} {clears : Bool} : K.on (rtcCommitCal s time date requester clears).1 := by
  unfold rtcCommitCal; dsimp only
  split
  · exact rtcReject_kept h
  · exact kept_ite h.upd (alarmCheck_kept D h.upd)
theorem rtcApply_kept (D : K.Moves) (h : K.on s) {o : RtcOp} : K.on (rtcApply s o) := by
  unfold rtcApply
  split
  · exact rtcCommitCal_kept D h
  · exact h.upd
  · exact h.upd
  · next time date mp =>
    have h1 := rtcCommitCal_kept D h (time := time) (date := date) (requester := if mp then 2 else 1) (clears := true)
    split
    · next he => rw [he] at h1; exact complete_kept h1.upd
    · next he => rw [he] at h1; exact complete_kept h1
  · split
    · exact complete_kept h
    · exact complete_kept (kept_ite (alarmFire_kept D (kept_ite (P := fun r => P { s with rtc := r }) h.upd h.upd))
        h.upd)
  · exact complete_kept h.upd
theorem periodicDue_kept (D : K.Moves) (hs : K.on s) {e : Nat} : K.on (periodicDue s e) := wakeMpDomain_kept D (raise_kept hs.upd)
theorem rtcTo_kept (D : K.Moves) (hs : K.on s) {e : Nat} : K.on (rtcTo s e) := kept_ite hs.upd ((forUpTo_kept hs fun _ _ hq => periodicDue_kept D hq).upd)
theorem rtcTickZero_kept (D : K.Moves) (hs : K.on s) : K.on (rtcTickZero s) := kept_ite hs (kept_ite hs.upd (periodicDue_kept D hs.upd))
theorem rtcCommit_kept (D : K.Moves) (hs : K.on s) {e : Nat} : K.on (rtcCommit s e) := by
  unfold rtcCommit; dsimp only
  split
  · exact hs
  · exact kept_ite ((rtcApply_kept D hs.upd).upd) (kept_ite ((kept_ite (rtcTickZero_kept D (rtcApply_kept D ((rtcTo_kept D hs).upd))) (rtcApply_kept D ((rtcTo_kept D hs).upd))).upd)
    (kept_ite ((rtcApply_kept D ((rtcTo_kept D hs).upd)).upd) hs))
theorem secondBoundary_kept (D : K.Moves) (hs : K.on s) : K.on (secondBoundary s) := kept_ite hs ((rtcTickZero_kept D (alarmCheck_kept D ((rtcTo_kept D hs).upd))).upd)
theorem oscStop_kept (hs : K.on s) : K.on (oscStop s) := kept_ite hs (raise_kept hs.upd)
theorem crystalRestart_kept (D : K.Moves) (hs : K.on s) : K.on (crystalRestart s) := kept_ite hs (alarmCheck_kept D hs.upd)
theorem periodicWake_kept (D : K.Moves) (hs : K.on s) {e : Nat} : K.on (periodicWake s e) := kept_ite hs ((rtcTo_kept D hs).upd)
theorem railEventAs_kept (hs : K.on s) {n : Nat} {st : RailState} {kind sub phases : Nat} {m : Option RailMeas} : K.on (railEventAs s n st kind sub phases m) :=
  raise_kept (kept_ite hs hs.upd)
theorem railEvent_kept (hs : K.on s) {n kind sub phases : Nat} {m : Option RailMeas} : K.on (railEvent s n kind sub phases m) := railEventAs_kept hs
theorem losePg_kept (hs : K.on s) {n : Nat} {m : Option RailMeas} : K.on (losePg s n m) := kept_ite (railEvent_kept hs.upd) hs
theorem applyMode_kept (hs : K.on s) {n : Nat} : K.on (applyMode s n) := forEach_kept hs.upd fun _ _ hq => complete_kept hq.upd
theorem railSettle_kept (hs : K.on s) {n : Nat} : K.on (railSettle s n) := kept_ite hs (applyMode_kept hs.upd)
theorem railFault_kept (hs : K.on s) {n reason phases : Nat} {m : Option RailMeas} {cycle : Option Nat} : K.on (railFault s n reason phases m cycle) := by
  unfold railFault; dsimp only
  split
  · exact hs.same (railFaultToo_seen ..)
  · refine railSettle_kept ?_
    refine completeAll_kept ?_
    refine completeAll_kept ?_
    split
    · exact complete_kept ((railEvent_kept (((losePg_kept ((kept_ite hs hs.upd).upd)).same (drivePhases_seen ..)).same (railQuiet_seen ..))).same (assertLine_seen _ _ (reasonLine_ne_zero _ _)))
    · exact (railEvent_kept (((losePg_kept ((kept_ite hs hs.upd).upd)).same (drivePhases_seen ..)).same (railQuiet_seen ..))).same (assertLine_seen _ _ (reasonLine_ne_zero _ _))

/-! ### Rails and sequencer -/

theorem railBegin_kept (hs : K.on s) {n : Nat} {bySeq : Bool} : K.on (railBegin s n bySeq) :=
  kept_ite (railFault_kept (forEach_kept hs.upd fun _ _ hq => hq.upd)) (forEach_kept hs.upd fun _ _ hq => hq.upd)
theorem railStart_kept (h : K.on s) {n : Nat} {bySeq : Bool} : K.on (railStart s n bySeq).1 := by
  unfold railStart
  split
  · exact kept_ite h.upd h
  · exact railBegin_kept h
theorem railOff_kept (h : K.on s) {n : Nat} : K.on (railOff s n) := by
  unfold railOff
  extract_lets r s1 s2
  have h1 : K.on s1 := setRail_kept h
  clear_value s1
  have h2 : K.on s2 := railSettle_kept (completeAll_kept ((h1.same (drivePhases_seen ..)).same (railQuiet_seen ..)))
  clear_value s2
  have h3 := railStart_kept h2 (n := n) (bySeq := r.bySeq)
  split
  · split
    · next he => rw [he] at h3; exact completeAll_kept (setRail_kept h3)
    · next he => rw [he] at h3; exact h3
  · exact h2
theorem railStop_kept (hs : K.on s) {n : Nat} : K.on (railStop s n) := by
  unfold railStop; dsimp only
  split
  · exact hs
  · exact railOff_kept hs.upd
  · exact completeAll_kept hs.upd
  · split
    · refine completeAll_kept ?_
      split
      · exact complete_kept (losePg_kept hs.upd)
      · exact losePg_kept hs.upd
    · refine railOff_kept ?_
      refine completeAll_kept ?_
      split
      · exact complete_kept (losePg_kept hs.upd)
      · exact losePg_kept hs.upd
theorem railAbort_kept (hs : K.on s) {n : Nat} : K.on (railAbort s n) := completeAll_kept hs.upd
theorem railStgOff_kept (hs : K.on s) {n : Nat} : K.on (railStgOff s n) := railOff_kept (losePg_kept hs.upd)
theorem railSafeNote_kept (hs : K.on s) {n : Nat} : K.on (railSafeNote s n) := railEvent_kept hs.upd
theorem railSafe_kept (hs : K.on s) {n : Nat} : K.on (railSafe n s) := by
  unfold railSafe; dsimp only
  split
  · exact kept_ite (railStgOff_kept ((railAbort_kept hs).upd)) (railSafeNote_kept (railStgOff_kept ((railAbort_kept hs).upd)))
  · split
    · exact (railAbort_kept hs).upd
    · refine railSafeNote_kept ?_
      split
      · exact kept_ite ((railAbort_kept hs).upd) ((railAbort_kept hs).upd)
      · exact kept_ite ((railAbort_kept hs).upd) (kept_ite (kept_ite ((railAbort_kept hs).upd) ((railAbort_kept hs).upd)) ((railAbort_kept hs).upd))
      · exact railStop_kept ((railAbort_kept hs).upd)
theorem railStgWritten_kept (hs : K.on s) : K.on (railStgWritten s) := kept_ite (forUpTo_kept hs fun _ _ hq => kept_ite (railStgOff_kept hq) hq) hs
theorem railLost_kept (hs : K.on s) : K.on (railLost s) := by
  unfold railLost; dsimp only
  generalize hq : forUpTo 8 (fun n q => railAbort q n) s = q
  have h1 : K.on q := hq ▸ forUpTo_kept hs fun _ _ hq => railAbort_kept hq
  exact h1.upd
theorem pulseDue_kept {s0 : State} (hs : K.on s0) {n p : Nat} {x : RailSample} {iRail : Rat} : K.on (pulseDue s0 n p x iRail) :=
  kept_ite (railOff_kept (applyMode_kept hs.upd)) (kept_ite ((applyMode_kept hs.upd).upd) ((applyMode_kept hs.upd).same (firePulse_seen ..)))
theorem railLoop_kept (hs : K.on s) {n : Nat} {x : RailSample} : K.on (railLoop n x s) := by
  unfold railLoop
  extract_lets s1 iRail r dt injTau intTau rInj k vS iLp vInj vInt hold s2 r2 s3 s4 b r4
  have h2 : K.on s2 := setRail_kept ((hs.same (rampStep_seen ..)).same (takeVin_seen ..))
  clear_value s2
  have h3 : K.on s3 := by
    refine kept_ite ?_ h2
    split
    · exact pulseDue_kept h2
    · exact setRail_kept h2
  clear_value s3
  exact kept_ite h3 (setRail_kept (h3.same (driveCycle_seen ..)))
theorem railCycle_kept (hs : K.on s) {n : Nat} {x : RailSample} : K.on (railCycle n x s) :=
  kept_ite hs.upd (kept_ite (hs.upd.same (railSleep_seen ..)) (railLoop_kept hs.upd))
theorem eachBusy_kept (hs : K.on s) {kind : Nat} : K.on (eachBusy s kind) := forUpTo_kept hs fun _ _ hq => kept_ite (railEvent_kept hq) hq
theorem railSeqOn_kept (hs : K.on s) {n : Nat} : K.on (railSeqOn s n) := by
  unfold railSeqOn; dsimp only
  split
  · exact railStart_kept hs
  · exact hs.upd
  · exact hs
theorem onAction_kept (hs : K.on s) {c : SeqRec} : K.on (onAction s c) := by
  unfold onAction
  split
  · exact kept_ite (railSeqOn_kept hs) hs
  · exact hs.same (driveEn_seen ..)
  · exact hs.same (seqHostRst_seen ..)
  · exact hs
theorem offAction_kept (hs : K.on s) {c : SeqRec} : K.on (offAction s c) := by
  unfold offAction
  split
  · exact kept_ite (railStop_kept hs) hs
  · exact hs.same (driveEn_seen ..)
  · exact hs.same (seqHostRst_seen ..)
  · exact hs
theorem ev42_kept (hs : K.on s) {kind addr : Nat} : K.on (ev42 s kind addr) := raise_kept hs
theorem ev41_kept (hs : K.on s) {kind i react : Nat} {clk : Option Word} : K.on (ev41 s kind i react clk) := raise_kept hs.upd
theorem flkUpCheck_kept (hs : K.on s) : K.on (flkUpCheck s) := kept_ite (completeAll_kept hs.upd) hs
theorem seqUpEnd_kept (hs : K.on s) : K.on (seqUpEnd s) := by
  refine kept_ite ?_ hs
  extract_lets q1 s1 s2
  have h1 : K.on s1 := Kept.on.same (kept_ite hs hs.upd) (seqState_seen _ _)
  clear_value s1
  have h2 : K.on s2 := raise_kept h1
  clear_value s2
  exact kept_ite h2 (kept_ite (completeAll_kept h2.upd) (kept_ite (flkUpCheck_kept h2.upd) (completeAll_kept h2.upd)))
theorem seqUpStart_kept (hs : K.on s) {flock : Bool} : K.on (seqUpStart s flock) := seqUpEnd_kept (hs.upd.same (seqState_seen ..))
theorem seqUpBegin_kept (hs : K.on s) {ts : List Ticket} : K.on (seqUpBegin s ts) :=
  kept_ite (completeAll_kept hs) (kept_ite (hs.upd.same (flkArm_seen ..)) (seqUpStart_kept hs.upd))
theorem seqRetry_kept (hs : K.on s) {ts : List Ticket} : K.on (seqRetry s ts) := kept_ite (completeAll_kept hs) (seqUpBegin_kept hs.upd)
theorem seqDownEnd_kept (hs : K.on s) : K.on (seqDownEnd s) := by
  refine kept_ite ?_ hs
  extract_lets off to_ s1 s2 q2 s3 q s4
  have h2 : K.on s2 := raise_kept (hs.same (seqState_seen ..))
  clear_value s2
  have h3 : K.on s3 := completeAll_kept h2.upd
  clear_value s3
  have h4 : K.on s4 := h3.upd
  clear_value s4
  exact kept_ite (completeAll_kept h4) (kept_ite (seqRetry_kept h4) (kept_ite (seqUpBegin_kept h4) h4))
theorem seqDownStart_kept (hs : K.on s) {flock : Bool} : K.on (seqDownStart s flock) :=
  seqDownEnd_kept (completeAll_kept (hs.upd.same (seqState_seen ..)))
theorem seqReact_kept (hs : K.on s) {up : Nat} : K.on (seqReact s up) :=
  kept_ite (kept_ite hs.upd hs.upd) (kept_ite (kept_ite (seqRetry_kept hs) (kept_ite (seqUpBegin_kept hs) hs)) (seqDownStart_kept (kept_ite hs.upd hs.upd)))
theorem seqFault_kept (hs : K.on s) {i kind : Nat} {clk : Option Word} : K.on (seqFault s i kind clk) := by
  unfold seqFault; dsimp only
  split
  · exact hs
  · exact kept_ite hs (kept_ite ((ev41_kept hs.upd).same (assertLine_seen _ _ (by decide))) (seqReact_kept ((ev41_kept hs.upd).same (assertLine_seen _ _ (by decide)))))
theorem pgChange_kept {s0 : State} (hs : K.on s0) {i : Nat} {clk : Option Word} : K.on (pgChange s0 i clk) := by
  unfold pgChange; dsimp only
  split
  · exact hs
  · exact kept_ite (kept_ite (hs.upd.same (pgBecomesGood_seen ..)) hs.upd) (kept_ite (seqFault_kept hs.upd) (kept_ite (seqFault_kept hs.upd) hs.upd))
theorem pgDebounced_kept (hs : K.on s) {i : Nat} {clk : Option Word} : K.on (pgDebounced s i clk) := by
  unfold pgDebounced
  split
  · exact hs
  · exact kept_ite hs (kept_ite (kept_ite hs (hs.same (pgBecomesGood_seen ..))) (kept_ite (seqFault_kept hs) hs))
theorem seqOnInstant_kept {s0 : State} (hs : K.on s0) {i : Nat} : K.on (seqOnInstant s0 i) := by
  unfold seqOnInstant; dsimp only
  split
  · exact hs
  · exact kept_ite hs (kept_ite (kept_ite ((onAction_kept hs.upd).same (pgBecomesGood_seen ..)) (onAction_kept hs.upd)) (seqUpEnd_kept (onAction_kept hs.upd)))
theorem seqSlotClose_kept {s0 : State} (hs : K.on s0) {i : Nat} : K.on (seqSlotClose s0 i) := by
  unfold seqSlotClose; dsimp only
  split
  · exact hs
  · exact kept_ite hs (kept_ite (seqUpEnd_kept hs.upd) (seqUpEnd_kept (seqFault_kept hs.upd)))
theorem seqOffInstant_kept {s0 : State} (hs : K.on s0) {i : Nat} : K.on (seqOffInstant s0 i) := by
  unfold seqOffInstant; dsimp only
  split
  · exact hs
  · exact kept_ite hs (seqDownEnd_kept (offAction_kept hs.upd))
theorem seqOffReached_kept (hs : K.on s) {i : Nat} : K.on (seqOffReached s i) := by
  unfold seqOffReached
  split
  · exact hs
  · exact kept_ite (seqDownEnd_kept hs.upd) hs
theorem seqOffTimeout_kept (hs : K.on s) {i : Nat} : K.on (seqOffTimeout s i) := by
  unfold seqOffTimeout; dsimp only
  split
  · exact hs
  · exact kept_ite (seqDownEnd_kept hs.upd) hs
theorem seqUpReq_kept (hs : K.on s) {ts : List Ticket} : K.on (seqUpReq s ts) := by
  unfold seqUpReq; dsimp only
  split
  · exact completeAll_kept hs
  · exact kept_ite hs.upd (kept_ite hs.upd (seqUpBegin_kept hs))
  · exact hs.upd
  · exact kept_ite hs.upd (completeAll_kept hs)
  · exact hs.upd
  · exact completeAll_kept hs
theorem seqCancelHeld_kept (hs : K.on s) : K.on (seqCancelHeld s) := completeAll_kept ((kept_ite hs.upd hs).upd)
theorem seqDownReq_kept (hs : K.on s) {ts : List Ticket} : K.on (seqDownReq s ts) := by
  unfold seqDownReq; dsimp only
  split
  · exact completeAll_kept hs
  · exact completeAll_kept (seqCancelHeld_kept hs)
  · exact completeAll_kept hs
  · exact (seqCancelHeld_kept hs).upd
  · exact kept_ite hs.upd (seqDownStart_kept hs.upd)
theorem fsyncEdge_kept (hs : K.on s) : K.on (fsyncEdge s) := by
  unfold fsyncEdge; dsimp only
  split
  · split
    · exact kept_ite (seqUpStart_kept hs.upd) hs.upd
    · split
      · exact seqDownStart_kept hs.upd
      · exact seqDownStart_kept hs.upd
      · exact seqCancelHeld_kept hs.upd
      · exact hs.upd
  · split
    · split
      · exact kept_ite (seqUpStart_kept hs.upd) hs.upd
      · split
        · exact seqDownStart_kept hs.upd
        · exact seqDownStart_kept hs.upd
        · exact hs.upd
        · exact kept_ite (seqRetry_kept hs.upd) (kept_ite (seqUpBegin_kept hs.upd) hs.upd)
        · exact hs.upd
      · exact hs.upd
    · exact kept_ite hs.upd hs
theorem seqWatch_kept (h : K.on s) {old : State} {us : Option Nat} : K.on (seqWatch old s us) := by
  have hat : ∀ q, K.on q → K.on (match us with | some t => seqAt q t | none => q) := fun q hq => by
    split
    · exact hq.upd
    · exact hq
  refine kept_ite h (forUpTo_kept h fun i q hq => ?_)
  split
  · exact hq
  · refine kept_ite hq ?_
    extract_lets a b at_ clk q1
    have h1 : K.on q1 := kept_ite (seqFault_kept (hat q hq)) hq
    exact kept_ite (pgChange_kept (hat q1 h1)) h1
theorem seqLoad_kept (h : K.on s) {bs : List Byte} : K.on (seqLoad s bs).1 := by
  unfold seqLoad
  split
  · exact h
  · split
    · exact h
    · exact h.same (seqInstall_seen ..)
theorem seqAutoUp_kept (D : K.Moves) (hs : K.on s) : K.on (seqAutoUp s) := kept_ite hs (kept_ite (domAsk_kept (D _) hs.upd) (seqUpReq_kept hs.upd))
theorem seqBoot_kept (D : K.Moves) (hs : K.on s) {bs : List Byte} : K.on (seqBoot s bs) := by
  unfold seqBoot; dsimp only
  split
  · exact ev41_kept hs.upd
  · exact kept_ite (seqAutoUp_kept D ((hs.same (seqInstall_seen ..)).upd)) (hs.same (seqInstall_seen ..))
theorem seqRegcReady_kept (hs : K.on s) : K.on (seqRegcReady s) := kept_ite (kept_ite (seqUpReq_kept hs.upd) hs.upd) hs
theorem seqSafe_kept (hs : K.on s) : K.on (seqSafe s) := by
  unfold seqSafe; dsimp only
  refine forUpTo_kept (completeAll_kept (hs.upd.same (seqState_seen ..))) fun _ _ hq => ?_
  split
  · exact hq
  · split
    · exact kept_ite hq.upd hq
    · split
      · exact (hq.same (driveEn_seen ..)).same (memberDrivenOff_seen ..)
      · exact (hq.same (seqHostRst_seen ..)).same (memberDrivenOff_seen ..)
      · exact hq
theorem mpTurnOff_kept (D : K.Moves) (hs : K.on s) {m : DomMove} : K.on (mpTurnOff s m) := (D _).dom (kept_ite (domTicket_kept hs) hs)
theorem mpRestart_kept (D : K.Moves) {s0 : State} (hs : K.on s0) : K.on (mpRestart s0) := by
  unfold mpRestart; dsimp only
  refine setDom_kept (D _) ?_
  have h1 : K.on (recordWake { s0 with glb := { s0.glb with rstCause := s0.glb.rstCause ||| maskOf 10 9 1 } } false 0x70) := hs.upd
  generalize recordWake { s0 with glb := { s0.glb with rstCause := s0.glb.rstCause ||| maskOf 10 9 1 } } false 0x70 = s at h1 ⊢
  split
  · refine mpTurnOff_kept D ?_
    split
    · exact domTicket_kept (setDom_kept (D _) h1)
    · exact h1
  · refine domStart_kept (D _) ?_
    split
    · exact domTicket_kept (setDom_kept (D _) h1)
    · exact h1
theorem requestRestart_kept (hs : K.on s) {g0 g1 : Bool} : K.on (requestRestart s g0 g1) := by
  unfold requestRestart; dsimp only
  split
  · exact hs.upd
  · split
    · exact seqDownStart_kept hs.upd
    · exact seqDownStart_kept hs.upd
    · exact seqCancelHeld_kept hs.upd
    · exact hs.upd
theorem escalate_kept (D : K.Moves) (hs : K.on s) {i : Nat} {e : Escal} {kind : Nat} : K.on (escalate s i e kind) := by
  unfold escalate
  extract_lets checked s0
  have h0 : K.on s0 := (hs.same (gooseRecord_seen ..)).same (noteCount_seen ..)
  clear_value s0
  split
  · refine Kept.on.same ?_ (hostRstUpdate_seen _)
    refine Kept.on.upd (s := raise (gooseLast _ _ _) 49 _) (raise_kept ?_)
    exact (((h0.same (setGoose_seen ..)).same (resetCountInc_seen ..)).same (noteLog_seen ..)).same (gooseLast_seen ..)
  · refine mpRestart_kept D ?_
    refine Kept.on.upd (s := raise (gooseLast _ _ _) 49 _) (raise_kept ?_)
    exact (((h0.same (setGoose_seen ..)).same (resetCountInc_seen ..)).same (noteLog_seen ..)).same (gooseLast_seen ..)
  · exact requestRestart_kept ((((h0.same (setStreak_seen ..)).same (resetCountInc_seen ..)).same (noteLog_seen ..)).same (gooseLast_seen ..))
  · exact ((raise_kept ((h0.same (noteLog_seen ..)).same (gooseLast_seen ..))).same (assertLine_seen _ _ (by omega))).same (gooseAfter_seen ..)
theorem gooseViolate_kept (D : K.Moves) (hs : K.on s) {i kind : Nat} : K.on (gooseViolate s i kind) := escalate_kept D hs
theorem gooseBoth_kept (D : K.Moves) (hs : K.on s) {kind : Nat} : K.on (gooseBoth s kind) := by
  unfold gooseBoth
  extract_lets e0 e1 s1 s2 d
  have h1 : K.on s1 := ((hs.same (gooseRecord_seen ..)).same (gooseRecord_seen ..)).same (noteCount_seen ..)
  clear_value s1
  have h2 : K.on s2 := ((h1.same (setStreak_seen ..)).same (setStreak_seen ..)).same (resetCountInc_seen ..)
  clear_value s2
  exact kept_ite (escalate_kept D (hs.same (gooseSuppressed_seen ..))) (kept_ite ((escalate_kept D hs).same (gooseSuppressed_seen ..))
    (kept_ite (requestRestart_kept ((h2.same (noteLog_seen ..)).same (gooseLast_seen ..))) (escalate_kept D (escalate_kept D hs))))
theorem gooseWarn_kept (hs : K.on s) : K.on (gooseWarn s) := raise_kept hs.upd
theorem gooseTo_kept (hs : K.on s) {i t : Nat} : K.on (gooseTo s i t) := kept_ite (gooseWarn_kept hs) hs
theorem gooseCheckin_kept (D : K.Moves) {s0 : State} (hs : K.on s0) {i t : Nat} {w : Word} : K.on (gooseCheckin s0 i t w) := by
  unfold gooseCheckin
  extract_lets s g s1 g1 k s2 s3
  have h1 : K.on s1 := (gooseTo_kept hs).same (setGoose_seen ..)
  clear_value s1
  have h2 : K.on s2 := h1.same (setGoose_seen ..)
  have h3 : K.on s3 := h1.same (setGoose_seen ..)
  clear_value s2 s3
  exact kept_ite hs (kept_ite (gooseViolate_kept D h1) (kept_ite (h1.same (setGoose_seen ..)) (kept_ite (kept_ite (gooseViolate_kept D h2) h2)
    (kept_ite (kept_ite (gooseViolate_kept D h3) h3) (h1.same (setGoose_seen ..))))))

/-! ### Goose, NVM and the MP -/

theorem gooseService_kept (D : K.Moves) {s0 : State} (hs : K.on s0) {i t : Nat} {w : Word} : K.on (gooseService s0 i t w) := by
  refine kept_ite hs ?_
  extract_lets s g s1
  have h1 : K.on s1 := (gooseTo_kept hs).same (setGoose_seen ..)
  clear_value s1
  exact kept_ite (gooseViolate_kept D h1) (kept_ite (h1.same (gooseServe_seen ..)) (kept_ite (gooseViolate_kept D h1)
    (kept_ite (gooseViolate_kept D h1) (h1.same (gooseServe_seen ..)))))
theorem gooseConfig_kept (h : K.on s) {i p t : Nat} {mask : BitVec 16} : K.on (gooseConfig s i p t mask).1 := by
  unfold gooseConfig
  extract_lets q g g1
  have hq : K.on q := kept_ite (gooseTo_kept h) h
  clear_value q
  split
  · exact hq
  · split
    · exact Kept.on.same (hq.same (setGoose_seen ..)) (hostRstUpdate_seen _)
    · split
      · exact hq.same (setGoose_seen ..)
      · exact hq
theorem nvmTell_kept (hs : K.on s) {w : PageWrite} {skipped : Bool} : K.on (nvmTell s w skipped) := by
  unfold nvmTell
  split
  · exact complete_kept hs
  · exact raise_kept hs
  · exact hs
theorem nvmFail_kept (hs : K.on s) {w : PageWrite} {status : Nat} : K.on (nvmFail s w status) := by
  unfold nvmFail
  split
  · exact complete_kept hs
  · exact hs
  · exact hs
theorem nvmBegin_kept (hs : K.on s) {w : PageWrite} : K.on (nvmBegin s w) := by
  unfold nvmBegin; dsimp only
  split
  · exact kept_ite hs.upd (nvmFail_kept hs.upd)
  · exact kept_ite (nvmTell_kept hs) hs.upd
theorem nvmServeRead_kept (S : K.Stores) (h : K.on s) {r : NvmReadReq} : K.on (nvmServeRead s r) := by
  have h1 : K.on (nvBytes s r.off r.len).1 := h.same (nvBytes_seen ..)
  exact kept_ite (complete_kept (kept_ite (sramWrite_kept S h1) (hostPost_kept h1))) (complete_kept h1)
theorem nvmServe_kept (S : K.Stores) (hs : K.on s) {q : NvmReq} : K.on (nvmServe s q) := by
  unfold nvmServe
  split
  · exact nvmBegin_kept hs
  · exact nvmServeRead_kept S hs
theorem nvmRefuse_kept (hs : K.on s) {q : NvmReq} {status : Nat} : K.on (nvmRefuse s q status) := by
  unfold nvmRefuse
  split
  · exact nvmFail_kept hs
  · exact complete_kept hs
theorem nvmNext_kept (S : K.Stores) : ∀ {n : Nat} {s : State}, K.on s → K.on (nvmNext n s)
  | 0, _, h => h
  | _ + 1, _, h => by
    unfold nvmNext
    split
    · exact nvmNext_kept S (nvmServe_kept S h.upd)
    · exact h
theorem nvmAsk_kept (S : K.Stores) (hs : K.on s) {q : NvmReq} : K.on (nvmAsk s q) := kept_ite (nvmRefuse_kept hs) (nvmNext_kept S hs.upd)
theorem nvmCommit_kept (S : K.Stores) (hs : K.on s) : K.on (nvmCommit s) := by
  unfold nvmCommit; dsimp only
  split
  · exact hs
  · exact nvmNext_kept S (nvmTell_kept hs.upd)
theorem nvmSaveStart_kept (S : K.Stores) (hs : K.on s) {flagging : Bool} : K.on (nvmSaveStart s flagging) := by
  unfold nvmSaveStart; dsimp only
  split
  · exact forEach_kept hs.upd fun _ _ hq => nvmRefuse_kept hq
  · exact kept_ite (nvmCommit_kept S (forEach_kept hs.upd fun _ _ hq => nvmRefuse_kept hq)) (nvmFail_kept ((forEach_kept hs.upd fun _ _ hq => nvmRefuse_kept hq).upd))
theorem tornFound_kept (hs : K.on s) {page : Nat} {seq : BitVec 16} : K.on (tornFound s page seq) := (raise_kept hs.upd).upd
theorem scanPage_kept (hs : K.on s) {n : Nat} {p : Page} : K.on (scanPage n p s) := (forEach_kept hs fun _ _ hq => tornFound_kept hq).upd
theorem recoveryScan_kept (hs : K.on s) {unary : List (Nat × Nat)} : K.on (recoveryScan s unary) := by
  unfold recoveryScan; dsimp only
  refine forEach_kept ((forEach_kept hs fun _ _ hq => scanPage_kept hq).same (nvLook_seen ..)) fun _ _ hq => ?_
  split
  · exact hq.upd
  · exact hq
theorem flashWrite_kept (S : K.Stores) (h : K.on s) {a : Nat} {bs : List Byte} : K.on (flashWrite s a bs) := S.flashWrite h
theorem flashErase_kept (S : K.Stores) (h : K.on s) {a n : Nat} : K.on (flashErase s a n) := S.flashErase h
theorem ev59_kept (hs : K.on s) {kind slot version : Nat} : K.on (ev59 s kind slot version) := (raise_kept hs).upd
theorem ev58_kept (hs : K.on s) {kind item : Nat} {v : Int} : K.on (ev58 s kind item v) := raise_kept hs
theorem retirePage_kept (hs : K.on s) {n : Nat} : K.on (retirePage n s) := by
  unfold retirePage; dsimp only
  split
  · exact ev58_kept hs
  · split
    · exact hs.upd.same (nvmOwn_seen ..)
    · exact hs.upd
theorem marginAct_kept (hs : K.on s) {i : Nat} : K.on (marginAct i s) :=
  kept_ite hs (kept_ite ((forEach_kept hs.upd fun _ _ hq => retirePage_kept hq).upd) (kept_ite (hs.upd.same (derateApply_seen ..)) (kept_ite (hs.upd.same (ageingWrite_seen ..)) hs.upd)))
theorem marginItems_kept (hs : K.on s) : K.on (marginItems s) := kept_ite (forUpTo_kept hs.upd fun _ _ hq => marginAct_kept hq) hs
theorem marginApply_kept (hs : K.on s) : K.on (marginApply s) := marginItems_kept (kept_ite hs.upd (hs.upd.same (trimTo_seen ..)))
theorem trimTick_kept (hs : K.on s) : K.on (trimTick s) := kept_ite (marginItems_kept (hs.same (trimStep_seen ..))) hs
theorem trimRest_kept (hs : K.on s) : K.on (trimRest s) := marginItems_kept (forUpTo_kept hs fun _ _ hq => hq.same (trimStep_seen ..))
theorem planValues_kept (hs : K.on s) : K.on (planValues s) := forUpTo_kept hs.upd fun _ _ hq => kept_ite (ev58_kept hq) hq
theorem planDecide_kept (hs : K.on s) {auto : Bool} : K.on (planDecide s auto) :=
  kept_ite hs.upd (kept_ite (marginApply_kept hs.upd) (kept_ite (raise_kept hs.upd) hs.upd))
theorem replan_kept (hs : K.on s) {xs : List (Nat × Int)} {auto : Bool} : K.on (replan s xs auto) :=
  kept_ite hs.upd (planDecide_kept (planValues_kept hs.upd))
theorem planBoot_kept {s0 : State} (hs : K.on s0) {xs : List (Nat × Int)} : K.on (planBoot s0 xs) := by
  unfold planBoot; dsimp only
  split
  · exact (hs.same (nvLook_seen ..)).same (planReapply_seen ..)
  · exact replan_kept (hs.same (nvLook_seen ..))
theorem marginDone_kept (hs : K.on s) {xs : List (Nat × Int)} : K.on (marginDone s xs) := by
  unfold marginDone
  extract_lets s1 s2 m s3
  have h2 : K.on s2 := ((trimRest_kept hs).same (planStore_seen ..)).same (noteLog_seen ..)
  clear_value s2
  have h3 : K.on s3 := h2.same (setMp_seen ..)
  clear_value s3
  exact kept_ite (replan_kept h3) h3
theorem fwCopy_kept (S : K.Stores) (hs : K.on s) {slot : Nat} {bs : List Byte} : K.on (fwCopy s slot bs) := flashWrite_kept S (flashErase_kept S hs)
theorem execFwStage_kept (S : K.Stores) (hs : K.on s) {rq : Requester} {d : Desc} {hostFault timeout : Bool} : K.after (execFwStage rq d hostFault timeout s) :=
  command_kept S hs fun _ _ hq => kept_ite (complete_kept hq) (kept_ite (complete_kept hq) (kept_ite (complete_kept hq) (kept_ite (complete_kept hq)
    (kept_ite (complete_kept ((flashErase_kept S hq).upd)) (kept_ite (complete_kept ((flashErase_kept S hq).upd))
    (kept_ite (complete_kept (ev59_kept ((fwCopy_kept S hq).upd))) (complete_kept ((flashErase_kept S (fwCopy_kept S hq)).upd))))))))
theorem execFwCommit_kept (D : K.Moves) (hs : K.on s) {rq : Requester} {d : Desc} : K.after (execFwCommit rq d s) :=
  command_kept (D 0).stores hs fun _ _ hq => kept_ite (complete_kept hq) (kept_ite (complete_kept hq) (kept_ite (complete_kept hq) (kept_ite (complete_kept hq)
    (kept_ite (complete_kept hq) (mpRestart_kept D (ev59_kept (complete_kept (hq.same (bootWrite_seen ..)))))))))
theorem execLogRead_kept (S : K.Stores) (hs : K.on s) {rq : Requester} {d : Desc} : K.after (execLogRead rq d s) := by
  unfold execLogRead; dsimp only
  refine command_kept S hs fun _ _ hq => ?_
  split
  · exact complete_kept hq
  · split
    · exact complete_kept hq
    · split
      · exact complete_kept hq.upd
      · exact complete_kept (cmdWrite_kept S hq)
theorem mpStart_kept (S : K.Stores) (hs : K.on s) {slot : Nat} {xs : List (Nat × Int)} : K.on (mpStart s slot xs) := by
  unfold mpStart
  extract_lets h code table g go s1
  have h1 : K.on s1 := sramWrite_kept S hs.upd
  clear_value s1
  exact planBoot_kept (h1.same (setMp_seen ..))
theorem mpBoot_kept (S : K.Stores) (hs : K.on s) {xs : List (Nat × Int)} : K.on (mpBoot s xs) := by
  unfold mpBoot
  extract_lets s0 c
  have h0 : K.on s0 := (hs.same (nvLook_seen ..)).same (slotVersions_seen ..)
  clear_value s0
  split
  extract_lets s1 s2
  have h1 : K.on s1 := kept_ite (h0.same (bootWrite_seen ..)) (h0.same (bootShow_seen ..))
  clear_value s1
  have h2 : K.on s2 := kept_ite ((ev59_kept h1).same (noteCount_seen ..)) h1
  clear_value s2
  exact kept_ite (mpStart_kept S h2) (kept_ite (mpStart_kept S h2) (h2.same (mpNoImage_seen ..)))
theorem execMpBoot_kept (S : K.Stores) (hs : K.on s) {inputs : List (Nat × Int)} : K.after (execMpBoot inputs s) := kept_ite (mpBoot_kept S hs) hs
theorem execMpSelfRestart_kept (D : K.Moves) (hs : K.on s) : K.after (execMpSelfRestart s) := kept_ite (mpRestart_kept D hs) hs
theorem execMpDataPageFill_kept (D : K.Moves) (hs : K.on s) {page : Nat} : K.after (execMpDataPageFill page s) := by
  unfold execMpDataPageFill; dsimp only
  split
  · exact kept_ite (mpRestart_kept D hs) hs
  · exact hs
theorem rollbackWord_kept (hs : K.on s) {c : Nat} : K.on (rollbackWord s c) := kept_ite (ev59_kept hs.upd) hs.upd
theorem rollbackGo_kept : ∀ {n : Nat} {cut : Option OtpCut} {s : State}, K.on s → K.on (rollbackGo n cut s)
  | 0, _, _, h => h
  | _ + 1, cut, _, h => by
    unfold rollbackGo
    split
    · split
      · exact rollbackGo_kept (rollbackWord_kept h)
      · split
        · exact h.upd
        · exact rollbackGo_kept (rollbackWord_kept h)
    · exact h
theorem fwConfirm_kept (hs : K.on s) {slot : Nat} {cut : Option OtpCut} : K.on (fwConfirm s slot cut) := by
  unfold fwConfirm
  extract_lets h s1 m1 s2
  have h1 : K.on s1 := hs.same (bootWrite_seen ..)
  clear_value s1
  have h2 : K.on s2 := (ev59_kept h1.upd).upd
  clear_value s2
  exact rollbackGo_kept h2.upd
theorem execFwConfirm_kept (hs : K.on s) {cut : Option OtpCut} : K.after (execFwConfirm cut s) := by
  unfold execFwConfirm
  split
  · exact kept_ite (fwConfirm_kept hs) hs
  · exact hs
theorem execRollbackRetry_kept (hs : K.on s) {cut : Option OtpCut} : K.after (execRollbackRetry cut s) := kept_ite (rollbackGo_kept hs.upd) hs
theorem execMarginPlanGet_kept (S : K.Stores) (hs : K.on s) {rq : Requester} {d : Desc} : K.after (execMarginPlanGet rq d s) :=
  command_kept S hs fun _ _ hq => kept_ite (complete_kept hq) (complete_kept (hostWrite_kept hq))
theorem execMarginPlanAccept_kept (S : K.Stores) (hs : K.on s) {rq : Requester} {d : Desc} : K.after (execMarginPlanAccept rq d s) :=
  command_kept S hs fun _ _ hq => kept_ite (complete_kept hq) (kept_ite (complete_kept hq) (kept_ite (complete_kept hq) (complete_kept (marginApply_kept hq))))
theorem marginCfgWrite_kept (hs : K.on s) {w : Word} {xs : List (Nat × Int)} : K.on (marginCfgWrite s w xs) := kept_ite (replan_kept hs.upd) hs.upd
theorem execReplan_kept (hs : K.on s) {via : Via} {w : Word} {inputs : List (Nat × Int)} : K.after (execReplan via w inputs s) :=
  kept_ite (marginCfgWrite_kept hs) hs
theorem execMarginReplanPeriodic_kept (hs : K.on s) {inputs : List (Nat × Int)} : K.after (execMarginReplanPeriodic inputs s) :=
  kept_ite (replan_kept hs.upd) hs
theorem execMarginApplyDone_kept (hs : K.on s) {inputs : List (Nat × Int)} : K.after (execMarginApplyDone inputs s) :=
  kept_ite (marginDone_kept hs) hs
theorem monitorTake_kept (hs : K.on s) {m rho rho0 : Nat} {lost : Bool} : K.on (monitorTake s m rho rho0 lost) := kept_ite (ev58_kept hs.upd) hs.upd
theorem execAgeingMeasure_kept (hs : K.on s) {monitors : List (Nat × Nat × Nat)} {lost : List Nat} {gate : Int} {drifts : List Int} : K.after (execAgeingMeasure monitors lost gate drifts s) :=
  kept_ite hs ((forEach_kept hs fun _ _ hq => monitorTake_kept hq).upd)
theorem dieWarn_kept (hs : K.on s) : K.on (dieWarn s) := kept_ite (raise_kept hs.upd) hs
theorem execDieTempWarn_kept (hs : K.on s) {sensor : Fin 8} {t : BitVec 16} : K.after (execDieTempWarn sensor t s) :=
  kept_ite (dieWarn_kept hs.upd) hs
theorem execOnTimeSecond_kept (hs : K.on s) {sensors : List (Nat × Int)} : K.after (execOnTimeSecond sensors s) := by
  unfold execOnTimeSecond
  refine kept_ite (P := K.on) hs ?_
  extract_lets m1 s1 m2 s2 m3 s3
  have h2 : K.on s2 := ((hs.same (setMp_seen ..)).same (setMp_seen ..)).same (secondClear_seen ..)
  have h3 : K.on s3 := by
    unfold s3
    split
    · exact dieWarn_kept (h2.same (setMp_seen ..))
    · exact h2
  exact Kept.on.same (t := mpFlush _) (kept_ite (h3.same (noteCount_seen ..)) h3) (mpFlush_seen _)
theorem execRtcSet_kept (S : K.Stores) (hs : K.on s) {rq : Requester} {d : Desc} : K.after (execRtcSet rq d s) := command_kept S hs fun _ _ hq => hq.upd
theorem execRtcGet_kept (S : K.Stores) (hs : K.on s) {rq : Requester} {d : Desc} : K.after (execRtcGet rq d s) := command_kept S hs fun _ _ hq => complete_kept hq
theorem execAlarmSet_kept (S : K.Stores) (hs : K.on s) {rq : Requester} {d : Desc} : K.after (execAlarmSet rq d s) :=
  command_kept S hs fun _ _ hq => kept_ite (complete_kept hq) hq.upd
theorem execPeriodicSet_kept (S : K.Stores) (hs : K.on s) {rq : Requester} {d : Desc} : K.after (execPeriodicSet rq d s) :=
  command_kept S hs fun _ _ hq => kept_ite (complete_kept hq) hq.upd
theorem execRtcTimeWrite_kept (hs : K.on s) {via : Via} {w : Word} : K.after (execRtcTimeWrite via w s) := hs.same (calWrite_seen ..)
theorem execRtcDateWrite_kept (hs : K.on s) {via : Via} {w : Word} : K.after (execRtcDateWrite via w s) := hs.same (calWrite_seen ..)
theorem execRtcTimeRead_kept (L : K.Links) (hs : K.on s) {via : Via} : K.after (execRtcTimeRead via s) := kept_ite (L.upd (hs.same (rtcTimeRead_seen ..))) hs
theorem execRtcCommit_kept (D : K.Moves) (hs : K.on s) {edge : Nat} : K.after (execRtcCommit edge s) := rtcCommit_kept D hs
theorem execAlarmFire_kept (D : K.Moves) (hs : K.on s) : K.after (execAlarmFire s) := alarmCheck_kept D hs
theorem execPeriodicWake_kept (D : K.Moves) (hs : K.on s) {edge : Nat} : K.after (execPeriodicWake edge s) := periodicWake_kept D hs
theorem execRtcCompensation_kept (hs : K.on s) {temp : BitVec 16} : K.after (execRtcCompensation temp s) := kept_ite hs hs.upd
theorem execOscStop_kept (hs : K.on s) : K.after (execOscStop s) := oscStop_kept hs
theorem execCrystalRestart_kept (D : K.Moves) (hs : K.on s) : K.after (execCrystalRestart s) := crystalRestart_kept D hs
theorem execSecondBoundary_kept (D : K.Moves) (hs : K.on s) : K.after (execSecondBoundary s) := secondBoundary_kept D (kept_ite hs hs.upd)

/-! ### The charger -/

theorem ev46_kept (hs : K.on s) {kind : Nat} {src : Source} {reason : Nat} : K.on (ev46 s kind src reason) := raise_kept hs
theorem fwdEnd_kept (hs : K.on s) {reason : Nat} {st : ChgState} : K.on (fwdEnd s reason st) := kept_ite ((ev46_kept hs).upd) (kept_ite hs.upd hs)
theorem revEnd_kept (hs : K.on s) {reason : Nat} : K.on (revEnd s reason) := kept_ite ((ev46_kept hs.upd).upd) hs
theorem revCancel_kept (hs : K.on s) {status : Nat} : K.on (revCancel s status) := kept_ite hs (completeAll_kept hs.upd)
theorem chgLatch_kept (hs : K.on s) {bits : BitVec 11} {fwdReason : Nat} : K.on (chgLatch s bits fwdReason) := by
  unfold chgLatch
  extract_lets fresh c1 s1 s2 s3 s4
  have h2 : K.on s2 := raise_kept (hs.same (setChg_seen ..))
  clear_value s2
  have h3 : K.on s3 := kept_ite (h2.same (assertLine_seen _ _ (by decide))) h2
  clear_value s3
  have h4 : K.on s4 := kept_ite (fwdEnd_kept h3) h3
  clear_value s4
  exact kept_ite hs (kept_ite (revEnd_kept h4) h4)
theorem sessionStart_kept (hs : K.on s) : K.on (sessionStart s) := kept_ite (chgLatch_kept hs) hs.upd
theorem chgLost_kept (hs : K.on s) {reason : Nat} : K.on (chgLost s reason) := kept_ite hs (fwdEnd_kept (ev46_kept hs))
theorem sweepStep_kept (hs : K.on s) {power : Int} : K.on (sweepStep s power) := by
  unfold sweepStep; dsimp only
  split
  · exact hs
  · exact kept_ite hs.upd (kept_ite (sessionStart_kept (kept_ite (ev46_kept hs.upd) hs.upd)) (kept_ite (ev46_kept hs.upd) hs.upd))
theorem bandUpdate_kept (hs : K.on s) {ratio : Nat} : K.on (bandUpdate s ratio) := by
  unfold bandUpdate; dsimp only
  split
  · exact chgLatch_kept hs.upd
  · exact hs.upd.same (bandApply_seen ..)
theorem chgPut_kept (hs : K.on s) {b : BitVec 512} : K.on (chgPut s b) :=
  kept_ite (revEnd_kept (kept_ite (fwdEnd_kept hs.upd) hs.upd)) (kept_ite (fwdEnd_kept hs.upd) hs.upd)
theorem chgPutAll_kept (hs : K.on s) : K.on (chgPutAll s) := forEach_kept hs.upd fun _ _ hq => complete_kept (chgPut_kept hq)
theorem chgReverseBegin_kept (hs : K.on s) {v i : Nat} {t : Ticket} : K.on (chgReverseBegin s v i t) := by
  unfold chgReverseBegin; dsimp only
  split
  · exact complete_kept hs
  · exact kept_ite (complete_kept hs.upd) (kept_ite hs.upd ((fwdEnd_kept hs).upd))
theorem chgReverseTick_kept (hs : K.on s) : K.on (chgReverseTick s) := by
  unfold chgReverseTick; dsimp only
  split
  · exact hs
  · split
    · exact hs.upd
    · split
      · exact revCancel_kept hs
      · exact completeAll_kept ((ev46_kept hs.upd).upd)
theorem chgPathChange_kept (hs : K.on s) : K.on (chgPathChange s) :=
  revEnd_kept (revCancel_kept (kept_ite (kept_ite (chgLost_kept hs) (fwdEnd_kept hs)) (kept_ite (hs.same (chgCandFail_seen ..)) hs)))
theorem chgSave_kept (hs : K.on s) : K.on (chgSave s) := revEnd_kept (revCancel_kept (fwdEnd_kept hs))
theorem chgFaultState_kept (hs : K.on s) : K.on (chgFaultState s) := revEnd_kept (revCancel_kept hs)
theorem chgPowerDown_kept (hs : K.on s) : K.on (chgPowerDown s) := completeAll_kept ((revEnd_kept (revCancel_kept (fwdEnd_kept hs))).upd)
theorem chgBoot_kept (hs : K.on s) {bytes : List Byte} : K.on (chgBoot s bytes) := kept_ite (kept_ite hs.upd hs.upd) (chgLatch_kept hs.upd)
theorem chgLate_kept (hs : K.on s) : K.on (chgLate s) := by
  unfold chgLate
  extract_lets ws s1 s2 s3
  have h1 : K.on s1 := hs.upd
  clear_value s1
  have h2 : K.on s2 := kept_ite (fwdEnd_kept h1) h1
  clear_value s2
  have h3 : K.on s3 := kept_ite (h2.same (sweepAnew_seen ..)) h2
  clear_value s3
  exact kept_ite (h3.same (authStart_seen ..)) h3
theorem chgTickFaults_kept (hs : K.on s) {x : ChgSample} : K.on (chgTickFaults s x) := by
  unfold chgTickFaults
  extract_lets c s1 s2 s3
  have h1 : K.on s1 := kept_ite (chgLatch_kept hs) hs
  clear_value s1
  have h2 : K.on s2 := kept_ite (chgLatch_kept h1) h1
  clear_value s2
  have h3 : K.on s3 := kept_ite (chgLatch_kept h2) h2
  clear_value s3
  exact kept_ite (kept_ite (chgLatch_kept (chgLost_kept h3)) (chgLatch_kept h3)) h3
theorem chgIdle_kept (hs : K.on s) : K.on (chgIdle s) :=
  kept_ite hs (kept_ite ((fwdEnd_kept hs).upd) (kept_ite ((kept_ite hs.upd hs).same (chgTry_seen ..)) (kept_ite hs.upd hs)))
theorem revFloor_kept (hs : K.on s) : K.on (revFloor s) := kept_ite (revEnd_kept hs) hs
theorem chgTick_kept (hs : K.on s) {x : ChgSample} : K.on (chgTick s x) := by
  unfold chgTick
  refine kept_ite (kept_ite hs ?_) (kept_ite hs hs.upd)
  extract_lets s1 s2 s3 s4
  have h2 : K.on s2 := chgTickFaults_kept ((hs.same (chgMeasure_seen ..)).same (qbAdd_seen ..))
  clear_value s2
  have h3 : K.on s3 := (chgReverseTick_kept (chgLate_kept (chgPutAll_kept h2))).same (vocTick_seen ..)
  clear_value s3
  have h4 : K.on s4 := revFloor_kept ((h3.same (revRamp_seen ..)).same (chgStage_seen ..))
  clear_value s4
  exact chgIdle_kept ((((h4.same (chgQualTick_seen ..)).same (chgPhase_seen ..)).same (chgRuns1_seen ..)).same (chgTimers_seen ..))
theorem execChgConfig_kept (S : K.Stores) (hs : K.on s) {rq : Requester} {d : Desc} {hostFault : Bool} : K.after (execChgConfig rq d hostFault s) := by
  unfold execChgConfig; dsimp only
  refine command_kept S hs fun _ _ hq => ?_
  split
  · exact complete_kept hq
  · split
    · exact complete_kept hq
    · exact hq.upd
theorem execChgReverse_kept (S : K.Stores) (hs : K.on s) {rq : Requester} {d : Desc} : K.after (execChgReverse rq d s) :=
  command_kept S hs fun _ _ hq => kept_ite (kept_ite (complete_kept hq) (kept_ite (complete_kept hq) (kept_ite (complete_kept hq) (chgReverseBegin_kept hq))))
    (kept_ite (complete_kept hq) (complete_kept (revEnd_kept (revCancel_kept hq))))
theorem execChgControlTick_kept (hs : K.on s) {x : ChgSample} : K.after (execChgControlTick x s) := chgTick_kept (trimTick_kept hs)
theorem execChgSourceQualified_kept (D : K.Moves) (hs : K.on s) : K.after (execChgSourceQualified s) :=
  kept_ite hs (kept_ite ((kept_ite (wakeMpDomain_kept D (ev46_kept hs.upd)) (ev46_kept hs.upd)).upd) (sessionStart_kept (kept_ite (wakeMpDomain_kept D (ev46_kept hs.upd)) (ev46_kept hs.upd))))
theorem execChgSourceRetry_kept (hs : K.on s) : K.after (execChgSourceRetry s) := kept_ite hs.upd hs
theorem execChgSourceLost_kept (hs : K.on s) : K.after (execChgSourceLost s) :=
  kept_ite hs (kept_ite (chgLost_kept hs) (kept_ite (chgLost_kept hs) hs))
theorem execMpptStep_kept (hs : K.on s) : K.after (execMpptStep s) := kept_ite hs.upd hs
theorem execSweepStep_kept (hs : K.on s) : K.after (execSweepStep s) := kept_ite (sweepStep_kept hs) hs
theorem execPeriodicSweep_kept (hs : K.on s) : K.after (execPeriodicSweep s) := kept_ite hs.upd hs
theorem execChgBandUpdate_kept (hs : K.on s) {ratio : BitVec 16} : K.after (execChgBandUpdate ratio s) := kept_ite (bandUpdate_kept hs.upd) hs
theorem execSafetyTimerExpiry_kept (hs : K.on s) : K.after (execSafetyTimerExpiry s) := kept_ite (chgLatch_kept hs.upd) hs
theorem execPrechargeTimer_kept (hs : K.on s) : K.after (execPrechargeTimer s) := kept_ite (chgLatch_kept hs) hs
theorem execChgTermination_kept (hs : K.on s) : K.after (execChgTermination s) := kept_ite ((fwdEnd_kept hs).upd) hs
theorem execRechargeCondition_kept (hs : K.on s) : K.after (execRechargeCondition s) := kept_ite hs.upd hs
theorem execReverseCheck_kept (hs : K.on s) {va : BitVec 16} : K.after (execReverseCheck va s) :=
  kept_ite hs (kept_ite (revEnd_kept (chgLatch_kept hs.upd)) hs.upd)
theorem execQbWake_kept (D : K.Moves) (hs : K.on s) : K.after (execQbWake s) := kept_ite (wakeMpDomain_kept D hs) hs
theorem execPackAuthRenewal_kept (hs : K.on s) : K.after (execPackAuthRenewal s) := kept_ite hs.upd hs
theorem execGaugeCapture_kept (hs : K.on s) {samples : List (Int × Int)} : K.after (execGaugeCapture samples s) := kept_ite hs.upd hs
/-- What holds once the fault state is entered survives the rest of the entry. -/
theorem faultEnter_entered (hf : s.flt.faultState = false)
    (hs : K.on { s with flt := { s.flt with faultState := true, safeN := true, aliveRun := false } }) : K.on (faultEnter s) := by
  unfold faultEnter
  rw [if_neg (by rw [hf]; exact Bool.false_ne_true)]
  extract_lets f1 s1 s2 s3 s4 src m5 sh5 s5
  have h1 : K.on s1 := hs
  clear_value s1
  have h2 : K.on s2 := seqSafe_kept h1
  clear_value s2
  have h3 : K.on s3 := Kept.on.same (kept_ite (forUpTo_kept h2 fun _ _ hq => railSafe_kept hq) h2) (safeRailMembers_seen _)
  clear_value s3
  have h4 : K.on s4 := kept_ite (chgFaultState_kept h3) h3
  clear_value s4
  have h5 : K.on s5 := h4.upd
  exact (h5.same (noteCount_seen ..)).same (noteLog_seen ..)
theorem faultEnter_same (hf : s.flt.faultState = true) : faultEnter s = s := if_pos hf
theorem faultEnter_kept (hs : K.on s) : K.on (faultEnter s) := by
  cases hf : s.flt.faultState with
  | true =>
    rw [faultEnter_same hf]
    exact hs
  | false => exact faultEnter_entered hf (K.faultEntered hs)

/-! ### The fault collector -/

theorem fltLatch_kept (F : K.Free) (hs : K.on s) {k : Nat} {detail : Word} {timed : Bool} : K.on (fltLatch s k detail timed) := by
  unfold fltLatch; dsimp only
  split
  · exact (F.upd hs)
  · exact raise_kept (F.upd hs)
  · exact faultEnter_kept (F.upd hs)

/-! ### The links -/

theorem ev5_kept (hs : K.on s) {p kind : Nat} : K.on (ev5 s p kind) := raise_kept hs
theorem nodeRecord_kept (hs : K.on s) {a : Nat} {restored : Bool} : K.on (nodeRecord s a restored) := kept_ite (tsRecord_kept hs.upd) hs
theorem setNodeBit_kept (hs : K.on s) {a which : Nat} {v : Bool} : K.on (setNodeBit s a which v) :=
  kept_ite hs (nodeRecord_kept (kept_ite (hs.upd.same (piJudge_seen ..)) hs.upd))
theorem capUnplace_kept (hs : K.on s) {p : Nat} : K.on (capUnplace s p) := tsLate_kept hs.upd
theorem capExclude_kept (hs : K.on s) {a : Nat} : K.on (capExclude a s) := by
  unfold capExclude; dsimp only
  refine forEach_kept hs fun _ _ hq => ?_
  split
  · exact hq
  · split
    · exact hq
    · split
      · exact capUnplace_kept hq.upd
      · exact hq.upd
theorem capWrite_kept (hs : K.on s) {c : Capture} {k : CapNode} {full : Bool} : K.on (capWrite s c k full) := by
  unfold capWrite
  extract_lets s1 s2
  have h1 : K.on s1 := by
    unfold s1
    split
    · exact hs
    · exact forEach_kept (hostPost_kept hs) fun _ _ hq => hostPost_kept hq
  clear_value s1
  exact tsLate_kept (((h1.same (updCapNode_seen ..)).same (fitsDue_seen ..)).same (capMark_seen ..))
theorem capEnd_kept (hs : K.on s) {c : Capture} : K.on (capEnd s c) :=
  raise_kept (forEach_kept ((tsRecord_kept ((forEach_kept hs fun _ _ hq => capWrite_kept hq).same (capMark_seen ..))).upd) fun _ _ hq => hq.upd)
theorem capProgress_kept : ∀ {n : Nat} {s : State}, K.on s → K.on (capProgress n s)
  | 0, _, h => h
  | _ + 1, _, h => by
    unfold capProgress
    split
    · exact h
    · exact kept_ite (capProgress_kept (capEnd_kept h)) h
theorem capPump_kept (hs : K.on s) : K.on (capPump s) :=
  capProgress_kept (forEach_kept hs fun _ _ hq => forEach_kept hq fun _ _ hq2 => kept_ite (capWrite_kept hq2) hq2)
theorem capReserve_kept (h : K.on s) {seq : Word} {k : CapNode} : K.on (capReserve s seq k) := by
  have h1 := tsReserve_kept h (m := 16) (n := 129064) (ts := k.ts)
  unfold capReserve
  split
  · exact h.upd
  · split
    · next he => rw [he] at h1; exact h1.upd
    · next he => rw [he] at h1; exact h1.upd
theorem capPiece_kept (hs : K.on s) {a : Nat} {num : Byte} {off : Nat} {bytes : List Byte} : K.on (capPiece s a num off bytes) := by
  unfold capPiece
  split
  · exact hs
  · split
    · exact hs
    · split
      · exact hs
      · extract_lets s1 s2 s3 s4
        have h1 : K.on s1 := kept_ite (capReserve_kept hs) hs
        clear_value s1
        have h2 : K.on s2 := by
          unfold s2
          split
          · exact hostPost_kept h1
          · exact h1
        clear_value s2
        have h3 : K.on s3 := h2.same (updCapNode_seen ..)
        clear_value s3
        refine capPump_kept (kept_ite ?_ h3)
        split
        · exact h3.same (askMissing_seen ..)
        · exact h3
theorem capDecline_kept (hs : K.on s) {d reason : Nat} : K.on (capDecline s d reason) := tsRecord_kept hs.upd
theorem detection_kept (hs : K.on s) {t d delay : Nat} : K.on (detection s t d delay) := by
  refine kept_ite (hs.same (updCapture_seen ..)) ?_
  split
  · exact capDecline_kept hs
  · exact hs.same (captEmit_seen ..)
theorem threshCompute_kept {s0 : State} (hs : K.on s0) : K.on (threshCompute s0) := by
  unfold threshCompute; dsimp only
  split
  · exact (seeAll_kept hs).upd
  · exact (seeAll_kept hs).upd
theorem piRecord_kept (hs : K.on s) {k : Tick} : K.on (piRecord k s) := kept_ite (tsRecord_kept hs.upd) hs.upd
theorem piFlush_kept (hs : K.on s) {ms : Nat} : K.on (piFlush s ms) := forEach_kept hs.upd fun _ _ hq => piRecord_kept hq
theorem piReceive_kept (hs : K.on s) {t : Nat} {k : Byte} {x : BitVec 20} : K.on (piReceive s t k x) := (piFlush_kept hs).upd
theorem linkFinish_kept (hs : K.on s) {t : Ticket} {status : Nat} {r : DWord} : K.on (linkFinish s t status r) := complete_kept hs.upd
theorem enumDone_kept (hs : K.on s) {p : Nat} : K.on (enumDone s p) := by
  unfold enumDone; dsimp only
  split
  · exact kept_ite (linkFinish_kept hs) hs.upd
  · exact hs
theorem forgetNodes_kept (hs : K.on s) {p : Nat} : K.on (forgetNodes p s) := (forEach_kept hs fun _ _ hq => setNodeBit_kept (setNodeBit_kept hq)).upd
theorem enumStart_kept (hs : K.on s) {p : Nat} : K.on (enumStart p s) :=
  ((forgetNodes_kept (forEach_kept hs fun _ _ hq => capExclude_kept hq)).upd).same (portRates_seen ..)
theorem enumFail_kept (hs : K.on s) {p : Nat} : K.on (enumFail s p) := enumDone_kept (ev5_kept (hs.upd.same (portRates_seen ..)))
theorem stageNext_kept (h : K.on s) {p : Nat} : K.on (stageNext s p) := by
  unfold stageNext; dsimp only
  split
  · exact h
  · refine kept_ite h ?_
    split
    · exact h.upd
    · exact h.same (cmdTimings_seen ..)
    · exact kept_ite (kept_ite h.upd h.upd) ((seeAll_kept h).upd)
    · exact h.upd
    · exact h
theorem stageRun_kept {n p : Nat} (hs : K.on s) : K.on (stageRun n p s) := by
  induction n generalizing s with
  | zero => exact hs
  | succ n ih => exact ih (stageNext_kept hs)
theorem stages_kept (hs : K.on s) {p : Nat} : K.on (stages s p) := stageRun_kept hs
theorem enumCount_kept (hs : K.on s) {p n : Nat} : K.on (enumCount s p n) := by
  unfold enumCount; dsimp only
  split
  · exact hs
  · exact kept_ite hs (kept_ite (enumFail_kept hs.upd) (stages_kept ((hs.upd.same (addressNodes_seen ..)).upd)))
theorem discovered_kept (hs : K.on s) {p na nb : Nat} : K.on (discovered s p na nb) := by
  unfold discovered; dsimp only
  split
  · exact hs
  · exact kept_ite hs (kept_ite (stages_kept ((forUpTo_kept (forUpTo_kept hs.upd fun _ _ hq => kept_ite hq.upd hq) fun _ _ hq => kept_ite (setNodeBit_kept hq) hq).upd)) (stages_kept ((hs.upd.same (addressNodes_seen ..)).upd)))
theorem restoreRest_kept (hs : K.on s) {a : Nat} : K.on (restoreRest s a) := ((seeAll_kept hs).same (cmdTiming_seen ..)).upd
theorem echoReturn_kept (hs : K.on s) {p : Nat} {chainB : Bool} {rt : Nat} : K.on (echoReturn s p chainB rt) := by
  unfold echoReturn; dsimp only
  split
  · exact kept_ite hs (kept_ite (restoreRest_kept hs.upd) (kept_ite (enumFail_kept hs.upd) (stages_kept hs.upd)))
  · exact hs
theorem authDone_kept (hs : K.on s) {a status : Nat} {r : DWord} : K.on (authDone s a status r) := by
  unfold authDone
  split
  · exact kept_ite (linkFinish_kept hs) hs
  · exact hs
theorem authFail_kept (hs : K.on s) {a reason status : Nat} {serial : BitVec 64} : K.on (authFail s a reason status serial) :=
  kept_ite (authDone_kept (raise_kept (capExclude_kept (setNodeBit_kept hs.upd)))) (raise_kept (capExclude_kept (setNodeBit_kept hs.upd)))
theorem serialChanged_kept (hs : K.on s) {a : Nat} {old new : BitVec 64} : K.on (serialChanged s a old new) :=
  (forEach_kept (raise_kept hs) fun _ _ hq => reinitChannel_kept hq).upd
theorem authPass_kept {s00 : State} (hs : K.on s00) {a : Nat} {serial : BitVec 64} : K.on (authPass s00 a serial) := by
  unfold authPass
  extract_lets n own s occ accepted ts held s0 s1 s2
  clear_value own
  have h : K.on s := by
    unfold s
    split
    · exact seeAll_kept hs
    · exact hs
  clear_value s
  have h0 : K.on s0 := setNode_kept (h.same (takeFree_seen ..))
  clear_value s0
  have h1 : K.on s1 := kept_ite h0 (setNodeBit_kept h0)
  clear_value s1
  have h2 : K.on s2 := kept_ite h1 (serialChanged_kept h1)
  clear_value s2
  exact kept_ite (authDone_kept h2) h2
theorem authAnswer_kept (hs : K.on s) {a status : Nat} {data : List Byte} : K.on (authAnswer s a status data) := by
  unfold authAnswer; dsimp only
  split
  · exact authFail_kept hs
  · split
    · exact authFail_kept hs
    · split
      · exact hs
      · exact kept_ite (kept_ite (authDone_kept hs.upd) (kept_ite (hs.upd.same (enumNote_seen ..)) hs.upd)) (kept_ite (authPass_kept hs) (authFail_kept hs))
theorem profileDone_kept (hs : K.on s) {status : Nat} : K.on (profileDone s status) := by
  unfold profileDone; dsimp only
  split
  · exact kept_ite (linkFinish_kept hs) hs.upd
  · exact hs
theorem restoreDone_kept (hs : K.on s) {a : Nat} : K.on (restoreDone s a) := nodeRecord_kept hs.upd
theorem cmdLost_kept (hs : K.on s) {p : Nat} {c : NodeCmd} {status : Nat} : K.on (cmdLost s p c status) := by
  unfold cmdLost
  split
  · exact hs.upd
  · split
    · exact hs.same (enumNote_seen ..)
    · exact hs.upd
    · exact profileDone_kept hs
    · exact hs
theorem nodeAnswer_kept (hs : K.on s) {p : Nat} {c : NodeCmd} {status : Nat} {data : List Byte} : K.on (nodeAnswer s p c status data) := by
  unfold nodeAnswer; dsimp only
  refine stages_kept ?_
  split
  · exact authAnswer_kept hs
  · split
    · exact cmdLost_kept hs
    · split
      · exact hs.upd
      · exact kept_ite (profileDone_kept hs) hs
      · exact hs.upd
      · exact kept_ite (restoreDone_kept hs) hs
      · exact hs
theorem nodeNoAnswer_kept (hs : K.on s) {p : Nat} {c : NodeCmd} : K.on (nodeNoAnswer s p c) :=
  stages_kept (kept_ite (kept_ite ((authFail_kept hs).same (enumNote_seen ..)) (authFail_kept hs)) (cmdLost_kept hs))
theorem retryOrFail_kept (hs : K.on s) {p : Nat} {chainB : Bool} : K.on (retryOrFail s p chainB) := by
  unfold retryOrFail; dsimp only
  split
  · exact hs
  · exact kept_ite hs (kept_ite hs.upd (nodeNoAnswer_kept hs.upd))
theorem breakStart_kept (hs : K.on s) {p : Nat} : K.on (breakStart s p) := ev5_kept (hs.upd.same (portRates_seen ..))
theorem trainFailed_kept (hs : K.on s) {p : Nat} : K.on (trainFailed s p) := kept_ite hs (kept_ite (breakStart_kept hs.upd) hs.upd)
theorem segmentKept_kept (hs : K.on s) {a chars : Nat} {body : List Byte} : K.on (segmentKept s a chars body) := by
  unfold segmentKept
  extract_lets n x blocks s1 nstat n1 s2 s3
  have h1 : K.on s1 := setNode_kept hs
  clear_value s1
  have h2 : K.on s2 := setNode_kept h1
  clear_value s2
  have h3 : K.on s3 := forEach_kept (setNodeBit_kept (setNodeBit_kept h2)) fun _ _ hq => hq.same (subBlockIn_seen ..)
  clear_value s3
  exact kept_ite (forEach_kept h1 fun _ _ hq => hq.same (subBlockIn_seen ..)) (kept_ite (h3.same (askOldest_seen ..)) h3)
theorem segmentIn_kept (hs : K.on s) {p : Nat} {rd : Bool} {syms : List (BitVec 10)} : K.on (segmentIn s p rd syms) := by
  unfold segmentIn; dsimp only
  split
  · split
    · exact kept_ite hs.upd hs.upd
    · exact hs.upd
  · split
    · split
      · exact kept_ite hs.upd hs.upd
      · exact hs.upd
    · exact kept_ite (segmentKept_kept hs) hs
theorem segmentMissing_kept (hs : K.on s) {a : Nat} : K.on (segmentMissing s a) := kept_ite hs (kept_ite (setNodeBit_kept hs.upd) hs.upd)
theorem restoreStart_kept (hs : K.on s) {a : Nat} {supplyLost : Bool} : K.on (restoreStart s a supplyLost) := (capExclude_kept hs.upd).upd
theorem startEnumerate_kept (hs : K.on s) {t : Ticket} {target : Nat} : K.on (startEnumerate s t target) :=
  kept_ite (complete_kept hs) (kept_ite (complete_kept hs) (forEach_kept hs.upd fun _ _ hq => enumStart_kept hq))
theorem startAuth_kept (hs : K.on s) {t : Ticket} {a : Nat} : K.on (startAuth s t a) := kept_ite (complete_kept hs) hs.upd
theorem startProfiles_kept (hs : K.on s) {t : Ticket} {target : Nat} {mask : BitVec 16} {block : BitVec 4096} : K.on (startProfiles s t target mask block) :=
  kept_ite (complete_kept hs) (kept_ite (complete_kept (forEach_kept (kept_ite (forUpTo_kept hs fun _ _ hq => hq.upd) hs) fun _ _ hq => hq.upd)) ((forEach_kept
    (kept_ite (forUpTo_kept hs fun _ _ hq => hq.upd) hs) fun _ _ hq => hq.upd).upd))
theorem startArm_kept (hs : K.on s) {t : Ticket} {on : Bool} {thresh : Nat} : K.on (startArm s t on thresh) :=
  kept_ite (complete_kept hs) (kept_ite (complete_kept hs) (complete_kept (kept_ite (threshCompute_kept hs.upd) hs.upd)))
theorem startForce_kept (hs : K.on s) {t : Ticket} : K.on (startForce s t) :=
  kept_ite (complete_kept hs) (kept_ite (complete_kept (capDecline_kept hs)) (complete_kept (hs.same (captEmit_seen ..))))
theorem startJob_kept (hs : K.on s) {j : LinkJob} : K.on (startJob s j) := by
  unfold startJob
  split
  · exact startEnumerate_kept hs
  · exact startAuth_kept hs
  · exact startProfiles_kept hs
  · exact startArm_kept hs
  · exact startForce_kept hs
theorem linkProgress_kept : ∀ {n : Nat} {s : State}, K.on s → K.on (linkProgress n s)
  | 0, _, h => h
  | _ + 1, _, h => by
    unfold linkProgress
    split
    · exact linkProgress_kept (startJob_kept h.upd)
    · exact h
theorem linkGo_kept (hs : K.on s) : K.on (linkGo s) := linkProgress_kept hs
theorem linkSubmit_kept (hs : K.on s) {j : LinkJob} : K.on (linkSubmit s j) := linkGo_kept hs.upd
theorem linkGroupOff_kept (hs : K.on s) {g : Nat} : K.on (linkGroupOff g s) := by
  unfold linkGroupOff
  extract_lets x0 s1 s2
  have h1 : K.on s1 := by
    refine forUpTo_kept hs fun i q hq => ?_
    dsimp only
    have h1 : K.on (forEach (positions q (4 * g + i)) (fun k r => capExclude (32 * (4 * g + i) + k) r) q) := forEach_kept hq fun _ _ hq2 => capExclude_kept hq2
    exact enumDone_kept (Kept.on.same (setPort_kept (forgetNodes_kept h1)) (portRates_seen _ _))
  clear_value s1
  have h2 : K.on s2 := by
    unfold s2
    split
    · exact kept_ite (linkFinish_kept h1) h1
    · exact linkFinish_kept h1
    · exact h1
  clear_value s2
  exact linkGo_kept h2.upd
theorem cycleEvents_kept (hs : K.on s) : K.on (cycleEvents s) := by
  unfold cycleEvents
  extract_lets detail s1 s2
  have h1 : K.on s1 := by
    unfold s1
    split
    · exact raise_kept hs
    · exact hs
  clear_value s1
  have h2 : K.on s2 := by
    unfold s2
    split
    · exact raise_kept h1
    · exact h1
  clear_value s2
  exact h2.upd
theorem cycleTelemetry_kept (hs : K.on s) {a : Nat} {k : Tick} {r : BitVec 11552} : K.on (cycleTelemetry s a k r) := tsRecord_kept hs
theorem cycleRecord_kept (hs : K.on s) {a : Nat} {r : BitVec 11552} : K.on (cycleRecord s a r) := by
  unfold cycleRecord; dsimp only
  split
  · exact hs
  · split
    · exact hs.upd
    · exact (((((forUpTo_kept (cycleTelemetry_kept hs) fun _ _ hq => hq.same (flagStep_seen ..)).upd).same (clusterCheck_seen ..)).same (voltageCheck_seen ..)).same (heatCheck_seen ..)).same (holdSamples_seen ..)
theorem cycleEnd_kept (hs : K.on s) : K.on (cycleEnd s) := (cycleEvents_kept (hs.same (syncCheck_seen ..))).upd

/-! ### Cycles and link commands -/

theorem cycleStart_kept (hs : K.on s) {n : Word} {ms before : Nat} : K.on (cycleStart s n ms before) := by
  unfold cycleStart
  extract_lets k lp1 mc1 s1 s2 lp3 s3 s4 s5 s6
  have h2 : K.on s2 := piFlush_kept hs.upd
  clear_value s2
  have h3 : K.on s3 := h2.upd
  clear_value s3
  have h4 : K.on s4 := forUpTo_kept h3 fun _ _ hq => hq.same (portCycle_seen ..)
  clear_value s4
  have h5 : K.on s5 := h4.same (shuntTell_seen ..)
  clear_value s5
  exact capProgress_kept (kept_ite (h5.same (latchNow_seen ..)) h5)
theorem linkStart_kept (hs : K.on s) : K.on (linkStart s) := by
  unfold linkStart
  extract_lets ms lp1 mc1 ox1 s1
  have h1 : K.on s1 := hs.upd
  clear_value s1
  exact cycleStart_kept h1
theorem linkStop_kept (hs : K.on s) : K.on (linkStop s) := (piFlush_kept hs.upd).same (endLine_seen _ (by decide) (by decide))
theorem cycleTick_kept (hs : K.on s) : K.on (cycleTick s) := by
  unfold cycleTick
  extract_lets len s1
  have h1 : K.on s1 := Kept.on.upd (cycleEnd_kept hs)
  clear_value s1
  exact kept_ite hs (kept_ite (kept_ite (linkStart_kept hs.upd) hs) (kept_ite (cycleStart_kept h1) (linkStop_kept h1)))
theorem execLinkEnumerate_kept (S : K.Stores) (hs : K.on s) {rq : Requester} {d : Desc} : K.after (execLinkEnumerate rq d s) :=
  command_kept S hs fun _ _ hq => kept_ite (kept_ite (linkSubmit_kept hq) (complete_kept hq)) (kept_ite (complete_kept hq) (kept_ite (complete_kept hq) (linkSubmit_kept hq)))
theorem execNodeAuth_kept (S : K.Stores) (hs : K.on s) {rq : Requester} {d : Desc} : K.after (execNodeAuth rq d s) :=
  command_kept S hs fun _ _ hq => kept_ite (complete_kept hq) (linkSubmit_kept hq)
theorem execNodeProfileLoad_kept (S : K.Stores) (hs : K.on s) {rq : Requester} {d : Desc} {hostFault : Bool} : K.after (execNodeProfileLoad rq d hostFault s) :=
  command_kept S hs fun _ _ hq => kept_ite (complete_kept hq) (kept_ite (complete_kept hq) (linkSubmit_kept hq))
theorem execCaptureArm_kept (S : K.Stores) (hs : K.on s) {rq : Requester} {d : Desc} : K.after (execCaptureArm rq d s) :=
  command_kept S hs fun _ _ hq => kept_ite (complete_kept hq) (linkSubmit_kept hq)
theorem execCaptureForce_kept (S : K.Stores) (hs : K.on s) {rq : Requester} {d : Desc} : K.after (execCaptureForce rq d s) :=
  command_kept S hs fun _ _ hq => kept_ite (complete_kept hq) (linkSubmit_kept hq)
theorem execLpCommit_kept (hs : K.on s) {via : Via} {w : Word} : K.after (execLpCommit via w s) := kept_ite (hs.same (lpCtrlWrite_seen ..)) hs
theorem execLpRun_kept (hs : K.on s) {via : Via} {w : Word} : K.after (execLpRun via w s) := kept_ite (hs.same (lpCtrlWrite_seen ..)) hs
theorem execLpPiCfgWrite_kept (hs : K.on s) {via : Via} {w : Word} : K.after (execLpPiCfgWrite via w s) := kept_ite (hs.same (linkLive_seen ..)) hs
theorem execCycleTick_kept (hs : K.on s) : K.after (execCycleTick s) := linkGo_kept (cycleTick_kept hs)
theorem execMicroframeTrain_kept (hs : K.on s) {p : Fin 16} {chainB : Bool} : K.after (execMicroframeTrain p chainB s) :=
  kept_ite (hs.same (sendTrain_seen ..)) hs
theorem execSegmentReceived_kept (hs : K.on s) {p : Fin 16} {r : LinkReturn} : K.after (execSegmentReceived p r s) := by
  unfold execSegmentReceived; dsimp only
  split
  · exact hs
  · refine linkGo_kept (K := K) ?_
    split
    · exact hs.same (enumLock_seen ..)
    · exact enumCount_kept hs
    · exact discovered_kept hs
    · exact echoReturn_kept hs
    · exact segmentIn_kept hs
    · exact segmentMissing_kept hs
    · exact setPort_kept hs
theorem execEnumerationComplete_kept (hs : K.on s) {p : Fin 16} : K.after (execEnumerationComplete p s) := by
  unfold execEnumerationComplete; dsimp only
  split
  · exact kept_ite (linkGo_kept (enumDone_kept (ev5_kept ((hs.upd.same (portRates_seen ..)).same (latchJoin_seen ..))))) hs
  · exact hs
theorem execTrainFailed_kept (hs : K.on s) {p : Fin 16} : K.after (execTrainFailed p s) := kept_ite (trainFailed_kept hs) hs
theorem execDualChainStart_kept (hs : K.on s) {p : Fin 16} : K.after (execDualChainStart p s) := by
  unfold execDualChainStart; dsimp only
  split
  · exact kept_ite (ev5_kept (hs.upd.same (portRates_seen ..))) hs
  · exact hs
theorem execFarLockHealed_kept (hs : K.on s) {p : Fin 16} : K.after (execFarLockHealed p s) := kept_ite (ev5_kept hs.upd) hs
theorem execClkLrxLoss_kept (hs : K.on s) {p : Fin 16} : K.after (execClkLrxLoss p s) := kept_ite (ev5_kept hs) hs
theorem execNodeResponse_kept (hs : K.on s) {p : Fin 16} {pos : Fin 32} {fault : Bool} : K.after (execNodeResponse p pos fault s) := by
  unfold execNodeResponse; dsimp only
  split
  · exact hs
  · split
    · exact hs
    · split
      · exact kept_ite (withReads_kept hs.upd fun _ hq => linkGo_kept (nodeAnswer_kept hq)) hs.upd
      · exact hs.upd
theorem execCommandRetryTimeout_kept (hs : K.on s) {p : Fin 16} {chainB : Bool} : K.after (execCommandRetryTimeout p chainB s) :=
  kept_ite (linkGo_kept (retryOrFail_kept hs)) hs
theorem execNodeRestore_kept (hs : K.on s) {a : Fin 512} {supplyLost : Bool} : K.after (execNodeRestore a supplyLost s) :=
  kept_ite (restoreStart_kept hs) hs
theorem execAuthRenewal_kept (hs : K.on s) {a : Fin 512} : K.after (execAuthRenewal a s) := kept_ite hs.upd hs
theorem execCycleRecordComplete_kept (hs : K.on s) {a : Fin 512} : K.after (execCycleRecordComplete a s) := by
  unfold execCycleRecordComplete; dsimp only
  split
  · exact hs
  · split
    · exact hs
    · exact cycleRecord_kept hs.upd
theorem execAccRecordComplete_kept (hs : K.on s) {a : Fin 512} : K.after (execAccRecordComplete a s) := by
  unfold execAccRecordComplete; dsimp only
  split
  · exact hs
  · split
    · exact hs
    · exact hs.upd.same (accRecord_seen ..)
theorem execPiSample_kept (hs : K.on s) {t delay : Nat} : K.after (execPiSample t delay s) := by
  unfold execPiSample; dsimp only
  split
  · exact hs
  · split
    · exact hs
    · exact kept_ite hs.upd (capProgress_kept (kept_ite (detection_kept (((piReceive_kept hs.upd).same (packOcCheck_seen ..)).upd)) (((piReceive_kept hs.upd).same (packOcCheck_seen ..)).upd)))
theorem execCapturePiece_kept (hs : K.on s) {a : Fin 512} : K.after (execCapturePiece a s) := by
  unfold execCapturePiece; dsimp only
  split
  · exact hs
  · split
    · exact hs
    · exact kept_ite (capPiece_kept hs.upd) hs.upd
theorem execCaptureTimeout_kept (hs : K.on s) : K.after (execCaptureTimeout s) := by
  unfold execCaptureTimeout; dsimp only
  split
  · exact hs
  · split
    · exact hs
    · exact kept_ite (capProgress_kept (capEnd_kept hs)) hs
theorem execTsBufferFlush_kept (hs : K.on s) {m : Fin 17} : K.after (execTsBufferFlush m s) := kept_ite (tsClose_kept hs) hs

/-! ### The Ox engine and the table commands -/

theorem batchPass_kept (h : K.on s) {b : Batch} : K.on (batchPass s b).1 := by
  unfold batchPass
  extract_lets b0 b1 day cells s1 level crossed s2 r s3 b2
  have h1 : K.on s1 := forEach_kept h fun _ _ hq => (hq.same (cellToGroup_seen ..)).upd
  clear_value s1
  clear_value crossed
  have h2 : K.on s2 := by
    unfold s2
    split
    · exact raise_kept h1
    · exact h1
  clear_value s2
  have hr : K.on r.1 := List.foldlRecOn (motive := fun a : State × Batch => K.on a.1) b1 _ h2 fun a ha x _ =>
    kept_ite (P := fun a : State × Batch => K.on a.1) ((ha.same (passEstimate_seen ..)).same (parkPassed_seen ..)) ha
  clear_value r
  have h3 : K.on s3 := forEach_kept hr fun _ _ hq => kept_ite hq (kept_ite hq.upd (kept_ite hq.upd hq))
  clear_value s3
  exact forEach_kept h3 fun _ _ hq => kept_ite ((hq.same (usedUp_seen ..)).same (pendMod_seen ..)) (hq.same (usedUp_seen ..))
theorem fetchFailed_kept (h : K.on s) {w : CtWait} : K.on (fetchFailed s w).1 := by
  unfold fetchFailed
  split
  · exact h.upd
  · exact h
theorem updateFetch_kept (h : K.on s) {w : CtWait} : K.on (updateFetch s w).1 := by
  unfold updateFetch; dsimp only
  split
  · exact fetchChannel_kept h
  · split
    · exact kept_ite (P := fun r : State × Option Bool => K.on r.1) h h
    · split
      · split
        · exact h
        · split
          · exact h
          · next ht => exact (takeWay_kept h ht).upd
      · exact fetchChannel_kept h
theorem ceUpdate_kept (h : K.on s) {w : CtWait} : K.on (ceUpdate s w).1 := by
  have h1 := updateFetch_kept h (w := w)
  unfold ceUpdate; dsimp only
  split
  · exact h
  · split
    · exact h
    · split
      · exact h
      · split
        · next he => rw [he] at h1; exact h1
        · next he => rw [he] at h1; exact fetchFailed_kept h1
        · next he =>
          rw [he] at h1
          split
          · exact fetchFailed_kept h1
          · split
            · exact kept_ite h1.upd h1
            · exact kept_ite (logChange_kept h1.upd) h1.upd
theorem ctFlush_kept (h : K.on s) {w : CtWait} : K.on (ctFlush s w).1 := by
  unfold ctFlush
  extract_lets first n mine s1 s2
  have h1 : K.on s1 := forEach_kept h fun _ _ hq => writeBack_kept hq
  clear_value s1
  have h2 : K.on s2 := kept_ite (forEach_kept h1 fun _ _ hq => kept_ite hq hq.upd) h1
  clear_value s2 n
  split
  · exact h
  · split
    · exact h
    · exact h2
theorem ceInvalidate_kept (h : K.on s) {w : CtWait} : K.on (ceInvalidate s w).1 := by
  unfold ceInvalidate; dsimp only
  split
  · exact h
  · split
    · exact h
    · exact (forEach_kept (kept_ite (forEach_kept h fun _ _ hq => writeBack_kept hq) h) fun _ _ hq => hq.upd).upd
theorem pinRange_kept {bad : List Nat} : ∀ {cs : List Nat} {s : State}, K.on s → K.on (pinRange bad cs s).1
  | [], _, h => h
  | c :: _, _, h => by
    have h1 := fetchChannel_kept h (bad := bad) (c := c) (pinned := true) (reserved := false)
    unfold pinRange
    split
    · next he => rw [he] at h1; exact h1
    · next he => rw [he] at h1; exact pinRange_kept h1
theorem cePin_kept (h : K.on s) {w : CtWait} : K.on (cePin s w).1 := by
  have h1 := pinRange_kept h (bad := w.bad) (cs := (List.range w.count).map (· + w.first))
  unfold cePin; dsimp only
  split
  · exact h
  · split
    · refine (forEach_kept h fun _ _ hq => ?_).upd
      split
      · exact hq.upd
      · exact hq
    · split
      · exact h
      · split
        · exact h
        · split
          · exact h.upd
          · split
            · next he => rw [he] at h1; exact h1
            · next he => rw [he] at h1; exact h1
theorem afterAttach_kept (hs : K.on s) : K.on (afterAttach s) :=
  linkGo_kept (forEach_kept (threshCompute_kept hs.upd) fun _ _ hq => (seeAll_kept hq).upd)
theorem attachFresh_kept (h : K.on s) {w : CtWait} : K.on (attachFresh s w).1 := by
  unfold attachFresh
  extract_lets gen s1 t s2
  have h1 : K.on s1 := (muleAbort_kept h).same (forgetTable_seen ..)
  clear_value s1
  have h2 : K.on s2 := forEach_kept h1 fun _ _ hq => raise_kept hq.upd
  clear_value s2
  split
  · exact threshCompute_kept (h1.same (ctHostErr_seen ..))
  · split
    · exact threshCompute_kept h2.upd
    · exact afterAttach_kept h2.upd
theorem attachResume_kept (h : K.on s) {w : CtWait} : K.on (attachResume s w).1 := by
  unfold attachResume; dsimp only
  split
  · exact h
  · exact withReads_kept ((flushAll_kept h.upd).upd) fun _ hq => refetchPinned_kept hq
theorem ctAttach_kept (h : K.on s) {w : CtWait} : K.on (ctAttach s w).1 := by
  unfold ctAttach
  split
  · exact h
  · split
    · exact h
    · split
      · exact h
      · split
        · exact attachResume_kept h
        · exact attachFresh_kept h
theorem ctMeaning_kept (h : K.on s) {w : CtWait} : K.on (ctMeaning w s).1 := by
  unfold ctMeaning
  split
  · exact ctFlush_kept h
  · exact ceUpdate_kept h
  · exact ceInvalidate_kept h
  · exact cePin_kept h
  · exact ctAttach_kept h
  · exact h.same (ctRebuild_seen ..)
theorem ctRun_kept (h : K.on s) {w : CtWait} : K.on (ctRun s w).1 := by
  unfold ctRun; dsimp only
  split
  · exact h
  · split
    · exact h
    · exact (ctMeaning_kept h.upd).upd
theorem ctProgress_kept : ∀ {n : Nat} {s : State}, K.on s → K.on (ctProgress n s)
  | 0, _, h => h
  | _ + 1, s, h => by
    unfold ctProgress
    split
    · exact h
    · next w _ _ =>
      have h1 := ctRun_kept h (w := w)
      split
      · next he => rw [he] at h1; exact h1
      · next he => rw [he] at h1; exact ctProgress_kept (complete_kept h1.upd)
theorem ctGo_kept (hs : K.on s) : K.on (ctGo s) := ctProgress_kept hs
theorem ctSubmit_kept (hs : K.on s) {w : CtWait} : K.on (ctSubmit s w) := ctGo_kept hs.upd
theorem detach_kept (hs : K.on s) : K.on (detach s) := kept_ite hs (completeAll_kept ((muleAbort_kept (kept_ite hs (flushAll_kept hs))).upd))
theorem tableAgain_kept (hs : K.on s) : K.on (tableAgain s) := ctGo_kept (masterAgain_kept hs)
theorem execCtAttach_kept (S : K.Stores) (hs : K.on s) {rq : Requester} {d : Desc} {hostFault : Bool} {bad : List Nat} : K.after (execCtAttach rq d hostFault bad s) :=
  command_kept S hs fun _ _ hq => ctSubmit_kept hq
theorem execCtFlush_kept (S : K.Stores) (hs : K.on s) {rq : Requester} {d : Desc} : K.after (execCtFlush rq d s) := command_kept S hs fun _ _ hq => ctSubmit_kept hq
theorem execCeUpdate_kept (S : K.Stores) (hs : K.on s) {rq : Requester} {d : Desc} {hostFault tableFault : Bool} {bad : List Nat} : K.after (execCeUpdate rq d hostFault tableFault bad s) :=
  command_kept S hs fun _ _ hq => ctSubmit_kept hq
theorem execCeInvalidate_kept (S : K.Stores) (hs : K.on s) {rq : Requester} {d : Desc} : K.after (execCeInvalidate rq d s) :=
  command_kept S hs fun _ _ hq => ctSubmit_kept hq
theorem execCePin_kept (S : K.Stores) (hs : K.on s) {rq : Requester} {d : Desc} {tableFault : Bool} {bad : List Nat} : K.after (execCePin rq d tableFault bad s) :=
  command_kept S hs fun _ _ hq => ctSubmit_kept hq
theorem execCtRebuild_kept (S : K.Stores) (hs : K.on s) {rq : Requester} {d : Desc} {hostFault : Bool} : K.after (execCtRebuild rq d hostFault s) :=
  command_kept S hs fun _ _ hq => ctSubmit_kept hq
theorem ctCtrlWrite_kept (hs : K.on s) {w : Word} : K.on (ctCtrlWrite s w) := kept_ite (detach_kept hs.upd) hs.upd
theorem execDetach_kept (hs : K.on s) {via : Via} {w : Word} : K.after (execDetach via w s) := kept_ite (ctCtrlWrite_kept hs) hs
theorem execCacheScrub_kept (hs : K.on s) {errs : List (Nat × Nat)} {fault : Bool} : K.after (execCacheScrub errs fault s) :=
  kept_ite (withReads_kept hs fun _ hq => cacheErrors_kept hq) hs
theorem prepRead_kept {bad : List Nat} : ∀ {n : Nat} {s : State}, K.on s → K.on (prepRead bad n s)
  | 0, _, h => h
  | _ + 1, _, h => by
    unfold prepRead; dsimp only
    split
    · exact h
    · split
      · exact muleEnd_kept h.upd
      · exact prepRead_kept h.upd
theorem execMulePrepare_kept (hs : K.on s) {fault : Bool} {bad : List Nat} : K.after (execMulePrepare fault bad s) :=
  kept_ite hs (kept_ite hs.upd (prepRead_kept hs))
theorem muleRest_kept (hs : K.on s) {bad : List Nat} : K.on (muleRest bad s) := forUpTo_kept hs fun _ _ hq => kept_ite hq (carryOne_kept hq)
theorem copiesFill_kept {s0 : State} (hs : K.on s0) : K.on (copiesFill s0) := (seeAll_kept hs).upd
theorem muleReplayOne_kept (hs : K.on s) {bad : List Nat} {r : Nat × Nat} : K.on (muleReplayOne bad r s) := by
  unfold muleReplayOne; dsimp only
  split
  · exact carryInto_kept hs
  · split
    · exact hs
    · split
      · exact carryInto_kept hs
      · exact excludeChannel_kept hs
theorem muleSwitched_kept (hs : K.on s) {bad : List Nat} : K.on (muleSwitched bad s) := by
  unfold muleSwitched
  extract_lets s0 s1 s2
  have h0 : K.on s0 := forEach_kept (muleRest_kept hs) fun _ _ hq => logChange_kept (writeBack_kept hq)
  clear_value s0
  have h1 : K.on s1 := muleRecopy_kept h0
  clear_value s1
  have h2 : K.on s2 := forEach_kept h1 fun _ _ hq => muleReplayOne_kept hq
  clear_value s2
  exact (threshCompute_kept (copiesFill_kept (muleEnd_kept (h2.same (muleInstall_seen ..))))).same (epochStart_seen ..)
theorem execMuleSwitch_kept (hs : K.on s) {fault : Bool} {bad : List Nat} : K.after (execMuleSwitch fault bad s) :=
  kept_ite hs (kept_ite hs.upd (ctGo_kept (withReads_kept hs fun _ hq => muleSwitched_kept hq)))
theorem execOxCommit_kept (hs : K.on s) {via : Via} {w : Word} : K.after (execOxCommit via w s) := kept_ite (hs.same (oxCtrlWrite_seen ..)) hs
theorem execEpochBoundary_kept (h : K.on s) : K.after (execEpochBoundary s) := by
  refine kept_ite (P := K.on) h ?_
  extract_lets ox1 lp1 s1
  have h1 : K.on s1 := h.upd
  clear_value s1
  refine kept_ite (P := K.on) h1.upd (kept_ite (P := K.on) h1 ?_)
  split
  · next hb => exact h1.same ((epochStart_seen _).trans (muleBoundary_seen hb))
  · exact h1.same (muleReplay_seen ..)
theorem execBatchFetch_kept (hs : K.on s) {errs : List (Nat × Nat)} {fault : Bool} {bad : List Nat} : K.after (execBatchFetch errs fault bad s) := by
  refine kept_ite (P := K.on) hs ?_
  extract_lets s0 cs
  have h0 : K.on s0 := withReads_kept hs fun _ hq => refetchPinned_kept (cacheErrors_kept hq)
  clear_value s0
  refine kept_ite (P := K.on) h0 (kept_ite (P := K.on) (h0.same (ctHostErr_seen ..)) (withReads_kept h0 fun q hq => ?_))
  extract_lets q1 q2
  have h1 : K.on q1 := forEach_kept hq fun _ _ hq2 => fetchChannel_kept hq2
  have h2 : K.on q2 := forEach_kept h1 fun _ _ hq2 => fetchChannel_kept hq2
  clear_value q2
  exact h2.upd
theorem passBack_kept (hs : K.on s) {x : Nat × Entry} : K.on (passBack x s) := by
  unfold passBack
  split
  · exact hs
  · exact muleCopy_kept (writeBack_kept hs.upd)
theorem execBatchPass_kept (hs : K.on s) {errs : List (Nat × Nat)} {fault : Bool} : K.after (execBatchPass errs fault s) := by
  unfold execBatchPass
  split
  · exact hs
  · refine kept_ite (P := K.on) hs (ctGo_kept (withReads_kept hs fun q hq => ?_))
    extract_lets s0 mine r s1
    have h1 : K.on s1 := forEach_kept (batchPass_kept (cacheErrors_kept hq)) fun _ _ hq2 => passBack_kept hq2
    clear_value s1
    exact muleRecopy_kept h1.upd
theorem execEpochEnd_kept (hs : K.on s) : K.after (execEpochEnd s) := kept_ite hs (raise_kept ((hs.same (parkSkip_seen ..)).upd))
theorem execFitCompute_kept (hs : K.on s) : K.after (execFitCompute s) := kept_ite (hs.same (fitCompute_seen ..)) hs
theorem ev44_kept (hs : K.on s) {kind : Nat} : K.on (ev44 s kind) := raise_kept hs
theorem gaugeThresholds_kept (hs : K.on s) {b : BitVec 512} : K.on (gaugeThresholds s b) :=
  (kept_ite (ev44_kept (kept_ite (ev44_kept hs) hs)) (kept_ite (ev44_kept hs) hs)).upd
theorem execGaugeEpoch_kept (hs : K.on s) : K.after (execGaugeEpoch s) := by
  unfold execGaugeEpoch; dsimp only
  split
  · exact hs
  · split
    · exact hs.upd
    · exact gaugeThresholds_kept hs.upd
theorem execEstRestore_kept (S : K.Stores) (hs : K.on s) {rq : Requester} {d : Desc} {hostFault : Bool} : K.after (execEstRestore rq d hostFault s) := by
  unfold execEstRestore; dsimp only
  refine command_kept S hs fun _ _ hq => ?_
  split
  · exact complete_kept hq
  · split
    · exact complete_kept hq
    · split
      · exact complete_kept hq
      · split
        · exact complete_kept hq
        · split
          · exact complete_kept hq
          · exact kept_ite (complete_kept hq.upd) (complete_kept hq.upd)
theorem execEstSnapshot_kept (S : K.Stores) (hs : K.on s) {rq : Requester} {d : Desc} : K.after (execEstSnapshot rq d s) := by
  unfold execEstSnapshot; dsimp only
  refine command_kept S hs fun _ _ hq => ?_
  split
  · exact complete_kept hq
  · split
    · exact complete_kept hq
    · split
      · exact complete_kept hq
      · split
        · exact kept_ite (complete_kept hq.upd) (complete_kept (cmdWrite_kept S hq.upd))
        · split
          · exact kept_ite (kept_ite (complete_kept hq) (complete_kept (cmdWrite_kept S hq))) (complete_kept hq)
          · exact complete_kept hq
theorem execSaveDone_kept (hs : K.on s) : K.after (execSaveDone s) := by
  unfold execSaveDone
  split
  · split
    · exact hs.same (saveFinish_seen ..)
    · exact hs
  · exact hs
theorem execCheckpointSave_kept (hs : K.on s) : K.after (execCheckpointSave s) := kept_ite (hs.upd.same (saveBegin_seen ..)) hs
theorem execSpareEraseDone_kept (hs : K.on s) : K.after (execSpareEraseDone s) := by
  refine kept_ite (P := K.on) ?_ hs
  extract_lets s1
  have h1 : K.on s1 := forUpTo_kept hs fun _ _ hq => hq.upd
  exact h1.upd

/-! ### Parking, domain transitions and supplies -/

theorem parkGroup_kept (D : K.Moves) (hs : K.on s) {gs : BitVec 4} {g : Nat} : K.on (parkGroup gs g s) :=
  kept_ite (kept_ite hs (domAsk_kept (D _) hs)) (kept_ite (domAsk_kept (D _) hs) (domAsk_kept (D _) hs))
theorem parkStart_kept (D : K.Moves) (hs : K.on s) : K.on (parkStart s) := by
  unfold parkStart
  extract_lets gs p1 s1 s2
  have h1 : K.on s1 := hs.upd
  clear_value s1
  have h2 : K.on s2 := forUpTo_kept h1 fun _ _ hq => parkGroup_kept D hq
  clear_value s2
  exact kept_ite (domAsk_kept (D _) h2) h2
theorem execParkingStart_kept (D : K.Moves) (hs : K.on s) : K.after (execParkingStart s) := kept_ite (parkStart_kept D hs) hs
theorem mpSeqUp_kept (hs : K.on s) : K.on (mpSeqUp s) := kept_ite (complete_kept hs) (seqUpReq_kept hs.upd)
theorem wakeHost_kept (D : K.Moves) (hs : K.on s) {code : Nat} : K.on (wakeHost s code) := kept_ite hs.upd (kept_ite (domAsk_kept (D _) hs.upd) (mpSeqUp_kept hs.upd))
theorem wakeRegc_kept (hs : K.on s) {up : Bool} : K.on (wakeRegc s up) := kept_ite hs (kept_ite (mpSeqUp_kept hs.upd) hs.upd)
theorem parkJudge_kept (D : K.Moves) (hs : K.on s) {g : Nat} {recs : List (Nat × BitVec 11552)} {lost : List Nat} : K.on (parkJudge s g recs lost) := by
  unfold parkJudge
  extract_lets hits run due runs woken p1 s1
  clear_value due
  have h1 : K.on s1 := hs.same (setPark_seen ..)
  clear_value s1
  split
  · exact h1
  · exact wakeHost_kept D (((h1.same (setMp_seen ..)).same (noteCount_seen ..)).same (noteLog_seen ..))
theorem parkSeen_kept (hs : K.on s) {recs : List (Nat × BitVec 11552)} {lost : List Nat} {a : Nat} : K.on (parkSeen recs lost a s) := by
  unfold parkSeen; dsimp only
  split
  · exact hs
  · split
    · exact setNodeBit_kept (setNodeBit_kept hs)
    · exact setNodeBit_kept hs
theorem parkLatch_kept (F : K.Free) (hs : K.on s) {g : Nat} : K.on (parkLatch g s) := by
  unfold parkLatch
  split
  · exact hs
  · refine forEach_kept hs fun _ _ hq => ?_
    split
    · exact kept_ite hq (fltLatch_kept F hq)
    · exact hq
theorem parkAuth_kept (hs : K.on s) {auths : List (Nat × BitVec 128)} {a : Nat} : K.on (parkAuth auths a s) := by
  unfold parkAuth; dsimp only
  split
  · split
    · exact authAnswer_kept hs.upd
    · exact authFail_kept hs.upd
  · exact hs
theorem parkScan_kept (F : K.Free) {s0 : State} (hs : K.on s0) {g : Nat} {recs : List (Nat × BitVec 11552)} {acc : Option (BitVec 48 × Nat)} {lost : List Nat} {auths : List (Nat × BitVec 128)} :
    K.on (parkScan s0 g recs acc lost auths) := by
  unfold parkScan
  extract_lets sa here sp mine s1 m2 p2 s2 s3
  have ha : K.on sa := forEach_kept hs fun _ _ hq => parkAuth_kept hq
  clear_value sa
  have hp : K.on sp := forEach_kept ha fun _ _ hq => parkSeen_kept hq
  clear_value sp
  have h1 : K.on s1 := parkLatch_kept F (forUpTo_kept (forEach_kept hp fun _ _ hq => hq.same (parkFaults_seen ..)) fun _ _ hq => hq.same (syncCheck_seen ..))
  clear_value s1
  have h2 : K.on s2 := h1.same (setMp_seen ..)
  clear_value s2
  exact parkJudge_kept F.moves (kept_ite (h2.same (parkAcc_seen ..)) h2)
theorem execParkingScan_kept (F : K.Free) (hs : K.on s) {g : Fin 4} {recs : List (Nat × BitVec 11552)} {acc : Option (BitVec 48 × Nat)} {lost : List Nat} {auths : List (Nat × BitVec 128)} {ms : Nat} :
    K.after (execParkingScan g recs acc lost auths ms s) := by
  unfold execParkingScan
  extract_lets k p1 s1
  have h1 : K.on s1 := parkScan_kept F hs.upd
  clear_value s1
  exact kept_ite (P := K.on) hs (kept_ite (P := K.on) hs (kept_ite (P := K.on) (forEach_kept hs.upd fun _ _ hq => linkSubmit_kept hq)
    (kept_ite (P := K.on) hs (kept_ite (P := K.on) hs (kept_ite (P := K.on) (domAsk_kept (F.moves _) h1) h1)))))
theorem parkEnd_kept (hs : K.on s) : K.on (parkEnd s) := kept_ite hs (raise_kept hs.upd)
theorem nvmAbandon_kept (hs : K.on s) : K.on (nvmAbandon s) := forEach_kept hs.upd fun _ _ hq => nvmRefuse_kept hq
theorem mpLost_kept (S : K.Stores) (h : K.on s) : K.on (mpLost s) := by
  unfold mpLost
  extract_lets s1
  have h1 : K.on s1 := nvmAbandon_kept h
  clear_value s1
  exact Kept.on.upd (s := { s1 with mpSram := [] }) (S.sramLost h1)
theorem domLost_kept (S : K.Stores) {s0 : State} (hs : K.on s0) {k : Nat} : K.on (domLost s0 k) :=
  kept_ite (mpLost_kept S (hs.same (linesLost_seen _ _))) (kept_ite (Kept.on.upd (hs.same (linesLost_seen _ _))) (kept_ite (linkGroupOff_kept (hs.same (linesLost_seen _ _))) (kept_ite (railLost_kept (hs.same (linesLost_seen _ _))) (kept_ite ((chgPowerDown_kept (hs.same (linesLost_seen _ _))).upd) (hs.same (linesLost_seen _ _))))))
theorem domUp_kept (L : K.Links) (hs : K.on s) {k : Nat} {fromOff byHost : Bool} : K.on (domUp s k fromOff byHost) := by
  unfold domUp
  extract_lets s0 s1 p1 e1 c1 r
  have h0 : K.on s0 := hs.same (goose1Start_seen ..)
  clear_value s0
  have h1 : K.on s1 := kept_ite (h0.same (saveBegin_seen ..)) h0
  clear_value s1
  have hc : K.on c1 := hs.upd
  clear_value c1
  exact kept_ite (by
    refine ite_of (P := K.on) (fun h5 => h1.same ?_) fun _ => h1
    exact Seen.ext rfl rfl rfl rfl rfl rfl rfl rfl rfl rfl rfl rfl rfl rfl rfl (by simp [h5]) (by simp [h5]) rfl rfl) (kept_ite (tableAgain_kept (Kept.on.same (kept_ite (parkEnd_kept hc) hc) (parkResume_seen _)))
    (kept_ite (startTraining_kept L hs) (kept_ite (linkGo_kept hs) (kept_ite (wakeRegc_kept (seqRegcReady_kept (hs.upd.same (derateAll_seen ..))))
      (kept_ite (kept_ite (chgBoot_kept (hs.same (nvBytes_seen ..))) (kept_ite (hs.same (authStart_seen ..)) hs)) hs)))))
theorem ev62_kept (hs : K.on s) {quiet : Bool} {k : Nat} {reached requested : DomState} {result : Nat} {byMp : Bool} {stage : Nat} : K.on (ev62 s quiet k reached requested result byMp stage) :=
  kept_ite hs (raise_kept hs)
theorem domNext_kept {k : Nat} (D : K.MovesAt k) (hs : K.on s) : K.on (domNext s k) := by
  unfold domNext; dsimp only
  split
  · exact hs
  · split
    · exact domTicket_kept (D.dom (D.dom hs))
    · exact kept_ite (domTicket_kept (D.dom hs)) (domStart_kept D (D.dom hs))
theorem domEnd_kept {k : Nat} (D : K.MovesAt k) (hs : K.on s) {m : DomMove} : K.on (domEnd s k m) := by
  unfold domEnd
  extract_lets reached result d1 s1 s2 s3 q3 s4 s5
  have h1 : K.on s1 := setDom_kept D hs
  clear_value s1
  have h2 : K.on s2 := kept_ite (domLost_kept D.stores h1) h1
  clear_value s2
  have h3 : K.on s3 := kept_ite (domUp_kept D.links h2) h2
  clear_value s3
  have h4 : K.on s4 := kept_ite (wakeRegc_kept h3.upd) h3
  clear_value s4
  have h5 : K.on s5 := kept_ite (domTicket_kept h4) (domTicket_kept h4)
  clear_value s5
  exact evUpdate_kept (domNext_kept D ((ev62_kept h5).same (pllUpdate_seen ..)))
theorem domStageFail_kept {k : Nat} (D : K.MovesAt k) (hs : K.on s) : K.on (domStageFail s k) := by
  unfold domStageFail; dsimp only
  split
  · exact hs
  · exact kept_ite (kept_ite ((D.dom hs).same (assertLine_seen _ _ (by decide))) (D.dom hs)) hs
theorem stageUp_kept {k : Nat} (D : K.MovesAt k) (hs : K.on s) {m : DomMove} : K.on (stageUp s k m) :=
  kept_ite hs (kept_ite (domEnd_kept D (kept_ite (Kept.on.upd (D.dom hs)) (D.dom hs))) (kept_ite (Kept.on.upd (D.dom hs)) (D.dom hs)))
theorem logicDown_kept (hs : K.on s) {k : Nat} : K.on (logicDown s k) := kept_ite hs.upd (kept_ite (chgPowerDown_kept hs) (evUpdate_kept hs))
theorem stageDown_kept {k : Nat} (D : K.MovesAt k) (hs : K.on s) {m : DomMove} : K.on (stageDown s k m) :=
  kept_ite (domEnd_kept D (kept_ite (logicDown_kept (D.dom hs)) (D.dom hs))) (kept_ite (logicDown_kept (D.dom hs)) (D.dom hs))
theorem domStage_kept {k : Nat} (D : K.MovesAt k) (hs : K.on s) : K.on (domStage s k) := by
  unfold domStage
  split
  · exact hs
  · exact kept_ite (stageUp_kept D hs) (stageDown_kept D hs)
theorem domCut_kept {k : Nat} (D : K.MovesAt k) (hs : K.on s) {quiet : Bool} {m : DomMove} : K.on (domCut s quiet k m) := ev62_kept (domTicket_kept (D.dom hs))
theorem forceOff_kept {k : Nat} (D : K.MovesAt k) (hs : K.on s) : K.on (forceOff k s) := by
  unfold forceOff
  extract_lets d s0 d1 s1 s2 s3
  refine kept_ite hs ?_
  have h0 : K.on s0 := kept_ite hs (domDownStart_kept D.links hs)
  clear_value s0
  have h2 : K.on s2 := domLost_kept D.stores (setDom_kept D h0)
  clear_value s2
  have h3 : K.on s3 := by
    unfold s3
    clear_value d
    split
    · exact domCut_kept D h2
    · exact h2
  exact evUpdate_kept (domNext_kept D (h3.same (pllUpdate_seen ..)))
theorem domRestore_kept {k : Nat} (D : K.MovesAt k) (hs : K.on s) : K.on (domRestore k s) := kept_ite (domStart_kept D (kept_ite (hs.same (wakeOther_seen ..)) hs)) hs
theorem pathChange_kept (F : K.Free) (hs : K.on s) {dest : Path} {reason : Nat} {vmain vbak : BitVec 16} : K.on (pathChange s dest reason vmain vbak) :=
  kept_ite (chgPathChange_kept (raise_kept (F.upd hs))) (raise_kept (F.upd hs))
theorem mainGivesWay_kept (F : K.Free) (hs : K.on s) {vmain vbak : BitVec 16} : K.on (mainGivesWay s vmain vbak) :=
  kept_ite (kept_ite (pathChange_kept F hs) (kept_ite (pathChange_kept F hs) hs)) hs
theorem pathSettle_kept (F : K.Free) (hs : K.on s) {vmain vbak : BitVec 16} : K.on (pathSettle s vmain vbak) :=
  kept_ite hs (kept_ite (pathChange_kept F hs) (kept_ite (pathChange_kept F hs) hs))
theorem execVmainLow_kept (F : K.Free) (hs : K.on s) {vmain vbak : BitVec 16} : K.after (execVmainLow vmain vbak s) :=
  whilePowered_kept hs fun _ hq => kept_ite (mainGivesWay_kept F (pathSettle_kept F hq.upd)) hq
theorem execVmainOv_kept (F : K.Free) (hs : K.on s) {vmain vbak : BitVec 16} : K.after (execVmainOv vmain vbak s) :=
  whilePowered_kept hs fun _ hq => kept_ite (kept_ite (pathSettle_kept F hq.upd) (pathChange_kept F hq.upd)) hq
theorem execVbakLost_kept (F : K.Free) (hs : K.on s) {vmain vbak : BitVec 16} : K.after (execVbakLost vmain vbak s) :=
  whilePowered_kept hs fun _ hq => kept_ite (pathSettle_kept F hq.upd) hq
theorem execVbakPresent_kept (F : K.Free) (hs : K.on s) {vmain vbak : BitVec 16} : K.after (execVbakPresent vmain vbak s) :=
  whilePowered_kept hs fun _ hq => kept_ite hq (kept_ite ((mainGivesWay_kept F (pathSettle_kept F hq.upd)).upd) (mainGivesWay_kept F (pathSettle_kept F hq.upd)))
theorem execVmainQualGained_kept (hs : K.on s) {vmain vbak : BitVec 16} {us : Nat} : K.after (execVmainQualGained vmain vbak us s) :=
  whilePowered_kept hs fun _ hq => kept_ite hq hq.upd
theorem execVmainQualLost_kept (F : K.Free) (hs : K.on s) {vmain vbak : BitVec 16} : K.after (execVmainQualLost vmain vbak s) :=
  whilePowered_kept hs fun _ hq => kept_ite hq (pathSettle_kept F hq.upd)
theorem execReturnTimerExpiry_kept (F : K.Free) (hs : K.on s) {vmain vbak : BitVec 16} {us : Nat} : K.after (execReturnTimerExpiry vmain vbak us s) :=
  whilePowered_kept hs fun _ hq => kept_ite (wakeMpDomain_kept F.moves (pathChange_kept F hq)) hq
theorem execSupplyUv_kept (F : K.Free) (hs : K.on s) {i : Fin 8} : K.after (execSupplyUv i s) := by
  refine kept_ite (P := K.on) hs ?_
  extract_lets b p1 s1 s2 s3
  have h1 : K.on s1 := F.upd hs
  clear_value s1
  have h2 : K.on s2 := F.upd (kept_ite h1 (F.upd h1) : K.on (assertLine s1 0 _))
  clear_value s2
  exact seqWatch_kept (forEach_kept (P := K.on) h2 fun _ _ hq => forceOff_kept (F.moves _) hq)
theorem execSupplyOv_kept (hs : K.on s) {i : Fin 8} : K.after (execSupplyOv i s) := kept_ite hs (hs.upd.same (assertLine_seen _ _ (by decide)))
theorem execSupplyRecovers_kept (F : K.Free) (hs : K.on s) {i : Fin 8} : K.after (execSupplyRecovers i s) := by
  refine kept_ite (P := K.on) hs ?_
  extract_lets p1 s1 s2
  have h1 : K.on s1 := F.upd hs
  clear_value s1
  have h2 : K.on s2 := kept_ite (F.upd h1) h1
  exact forEach_kept (P := K.on) h2 fun _ _ hq => domRestore_kept (F.moves _) hq
theorem saveMove_kept {k : Nat} (D : K.MovesAt k) (hs : K.on s) {target : DomState} : K.on (saveMove k target s) := by
  unfold saveMove; dsimp only
  split
  · exact kept_ite (domStart_kept D hs) hs
  · refine setDom_kept D ?_
    split
    · exact domTicket_kept (setDom_kept D hs)
    · exact hs
theorem saveMp_kept (D : K.Moves) (hs : K.on s) : K.on (saveMp s) := by
  unfold saveMp; dsimp only
  split
  · exact domStart_kept (D _) (hs.same (wakeOther_seen ..))
  · split
    · exact hs
    · refine setDom_kept (D _) (Kept.on.same ?_ (wakeOther_seen _))
      split
      · exact domTicket_kept (setDom_kept (D _) hs)
      · exact hs
theorem execVsysSave_kept (D : K.Moves) (hs : K.on s) {flagging : Bool} : K.after (execVsysSave flagging s) := by
  refine kept_ite (P := K.on) hs ?_
  extract_lets p1 s1 s2 s3 s4
  have h2 : K.on s2 := nvmSaveStart_kept (D 0).stores ((hs.upd).same (logLost_seen ..))
  clear_value s2
  have h3 : K.on s3 := kept_ite (chgSave_kept h2) h2
  clear_value s3
  have h4 : K.on s4 := forEach_kept h3 fun _ _ hq => saveMove_kept (D _) hq
  clear_value s4
  exact kept_ite (P := K.on) (h4.same (saveBegin_seen ..)) (saveMp_kept D h4)
theorem saveRestore_kept {k : Nat} (D : K.MovesAt k) (hs : K.on s) : K.on (saveRestore k s) := by
  unfold saveRestore; dsimp only
  split
  · exact domRestore_kept D hs
  · exact kept_ite hs (D.dom hs)
theorem execVsysStartAfterSave_kept (D : K.Moves) (hs : K.on s) : K.after (execVsysStartAfterSave s) :=
  kept_ite (P := K.on) (forEach_kept (P := K.on) hs.upd fun _ _ hq => saveRestore_kept (D _) hq) hs
theorem resetMp_kept (S : K.Stores) (h : K.on s) : K.on (resetMp s) := Kept.on.upd (s := { s with mpSram := [] }) (S.sramLost h)
theorem startFive_kept (F : K.Free) (hs : K.on s) : K.on (startFive s) := kept_ite (F.upd hs) (domStart_kept (F.moves _) (F.upd hs))
theorem execVrtcOkChange_kept (hs : K.on s) {ok : Bool} : K.after (execVrtcOkChange ok s) := kept_ite hs.upd hs.upd
theorem execVsysStartAfterBrownOut_kept (F : K.Free) (hs : K.on s) : K.after (execVsysStartAfterBrownOut s) := kept_ite hs (startFive_kept F (F.upd hs))
theorem execResetNRelease_kept (F : K.Free) (hs : K.on s) : K.after (execResetNRelease s) := kept_ite hs (kept_ite (startFive_kept F (F.upd hs)) (F.upd hs))
theorem execOscStartTimeout_kept (F : K.Free) (hs : K.on s) : K.after (execOscStartTimeout s) := by
  unfold execOscStartTimeout; dsimp only
  split
  · exact kept_ite (F.upd (domStageFail_kept (F.moves _) hs)) hs
  · exact hs
theorem latchAll_kept (F : K.Free) (hs : K.on s) : K.on (latchAll s) := by
  unfold latchAll
  refine forUpTo_kept hs fun _ _ hq => ?_
  split
  · exact fltLatch_kept F hq
  · exact hq
theorem otpTake_kept (hs : K.on s) {reads : List MarginRead} : K.on (otpTake s reads) := by
  unfold otpTake
  extract_lets o rtc1 s1 s2
  have h1 : K.on s1 := hs.upd
  clear_value s1
  have h2 : K.on s2 := by
    unfold s2
    clear_value o
    split
    · exact h1
    · exact ((raise_kept h1).same (noteCount_seen ..)).same (noteLog_seen ..)
  exact kept_ite h2 (h2.same (assertLine_seen _ _ (by decide)))
theorem safeRelease_kept (F : K.Free) (h : K.on s) : K.on (safeRelease s) := Kept.on.upd (s := { s with flt := { s.flt with safeN := s.flt.faultState, aliveRun := _ } }) (F.safeFollows h)
theorem execOtpLoadComplete_kept (F : K.Free) (hs : K.on s) {reads : List MarginRead} {unary : List (Nat × Nat)} : K.after (execOtpLoadComplete reads unary s) := by
  refine kept_ite (P := K.on) hs ?_
  extract_lets s1 s2 g3 p3 s3 s3' s4 b s5 s6
  have h1 : K.on s1 := latchAll_kept F (otpTake_kept hs)
  clear_value s1
  have h2 : K.on (rtcAgeingLoad (shadowLoad (recoveryScan s1 unary))) := ((recoveryScan_kept h1).same (shadowLoad_seen ..)).same (rtcAgeingLoad_seen ..)
  change K.on s2 at h2
  clear_value s2
  have hb : K.on { s2 with glb := { s2.glb with otpLoaded := true }, pwr := { s2.pwr with startStep := 0 } } := F.upd h2
  have h3 : K.on s3 := safeRelease_kept F hb
  clear_value s3
  have h3 : K.on s3' := h3.same (goose1Loaded_seen ..)
  clear_value s3'
  have h4 : K.on s4 := kept_ite ((h3.same (gooseBoot_seen ..)).same (hostRstUpdate_seen ..)) h3
  clear_value s4
  have h5 : K.on s5 := kept_ite h4 (seqBoot_kept F.moves (h4.same (nvBytes_seen ..)))
  clear_value s5
  exact Kept.on.same (t := pllUpdate _) (K := K) (kept_ite (P := K.on) h5 (domAsk_kept (F.moves _) h5)) (pllUpdate_seen _)
theorem execPowerState_kept (D : K.Moves) (hs : K.on s) {rq : Requester} {d : Desc} : K.after (execPowerState rq d s) :=
  command_kept (D 0).stores hs fun _ _ hq => kept_ite (complete_kept hq) (domRequest_kept (D _) (kept_ite (hq.same (wakeNote_seen ..)) hq))
theorem pwrReqWrite_kept (D : K.Moves) (hs : K.on s) {via : Via} {k : Nat} {w : Word} : K.on (pwrReqWrite s via k w) := by
  unfold pwrReqWrite; dsimp only
  split
  · split
    · exact wakeMpDomain_kept D hs
    · exact wakeMpDomain_kept D hs
    · exact hs
  · refine domAsk_kept (D _) ?_
    split
    · exact wakeMpDomain_kept D hs
    · exact wakeMpDomain_kept D hs
    · exact hs
theorem execPwrReqWrite_kept (D : K.Moves) (hs : K.on s) {via : Via} {dom : Fin 13} {w : Word} : K.after (execPwrReqWrite via dom w s) :=
  kept_ite (pwrReqWrite_kept D hs) hs
theorem execDomainStageReady_kept (D : K.Moves) (hs : K.on s) {k : Fin 13} : K.after (execDomainStageReady k s) :=
  kept_ite (seqWatch_kept (domStage_kept (D _) hs)) (domStage_kept (D _) hs)
theorem execDomainStageTimeout_kept (D : K.Moves) (hs : K.on s) {k : Fin 13} : K.after (execDomainStageTimeout k s) := domStageFail_kept (D _) hs
theorem execFltStatusClear_kept (F : K.Free) (hs : K.on s) {via : Via} {w : Word} : K.after (execFltStatusClear via w s) := kept_ite (F.upd hs) hs
theorem execFirstClr_kept (F : K.Free) (hs : K.on s) {via : Via} : K.after (execFirstClr via s) := kept_ite (firstClear_kept F hs) hs
theorem execFltTest_kept (hs : K.on s) {via : Via} {w : Word} : K.after (execFltTest via w s) := kept_ite (hs.same (fltTest_seen ..)) hs
theorem execFltReactWrite_kept (hs : K.on s) {via : Via} {hi : Bool} {w : Word} : K.after (execFltReactWrite via hi w s) := kept_ite hs.upd hs
theorem latchLower_kept (F : K.Free) (hs : K.on s) {k : Nat} : K.on (latchLower k s) := by
  unfold latchLower
  split
  · exact hs
  · refine forUpTo_kept hs fun _ _ hq => ?_
    split
    · exact fltLatch_kept F hq
    · exact hq
theorem execFaultLatch_kept (F : K.Free) {s0 : State} (hs : K.on s0) {k : Fin 32} {detail : Word} : K.after (execFaultLatch k detail s0) := by
  unfold execFaultLatch
  extract_lets s
  have h : K.on s := kept_ite (latchLower_kept F hs) hs
  clear_value s
  refine kept_ite (P := K.on) h ?_
  split
  · exact fltLatch_kept F h
  · exact kept_ite (P := K.on) h (kept_ite (P := K.on) h (kept_ite (P := K.on) h (kept_ite (P := K.on) (kept_ite h (F.upd h)) (fltLatch_kept F h))))
theorem execAliveEdge_kept (hs : K.on s) : K.after (execAliveEdge s) := kept_ite hs.upd hs
theorem execPllLossOfLock_kept (hs : K.on s) : K.after (execPllLossOfLock s) := kept_ite hs.upd hs
theorem execClkCoreLoss_kept (hs : K.on s) : K.after (execClkCoreLoss s) := kept_ite (hs.upd.same (assertLine_seen _ _ (by decide))) hs
theorem execClkSafeLoss_kept (F : K.Free) (hs : K.on s) {aon : Bool} : K.after (execClkSafeLoss aon s) :=
  kept_ite (kept_ite (hs.same (assertLine_seen _ _ (by decide))) hs) (kept_ite hs (kept_ite (Kept.on.same (F.upd hs) (assertLine_seen _ _ (by decide)))
    (fltLatch_kept F (F.upd hs))))
theorem execPerstNAssert_kept (L : K.Links) (hs : K.on s) : K.after (execPerstNAssert s) := kept_ite hs (pcieReset_kept L (L.upd (L.upd hs)))
theorem execPerstNRelease_kept (D : K.Moves) (hs : K.on s) : K.after (execPerstNRelease s) :=
  kept_ite (startTraining_kept (D 0).links (Kept.Links.upd (D 0).links hs))
    (wakeMpDomain_kept D (domAsk_kept (D _) (Kept.Links.upd (D 0).links hs)))
theorem execLinkDown_kept (L : K.Links) (hs : K.on s) {refclk : Bool} : K.after (execLinkDown refclk s) :=
  kept_ite (startTraining_kept L (pcieReset_kept L (L.upd (L.upd hs)))) (L.upd hs)
theorem configRequest_kept (L : K.Links) (h : K.on s) {f : State → State} (hf : ∀ q, K.on q → K.on (f q)) : K.on (configRequest s f) :=
  kept_ite h (kept_ite (L.upd h) (hf _ (L.upd h)))

/-! ### Registers and the remaining rows -/

theorem execFunctionLevelReset_kept (L : K.Links) (hs : K.on s) : K.after (execFunctionLevelReset s) := configRequest_kept L hs fun _ hq => pcieReset_kept L hq
theorem execRefclkReturn_kept (L : K.Links) (hs : K.on s) : K.after (execRefclkReturn s) := startTraining_kept L (L.upd hs)
theorem execLinkTrainingComplete_kept (L : K.Links) (hs : K.on s) {speed width : Nat} : K.after (execLinkTrainingComplete speed width s) :=
  kept_ite (tableAgain_kept (L.upd hs)) hs
theorem execPcieConfigWrite_kept (L : K.Links) (hs : K.on s) {off : BitVec 12} {be : BitVec 4} {w : Word} : K.after (execPcieConfigWrite off be w s) :=
  configRequest_kept L hs fun _ hq => tableAgain_kept (configWrite_kept L hq)
theorem execNop_kept (S : K.Stores) (hs : K.on s) {rq : Requester} {d : Desc} : K.after (execNop rq d s) := command_kept S hs fun _ _ hq => complete_kept hq
theorem execQeRunStart_kept (hs : K.on s) {via : Via} {stores : Stores} : K.after (execQeRunStart via stores s) :=
  kept_ite (qeCtrlWrite_kept (hostStores_kept hs)) (hostStores_kept hs)
theorem execQeRunStop_kept (hs : K.on s) {via : Via} : K.after (execQeRunStop via s) := kept_ite (qeCtrlWrite_kept hs) hs
theorem execDescriptorFetch_kept (hs : K.on s) {fails : Bool} : K.after (execDescriptorFetch fails s) := fetchDescriptor_kept hs
theorem execSqTailDoorbell_kept (hs : K.on s) {n : Fin 4} {w : Word} {stores : Stores} : K.after (execSqTailDoorbell n w stores s) :=
  (hostStores_kept hs).same (sqDoorbell_seen ..)
theorem execCqHeadDoorbell_kept (hs : K.on s) {n : Fin 4} {w : Word} : K.after (execCqHeadDoorbell n w s) := hs.same (headDoorbell_seen ..)
theorem execEqHeadDoorbell_kept (hs : K.on s) {w : Word} : K.after (execEqHeadDoorbell w s) := hs.same (headDoorbell_seen ..)
theorem execBufferReturnDoorbell_kept (hs : K.on s) {n : Fin 17} {w : Word} : K.after (execBufferReturnDoorbell n w s) :=
  hs.same (returnDoorbell_seen ..)
theorem execEvrMaskWrite_kept (hs : K.on s) {via : Via} {hi : Bool} {w : Word} : K.after (execEvrMaskWrite via hi w s) :=
  kept_ite (maskWrite_kept hs) hs
theorem execEvrPendClear_kept (hs : K.on s) {via : Via} {hi : Bool} {w : Word} : K.after (execEvrPendClear via hi w s) := kept_ite hs.upd hs
theorem execEvrOpenWrite_kept (hs : K.on s) {via : Via} {w : Word} : K.after (execEvrOpenWrite via w s) := kept_ite (setOpen_kept hs) hs
theorem execEvrLastLoRead_kept (L : K.Links) (hs : K.on s) {via : Via} : K.after (execEvrLastLoRead via s) :=
  kept_ite (kept_ite (L.upd (hs.same (lastLoRead_seen ..))) (L.upd hs)) hs
theorem execCoalesceTimeout_kept (hs : K.on s) {v : Fin 64} : K.after (execCoalesceTimeout v s) := kept_ite (coalSend_kept hs) hs
theorem packPass_kept (hs : K.on s) {serial : BitVec 64} : K.on (packPass s serial) := by
  unfold packPass
  extract_lets changed old c1 s1 r1 s2
  have h1 : K.on s1 := hs.same (setChg_seen ..)
  clear_value s1
  have h2 : K.on s2 := h1.upd
  clear_value s2
  exact kept_ite (((ev44_kept h2.upd).same (noteCount_seen ..)).same (noteLog_seen ..)) h2
theorem packFail_kept (hs : K.on s) : K.on (packFail s) :=
  kept_ite ((revEnd_kept (fwdEnd_kept (chgLatch_kept (raise_kept hs.upd)))).upd) (raise_kept hs.upd)
theorem packAttempt_kept (hs : K.on s) {ident resp : Option (List Byte)} : K.on (packAttempt s ident resp) :=
  kept_ite (packPass_kept hs.upd) (kept_ite (packFail_kept hs.upd) hs.upd)
theorem execAuthAttempt_kept (hs : K.on s) {ident resp : Option (List Byte)} : K.after (execAuthAttempt ident resp s) :=
  kept_ite (packAttempt_kept hs) hs
theorem execSweepNow_kept (hs : K.on s) {via : Via} {w : Word} : K.after (execSweepNow via w s) := kept_ite (hs.same (chgLive_seen ..)) hs
theorem execAuthNow_kept (hs : K.on s) {via : Via} {w : Word} : K.after (execAuthNow via w s) := kept_ite (hs.same (chgLive_seen ..)) hs
theorem execChgHold_kept (hs : K.on s) {via : Via} {w : Word} : K.after (execChgHold via w s) := kept_ite (hs.same (chgLive_seen ..)) hs
theorem execChgQbLoRead_kept (L : K.Links) (hs : K.on s) {via : Via} : K.after (execChgQbLoRead via s) := kept_ite (L.upd (hs.same (qbLoRead_seen ..))) hs
theorem supersede_kept (hs : K.on s) {n : Nat} : K.on (supersede s n) := by
  unfold supersede; dsimp only
  split
  · exact complete_kept hs.upd
  · exact hs
theorem railSetVoltage_kept (hs : K.on s) {n v slew : Nat} {t : Ticket} : K.on (railSetVoltage s n v slew t) := by
  unfold railSetVoltage; dsimp only
  split
  · exact (supersede_kept hs.upd).upd
  · exact kept_ite (complete_kept hs.upd) hs.upd
  · exact kept_ite (complete_kept ((supersede_kept hs.upd).upd)) ((supersede_kept hs.upd).upd)
  · exact complete_kept hs.upd
theorem execRailSetVoltage_kept (S : K.Stores) (hs : K.on s) {rq : Requester} {d : Desc} : K.after (execRailSetVoltage rq d s) :=
  command_kept S hs fun _ _ hq => kept_ite (complete_kept hq) (railSetVoltage_kept hq)
theorem railEnable_kept (hs : K.on s) {n : Nat} {on : Bool} {t : Ticket} : K.on (railEnable s n on t) := by
  unfold railEnable; dsimp only
  split
  · split
    · split
      · exact complete_kept ((railStart_kept hs.upd).upd)
      · exact railStart_kept hs.upd
    · exact hs.upd
    · exact hs.upd
    · exact hs.upd
    · exact complete_kept hs
    · exact complete_kept hs
  · split
    · exact complete_kept hs
    · exact railStop_kept hs.upd
theorem execRailEnable_kept (S : K.Stores) (hs : K.on s) {rq : Requester} {d : Desc} : K.after (execRailEnable rq d s) :=
  seqWatch_kept (command_kept S hs fun _ _ hq => kept_ite (complete_kept hq) (kept_ite (complete_kept hq) (railEnable_kept hq)))
theorem execRailMode_kept (S : K.Stores) (hs : K.on s) {rq : Requester} {d : Desc} : K.after (execRailMode rq d s) :=
  command_kept S hs fun _ _ hq => kept_ite (complete_kept hq) (kept_ite (complete_kept hq) (railSettle_kept hq.upd))
theorem railDecide_kept (hs : K.on s) {n : Nat} {m : RailMeas} {samples : List (Nat × List Nat)} : K.on (railDecide s n m samples) :=
  kept_ite (railFault_kept hs) (kept_ite hs (kept_ite hs.upd hs.upd))
theorem execRailPrestartDecision_kept (hs : K.on s) {n : Fin 8} {vpre ia : BitVec 16} {cycle us : Nat} {samples : List (Nat × List Nat)} : K.after (execRailPrestartDecision n vpre ia cycle us samples s) :=
  kept_ite (seqWatch_kept (railDecide_kept hs)) hs
theorem execRailPulse_kept (h : K.on s) {n : Fin 8} {samples : List RailSample} : K.after (execRailPulse n samples s) := by
  have h1 : K.on (forEach samples (fun x q => forUpTo x.cycles (fun _ => railCycle n.val x) q) s) :=
    forEach_kept h fun _ _ hq => forUpTo_kept hq fun _ _ hq => railCycle_kept hq
  exact kept_ite (P := K.on) h (kept_ite h1 (seqWatch_kept h1))
theorem execRailFreqTrim_kept (hs : K.on s) {n : Fin 8} : K.after (execRailFreqTrim n s) := kept_ite hs.upd hs
theorem execRailRefAtTarget_kept (hs : K.on s) {n : Fin 8} : K.after (execRailRefAtTarget n s) := kept_ite hs.upd hs
theorem execRailPgGained_kept (hs : K.on s) {n : Fin 8} {m : RailMeas} : K.after (execRailPgGained n m s) := by
  unfold execRailPgGained; dsimp only
  split
  · exact hs
  · split
    · refine seqWatch_kept (K := K) (completeAll_kept ?_)
      split
      · exact complete_kept (railEvent_kept hs.upd)
      · exact railEvent_kept hs.upd
    · exact seqWatch_kept (railEvent_kept hs.upd)
    · exact seqWatch_kept (railEvent_kept hs.upd)
    · exact hs
theorem execRailPgLost_kept (hs : K.on s) {n : Fin 8} {m : RailMeas} : K.after (execRailPgLost n m s) := kept_ite (seqWatch_kept (losePg_kept hs)) hs
theorem execRailStartTimeout_kept (hs : K.on s) {n : Fin 8} {m : RailMeas} : K.after (execRailStartTimeout n m s) :=
  kept_ite (seqWatch_kept (railFault_kept hs)) hs
theorem execRailStopDone_kept (hs : K.on s) {n : Fin 8} : K.after (execRailStopDone n s) := kept_ite (seqWatch_kept (railOff_kept hs)) hs
theorem execRailSlewDone_kept (hs : K.on s) {n : Fin 8} : K.after (execRailSlewDone n s) := by
  unfold execRailSlewDone; dsimp only
  split
  · split
    · exact complete_kept hs.upd
    · exact hs.upd
  · exact hs
theorem execRailOv_kept (hs : K.on s) {n : Fin 8} {m : RailMeas} : K.after (execRailOv n m s) := kept_ite (seqWatch_kept (railFault_kept hs)) hs
theorem execRailOvDriveEnd_kept (hs : K.on s) {n : Fin 8} : K.after (execRailOvDriveEnd n s) := kept_ite (hs.upd.same (drivePhases_seen ..)) hs
theorem execRailUv_kept (hs : K.on s) {n : Fin 8} {m : RailMeas} : K.after (execRailUv n m s) := kept_ite (seqWatch_kept (railFault_kept hs)) hs
theorem execTmonWarn_kept (hs : K.on s) {mv : BitVec 16} : K.after (execTmonWarn mv s) := kept_ite (eachBusy_kept hs.upd) hs
theorem execTmonShutdown_kept (hs : K.on s) {mv : BitVec 16} {cycle us : Nat} : K.after (execTmonShutdown mv cycle us s) :=
  kept_ite (seqWatch_kept (forUpTo_kept hs.upd fun _ _ hq => kept_ite (railFault_kept hq) hq)) hs
theorem execTmonLost_kept (hs : K.on s) {mv : BitVec 16} {us : Nat} : K.after (execTmonLost mv us s) := kept_ite (eachBusy_kept hs.upd) hs
theorem execTmonClear_kept (hs : K.on s) {mv : BitVec 16} {us : Nat} : K.after (execTmonClear mv us s) := kept_ite hs hs.upd
theorem execRailIlim_kept (hs : K.on s) {n : Fin 8} {m : RailMeas} : K.after (execRailIlim n m s) := kept_ite (railEvent_kept hs.upd) hs
theorem execPhaseShed_kept (hs : K.on s) {n : Fin 8} {m : RailMeas} : K.after (execPhaseShed n m s) := by
  refine kept_ite (P := K.on) hs ?_
  extract_lets open_ s1 s2 few s3
  have h1 : K.on s1 := forEach_kept hs fun _ _ hq => hq.same (setPhs_seen ..)
  clear_value s1
  have h2 : K.on s2 := setRail_kept h1
  clear_value s2
  have h3 : K.on s3 := railEventAs_kept h2
  clear_value s3
  exact seqWatch_kept (kept_ite (railFault_kept h3) h3)
theorem execRailBurstEnter_kept (hs : K.on s) {n : Fin 8} : K.after (execRailBurstEnter n s) := kept_ite hs.upd hs
theorem execRailBurstExit_kept (hs : K.on s) {n : Fin 8} : K.after (execRailBurstExit n s) := kept_ite hs.upd hs
theorem execRailBurstSleep_kept (hs : K.on s) {n : Fin 8} {mv : BitVec 16} : K.after (execRailBurstSleep n mv s) :=
  kept_ite (P := K.on) (forEach_kept (setRail_kept hs) fun _ _ hq => hq.same (setPhs_seen ..)) hs
theorem execRailBurstWake_kept (hs : K.on s) {n : Fin 8} {mv : BitVec 16} : K.after (execRailBurstWake n mv s) := kept_ite hs.upd hs
theorem execRailTelemetryRenew_kept (hs : K.on s) {n : Fin 8} {tmon : BitVec 16} : K.after (execRailTelemetryRenew n tmon s) := by
  unfold execRailTelemetryRenew
  extract_lets k r sw act vin vout io c1 s1 others
  have h1 : K.on s1 := setRail_kept hs.upd
  clear_value s1
  exact kept_ite (P := K.on) hs (forEach_kept h1 fun _ _ hq => hq.same (setPhs_seen ..))
theorem gooseSeen_kept (hs : K.on s) {i t : Nat} : K.on (if gooseCounts s i && (goose s i).t ≤ t && t < expiryAt (goose s i) then
    (let q := gooseTo s i t
     setGoose q i { goose q i with t := t })
    else s) := kept_ite ((gooseTo_kept hs).same (setGoose_seen ..)) hs
theorem clockSeen_kept (hs : K.on s) {off clock : Nat} : K.on (clockSeen s off clock) := by
  unfold clockSeen
  split
  · exact kept_ite hs.upd hs
  · split
    · exact gooseSeen_kept hs
    · exact hs
theorem regRead_kept (h : K.on s) {off clock : Nat} : K.on (regRead s off clock).1 := by
  unfold regRead
  split
  · exact (clockSeen_kept h).same (readEffect_seen ..)
  · exact h
theorem writeGlb_kept (hs : K.on s) {via : Via} {off : Nat} {w : Word} : K.on (writeGlb s via off w) := by
  unfold writeGlb; dsimp only
  split
  · exact kept_ite hs.upd hs
  · exact hs.upd
  · exact kept_ite (raise_kept hs.upd) hs
  · exact hs.same (putLive_seen ..)
theorem writeQe_kept (hs : K.on s) {via : Via} {off : Nat} {w : Word} : K.on (writeQe s via off w) := by
  unfold writeQe; dsimp only
  split
  · exact qeCtrlWrite_kept hs
  · exact hs.upd
  · split
    · exact hs
    · exact kept_ite hs.upd (hs.same (putFields_seen _ _ _ _ (fun _ => upd_seen) fun _ => liveNow_seen ..))
theorem writeCt_kept (hs : K.on s) {via : Via} {off : Nat} {w : Word} : K.on (writeCt s via off w) := by
  unfold writeCt; dsimp only
  split
  · exact ctCtrlWrite_kept hs
  · exact hs.upd
  · exact hs.same (putFields_seen _ _ _ _ (fun _ => upd_seen) fun _ => liveNow_seen ..)
theorem railCommitWrite_kept (hs : K.on s) {n : Nat} {w : Word} : K.on (railCommitWrite s n w) := kept_ite (railSettle_kept hs.upd) hs
theorem rcCtrlWrite_kept (hs : K.on s) {w : Word} : K.on (rcCtrlWrite s w) := kept_ite (railStgWritten_kept hs.upd) ((railStgWritten_kept hs.upd).upd)
theorem writeRc_kept (hs : K.on s) {via : Via} {off : Nat} {w : Word} : K.on (writeRc s via off w) :=
  kept_ite (rcCtrlWrite_kept hs) (kept_ite hs.upd (kept_ite hs.upd (kept_ite (railCommitWrite_kept hs) ((hs.same (putFields_seen _ _ _ _ (fun _ => upd_seen) fun _ => railLive_seen ..)).same (phasesFree_seen ..)))))
theorem writeGoose_kept (D : K.Moves) (hs : K.on s) {via : Via} {i w0 : Nat} {w : Word} : K.on (writeGoose s via i w0 w) := by
  unfold writeGoose; dsimp only
  split
  · split
    · exact gooseCheckin_kept D hs
    · exact gooseService_kept D hs
    · exact hs.same (setGoose_seen ..)
    · exact hs
  · exact hs
theorem writeFlt_kept (F : K.Free) (hs : K.on s) {via : Via} {off : Nat} {w : Word} : K.on (writeFlt s via off w) := by
  unfold writeFlt; dsimp only
  split
  · exact hs
  · split
    · exact F.upd hs
    · exact kept_ite (firstClear_kept F hs) hs
    · exact hs.same (fltTest_seen ..)
    · exact F.upd hs
    · exact F.upd hs
    · exact F.upd hs
    · exact kept_ite (writeGoose_kept F.moves hs) (hs.same (putLive_seen ..))
theorem writeMp_kept (hs : K.on s) {off : Nat} {w : Word} : K.on (writeMp s off w) := kept_ite (marginCfgWrite_kept hs) (hs.same (putLive_seen ..))
theorem writeEvr_kept (hs : K.on s) {off : Nat} {w : Word} : K.on (writeEvr s off w) := by
  unfold writeEvr
  split
  · exact maskWrite_kept hs
  · exact maskWrite_kept hs
  · exact hs.upd
  · exact hs.upd
  · exact setOpen_kept hs
  · exact hs.same (putLive_seen ..)
theorem writeMsix_kept (L : K.Links) (hs : K.on s) {off : Nat} {w : Word} : K.on (writeMsix s off w) := kept_ite hs (msixFlush_kept (L.upd hs))
theorem writePwr_kept (F : K.Free) (hs : K.on s) {via : Via} {off : Nat} {w : Word} : K.on (writePwr s via off w) := by
  unfold writePwr; dsimp only
  split
  · exact (F.upd hs)
  · exact (F.upd hs)
  · exact kept_ite (pwrReqWrite_kept F.moves hs) (hs.same (putLive_seen ..))
theorem writeReg_kept (F : K.Free) (hs : K.on s) {via : Via} {off : Nat} {w : Word} : K.on (writeReg s via off w) :=
  kept_ite (writeGlb_kept hs) (kept_ite (writeQe_kept hs) (kept_ite (writeCt_kept hs) (kept_ite (hs.same (writeOx_seen ..)) (kept_ite (hs.same (writeLink_seen ..))
    (kept_ite (writeRc_kept hs) (kept_ite (hs.same (writeSeq_seen ..)) (kept_ite (hs.same (writeChg_seen ..)) (kept_ite (writeFlt_kept F hs) (kept_ite (hs.same (writeOtp_seen ..))
    (kept_ite (hs.same (writeRtc_seen ..)) (kept_ite (writeMp_kept hs) (kept_ite (writeEvr_kept hs) (kept_ite (writeMsix_kept F.links hs) (kept_ite (writePwr_kept F hs) hs))))))))))))))
theorem regWrite_kept (F : K.Free) (hs : K.on s) {via : Via} {off : Nat} {w : Word} : K.on (regWrite s via off w) := kept_ite (writeReg_kept F hs) hs
theorem execRegisterWrite_kept (F : K.Free) (h : K.on s) {via : Via} {bar2 whole : Bool} {off : BitVec 16} {w : Word} :
    K.after (execRegisterWrite via bar2 off whole w s) := by
  unfold execRegisterWrite; dsimp only
  split
  · exact h
  · split
    · exact h.upd
    · split
      · exact kept_ite (P := K.on) (h.same (bar2Write_seen ..)) h
      · split
        · exact h
        · split
          · trivial
          · exact regWrite_kept F h
theorem execRcFieldRead_kept (L : K.Links) (hs : K.on s) {via : Via} {bar2 : Bool} {off : BitVec 16} {whole : Bool} {clock : Nat} : K.after (execRcFieldRead via bar2 off whole clock s) :=
  kept_ite hs (kept_ite (L.upd hs) (kept_ite (kept_ite (L.upd hs) hs) (kept_ite (L.upd hs) (L.upd (regRead_kept hs)))))
theorem execRailCommit_kept (hs : K.on s) {via : Via} {rail : Fin 8} {w : Word} : K.after (execRailCommit via rail w s) :=
  kept_ite (railCommitWrite_kept hs) hs
theorem execTmonEnWrite_kept (hs : K.on s) {via : Via} {w : Word} : K.after (execTmonEnWrite via w s) := kept_ite (rcCtrlWrite_kept hs) hs
theorem execSeqUp_kept (S : K.Stores) (hs : K.on s) {rq : Requester} {d : Desc} : K.after (execSeqUp rq d s) :=
  command_kept S hs fun _ _ hq => kept_ite (complete_kept hq) (seqUpReq_kept hq.upd)
theorem execSeqDown_kept (S : K.Stores) (hs : K.on s) {rq : Requester} {d : Desc} : K.after (execSeqDown rq d s) :=
  command_kept S hs fun _ _ hq => kept_ite (complete_kept hq) (seqDownReq_kept hq)
theorem execSeqLoad_kept (S : K.Stores) (hs : K.on s) {rq : Requester} {d : Desc} {hostFault : Bool} : K.after (execSeqLoad rq d hostFault s) :=
  command_kept S hs fun _ _ hq => kept_ite (complete_kept hq) (complete_kept (seqLoad_kept hq))
theorem execSeqOnInstant_kept (hs : K.on s) {i : Fin 16} : K.after (execSeqOnInstant i s) := seqWatch_kept (seqOnInstant_kept hs)
theorem execSeqSlotClose_kept (hs : K.on s) {i : Fin 16} : K.after (execSeqSlotClose i s) := seqSlotClose_kept hs
theorem execPgPinChange_kept {s0 : State} (hs : K.on s0) {pin : Fin 8} {level : Bool} {us : Nat} : K.after (execPgPinChange pin level us s0) := by
  unfold execPgPinChange; dsimp only
  split
  · exact hs.upd
  · refine forUpTo_kept hs.upd fun _ _ hq => ?_
    split
    · exact kept_ite (pgChange_kept (K := K) hq) hq
    · exact hq
theorem execPgDebounceDone_kept (hs : K.on s) {i : Fin 16} {us : Nat} : K.after (execPgDebounceDone i us s) := kept_ite hs (pgDebounced_kept hs.upd)
theorem execSeqOffInstant_kept (hs : K.on s) {i : Fin 16} : K.after (execSeqOffInstant i s) := seqWatch_kept (seqOffInstant_kept hs)
theorem execSeqMemberOffReached_kept (hs : K.on s) {i : Fin 16} {us : Nat} : K.after (execSeqMemberOffReached i us s) := seqOffReached_kept hs.upd
theorem execSeqOffTimeout_kept (hs : K.on s) {i : Fin 16} : K.after (execSeqOffTimeout i s) := seqOffTimeout_kept hs
theorem execWdiToggle_kept {s0 : State} (hs : K.on s0) {level : Bool} {us : Nat} : K.after (execWdiToggle level us s0) := hs.upd
theorem execWdiMiss_kept {s0 : State} (hs : K.on s0) {us : Nat} : K.after (execWdiMiss us s0) :=
  kept_ite hs.upd (kept_ite ((ev41_kept hs.upd).same (assertLine_seen _ _ (by decide)))
    (kept_ite ((((ev41_kept hs.upd).same (assertLine_seen _ _ (by decide))).upd).same (hostRstUpdate_seen ..)) (seqReact_kept ((ev41_kept hs.upd).same (assertLine_seen _ _ (by decide))))))
theorem execFlockPing_kept (hs : K.on s) {bytes : List Byte} : K.after (execFlockPing bytes s) :=
  kept_ite ((hs.same (flkTake_seen ..)).upd) (hs.same (flkTake_seen ..))
theorem execFlockUpArm_kept (hs : K.on s) {bytes : List Byte} : K.after (execFlockUpArm bytes s) :=
  kept_ite ((hs.same (flkTake_seen ..)).upd) (hs.same (flkTake_seen ..))
theorem execFlockDownArm_kept (hs : K.on s) {bytes : List Byte} : K.after (execFlockDownArm bytes s) := hs.same (flkTake_seen ..)
theorem execFlockCancel_kept (hs : K.on s) {bytes : List Byte} : K.after (execFlockCancel bytes s) :=
  kept_ite ((hs.same (flkTake_seen ..)).upd) (hs.same (flkTake_seen ..))
theorem execFlockAckReq_kept (hs : K.on s) {bytes : List Byte} : K.after (execFlockAckReq bytes s) :=
  kept_ite ((hs.same (flkTake_seen ..)).upd) (hs.same (flkTake_seen ..))
theorem execFsyncEdge_kept (D : K.Moves) (hs : K.on s) : K.after (execFsyncEdge s) :=
  kept_ite (wakeMpDomain_kept D (seqWatch_kept (fsyncEdge_kept hs))) (seqWatch_kept (fsyncEdge_kept hs))
theorem flkRequest_kept (hs : K.on s) {a req : Nat} : K.on (flkRequest s a req) := by
  unfold flkRequest
  extract_lets s1 s2
  have h1 : K.on s1 := (ev42_kept hs).upd
  clear_value s1
  have h2 : K.on s2 := seqCancelHeld_kept h1
  clear_value s2
  have h3 : K.on (flkDown s2 (decide (2 ≤ req))) := h2.upd
  exact kept_ite hs h3.upd
theorem execFlockPingReply_kept {s0 : State} (hs : K.on s0) {addr : Fin 32} {bytes : List Byte} {fsync : Bool} : K.after (execFlockPingReply addr bytes fsync s0) := by
  unfold execFlockPingReply
  extract_lets a s f b0 bad s1 s2 s3 s4 f4 q4 s5
  have h : K.on s := hs.upd
  have h1 : K.on s1 := h.upd
  clear_value s1
  have h2 : K.on s2 := kept_ite (ev42_kept h1) h1
  clear_value s2
  have h3 : K.on s3 := kept_ite (ev42_kept h2) h2
  clear_value s3
  have h4 : K.on s4 := h3.same (flkTryEdge_seen ..)
  clear_value s4
  have h5 : K.on s5 := kept_ite (completeAll_kept h4.upd) (flkUpCheck_kept h4)
  clear_value s5
  exact kept_ite (P := K.on) hs (kept_ite (P := K.on) h (kept_ite (P := K.on) h.upd (flkRequest_kept h5)))
theorem execFlockArmTimeout_kept {s0 : State} (hs : K.on s0) {us : Nat} : K.after (execFlockArmTimeout us s0) := by
  unfold execFlockArmTimeout
  extract_lets s ts f1 q1 s1 react s2 s3
  have h : K.on s := hs.upd
  have h1 : K.on s1 := h.upd
  clear_value s1
  have h2 : K.on s2 := (ev41_kept h1).same (assertLine_seen _ _ (by decide))
  clear_value s2
  have h3 : K.on s3 := completeAll_kept h2
  clear_value s3
  exact kept_ite (P := K.on) h (kept_ite (P := K.on) h.upd (kept_ite (P := K.on) (kept_ite (P := K.on) h3 (seqReact_kept h3)) h))
theorem execFlockPoll_kept {s0 : State} (hs : K.on s0) {us : Nat} {fsync : Bool} : K.after (execFlockPoll us fsync s0) :=
  kept_ite hs.upd (((forUpTo_kept hs.upd fun _ _ hq => kept_ite (kept_ite (kept_ite (seqDownReq_kept (ev42_kept hq.upd)) (ev42_kept hq.upd)) hq.upd) hq).upd).same (flkTryEdge_seen ..))
theorem execFlockMasterLost_kept {s0 : State} (hs : K.on s0) {us : Nat} : K.after (execFlockMasterLost us s0) := kept_ite (ev42_kept hs.upd) hs.upd
theorem execFlockBusError_kept (hs : K.on s) {fsync : Bool} : K.after (execFlockBusError fsync s) := kept_ite hs (ev42_kept hs.upd)
theorem execSetPointer_kept (hs : K.on s) {code : Byte} {bytes : List Byte} {pecOk : Bool} : K.after (execSetPointer code bytes pecOk s) :=
  kept_ite hs.upd (kept_ite hs.upd hs.upd)
theorem sbDataWrite_kept (F : K.Free) (hs : K.on s) {w : Word} : K.on (sbDataWrite s w) := (regWrite_kept F hs).upd
theorem execRegDataWrite_kept (F : K.Free) (hs : K.on s) {bytes : List Byte} {pecOk : Bool} : K.after (execRegDataWrite bytes pecOk s) :=
  kept_ite hs.upd (kept_ite hs.upd (sbDataWrite_kept F hs))
theorem execRegDataRead_kept (h : K.on s) {clock : Nat} : K.after (execRegDataRead clock s) := by
  refine kept_ite (P := K.on) h.upd ?_
  extract_lets r b1 sb1 t
  have hr : K.on r.1 := kept_ite (P := fun x : State × Word => K.on x.1) h (regRead_kept h)
  clear_value r
  have ht : K.on t := hr.upd
  clear_value t
  exact ht.upd
theorem execMbxIn_kept (D : K.Moves) (hs : K.on s) {bytes : List Byte} {pecOk : Bool} : K.after (execMbxIn bytes pecOk s) :=
  kept_ite hs.upd (kept_ite ((wakeMpDomain_kept D hs).upd) (kept_ite hs.upd ((wakeMpDomain_kept D hs).upd)))
theorem execMbxOut_kept (hs : K.on s) : K.after (execMbxOut s) := kept_ite hs.upd hs.upd
theorem execMbxStatus_kept (hs : K.on s) : K.after (execMbxStatus s) := kept_ite hs.upd hs.upd
theorem execAlertResponse_kept (hs : K.on s) : K.after (execAlertResponse s) := kept_ite hs.upd hs.upd
theorem execGlbSbRequestWrite_kept (F : K.Free) (hs : K.on s) {w : Word} {pecOk : Bool} : K.after (execGlbSbRequestWrite w pecOk s) :=
  kept_ite hs.upd (kept_ite hs.upd (kept_ite hs.upd (sbDataWrite_kept F hs.upd)))
theorem execSmbusTimeout_kept (hs : K.on s) : K.after (execSmbusTimeout s) := hs.upd
theorem execMpMailboxTake_kept (hs : K.on s) : K.after (execMpMailboxTake s) := kept_ite hs.upd hs
theorem execMpMessagePost_kept (hs : K.on s) {msg : Option (List Byte)} {alert : Bool} : K.after (execMpMessagePost msg alert s) := kept_ite hs.upd hs
theorem execNvmRead_kept (S : K.Stores) (hs : K.on s) {rq : Requester} {d : Desc} : K.after (execNvmRead rq d s) :=
  command_kept S hs fun _ _ hq => kept_ite (complete_kept hq) (nvmAsk_kept S hq)
theorem execNvmWrite_kept (S : K.Stores) (hs : K.on s) {rq : Requester} {d : Desc} {hostFault : Bool} : K.after (execNvmWrite rq d hostFault s) :=
  command_kept S hs fun _ _ hq => kept_ite (complete_kept hq) (kept_ite (complete_kept hq) (kept_ite (complete_kept hq) (kept_ite (complete_kept hq) (nvmAsk_kept S hq))))
theorem execOtpRead_kept (S : K.Stores) (hs : K.on s) {rq : Requester} {d : Desc} {reads : List MarginRead} : K.after (execOtpRead rq d reads s) :=
  command_kept S hs fun _ _ hq => kept_ite (complete_kept hq) (complete_kept (cmdWrite_kept S hq))
theorem execOtpProgram_kept (S : K.Stores) (hs : K.on s) {rq : Requester} {d : Desc} {before verify : Option MarginRead} {cut : Option OtpCut} : K.after (execOtpProgram rq d before verify cut s) := by
  unfold execOtpProgram; dsimp only
  refine command_kept S hs fun _ _ hq => ?_
  split
  · exact hq.upd
  · exact complete_kept (hq.same (otpProgram_seen ..))
theorem execOtpLockRegion_kept (S : K.Stores) (hs : K.on s) {rq : Requester} {d : Desc} {cut : Option OtpCut} : K.after (execOtpLockRegion rq d cut s) :=
  command_kept S hs fun _ _ hq => kept_ite (complete_kept hq) (kept_ite (complete_kept hq) (kept_ite (complete_kept hq) (kept_ite (complete_kept hq)
    (kept_ite (complete_kept (hq.same (lockRegion_seen ..))) (hq.same (lockRegion_seen ..))))))
theorem execLcAdvance_kept (S : K.Stores) (hs : K.on s) {rq : Requester} {d : Desc} {cut : Option OtpCut} : K.after (execLcAdvance rq d cut s) :=
  command_kept S hs fun _ _ hq => kept_ite (complete_kept hq) (kept_ite (complete_kept hq) (kept_ite (complete_kept hq) (kept_ite (complete_kept hq)
    (kept_ite (complete_kept (hq.same (lcStep_seen ..))) (hq.same (lcStep_seen ..))))))
theorem marginEvent_kept (hs : K.on s) {detail : DWord} : K.on (marginEvent s detail) := (raise_kept hs).upd
theorem execOtpMarginPass_kept {s0 : State} (hs : K.on s0) {reads : List MarginRead} : K.after (execOtpMarginPass reads s0) := by
  unfold execOtpMarginPass; dsimp only
  split
  · exact hs
  · split
    · exact hs.upd
    · exact marginEvent_kept hs.upd
theorem execNvmPageWriteDone_kept (S : K.Stores) (hs : K.on s) : K.after (execNvmPageWriteDone s) := kept_ite (nvmCommit_kept S hs) hs
theorem execNvmAddressWrite_kept (S : K.Stores) (hs : K.on s) {hi lo : Byte} {bytes : List Byte} {pecOk : Bool} : K.after (execNvmAddressWrite hi lo bytes pecOk s) :=
  kept_ite hs.upd (kept_ite hs.upd (kept_ite hs.upd (nvmAsk_kept S hs.upd)))
theorem execNvmAddressRead_kept (hs : K.on s) {hi lo : Byte} {len : Nat} : K.after (execNvmAddressRead hi lo len s) :=
  kept_ite hs.upd ((hs.same (nvBytes_seen ..)).upd)
theorem execGooseConfig_kept (S : K.Stores) (hs : K.on s) {rq : Requester} {d : Desc} {t : Nat} : K.after (execGooseConfig rq d t s) :=
  command_kept S hs fun _ _ hq => kept_ite (complete_kept hq) (kept_ite (complete_kept hq) (complete_kept (gooseConfig_kept hq)))
theorem execGooseCheckin_kept (D : K.Moves) (hs : K.on s) {inst : Fin 2} {t : Nat} {w : Word} : K.after (execGooseCheckin inst t w s) :=
  kept_ite (gooseCheckin_kept D hs) hs
theorem execGooseService_kept (D : K.Moves) (hs : K.on s) {inst : Fin 2} {t : Nat} {w : Word} : K.after (execGooseService inst t w s) :=
  kept_ite (gooseService_kept D hs) hs
theorem execGoosePeriodExpiry_kept (D : K.Moves) {s0 : State} (hs : K.on s0) {g0 g1 : Bool} : K.after (execGoosePeriodExpiry g0 g1 s0) :=
  kept_ite (gooseBoth_kept D (kept_ite (gooseTo_kept hs) hs)) (kept_ite (gooseViolate_kept D (kept_ite (gooseTo_kept hs) hs)) (kept_ite (gooseViolate_kept D (kept_ite (gooseTo_kept hs) hs))
    (kept_ite (gooseTo_kept hs) hs)))
theorem execGooseEarlyWarning_kept (hs : K.on s) : K.after (execGooseEarlyWarning s) := kept_ite (gooseWarn_kept hs) hs
theorem execHostRstNRelease_kept {s0 : State} (hs : K.on s0) {wdi : Bool} {us : Nat} : K.after (execHostRstNRelease wdi us s0) :=
  kept_ite (kept_ite (hs.upd.same (hostRstUpdate_seen ..)) hs.upd) (kept_ite (hs.upd.same (hostRstUpdate_seen ..)) hs.upd)

end

/-! ### Resets, and every instruction -/

section
variable {P : State → Prop} {K : Kept P} {s : State}

/-- It survives the reset of the fault collector too. -/
structure Kept.ThroughReset (K : Kept P) : Prop where
  free : K.Free
  released : ∀ s, K.on s → K.on { s with flt := { s.flt with faultState := false, safeN := true } }

theorem chipReset_kept (R : K.ThroughReset) (hs : K.on s) {causes : BitVec 10} {off : Bool} : K.on (chipReset s causes off) := by
  have h1 : K.on (resetMp s) := resetMp_kept R.free.stores hs
  have h2 : K.on { resetMp s with flt := { (resetMp s).flt with faultState := false, safeN := true } } := R.released _ h1
  exact R.free.upd h2
theorem otherReset_kept (R : K.ThroughReset) (hs : K.on s) {causes : BitVec 10} {off : Bool} : K.on (otherReset s causes off) := by
  unfold otherReset
  extract_lets r1 s1 s2
  have h1 : K.on s1 := hs.upd
  clear_value s1
  have h2 : K.on s2 := (chipReset_kept R h1).same (noteCount_seen ..)
  clear_value s2
  exact h2.same (noteLog_seen ..)
theorem powerLost_kept (R : K.ThroughReset) (hs : K.on s) : K.on (powerLost s) := by
  unfold powerLost
  extract_lets s0 s1 f1 p1
  have h0 : K.on s0 := kept_ite hs hs.upd
  clear_value s0
  have h1 : K.on s1 := chipReset_kept R (R.free.upd h0)
  clear_value s1
  exact R.free.upd h1
theorem powerBack_kept (R : K.ThroughReset) (hs : K.on s) {vmain vbak : BitVec 16} : K.on (powerBack s vmain vbak) := by
  unfold powerBack
  extract_lets f0 s1 p1 s2 s3 s4
  have h1 : K.on s1 := chipReset_kept R (R.free.upd hs)
  clear_value s1
  have h2 : K.on s2 := R.free.upd h1
  clear_value s2
  have h4 : K.on s4 := (h2.same (noteCount_seen ..)).same (noteLog_seen ..)
  clear_value s4
  exact startFive_kept R.free (R.free.upd h4)
theorem execPowerOnReset_kept (R : K.ThroughReset) (hs : K.on s) {back : Option (BitVec 16 × BitVec 16)} : K.after (execPowerOnReset back s) := by
  have h1 : K.on (whilePowered s powerLost) := whilePowered_kept hs fun _ hq => powerLost_kept R hq
  unfold execPowerOnReset; dsimp only
  split
  · exact h1
  · exact powerBack_kept R h1
theorem execBrownOut_kept (R : K.ThroughReset) (hs : K.on s) : K.after (execBrownOut s) := by
  refine kept_ite (P := K.on) hs ?_
  extract_lets bad p1 s1 s2
  have h2 : K.on s2 := otherReset_kept R (R.free.upd hs)
  exact R.free.upd h2
theorem execResetN_kept (R : K.ThroughReset) (hs : K.on s) : K.after (execResetN s) := by
  refine kept_ite (P := K.on) hs (kept_ite (P := K.on) (R.free.upd hs) ?_)
  extract_lets s1
  have h1 : K.on s1 := otherReset_kept R hs
  exact R.free.upd h1
theorem execChipReset_kept (R : K.ThroughReset) (hs : K.on s) {rq : Requester} {d : Desc} : K.after (execChipReset rq d s) :=
  command_kept R.free.stores hs fun _ _ hq => kept_ite (complete_kept hq) (startFive_kept R.free (otherReset_kept R (complete_kept hq)))
theorem execGooseChipRestart_kept (R : K.ThroughReset) (hs : K.on s) : K.after (execGooseChipRestart s) := by
  unfold execGooseChipRestart; dsimp only
  split
  · exact hs
  · refine kept_ite (P := K.on) hs (startFive_kept R.free ?_)
    exact Kept.on.upd (s := otherReset (noteCount s 5) _ _) (otherReset_kept R (hs.same (noteCount_seen ..)))

end

/-- Every instruction leaves such a predicate as it was. -/
theorem exec_kept {P : State → Prop} {K : Kept P} (R : K.ThroughReset) {s : State} (hs : K.on s) (i : Instr) : K.after (exec i s) := by
  cases i with
  | nop => exact execNop_kept R.free.stores hs
  | chipReset => exact execChipReset_kept R hs
  | powerState => exact execPowerState_kept R.free.moves hs
  | ctAttach => exact execCtAttach_kept R.free.stores hs
  | ctFlush => exact execCtFlush_kept R.free.stores hs
  | ceUpdate => exact execCeUpdate_kept R.free.stores hs
  | ceInvalidate => exact execCeInvalidate_kept R.free.stores hs
  | ctRebuild => exact execCtRebuild_kept R.free.stores hs
  | cePin => exact execCePin_kept R.free.stores hs
  | linkEnumerate => exact execLinkEnumerate_kept R.free.stores hs
  | nodeAuth => exact execNodeAuth_kept R.free.stores hs
  | nodeProfileLoad => exact execNodeProfileLoad_kept R.free.stores hs
  | captureArm => exact execCaptureArm_kept R.free.stores hs
  | captureForce => exact execCaptureForce_kept R.free.stores hs
  | estRestore => exact execEstRestore_kept R.free.stores hs
  | estSnapshot => exact execEstSnapshot_kept R.free.stores hs
  | railSetVoltage => exact execRailSetVoltage_kept R.free.stores hs
  | railEnable => exact execRailEnable_kept R.free.stores hs
  | railMode => exact execRailMode_kept R.free.stores hs
  | seqUp => exact execSeqUp_kept R.free.stores hs
  | seqDown => exact execSeqDown_kept R.free.stores hs
  | seqLoad => exact execSeqLoad_kept R.free.stores hs
  | chgConfig => exact execChgConfig_kept R.free.stores hs
  | chgReverse => exact execChgReverse_kept R.free.stores hs
  | nvmRead => exact execNvmRead_kept R.free.stores hs
  | nvmWrite => exact execNvmWrite_kept R.free.stores hs
  | otpRead => exact execOtpRead_kept R.free.stores hs
  | otpProgram => exact execOtpProgram_kept R.free.stores hs
  | otpLockRegion => exact execOtpLockRegion_kept R.free.stores hs
  | lcAdvance => exact execLcAdvance_kept R.free.stores hs
  | rtcSet => exact execRtcSet_kept R.free.stores hs
  | rtcGet => exact execRtcGet_kept R.free.stores hs
  | alarmSet => exact execAlarmSet_kept R.free.stores hs
  | periodicSet => exact execPeriodicSet_kept R.free.stores hs
  | gooseConfig => exact execGooseConfig_kept R.free.stores hs
  | fwStage => exact execFwStage_kept R.free.stores hs
  | fwCommit => exact execFwCommit_kept R.free.moves hs
  | logRead => exact execLogRead_kept R.free.stores hs
  | marginPlanGet => exact execMarginPlanGet_kept R.free.stores hs
  | marginPlanAccept => exact execMarginPlanAccept_kept R.free.stores hs
  | setPointer => exact execSetPointer_kept hs
  | regDataWrite => exact execRegDataWrite_kept R.free hs
  | regDataRead => exact execRegDataRead_kept hs
  | mbxIn => exact execMbxIn_kept R.free.moves hs
  | mbxOut => exact execMbxOut_kept hs
  | mbxStatus => exact execMbxStatus_kept hs
  | nvmAddressWrite => exact execNvmAddressWrite_kept R.free.stores hs
  | nvmAddressRead => exact execNvmAddressRead_kept hs
  | alertResponse => exact execAlertResponse_kept hs
  | registerWrite => exact execRegisterWrite_kept R.free hs
  | rcFieldRead => exact execRcFieldRead_kept R.free.links hs
  | sqTailDoorbell => exact execSqTailDoorbell_kept hs
  | cqHeadDoorbell => exact execCqHeadDoorbell_kept hs
  | eqHeadDoorbell => exact execEqHeadDoorbell_kept hs
  | bufferReturnDoorbell => exact execBufferReturnDoorbell_kept hs
  | qeRunStart => exact execQeRunStart_kept hs
  | qeRunStop => exact execQeRunStop_kept hs
  | detach => exact execDetach_kept hs
  | lpCommit => exact execLpCommit_kept hs
  | oxCommit => exact execOxCommit_kept hs
  | railCommit => exact execRailCommit_kept hs
  | lpRun => exact execLpRun_kept hs
  | lpPiCfgWrite => exact execLpPiCfgWrite_kept hs
  | glbSbRequestWrite => exact execGlbSbRequestWrite_kept R.free hs
  | pwrReqWrite => exact execPwrReqWrite_kept R.free.moves hs
  | fltStatusClear => exact execFltStatusClear_kept R.free hs
  | firstClr => exact execFirstClr_kept R.free hs
  | fltTest => exact execFltTest_kept hs
  | fltReactWrite => exact execFltReactWrite_kept hs
  | gooseCheckin => exact execGooseCheckin_kept R.free.moves hs
  | gooseService => exact execGooseService_kept R.free.moves hs
  | sweepNow => exact execSweepNow_kept hs
  | authNow => exact execAuthNow_kept hs
  | chgHold => exact execChgHold_kept hs
  | rtcTimeWrite => exact execRtcTimeWrite_kept hs
  | rtcDateWrite => exact execRtcDateWrite_kept hs
  | rtcTimeRead => exact execRtcTimeRead_kept R.free.links hs
  | chgQbLoRead => exact execChgQbLoRead_kept R.free.links hs
  | evrLastLoRead => exact execEvrLastLoRead_kept R.free.links hs
  | evrMaskWrite => exact execEvrMaskWrite_kept hs
  | evrPendClear => exact execEvrPendClear_kept hs
  | evrOpenWrite => exact execEvrOpenWrite_kept hs
  | replan => exact execReplan_kept hs
  | tmonEnWrite => exact execTmonEnWrite_kept hs
  | powerOnReset => exact execPowerOnReset_kept R hs
  | brownOut => exact execBrownOut_kept R hs
  | resetN => exact execResetN_kept R hs
  | perstNAssert => exact execPerstNAssert_kept R.free.links hs
  | perstNRelease => exact execPerstNRelease_kept R.free.moves hs
  | linkDown => exact execLinkDown_kept R.free.links hs
  | functionLevelReset => exact execFunctionLevelReset_kept R.free.links hs
  | refclkReturn => exact execRefclkReturn_kept R.free.links hs
  | vsysSave => exact execVsysSave_kept R.free.moves hs
  | saveDone => exact execSaveDone_kept hs
  | vsysStartAfterSave => exact execVsysStartAfterSave_kept R.free.moves hs
  | vmainLow => exact execVmainLow_kept R.free hs
  | vmainOv => exact execVmainOv_kept R.free hs
  | vbakLost => exact execVbakLost_kept R.free hs
  | vbakPresent => exact execVbakPresent_kept R.free hs
  | vmainQualGained => exact execVmainQualGained_kept hs
  | vmainQualLost => exact execVmainQualLost_kept R.free hs
  | returnTimerExpiry => exact execReturnTimerExpiry_kept R.free hs
  | supplyUv => exact execSupplyUv_kept R.free hs
  | supplyOv => exact execSupplyOv_kept hs
  | pllLossOfLock => exact execPllLossOfLock_kept hs
  | clkCoreLoss => exact execClkCoreLoss_kept hs
  | clkSafeLoss => exact execClkSafeLoss_kept R.free hs
  | clkLrxLoss => exact execClkLrxLoss_kept hs
  | oscStop => exact execOscStop_kept hs
  | oscStartTimeout => exact execOscStartTimeout_kept R.free hs
  | domainStageReady => exact execDomainStageReady_kept R.free.moves hs
  | domainStageTimeout => exact execDomainStageTimeout_kept R.free.moves hs
  | otpLoadComplete => exact execOtpLoadComplete_kept R.free hs
  | mpBoot => exact execMpBoot_kept R.free.stores hs
  | mpSelfRestart => exact execMpSelfRestart_kept R.free.moves hs
  | mpDataPageFill => exact execMpDataPageFill_kept R.free.moves hs
  | fwConfirm => exact execFwConfirm_kept hs
  | rollbackRetry => exact execRollbackRetry_kept hs
  | faultLatch => exact execFaultLatch_kept R.free hs
  | goosePeriodExpiry => exact execGoosePeriodExpiry_kept R.free.moves hs
  | gooseEarlyWarning => exact execGooseEarlyWarning_kept hs
  | hostRstNRelease => exact execHostRstNRelease_kept hs
  | gooseChipRestart => exact execGooseChipRestart_kept R hs
  | railPrestartDecision => exact execRailPrestartDecision_kept hs
  | railPulse => exact execRailPulse_kept hs
  | railFreqTrim => exact execRailFreqTrim_kept hs
  | railRefAtTarget => exact execRailRefAtTarget_kept hs
  | railPgGained => exact execRailPgGained_kept hs
  | railPgLost => exact execRailPgLost_kept hs
  | railStartTimeout => exact execRailStartTimeout_kept hs
  | railStopDone => exact execRailStopDone_kept hs
  | railSlewDone => exact execRailSlewDone_kept hs
  | railOv => exact execRailOv_kept hs
  | railOvDriveEnd => exact execRailOvDriveEnd_kept hs
  | railUv => exact execRailUv_kept hs
  | tmonWarn => exact execTmonWarn_kept hs
  | tmonShutdown => exact execTmonShutdown_kept hs
  | tmonLost => exact execTmonLost_kept hs
  | tmonClear => exact execTmonClear_kept hs
  | railIlim => exact execRailIlim_kept hs
  | phaseShed => exact execPhaseShed_kept hs
  | railBurstEnter => exact execRailBurstEnter_kept hs
  | railBurstExit => exact execRailBurstExit_kept hs
  | railBurstSleep => exact execRailBurstSleep_kept hs
  | railBurstWake => exact execRailBurstWake_kept hs
  | railTelemetryRenew => exact execRailTelemetryRenew_kept hs
  | seqOnInstant => exact execSeqOnInstant_kept hs
  | seqSlotClose => exact execSeqSlotClose_kept hs
  | pgPinChange => exact execPgPinChange_kept hs
  | pgDebounceDone => exact execPgDebounceDone_kept hs
  | seqOffInstant => exact execSeqOffInstant_kept hs
  | seqMemberOffReached => exact execSeqMemberOffReached_kept hs
  | seqOffTimeout => exact execSeqOffTimeout_kept hs
  | wdiToggle => exact execWdiToggle_kept hs
  | wdiMiss => exact execWdiMiss_kept hs
  | flockPing => exact execFlockPing_kept hs
  | flockPingReply => exact execFlockPingReply_kept hs
  | flockUpArm => exact execFlockUpArm_kept hs
  | flockDownArm => exact execFlockDownArm_kept hs
  | flockCancel => exact execFlockCancel_kept hs
  | flockAckReq => exact execFlockAckReq_kept hs
  | fsyncEdge => exact execFsyncEdge_kept R.free.moves hs
  | flockArmTimeout => exact execFlockArmTimeout_kept hs
  | flockPoll => exact execFlockPoll_kept hs
  | flockMasterLost => exact execFlockMasterLost_kept hs
  | flockBusError => exact execFlockBusError_kept hs
  | cycleTick => exact execCycleTick_kept hs
  | microframeTrain => exact execMicroframeTrain_kept hs
  | segmentReceived => exact execSegmentReceived_kept hs
  | enumerationComplete => exact execEnumerationComplete_kept hs
  | trainFailed => exact execTrainFailed_kept hs
  | dualChainStart => exact execDualChainStart_kept hs
  | farLockHealed => exact execFarLockHealed_kept hs
  | nodeResponse => exact execNodeResponse_kept hs
  | commandRetryTimeout => exact execCommandRetryTimeout_kept hs
  | nodeRestore => exact execNodeRestore_kept hs
  | authRenewal => exact execAuthRenewal_kept hs
  | cycleRecordComplete => exact execCycleRecordComplete_kept hs
  | accRecordComplete => exact execAccRecordComplete_kept hs
  | piSample => exact execPiSample_kept hs
  | capturePiece => exact execCapturePiece_kept hs
  | captureTimeout => exact execCaptureTimeout_kept hs
  | tsBufferFlush => exact execTsBufferFlush_kept hs
  | epochBoundary => exact execEpochBoundary_kept hs
  | batchFetch => exact execBatchFetch_kept hs
  | batchPass => exact execBatchPass_kept hs
  | epochEnd => exact execEpochEnd_kept hs
  | fitCompute => exact execFitCompute_kept hs
  | cacheScrub => exact execCacheScrub_kept hs
  | mulePrepare => exact execMulePrepare_kept hs
  | muleSwitch => exact execMuleSwitch_kept hs
  | descriptorFetch => exact execDescriptorFetch_kept hs
  | coalesceTimeout => exact execCoalesceTimeout_kept hs
  | chgControlTick => exact execChgControlTick_kept hs
  | chgSourceQualified => exact execChgSourceQualified_kept R.free.moves hs
  | chgSourceRetry => exact execChgSourceRetry_kept hs
  | chgSourceLost => exact execChgSourceLost_kept hs
  | mpptStep => exact execMpptStep_kept hs
  | sweepStep => exact execSweepStep_kept hs
  | periodicSweep => exact execPeriodicSweep_kept hs
  | chgBandUpdate => exact execChgBandUpdate_kept hs
  | safetyTimerExpiry => exact execSafetyTimerExpiry_kept hs
  | prechargeTimer => exact execPrechargeTimer_kept hs
  | chgTermination => exact execChgTermination_kept hs
  | rechargeCondition => exact execRechargeCondition_kept hs
  | reverseCheck => exact execReverseCheck_kept hs
  | authAttempt => exact execAuthAttempt_kept hs
  | gaugeCapture => exact execGaugeCapture_kept hs
  | qbWake => exact execQbWake_kept R.free.moves hs
  | gaugeEpoch => exact execGaugeEpoch_kept hs
  | otpMarginPass => exact execOtpMarginPass_kept hs
  | nvmPageWriteDone => exact execNvmPageWriteDone_kept R.free.stores hs
  | spareEraseDone => exact execSpareEraseDone_kept hs
  | checkpointSave => exact execCheckpointSave_kept hs
  | rtcCommit => exact execRtcCommit_kept R.free.moves hs
  | alarmFire => exact execAlarmFire_kept R.free.moves hs
  | periodicWake => exact execPeriodicWake_kept R.free.moves hs
  | rtcCompensation => exact execRtcCompensation_kept hs
  | parkingStart => exact execParkingStart_kept R.free.moves hs
  | parkingScan => exact execParkingScan_kept R.free hs
  | ageingMeasure => exact execAgeingMeasure_kept hs
  | dieTempWarn => exact execDieTempWarn_kept hs
  | marginReplanPeriodic => exact execMarginReplanPeriodic_kept hs
  | marginApplyDone => exact execMarginApplyDone_kept hs
  | resetNRelease => exact execResetNRelease_kept R.free hs
  | vsysStartAfterBrownOut => exact execVsysStartAfterBrownOut_kept R.free hs
  | supplyRecovers => exact execSupplyRecovers_kept R.free hs
  | vrtcOkChange => exact execVrtcOkChange_kept hs
  | crystalRestart => exact execCrystalRestart_kept R.free.moves hs
  | secondBoundary => exact execSecondBoundary_kept R.free.moves hs
  | aliveEdge => exact execAliveEdge_kept hs
  | linkTrainingComplete => exact execLinkTrainingComplete_kept R.free.links hs
  | pcieConfigWrite => exact execPcieConfigWrite_kept R.free.links hs
  | smbusTimeout => exact execSmbusTimeout_kept hs
  | mpMailboxTake => exact execMpMailboxTake_kept hs
  | mpMessagePost => exact execMpMessagePost_kept hs
  | packAuthRenewal => exact execPackAuthRenewal_kept hs
  | onTimeSecond => exact execOnTimeSecond_kept hs

/-! ### The canonical memories -/

theorem memWf_kept : Kept State.memWf where
  same h e := h.congr (congrArg Seen.hostMem e) (congrArg Seen.mpSram e) (congrArg Seen.flash e)
  hostWrite h := hostWrite_memWf h ..
  faultEntered h := h

theorem memWf_stores : memWf_kept.Stores where
  sramWrite h := sramWrite_memWf h ..
  sramLost h := ⟨h.1, rfl, h.2.2⟩
  flashWrite h := flashWrite_memWf h ..
  flashErase h := flashErase_memWf h ..

theorem memWf_throughReset : memWf_kept.ThroughReset where
  free := ⟨fun h => h, memWf_stores, fun h => h, fun _ _ h => h, fun h => h⟩
  released _ h := h

/-- Settles O3: every instruction keeps them canonical, since it writes them only by the operations that do. -/
theorem memoryStaysCanonical : Obligations.MemoryStaysCanonical := by
  intro s t h ht
  cases hp : s.pending with
  | nil =>
    rw [step_nil hp] at ht
    cases ht
    exact h
  | cons c r =>
    rw [step_cons hp] at ht
    have he := exec_kept memWf_throughReset (s := { s with pending := r }) h c
    rw [ht] at he
    exact he

end Sys2Proof.Machine
end

section
/-! PROOFS. The registers of the fault collector (R40, R46–R48, R487, R490, R493). -/

namespace Sys2Proof.Machine

/-! ### Fields put into a word -/

theorem bitOf_putBits {n : Nat} (w : BitVec n) {lo len v i : Nat} (h : lo + len ≤ n) :
    bitOf (putBits w lo len v) i = if lo ≤ i ∧ i < lo + len then v.testBit (i - lo) else bitOf w i := by
  have hm := bitOf_maskOf (i := i) h
  rw [bitOf] at hm
  simp only [bitOf, putBits, BitVec.getLsbD_or, BitVec.getLsbD_and, BitVec.getLsbD_not, hm, BitVec.getLsbD_ofNat, Nat.mul_comm _ (2 ^ lo),
    Nat.testBit_two_pow_mul, Nat.testBit_mod_two_pow]
  by_cases hi : lo ≤ i ∧ i < lo + len
  · simp [hi, show i < n by omega, show i - lo < len by omega]
  · by_cases hl : lo ≤ i
    · have hlt : ¬ i < lo + len := fun hlt => hi ⟨hl, hlt⟩
      have hge : ¬ i - lo < len := by omega
      by_cases hn : i < n
      · simp [hl, hlt, hge, hn]
      · simp [hl, hlt, hge, BitVec.getLsbD_of_ge w i (by omega)]
    · by_cases hn : i < n
      · simp [hl, hn]
      · simp [hl, BitVec.getLsbD_of_ge w i (by omega)]

/-- A field reads what was put into it. -/
theorem bitsOf_putBits_self {n : Nat} (w : BitVec n) {lo len v : Nat} (h : lo + len ≤ n) : bitsOf (putBits w lo len v) lo len = v % 2 ^ len := by
  refine Nat.eq_of_testBit_eq fun i => ?_
  rw [bitsOf, BitVec.testBit_toNat, BitVec.getLsbD_extractLsb', Nat.testBit_mod_two_pow]
  by_cases hi : i < len
  · have := bitOf_putBits w (v := v) (i := lo + i) h
    rw [if_pos ⟨by omega, by omega⟩, bitOf] at this
    simp [hi, this]
  · simp [hi]

/-- The other fields stay. -/
theorem bitsOf_putBits_other {n : Nat} (w : BitVec n) {lo len v lo' len' : Nat} (h : lo + len ≤ n) (hd : lo' + len' ≤ lo ∨ lo + len ≤ lo') :
    bitsOf (putBits w lo len v) lo' len' = bitsOf w lo' len' :=
  bitsOf_congr fun i hi => by rw [bitOf_putBits w h, if_neg (by omega)]

theorem bitsOf_lt {n : Nat} (w : BitVec n) (lo len : Nat) : bitsOf w lo len < 2 ^ len := (w.extractLsb' lo len).isLt

/-- A field of the same length put there reads as it was. -/
theorem bitsOf_putBits_bitsOf {n m : Nat} (w : BitVec n) (v : BitVec m) {lo l len : Nat} (h : lo + len ≤ n) :
    bitsOf (putBits w lo len (bitsOf v l len)) lo len = bitsOf v l len := by rw [bitsOf_putBits_self w h, Nat.mod_eq_of_lt (bitsOf_lt v l len)]

/-! ### Reaction classes -/

/-- The class that a field of a reaction register stands for: 3 acts as SAFE (R493). -/
def classOf (x : Nat) : Nat := if x = 3 then 2 else x

/-- The new class of source `k` is lower than the one in force, where it may change at all. -/
def lowers (old w : Word) (fixed : Nat → Bool) (k : Nat) : Bool :=
  !fixed k && decide (classOf (bitsOf w (2 * k) 2) < classOf (bitsOf old (2 * k) 2))

/-- One source of a merge: the classes so far, and whether one was refused. -/
def reactStep (old w : Word) (fixed : Nat → Bool) (a : Word × Bool) (k : Nat) : Word × Bool :=
  if fixed k then a
  else if classOf (bitsOf old (2 * k) 2) ≤ classOf (bitsOf w (2 * k) 2) then (putBits a.1 (2 * k) 2 (bitsOf w (2 * k) 2), a.2)
  else (a.1, true)

theorem reactMerge_eq (old w : Word) (fixed : Nat → Bool) : reactMerge old w fixed = (List.range 16).foldl (reactStep old w fixed) (old, false) := rfl

theorem reactStep_self (old w : Word) (fixed : Nat → Bool) (a : Word × Bool) {k : Nat} (hk : k < 16) :
    bitsOf (reactStep old w fixed a k).1 (2 * k) 2 = if fixed k || lowers old w fixed k then bitsOf a.1 (2 * k) 2 else bitsOf w (2 * k) 2 := by
  unfold reactStep lowers
  cases hf : fixed k
  · by_cases hc : classOf (bitsOf old (2 * k) 2) ≤ classOf (bitsOf w (2 * k) 2)
    · simp [hc, Nat.not_lt.mpr hc, bitsOf_putBits_bitsOf a.1 w (show 2 * k + 2 ≤ 32 by omega)]
    · simp [hc, Nat.lt_of_not_le hc]
  · simp

theorem reactStep_other (old w : Word) (fixed : Nat → Bool) (a : Word × Bool) {k j : Nat} (hk : k < 16) (h : j ≠ k) :
    bitsOf (reactStep old w fixed a k).1 (2 * j) 2 = bitsOf a.1 (2 * j) 2 := by
  unfold reactStep
  split
  · rfl
  · split
    · exact bitsOf_putBits_other a.1 (by omega) (by omega)
    · rfl

theorem reactStep_refused (old w : Word) (fixed : Nat → Bool) (a : Word × Bool) (k : Nat) :
    (reactStep old w fixed a k).2 = (a.2 || lowers old w fixed k) := by
  unfold reactStep lowers
  cases fixed k
  · by_cases hc : classOf (bitsOf old (2 * k) 2) ≤ classOf (bitsOf w (2 * k) 2)
    · simp [hc, Nat.not_lt.mpr hc]
    · simp [hc, Nat.lt_of_not_le hc]
  · simp

/-- After the first `m` sources. -/
theorem reactFold (old w : Word) (fixed : Nat → Bool) : ∀ m, m ≤ 16 →
    (∀ j, bitsOf ((List.range m).foldl (reactStep old w fixed) (old, false)).1 (2 * j) 2 =
      if j < m ∧ ¬ (fixed j || lowers old w fixed j) then bitsOf w (2 * j) 2 else bitsOf old (2 * j) 2) ∧
    (((List.range m).foldl (reactStep old w fixed) (old, false)).2 = true ↔ ∃ j, j < m ∧ lowers old w fixed j = true) := by
  intro m
  induction m with
  | zero => intro _; simp
  | succ m ih =>
    intro hm
    obtain ⟨hw, hr⟩ := ih (by omega)
    rw [List.range_succ, List.foldl_append, List.foldl_cons, List.foldl_nil]
    generalize (List.range m).foldl (reactStep old w fixed) (old, false) = a at hw hr ⊢
    constructor
    · intro j
      by_cases hj : j = m
      · subst hj
        rw [reactStep_self old w fixed a (by omega), hw j]
        by_cases hc : (fixed j || lowers old w fixed j) = true <;> simp [hc]
      · rw [reactStep_other old w fixed a (by omega) hj, hw j]
        simp only [show j < m + 1 ↔ j < m by omega]
    · rw [reactStep_refused, Bool.or_eq_true, hr]
      constructor
      · rintro (⟨j, hj, hl⟩ | hl)
        · exact ⟨j, by omega, hl⟩
        · exact ⟨m, by omega, hl⟩
      · rintro ⟨j, hj, hl⟩
        by_cases hjm : j = m
        · exact .inr (hjm ▸ hl)
        · exact .inl ⟨j, by omega, hl⟩

theorem reactMerge_class (old w : Word) (fixed : Nat → Bool) {j : Nat} (hj : j < 16) : bitsOf (reactMerge old w fixed).1 (2 * j) 2 =
    if fixed j || lowers old w fixed j then bitsOf old (2 * j) 2 else bitsOf w (2 * j) 2 := by
  rw [reactMerge_eq, (reactFold old w fixed 16 (Nat.le_refl _)).1 j]
  by_cases hc : (fixed j || lowers old w fixed j) = true <;> simp [hc, hj]

theorem reactMerge_refused (old w : Word) (fixed : Nat → Bool) :
    (reactMerge old w fixed).2 = true ↔ ∃ j, j < 16 ∧ lowers old w fixed j = true := by
  rw [reactMerge_eq, (reactFold old w fixed 16 (Nat.le_refl _)).2]

/-! ### The rows -/

theorem fltReach_of {s : State} {via : Via} (hs : via ≠ .sideband) (hv : viaReach s via = true) (hc : s.flt.clkSafe = true) : fltReach s via = true := by
  simp [fltReach, hs, hv, hc]

theorem fltReach_stopped {s : State} (h : s.flt.clkSafe = false) (via : Via) : fltReach s via = false := by simp [fltReach, h]

theorem testDetail (w : Word) : pack 32 [(0, 16, bitsOf w 0 16)] = BitVec.ofNat 32 (bitsOf w 0 16) := by
  have h : bitsOf w 0 16 % 65536 = bitsOf w 0 16 := Nat.mod_eq_of_lt (bitsOf_lt w 0 16)
  simp [pack, h]

/-- A fault collector's writes where CLK_SAFE runs and the path reaches it. -/
theorem exec_fltWrites {s : State} {via : Via} (h : fltReach s via = true) :
    (∀ w, exec (.fltStatusClear via w) s = .next (fltClear s w)) ∧ exec (.firstClr via) s = .next (firstClear s) ∧
    (∀ w, exec (.fltTest via w) s = .next (fltTest s w)) ∧ ∀ hi w, exec (.fltReactWrite via hi w) s = .next (reactWrite s hi w) := by
  simp [exec, execFltStatusClear, execFirstClr, execFltTest, execFltReactWrite, h]

theorem exec_fltWrites_stopped {s : State} {via : Via} (h : fltReach s via = false) :
    (∀ w, exec (.fltStatusClear via w) s = .next s) ∧ exec (.firstClr via) s = .next s ∧
    (∀ w, exec (.fltTest via w) s = .next s) ∧ ∀ hi w, exec (.fltReactWrite via hi w) s = .next s := by
  simp [exec, execFltStatusClear, execFirstClr, execFltTest, execFltReactWrite, h]

theorem assertLine_status (s : State) (k : Nat) (x : Word) : (assertLine s k x).flt.status = s.flt.status := by
  unfold assertLine; split <;> rfl

theorem assertLine_sameBytes (s : State) (k : Nat) (x : Word) : SameBytes s (assertLine s k x) := .of_mem (by simp) (by simp) (by simp)

/-- A line that was not asserted takes the detail. -/
theorem assertLine_fresh {s : State} {k : Nat} (h : Sparse.get? s.flt.lines k = none) (x : Word) :
    Sparse.get? (assertLine s k x).flt.lines k = some x := by simp [assertLine_lines, h]

/-- What stays in FLT_REACT0: sources 7 and 8. -/
def reactFixed (hi : Bool) (k : Nat) : Bool := !hi && (k = 7 || k = 8)

theorem reactFixed_iff (hi : Bool) (k : Nat) : reactFixed hi k = true ↔ hi = false ∧ (k = 7 ∨ k = 8) := by simp [reactFixed]

theorem lowers_iff (old w : Word) (hi : Bool) (k : Nat) : lowers old w (reactFixed hi) k = true ↔
    ¬ (hi = false ∧ (k = 7 ∨ k = 8)) ∧ classOf (bitsOf w (2 * k) 2) < classOf (bitsOf old (2 * k) 2) := by
  rw [lowers, Bool.and_eq_true, Bool.not_eq_true', ← Bool.not_eq_true, reactFixed_iff, decide_eq_true_eq]

theorem reactWrite_self (s : State) (hi : Bool) (w : Word) (off : Nat) (ho : off = if hi then 0x7024 else 0x7020) :
    rd (reactWrite s hi w) off = (reactMerge (rd s off) w (reactFixed hi)).1 := by
  subst ho
  exact (rd_wr_self s _ _ _).trans (mergeMask_ones ..)

theorem reactWrite_other (s : State) (hi : Bool) (w : Word) {o : Nat} (h : o ≠ if hi then 0x7024 else 0x7020) : rd (reactWrite s hi w) o = rd s o :=
  rd_wr_other s _ _ h

theorem reactWrite_lowerReject (s : State) (hi : Bool) (w : Word) (off : Nat) (ho : off = if hi then 0x7024 else 0x7020) :
    (reactWrite s hi w).flt.lowerReject = (s.flt.lowerReject || (reactMerge (rd s off) w (reactFixed hi)).2) := by
  subst ho; rfl

theorem exec_clkCoreLoss {s : State} (h : s.pwr.pllRuns = true ∨ s.flt.pllFirst = true) : exec .clkCoreLoss s =
    .next (assertLine { s with pwr := { s.pwr with pllRuns := false } } 3 (BitVec.ofNat 32 (b2n s.flt.pllFirst))) := by
  simp only [exec, execClkCoreLoss, Bool.or_eq_true, h, if_true]

/-- Settles O33: the writes by their equations, and FLT_REACT source by source. -/
theorem faultRegisters : Obligations.FaultRegisters := by
  refine ⟨fun s via hi w hc => ?_, fun s via hs hv hc => ?_, fun s hp => ?_, fun s hp hl => ?_⟩
  · obtain ⟨h1, h2, h3, h4⟩ := exec_fltWrites_stopped (fltReach_stopped hc via)
    exact ⟨h1 w, h2, h3 w, h4 hi w⟩
  · obtain ⟨h1, h2, h3, h4⟩ := exec_fltWrites (fltReach_of hs hv hc)
    refine ⟨fun w => h1 w, fun hf => ?_, fun hf => ?_, fun w hw => ?_, fun w hw hl => ?_, fun hi w => ?_⟩
    · rw [h2, firstClear, if_pos hf]
    · rw [h2, firstClear, if_neg (by simp [hf])]; rfl
    · rw [h3, fltTest, if_neg hw]
    · refine ⟨_, h3 w, ?_⟩
      rw [fltTest, if_pos hw, testDetail]
      exact ⟨assertLine_fresh hl _, assertLine_status .., assertLine_sameBytes s 22 _, assertLine_regs ..⟩
    · refine ⟨_, h4 hi w, ?_⟩
      dsimp only
      generalize hoff : (if hi = true then 0x7024 else 0x7020) = off
      have hstay : ∀ j, (reactFixed hi j || lowers (rd s off) w (reactFixed hi) j) = true ↔
          (hi = false ∧ (j = 7 ∨ j = 8)) ∨ ¬ (hi = false ∧ (j = 7 ∨ j = 8)) ∧ classOf (bitsOf w (2 * j) 2) < classOf (bitsOf (rd s off) (2 * j) 2) :=
        fun j => by rw [Bool.or_eq_true, lowers_iff, reactFixed_iff]
      refine ⟨fun j hj h => ?_, fun j hj hf hn => ?_, ?_, fun o ho => reactWrite_other s hi w (hoff ▸ ho), .of_mem rfl rfl rfl⟩
      · rw [reactWrite_self s hi w off hoff.symm, reactMerge_class _ _ _ hj, if_pos ((hstay j).mpr h)]
      · rw [reactWrite_self s hi w off hoff.symm, reactMerge_class _ _ _ hj, if_neg (mt (hstay j).mp (not_or.mpr ⟨hf, hn⟩))]
      · rw [reactWrite_lowerReject s hi w off hoff.symm, Bool.or_eq_true, reactMerge_refused]
        simp only [lowers_iff]
        exact Iff.rfl
  · exact congrArg Host.Outcome.next (if_pos hp)
  · refine ⟨_, exec_clkCoreLoss hp, by simp, ?_, .of_mem (by simp) (by simp) (by simp), by simp⟩
    exact assertLine_fresh (s := { s with pwr := { s.pwr with pllRuns := false } }) hl _

end Sys2Proof.Machine
end

section
/-! PROOFS. The power domains and the internal supplies (R27, R44, R359, R414, R415, R432–R436). -/

namespace Sys2Proof.Machine

/-! ### What the operations that follow a domain's transition leave alone -/

/-- What does not look at host memory, the fault state, SAFE_N and ALIVE is kept. -/
theorem view_kept {α : Type} (g : Seen → α) (v : α) (hg : ∀ (x : Seen) (h : List Host.Cell) (fs sn run : Bool),
    g { x with hostMem := h, faultState := fs, safeN := sn, latches := { x.latches with aliveRun := run } } = g x) :
    Kept fun t => g (seen t) = v where
  same h e := (congrArg g e).trans h
  hostWrite h := (hg ..).trans h
  faultEntered h := (hg ..).trans h

theorem doms_kept (v : Vector Domain 13) : Kept fun t => t.pwr.doms = v := view_kept Seen.doms v fun _ _ _ _ _ => rfl

/-- The record of one domain: a change of another keeps it. -/
theorem domAt_kept (k : Nat) (v : Domain) : Kept fun t => dom t k = v := view_kept (fun x => vget x.doms k Domain.always) v fun _ _ _ _ _ => rfl

theorem doms_stores (v) : (doms_kept v).Stores := ⟨fun h => h, fun h => h, fun h => h, fun h => h⟩

theorem domAt_moves {j k : Nat} (h : j ≠ k) (v : Domain) : (domAt_kept k v).MovesAt j where
  dom hs := by
    rw [Kept.on, dom_setDom, if_neg fun hj => h hj.1]
    exact hs
  links h := h
  stores := ⟨fun h => h, fun h => h, fun h => h, fun h => h⟩

theorem dom_of_doms {s t : State} (h : t.pwr.doms = s.pwr.doms) (k : Nat) : dom t k = dom s k := by rw [dom, dom, h]

theorem sameBytes_of_seen {s t : State} (h : seen t = seen s) : SameBytes s t :=
  .of_mem (congrArg Seen.hostMem h) (congrArg Seen.mpSram h) (congrArg Seen.flash h)

section
variable {s : State} {k : Nat}

theorem dom_domLost : dom (domLost s k) = dom s := funext <| dom_of_doms (domLost_kept (K := doms_kept _) (doms_stores _) (Eq.refl s.pwr.doms))
theorem dom_domUp {fromOff byHost : Bool} : dom (domUp s k fromOff byHost) = dom s :=
  funext <| dom_of_doms (domUp_kept (K := doms_kept _) (fun h => h) (Eq.refl s.pwr.doms))
theorem dom_wakeRegc {up : Bool} : dom (wakeRegc s up) = dom s := funext <| dom_of_doms (wakeRegc_kept (K := doms_kept _) (Eq.refl s.pwr.doms))
theorem dom_domTicket {t : Option Ticket} {status : Nat} {r : DWord} : dom (domTicket s t status r) = dom s :=
  funext <| dom_of_doms (domTicket_kept (K := doms_kept _) (Eq.refl s.pwr.doms))
theorem dom_ev62 {quiet byMp : Bool} {reached requested : DomState} {result stage : Nat} : dom (ev62 s quiet k reached requested result byMp stage) = dom s :=
  funext <| dom_of_doms (ev62_kept (K := doms_kept _) (Eq.refl s.pwr.doms))
theorem dom_pllUpdate : dom (pllUpdate s) = dom s := funext <| dom_of_doms (congrArg Seen.doms (pllUpdate_seen s))
theorem dom_evUpdate : dom (evUpdate s) = dom s := funext <| dom_of_doms (evUpdate_kept (K := doms_kept _) (Eq.refl s.pwr.doms))
theorem dom_logicDown : dom (logicDown s k) = dom s := funext <| dom_of_doms (logicDown_kept (K := doms_kept _) (Eq.refl s.pwr.doms))
theorem dom_domDownStart {save : Bool} : dom (domDownStart s k save) = dom s :=
  funext <| dom_of_doms (domDownStart_kept (K := doms_kept _) (fun h => h) (Eq.refl s.pwr.doms))
theorem dom_seqWatch {old : State} {us : Option Nat} : dom (seqWatch old s us) = dom s :=
  funext <| dom_of_doms (seqWatch_kept (K := doms_kept _) (Eq.refl s.pwr.doms))

theorem domNext_of_none (h : (dom s k).waiting = none) : domNext s k = s := by
  unfold domNext
  dsimp only
  rw [h]

theorem dom_setDom_self (h : k < 13) {d : Domain} : dom (setDom s k d) k = d := by rw [dom_setDom, if_pos ⟨rfl, h⟩]

/-! ### One stage -/

/-- A transition that ends leaves the domain in the state reached, but for a request that waited behind it. -/
theorem dom_domEnd (hk : k < 13) {m : DomMove} (hw : (dom s k).waiting = none) :
    dom (domEnd s k m) k = { dom s k with state := if m.failed ≠ 0 then .off else m.req.target, move := none,
                                          result := if m.failed ≠ 0 then 2 else 0, failedStage := m.failed, byMp := m.req.byMp } := by
  unfold domEnd
  extract_lets reached result d1 s1 s2 s3 q3 s4 s5
  have h1 : dom s1 k = { dom s k with state := reached, move := none, result := result, failedStage := m.failed, byMp := m.req.byMp } :=
    dom_setDom_self hk
  have h2 : dom s2 = dom s1 := ite_of (P := fun q => dom q = dom s1) (fun _ => dom_domLost) fun _ => rfl
  have h3 : dom s3 = dom s2 := ite_of (P := fun q => dom q = dom s2) (fun _ => dom_domUp) fun _ => rfl
  have h4 : dom s4 = dom s3 := ite_of (P := fun q => dom q = dom s3) (fun _ => dom_wakeRegc) fun _ => rfl
  have h5 : dom s5 = dom s4 := ite_of (P := fun q => dom q = dom s4) (fun _ => dom_domTicket) fun _ => dom_domTicket
  have h6 : dom (pllUpdate (ev62 s5 (quietMove s k) k reached m.req.target result m.req.byMp m.failed)) k = dom s1 k := by
    rw [dom_pllUpdate, dom_ev62, h5, h4, h3, h2]
  rw [dom_evUpdate, domNext_of_none (by rw [h6, h1]; exact hw), h6, h1]

theorem dom_stageDown (hk : k < 13) {m : DomMove} (h : m.stage ≠ 1) :
    dom (stageDown s k m) k = { domBitDown (dom s k) m.stage with move := some { m with stage := m.stage - 1 } } := by
  unfold stageDown
  extract_lets d1 s1 s2
  have h2 : dom s2 = dom s1 := ite_of (P := fun q => dom q = dom s1) (fun _ => dom_logicDown) fun _ => rfl
  rw [if_neg h, h2]
  exact dom_setDom_self hk

theorem dom_stageDown_last (hk : k < 13) {m : DomMove} (h : m.stage = 1) (hw : (dom s k).waiting = none) :
    (dom (stageDown s k m) k).state = (if m.failed ≠ 0 then .off else m.req.target) ∧ (dom (stageDown s k m) k).regRdy = false := by
  unfold stageDown
  extract_lets d1 s1 s2
  have h2 : s2 = s1 := if_neg (by simp [h])
  have h1 : dom s1 k = { domBitDown (dom s k) m.stage with move := some { m with stage := m.stage - 1 } } := dom_setDom_self hk
  rw [if_pos h, h2, dom_domEnd hk (by rw [h1, h]; exact hw), h1, h]
  exact ⟨rfl, rfl⟩

/-- A stage on the way up that nothing holds sets its bit and moves on, the PLL running from the CLK stage of a root-derived clock. -/
theorem stageUp_of_free {m : DomMove} (h1 : m.stage = 1 → heldOff s k = false) (h2 : m.stage = 2 → rootDom k = true → s.flt.rootOverride = false) :
    stageUp s k m = (let s1 := setDom s k { domBitUp (dom s k) m.stage with move := some { m with stage := m.stage + 1 } }
       let s2 := if m.stage = 2 && rootDom k then { s1 with pwr := { s1.pwr with pllRuns := true } } else s1
       if m.stage = 4 then domEnd s2 k m else s2) := by
  unfold stageUp
  refine if_neg ?_
  simp only [Bool.or_eq_true, Bool.and_eq_true, decide_eq_true_eq, not_or, not_and]
  exact ⟨fun h => by simp [h1 h], fun h hr => by simp [h2 h.1 h.2] at hr⟩

theorem domStage_up {m : DomMove} (hm : (dom s k).move = some m) (ht : m.req.target = .on) (hf : m.failed = 0) : domStage s k = stageUp s k m := by
  simp [domStage, hm, ht, hf]

theorem domStage_down {m : DomMove} (hm : (dom s k).move = some m) (h : m.req.target ≠ .on ∨ m.failed ≠ 0) : domStage s k = stageDown s k m := by
  rcases h with h | h <;> simp [domStage, hm, h]

/-- A stage becomes ready: a sequencer that watches the rails of PD_REGC changes no domain. -/
theorem domainStageReady_answers {s : State} {k : Fin 13} {P : State → Prop} (h : P (domStage s k.val)) (hs : P (seqWatch s (domStage s k.val) none)) :
    Answers (.domainStageReady k) s P := ⟨_, rfl, ite_of (P := P) (fun _ => hs) fun _ => h⟩

/-- What only the domain's record says is as the stage left it. -/
theorem domainStageReady_dom {s : State} {k : Fin 13} {Q : Domain → Prop} (h : Q (dom (domStage s k.val) k.val)) :
    Answers (.domainStageReady k) s fun t => Q (dom t k.val) := by
  refine domainStageReady_answers h ?_
  rw [dom_seqWatch]
  exact h

end

/-- The bit of a stage. -/
def stageBit (d : Domain) (n : Nat) : Bool := if n = 1 then d.regRdy else if n = 2 then d.clkRdy else if n = 3 then d.memRdy else d.logicRdy

theorem domBitUp_spec (d : Domain) (n : Nat) : stageBit (domBitUp d n) n = true ∧ (domBitUp d n).state = d.state ∧ (domBitUp d n).waiting = d.waiting := by
  unfold domBitUp
  split
  case h_4 h1 h2 h3 => exact ⟨by rw [stageBit, if_neg h1, if_neg h2, if_neg h3], rfl, rfl⟩
  all_goals exact ⟨rfl, rfl, rfl⟩

theorem domBitDown_spec (d : Domain) (n : Nat) : stageBit (domBitDown d n) n = false ∧ (domBitDown d n).state = d.state := by
  unfold domBitDown
  split
  case h_4 h1 h2 h3 => exact ⟨by rw [stageBit, if_neg h1, if_neg h2, if_neg h3], rfl⟩
  all_goals exact ⟨rfl, rfl⟩

/-! ### The stages of a transition -/

section
variable {s : State} {k : Fin 13} {m : DomMove}

theorem domainStageReady_up (hm : (dom s k.val).move = some m) (ht : m.req.target = .on) (hf : m.failed = 0) (hreg : m.stage = 1 → heldOff s k.val = false)
    (hclk : m.stage = 2 → rootDom k.val = true → s.flt.rootOverride = false) (h4 : m.stage ≠ 4) :
    Answers (.domainStageReady k) s fun t => stageBit (dom t k.val) m.stage = true ∧ (dom t k.val).move = some { m with stage := m.stage + 1 } ∧
      (dom t k.val).state = (dom s k.val).state ∧ SameBytes s t ∧ (m.stage = 2 → rootDom k.val = true → t.pwr.pllRuns = true) := by
  let s1 := setDom s k.val { domBitUp (dom s k.val) m.stage with move := some { m with stage := m.stage + 1 } }
  let s2 := if m.stage = 2 && rootDom k.val then { s1 with pwr := { s1.pwr with pllRuns := true } } else s1
  have hs2 : domStage s k.val = s2 := by rw [domStage_up hm ht hf, stageUp_of_free hreg hclk]; exact if_neg h4
  have h12 : dom s2 = dom s1 := ite_of (P := fun q => dom q = dom s1) (fun _ => rfl) fun _ => rfl
  have hd : dom s2 k.val = { domBitUp (dom s k.val) m.stage with move := some { m with stage := m.stage + 1 } } := by
    rw [h12]
    exact dom_setDom_self k.isLt
  have hw : seqWatch s s2 none = s2 := seqWatch_of_rails fun i m _ _ _ =>
    ite_of (P := fun q => rail q m.cfg.index = rail s m.cfg.index) (fun _ => rfl) fun _ => rfl
  have hb := domBitUp_spec (dom s k.val) m.stage
  have hP : stageBit (dom s2 k.val) m.stage = true ∧ (dom s2 k.val).move = some { m with stage := m.stage + 1 } ∧
      (dom s2 k.val).state = (dom s k.val).state ∧ SameBytes s s2 ∧ (m.stage = 2 → rootDom k.val = true → s2.pwr.pllRuns = true) := by
    rw [hd]
    refine ⟨hb.1, rfl, hb.2.1, ite_of (P := SameBytes s) (fun _ => .of_mem rfl rfl rfl) (fun _ => .of_mem rfl rfl rfl), fun h hr => ?_⟩
    simp [s2, h, hr]
  exact domainStageReady_answers (hs2 ▸ hP) (by rw [hs2, hw]; exact hP)

theorem domainStageReady_on (hm : (dom s k.val).move = some m) (ht : m.req.target = .on) (hf : m.failed = 0) (h4 : m.stage = 4)
    (hw : (dom s k.val).waiting = none) : Answers (.domainStageReady k) s fun t => (dom t k.val).state = .on ∧ (dom t k.val).logicRdy = true := by
  refine domainStageReady_dom (Q := fun d => d.state = .on ∧ d.logicRdy = true) ?_
  rw [domStage_up hm ht hf, stageUp_of_free (by simp [h4]) (by simp [h4])]
  simp only [h4, if_true, show ((4 : Nat) = 2) = False by simp, decide_false, Bool.false_and]
  have hd := fun x : Domain => dom_setDom_self (s := s) k.isLt (d := x)
  rw [dom_domEnd k.isLt (by rw [if_neg (by simp), hd]; exact hw)]
  simp [hd, hf, ht, domBitUp]

theorem domainStageReady_down (hm : (dom s k.val).move = some m) (h : m.req.target ≠ .on ∨ m.failed ≠ 0) (h1 : m.stage ≠ 1) :
    Answers (.domainStageReady k) s fun t => stageBit (dom t k.val) m.stage = false ∧ (dom t k.val).move = some { m with stage := m.stage - 1 } ∧
      (dom t k.val).state = (dom s k.val).state := by
  refine domainStageReady_dom (Q := fun d => stageBit d m.stage = false ∧ d.move = some { m with stage := m.stage - 1 } ∧ d.state = (dom s k.val).state) ?_
  have hb := domBitDown_spec (dom s k.val) m.stage
  rw [domStage_down hm h, dom_stageDown k.isLt h1]
  exact ⟨hb.1, rfl, hb.2⟩

theorem domainStageReady_off (hm : (dom s k.val).move = some m) (h : m.req.target ≠ .on ∨ m.failed ≠ 0) (h1 : m.stage = 1)
    (hw : (dom s k.val).waiting = none) : Answers (.domainStageReady k) s fun t =>
      (dom t k.val).state = (if m.failed ≠ 0 then .off else m.req.target) ∧ (dom t k.val).regRdy = false := by
  refine domainStageReady_dom (Q := fun d => d.state = (if m.failed ≠ 0 then .off else m.req.target) ∧ d.regRdy = false) ?_
  rw [domStage_down hm h]
  exact dom_stageDown_last k.isLt h1 hw

theorem assertLine_isSome (s : State) (k : Nat) (d : Word) : (Sparse.get? (assertLine s k d).flt.lines k).isSome = true := by
  unfold assertLine
  split
  · assumption
  · simp

theorem domainStageTimeout_turns (hm : (dom s k.val).move = some m) (ht : m.req.target = .on) (hf : m.failed = 0) :
    Answers (.domainStageTimeout k) s fun t => (dom t k.val).move = some { m with failed := m.stage, stage := 4 } ∧
      (dom t k.val).state = (dom s k.val).state ∧ SameBytes s t ∧ (m.stage = 2 → rootDom k.val = true → (Sparse.get? t.flt.lines 3).isSome = true) := by
  let s1 := setDom s k.val { dom s k.val with move := some { m with failed := m.stage, stage := 4 } }
  have hs : domStageFail s k.val = if m.stage = 2 && rootDom k.val then assertLine s1 3 (BitVec.ofNat 32 (b2n s.flt.pllFirst)) else s1 := by
    simp [domStageFail, hm, ht, hf, s1]
  have hd : dom s1 k.val = { dom s k.val with move := some { m with failed := m.stage, stage := 4 } } := dom_setDom_self k.isLt
  have hseen : seen (domStageFail s k.val) = seen s1 := by
    rw [hs]
    exact seen_ite (assertLine_seen _ _ (by decide)) rfl
  refine ⟨_, rfl, ?_, ?_, ?_, fun h hr => ?_⟩
  · rw [dom_of_doms (congrArg Seen.doms hseen), hd]
  · rw [dom_of_doms (congrArg Seen.doms hseen), hd]
  · exact .of_mem (congrArg Seen.hostMem hseen) (congrArg Seen.mpSram hseen) (congrArg Seen.flash hseen)
  · rw [hs, if_pos (by simp [h, hr])]
    exact assertLine_isSome ..

end

/-- Settles O28: a stage changes the domain's own record, stage by stage, and a time-out turns it round. -/
theorem powerDomainStages : Obligations.PowerDomainStages := by
  refine ⟨fun s k m hm ht hf hreg hclk => ⟨fun h => ?_, fun h4 hw => domainStageReady_on hm ht hf h4 hw⟩,
    fun s k m hm h => ⟨fun hst => ?_, fun h1 hw => domainStageReady_off hm h h1 hw⟩, fun s k m hm ht hf => domainStageTimeout_turns hm ht hf⟩
  · exact domainStageReady_up hm ht hf hreg hclk (by rintro h4; simp [h4] at h)
  · exact domainStageReady_down hm h (by rintro h1; simp [h1] at hst)

/-! ### The internal supplies -/

/-- What the supervisors set, and what bars a domain's start. -/
abbrev supplySeen (t : State) : BitVec 8 × BitVec 8 × Path × Bool × Bool × Bool × Bool × Bool × Bool :=
  (t.pwr.uvFlags, t.pwr.uvNow, t.pwr.path, (Sparse.get? t.flt.lines 0).isSome, bitOf t.flt.active 0,
    t.pwr.vsysOk, t.pwr.resetLow, (1 ≤ t.pwr.startStep && t.pwr.startStep ≤ 4 : Bool), (t.pwr.startStep = 7 : Bool))

theorem supply_kept (v) : Kept fun t => supplySeen t = v :=
  view_kept (fun x => (x.uvFlags, x.uvNow, x.path, x.lineZero, x.activeZero, x.vsysOk, x.resetLow, x.starting, x.restarting)) v fun _ _ _ _ _ => rfl

theorem supply_moves (v) : (supply_kept v).Moves := fun _ => ⟨fun h => h, fun h => h, fun h => h, fun h => h, fun h => h, fun h => h⟩

section
variable {s : State} {j k : Nat}

theorem dom_forceOff_other (h : j ≠ k) : dom (forceOff j s) k = dom s k := forceOff_kept (K := domAt_kept k _) (domAt_moves h _) rfl
theorem dom_domRestore_other (h : j ≠ k) : dom (domRestore j s) k = dom s k := domRestore_kept (K := domAt_kept k _) (domAt_moves h _) rfl

/-- A start of a transition leaves the domain's state. -/
theorem state_domStart {r : DomReq} {save : Bool} : (dom (domStart s k r save) k).state = (dom s k).state := by
  unfold domStart
  extract_lets early s1 r1 s2 d
  refine ite_of (P := fun q => (dom q k).state = (dom s k).state) (fun _ => by rw [dom_domTicket]) fun _ => ?_
  have h1 : dom s1 = dom s := ite_of (P := fun q => dom q = dom s) (fun _ => dom_domTicket) fun _ => rfl
  have h2 : dom s2 = dom s1 := ite_of (P := fun q => dom q = dom s1) (fun _ => rfl) fun _ => dom_domDownStart
  have hd : d.state = (dom s k).state := by rw [← h1, ← h2]
  rw [dom_setDom]
  split
  · exact hd
  · rw [h2, h1]

theorem state_setDom {d : Domain} (h : d.state = (dom s k).state) : (dom (setDom s k d) k).state = (dom s k).state := by
  rw [dom_setDom]
  split
  · exact h
  · rfl

theorem state_domNext : (dom (domNext s k) k).state = (dom s k).state := by
  unfold domNext
  dsimp only
  split
  · rfl
  · next r _ =>
    have h1 : (dom (setDom s k { dom s k with waiting := none, byMp := r.byMp }) k).state = (dom s k).state := state_setDom rfl
    split
    · rw [dom_domTicket, state_setDom (by exact h1.symm ▸ rfl), h1]
    · exact ite_of (P := fun q => (dom q k).state = (dom s k).state) (fun _ => by rw [dom_domTicket, h1]) fun _ => by rw [state_domStart, h1]

/-- A domain taken off by its supply is off, in transition only by the request that waited behind its transition. -/
theorem dom_forceOff_self (hk : k < 13) : (dom (forceOff k s) k).state = .off ∧
    ((dom s k).waiting = none → (dom (forceOff k s) k).move = none ∧ (dom (forceOff k s) k).waiting = none) := by
  unfold forceOff
  extract_lets d s0 d1 s1 s2 s3
  split
  case isTrue h =>
    rw [Bool.and_eq_true, decide_eq_true_eq, Option.isNone_iff_eq_none] at h
    exact ⟨h.1, fun hw => ⟨h.2, hw⟩⟩
  case isFalse h =>
    have h0 : dom s0 = dom s := ite_of (P := fun q => dom q = dom s) (fun _ => rfl) fun _ => dom_domDownStart
    have h1 : dom s1 k = { dom s k with state := .off, regRdy := false, clkRdy := false, memRdy := false, logicRdy := false, move := none } := by
      rw [← h0]
      exact dom_setDom_self hk
    have h2 : dom s2 = dom s1 := dom_domLost
    have h3 : (dom s3 k).state = .off ∧ (dom s3 k).move = none ∧ (dom s3 k).waiting = (dom s k).waiting := by
      unfold s3
      split
      · rw [domCut, dom_ev62, dom_domTicket, dom_setDom_self hk, h2, h1]
        exact ⟨rfl, rfl, rfl⟩
      · rw [h2, h1]
        exact ⟨rfl, rfl, rfl⟩
    rw [dom_evUpdate]
    refine ⟨by rw [state_domNext, dom_pllUpdate, h3.1], fun hw => ?_⟩
    rw [domNext_of_none (by rw [dom_pllUpdate, h3.2.2, hw]), dom_pllUpdate]
    exact ⟨h3.2.1, h3.2.2.trans hw⟩

end

theorem supplyDoms_lt {i k : Nat} (h : k ∈ supplyDoms i) : k < 13 := by
  unfold supplyDoms at h
  split at h <;> simp at h <;> omega

/-- A pass over a list settles an element: what holds until its turn is `Q`, what its turn brings about is `R`, and no other turn undoes it. -/
theorem forEach_settles {α : Type} {f : α → State → State} {a : α} {Q R : State → Prop} (hQ : ∀ b q, b ≠ a → Q q → Q (f b q)) (hR : ∀ b q, R q → R (f b q))
    (ha : ∀ q, Q q → R (f a q)) : ∀ {l : List α} {s : State}, a ∈ l → Q s → R (forEach l f s) := by
  intro l
  induction l with
  | nil => exact fun h => absurd h List.not_mem_nil
  | cons b l ih =>
    intro s hm hs
    by_cases hb : b = a
    · subst hb
      show R (forEach l f (f b s))
      exact forEach_induct (P := R) (f := f) (ha s hs) fun c _ q hq => hR c q hq
    · exact ih ((List.mem_cons.mp hm).resolve_left fun h => hb h.symm) (hQ b s hb hs)

section
variable {s : State} {i : Fin 8}

/-- Each domain of a supply that fails is off, and in transition only by a request that waited. -/
theorem forEach_forceOff {l : List Nat} (hl : ∀ k ∈ l, k < 13) {k : Nat} (hk : k ∈ l) :
    (dom (forEach l forceOff s) k).state = .off ∧ ((dom s k).waiting = none → (dom (forEach l forceOff s) k).move = none) := by
  have hk13 := hl k hk
  have h := forEach_settles (f := forceOff) (a := k) (Q := fun q => dom q k = dom s k)
    (R := fun q => (dom q k).state = .off ∧ ((dom s k).waiting = none → (dom q k).move = none ∧ (dom q k).waiting = none))
    (fun b q hb hq => (dom_forceOff_other hb).trans hq)
    (fun b q hq => by
      by_cases hb : b = k
      · subst hb
        exact ⟨(dom_forceOff_self hk13).1, fun hw => (dom_forceOff_self hk13).2 (hq.2 hw).2⟩
      · rw [dom_forceOff_other hb]
        exact hq)
    (fun q hq => hq ▸ dom_forceOff_self hk13) hk rfl
  exact ⟨h.1, fun hw => (h.2 hw).1⟩

theorem holdLine_frame (s : State) (k : Nat) (d : Word) :
    holdLine s k d = { s with flt := { s.flt with lines := (assertLine s k d).flt.lines, active := s.flt.active ||| maskOf 32 k 1 } } := by
  unfold holdLine assertLine
  split <;> rfl

theorem bitZero_hold (w : Word) : bitOf (w ||| maskOf 32 0 1) 0 = true := by
  rw [bitOf, BitVec.getLsbD_or]
  exact Bool.or_true _

theorem bitZero_end (w : Word) : bitOf (w &&& ~~~ maskOf 32 0 1) 0 = false := by
  rw [bitOf, BitVec.getLsbD_and]
  exact Bool.and_false _

theorem supplyUv_answers (hr : regulated s = true) (hn : bitOf s.pwr.uvNow i.val = false) : Answers (.supplyUv i) s fun t =>
    t.pwr.uvFlags = s.pwr.uvFlags ||| maskOf 8 i.val 1 ∧ t.pwr.uvNow = s.pwr.uvNow ||| maskOf 8 i.val 1 ∧
    (Sparse.get? t.flt.lines 0).isSome = true ∧ bitOf t.flt.active 0 = true ∧ t.pwr.path = s.pwr.path ∧
    ∀ k, k ∈ supplyDoms i.val → (dom t k).state = .off ∧ ((dom s k).waiting = none → (dom t k).move = none) := by
  refine ⟨_, congrArg Host.Outcome.next (if_neg (by simp [hr, hn])), ?_⟩
  extract_lets b p s1 s2 s3
  have hf : s2 = { s1 with flt := { s1.flt with lines := (assertLine s1 0 (s1.pwr.uvNow.setWidth 32)).flt.lines, active := s1.flt.active ||| maskOf 32 0 1 } } :=
    holdLine_frame ..
  have hp : s2.pwr = { s.pwr with uvFlags := s.pwr.uvFlags ||| b, uvNow := s.pwr.uvNow ||| b } := by rw [hf]; rfl
  have hl : (Sparse.get? s2.flt.lines 0).isSome = true := by rw [hf]; exact assertLine_isSome ..
  have ha : bitOf s2.flt.active 0 = true := by rw [hf]; exact bitZero_hold _
  have hs : supplySeen (seqWatch s2 s3 none) = supplySeen s2 :=
    seqWatch_kept (K := supply_kept _) (forEach_kept (P := (supply_kept (supplySeen s2)).on) rfl fun j _ hq => forceOff_kept (supply_moves _ j) hq)
  simp only [supplySeen, Prod.mk.injEq] at hs
  obtain ⟨hflags, hnow, hpath, hline, hact, -⟩ := hs
  refine ⟨by rw [hflags, hp], by rw [hnow, hp], hline.trans hl, hact.trans ha, by rw [hpath, hp], fun k hk => ?_⟩
  have hd : dom s2 = dom s := funext fun k => by rw [dom, dom, hp]
  rw [dom_seqWatch, ← hd]
  exact forEach_forceOff (fun _ => supplyDoms_lt) hk

theorem supplyOv_answers (hr : regulated s = true) : Answers (.supplyOv i) s fun t =>
    t.pwr = { s.pwr with ovFlags := s.pwr.ovFlags ||| maskOf 8 i.val 1 } ∧ (Sparse.get? t.flt.lines 1).isSome = true ∧ t.regs = s.regs ∧ SameBytes s t := by
  refine ⟨_, congrArg Host.Outcome.next (if_neg (by simp [hr])), ?_⟩
  extract_lets b p
  have h : ∀ q : State, ∀ k d, (assertLine q k d).pwr = q.pwr ∧ (assertLine q k d).regs = q.regs := fun q k d =>
    ite_of (P := fun t : State => t.pwr = q.pwr ∧ t.regs = q.regs) (fun _ => ⟨rfl, rfl⟩) fun _ => ⟨rfl, rfl⟩
  exact ⟨(h ..).1, assertLine_isSome .., (h ..).2, sameBytes_of_seen ((assertLine_seen _ _ (by decide)).trans rfl)⟩

/-! ### A supply recovers -/

/-- A start that nothing bars begins at the first stage on the way up. -/
theorem domStart_on {k : Nat} {q : State} {r : DomReq} {save : Bool} (hk : k < 13) (hb : startBarred q k = false) (hr : r.target = .on) :
    ∃ m, (dom (domStart q k r save) k).move = some m ∧ m.req.target = .on ∧ m.stage = 1 := by
  unfold domStart
  rw [if_neg (by rw [hb, Bool.and_false]; exact Bool.false_ne_true)]
  extract_lets early s1 r1 s2 d
  rw [dom_setDom_self hk]
  exact ⟨_, rfl, ite_of (P := fun r : DomReq => r.target = .on) (fun _ => hr) fun _ => hr, if_pos hr⟩

theorem startBarred_of_seen {s t : State} (h : supplySeen t = supplySeen s) (k : Nat) : startBarred t k = startBarred s k := by
  simp only [supplySeen, Prod.mk.injEq] at h
  obtain ⟨-, -, -, -, -, hv, hr, hs, h7⟩ := h
  rw [startBarred, startBarred, hv, hr, hs, h7]

theorem supplySeen_of_seen {s t : State} (h : seen t = seen s) : supplySeen t = supplySeen s := (supply_kept (supplySeen s)).same rfl h

/-- A domain whose turn it is, held off by no supply, starts on its way to on. -/
theorem domRestore_on {k : Nat} {q : State} (hk : k < 13) (hm : (dom q k).move = none) (hoff : (dom q k).state = .off) (hreq : (dom q k).req = .on)
    (hb : startBarred q k = false) (hh : heldOff q k = false) : ∃ m, (dom (domRestore k q) k).move = some m ∧ m.req.target = .on ∧ m.stage = 1 := by
  unfold domRestore
  extract_lets d
  rw [if_pos (by simp [d, hm, hoff, hreq, hh])]
  refine domStart_on hk ?_ hreq
  exact ite_of (P := fun q => startBarred q k = false) (fun _ => (startBarred_of_seen (supplySeen_of_seen (wakeOther_seen q)) k).trans hb) fun _ => hb

/-- A domain that only the supply that recovers held off is held off no more. -/
theorem heldOff_of_recovered {k : Nat} {q : State} (hq : q.pwr.uvNow = s.pwr.uvNow &&& ~~~ maskOf 8 i.val 1)
    (h : ∀ j, j < 8 → j ≠ i.val → bitOf s.pwr.uvNow j = true → k ∉ supplyDoms j) : heldOff q k = false := by
  rw [heldOff, hq, List.any_eq_false]
  intro j hj hc
  rw [Bool.and_eq_true, bitOf, BitVec.getLsbD_and, Bool.and_eq_true, BitVec.getLsbD_not, Bool.and_eq_true, Bool.not_eq_true', List.contains_iff_mem] at hc
  obtain ⟨⟨hnow, hj8, hmask⟩, hmem⟩ := hc
  refine h j (List.mem_range.mp hj) ?_ hnow hmem
  rintro rfl
  have hm := bitOf_maskOf (n := 8) (lo := i.val) (len := 1) (i := i.val) i.isLt
  rw [bitOf, hmask] at hm
  simp at hm

theorem supplyRecovers_answers (hr : regulated s = true) (hn : bitOf s.pwr.uvNow i.val = true) : Answers (.supplyRecovers i) s fun t =>
    t.pwr.uvNow = s.pwr.uvNow &&& ~~~ maskOf 8 i.val 1 ∧ (t.pwr.uvNow = 0 → bitOf t.flt.active 0 = false) ∧
    ∀ k, k ∈ supplyDoms i.val → (∀ j, j < 8 → j ≠ i.val → bitOf s.pwr.uvNow j = true → k ∉ supplyDoms j) →
      (dom s k).move = none → (dom s k).state = .off → (dom s k).req = .on → startBarred s k = false →
      ∃ m, (dom t k).move = some m ∧ m.req.target = .on ∧ m.stage = 1 := by
  refine ⟨_, congrArg Host.Outcome.next (if_neg (by simp [hr, hn])), ?_⟩
  extract_lets p s1 s2
  have hp : s2.pwr = s1.pwr := ite_of (P := fun q : State => q.pwr = s1.pwr) (fun _ => rfl) fun _ => rfl
  have hb : ∀ k, startBarred s2 k = startBarred s k := fun k => by rw [startBarred, hp]; rfl
  have hd : dom s2 = dom s := funext fun k => by rw [dom, dom, hp]; rfl
  have ha : s2.pwr.uvNow = 0 → bitOf s2.flt.active 0 = false := fun h => by
    rw [hp] at h
    rw [show s2 = endLine s1 0 from if_pos h]
    exact bitZero_end _
  have hall : ∀ j q, supplySeen q = supplySeen s2 → supplySeen (domRestore j q) = supplySeen s2 := fun j q hq =>
    domRestore_kept (K := supply_kept _) (supply_moves _ j) hq
  have hs : supplySeen (forEach (supplyDoms i.val) domRestore s2) = supplySeen s2 := forEach_kept (P := fun q => supplySeen q = supplySeen s2) rfl hall
  have hnow := congrArg (fun x => x.2.1) hs
  have hact := congrArg (fun x => x.2.2.2.2.1) hs
  dsimp only at hnow hact
  refine ⟨by rw [hnow, hp]; rfl, fun h0 => by rw [hact]; exact ha (hnow ▸ h0), fun k hk hj hm hoff hreq hbar => ?_⟩
  refine forEach_settles (f := domRestore) (a := k) (Q := fun q => dom q k = dom s k ∧ supplySeen q = supplySeen s2)
    (R := fun q => ∃ m, (dom q k).move = some m ∧ m.req.target = .on ∧ m.stage = 1) (fun j q hj hq => ⟨(dom_domRestore_other hj).trans hq.1, hall j q hq.2⟩)
    (fun j q ⟨m, hm, hrest⟩ => ?_) (fun q hq => ?_) hk ⟨by rw [hd], rfl⟩
  · by_cases hjk : j = k
    · subst hjk
      exact ⟨m, by rw [domRestore, if_neg (by simp [hm])]; exact hm, hrest⟩
    · exact ⟨m, by rw [dom_domRestore_other hjk]; exact hm, hrest⟩
  · have hqnow : q.pwr.uvNow = s.pwr.uvNow &&& ~~~ maskOf 8 i.val 1 := (congrArg (fun x => x.2.1) hq.2).trans (by dsimp only; rw [hp]; rfl)
    refine domRestore_on (supplyDoms_lt hk) ?_ ?_ ?_ ?_ (heldOff_of_recovered hqnow hj)
    · rw [hq.1, hm]
    · rw [hq.1, hoff]
    · rw [hq.1, hreq]
    · rw [startBarred_of_seen hq.2, hb, hbar]

end

/-- Settles O29: each fed domain is taken off, or let back, at its own turn, which no other turn undoes. -/
theorem internalSupplies : Obligations.InternalSupplies := by
  refine ⟨fun _ _ hr hn => supplyUv_answers hr hn, fun _ _ hr => supplyOv_answers hr, fun _ _ hr hn => supplyRecovers_answers hr hn, fun s i hr => ?_⟩
  exact ⟨congrArg Host.Outcome.next (if_pos (by simp [hr])), congrArg Host.Outcome.next (if_pos (by simp [hr])), congrArg Host.Outcome.next (if_pos (by simp [hr]))⟩

end Sys2Proof.Machine
end

section
/-! PROOFS. The fault sources latch (R24, R43, R48, R488–R492, R495, R499). -/

namespace Sys2Proof.Machine

/-! ### A pass by index -/

theorem forUpTo_indexed {σ : Type} {P : Nat → σ → Prop} {f : Nat → σ → σ} {s : σ} {n : Nat} (h0 : P 0 s) (h : ∀ i q, i < n → P i q → P (i + 1) (f i q)) :
    P n (forUpTo n f s) := by
  induction n with
  | zero => exact h0
  | succ n ih => exact h n _ (Nat.lt_succ_self n) (ih fun i q hi => h i q (Nat.lt_succ_of_lt hi))

theorem forUpTo_id {σ : Type} {f : Nat → σ → σ} {s : σ} {n : Nat} (h : ∀ i, i < n → f i s = s) : forUpTo n f s = s :=
  forUpTo_indexed (P := fun _ q => q = s) rfl fun i q hi hq => by rw [hq, h i hi]

/-! ### One latch -/

theorem fltClass_cases (s : State) (k : Nat) : fltClass s k = 0 ∨ fltClass s k = 1 ∨ fltClass s k = 2 := by
  have h4 : ∀ off lo, fld s off lo 2 < 4 := fun off lo => bitsOf_lt ..
  have hc : ∀ n, n < 4 → (if n = 3 then 2 else n) = 0 ∨ (if n = 3 then 2 else n) = 1 ∨ (if n = 3 then 2 else n) = 2 := by
    intro n hn
    by_cases h : n = 3
    · exact .inr (.inr (if_pos h))
    · rw [if_neg h]
      omega
  unfold fltClass
  split
  · exact .inr (.inr rfl)
  · extract_lets c
    exact hc c (ite_of (P := (· < 4)) (fun _ => h4 ..) fun _ => h4 ..)

/-- The collector once source `k` is latched with detail `d`, taken at `time` if it is the first. -/
def latchedFlt (f : Faults) (k : Nat) (d : Word) (time : Stamp) : Faults :=
  { f with status := f.status ||| maskOf 32 k 1, details := Sparse.set f.details k d, lines := Sparse.del f.lines k, firstValid := true
           firstSource := if f.firstValid then f.firstSource else k, firstTime := if f.firstValid then f.firstTime else time
           ovf := f.ovf || f.firstValid, rootOverride := f.rootOverride || k = 3 }

/-- What a latch leaves before its class acts. -/
def latched (s : State) (k : Nat) (d : Word) (timed : Bool) : State :=
  takeFree { s with flt := latchedFlt s.flt k d (if timed then stamp s else 0) }

theorem fltLatch_eq (s : State) (k : Nat) (d : Word) (timed : Bool) : fltLatch s k d timed =
    match fltClass s k with
    | 0 => latched s k d timed
    | 1 => raise (latched s k d timed) 50 (pack 64 [(0, 5, k), (5, 1, b2n (!s.flt.firstValid)), (6, 1, b2n s.flt.faultState), (32, 32, d.toNat)])
    | _ => faultEnter (latched s k d timed) := by
  have h : latched s k d timed = takeFree (setFlt s { s.flt with
      status := s.flt.status ||| maskOf 32 k 1, details := Sparse.set s.flt.details k d, lines := Sparse.del s.flt.lines k
      firstValid := true, firstSource := if !s.flt.firstValid then k else s.flt.firstSource
      firstTime := if !s.flt.firstValid then (if timed then stamp s else 0) else s.flt.firstTime, ovf := s.flt.ovf || !!s.flt.firstValid
      rootOverride := s.flt.rootOverride || k = 3 }) := by
    unfold latched latchedFlt
    cases s.flt.firstValid <;> rfl
  rw [h]
  rfl

/-- What the collector has latched, but for ALIVE. -/
theorem latches_kept (v : Word × Sparse Word × Bool × Nat × Stamp × Bool × Bool) :
    Kept fun t => (t.flt.status, t.flt.details, t.flt.firstValid, t.flt.firstSource, t.flt.firstTime, t.flt.ovf, t.flt.clkSafe) = v :=
  view_kept (fun x => (x.latches.status, x.latches.details, x.latches.firstValid, x.latches.firstSource, x.latches.firstTime, x.latches.ovf, x.latches.clkSafe)) v
    fun _ _ _ _ _ => rfl

/-- The fault state, with SAFE_N and ALIVE still. -/
theorem safe_kept : Kept fun t => t.flt.faultState = true ∧ t.flt.safeN = true ∧ t.flt.aliveRun = false where
  same h e := by
    simp only [seen, Seen.mk.injEq, Latches.mk.injEq] at e
    obtain ⟨-, -, -, -, hf, hn, ⟨-, -, -, -, -, -, hr, -⟩, -⟩ := e
    rw [hf, hn, hr]
    exact h
  hostWrite h := h
  faultEntered _ := ⟨rfl, rfl, rfl⟩

section
variable {s : State} {k : Nat} {d : Word} {timed : Bool}

/-- Whatever its class, a latch leaves the collector with the source latched. -/
theorem fltLatch_latches : let f := latchedFlt s.flt k d (if timed then stamp s else 0)
    let t := fltLatch s k d timed
    (t.flt.status, t.flt.details, t.flt.firstValid, t.flt.firstSource, t.flt.firstTime, t.flt.ovf, t.flt.clkSafe) =
      (f.status, f.details, f.firstValid, f.firstSource, f.firstTime, f.ovf, f.clkSafe) := by
  dsimp only
  rw [fltLatch_eq]
  split
  · rfl
  · exact raise_kept (K := latches_kept _) rfl
  · exact faultEnter_kept (K := latches_kept _) rfl

/-- A latch of class SAFE enters the fault state. -/
theorem fltLatch_enter (h : fltClass s k = 2) : fltLatch s k d timed = faultEnter (latched s k d timed) := by
  rw [fltLatch_eq, h]
  rfl

theorem fltLatch_safe (h : fltClass s k = 2) : (fltLatch s k d timed).flt.faultState = true ∧
    (s.flt.faultState = false → (fltLatch s k d timed).flt.safeN = true ∧ (fltLatch s k d timed).flt.aliveRun = false) := by
  rw [fltLatch_enter h]
  cases hf : s.flt.faultState with
  | true =>
    rw [faultEnter_same (s := latched s k d timed) hf]
    exact ⟨hf, fun h => nomatch h⟩
  | false =>
    obtain ⟨h1, h2⟩ := faultEnter_entered (K := safe_kept) (s := latched s k d timed) hf ⟨rfl, rfl, rfl⟩
    exact ⟨h1, fun _ => h2⟩

/-- A latch of class RECORD does no more. -/
theorem fltLatch_record (h : fltClass s k = 0) : fltLatch s k d timed = latched s k d timed := by
  rw [fltLatch_eq, h]
  rfl

/-- A latch of class EVENT raises EV50. -/
theorem fltLatch_event (h : fltClass s k = 1) : fltLatch s k d timed =
    raise (latched s k d timed) 50 (pack 64 [(0, 5, k), (5, 1, b2n (!s.flt.firstValid)), (6, 1, b2n s.flt.faultState), (32, 32, d.toNat)]) := by
  rw [fltLatch_eq, h]
  rfl

theorem fltLatch_mild (h : fltClass s k ≠ 2) : OnlyEvents (latched s k d timed) (fltLatch s k d timed) := by
  rcases fltClass_cases s k with h0 | h1 | h2
  · rw [fltLatch_record h0]
    exact .refl _
  · rw [fltLatch_event h1]
    exact raise_onlyEvents ..
  · exact absurd h2 h

end

/-- What FaultLatches says of a latch. -/
theorem fltLatch_spec (s : State) (k : Nat) (d : Word) (timed : Bool) : let t := fltLatch s k d timed
    t.flt.status = s.flt.status ||| maskOf 32 k 1 ∧
    Sparse.get? t.flt.details k = some d ∧ t.flt.firstValid = true ∧ t.flt.firstSource = (if s.flt.firstValid then s.flt.firstSource else k) ∧
    t.flt.ovf = (s.flt.ovf || s.flt.firstValid) ∧
    (fltClass s k = 2 → t.flt.faultState = true ∧ (s.flt.faultState = false → t.flt.safeN = true ∧ t.flt.aliveRun = false)) ∧
    (fltClass s k ≠ 2 → t.flt.faultState = s.flt.faultState ∧ t.flt.safeN = s.flt.safeN ∧ t.seq = s.seq ∧ t.rc = s.rc ∧ t.chg = s.chg) ∧
    (fltClass s k = 0 → SameBytes s t ∧ t.evr = s.evr ∧ t.held = s.held) := by
  have hl := fltLatch_latches (s := s) (k := k) (d := d) (timed := timed)
  simp only [Prod.mk.injEq] at hl
  obtain ⟨hstatus, hdetails, hvalid, hsource, -, hovf, -⟩ := hl
  refine ⟨hstatus, ?_, hvalid, hsource, hovf, fltLatch_safe, fun h => ?_, fun h => ?_⟩
  · rw [hdetails]
    exact Sparse.get?_set_self ..
  · rw [fltLatch_mild (d := d) (timed := timed) h]
    exact ⟨rfl, rfl, rfl, rfl, rfl⟩
  · rw [fltLatch_record h]
    exact ⟨.of_mem rfl rfl rfl, rfl, rfl⟩

theorem fltLatch_firstTime {s : State} (k : Nat) (d : Word) (timed : Bool) (h : s.flt.firstValid = false) :
    (fltLatch s k d timed).flt.firstTime = if timed then stamp s else 0 := by
  have hl := congrArg (fun x => x.2.2.2.2.1) (fltLatch_latches (s := s) (k := k) (d := d) (timed := timed))
  dsimp only at hl
  rw [hl, latchedFlt, h]
  rfl

theorem fltLatch_eventRaised {s : State} {k : Nat} (d : Word) (h : fltClass s k = 1) : let t := fltLatch s k d true
    EventRaised { s with flt := t.flt } t 50 (pack 64 [(0, 5, k), (5, 1, b2n (!s.flt.firstValid)), (6, 1, b2n s.flt.faultState), (32, 32, d.toNat)]) := by
  dsimp only
  have hf : (fltLatch s k d true).flt = (latched s k d true).flt := by
    rw [fltLatch_mild (d := d) (timed := true) (by rw [h]; decide)]
  rw [hf, fltLatch_event h]
  exact raise_eventRaised (latched s k d true) ..

/-! ### The rows -/

theorem latchLower_same {s : State} {k : Nat} (h : s.flt.firstValid = true ∨ ∀ j, j < k → fltPending s j = none) : latchLower k s = s := by
  unfold latchLower
  rcases h with h | h
  · exact if_pos h
  · exact ite_of (P := (· = s)) (fun _ => rfl) fun _ => forUpTo_id fun j hj => by rw [h j hj]

/-- A line that is asserted and reads so is pending until its source latches. -/
theorem fltPending_of_line {s : State} {k : Nat} {d : Word} (hb : bitOf s.flt.status k = false) (hl : Sparse.get? s.flt.lines k = some d)
    (hr : lineReads s k d = true) : fltPending s k = some d := by
  simp [fltPending, hb, hl, hr, Sparse.getD]

theorem fltPending_of_latched {s : State} {k : Nat} (hb : bitOf s.flt.status k = true) : fltPending s k = none := by simp [fltPending, hb]

theorem fltPending_of_unread {s : State} {k : Nat} {d : Word} (hl : Sparse.get? s.flt.lines k = some d) (hr : lineReads s k d = false) :
    fltPending s k = none := by
  simp [fltPending, hl, hr, Sparse.getD]

/-- Source `j` has latched first. -/
def firstIs (j : Nat) (t : State) : Prop := t.flt.firstValid = true ∧ t.flt.firstSource = j ∧ bitOf t.flt.status j = true

theorem firstIs_fltLatch_self {s : State} {j : Nat} (hj : j < 32) (h : s.flt.firstValid = false) (d : Word) (timed : Bool) :
    firstIs j (fltLatch s j d timed) := by
  obtain ⟨hs, -, hv, hf, -⟩ := fltLatch_spec s j d timed
  refine ⟨hv, by rw [hf, h]; rfl, ?_⟩
  rw [hs, bitOf, BitVec.getLsbD_or]
  have hm := bitOf_maskOf (n := 32) (lo := j) (len := 1) (i := j) hj
  rw [bitOf] at hm
  simp [hm]

theorem firstIs_fltLatch {s : State} {j : Nat} (h : firstIs j s) (k : Nat) (d : Word) (timed : Bool) : firstIs j (fltLatch s k d timed) := by
  obtain ⟨hv, hf, hb⟩ := h
  obtain ⟨hs', -, hv', hf', -⟩ := fltLatch_spec s k d timed
  refine ⟨hv', by rw [hf', hv, if_pos rfl, hf], ?_⟩
  rw [bitOf] at hb
  rw [hs', bitOf, BitVec.getLsbD_or, hb]
  rfl

theorem firstIs_latchLower {s : State} {j k : Nat} {d : Word} (hj : j < 32) (hv : s.flt.firstValid = false) (hjk : j < k)
    (ha : ∀ i, i < j → fltPending s i = none) (hd : fltPending s j = some d) : firstIs j (latchLower k s) := by
  unfold latchLower
  rw [if_neg (by rw [hv]; exact Bool.false_ne_true)]
  have h := forUpTo_indexed (P := fun i q => (i ≤ j → q = s) ∧ (j < i → firstIs j q))
    (f := fun j q => match fltPending q j with | some d => fltLatch q j d true | none => q) (s := s) (n := k) ⟨fun _ => rfl, fun h => absurd h (Nat.not_lt_zero j)⟩
    (fun i q hi hq => ?_)
  · exact h.2 hjk
  · rcases Nat.lt_trichotomy i j with hij | hij | hij
    · rw [hq.1 (Nat.le_of_lt hij), ha i hij]
      exact ⟨fun _ => rfl, fun h => absurd h (by omega)⟩
    · subst hij
      rw [hq.1 (Nat.le_refl i), hd]
      exact ⟨fun h => absurd h (by omega), fun _ => firstIs_fltLatch_self hj hv d true⟩
    · refine ⟨fun h => absurd h (by omega), fun _ => ?_⟩
      split
      · exact firstIs_fltLatch (hq.2 hij) ..
      · exact hq.2 hij

section
variable {s : State} {k : Fin 32} {x : Word}

/-- Where no lower source is pending, FAULT_LATCH acts on its own source. -/
theorem exec_faultLatch (ha : s.flt.firstValid = true ∨ ∀ j, j < k.val → fltPending s j = none) (hc : s.flt.clkSafe = true) :
    exec (.faultLatch k x) s = .next (match fltPending s k.val with
      | some d => fltLatch s k.val d true
      | none =>
        if !lineReads s k.val x || !(outsideSources.contains k.val || (k.val = 6 && s.pwr.startStep = 6)) then s
        else if k.val = 27 && (bitsOf x 0 2 = 0 || (bitOf x 1 && !s.flt.safeN)) then s
        else if k.val = 16 && sbitsOf x 16 16 < 10 * ((clampN 125 165 (fld s 0x703C 0 8) : Nat) : Int) then s
        else if bitOf s.flt.status k.val then assertLine s k.val (x &&& outsideMask k.val)
        else fltLatch s k.val (x &&& outsideMask k.val) true) := by
  show execFaultLatch k x s = _
  unfold execFaultLatch
  rw [if_pos hc, latchLower_same ha]
  dsimp only
  rw [hc]
  rfl

/-- Whatever row FAULT_LATCH takes, a source that latched first stays so. -/
theorem firstIs_faultLatch {j : Nat} (hj : j < 32) (hc : s.flt.clkSafe = true) (hv : s.flt.firstValid = false) (hjk : j < k.val)
    (ha : ∀ i, i < j → fltPending s i = none) {d : Word} (hd : fltPending s j = some d) : Answers (.faultLatch k x) s (firstIs j) := by
  refine ⟨_, rfl, ?_⟩
  rw [if_pos hc]
  have h := firstIs_latchLower hj hv hjk ha hd
  refine ite_of (P := firstIs j) (fun _ => h) fun _ => ?_
  split
  · exact firstIs_fltLatch h ..
  · refine ite_of (P := firstIs j) (fun _ => h) fun _ => ite_of (P := firstIs j) (fun _ => h) fun _ => ite_of (P := firstIs j) (fun _ => h) fun _ =>
      ite_of (P := firstIs j) (fun _ => ?_) fun _ => firstIs_fltLatch h ..
    exact ite_of (P := firstIs j) (fun _ => h) fun _ => h

/-- A source that is latched, or whose line reads inactive, does not latch. -/
theorem exec_faultLatch_barred (ha : s.flt.firstValid = true ∨ ∀ j, j < k.val → fltPending s j = none) (hc : s.flt.clkSafe = true)
    (hp : fltPending s k.val = none) (h : lineReads s k.val x = false ∨ (k.val ∉ outsideSources ∧ k.val ≠ 6)) : exec (.faultLatch k x) s = .next s := by
  rw [exec_faultLatch ha hc, hp]
  refine congrArg Host.Outcome.next (if_pos ?_)
  rcases h with h | ⟨h, h6⟩
  · rw [h]
    rfl
  · simp [h, h6]

theorem faultLatch_again (ha : s.flt.firstValid = true ∨ ∀ j, j < k.val → fltPending s j = none) (hc : s.flt.clkSafe = true)
    (hb : bitOf s.flt.status k.val = true) : Answers (.faultLatch k x) s fun t => t = { s with flt := { s.flt with lines := t.flt.lines } } ∧
      ∀ j, j ≠ k.val → Sparse.get? t.flt.lines j = Sparse.get? s.flt.lines j := by
  let P := fun t : State => t = { s with flt := { s.flt with lines := t.flt.lines } } ∧ ∀ j, j ≠ k.val → Sparse.get? t.flt.lines j = Sparse.get? s.flt.lines j
  have h0 : P s := ⟨rfl, fun _ _ => rfl⟩
  have h1 : ∀ y, P (assertLine s k.val y) := fun y =>
    ite_of (P := P) (fun _ => h0) fun _ => ⟨rfl, fun j hj => Sparse.get?_set_other _ _ hj⟩
  refine ⟨_, exec_faultLatch ha hc, ?_⟩
  rw [fltPending_of_latched hb]
  refine ite_of (P := P) (fun _ => h0) fun _ => ite_of (P := P) (fun _ => h0) fun _ => ite_of (P := P) (fun _ => h0) fun _ => ?_
  rw [hb]
  exact h1 _

/-- The line that an outside source asserts while it is latched is held. -/
theorem faultLatch_holds (ha : s.flt.firstValid = true ∨ ∀ j, j < k.val → fltPending s j = none) (hc : s.flt.clkSafe = true)
    (hb : bitOf s.flt.status k.val = true) (hk : k.val ∈ [2, 5, 21, 28]) (hr : lineReads s k.val x = true) (hl : Sparse.get? s.flt.lines k.val = none) :
    Answers (.faultLatch k x) s fun t => Sparse.get? t.flt.lines k.val = some (x &&& outsideMask k.val) := by
  have ho : outsideSources.contains k.val = true := by
    simp only [List.mem_cons, List.not_mem_nil, or_false] at hk
    rcases hk with h | h | h | h <;> rw [h] <;> rfl
  have h27 : k.val ≠ 27 ∧ k.val ≠ 16 := by
    simp only [List.mem_cons, List.not_mem_nil, or_false] at hk
    omega
  refine ⟨_, exec_faultLatch ha hc, ?_⟩
  rw [fltPending_of_latched hb]
  dsimp only
  rw [if_neg (by rw [hr, ho]; simp), if_neg (by simp [h27.1]), if_neg (by simp [h27.2]), if_pos hb, assertLine, if_neg (by rw [hl]; simp)]
  exact Sparse.get?_set_self ..

end

theorem clkSafeLoss_latches {s : State} (hc : s.flt.clkSafe = true) (hb : bitOf s.flt.status 4 = false) : ∃ q : State,
    q = { s with flt := { s.flt with clkSafe := false, aliveRun := false } } ∧ exec (.clkSafeLoss false) s = .next (fltLatch q 4 0 false) := by
  refine ⟨_, rfl, ?_⟩
  show execClkSafeLoss false s = _
  simp [execClkSafeLoss, hc, hb, setFlt]

/-- ALIVE stopped stays stopped. -/
theorem alive_kept : Kept fun t => t.flt.aliveRun = false where
  same h e := (congrArg (fun x : Seen => x.latches.aliveRun) e).trans h
  hostWrite h := h
  faultEntered _ := rfl

theorem fltLatch_aliveRun {s : State} {k : Nat} {d : Word} {timed : Bool} (h : s.flt.aliveRun = false) : (fltLatch s k d timed).flt.aliveRun = false := by
  rw [fltLatch_eq]
  split
  · exact h
  · exact raise_kept (K := alive_kept) (s := latched s k d timed) h
  · exact faultEnter_kept (K := alive_kept) (s := latched s k d timed) h

/-- Settles O32: a latch by its equation for each class, and of the asserted lines the lowest first. -/
theorem faultLatches : Obligations.FaultLatches := by
  refine ⟨fun s k j d x hc hv ha hjk hd => ?_, fun s k d x ha hc hb hl hr => ?_, fun s k x ha hc hb => ⟨faultLatch_again ha hc hb,
    exec_faultLatch_barred ha hc (fltPending_of_latched hb), faultLatch_holds ha hc hb⟩, fun s k d x ha hc hl hr hx =>
    exec_faultLatch_barred ha hc (fltPending_of_unread hl hr) (.inl hx), fun s hc hb => ?_, fun s hc => ?_, fun s hr hc => ?_⟩
  · exact firstIs_faultLatch j.isLt hc hv hjk (ha.resolve_left (by rw [hv]; exact Bool.false_ne_true)) hd
  · refine ⟨fltLatch s k.val d true, ?_, fltLatch_spec .., fltLatch_eventRaised d, fltLatch_firstTime k.val d true⟩
    rw [exec_faultLatch ha hc, fltPending_of_line hb hl hr]
  · obtain ⟨q, hq, he⟩ := clkSafeLoss_latches hc hb
    have hclass : fltClass q 4 = fltClass s 4 := by rw [hq]; rfl
    have hs := fltLatch_spec q 4 0 false
    have hclk := congrArg (fun x => x.2.2.2.2.2.2) (fltLatch_latches (s := q) (k := 4) (d := 0) (timed := false))
    have htime := fltLatch_firstTime (s := q) 4 0 false
    have halive := fltLatch_aliveRun (s := q) (k := 4) (d := 0) (timed := false) (by rw [hq])
    refine ⟨_, he, ?_⟩
    dsimp only at hs hclk
    rw [hclass] at hs
    subst hq
    exact ⟨hclk, halive, hs, htime⟩
  · refine ⟨assertLine s 4 1, congrArg Host.Outcome.next (if_pos hc), assertLine_isSome .., ?_, assertLine_status .., assertLine_sameBytes s 4 1⟩
    exact ite_of (P := fun t : State => t.flt.clkSafe = true) (fun _ => hc) fun _ => hc
  · show execAliveEdge s = _
    simp [execAliveEdge, hr, hc, setFlt]

end Sys2Proof.Machine
end

section
/-! PROOFS. The link trains, comes up and is configured (R51, R54, R56, R430, R444, R636, R643). -/

namespace Sys2Proof.Machine

/-! ### What the operations of host memory leave alone -/

/-- The PCIe function but for what waits to be sent, its last read, MP SRAM and the flash. -/
abbrev linkSeen (t : State) : Pcie × Word × List Host.Cell × List Host.Cell := ({ t.pcie with posted := [], pba := 0 }, t.readData, t.mpSram, t.flash)

theorem linkSeen_kept (v) : Kept fun t => linkSeen t = v := view_kept (fun x => (x.pcie, x.readData, x.mpSram, x.flash)) v fun _ _ _ _ _ => rfl

theorem tableAgain_linkSeen (s : State) : linkSeen (tableAgain s) = linkSeen s := tableAgain_kept (K := linkSeen_kept _) rfl

/-! ### PERST_N and the reference clock -/

theorem startTraining_frame (s : State) : startTraining s = { s with pcie := { s.pcie with
    training := s.pcie.training || (domOn s 5 && !s.pcie.perst && s.pcie.refclk && !s.pcie.linkUp) } } := by
  unfold startTraining
  split
  next h => rw [h, Bool.or_true]
  next h => rw [Bool.eq_false_iff.mpr h, Bool.or_false]

/-- A start on the way to on changes the domain's record alone. -/
theorem domStart_on_frame {s : State} {k : Nat} {r : DomReq} {save : Bool} (hb : startBarred s k = false) (hr : r.target = .on) :
    ∃ d, domStart s k r save = setDom s k d := by
  unfold domStart
  rw [if_neg (by rw [hb, Bool.and_false]; exact Bool.false_ne_true)]
  extract_lets early s1 r1 s2 d
  have h2 : s2 = s := (if_pos hr).trans (if_neg (by simp [early, hr]))
  exact ⟨_, congrArg (fun q => setDom q k _) h2⟩

/-- A domain that is off, at rest and not barred is asked for on: its record alone changes, and it starts on its way. -/
theorem domAsk_on {s : State} {k : Nat} (hk : k < 13) {byMp byHost : Bool} (hr : domRefusal s k .on byMp = none) (hm : (dom s k).move = none)
    (hoff : (dom s k).state = .off) (hb : startBarred s k = false) : ∃ d e, domAsk s k .on byMp byHost = setDom (setDom s k d) k e ∧
      ∃ m, (dom (domAsk s k .on byMp byHost) k).move = some m ∧ m.req.target = .on ∧ m.stage = 1 := by
  have hask : domAsk s k .on byMp byHost = domStart (setDom s k { dom s k with req := .on, byMp := byMp }) k
      { target := .on, byMp := byMp, ticket := none, byHost := byHost } false := by
    simp [domAsk, domRequest, hr, hm, hoff]
  obtain ⟨e, he⟩ := domStart_on_frame (s := setDom s k { dom s k with req := .on, byMp := byMp }) (k := k)
    (r := { target := .on, byMp := byMp, ticket := none, byHost := byHost }) (save := false) hb rfl
  refine ⟨_, e, hask.trans he, ?_⟩
  rw [hask]
  exact domStart_on hk hb rfl

theorem dom_domAsk_other {s : State} {j k : Nat} (h : j ≠ k) {target : DomState} {byMp byHost : Bool} : dom (domAsk s j target byMp byHost) k = dom s k :=
  domAsk_kept (K := domAt_kept k _) (domAt_moves h _) rfl

theorem mpRising_of_dom {s t : State} (h : dom t 3 = dom s 3) : mpRising t = mpRising s := by rw [mpRising, mpRising, h]

theorem perstRelease_on {s : State} (h : (dom s 5).state = .on) : Answers .perstNRelease s fun t =>
    t.pcie.perst = false ∧ t.pcie.linkUp = s.pcie.linkUp ∧ SameBytes s t ∧
    t.pcie.training = (s.pcie.training || (domOn s 5 && s.pcie.refclk && !s.pcie.linkUp)) := by
  refine ⟨startTraining { s with pcie := { s.pcie with perst := false } }, congrArg Host.Outcome.next (if_pos h), ?_⟩
  rw [startTraining_frame]
  exact ⟨rfl, rfl, .of_mem rfl rfl rfl, by simp only [Bool.not_false, Bool.and_true]; rfl⟩

theorem perstRelease_off {s : State} (hoff : (dom s 5).state = .off) (hm : (dom s 5).move = none) (hr : mpRising s = true) (hb : startBarred s 5 = false) :
    Answers .perstNRelease s fun t => t.pcie.perst = false ∧ SameBytes s t ∧ ∃ m, (dom t 5).move = some m ∧ m.req.target = .on ∧ m.stage = 1 := by
  let s1 : State := { s with pcie := { s.pcie with perst := false } }
  obtain ⟨d, e, hask, hmove⟩ := domAsk_on (s := s1) (k := 5) (byMp := false) (byHost := true) (by decide) rfl hm hoff hb
  have hrise : mpRising (domAsk s1 5 .on false true) = true := (mpRising_of_dom (dom_domAsk_other (by decide))).trans hr
  refine ⟨domAsk s1 5 .on false true, congrArg Host.Outcome.next ((if_neg (by rw [show dom s1 5 = dom s 5 from rfl, hoff]; decide)).trans (if_pos hrise)), ?_, ?_, hmove⟩
  · rw [hask]
    rfl
  · rw [hask]
    exact .of_mem rfl rfl rfl

theorem refclkReturn_answers (s : State) : Answers .refclkReturn s fun t => t.pcie.refclk = true ∧ t.pcie.linkUp = s.pcie.linkUp ∧ SameBytes s t ∧
    t.pcie.training = (s.pcie.training || (domOn s 5 && !s.pcie.perst && !s.pcie.linkUp)) := by
  refine ⟨_, rfl, ?_⟩
  rw [startTraining_frame]
  exact ⟨rfl, rfl, .of_mem rfl rfl rfl, by simp only [Bool.and_true]; rfl⟩

theorem linkTrained_answers {s : State} (speed width : Nat) (ht : s.pcie.training = true) (hd : domOn s 5 = true) :
    Answers (.linkTrainingComplete speed width) s fun t => t.pcie.linkUp = true ∧ t.pcie.training = false ∧ t.pcie.speed = speed ∧
      t.pcie.width = width ∧ t.pcie.perst = s.pcie.perst ∧ t.mpSram = s.mpSram ∧ t.flash = s.flash := by
  refine ⟨_, congrArg Host.Outcome.next (if_pos (by rw [ht, hd]; rfl)), ?_⟩
  have h := tableAgain_linkSeen { s with pcie := { s.pcie with linkUp := true, training := false, speed := speed, width := width } }
  exact ⟨congrArg (fun x => x.1.linkUp) h, congrArg (fun x => x.1.training) h, congrArg (fun x => x.1.speed) h, congrArg (fun x => x.1.width) h,
    congrArg (fun x => x.1.perst) h, congrArg (fun x => x.2.2.1) h, congrArg (fun x => x.2.2.2) h⟩

/-! ### Configuration accesses -/

/-- What a configuration write leaves of the function: what it does not reach, and its BARs. -/
theorem configPut_frame (s : State) (off : Nat) (w : Word) : (configPut s off w).pcie.msix = s.pcie.msix ∧ (configPut s off w).pcie.linkUp = s.pcie.linkUp ∧
    (configPut s off w).pcie.perst = s.pcie.perst ∧ (configPut s off w).pcie.retry = s.pcie.retry := by
  unfold configPut
  dsimp only
  split <;> exact ⟨rfl, rfl, rfl, rfl⟩

theorem configWrite_frame (s : State) (off : Nat) (be : BitVec 4) (w : Word) : (configWrite s off be w).pcie.msix = s.pcie.msix ∧
    (configWrite s off be w).pcie.linkUp = s.pcie.linkUp ∧ (configWrite s off be w).pcie.perst = s.pcie.perst ∧
    (configWrite s off be w).pcie.retry = s.pcie.retry :=
  ite_of (P := fun t : State => t.pcie.msix = s.pcie.msix ∧ t.pcie.linkUp = s.pcie.linkUp ∧ t.pcie.perst = s.pcie.perst ∧ t.pcie.retry = s.pcie.retry)
    (fun _ => ⟨rfl, rfl, rfl, rfl⟩) fun _ => configPut_frame ..

/-- With all bytes enabled it puts the doubleword. -/
theorem configWrite_all (s : State) (off : Nat) (w : Word) :
    configWrite s off 15 w = { configPut s off w with readData := configRead (configPut s off w) off } := by
  have h : mergeMask (configRead s off) w (beMask 15) = w := by
    have hb : beMask 15 = BitVec.allOnes 32 := by decide
    rw [hb, mergeMask, BitVec.not_allOnes, BitVec.and_zero, BitVec.and_allOnes, BitVec.zero_or]
  unfold configWrite
  rw [if_neg (by decide), h]

theorem barLow (b : BitVec 64) (w : Word) : ((b &&& 0xFFFFFFFF00000000) ||| w.setWidth 64).setWidth 32 = w := by
  have h : (0xFFFFFFFF00000000 : BitVec 64).setWidth 32 = 0#32 := by decide
  rw [BitVec.setWidth_or, BitVec.setWidth_and, h, BitVec.and_zero, BitVec.zero_or, BitVec.setWidth_setWidth_of_le _ (by decide), BitVec.setWidth_eq]

/-- What LinkComesUp says of a configuration write. -/
theorem configWrite_spec (q : State) (off : BitVec 12) (be : BitVec 4) (w : Word) : let t := configWrite q (off.toNat / 4 * 4) be w
    (off = 0x000 → t.readData = 0x9250F1B0) ∧ (be = 0 → t.pcie.config = q.pcie.config ∧ t.pcie.busMaster = q.pcie.busMaster ∧ t.pcie.d3hot = q.pcie.d3hot) ∧
    (be = 15 → off = 0x004 → t.pcie.busMaster = bitOf w 2 ∧ t.pcie.config.command = w.setWidth 16 &&& 0x0542) ∧
    (be = 15 → off = 0x010 → t.pcie.config.bar0.setWidth 32 = w &&& 0xFFFF0000 ∧ t.readData = (w &&& 0xFFFF0000) ||| 4) ∧
    (be = 15 → off = 0x018 → t.pcie.config.bar2.setWidth 32 = w &&& 0xFFFFF000 ∧ t.readData = (w &&& 0xFFFFF000) ||| 4) ∧
    (be = 15 → off = 0x044 → bitsOf w 0 2 = 3 → t.pcie.d3hot = true) ∧ (be = 15 → off = 0x044 → bitsOf w 0 2 = 0 → t.pcie.d3hot = false) ∧
    (be = 15 → off = 0x0A0 → t.pcie.msixEnable = bitOf w 31 ∧ t.pcie.msixFuncMask = bitOf w 30) := by
  refine ⟨?_, ?_, ?_, ?_, ?_, ?_, ?_, ?_⟩
  · rintro rfl
    rfl
  · rintro rfl
    exact ⟨rfl, rfl, rfl⟩
  all_goals rintro rfl rfl
  · rw [configWrite_all]
    exact ⟨rfl, rfl⟩
  · rw [configWrite_all]
    exact ⟨barLow .., congrArg (· ||| 4) (barLow ..)⟩
  · rw [configWrite_all]
    exact ⟨barLow .., congrArg (· ||| 4) (barLow ..)⟩
  · intro h
    rw [configWrite_all]
    exact if_pos h
  · intro h
    rw [configWrite_all]
    exact (if_neg (by rw [h]; decide)).trans (if_pos h)
  · rw [configWrite_all]
    exact ⟨rfl, rfl⟩

theorem configRequest_up {s : State} {act : State → State} (hd : domOn s 5 = true) (hl : s.pcie.linkUp = true) (ho : s.glb.otpLoaded = true) :
    configRequest s act = act { s with pcie := { s.pcie with retry := false } } := by
  simp [configRequest, hd, hl, ho]

theorem configAccess_answers {s : State} (off : BitVec 12) (be : BitVec 4) (w : Word) (hd : domOn s 5 = true) (hl : s.pcie.linkUp = true)
    (ho : s.glb.otpLoaded = true) : Answers (.pcieConfigWrite off be w) s fun t =>
      t.pcie.retry = false ∧ t.pcie.msix = s.pcie.msix ∧ t.pcie.linkUp = true ∧ t.pcie.perst = s.pcie.perst ∧
      (off = 0x000 → t.readData = 0x9250F1B0) ∧ (be = 0 → t.pcie.config = s.pcie.config ∧ t.pcie.busMaster = s.pcie.busMaster ∧ t.pcie.d3hot = s.pcie.d3hot) ∧
      (be = 15 → off = 0x004 → t.pcie.busMaster = bitOf w 2 ∧ t.pcie.config.command = w.setWidth 16 &&& 0x0542) ∧
      (be = 15 → off = 0x010 → t.pcie.config.bar0.setWidth 32 = w &&& 0xFFFF0000 ∧ t.readData = (w &&& 0xFFFF0000) ||| 4) ∧
      (be = 15 → off = 0x018 → t.pcie.config.bar2.setWidth 32 = w &&& 0xFFFFF000 ∧ t.readData = (w &&& 0xFFFFF000) ||| 4) ∧
      (be = 15 → off = 0x044 → bitsOf w 0 2 = 3 → t.pcie.d3hot = true) ∧ (be = 15 → off = 0x044 → bitsOf w 0 2 = 0 → t.pcie.d3hot = false) ∧
      (be = 15 → off = 0x0A0 → t.pcie.msixEnable = bitOf w 31 ∧ t.pcie.msixFuncMask = bitOf w 30) := by
  let q : State := { s with pcie := { s.pcie with retry := false } }
  let u := configWrite q (off.toNat / 4 * 4) be w
  refine ⟨tableAgain u, congrArg Host.Outcome.next (configRequest_up hd hl ho), ?_⟩
  have h := tableAgain_linkSeen u
  have hp := fun {α : Type} (f : Pcie → α) => congrArg (fun x => f x.1) h
  have hr : (tableAgain u).readData = u.readData := congrArg (fun x => x.2.1) h
  obtain ⟨hmsix, hlink, hperst, hretry⟩ := configWrite_frame q (off.toNat / 4 * 4) be w
  refine ⟨(hp Pcie.retry).trans hretry, (hp Pcie.msix).trans hmsix, (hp Pcie.linkUp).trans (hlink.trans hl), (hp Pcie.perst).trans hperst, ?_⟩
  have hc : (tableAgain u).pcie.config = u.pcie.config := hp Pcie.config
  have hb : (tableAgain u).pcie.busMaster = u.pcie.busMaster := hp Pcie.busMaster
  have h3 : (tableAgain u).pcie.d3hot = u.pcie.d3hot := hp Pcie.d3hot
  have he : (tableAgain u).pcie.msixEnable = u.pcie.msixEnable := hp Pcie.msixEnable
  have hm : (tableAgain u).pcie.msixFuncMask = u.pcie.msixFuncMask := hp Pcie.msixFuncMask
  rw [hr, hc, hb, h3, he, hm]
  exact configWrite_spec q off be w

/-- Settles O16: PERST_N and the clock change the link alone, and a configuration write puts its doubleword. -/
theorem linkComesUp : Obligations.LinkComesUp := by
  refine ⟨fun _ => perstRelease_on, fun _ => perstRelease_off, refclkReturn_answers, fun s speed width => linkTrained_answers speed width,
    fun s off be w => configAccess_answers off be w, fun s off be w => ⟨fun h => ?_, fun hd hl ho => ?_⟩⟩
  · exact congrArg Host.Outcome.next (if_pos (by rcases h with h | h <;> simp [h]))
  · exact congrArg Host.Outcome.next ((if_neg (by rw [hd, hl]; decide)).trans (if_pos (by rw [ho]; rfl)))

end Sys2Proof.Machine
end

section
/-! PROOFS. A state that the statement on the Flock bus does not hold of (R395, R397). -/

namespace Sys2Proof.Machine

/-- A bellwether whose up waits for a ticket of queue 41, which does not exist: what completes it posts to that queue, and so raises event 41
over the event of the arming that timed out. -/
def strayArming : State :=
  wr (wr { State.reset with
    pwr := { Power.reset with doms := Vector.replicate 13 Domain.always, pllRuns := true, startStep := 0 }
    pcie := { Pcie.reset with perst := false, linkUp := true, busMaster := true }
    evr := { Evr.reset with routing := true }
    seq := { Seq.reset with ups := [.host 0 41 0 0 false] }
    flk := { Flock.reset with job := .arming, armAt := none }
    qe := { QueueEngine.reset with inflight := [{ id := 0, sq := 41, opcode := 0, desc := 0, dispatched := true }] } } 0x5040 0x40 0xFF) 0x5000 0 0x300

/-- The last occurrence of an event in what a row answers. -/
def lastAfter (o : Host.Outcome State Fault Refusal) (k : Nat) : DWord :=
  match o with
  | .next t => (Sparse.getD t.evr.last k { detail := 0, count := 0 }).detail
  | _ => 0

/-- The completion is the last occurrence of event 41. -/
theorem strayArming_last : lastAfter (exec (.flockArmTimeout 0) strayArming) 41 = 0x110000 := by decide

/-- Refutes O42: the completion of a ticket of a queue that does not exist raises event 41 over EV41. -/
theorem not_flockBus : ¬ Obligations.FlockBus := by
  intro h
  obtain ⟨t, ht, -, -, -, -, -, -, -, hlast⟩ := (h.2 strayArming (by decide)).1 0 rfl (by decide) (by decide)
  have hseen := strayArming_last
  rw [ht] at hseen
  have hraised := hlast (by decide) (by decide)
  exact absurd (hraised.symm.trans hseen) (by decide)

end Sys2Proof.Machine
end

section
/-! PROOFS. A state that the statement on node commands does not hold of (R197, R190, R119). -/

namespace Sys2Proof.Machine

/-- The directory of the node at address 0: one cell, at channel 0. -/
def oneCell : DirEntry :=
  { cellFirst := 0, cellCount := 1, groupFirst := 0, groupCount := 0, tempFirst := 0, tempCount := 0, packCh := none, nodeCh := none }

/-- The challenge that the node at position 0 of port 0 is to answer. -/
def renewalSent : SentCmd :=
  { cmd := { pos := 0, bcast := false, chainB := false, ncmd := 6, param := [], why := 3, sends := 1 }, seq := 9, trains := 0 }

/-- An enumeration that waits for nothing but its next stage, while the node at position 0 answers an earlier challenge with status 2. The
table of host memory is all zeros, so that the node's only entry is of another generation; EV29 asks for an MSI-X message. -/
def staleEntry : State :=
  wr (wr { State.reset with
    pwr := { Power.reset with doms := Vector.replicate 13 Domain.always, pllRuns := true, startStep := 0 }
    pcie := { Pcie.reset with perst := false, linkUp := true, busMaster := true, msixEnable := true
                              msix := vput Pcie.reset.msix 0 { addr := 0x100, data := 1, masked := false } }
    evr := { Evr.reset with routing := true }
    otp := { Otp.blank with keyOk := 1 }
    ct := { ChanTable.reset with attached := true, hold := false, gen := 1, dir := Sparse.set [] 0 oneCell }
    lp := { Links.reset with
      ports := vput Links.reset.ports 0 { Port.reset with
        mode := 3, nodes := 1, enum := some { recovery := false, stage := 7, whole := true }, sentA := some renewalSent }
      nodes := Sparse.set [] 0 { Node.reset with present := true, challenge := some (7, 3), resp := [(9, 2, [])] } } }
    0x300C 1 1) 0xB174 0x100 0x100

/-- The answer of status 2 ends the wait, and its step writes the message of EV29. -/
theorem staleEntry_byte : (match exec (.nodeResponse 0 0 false) staleEntry with | .next t => hostByte t 0x100 | _ => 0) = 1 := by decide +kernel

/-- Refutes O45: a response of status 2 to a challenge sends an enumeration on, and the bad entry that it reads raises EV29. -/
theorem not_nodeCommands : ¬ Obligations.NodeCommands := by
  intro h
  obtain ⟨-, hanswer, -⟩ := h
  obtain ⟨hresp, -⟩ := hanswer staleEntry 0 renewalSent false false (by decide) rfl (by decide) rfl
  obtain ⟨-, -, hchallenge⟩ := hresp 0 9 2 [] [] rfl rfl rfl
  obtain ⟨-, -, hstatus⟩ := hchallenge 7 3 rfl rfl rfl (by decide) (by decide)
  obtain ⟨t, ht, -, -, -, -, hbytes⟩ := hstatus (by decide)
  have hbyte := staleEntry_byte
  rw [ht] at hbyte
  have hkept : hostByte t 0x100 = hostByte staleEntry 0x100 := (hbytes 0x100).1
  exact absurd (hkept.symm.trans hbyte) (by decide)

end Sys2Proof.Machine
end

section
/-! PROOFS. The commands of the channel table and its cache (R95, R117–R120, R126, R128–R130, R144, R153). -/

namespace Sys2Proof.Machine

variable {s q t u : State} {k : Ticket} {w : CtWait}

/-! ### One command of the block, with none before it -/

/-- The state in which the block runs its only command. -/
def ctBegun (q : State) (w : CtWait) : State := { q with ct := { q.ct with waits := [w], fails := false } }

/-- What it leaves, with the command gone. -/
def ctSettled (q t : State) : State := { t with ct := { t.ct with waits := [], fails := q.ct.fails } }

theorem ctSettled_begun (h : q.ct.waits = []) : ctSettled q (ctBegun q w) = q := by
  unfold ctSettled ctBegun
  dsimp only
  rw [← h]

theorem ctSettled_hostErr (h : q.ct.waits = []) : ctSettled q (ctHostErr (ctBegun q w)) = ctHostErr q := by
  unfold ctSettled ctBegun ctHostErr
  dsimp only
  rw [← h]

theorem ctProgress_idle (n : Nat) (h : s.ct.waits = []) : ctProgress n s = s := by
  cases n with
  | zero => rfl
  | succ n => unfold ctProgress; rw [h]

theorem complete_ct (s : State) (k : Ticket) (st : Nat) (r : DWord) : (complete s k st r).ct = s.ct := by
  rw [complete_onlyReply s k st r]

/-- What is neither held nor blocked has its meaning. -/
theorem ctRun_meaning (hh : (ctHeld q w && ctInRange q w) = false) (hb : (ctBlocked q w && ctInRange q w) = false) :
    ctRun q w = (let r := ctMeaning w { q with ct := { q.ct with fails := false } }
                 ({ r.1 with ct := { r.1.ct with fails := q.ct.fails } }, r.2)) := by
  unfold ctRun
  rw [hh, hb]
  rfl

/-- The state after the run of the only command: it waits, or it is gone and its completion posted. -/
def ctRan (w : CtWait) : State × CtEnd → State
  | (t, none) => t
  | (t, some (st, r)) => complete { t with ct := { t.ct with waits := [] } } w.ticket st r

theorem ctSubmit_idle (h : q.ct.waits = []) : ctSubmit q w = ctRan w (ctRun { q with ct := { q.ct with waits := [w] } } w) := by
  unfold ctSubmit ctGo
  rw [h]
  show ctProgress 2 { q with ct := { q.ct with waits := [w] } } = _
  unfold ctProgress
  dsimp only
  generalize ctRun { q with ct := { q.ct with waits := [w] } } w = r
  obtain ⟨t, _ | ⟨st, r⟩⟩ := r
  · rfl
  · exact ctProgress_idle 1 (congrArg ChanTable.waits (complete_ct ..))

/-- The only command of the block ends. -/
theorem ctSubmit_ends {st : Nat} {r : DWord} (h : q.ct.waits = []) (hh : (ctHeld q w && ctInRange q w) = false)
    (hb : (ctBlocked q w && ctInRange q w) = false) (hm : ctMeaning w (ctBegun q w) = (t, some (st, r))) :
    ctSubmit q w = complete (ctSettled q t) w.ticket st r := by
  rw [ctSubmit_idle h, ctRun_meaning (q := { q with ct := { q.ct with waits := [w] } }) hh hb]
  have hm' : ctMeaning w { q with ct := { q.ct with waits := [w], fails := false } } = (t, some (st, r)) := hm
  dsimp only
  rw [hm']
  rfl

/-- It ends with the state as it was. -/
theorem ctSubmit_answers {st : Nat} {r : DWord} (h : q.ct.waits = []) (hh : (ctHeld q w && ctInRange q w) = false)
    (hb : (ctBlocked q w && ctInRange q w) = false) (hm : ctMeaning w (ctBegun q w) = (ctBegun q w, some (st, r))) :
    ctSubmit q w = complete q w.ticket st r := by
  rw [ctSubmit_ends h hh hb hm, ctSettled_begun h]

/-- It waits. -/
theorem ctSubmit_waits (h : q.ct.waits = []) (hh : (ctHeld q w && ctInRange q w) = false)
    (hm : (ctBlocked q w && ctInRange q w) = true ∨ ctMeaning w (ctBegun q w) = (ctBegun q w, none)) :
    ctSubmit q w = { q with ct := { q.ct with waits := [w] } } := by
  rw [ctSubmit_idle h]
  by_cases hb : (ctBlocked q w && ctInRange q w) = true
  · have hrun : ctRun { q with ct := { q.ct with waits := [w] } } w = ({ q with ct := { q.ct with waits := [w] } }, none) := by
      unfold ctRun
      rw [show (ctHeld { q with ct := { q.ct with waits := [w] } } w && ctInRange { q with ct := { q.ct with waits := [w] } } w) = false from hh,
        show (ctBlocked { q with ct := { q.ct with waits := [w] } } w && ctInRange { q with ct := { q.ct with waits := [w] } } w) = true from hb]
      rfl
    rw [hrun]
    rfl
  · have hm := hm.resolve_left hb
    rw [ctRun_meaning (q := { q with ct := { q.ct with waits := [w] } }) hh (Bool.not_eq_true _ ▸ hb)]
    have hm' : ctMeaning w { q with ct := { q.ct with waits := [w], fails := false } } = (ctBegun q w, none) := hm
    dsimp only
    rw [hm']
    rfl

/-- While HOLD is set a command that would access the table is refused. -/
theorem ctSubmit_held (h : q.ct.waits = []) (hh : (ctHeld q w && ctInRange q w) = true) :
    ctSubmit q w = complete q w.ticket (if w.kind = 3 && pinAbsent q w then stNotPresent else stRefused) 0 := by
  rw [ctSubmit_idle h]
  unfold ctRun
  rw [show (ctHeld { q with ct := { q.ct with waits := [w] } } w && ctInRange { q with ct := { q.ct with waits := [w] } } w) = true from hh]
  show complete { q with ct := { q.ct with waits := [] } } w.ticket _ 0 = _
  rw [← h]
  rfl

/-! ### CT_ATTACH (R95, R117–R120, R152) -/

theorem threshCompute_detached (h : s.ct.attached = false) : threshCompute s = { s with mc := { s.mc with noPack := true } } := by
  have hp : piChannel s = none := by simp [piChannel, h]
  unfold threshCompute
  rw [hp]
  rfl

theorem ctAttach_range (h : w.count = 0 ∨ 262144 < w.count ∨ fld s 0x2014 0 6 * 8192 < w.count) :
    ctAttach s w = (s, some (stRange, 0)) := by
  unfold ctAttach
  rw [if_pos (by simpa [or_assoc] using h)]

theorem ctAttach_inRange (h0 : 0 < w.count) (h1 : w.count ≤ 262144) (h2 : w.count ≤ fld s 0x2014 0 6 * 8192) :
    ctAttach s w = if w.bit && attachRefused s w then (s, some (stRefused, 0))
      else if !canMaster s then (s, none) else if w.bit then attachResume s w else attachFresh s w := by
  unfold ctAttach
  rw [if_neg (by simp; omega)]

/-! ### Cached lines -/

/-- At most the cached lines and what is written to host memory differ. -/
def OnlyCache (s t : State) : Prop := OnlyReply { s with ct := { s.ct with cache := t.ct.cache } } t

theorem OnlyCache.refl (s : State) : OnlyCache s s := rfl

theorem OnlyCache.ct (h : OnlyCache s t) : t.ct = { s.ct with cache := t.ct.cache } := by
  unfold OnlyCache OnlyReply at h
  exact congrArg State.ct h

theorem OnlyCache.memories (h : OnlyCache s t) : t.mpSram = s.mpSram ∧ t.flash = s.flash := by
  unfold OnlyCache OnlyReply at h
  exact ⟨(congrArg State.mpSram h).trans rfl, (congrArg State.flash h).trans rfl⟩

theorem OnlyCache.trans (h1 : OnlyCache s t) (h2 : OnlyCache t u) : OnlyCache s u := by
  unfold OnlyCache OnlyReply at *
  rw [h2, h1]

theorem OnlyReply.cache (h : OnlyReply s t) : OnlyCache s t := by
  have hc : t.ct = s.ct := by
    unfold OnlyReply at h
    rw [h]
  unfold OnlyCache
  rw [hc]
  exact h

theorem forEach_onlyCache {α : Type} {f : α → State → State} (l : List α) (s : State) (h : ∀ a q, OnlyCache q (f a q)) : OnlyCache s (forEach l f s) :=
  forEach_induct (P := OnlyCache s) (OnlyCache.refl s) fun a _ q hq => hq.trans (h a q)

theorem entryPut_onlyReply (s : State) (a : Nat) (e : Entry) : OnlyReply s (entryPut s a e) := (hostPost_onlyReply ..).trans (hostPost_onlyReply ..)

theorem setLine_onlyCache (s : State) (c : Nat) (l : Line) : OnlyCache s (setLine s c l) := rfl
theorem dropLine_onlyCache (s : State) (c : Nat) : OnlyCache s (dropLine s c) := rfl

theorem writeBack_onlyCache (c : Nat) (s : State) : OnlyCache s (writeBack c s) := by
  unfold writeBack
  split
  · exact OnlyCache.refl s
  · split
    · exact (entryPut_onlyReply ..).cache.trans (setLine_onlyCache ..)
    · exact OnlyCache.refl s

theorem line_congr (h : t.ct = s.ct) (c : Nat) : line t c = line s c := congrArg (fun x : ChanTable => Sparse.get? x.cache c) h

/-- A line once it is written back. -/
def Line.clean (l : Line) : Line := { l with dirty := false }

theorem line_writeBack (c j : Nat) (s : State) : line (writeBack c s) j = if j = c then (line s c).map Line.clean else line s j := by
  have hp : ∀ a e, (entryPut s a e).ct = s.ct := fun a e => by rw [entryPut_onlyReply s a e]
  unfold writeBack
  by_cases hj : j = c
  · subst hj
    rw [if_pos rfl]
    split
    · next h => rw [h]; rfl
    · next l h =>
      rw [h]
      by_cases hd : l.dirty = true
      · rw [if_pos hd, line_setLine_self]
        rfl
      · rw [if_neg hd, h]
        obtain ⟨data, way, dirty, pinned, reserved, used⟩ := l
        simp_all [Line.clean]
  · rw [if_neg hj]
    split
    · rfl
    · split
      · rw [line_setLine_other _ c j _ hj, line_congr (hp ..)]
      · rfl

theorem line_clean_idem (o : Option Line) : (o.map Line.clean).map Line.clean = o.map Line.clean := by cases o <;> rfl

theorem line_writeBacks (cs : List Nat) (j : Nat) : ∀ s : State,
    line (forEach cs writeBack s) j = if j ∈ cs then (line s j).map Line.clean else line s j := by
  induction cs with
  | nil => exact fun s => (if_neg List.not_mem_nil).symm
  | cons c cs ih =>
    intro s
    show line (forEach cs writeBack (writeBack c s)) j = _
    rw [ih, line_writeBack]
    by_cases hj : j = c
    · subst hj
      rw [if_pos rfl, if_pos List.mem_cons_self, line_clean_idem, ite_self]
    · rw [if_neg hj]
      simp only [List.mem_cons, hj, false_or]

theorem Sparse.mem_of_get? {β : Type} {v : β} {a : Nat} : ∀ {t : Sparse β}, Sparse.get? t a = some v → (a, v) ∈ t
  | [], h => by cases h
  | (k, x) :: t, h => by
    unfold Sparse.get? at h
    split at h
    · next hk =>
      cases h
      exact hk ▸ List.mem_cons_self
    · exact List.mem_cons_of_mem _ (Sparse.mem_of_get? h)

/-- A cached channel is among the keys of the cache. -/
theorem mem_keys_of_line {c : Nat} {l : Line} (h : line s c = some l) : c ∈ s.ct.cache.map Prod.fst :=
  List.mem_map.mpr ⟨(c, l), Sparse.mem_of_get? h, rfl⟩

theorem flushAll_onlyCache (s : State) : OnlyCache s (flushAll s) := forEach_onlyCache _ _ writeBack_onlyCache

theorem flushAll_clean (s : State) {c : Nat} {l : Line} (h : line (flushAll s) c = some l) : l.dirty = false := by
  have hline := line_writeBacks (s.ct.cache.map Prod.fst) c s
  rw [show forEach (s.ct.cache.map Prod.fst) writeBack s = flushAll s from rfl, h] at hline
  cases hl : line s c with
  | none => simp [hl] at hline
  | some l0 =>
    rw [if_pos (mem_keys_of_line hl), hl] at hline
    cases hline
    rfl

/-! ### CT_ATTACH with RESUME = 1 -/

theorem refetchPinned_none (h : s.ct.repin = []) : refetchPinned s = s := by
  unfold refetchPinned
  rw [h]
  split <;> rfl

theorem withReads_refetchPinned (fault : Bool) (h : s.ct.repin = []) : withReads fault refetchPinned s = s := by
  unfold withReads
  rw [refetchPinned_none (s := { s with ct := { s.ct with fails := fault } }) h]

/-- What a resumed table is: all of it written back, the copy epoch to be repeated where HOLD cut it. -/
def resumed (s : State) : State :=
  let s1 := flushAll { s with ct := { s.ct with hold := false } }
  { s1 with ct := { s1.ct with mule := { s1.ct.mule with again := s1.ct.mule.again || (s.ct.hold && s1.ct.mule.phase = 3) } } }

theorem attachResume_eq (hr : attachRefused s w = false) (hp : s.ct.repin = []) :
    attachResume s w = (resumed s, some (stSuccess, BitVec.ofNat 64 s.ct.gen.toNat)) := by
  unfold attachResume
  rw [hr]
  dsimp only
  rw [withReads_refetchPinned]
  · rfl
  · show (flushAll _).ct.repin = []
    rw [(flushAll_onlyCache _).ct]
    exact hp

theorem resumed_ct (s : State) : ∃ cache, (resumed s).ct = { s.ct with
    hold := false
    cache := cache
    mule := { s.ct.mule with again := s.ct.mule.again || (s.ct.hold && s.ct.mule.phase = 3) } } := by
  refine ⟨(resumed s).ct.cache, ?_⟩
  unfold resumed
  dsimp only
  rw [(flushAll_onlyCache _).ct]

/-! ### CT_ATTACH with RESUME = 0 -/

/-- What reading the table can do to it, to the run of the Ox engine and to the commands of the link ports. -/
structure ReadsTable (s t : State) : Prop where
  ct : t.ct = { s.ct with crcErrs := t.ct.crcErrs, genErrs := t.ct.genErrs, hostAccessErr := t.ct.hostAccessErr, excluded := t.ct.excluded }
  excluded : ∀ c, c ∈ s.ct.excluded → c ∈ t.ct.excluded
  epoch : t.ox.epoch = s.ox.epoch
  active : t.ox.active = s.ox.active
  jobs : t.lp.jobs = s.lp.jobs

theorem ReadsTable.refl (s : State) : ReadsTable s s := ⟨rfl, fun _ h => h, rfl, rfl, rfl⟩

theorem ReadsTable.trans (h1 : ReadsTable s t) (h2 : ReadsTable t u) : ReadsTable s u :=
  ⟨by rw [h2.ct, h1.ct], fun c h => h2.excluded c (h1.excluded c h), h2.epoch.trans h1.epoch, h2.active.trans h1.active, h2.jobs.trans h1.jobs⟩

theorem OnlyReply.readsTable (h : OnlyReply s t) : ReadsTable s t := by
  unfold OnlyReply at h
  rw [h]
  exact ⟨rfl, fun _ h => h, rfl, rfl, rfl⟩

theorem raise_readsTable (s : State) (k : Nat) (d : DWord) : ReadsTable s (raise s k d) := (raise_onlyEvents s k d).reply.readsTable

theorem forEach_readsTable {α : Type} {f : α → State → State} (l : List α) (s : State) (h : ∀ a q, ReadsTable q (f a q)) : ReadsTable s (forEach l f s) :=
  forEach_induct (P := ReadsTable s) (ReadsTable.refl s) fun a _ q hq => hq.trans (h a q)

theorem excludeChannel_readsTable (s : State) (c r : Nat) : ReadsTable s (excludeChannel s c r) := by
  refine ReadsTable.trans (t := { s with ct := { s.ct with
    crcErrs := if r = 1 then satInc s.ct.crcErrs else s.ct.crcErrs
    genErrs := if r = 1 then s.ct.genErrs else satInc s.ct.genErrs
    excluded := if s.ct.excluded.contains c then s.ct.excluded else c :: s.ct.excluded } }) ⟨rfl, ?_, rfl, rfl, rfl⟩ (raise_readsTable ..)
  intro j hj
  dsimp only
  split
  · exact hj
  · exact List.mem_cons_of_mem _ hj

theorem takeEntry_readsTable (s : State) (c : Nat) : ReadsTable s (takeEntry s c).1 := by
  unfold takeEntry
  dsimp only
  split
  · exact ReadsTable.refl s
  · split
    · exact ReadsTable.refl s
    · split
      · exact ⟨rfl, fun _ h => h, rfl, rfl, rfl⟩
      · split
        · exact ReadsTable.refl s
        · exact excludeChannel_readsTable ..

theorem seeAll_readsTable (cs : List Nat) (s : State) : ReadsTable s (seeAll cs s) := forEach_readsTable cs s fun c q => takeEntry_readsTable q c

theorem threshCompute_readsTable (s : State) : ReadsTable s (threshCompute s) := by
  unfold threshCompute
  dsimp only
  split <;> exact (seeAll_readsTable ..).trans ⟨rfl, fun _ h => h, rfl, rfl, rfl⟩

theorem enq_readsTable (s : State) (p : Nat) (cs : List NodeCmd) : ReadsTable s (enq s p cs) := ⟨rfl, fun _ h => h, rfl, rfl, rfl⟩

theorem linkGo_idle (h : s.lp.jobs = []) : linkGo s = s := by
  unfold linkGo
  rw [h]
  rfl

/-- The tap profiles of a port's nodes are read and sent (R189). -/
def profilesRead (p : Nat) (q : State) : State :=
  let q1 := seeAll ((positions q p).flatMap fun k => tapChannels q (32 * p + k)) q
  enq q1 p ((positions q1 p).flatMap fun k => tapProfiles q1 (32 * p + k) 6)

theorem profilesRead_readsTable (p : Nat) (q : State) : ReadsTable q (profilesRead p q) := (seeAll_readsTable _ q).trans (enq_readsTable ..)

/-- The estimator and the detector start with a table. -/
def tableStarted (s : State) : State := threshCompute (trendStart { s with ox := { s.ox with parkLeft := parkDue s } })

theorem afterAttach_eq (s : State) : afterAttach s = linkGo (forEach (runningPorts (tableStarted s)) profilesRead (tableStarted s)) := rfl

theorem afterAttach_readsTable (h : s.lp.jobs = []) : ReadsTable s (afterAttach s) := by
  have hstart : ReadsTable s (trendStart { s with ox := { s.ox with parkLeft := parkDue s } }) := ⟨rfl, fun _ h => h, rfl, rfl, rfl⟩
  have hread := (hstart.trans (threshCompute_readsTable _)).trans
    (forEach_readsTable (runningPorts (tableStarted s)) (tableStarted s) profilesRead_readsTable)
  rw [afterAttach_eq, linkGo_idle (hread.jobs.trans h)]
  exact hread

/-- The entries whose CRC fails are counted, each with its EV29. -/
theorem attachCounts_readsTable (cs : List Nat) (gen : Nat) (s : State) :
    ReadsTable s (forEach cs (fun c q => raise { q with ct := { q.ct with crcErrs := satInc q.ct.crcErrs } } 29
      (pack 64 [(0, 18, c), (20, 4, 1), (32, 16, gen)])) s) :=
  forEach_readsTable cs s fun _ q =>
    ReadsTable.trans (t := { q with ct := { q.ct with crcErrs := satInc q.ct.crcErrs } }) ⟨rfl, fun _ h => h, rfl, rfl, rfl⟩ (raise_readsTable ..)

theorem muleAbort_idle (h : s.ct.mule.phase = 0) : muleAbort s = s := if_pos h

/-- A read of the table that fails. -/
theorem attachFresh_fault (hm : s.ct.mule.phase = 0) (hf : w.tabFault = true) :
    attachFresh s w = (threshCompute (ctHostErr (forgetTable s)), some (stHostAccess, 0)) := by
  unfold attachFresh
  rw [muleAbort_idle hm, hf]
  rfl

/-- The old table gone and the new one's excluded entries counted. -/
def attachScanned (s : State) (w : CtWait) : State :=
  forEach (scanTable s w.bad w.count (fld s 0x200C 0 16)).excluded.reverse
    (fun c q => raise { q with ct := { q.ct with crcErrs := satInc q.ct.crcErrs } } 29 (pack 64 [(0, 18, c), (20, 4, 1), (32, 16, fld s 0x200C 0 16)]))
    (forgetTable s)

theorem attachScanned_reads (s : State) (w : CtWait) : ReadsTable (forgetTable s) (attachScanned s w) := attachCounts_readsTable ..

/-- The table as its scan leaves it. -/
def attachedTable (s : State) (w : CtWait) : State :=
  let t := scanTable s w.bad w.count (fld s 0x200C 0 16)
  let s2 := attachScanned s w
  { s2 with
    ct := { s2.ct with attached := true, hold := false, gen := BitVec.ofNat 16 (fld s 0x200C 0 16), count := w.count, dir := t.dir
                       excluded := t.excluded, calib := t.calib, parents := t.parents }
    ox := { s2.ox with epoch := 0, started := false }
    mc := { s2.mc with tfilt := t.tfilt } }

theorem attachFresh_good (hm : s.ct.mule.phase = 0) (hf : w.tabFault = false) (hb : (scanTable s w.bad w.count (fld s 0x200C 0 16)).bad = none) :
    attachFresh s w = (afterAttach (attachedTable s w), some (stSuccess, BitVec.ofNat 64 (fld s 0x200C 0 16))) := by
  have hs : (scanTable (forgetTable s) w.bad w.count (fld s 0x200C 0 16)).bad = none := hb
  unfold attachFresh
  rw [muleAbort_idle hm, hf]
  dsimp only
  rw [if_neg Bool.false_ne_true, hs]
  rfl

theorem attachFresh_bad {b : FirstBad} {st : Nat} (hm : s.ct.mule.phase = 0) (hf : w.tabFault = false)
    (hb : (scanTable s w.bad w.count (fld s 0x200C 0 16)).bad = some (b, st)) :
    attachFresh s w = (threshCompute { attachScanned s w with ct := { (attachScanned s w).ct with firstBad := some b } }, some (st, 0)) := by
  have hs : (scanTable (forgetTable s) w.bad w.count (fld s 0x200C 0 16)).bad = some (b, st) := hb
  unfold attachFresh
  rw [muleAbort_idle hm, hf]
  dsimp only
  rw [if_neg Bool.false_ne_true, hs]
  rfl

/-- The operands of a CT_ATTACH. -/
def attachWait (k : Ticket) (d : Desc) (hf : Bool) (bad : List Nat) : CtWait :=
  { CtWait.of k 4 0 (opn d 20 0 32) (bitOf d.ops 0) with tabFault := hf, bad := bad }

section
variable {rq : Requester} {d : Desc} {hf : Bool} {bad : List Nat}

theorem exec_ctAttach (h : Taken specCtAttach rq d s q k) : exec (.ctAttach rq d hf bad) s = .next (ctSubmit q (attachWait k d hf bad)) :=
  congrArg Host.Outcome.next (command_taken h)

/-- CT_ATTACH is neither held nor blocked. -/
theorem attach_free (q : State) (k : Ticket) (d : Desc) (hf : Bool) (bad : List Nat) :
    (ctHeld q (attachWait k d hf bad) && ctInRange q (attachWait k d hf bad)) = false ∧
      (ctBlocked q (attachWait k d hf bad) && ctInRange q (attachWait k d hf bad)) = false := by
  simp [ctHeld, ctBlocked, attachWait, CtWait.of]

theorem exec_ctAttach_answers {st : Nat} {r : DWord} (h : Taken specCtAttach rq d s q k) (hw : q.ct.waits = [])
    (hm : ctAttach (ctBegun q (attachWait k d hf bad)) (attachWait k d hf bad) = (ctBegun q (attachWait k d hf bad), some (st, r))) :
    exec (.ctAttach rq d hf bad) s = .next (complete q k st r) := by
  obtain ⟨hh, hb⟩ := attach_free q k d hf bad
  rw [exec_ctAttach h, ctSubmit_answers hw hh hb hm]
  rfl

theorem exec_ctAttach_ends {st : Nat} {r : DWord} (h : Taken specCtAttach rq d s q k) (hw : q.ct.waits = [])
    (hm : ctAttach (ctBegun q (attachWait k d hf bad)) (attachWait k d hf bad) = (t, some (st, r))) :
    exec (.ctAttach rq d hf bad) s = .next (complete (ctSettled q t) k st r) := by
  obtain ⟨hh, hb⟩ := attach_free q k d hf bad
  rw [exec_ctAttach h, ctSubmit_ends hw hh hb hm]
  rfl

theorem exec_ctAttach_waits (h : Taken specCtAttach rq d s q k) (hw : q.ct.waits = [])
    (hm : ctAttach (ctBegun q (attachWait k d hf bad)) (attachWait k d hf bad) = (ctBegun q (attachWait k d hf bad), none)) :
    ∃ w, w.ticket = k ∧ exec (.ctAttach rq d hf bad) s = .next { q with ct := { q.ct with waits := [w] } } := by
  obtain ⟨hh, hb⟩ := attach_free q k d hf bad
  exact ⟨_, rfl, by rw [exec_ctAttach h, ctSubmit_waits hw hh (.inr hm)]⟩

theorem exec_ctAttach_range (h : Taken specCtAttach rq d s q k) (hw : q.ct.waits = [])
    (hr : opn d 20 0 32 = 0 ∨ 262144 < opn d 20 0 32 ∨ fld q 0x2014 0 6 * 8192 < opn d 20 0 32) :
    exec (.ctAttach rq d hf bad) s = .next (complete q k stRange 0) :=
  exec_ctAttach_answers h hw (ctAttach_range hr)

/-- RESUME asks for a table that is not the one attached. -/
def resumeRefused (q : State) (d : Desc) : Prop := bitOf d.ops 0 = true ∧ (q.ct.attached = false ∨ opn d 20 0 32 ≠ q.ct.count)

theorem attachRefused_iff (q : State) (k : Ticket) (d : Desc) (hf : Bool) (bad : List Nat) :
    ((attachWait k d hf bad).bit && attachRefused q (attachWait k d hf bad)) = true ↔ resumeRefused q d := by
  simp only [attachRefused, resumeRefused, attachWait, CtWait.of, Bool.and_eq_true, Bool.or_eq_true, Bool.not_eq_true']
  exact and_congr Iff.rfl (or_congr Iff.rfl decide_eq_true_iff)

/-- A count that the table has room for. -/
def countFits (q : State) (d : Desc) : Prop := 0 < opn d 20 0 32 ∧ opn d 20 0 32 ≤ 262144 ∧ opn d 20 0 32 ≤ fld q 0x2014 0 6 * 8192

theorem ctAttach_refused (hn : countFits q d) (hr : resumeRefused q d) :
    ctAttach q (attachWait k d hf bad) = (q, some (stRefused, 0)) := by
  obtain ⟨h0, h1, h2⟩ := hn
  rw [ctAttach_inRange h0 h1 h2, if_pos ((attachRefused_iff ..).mpr hr)]

/-- Where the table may be attached or resumed, the command waits for the host. -/
theorem ctAttach_host (hn : countFits q d) (hr : ¬ resumeRefused q d) :
    ctAttach q (attachWait k d hf bad) = if !canMaster q then (q, none)
      else if bitOf d.ops 0 then attachResume q (attachWait k d hf bad) else attachFresh q (attachWait k d hf bad) := by
  obtain ⟨h0, h1, h2⟩ := hn
  rw [ctAttach_inRange h0 h1 h2, if_neg (mt (attachRefused_iff ..).mp hr)]
  rfl

theorem not_resumeRefused_fresh (hb : bitOf d.ops 0 = false) : ¬ resumeRefused q d := fun h => Bool.false_ne_true (hb.symm.trans h.1)

theorem exec_ctAttach_refused (h : Taken specCtAttach rq d s q k) (hw : q.ct.waits = []) (hn : countFits q d) (hr : resumeRefused q d) :
    exec (.ctAttach rq d hf bad) s = .next (complete q k stRefused 0) :=
  exec_ctAttach_answers h hw (ctAttach_refused (q := ctBegun q _) hn hr)

theorem exec_ctAttach_noHost (h : Taken specCtAttach rq d s q k) (hw : q.ct.waits = []) (hn : countFits q d) (hr : ¬ resumeRefused q d)
    (hc : canMaster q = false) : ∃ w, w.ticket = k ∧ exec (.ctAttach rq d hf bad) s = .next { q with ct := { q.ct with waits := [w] } } := by
  refine exec_ctAttach_waits h hw ?_
  rw [ctAttach_host (q := ctBegun q _) hn hr, show canMaster (ctBegun q (attachWait k d hf bad)) = false from hc]
  rfl

theorem exec_ctAttach_resumes (h : Taken specCtAttach rq d s q k) (hw : q.ct.waits = []) (hn : countFits q d) (hr : ¬ resumeRefused q d)
    (hc : canMaster q = true) (hb : bitOf d.ops 0 = true) (hp : q.ct.repin = []) :
    exec (.ctAttach rq d hf bad) s =
      .next (complete (ctSettled q (resumed (ctBegun q (attachWait k d hf bad)))) k stSuccess (BitVec.ofNat 64 q.ct.gen.toNat)) := by
  refine exec_ctAttach_ends h hw ?_
  rw [ctAttach_host (q := ctBegun q _) hn hr, show canMaster (ctBegun q (attachWait k d hf bad)) = true from hc, hb,
    Bool.not_true, if_neg Bool.false_ne_true, if_pos rfl]
  refine attachResume_eq ?_ hp
  exact Bool.eq_false_iff.mpr fun hx => hr ((attachRefused_iff (ctBegun q _) k d hf bad).mp (by rw [hx, Bool.and_true]; exact hb))

theorem exec_ctAttach_fresh {st : Nat} {r : DWord} (h : Taken specCtAttach rq d s q k) (hw : q.ct.waits = []) (hn : countFits q d)
    (hc : canMaster q = true) (hb : bitOf d.ops 0 = false)
    (hm : attachFresh (ctBegun q (attachWait k d hf bad)) (attachWait k d hf bad) = (t, some (st, r))) :
    exec (.ctAttach rq d hf bad) s = .next (complete (ctSettled q t) k st r) := by
  refine exec_ctAttach_ends h hw ?_
  rw [ctAttach_host (q := ctBegun q _) hn (not_resumeRefused_fresh hb), show canMaster (ctBegun q (attachWait k d hf bad)) = true from hc, hb,
    Bool.not_true, if_neg Bool.false_ne_true, if_neg Bool.false_ne_true, hm]

/-- What CT_ATTACH of a good table leaves. -/
theorem ctSettled_attached (hj : q.lp.jobs = []) : let u := ctSettled q (afterAttach (attachedTable (ctBegun q w) w))
    let scan := scanTable q w.bad w.count (fld q 0x200C 0 16)
    u.ct.attached = true ∧ u.ct.hold = false ∧ u.ct.gen = BitVec.ofNat 16 (fld q 0x200C 0 16) ∧ u.ct.count = w.count ∧
      u.ct.dir = scan.dir ∧ (∀ c, c ∈ scan.excluded → c ∈ u.ct.excluded) ∧ u.ct.cache = [] ∧ u.ct.calib = scan.calib ∧ u.ct.parents = scan.parents ∧
      u.ox.epoch = 0 ∧ u.ox.active = false := by
  have hscan := attachScanned_reads (ctBegun q w) w
  have hjobs : (attachedTable (ctBegun q w) w).lp.jobs = [] := hscan.jobs.trans hj
  have hafter := afterAttach_readsTable hjobs
  have hcache : (attachedTable (ctBegun q w) w).ct.cache = [] := (congrArg ChanTable.cache hscan.ct).trans rfl
  have hactive : (attachedTable (ctBegun q w) w).ox.active = false := hscan.active.trans rfl
  dsimp only [ctSettled]
  rw [hafter.ct]
  exact ⟨rfl, rfl, rfl, rfl, rfl, hafter.excluded, hcache, rfl, rfl, hafter.epoch, hafter.active.trans hactive⟩

end

/-! ### CT_FLUSH and CE_INVALIDATE (R130) -/

theorem dirtyIn_begun (q : State) (w : CtWait) (a n : Nat) : dirtyIn (ctBegun q w) a n = dirtyIn q a n := rfl

/-- The channels cached in a range, each as often as the cache lists it. -/
def cachedIn (s : State) (a n : Nat) : Sparse Line := s.ct.cache.filter fun e => a ≤ e.1 && e.1 < a + n

theorem mem_cachedIn {a n : Nat} {e : Nat × Line} : e ∈ cachedIn s a n ↔ e ∈ s.ct.cache ∧ a ≤ e.1 ∧ e.1 < a + n := by
  simp [cachedIn]

/-- A range of the table is flushed. -/
def flushed (s : State) (a n : Nat) : State := forEach ((cachedIn s a n).map Prod.fst) writeBack s

theorem flushed_onlyCache (s : State) (a n : Nat) : OnlyCache s (flushed s a n) := forEach_onlyCache _ _ writeBack_onlyCache

theorem line_flushed (s : State) (a n c : Nat) :
    line (flushed s a n) c = if c < a ∨ a + n ≤ c then line s c else (line s c).map Line.clean := by
  unfold flushed
  rw [line_writeBacks]
  by_cases hc : c < a ∨ a + n ≤ c
  · rw [if_pos hc, if_neg]
    intro hm
    obtain ⟨e, he, rfl⟩ := List.mem_map.mp hm
    have := (mem_cachedIn.mp he).2
    omega
  · rw [if_neg hc]
    cases hl : line s c with
    | none => exact ite_self _
    | some l => exact if_pos (List.mem_map.mpr ⟨(c, l), mem_cachedIn.mpr ⟨Sparse.mem_of_get? hl, by omega, by omega⟩, rfl⟩)

/-- INVALIDATE drops the lines of a list that are not pinned. -/
def dropUnpinned (l : Sparse Line) (s : State) : State := forEach l (fun e q => if e.2.pinned then q else dropLine q e.1) s

theorem dropUnpinned_onlyCache (l : Sparse Line) (s : State) : OnlyCache s (dropUnpinned l s) :=
  forEach_onlyCache l s fun e q => by
    split
    · exact OnlyCache.refl q
    · exact dropLine_onlyCache q e.1

theorem line_dropLine (s : State) (c j : Nat) : line (dropLine s c) j = if j = c then none else line s j := by
  by_cases hj : j = c
  · subst hj
    rw [if_pos rfl]
    exact Sparse.get?_del_self ..
  · rw [if_neg hj, line_dropLine_other _ _ _ hj]

/-- A line listed unpinned is dropped, and stays so. -/
theorem line_dropUnpinned_none {c : Nat} : ∀ (l : Sparse Line) {s : State}, (line s c = none ∨ ∃ x, (c, x) ∈ l ∧ x.pinned = false) →
    line (dropUnpinned l s) c = none
  | [], _, .inl h => h
  | [], _, .inr ⟨_, h, _⟩ => absurd h List.not_mem_nil
  | (j, x) :: l, s, h => by
    refine line_dropUnpinned_none l (s := if x.pinned then s else dropLine s j) ?_
    rcases h with h | ⟨y, hy, hp⟩
    · refine .inl ?_
      split
      · exact h
      · rw [line_dropLine, h, ite_self]
    · rcases List.mem_cons.mp hy with heq | hm
      · cases heq
        rw [hp, if_neg Bool.false_ne_true, line_dropLine, if_pos rfl]
        exact .inl rfl
      · exact .inr ⟨y, hm, hp⟩

/-- A line listed as pinned only stays. -/
theorem line_dropUnpinned_pinned {c : Nat} : ∀ (l : Sparse Line) {s : State}, (∀ x, (c, x) ∈ l → x.pinned = true) → line (dropUnpinned l s) c = line s c
  | [], _, _ => rfl
  | (j, x) :: l, s, h => by
    refine (line_dropUnpinned_pinned l (s := if x.pinned then s else dropLine s j) fun y hy => h y (List.mem_cons_of_mem _ hy)).trans ?_
    split
    · rfl
    · next hp =>
      rw [line_dropLine, if_neg]
      rintro rfl
      exact hp (h x List.mem_cons_self)

/-- A list of lines is dropped. -/
def dropLines (cs : List Nat) (s : State) : State := forEach cs (fun c q => dropLine q c) s

theorem line_dropLines (c : Nat) : ∀ (cs : List Nat) (s : State), line (dropLines cs s) c = if c ∈ cs then none else line s c
  | [], s => (if_neg List.not_mem_nil).symm
  | j :: cs, s => by
    show line (dropLines cs (dropLine s j)) c = _
    rw [line_dropLines c cs, line_dropLine]
    by_cases hj : c = j
    · simp [hj]
    · simp [hj]

theorem ctFlush_range (h : s.ct.count < w.first + (if w.count = 0 then s.ct.count - w.first else w.count) ∨ s.ct.count < w.first ∨
    (s.ct.count ≤ w.first ∧ w.count ≠ 0)) : ctFlush s w = (s, some (stRange, 0)) := by
  unfold ctFlush
  dsimp only
  rw [if_pos]
  simp only [Bool.or_eq_true, Bool.and_eq_true, decide_eq_true_eq]
  rcases h with h | h | h
  · exact .inl (.inl h)
  · exact .inr h
  · exact .inl (.inr h)

/-- CT_FLUSH of a range of the table. -/
theorem ctFlush_inRange {n : Nat} (hn : n = if w.count = 0 then s.ct.count - w.first else w.count) (h : w.first + n ≤ s.ct.count)
    (h0 : w.count = 0 ∨ w.first < s.ct.count) :
    ctFlush s w = if dirtyIn s w.first n ≠ 0 && !tableReach s then (s, none)
      else (if w.bit then dropUnpinned (cachedIn s w.first n) (flushed s w.first n) else flushed s w.first n,
        some (stSuccess, BitVec.ofNat 64 (dirtyIn s w.first n))) := by
  unfold ctFlush
  dsimp only
  rw [← hn, if_neg]
  · rfl
  · simp only [Bool.or_eq_true, Bool.and_eq_true, decide_eq_true_eq]
    omega

theorem ceInvalidate_range (h : s.ct.count < w.first + w.count) : ceInvalidate s w = (s, some (stRange, 0)) := if_pos h

/-- A range is dropped, its pins too. -/
def invalidated (s : State) (w : CtWait) : State :=
  let cs := (cachedIn s w.first w.count).map Prod.fst
  let s2 := dropLines cs (if w.bit then flushed s w.first w.count else s)
  { s2 with ct := { s2.ct with repin := s2.ct.repin.filter fun c => !(decide (w.first ≤ c) && decide (c < w.first + w.count)) } }

theorem ceInvalidate_inRange (h : w.first + w.count ≤ s.ct.count) :
    ceInvalidate s w = if w.bit && dirtyIn s w.first w.count ≠ 0 && !tableReach s then (s, none)
      else (invalidated s w, some (stSuccess, BitVec.ofNat 64 (cachedIn s w.first w.count).length)) := by
  unfold ceInvalidate
  dsimp only
  rw [if_neg (by omega), show ((s.ct.cache.filter fun e => w.first ≤ e.1 && e.1 < w.first + w.count).map Prod.fst).length =
    (cachedIn s w.first w.count).length from List.length_map ..]
  rfl

theorem line_invalidated (s : State) (w : CtWait) (c : Nat) :
    line (invalidated s w) c = if c < w.first ∨ w.first + w.count ≤ c then line s c else none := by
  show line (dropLines _ _) c = _
  rw [line_dropLines]
  by_cases hc : c < w.first ∨ w.first + w.count ≤ c
  · rw [if_pos hc, if_neg]
    · split
      · rw [line_flushed, if_pos hc]
      · rfl
    · intro hm
      obtain ⟨e, he, rfl⟩ := List.mem_map.mp hm
      have := (mem_cachedIn.mp he).2
      omega
  · rw [if_neg hc]
    cases hl : line s c with
    | some l => exact if_pos (List.mem_map.mpr ⟨(c, l), mem_cachedIn.mpr ⟨Sparse.mem_of_get? hl, by omega, by omega⟩, rfl⟩)
    | none =>
      split
      · rfl
      · split
        · rw [line_flushed, if_neg hc, hl]
          rfl
        · exact hl

/-- Nothing blocks a command while no batch is in flight. -/
theorem ctBlocked_noBatch (h : q.ox.inFlight = []) : (ctBlocked q w && ctInRange q w) = false := by
  simp [ctBlocked, h]

section
variable {rq : Requester} {d : Desc}

/-- The operands of a CT_FLUSH. -/
def flushWait (k : Ticket) (d : Desc) : CtWait := CtWait.of k 0 d.target.toNat (opn d 16 0 32) (bitOf d.ops 32)

/-- How many entries a CT_FLUSH covers. -/
def flushCount (q : State) (d : Desc) : Nat := if opn d 16 0 32 = 0 then q.ct.count - d.target.toNat else opn d 16 0 32

theorem exec_ctFlush (h : Taken specCtFlush rq d s q k) : exec (.ctFlush rq d) s = .next (ctSubmit q (flushWait k d)) :=
  congrArg Host.Outcome.next (command_taken h)

theorem flush_inRange (q : State) (k : Ticket) (d : Desc) :
    ctInRange q (flushWait k d) = true ↔ d.target.toNat + flushCount q d ≤ q.ct.count ∧ (opn d 16 0 32 = 0 ∨ d.target.toNat < q.ct.count) := by
  show (decide (d.target.toNat + opn d 16 0 32 ≤ q.ct.count) && (decide ((0 : Nat) ≠ 0) || decide (opn d 16 0 32 = 0) ||
    decide (d.target.toNat < q.ct.count))) = true ↔ _
  unfold flushCount
  by_cases hc : opn d 16 0 32 = 0
  · simp [hc]
    omega
  · simp [hc]

theorem exec_ctFlush_range (h : Taken specCtFlush rq d s q k) (hw : q.ct.waits = []) (hb : q.ox.inFlight = [])
    (hr : q.ct.count < d.target.toNat + flushCount q d ∨ q.ct.count < d.target.toNat ∨ (q.ct.count ≤ d.target.toNat ∧ opn d 16 0 32 ≠ 0)) :
    exec (.ctFlush rq d) s = .next (complete q k stRange 0) := by
  have hout : ctInRange q (flushWait k d) = false := by
    refine Bool.eq_false_iff.mpr fun hin => ?_
    obtain ⟨h1, h2⟩ := (flush_inRange ..).mp hin
    omega
  have hm : ctMeaning (flushWait k d) (ctBegun q (flushWait k d)) = (ctBegun q (flushWait k d), some (stRange, 0)) :=
    ctFlush_range (w := flushWait k d) (s := ctBegun q (flushWait k d)) hr
  rw [exec_ctFlush h, ctSubmit_answers hw (by rw [hout, Bool.and_false]) (ctBlocked_noBatch hb) hm]
  rfl

theorem exec_ctFlush_held (h : Taken specCtFlush rq d s q k) (hw : q.ct.waits = []) (hn : d.target.toNat + flushCount q d ≤ q.ct.count)
    (h0 : opn d 16 0 32 = 0 ∨ d.target.toNat < q.ct.count) (hh : q.ct.hold = true) :
    exec (.ctFlush rq d) s = .next (complete q k stRefused 0) := by
  have hheld : (ctHeld q (flushWait k d) && ctInRange q (flushWait k d)) = true := by
    rw [(flush_inRange ..).mpr ⟨hn, h0⟩, Bool.and_true]
    simp [ctHeld, hh, flushWait, CtWait.of]
  rw [exec_ctFlush h, ctSubmit_held hw hheld]
  rfl

theorem ctHeld_of_free (hh : q.ct.hold = false) : (ctHeld q w && ctInRange q w) = false := by simp [ctHeld, hh]

theorem exec_ctFlush_waits (h : Taken specCtFlush rq d s q k) (hw : q.ct.waits = []) (hn : d.target.toNat + flushCount q d ≤ q.ct.count)
    (h0 : opn d 16 0 32 = 0 ∨ d.target.toNat < q.ct.count) (hh : q.ct.hold = false) (hd : dirtyIn q d.target.toNat (flushCount q d) ≠ 0)
    (ht : tableReach q = false) : ∃ w, w.ticket = k ∧ exec (.ctFlush rq d) s = .next { q with ct := { q.ct with waits := [w] } } := by
  refine ⟨flushWait k d, rfl, ?_⟩
  rw [exec_ctFlush h, ctSubmit_waits hw (ctHeld_of_free hh) (.inr ?_)]
  refine (ctFlush_inRange (s := ctBegun q (flushWait k d)) (n := flushCount q d) rfl hn h0).trans (if_pos ?_)
  rw [show tableReach (ctBegun q (flushWait k d)) = false from ht]
  exact Bool.and_true _ ▸ decide_eq_true hd

/-- What CT_FLUSH leaves. -/
def flushLeft (q : State) (k : Ticket) (d : Desc) : State :=
  let b := ctBegun q (flushWait k d)
  let s1 := flushed b d.target.toNat (flushCount q d)
  if bitOf d.ops 32 then dropUnpinned (cachedIn b d.target.toNat (flushCount q d)) s1 else s1

theorem exec_ctFlush_done (h : Taken specCtFlush rq d s q k) (hw : q.ct.waits = []) (hb : q.ox.inFlight = [])
    (hn : d.target.toNat + flushCount q d ≤ q.ct.count) (h0 : opn d 16 0 32 = 0 ∨ d.target.toNat < q.ct.count) (hh : q.ct.hold = false)
    (hd : dirtyIn q d.target.toNat (flushCount q d) = 0 ∨ tableReach q = true) : exec (.ctFlush rq d) s =
      .next (complete (ctSettled q (flushLeft q k d)) k stSuccess (BitVec.ofNat 64 (dirtyIn q d.target.toNat (flushCount q d)))) := by
  have hm : ctMeaning (flushWait k d) (ctBegun q (flushWait k d)) =
      (flushLeft q k d, some (stSuccess, BitVec.ofNat 64 (dirtyIn q d.target.toNat (flushCount q d)))) := by
    refine (ctFlush_inRange (w := flushWait k d) (s := ctBegun q (flushWait k d)) (n := flushCount q d) rfl hn h0).trans (if_neg ?_)
    rw [dirtyIn_begun, show tableReach (ctBegun q (flushWait k d)) = tableReach q from rfl, show (flushWait k d).first = d.target.toNat from rfl]
    rcases hd with hd | hd <;> simp [hd]
  rw [exec_ctFlush h, ctSubmit_ends hw (ctHeld_of_free hh) (ctBlocked_noBatch hb) hm]
  rfl

/-- The line that the flushed cache holds of a channel of which it held one line. -/
theorem line_flushLeft {c : Nat} {l : Line} (hl : line q c = some l) (hone : ∀ e, e ∈ q.ct.cache → e.1 = c → e.2 = l) :
    line (flushLeft q k d) c = if c < d.target.toNat ∨ d.target.toNat + flushCount q d ≤ c then some l
      else if bitOf d.ops 32 && !l.pinned then none else some { l with dirty := false } := by
  have hflushed := line_flushed (ctBegun q (flushWait k d)) d.target.toNat (flushCount q d) c
  rw [show line (ctBegun q (flushWait k d)) c = some l from hl] at hflushed
  have hmem : ∀ {x}, (c, x) ∈ cachedIn (ctBegun q (flushWait k d)) d.target.toNat (flushCount q d) →
      x = l ∧ d.target.toNat ≤ c ∧ c < d.target.toNat + flushCount q d := fun hx =>
    have hx := mem_cachedIn.mp hx
    ⟨hone _ hx.1 rfl, hx.2⟩
  unfold flushLeft
  dsimp only
  by_cases hbit : bitOf d.ops 32 = true
  · rw [if_pos hbit]
    by_cases hc : c < d.target.toNat ∨ d.target.toNat + flushCount q d ≤ c
    · rw [if_pos hc, line_dropUnpinned_pinned, hflushed, if_pos hc]
      intro x hx
      have := hmem hx
      omega
    · rw [if_neg hc]
      by_cases hp : l.pinned = true
      · rw [line_dropUnpinned_pinned _ fun x hx => (hmem hx).1 ▸ hp, hflushed, if_neg hc, if_neg (by simp [hp])]
        rfl
      · have hin : (c, l) ∈ cachedIn (ctBegun q (flushWait k d)) d.target.toNat (flushCount q d) :=
          mem_cachedIn.mpr ⟨Sparse.mem_of_get? hl, by omega, by omega⟩
        rw [line_dropUnpinned_none _ (.inr ⟨l, hin, Bool.not_eq_true _ ▸ hp⟩), if_pos (by simp [hbit, hp])]
  · rw [if_neg hbit, hflushed, if_neg (c := (bitOf d.ops 32 && !l.pinned) = true) (by simp [hbit])]
    rfl

theorem flushLeft_onlyCache (q : State) (k : Ticket) (d : Desc) : OnlyCache (ctBegun q (flushWait k d)) (flushLeft q k d) := by
  unfold flushLeft
  dsimp only
  split
  · exact (flushed_onlyCache ..).trans (dropUnpinned_onlyCache ..)
  · exact flushed_onlyCache ..

theorem hostPost_ct (s : State) (x : ChanTable) (a : Nat) (bs : List Byte) : hostPost { s with ct := x } a bs = { hostPost s a bs with ct := x } := by
  have hc : canMaster { s with ct := x } = canMaster s := rfl
  unfold hostPost
  rw [hc]
  split <;> rfl

theorem entryPut_ct (s : State) (x : ChanTable) (a : Nat) (e : Entry) : entryPut { s with ct := x } a e = { entryPut s a e with ct := x } :=
  (congrArg (fun q => hostPost q (a + 248) (leBytes 8 (eN e 248 8))) (hostPost_ct ..)).trans (hostPost_ct ..)

theorem dropUnpinned_hostMem (l : Sparse Line) (s : State) : (dropUnpinned l s).hostMem = s.hostMem :=
  forEach_same State.hostMem l s fun e q => by split <;> rfl

/-- The only line of the cache is written to its entry. -/
theorem flushLeft_hostMem {c : Nat} {l : Line} (hc : q.ct.cache = [(c, l)]) (hlo : d.target.toNat ≤ c) (hhi : c < d.target.toNat + flushCount q d)
    (hd : l.dirty = true) : (flushLeft q k d).hostMem = (entryPut q (entryAddr q c) l.data).hostMem := by
  have hin : cachedIn (ctBegun q (flushWait k d)) d.target.toNat (flushCount q d) = [(c, l)] := by
    unfold cachedIn
    rw [show (ctBegun q (flushWait k d)).ct.cache = [(c, l)] from hc, List.filter_cons_of_pos (by simp [hlo, hhi])]
    rfl
  have hline : line (ctBegun q (flushWait k d)) c = some l := by
    show Sparse.get? q.ct.cache c = some l
    simp [hc, Sparse.get?]
  have hflushed : flushed (ctBegun q (flushWait k d)) d.target.toNat (flushCount q d) =
      setLine (entryPut (ctBegun q (flushWait k d)) (entryAddr q c) l.data) c { l with dirty := false } := by
    unfold flushed
    rw [hin]
    show writeBack c (ctBegun q (flushWait k d)) = _
    unfold writeBack
    rw [hline]
    exact if_pos hd
  have hput : (flushed (ctBegun q (flushWait k d)) d.target.toNat (flushCount q d)).hostMem = (entryPut q (entryAddr q c) l.data).hostMem := by
    rw [hflushed]
    unfold ctBegun
    rw [entryPut_ct]
    rfl
  unfold flushLeft
  dsimp only
  split
  · exact (dropUnpinned_hostMem ..).trans hput
  · exact hput

/-- The operands of a CE_INVALIDATE. -/
def invalidateWait (k : Ticket) (d : Desc) : CtWait := CtWait.of k 2 d.target.toNat (opn d 16 0 32) (bitOf d.ops 32)

theorem exec_ceInvalidate (h : Taken specCeInvalidate rq d s q k) : exec (.ceInvalidate rq d) s = .next (ctSubmit q (invalidateWait k d)) :=
  congrArg Host.Outcome.next (command_taken h)

theorem invalidate_inRange (q : State) (k : Ticket) (d : Desc) :
    ctInRange q (invalidateWait k d) = decide (d.target.toNat + opn d 16 0 32 ≤ q.ct.count) := Bool.and_true _

theorem exec_ceInvalidate_range (h : Taken specCeInvalidate rq d s q k) (hw : q.ct.waits = []) (hb : q.ox.inFlight = [])
    (hr : q.ct.count < d.target.toNat + opn d 16 0 32) : exec (.ceInvalidate rq d) s = .next (complete q k stRange 0) := by
  have hout : ctInRange q (invalidateWait k d) = false := (invalidate_inRange ..).trans (decide_eq_false (by omega))
  have hm : ctMeaning (invalidateWait k d) (ctBegun q (invalidateWait k d)) = (ctBegun q (invalidateWait k d), some (stRange, 0)) :=
    ceInvalidate_range (w := invalidateWait k d) (s := ctBegun q (invalidateWait k d)) hr
  rw [exec_ceInvalidate h, ctSubmit_answers hw (by rw [hout, Bool.and_false]) (ctBlocked_noBatch hb) hm]
  rfl

theorem exec_ceInvalidate_held (h : Taken specCeInvalidate rq d s q k) (hw : q.ct.waits = []) (hn : d.target.toNat + opn d 16 0 32 ≤ q.ct.count)
    (hh : q.ct.hold = true) (hbit : bitOf d.ops 32 = true) : exec (.ceInvalidate rq d) s = .next (complete q k stRefused 0) := by
  have hheld : (ctHeld q (invalidateWait k d) && ctInRange q (invalidateWait k d)) = true := by
    rw [(invalidate_inRange ..).trans (decide_eq_true hn), Bool.and_true]
    simp [ctHeld, hh, invalidateWait, CtWait.of, hbit]
  rw [exec_ceInvalidate h, ctSubmit_held hw hheld]
  rfl

theorem exec_ceInvalidate_waits (h : Taken specCeInvalidate rq d s q k) (hw : q.ct.waits = []) (hn : d.target.toNat + opn d 16 0 32 ≤ q.ct.count)
    (hh : q.ct.hold = false) (hbit : bitOf d.ops 32 = true) (hd : dirtyIn q d.target.toNat (opn d 16 0 32) ≠ 0) (ht : tableReach q = false) :
    ∃ w, w.ticket = k ∧ exec (.ceInvalidate rq d) s = .next { q with ct := { q.ct with waits := [w] } } := by
  have hm : ctMeaning (invalidateWait k d) (ctBegun q (invalidateWait k d)) = (ctBegun q (invalidateWait k d), none) := by
    refine (ceInvalidate_inRange (w := invalidateWait k d) (s := ctBegun q (invalidateWait k d)) hn).trans (if_pos ?_)
    rw [dirtyIn_begun, show tableReach (ctBegun q (invalidateWait k d)) = false from ht, show (invalidateWait k d).bit = true from hbit]
    exact Bool.and_eq_true_iff.mpr ⟨decide_eq_true hd, rfl⟩
  exact ⟨invalidateWait k d, rfl, by rw [exec_ceInvalidate h, ctSubmit_waits hw (ctHeld_of_free hh) (.inr hm)]⟩

theorem exec_ceInvalidate_done (h : Taken specCeInvalidate rq d s q k) (hw : q.ct.waits = []) (hb : q.ox.inFlight = [])
    (hn : d.target.toNat + opn d 16 0 32 ≤ q.ct.count) (hok : bitOf d.ops 32 = false ∨
      (q.ct.hold = false ∧ (dirtyIn q d.target.toNat (opn d 16 0 32) = 0 ∨ tableReach q = true))) : exec (.ceInvalidate rq d) s =
      .next (complete (ctSettled q (invalidated (ctBegun q (invalidateWait k d)) (invalidateWait k d))) k stSuccess
        (BitVec.ofNat 64 (countIf (fun e : Nat × Line => d.target.toNat ≤ e.1 && e.1 < d.target.toNat + opn d 16 0 32) q.ct.cache))) := by
  have hheld : (ctHeld q (invalidateWait k d) && ctInRange q (invalidateWait k d)) = false := by
    rcases hok with hbit | ⟨hh, -⟩
    · simp [ctHeld, invalidateWait, CtWait.of, hbit]
    · exact ctHeld_of_free hh
  have hm : ctMeaning (invalidateWait k d) (ctBegun q (invalidateWait k d)) = (invalidated (ctBegun q (invalidateWait k d)) (invalidateWait k d),
      some (stSuccess, BitVec.ofNat 64 (cachedIn q d.target.toNat (opn d 16 0 32)).length)) := by
    refine (ceInvalidate_inRange (w := invalidateWait k d) (s := ctBegun q (invalidateWait k d)) hn).trans (if_neg ?_)
    rw [dirtyIn_begun, show tableReach (ctBegun q (invalidateWait k d)) = tableReach q from rfl,
      show (invalidateWait k d).bit = bitOf d.ops 32 from rfl, show dirtyIn q (invalidateWait k d).first (invalidateWait k d).count =
        dirtyIn q d.target.toNat (opn d 16 0 32) from rfl]
    rcases hok with hbit | ⟨-, hd | hd⟩
    · simp [hbit]
    · simp [hd]
    · simp [hd]
  rw [exec_ceInvalidate h, ctSubmit_ends hw hheld (ctBlocked_noBatch hb) hm]
  rfl

/-- Without WRITEBACK_FIRST nothing is written. -/
theorem invalidated_sameBytes (hbit : bitOf d.ops 32 = false) :
    SameBytes q (ctSettled q (invalidated (ctBegun q (invalidateWait k d)) (invalidateWait k d))) := by
  have hdrop : ∀ (cs : List Nat) (x : State), (dropLines cs x).hostMem = x.hostMem ∧ (dropLines cs x).mpSram = x.mpSram ∧ (dropLines cs x).flash = x.flash :=
    fun cs x => ⟨forEach_same State.hostMem cs x fun _ _ => rfl, forEach_same State.mpSram cs x fun _ _ => rfl, forEach_same State.flash cs x fun _ _ => rfl⟩
  have hbit' : (invalidateWait k d).bit = false := hbit
  unfold invalidated ctSettled SameBytes hostByte sramByte flashByteAt
  rw [hbit', if_neg Bool.false_ne_true]
  intro a
  obtain ⟨h1, h2, h3⟩ := hdrop ((cachedIn (ctBegun q (invalidateWait k d)) (invalidateWait k d).first (invalidateWait k d).count).map Prod.fst)
    (ctBegun q (invalidateWait k d))
  dsimp only
  rw [h1, h2, h3]
  exact ⟨rfl, rfl, rfl⟩

/-! ### CE_UPDATE (R128, R129, R133) -/

/-- The operands of a CE_UPDATE. -/
def updateWait (k : Ticket) (q : State) (rq : Requester) (d : Desc) (hf tf : Bool) (bad : List Nat) : CtWait :=
  { CtWait.of k 1 d.target.toNat 1 false with
    src := BitVec.ofNat 2048 (leNat (cmdRead q rq d.addr.toNat 256)), mask := d.ops.setWidth 256
    srcFault := hf, tabFault := tf, bad := bad }

section
variable {hf tf : Bool} {bad : List Nat}

theorem exec_ceUpdate (h : Taken specCeUpdate rq d s q k) :
    exec (.ceUpdate rq d hf tf bad) s = .next (ctSubmit q (updateWait k q rq d hf tf bad)) := congrArg Host.Outcome.next (command_taken h)

theorem update_inRange (q : State) : ctInRange q (updateWait k q rq d hf tf bad) = decide (d.target.toNat < q.ct.count) := Bool.and_true _

theorem update_blocked (q : State) : ctBlocked q (updateWait k q rq d hf tf bad) = inBatch q d.target.toNat := by
  rw [Bool.eq_iff_iff]
  show (true && q.ox.inFlight.any fun b => decide (d.target.toNat < 496 * b + 496) && decide (496 * b < d.target.toNat + 1)) = true ↔ _
  simp only [Bool.true_and, List.any_eq_true, Bool.and_eq_true, decide_eq_true_eq, inBatch, List.contains_iff_mem]
  constructor
  · rintro ⟨b, hb, h1, h2⟩
    rwa [show d.target.toNat / 496 = b by omega]
  · exact fun hb => ⟨_, hb, by omega, by omega⟩

theorem exec_ceUpdate_range (h : Taken specCeUpdate rq d s q k) (hw : q.ct.waits = []) (hr : q.ct.count ≤ d.target.toNat) :
    exec (.ceUpdate rq d hf tf bad) s = .next (complete q k stRange 0) := by
  have hout : ctInRange q (updateWait k q rq d hf tf bad) = false := (update_inRange ..).trans (decide_eq_false (by omega))
  have hm : ctMeaning (updateWait k q rq d hf tf bad) (ctBegun q (updateWait k q rq d hf tf bad)) =
      (ctBegun q (updateWait k q rq d hf tf bad), some (stRange, 0)) := if_pos hr
  rw [exec_ceUpdate h, ctSubmit_answers hw (by rw [hout, Bool.and_false]) (by rw [hout, Bool.and_false]) hm]
  rfl

theorem exec_ceUpdate_held (h : Taken specCeUpdate rq d s q k) (hw : q.ct.waits = []) (hc : d.target.toNat < q.ct.count) (hh : q.ct.hold = true) :
    exec (.ceUpdate rq d hf tf bad) s = .next (complete q k stRefused 0) := by
  have hheld : (ctHeld q (updateWait k q rq d hf tf bad) && ctInRange q (updateWait k q rq d hf tf bad)) = true := by
    rw [(update_inRange ..).trans (decide_eq_true hc), Bool.and_true]
    simp [ctHeld, hh, updateWait, CtWait.of]
  rw [exec_ceUpdate h, ctSubmit_held hw hheld]
  rfl

theorem exec_ceUpdate_waits (h : Taken specCeUpdate rq d s q k) (hw : q.ct.waits = []) (hc : d.target.toNat < q.ct.count) (hh : q.ct.hold = false)
    (hb : inBatch q d.target.toNat = true) :
    ∃ w, w.ticket = k ∧ exec (.ceUpdate rq d hf tf bad) s = .next { q with ct := { q.ct with waits := [w] } } := by
  have hblocked : (ctBlocked q (updateWait k q rq d hf tf bad) && ctInRange q (updateWait k q rq d hf tf bad)) = true := by
    rw [update_blocked, hb, (update_inRange ..).trans (decide_eq_true hc)]
    rfl
  exact ⟨_, rfl, by rw [exec_ceUpdate h, ctSubmit_waits hw (ctHeld_of_free hh) (.inl hblocked)]⟩

/-- The rebuild bars an update of bytes 0–63. -/
def updateBarred (s : State) (w : CtWait) : Bool := (s.ct.mule.phase = 1 || s.ct.mule.phase = 3) && bitsOf w.mask 0 64 ≠ 0

theorem ceUpdate_barred (hc : w.first < s.ct.count) (hb : updateBarred s w = true) : ceUpdate s w = (s, some (stRefused, 0)) := by
  unfold ceUpdate
  dsimp only
  rw [if_neg (Nat.not_le.mpr hc)]
  exact if_pos hb

theorem ceUpdate_sourceFault (hc : w.first < s.ct.count) (hb : updateBarred s w = false) (hs : w.srcFault = true) :
    ceUpdate s w = (s, some (stHostAccess, 0)) := by
  have hb' : ¬ ((s.ct.mule.phase = 1 || s.ct.mule.phase = 3) && bitsOf w.mask 0 64 ≠ 0) = true := ne_true_of_eq_false hb
  unfold ceUpdate
  dsimp only
  rw [if_neg (Nat.not_le.mpr hc), if_neg hb', if_pos hs]

/-- The entry does not come. -/
theorem ceUpdate_failed (hc : w.first < s.ct.count) (hb : updateBarred s w = false) (hs : w.srcFault = false) (hf : updateFetch s w = (t, some false)) :
    ceUpdate s w = fetchFailed t w := by
  have hb' : ¬ ((s.ct.mule.phase = 1 || s.ct.mule.phase = 3) && bitsOf w.mask 0 64 ≠ 0) = true := ne_true_of_eq_false hb
  unfold ceUpdate
  dsimp only
  rw [if_neg (Nat.not_le.mpr hc), if_neg hb', if_neg (ne_true_of_eq_false hs), hf]

/-- The merged entry. -/
def updateMerged (w : CtWait) (l : Line) : Entry := mergeMask l.data w.src (byteMask w.mask)

/-- An update that would change the identity. -/
theorem ceUpdate_refused {l : Line} (hc : w.first < s.ct.count) (hb : updateBarred s w = false) (hs : w.srcFault = false)
    (hf : updateFetch s w = (t, some true)) (hl : line t w.first = some l) (hk : keepsIdentity t w.first l.data (updateMerged w l) = false) :
    ceUpdate s w = ((if (line s w.first).isNone && fullMask w.mask then dropLine t w.first else t), some (stRefused, 0)) := by
  have hb' : ¬ ((s.ct.mule.phase = 1 || s.ct.mule.phase = 3) && bitsOf w.mask 0 64 ≠ 0) = true := ne_true_of_eq_false hb
  unfold ceUpdate
  dsimp only
  rw [if_neg (Nat.not_le.mpr hc), if_neg hb', if_neg (ne_true_of_eq_false hs), hf]
  dsimp only
  rw [hl]
  exact if_pos (by rw [show mergeMask l.data w.src (byteMask w.mask) = updateMerged w l from rfl, hk]; rfl)

/-- The entry as updated, dirty in the cache. -/
def updated (s : State) (w : CtWait) (l : Line) : State :=
  let s2 := setLine s w.first { l with data := eSeal (updateMerged w l), dirty := true }
  { s2 with ct := { s2.ct with excluded := if fullMask w.mask then s2.ct.excluded.filter (· ≠ w.first) else s2.ct.excluded } }

theorem logChange_idle (c : Nat) (h : s.ct.mule.phase = 0) : logChange c s = s := by
  unfold logChange
  dsimp only
  rw [h]
  rfl

theorem ceUpdate_done {l : Line} (hc : w.first < s.ct.count) (hb : updateBarred s w = false) (hs : w.srcFault = false)
    (hf : updateFetch s w = (t, some true)) (hl : line t w.first = some l) (hk : keepsIdentity t w.first l.data (updateMerged w l) = true)
    (hm : t.ct.mule.phase = 0) :
    ceUpdate s w = (updated t w l, some (stSuccess, BitVec.ofNat 64 (eN (eSeal (updateMerged w l)) 248 4))) := by
  have hb' : ¬ ((s.ct.mule.phase = 1 || s.ct.mule.phase = 3) && bitsOf w.mask 0 64 ≠ 0) = true := ne_true_of_eq_false hb
  have hlog : logChange w.first (updated t w l) = updated t w l := logChange_idle _ hm
  unfold ceUpdate
  dsimp only
  rw [if_neg (Nat.not_le.mpr hc), if_neg hb', if_neg (ne_true_of_eq_false hs), hf]
  dsimp only
  rw [hl]
  refine (if_neg (by rw [show mergeMask l.data w.src (byteMask w.mask) = updateMerged w l from rfl, hk]; decide)).trans ?_
  refine Prod.ext ?_ rfl
  show (if _ then logChange w.first (updated t w l) else updated t w l) = updated t w l
  rw [hlog, ite_self]

/-- The identity and the generation are those of the table. -/
def sameIdentity (s : State) (c : Nat) (e : Entry) : Prop :=
  dirIdentity s.ct.dir c = some (eKind e, eNode e, eTap e) ∧ eGen e = s.ct.gen.toNat

theorem sameIdentity_congr {c : Nat} {e : Entry} (hd : t.ct.dir = s.ct.dir) (hg : t.ct.gen = s.ct.gen) (h : sameIdentity s c e) : sameIdentity t c e := by
  unfold sameIdentity
  rw [hd, hg]
  exact h

theorem keepsIdentity_of_same {c : Nat} {old new : Entry} (h : sameIdentity s c new) : keepsIdentity s c old new = true := by
  obtain ⟨hd, hg⟩ := h
  unfold keepsIdentity
  rw [hd]
  simp [hg]

theorem not_keepsIdentity {c : Nat} {old new : Entry} (hd : (dirIdentity s.ct.dir c).isSome = true) (h : ¬ sameIdentity s c new) :
    keepsIdentity s c old new = false := by
  obtain ⟨⟨k, n, j⟩, hd⟩ := Option.isSome_iff_exists.mp hd
  unfold keepsIdentity
  rw [hd]
  refine Bool.eq_false_iff.mpr fun hk => h ?_
  simp only [Bool.and_eq_true, decide_eq_true_eq] at hk
  obtain ⟨⟨⟨h1, h2⟩, h3⟩, h4⟩ := hk
  exact ⟨by rw [hd, h1, h2, h3], h4⟩

/-- A cached line is used. -/
theorem updateFetch_cached {l : Line} (hl : line s w.first = some l) : updateFetch s w = (useLine s w.first l, some true) := by
  unfold updateFetch
  dsimp only
  rw [hl]
  unfold fetchChannel
  rw [hl]
  simp only [Option.isSome_some, if_true, Bool.or_false]

/-- An entry not cached comes from its host copy, with every byte to be replaced. -/
theorem updateFetch_full {v : Nat} (hl : line s w.first = none) (hf : w.tabFault = false) (hm : fullMask w.mask = true) (ht : tableReach s = true)
    (hv : freeWay s w.first = some v) :
    updateFetch s w = (putLine s w.first v (entryAt s (entryAddr s w.first)) false false false, some true) := by
  have htake : takeWay s w.first = some (s, v) := by
    unfold takeWay
    rw [hv]
  unfold updateFetch
  dsimp only
  rw [hl, hf, hm, ht, htake]
  rfl

theorem updateFetch_fault (hl : line s w.first = none) (hf : w.tabFault = true) (ht : tableReach s = true) : updateFetch s w = (s, some false) := by
  unfold updateFetch
  dsimp only
  rw [hl, hf, ht]
  rfl

theorem line_useLine_self (s : State) (c : Nat) (l : Line) : line (useLine s c l) c = some { l with used := s.ct.clock } := line_setLine_self ..

theorem line_useLine_other (s : State) {c j : Nat} (l : Line) (h : j ≠ c) : line (useLine s c l) j = line s j := line_setLine_other _ _ _ _ h

theorem line_updated_self (l : Line) : line (updated t w l) w.first = some { l with data := eSeal (updateMerged w l), dirty := true } :=
  line_setLine_self ..

theorem line_updated_other (l : Line) {j : Nat} (h : j ≠ w.first) : line (updated t w l) j = line t j := line_setLine_other _ _ _ _ h

theorem not_excluded_updated (l : Line) (h : fullMask w.mask = true) : w.first ∉ (updated t w l).ct.excluded := by
  show w.first ∉ (if fullMask w.mask = true then t.ct.excluded.filter (· ≠ w.first) else t.ct.excluded)
  rw [if_pos h]
  simp

/-- A CE_UPDATE that neither HOLD nor a batch keeps from running ends as its meaning says. -/
theorem exec_ceUpdate_ends {st : Nat} {r : DWord} (h : Taken specCeUpdate rq d s q k) (hw : q.ct.waits = []) (hh : q.ct.hold = false)
    (hb : inBatch q d.target.toNat = false) (hm : ceUpdate (ctBegun q (updateWait k q rq d hf tf bad)) (updateWait k q rq d hf tf bad) =
      (t, some (st, r))) : exec (.ceUpdate rq d hf tf bad) s = .next (complete (ctSettled q t) k st r) := by
  have hm' : ctMeaning (updateWait k q rq d hf tf bad) (ctBegun q (updateWait k q rq d hf tf bad)) = (t, some (st, r)) := hm
  rw [exec_ceUpdate h, ctSubmit_ends hw (ctHeld_of_free hh) (by rw [update_blocked, hb]; rfl) hm']
  rfl

theorem updateBarred_iff : updateBarred t (updateWait k q rq d hf tf bad) = true ↔
    (t.ct.mule.phase = 1 ∨ t.ct.mule.phase = 3) ∧ bitsOf (d.ops.setWidth 256 : BitVec 256) 0 64 ≠ 0 := by
  unfold updateBarred
  rw [Bool.and_eq_true, Bool.or_eq_true]
  exact and_congr (or_congr decide_eq_true_iff decide_eq_true_iff) decide_eq_true_iff

theorem exec_ceUpdate_barred (h : Taken specCeUpdate rq d s q k) (hw : q.ct.waits = []) (hh : q.ct.hold = false) (hb : inBatch q d.target.toNat = false)
    (hc : d.target.toNat < q.ct.count) (hx : (q.ct.mule.phase = 1 ∨ q.ct.mule.phase = 3) ∧ bitsOf (d.ops.setWidth 256 : BitVec 256) 0 64 ≠ 0) :
    exec (.ceUpdate rq d hf tf bad) s = .next (complete q k stRefused 0) := by
  rw [exec_ceUpdate_ends h hw hh hb (ceUpdate_barred (s := ctBegun q _) hc (updateBarred_iff.mpr hx)), ctSettled_begun hw]

/-- Nothing bars it. -/
theorem updateBarred_begun (hx : ¬ ((q.ct.mule.phase = 1 ∨ q.ct.mule.phase = 3) ∧ bitsOf (d.ops.setWidth 256 : BitVec 256) 0 64 ≠ 0)) :
    updateBarred (ctBegun q (updateWait k q rq d hf tf bad)) (updateWait k q rq d hf tf bad) = false :=
  Bool.eq_false_iff.mpr fun hb => hx (updateBarred_iff.mp hb)

theorem exec_ceUpdate_sourceFault (h : Taken specCeUpdate rq d s q k) (hw : q.ct.waits = []) (hh : q.ct.hold = false)
    (hb : inBatch q d.target.toNat = false) (hc : d.target.toNat < q.ct.count)
    (hx : ¬ ((q.ct.mule.phase = 1 ∨ q.ct.mule.phase = 3) ∧ bitsOf (d.ops.setWidth 256 : BitVec 256) 0 64 ≠ 0)) :
    exec (.ceUpdate rq d true tf bad) s = .next (complete q k stHostAccess 0) := by
  rw [exec_ceUpdate_ends h hw hh hb (ceUpdate_sourceFault (s := ctBegun q _) hc (updateBarred_begun hx) rfl), ctSettled_begun hw]

theorem exec_ceUpdate_tableFault (h : Taken specCeUpdate rq d s q k) (hw : q.ct.waits = []) (hh : q.ct.hold = false)
    (hb : inBatch q d.target.toNat = false) (hc : d.target.toNat < q.ct.count)
    (hx : ¬ ((q.ct.mule.phase = 1 ∨ q.ct.mule.phase = 3) ∧ bitsOf (d.ops.setWidth 256 : BitVec 256) 0 64 ≠ 0))
    (hl : line q d.target.toNat = none) (ht : tableReach q = true) :
    exec (.ceUpdate rq d false true bad) s = .next (complete (ctHostErr q) k stHostAccess 0) := by
  have hfetch := updateFetch_fault (s := ctBegun q (updateWait k q rq d false true bad)) (w := updateWait k q rq d false true bad) hl rfl ht
  rw [exec_ceUpdate_ends h hw hh hb (ceUpdate_failed hc (updateBarred_begun hx) rfl hfetch), ctSettled_hostErr hw]

/-- No rebuild, so nothing barred. -/
theorem not_updateBarred (hp : q.ct.mule.phase = 0) :
    ¬ ((q.ct.mule.phase = 1 ∨ q.ct.mule.phase = 3) ∧ bitsOf (d.ops.setWidth 256 : BitVec 256) 0 64 ≠ 0) := by
  rw [hp]
  rintro ⟨h | h, -⟩ <;> cases h

end

end

end Sys2Proof.Machine
end

section
/-! PROOFS. What CE_UPDATE and CE_PIN leave, and the statement on the commands of the channel table. -/

namespace Sys2Proof.Machine

variable {s q t u : State} {k : Ticket} {w : CtWait}

section
variable {rq : Requester} {d : Desc} {hf tf : Bool} {bad : List Nat}

/-- At most the channel table differs. -/
def OnlyTable (s t : State) : Prop := t = { s with ct := t.ct }

theorem OnlyTable.trans (h1 : OnlyTable s t) (h2 : OnlyTable t u) : OnlyTable s u := by
  unfold OnlyTable at *
  rw [h2, h1]

theorem OnlyTable.sameBytes (h : OnlyTable s t) : SameBytes s t := by
  unfold OnlyTable at h
  rw [h]
  exact fun _ => ⟨rfl, rfl, rfl⟩

theorem ctBegun_onlyTable (q : State) (w : CtWait) : OnlyTable q (ctBegun q w) := rfl
theorem ctSettled_onlyTable (q t : State) : OnlyTable t (ctSettled q t) := rfl
theorem useLine_onlyTable (s : State) (c : Nat) (l : Line) : OnlyTable s (useLine s c l) := rfl
theorem updated_onlyTable (s : State) (w : CtWait) (l : Line) : OnlyTable s (updated s w l) := rfl
/-- A cached line as CE_UPDATE leaves it, and what it leaves with it. -/
def updatedCached (q : State) (w : CtWait) (l : Line) : State :=
  ctSettled q (updated (useLine (ctBegun q w) w.first l) w { l with used := q.ct.clock })

theorem exec_ceUpdate_cached {l : Line} (h : Taken specCeUpdate rq d s q k) (hw : q.ct.waits = []) (hh : q.ct.hold = false)
    (hb : inBatch q d.target.toNat = false) (hc : d.target.toNat < q.ct.count) (hp : q.ct.mule.phase = 0) (hl : line q d.target.toNat = some l)
    (hsame : sameIdentity q d.target.toNat (updateMerged (updateWait k q rq d false tf bad) l)) :
    exec (.ceUpdate rq d false tf bad) s = .next (complete (updatedCached q (updateWait k q rq d false tf bad) l) k stSuccess
      (BitVec.ofNat 64 (eN (eSeal (updateMerged (updateWait k q rq d false tf bad) l)) 248 4))) := by
  have hsame' : sameIdentity (useLine (ctBegun q (updateWait k q rq d false tf bad)) d.target.toNat l) d.target.toNat
      (updateMerged (updateWait k q rq d false tf bad) { l with used := q.ct.clock }) := sameIdentity_congr (s := q) rfl rfl hsame
  have hm := ceUpdate_done (s := ctBegun q (updateWait k q rq d false tf bad)) hc (updateBarred_begun (not_updateBarred hp)) rfl
    (updateFetch_cached (s := ctBegun q (updateWait k q rq d false tf bad)) hl) (line_useLine_self ..) (keepsIdentity_of_same hsame') hp
  have hused : updateMerged (updateWait k q rq d false tf bad) { l with used := (ctBegun q (updateWait k q rq d false tf bad)).ct.clock } =
      updateMerged (updateWait k q rq d false tf bad) l := rfl
  rw [hused] at hm
  exact exec_ceUpdate_ends h hw hh hb hm

theorem updatedCached_sameBytes (q : State) (w : CtWait) (l : Line) : SameBytes q (updatedCached q w l) :=
  ((((ctBegun_onlyTable q w).trans (useLine_onlyTable ..)).trans (updated_onlyTable ..)).trans (ctSettled_onlyTable q _)).sameBytes

theorem line_updatedCached (q : State) (w : CtWait) (l : Line) {j : Nat} (hj : j ≠ w.first) : line (updatedCached q w l) j = line q j :=
  (line_updated_other (w := w) (t := useLine (ctBegun q w) w.first l) _ hj).trans (line_useLine_other (ctBegun q w) l hj)

theorem updateMerged_used (w : CtWait) (l : Line) (n : Nat) : updateMerged w { l with used := n } = updateMerged w l := rfl

theorem line_ctSettled (q t : State) (c : Nat) : line (ctSettled q t) c = line t c := rfl
theorem ctSettled_excluded (q t : State) : (ctSettled q t).ct.excluded = t.ct.excluded := rfl

theorem line_updatedCached_self (q : State) (w : CtWait) (l : Line) : line (updatedCached q w l) w.first =
    some { l with data := eSeal (updateMerged w l), dirty := true, used := q.ct.clock } := by
  unfold updatedCached
  rw [line_ctSettled, line_updated_self, updateMerged_used]

theorem not_excluded_updatedCached (q : State) (w : CtWait) (l : Line) (hm : fullMask w.mask = true) :
    w.first ∉ (updatedCached q w l).ct.excluded := by
  unfold updatedCached
  rw [ctSettled_excluded]
  exact not_excluded_updated _ hm

/-- A refused CE_UPDATE of a cached line has used it. -/
theorem exec_ceUpdate_cached_refused {l : Line} (h : Taken specCeUpdate rq d s q k) (hw : q.ct.waits = []) (hh : q.ct.hold = false)
    (hb : inBatch q d.target.toNat = false) (hc : d.target.toNat < q.ct.count) (hp : q.ct.mule.phase = 0) (hl : line q d.target.toNat = some l)
    (hid : (dirIdentity q.ct.dir d.target.toNat).isSome = true)
    (hsame : ¬ sameIdentity q d.target.toNat (updateMerged (updateWait k q rq d false tf bad) l)) :
    exec (.ceUpdate rq d false tf bad) s =
      .next (complete (ctSettled q (useLine (ctBegun q (updateWait k q rq d false tf bad)) d.target.toNat l)) k stRefused 0) := by
  have hm := ceUpdate_refused (s := ctBegun q (updateWait k q rq d false tf bad)) hc (updateBarred_begun (not_updateBarred hp)) rfl
    (updateFetch_cached (s := ctBegun q _) hl) (line_useLine_self ..) (not_keepsIdentity hid hsame)
  have hsome : (line (ctBegun q (updateWait k q rq d false tf bad)) (updateWait k q rq d false tf bad).first).isNone = false :=
    congrArg Option.isNone hl
  rw [hsome, Bool.false_and, if_neg Bool.false_ne_true] at hm
  exact exec_ceUpdate_ends h hw hh hb hm

theorem line_useLine_data (s : State) {c : Nat} {l : Line} (hl : line s c = some l) (j : Nat) :
    (line (useLine s c l) j).map Line.data = (line s j).map Line.data := by
  by_cases hj : j = c
  · subst hj
    rw [line_useLine_self, hl]
    rfl
  · rw [line_useLine_other s l hj]

theorem lineUsed_sameBytes (q : State) (w : CtWait) (c : Nat) (l : Line) : SameBytes q (ctSettled q (useLine (ctBegun q w) c l)) :=
  (((ctBegun_onlyTable q w).trans (useLine_onlyTable ..)).trans (ctSettled_onlyTable q _)).sameBytes

theorem line_lineUsed_data {w : CtWait} {c : Nat} {l : Line} (hl : line q c = some l) (j : Nat) :
    (line (ctSettled q (useLine (ctBegun q w) c l)) j).map Line.data = (line q j).map Line.data := by
  rw [line_ctSettled]
  exact line_useLine_data (ctBegun q w) hl j

/-- An entry that CE_UPDATE replaces as a whole, and what it leaves with it. -/
def updatedFull (q : State) (w : CtWait) (v : Nat) : State :=
  let e := entryAt q (entryAddr q w.first)
  ctSettled q (updated (putLine (ctBegun q w) w.first v e false false false) w
    { data := e, way := v, dirty := false, pinned := false, reserved := false, used := q.ct.clock })

theorem exec_ceUpdate_full {v : Nat} {l : Line} (h : Taken specCeUpdate rq d s q k) (hw : q.ct.waits = []) (hh : q.ct.hold = false)
    (hb : inBatch q d.target.toNat = false) (hc : d.target.toNat < q.ct.count) (hp : q.ct.mule.phase = 0) (hl : line q d.target.toNat = none)
    (ht : tableReach q = true) (hv : freeWay q d.target.toNat = some v) (hm : fullMask (d.ops.setWidth 256) = true)
    (hdata : l.data = entryAt q (entryAddr q d.target.toNat))
    (hsame : sameIdentity q d.target.toNat (updateMerged (updateWait k q rq d false false bad) l)) :
    exec (.ceUpdate rq d false false bad) s = .next (complete (updatedFull q (updateWait k q rq d false false bad) v) k stSuccess
      (BitVec.ofNat 64 (eN (eSeal (updateMerged (updateWait k q rq d false false bad) l)) 248 4))) := by
  have hmerged : updateMerged (updateWait k q rq d false false bad) l = updateMerged (updateWait k q rq d false false bad)
      { data := entryAt q (entryAddr q d.target.toNat), way := v, dirty := false, pinned := false, reserved := false, used := q.ct.clock } :=
    congrArg (fun x => mergeMask x _ _) hdata
  rw [hmerged] at hsame ⊢
  have hsame' : sameIdentity (putLine (ctBegun q (updateWait k q rq d false false bad)) d.target.toNat v (entryAt q (entryAddr q d.target.toNat)) false false false)
      d.target.toNat (updateMerged (updateWait k q rq d false false bad)
        { data := entryAt q (entryAddr q d.target.toNat), way := v, dirty := false, pinned := false, reserved := false, used := q.ct.clock }) :=
    sameIdentity_congr (s := q) rfl rfl hsame
  have hm := ceUpdate_done (s := ctBegun q (updateWait k q rq d false false bad)) hc (updateBarred_begun (not_updateBarred hp)) rfl
    (updateFetch_full (s := ctBegun q (updateWait k q rq d false false bad)) hl rfl hm ht hv) (line_useLine_self ..) (keepsIdentity_of_same hsame') hp
  exact exec_ceUpdate_ends h hw hh hb hm

theorem line_updatedFull_self (q : State) (w : CtWait) (v : Nat) : line (updatedFull q w v) w.first =
    some { data := eSeal (mergeMask (entryAt q (entryAddr q w.first)) w.src (byteMask w.mask)), way := v, dirty := true, pinned := false,
           reserved := false, used := q.ct.clock } := by
  unfold updatedFull
  rw [line_ctSettled, line_updated_self, updateMerged]

theorem not_excluded_updatedFull (q : State) (w : CtWait) (v : Nat) (hm : fullMask w.mask = true) :
    w.first ∉ (updatedFull q w v).ct.excluded := by
  unfold updatedFull
  rw [ctSettled_excluded]
  exact not_excluded_updated _ hm

theorem updatedFull_sameBytes (q : State) (w : CtWait) (v : Nat) : SameBytes q (updatedFull q w v) :=
  ((((ctBegun_onlyTable q w).trans (useLine_onlyTable ..)).trans (updated_onlyTable ..)).trans (ctSettled_onlyTable q _)).sameBytes

end

section
variable {rq : Requester} {d : Desc}

/-! ### CE_PIN (R126) -/

/-- The pins of a list of channels are taken away. -/
def unpinned (cs : List Nat) (s : State) : State :=
  forEach cs (fun c q => match line q c with | some l => setLine q c { l with pinned := false } | none => q) s

theorem unpinned_onlyTable (cs : List Nat) (s : State) : OnlyTable s (unpinned cs s) :=
  forEach_induct (P := OnlyTable s) rfl fun _ _ _ hq => hq.trans (by split <;> rfl)

theorem line_unpinned (c : Nat) : ∀ (cs : List Nat) (s : State),
    line (unpinned cs s) c = (line s c).map fun l => { l with pinned := l.pinned && !cs.contains c }
  | [], s => by
    have hid : ∀ l : Line, { l with pinned := l.pinned && !([] : List Nat).contains c } = l := fun l => by simp
    simp only [hid, Option.map_id']
    rfl
  | j :: cs, s => by
    have hstep : ∀ q : State, line (match line q j with | some l => setLine q j { l with pinned := false } | none => q) c =
        if c = j then (line q j).map fun l => { l with pinned := false } else line q c := by
      intro q
      by_cases hj : c = j
      · subst hj
        rw [if_pos rfl]
        cases hl : line q c with
        | none => exact hl
        | some l => exact line_setLine_self ..
      · rw [if_neg hj]
        cases hl : line q j with
        | none => rfl
        | some l => exact line_setLine_other _ _ _ _ hj
    show line (unpinned cs _) c = _
    rw [line_unpinned c cs, hstep s]
    by_cases hj : c = j
    · subst hj
      rw [if_pos rfl, Option.map_map]
      simp [Function.comp_def]
    · simp [hj]

/-- The operands of a CE_PIN. -/
def pinWait (k : Ticket) (d : Desc) (tf : Bool) (bad : List Nat) : CtWait :=
  { CtWait.of k 3 d.target.toNat (opn d 16 0 32) (bitOf d.ops 32) with tabFault := tf, bad := bad }

section
variable {tf : Bool} {bad : List Nat}

theorem exec_cePin (h : Taken specCePin rq d s q k) : exec (.cePin rq d tf bad) s = .next (ctSubmit q (pinWait k d tf bad)) :=
  congrArg Host.Outcome.next (command_taken h)

theorem pin_inRange (q : State) : ctInRange q (pinWait k d tf bad) = decide (d.target.toNat + opn d 16 0 32 ≤ q.ct.count) := Bool.and_true _

/-- A CE_PIN that HOLD does not keep from running ends as its meaning says. -/
theorem exec_cePin_ends {st : Nat} {r : DWord} (h : Taken specCePin rq d s q k) (hw : q.ct.waits = [])
    (hh : (ctHeld q (pinWait k d tf bad) && ctInRange q (pinWait k d tf bad)) = false)
    (hm : cePin (ctBegun q (pinWait k d tf bad)) (pinWait k d tf bad) = (t, some (st, r))) :
    exec (.cePin rq d tf bad) s = .next (complete (ctSettled q t) k st r) := by
  have hm' : ctMeaning (pinWait k d tf bad) (ctBegun q (pinWait k d tf bad)) = (t, some (st, r)) := hm
  rw [exec_cePin h, ctSubmit_ends hw hh rfl hm']
  rfl

theorem cePin_range (h : s.ct.count < w.first + w.count) : cePin s w = (s, some (stNotPresent, 0)) := if_pos h

/-- The channels that a CE_PIN names. -/
def pinChannels (w : CtWait) : List Nat := (List.range w.count).map (· + w.first)

theorem mem_pinChannels {c : Nat} : c ∈ pinChannels w ↔ w.first ≤ c ∧ c < w.first + w.count := by
  simp only [pinChannels, List.mem_map, List.mem_range]
  constructor
  · rintro ⟨i, hi, rfl⟩
    omega
  · exact fun ⟨h1, h2⟩ => ⟨c - w.first, by omega, by omega⟩

/-- CE_PIN with pin = 0. -/
def pinsTaken (s : State) (w : CtWait) : State :=
  let s1 := unpinned (pinChannels w) s
  { s1 with ct := { s1.ct with repin := s1.ct.repin.filter fun c => !(pinChannels w).contains c } }

theorem cePin_unpin (h : w.first + w.count ≤ s.ct.count) (hb : w.bit = false) :
    cePin s w = (pinsTaken s w, some (stSuccess, BitVec.ofNat 64 (pinnedCount (pinsTaken s w)))) := by
  unfold cePin
  dsimp only
  rw [if_neg (Nat.not_lt.mpr h), hb, Bool.not_false, if_pos rfl]
  rfl

theorem cePin_absent (h : w.first + w.count ≤ s.ct.count) (hb : w.bit = true) (ha : pinAbsent s w = true) : cePin s w = (s, some (stNotPresent, 0)) := by
  unfold cePin
  dsimp only
  rw [if_neg (Nat.not_lt.mpr h), hb, Bool.not_true, if_neg Bool.false_ne_true, if_pos ha]

theorem pinAbsent_iff : pinAbsent s w = true ↔ ∃ c, w.first ≤ c ∧ c < w.first + w.count ∧ (c ∈ s.ct.excluded ∨ dirIdentity s.ct.dir c = none) := by
  simp only [pinAbsent, List.any_eq_true, List.mem_range, Bool.or_eq_true, List.contains_iff_mem, Option.isNone_iff_eq_none]
  constructor
  · rintro ⟨i, hi, hx⟩
    exact ⟨w.first + i, by omega, by omega, hx⟩
  · rintro ⟨c, h1, h2, hx⟩
    exact ⟨c - w.first, by omega, by rwa [show w.first + (c - w.first) = c by omega]⟩

/-- Pins in the set of a channel. -/
def pinsInSet (s : State) (c : Nat) : Nat := countIf (fun e : Nat × Line => e.2.pinned && e.1 % 256 = c % 256) s.ct.cache

theorem pinChannels_one (h : w.count = 1) : pinChannels w = [w.first] := by
  unfold pinChannels
  rw [h]
  exact congrArg (fun c => [c]) (Nat.zero_add _)

/-- One more pin is one too many. -/
theorem pinLimit_one (s : State) (c : Nat) : ((512 < pinnedCount s + [c].length || ([c].any fun x =>
    2 < countIf (fun y => y % 256 = x % 256) ([c] ++ []) + countIf (fun e : Nat × Line => e.2.pinned && e.1 % 256 = x % 256) s.ct.cache)) = true) ↔
    512 ≤ pinnedCount s ∨ 2 ≤ pinsInSet s c := by
  have hone : countIf (fun y => decide (y % 256 = c % 256)) ([c] ++ []) = 1 := by simp [countIf]
  simp only [List.length_cons, List.length_nil, List.any_cons, List.any_nil, Bool.or_false, Bool.or_eq_true, decide_eq_true_eq, hone]
  exact or_congr (by omega) (by unfold pinsInSet; omega)

theorem cePin_one_full (h : w.first + w.count ≤ s.ct.count) (hb : w.bit = true) (ha : pinAbsent s w = false) (h1 : w.count = 1)
    (hr : s.ct.repin = []) (hl : line s w.first = none) (hfull : 512 ≤ pinnedCount s ∨ 2 ≤ pinsInSet s w.first) :
    cePin s w = (s, some (stLimit, 0)) := by
  unfold cePin
  dsimp only
  rw [if_neg (Nat.not_lt.mpr h), hb, Bool.not_true, if_neg Bool.false_ne_true, if_neg (ne_true_of_eq_false ha)]
  rw [show (List.range w.count).map (· + w.first) = [w.first] from pinChannels_one h1, hr, List.filter_cons_of_pos (by rw [hl]; rfl), List.filter_nil]
  exact if_pos ((pinLimit_one s w.first).mpr hfull)

/-- With room for the pin, a read that fails is reported. -/
theorem cePin_one_fault (h : w.first + w.count ≤ s.ct.count) (hb : w.bit = true) (ha : pinAbsent s w = false) (h1 : w.count = 1)
    (hr : s.ct.repin = []) (hl : line s w.first = none) (hroom : pinnedCount s < 512 ∧ pinsInSet s w.first < 2) (hf : w.tabFault = true)
    (ht : tableReach s = true) : cePin s w = (ctHostErr s, some (stHostAccess, 0)) := by
  have hlimit := mt (pinLimit_one s w.first).mp (by omega)
  unfold cePin
  dsimp only
  rw [if_neg (Nat.not_lt.mpr h), hb, Bool.not_true, if_neg Bool.false_ne_true, if_neg (ne_true_of_eq_false ha)]
  rw [show (List.range w.count).map (· + w.first) = [w.first] from pinChannels_one h1, hr, List.filter_cons_of_pos (by rw [hl]; rfl), List.filter_nil]
  refine (if_neg hlimit).trans (if_pos ?_)
  simp [hf, ht, hl]

/-- The entry is fetched and pinned. -/
theorem cePin_one_fetched (h : w.first + w.count ≤ s.ct.count) (hb : w.bit = true) (ha : pinAbsent s w = false) (h1 : w.count = 1)
    (hr : s.ct.repin = []) (hl : line s w.first = none) (hroom : pinnedCount s < 512 ∧ pinsInSet s w.first < 2) (hf : w.tabFault = false)
    (hfetch : fetchChannel s w.bad w.first true false = (t, some true)) :
    cePin s w = (t, some (stSuccess, BitVec.ofNat 64 (pinnedCount t))) := by
  have hlimit := mt (pinLimit_one s w.first).mp (by omega)
  have hrange : pinRange w.bad [w.first] s = (t, true) := by
    unfold pinRange
    rw [hfetch]
    rfl
  unfold cePin
  dsimp only
  rw [if_neg (Nat.not_lt.mpr h), hb, Bool.not_true, if_neg Bool.false_ne_true, if_neg (ne_true_of_eq_false ha)]
  rw [show (List.range w.count).map (· + w.first) = [w.first] from pinChannels_one h1, hr, List.filter_cons_of_pos (by rw [hl]; rfl), List.filter_nil]
  refine (if_neg hlimit).trans ((if_neg (by simp [hf])).trans ?_)
  rw [hrange]

/-- A channel already pinned stays so. -/
theorem cePin_one_pinned {l : Line} (h : w.first + w.count ≤ s.ct.count) (hb : w.bit = true) (ha : pinAbsent s w = false) (h1 : w.count = 1)
    (hl : line s w.first = some l) (hp : l.pinned = true) (hn : pinnedCount s ≤ 512) :
    cePin s w = (useLine s w.first l, some (stSuccess, BitVec.ofNat 64 (pinnedCount (useLine s w.first l)))) := by
  have hrange : pinRange w.bad [w.first] s = (useLine s w.first l, true) := by
    have hsame : { l with pinned := l.pinned || true, reserved := l.reserved || false } = l := by
      obtain ⟨data, way, dirty, pinned, reserved, used⟩ := l
      simp_all
    unfold pinRange fetchChannel
    rw [hl]
    dsimp only
    rw [hsame]
    rfl
  unfold cePin
  dsimp only
  rw [if_neg (Nat.not_lt.mpr h), hb, Bool.not_true, if_neg Bool.false_ne_true, if_neg (ne_true_of_eq_false ha)]
  rw [show (List.range w.count).map (· + w.first) = [w.first] from pinChannels_one h1, List.filter_cons_of_neg (by simp [hl, hp]), List.filter_nil]
  refine (if_neg ?_).trans ((if_neg ?_).trans ?_)
  · simp only [List.length_nil, List.any_nil, Bool.or_false, decide_eq_true_eq]
    omega
  · simp [hl]
  · rw [hrange]

/-- A channel is fetched into a free way. -/
theorem fetchChannel_free {v : Nat} {c : Nat} {pinned reserved : Bool} (hl : line s c = none) (ht : tableReach s = true) (hf : s.ct.fails = false)
    (hv : freeWay s c = some v) (hr : readFault s bad c (entryAt s (entryAddr s c)) = none) :
    fetchChannel s bad c pinned reserved = (putLine s c v (entryAt s (entryAddr s c)) false pinned reserved, some true) := by
  have htake : takeWay s c = some (s, v) := by
    unfold takeWay
    rw [hv]
  unfold fetchChannel
  rw [hl, ht, hf, htake]
  dsimp only
  rw [hr]
  rfl

theorem pin_held (q : State) : ctHeld q (pinWait k d tf bad) = (q.ct.hold && bitOf d.ops 32) := by
  simp [ctHeld, pinWait, CtWait.of]

/-- A CE_PIN that answers without a change. -/
theorem exec_cePin_answers {st : Nat} {r : DWord} (h : Taken specCePin rq d s q k) (hw : q.ct.waits = [])
    (hh : (ctHeld q (pinWait k d tf bad) && ctInRange q (pinWait k d tf bad)) = false)
    (hm : cePin (ctBegun q (pinWait k d tf bad)) (pinWait k d tf bad) = (ctBegun q (pinWait k d tf bad), some (st, r))) :
    exec (.cePin rq d tf bad) s = .next (complete q k st r) := by
  rw [exec_cePin_ends h hw hh hm, ctSettled_begun hw]

theorem exec_cePin_range (h : Taken specCePin rq d s q k) (hw : q.ct.waits = []) (hr : q.ct.count < d.target.toNat + opn d 16 0 32) :
    exec (.cePin rq d tf bad) s = .next (complete q k stNotPresent 0) := by
  refine exec_cePin_answers h hw ?_ (cePin_range hr)
  rw [pin_inRange, decide_eq_false (Nat.not_le.mpr hr), Bool.and_false]

/-- HOLD does not keep this CE_PIN from running. -/
theorem pin_free (q : State) (hh : q.ct.hold = false ∨ bitOf d.ops 32 = false) :
    (ctHeld q (pinWait k d tf bad) && ctInRange q (pinWait k d tf bad)) = false := by
  rw [pin_held]
  rcases hh with hh | hh <;> simp [hh]

theorem exec_cePin_unpin (h : Taken specCePin rq d s q k) (hw : q.ct.waits = []) (hn : d.target.toNat + opn d 16 0 32 ≤ q.ct.count)
    (hb : bitOf d.ops 32 = false) : exec (.cePin rq d tf bad) s =
      .next (complete (ctSettled q (pinsTaken (ctBegun q (pinWait k d tf bad)) (pinWait k d tf bad))) k stSuccess
        (BitVec.ofNat 64 (pinnedCount (pinsTaken (ctBegun q (pinWait k d tf bad)) (pinWait k d tf bad))))) :=
  exec_cePin_ends h hw (pin_free q (.inr hb)) (cePin_unpin hn hb)

theorem pinsTaken_sameBytes (q : State) (w : CtWait) : SameBytes q (ctSettled q (pinsTaken (ctBegun q w) w)) := by
  have h1 : OnlyTable (unpinned (pinChannels w) (ctBegun q w)) (pinsTaken (ctBegun q w) w) := rfl
  exact ((((ctBegun_onlyTable q w).trans (unpinned_onlyTable _ _)).trans h1).trans (ctSettled_onlyTable q _)).sameBytes

theorem line_pinsTaken {w : CtWait} {c : Nat} {l : Line} (hl : line q c = some l) : line (ctSettled q (pinsTaken (ctBegun q w) w)) c =
    some { l with pinned := l.pinned && decide (c < w.first ∨ w.first + w.count ≤ c) } := by
  have hpins : line (pinsTaken (ctBegun q w) w) c = line (unpinned (pinChannels w) (ctBegun q w)) c := rfl
  have hmem : (!(pinChannels w).contains c) = decide (c < w.first ∨ w.first + w.count ≤ c) := by
    rw [List.contains_eq_mem, ← decide_not]
    exact decide_eq_decide.mpr (by rw [mem_pinChannels]; omega)
  rw [line_ctSettled, hpins, line_unpinned, show line (ctBegun q w) c = some l from hl, Option.map_some, hmem]

theorem exec_cePin_absent (h : Taken specCePin rq d s q k) (hw : q.ct.waits = []) (hn : d.target.toNat + opn d 16 0 32 ≤ q.ct.count)
    (hb : bitOf d.ops 32 = true) (ha : pinAbsent q (pinWait k d tf bad) = true) :
    exec (.cePin rq d tf bad) s = .next (complete q k stNotPresent 0) := by
  by_cases hh : q.ct.hold = true
  · rw [exec_cePin h, ctSubmit_held hw (by rw [pin_held, hh, hb, pin_inRange, decide_eq_true hn]; rfl), ha]
    rfl
  · exact exec_cePin_answers h hw (pin_free q (.inl (eq_false_of_ne_true hh))) (cePin_absent hn hb ha)

theorem exec_cePin_held (h : Taken specCePin rq d s q k) (hw : q.ct.waits = []) (hn : d.target.toNat + opn d 16 0 32 ≤ q.ct.count)
    (hb : bitOf d.ops 32 = true) (ha : pinAbsent q (pinWait k d tf bad) = false) (hh : q.ct.hold = true) :
    exec (.cePin rq d tf bad) s = .next (complete q k stRefused 0) := by
  rw [exec_cePin h, ctSubmit_held hw (by rw [pin_held, hh, hb, pin_inRange, decide_eq_true hn]; rfl), ha]
  rfl

theorem not_pinAbsent_one (hn : opn d 16 0 32 = 1) (he : d.target.toNat ∉ q.ct.excluded) (hd : (dirIdentity q.ct.dir d.target.toNat).isSome = true) :
    pinAbsent q (pinWait k d tf bad) = false := by
  refine eq_false_of_ne_true fun ha => ?_
  obtain ⟨c, h1, h2, hx⟩ := pinAbsent_iff.mp ha
  have hc : c = d.target.toNat := by
    have h1' : d.target.toNat ≤ c := h1
    have h2' : c < d.target.toNat + opn d 16 0 32 := h2
    omega
  subst hc
  rcases hx with hx | hx
  · exact he hx
  · rw [hx] at hd
    exact Bool.false_ne_true hd

/-- A CE_PIN of one channel that is in the table and not held. -/
structure PinsOne (q : State) (d : Desc) : Prop where
  waits : q.ct.waits = []
  range : d.target.toNat + opn d 16 0 32 ≤ q.ct.count
  bit : bitOf d.ops 32 = true
  hold : q.ct.hold = false
  one : opn d 16 0 32 = 1
  kept : d.target.toNat ∉ q.ct.excluded
  known : (dirIdentity q.ct.dir d.target.toNat).isSome = true
  repin : q.ct.repin = []

theorem exec_cePin_pinned {l : Line} (h : Taken specCePin rq d s q k) (h1 : PinsOne q d) (hl : line q d.target.toNat = some l) (hp : l.pinned = true)
    (hn : pinnedCount q ≤ 512) : exec (.cePin rq d tf bad) s =
      .next (complete (ctSettled q (useLine (ctBegun q (pinWait k d tf bad)) d.target.toNat l)) k stSuccess
        (BitVec.ofNat 64 (pinnedCount (ctSettled q (useLine (ctBegun q (pinWait k d tf bad)) d.target.toNat l))))) :=
  exec_cePin_ends h h1.waits (pin_free q (.inl h1.hold))
    (cePin_one_pinned (s := ctBegun q (pinWait k d tf bad)) h1.range h1.bit (not_pinAbsent_one h1.one h1.kept h1.known) h1.one hl hp hn)

theorem exec_cePin_limit (h : Taken specCePin rq d s q k) (h1 : PinsOne q d) (hl : line q d.target.toNat = none)
    (hfull : 512 ≤ pinnedCount q ∨ 2 ≤ pinsInSet q d.target.toNat) : exec (.cePin rq d tf bad) s = .next (complete q k stLimit 0) :=
  exec_cePin_answers h h1.waits (pin_free q (.inl h1.hold)) (cePin_one_full (s := ctBegun q (pinWait k d tf bad)) h1.range h1.bit
    (not_pinAbsent_one h1.one h1.kept h1.known) h1.one h1.repin hl hfull)

theorem exec_cePin_fault (h : Taken specCePin rq d s q k) (h1 : PinsOne q d) (hl : line q d.target.toNat = none)
    (hroom : pinnedCount q < 512 ∧ pinsInSet q d.target.toNat < 2) (ht : tableReach q = true) :
    exec (.cePin rq d true bad) s = .next (complete (ctHostErr q) k stHostAccess 0) := by
  rw [exec_cePin_ends h h1.waits (pin_free q (.inl h1.hold)) (cePin_one_fault (s := ctBegun q (pinWait k d true bad)) h1.range h1.bit
    (not_pinAbsent_one h1.one h1.kept h1.known) h1.one h1.repin hl hroom rfl ht), ctSettled_hostErr h1.waits]

/-- The table with the entry of a channel fetched and pinned. -/
def pinFetched (q : State) (w : CtWait) (v : Nat) : State :=
  ctSettled q (putLine (ctBegun q w) w.first v (entryAt q (entryAddr q w.first)) false true false)

theorem exec_cePin_fetched {v : Nat} (h : Taken specCePin rq d s q k) (h1 : PinsOne q d) (hl : line q d.target.toNat = none)
    (hroom : pinnedCount q < 512 ∧ pinsInSet q d.target.toNat < 2) (ht : tableReach q = true) (hv : freeWay q d.target.toNat = some v)
    (hr : readFault q bad d.target.toNat (entryAt q (entryAddr q d.target.toNat)) = none) :
    exec (.cePin rq d false bad) s = .next (complete (pinFetched q (pinWait k d false bad) v) k stSuccess
      (BitVec.ofNat 64 (pinnedCount (pinFetched q (pinWait k d false bad) v)))) :=
  exec_cePin_ends h h1.waits (pin_free q (.inl h1.hold)) (cePin_one_fetched (s := ctBegun q (pinWait k d false bad)) h1.range h1.bit
    (not_pinAbsent_one h1.one h1.kept h1.known) h1.one h1.repin hl hroom rfl
    (fetchChannel_free (s := ctBegun q (pinWait k d false bad)) hl ht rfl hv hr))

theorem pinFetched_sameBytes (q : State) (w : CtWait) (v : Nat) : SameBytes q (pinFetched q w v) :=
  (((ctBegun_onlyTable q w).trans (rfl : OnlyTable _ (putLine ..))).trans (ctSettled_onlyTable q _)).sameBytes

theorem line_pinFetched (q : State) (w : CtWait) (v : Nat) : ∃ l, line (pinFetched q w v) w.first = some l ∧
    l.data = entryAt q (entryAddr q w.first) ∧ l.way = v ∧ l.pinned = true ∧ l.dirty = false := by
  unfold pinFetched
  rw [line_ctSettled]
  exact ⟨_, line_setLine_self _ _ _, rfl, rfl, rfl, rfl⟩

end

/-! ### CT_REBUILD (R144) and DETACH (R153) -/

section
variable {hf : Bool}

/-- The operands of a CT_REBUILD. -/
def rebuildWait (k : Ticket) (q : State) (rq : Requester) (d : Desc) (hf : Bool) : CtWait :=
  { CtWait.of k 5 0 (opn d 16 0 32) false with
    chunks := readChunks q rq d.addr.toNat (if opn d 20 0 32 ≤ 32 then opn d 20 0 32 else 0), nChunks := opn d 20 0 32, srcFault := hf }

theorem exec_ctRebuild (h : Taken specCtRebuild rq d s q k) : exec (.ctRebuild rq d hf) s = .next (ctSubmit q (rebuildWait k q rq d hf)) :=
  congrArg Host.Outcome.next (command_taken h)

theorem exec_ctRebuild_ends {st : Nat} {r : DWord} (h : Taken specCtRebuild rq d s q k) (hw : q.ct.waits = [])
    (hm : ctRebuild (ctBegun q (rebuildWait k q rq d hf)) (rebuildWait k q rq d hf) = (t, some (st, r))) :
    exec (.ctRebuild rq d hf) s = .next (complete (ctSettled q t) k st r) := by
  have hheld : (ctHeld q (rebuildWait k q rq d hf) && ctInRange q (rebuildWait k q rq d hf)) = false := by
    simp [ctHeld, rebuildWait, CtWait.of]
  have hm' : ctMeaning (rebuildWait k q rq d hf) (ctBegun q (rebuildWait k q rq d hf)) = (t, some (st, r)) := hm
  rw [exec_ctRebuild h, ctSubmit_ends hw hheld rfl hm']
  rfl

/-- A chunk of the list does not start at a multiple of 2 MiB. -/
def chunksSkew (w : CtWait) : Bool := w.chunks.any fun c => c.toNat % 2097152 ≠ 0

/-- The counts of a rebuild are out of range. -/
def rebuildRange (w : CtWait) : Bool := w.nChunks = 0 || 32 < w.nChunks || w.count = 0 || 262144 < w.count || 8192 * w.nChunks < w.count

/-- There is no table to rebuild, or a rebuild runs. -/
def rebuildBusy (s : State) : Bool := !s.ct.attached || s.ct.hold || s.ct.mule.phase ≠ 0

/-- CT_REBUILD, check by check. -/
theorem ctRebuild_eq (s : State) (w : CtWait) : ctRebuild s w =
    if !w.srcFault && chunksSkew w then (s, some (stAlignment, 0))
    else if rebuildRange w then (s, some (stRange, 0))
    else if rebuildBusy s then (s, some (stRefused, 0))
    else if w.srcFault then (s, some (stHostAccess, 0))
    else ({ s with ct := { s.ct with mule := { Mule.reset with phase := 1, nextGen := s.ct.gen + 1, chunks := w.chunks, count := w.count } } },
      some (stSuccess, BitVec.ofNat 64 (s.ct.gen + 1).toNat)) := rfl

/-- A rebuild that its checks refuse answers without a change. -/
theorem exec_ctRebuild_answers {st : Nat} {r : DWord} (h : Taken specCtRebuild rq d s q k) (hw : q.ct.waits = [])
    (hm : ctRebuild (ctBegun q (rebuildWait k q rq d hf)) (rebuildWait k q rq d hf) = (ctBegun q (rebuildWait k q rq d hf), some (st, r))) :
    exec (.ctRebuild rq d hf) s = .next (complete q k st r) := by
  rw [exec_ctRebuild_ends h hw hm, ctSettled_begun hw]

theorem chunksSkew_iff : chunksSkew (rebuildWait k q rq d hf) = true ↔
    opn d 20 0 32 ≤ 32 ∧ ∃ c, c ∈ readChunks q rq d.addr.toNat (opn d 20 0 32) ∧ c.toNat % 2097152 ≠ 0 := by
  by_cases hm : opn d 20 0 32 ≤ 32
  · simp [chunksSkew, rebuildWait, hm]
  · simp [chunksSkew, rebuildWait, hm, readChunks, pieces]

theorem rebuildRange_iff : rebuildRange w = true ↔
    w.nChunks = 0 ∨ 32 < w.nChunks ∨ w.count = 0 ∨ 262144 < w.count ∨ 8192 * w.nChunks < w.count := by
  simp [rebuildRange, or_assoc]

theorem rebuildBusy_iff : rebuildBusy s = true ↔ s.ct.attached = false ∨ s.ct.hold = true ∨ s.ct.mule.phase ≠ 0 := by
  simp [rebuildBusy, or_assoc]

theorem exec_ctRebuild_skew (h : Taken specCtRebuild rq d s q k) (hw : q.ct.waits = [])
    (hs : chunksSkew (rebuildWait k q rq d false) = true) : exec (.ctRebuild rq d false) s = .next (complete q k stAlignment 0) := by
  refine exec_ctRebuild_answers h hw ?_
  rw [ctRebuild_eq, if_pos (by rw [hs]; rfl)]

/-- The chunks are aligned, or could not be read. -/
def ChunksPass (w : CtWait) : Prop := (!w.srcFault && chunksSkew w) = false

theorem chunksPass_of (hs : hf = true ∨ chunksSkew (rebuildWait k q rq d hf) = false) : ChunksPass (rebuildWait k q rq d hf) := by
  rcases hs with hs | hs
  · subst hs
    rfl
  · unfold ChunksPass
    rw [hs, Bool.and_false]

theorem exec_ctRebuild_range (h : Taken specCtRebuild rq d s q k) (hw : q.ct.waits = []) (hs : ChunksPass (rebuildWait k q rq d hf))
    (hr : rebuildRange (rebuildWait k q rq d hf) = true) : exec (.ctRebuild rq d hf) s = .next (complete q k stRange 0) := by
  refine exec_ctRebuild_answers h hw ?_
  rw [ctRebuild_eq, if_neg (ne_true_of_eq_false hs), if_pos hr]

theorem exec_ctRebuild_busy (h : Taken specCtRebuild rq d s q k) (hw : q.ct.waits = []) (hs : ChunksPass (rebuildWait k q rq d hf))
    (hr : rebuildRange (rebuildWait k q rq d hf) = false) (hb : rebuildBusy (ctBegun q (rebuildWait k q rq d hf)) = true) :
    exec (.ctRebuild rq d hf) s = .next (complete q k stRefused 0) := by
  refine exec_ctRebuild_answers h hw ?_
  rw [ctRebuild_eq, if_neg (ne_true_of_eq_false hs), if_neg (ne_true_of_eq_false hr), if_pos hb]

theorem exec_ctRebuild_fault (h : Taken specCtRebuild rq d s q k) (hw : q.ct.waits = [])
    (hr : rebuildRange (rebuildWait k q rq d true) = false) (hb : rebuildBusy (ctBegun q (rebuildWait k q rq d true)) = false) :
    exec (.ctRebuild rq d true) s = .next (complete q k stHostAccess 0) := by
  refine exec_ctRebuild_answers h hw ?_
  rw [ctRebuild_eq, if_neg (ne_true_of_eq_false (chunksPass_of (.inl rfl))), if_neg (ne_true_of_eq_false hr), if_neg (ne_true_of_eq_false hb)]
  rfl

theorem exec_ctRebuild_starts (h : Taken specCtRebuild rq d s q k) (hw : q.ct.waits = []) (hs : chunksSkew (rebuildWait k q rq d false) = false)
    (hr : rebuildRange (rebuildWait k q rq d false) = false) (hb : rebuildBusy (ctBegun q (rebuildWait k q rq d false)) = false)
    (hm : opn d 20 0 32 ≤ 32) : exec (.ctRebuild rq d false) s = .next (complete
      { q with ct := { q.ct with mule := { Mule.reset with
          phase := 1, nextGen := q.ct.gen + 1, chunks := readChunks q rq d.addr.toNat (opn d 20 0 32), count := opn d 16 0 32 } } }
      k stSuccess (BitVec.ofNat 64 (q.ct.gen + 1).toNat)) := by
  have hends := ctRebuild_eq (ctBegun q (rebuildWait k q rq d false)) (rebuildWait k q rq d false)
  rw [if_neg (ne_true_of_eq_false (chunksPass_of (.inr hs))), if_neg (ne_true_of_eq_false hr), if_neg (ne_true_of_eq_false hb),
    if_neg (show ¬ (rebuildWait k q rq d false).srcFault = true from Bool.false_ne_true)] at hends
  rw [exec_ctRebuild_ends h hw hends]
  unfold ctSettled ctBegun rebuildWait
  rw [if_pos hm, ← hw]
  rfl

end

theorem detach_runs {via : Via} {v : Word} (hs : via ≠ .sideband) (hv : viaReach s via = true) (hd : domOn s 4 = true) (hr : rootAlive s = true) :
    exec (.detach via v) s = .next (ctCtrlWrite s v) := by
  have hreach : (rowReach s via && domOn s 4 && rootAlive s) = true := by simp [rowReach, hs, hv, hd, hr]
  exact congrArg Host.Outcome.next (if_pos hreach)

/-- The table is dropped. -/
theorem detach_dropped (ha : s.ct.attached = true) : (detach s).ct.attached = false ∧ (detach s).ct.cache = [] ∧ (detach s).ct.count = 0 ∧
    (detach s).ct.hold = s.ct.hold ∧ (detach s).ct.waits = [] ∧ (detach s).ct.mule.phase = 0 ∧ (detach s).ox.active = false ∧
    (detach s).ox.inFlight = [] := by
  have hflush : (if s.ct.hold then s else flushAll s).ct.hold = s.ct.hold := by
    split
    · rfl
    · rw [(flushAll_onlyCache s).ct]
  have hphase : ∀ q : State, (muleAbort q).ct.mule.phase = 0 := fun q => by
    unfold muleAbort
    split
    · assumption
    · unfold muleEnd
      rw [raise_onlyEvents]
      rfl
  have hhold : ∀ q : State, (muleAbort q).ct.hold = q.ct.hold := fun q => by
    unfold muleAbort
    split
    · rfl
    · unfold muleEnd
      rw [raise_onlyEvents]
  unfold detach
  rw [ha]
  dsimp only
  rw [Bool.not_true, if_neg Bool.false_ne_true, completeAll_onlyReply]
  exact ⟨rfl, rfl, rfl, (hhold _).trans hflush, rfl, hphase _, rfl, rfl⟩

end

/-- What CT_ATTACH of the table attached leaves. -/
theorem ctSettled_resumed (q : State) (w : CtWait) : let u := ctSettled q (resumed (ctBegun q w))
    u.ct.hold = false ∧ u.ct.attached = q.ct.attached ∧ u.ct.gen = q.ct.gen ∧ (∀ c l, line u c = some l → l.dirty = false) ∧
      u.ct.mule.again = (q.ct.mule.again || (q.ct.hold && decide (q.ct.mule.phase = 3))) ∧ u.ct.dir = q.ct.dir := by
  obtain ⟨cache, hct⟩ := resumed_ct (ctBegun q w)
  exact ⟨(congrArg ChanTable.hold hct).trans rfl, (congrArg ChanTable.attached hct).trans rfl, (congrArg ChanTable.gen hct).trans rfl,
    fun c l hl => flushAll_clean _ hl, (congrArg (fun x : ChanTable => x.mule.again) hct).trans rfl, (congrArg ChanTable.dir hct).trans rfl⟩

/-- What CT_ATTACH leaves where it fails. -/
theorem ctSettled_fault (q : State) (w : CtWait) : let u := ctSettled q (threshCompute (ctHostErr (forgetTable (ctBegun q w))))
    u.ct.attached = false ∧ u.ct.hostAccessErr = true ∧ u.ct.cache = [] ∧ u.mc.noPack = true := by
  rw [threshCompute_detached (s := ctHostErr (forgetTable (ctBegun q w))) rfl]
  exact ⟨rfl, rfl, rfl, rfl⟩

theorem ctSettled_bad (q : State) (w : CtWait) (b : FirstBad) :
    let u := ctSettled q (threshCompute { attachScanned (ctBegun q w) w with ct := { (attachScanned (ctBegun q w) w).ct with firstBad := some b } })
    u.ct.attached = false ∧ u.ct.firstBad = some b ∧ u.ct.cache = [] ∧ u.mc.noPack = true := by
  have hscan := attachScanned_reads (ctBegun q w) w
  have hatt : (attachScanned (ctBegun q w) w).ct.attached = false := congrArg ChanTable.attached hscan.ct
  have hcache : (attachScanned (ctBegun q w) w).ct.cache = [] := congrArg ChanTable.cache hscan.ct
  dsimp only
  rw [threshCompute_detached (s := { attachScanned (ctBegun q w) w with ct := { (attachScanned (ctBegun q w) w).ct with firstBad := some b } }) hatt]
  exact ⟨hatt, rfl, hcache, rfl⟩

/-- Settles O47: each command runs alone in its block, and ends as its meaning says. -/
theorem tableCommands : Obligations.TableCommands := by
  unfold Obligations.TableCommands
  refine ⟨?attach, ?flush, ?invalidate, ?update, ?pin, ?rebuild, ?detach⟩
  case attach =>
    intro s q k rq d h hw
    refine ⟨fun hf bad hr => exec_ctAttach_range h hw hr, fun h0 h1 h2 => ?_⟩
    have hn : countFits q d := ⟨h0, h1, h2⟩
    refine ⟨fun hf bad hr => exec_ctAttach_refused h hw hn hr, fun hf bad hr hc => exec_ctAttach_noHost h hw hn hr hc, ?_, ?_⟩
    · intro hf bad hr hc hb hp
      obtain ⟨hhold, hatt, hgen, hclean, hagain, hdir⟩ := ctSettled_resumed q (attachWait k d hf bad)
      have hwas : q.ct.attached = true := Bool.not_eq_false _ ▸ fun hx => hr ⟨hb, .inl hx⟩
      exact ⟨_, hhold, hatt.trans hwas, hgen, hclean, hagain, hdir, exec_ctAttach_resumes h hw hn hr hc hb hp⟩
    · intro hc hb hm
      refine ⟨fun bad => ?_, fun bad => ⟨fun hgood hj => ?_, fun b st hbad => ?_⟩⟩
      · obtain ⟨h1, h2, h3, h4⟩ := ctSettled_fault q (attachWait k d true bad)
        exact ⟨_, h1, h2, h3, h4, exec_ctAttach_fresh h hw hn hc hb (attachFresh_fault hm rfl)⟩
      · obtain ⟨h1, h2, h3, h4, h5, h6, h7, h8, h9, h10, h11⟩ := ctSettled_attached (w := attachWait k d false bad) hj
        exact ⟨_, h1, h2, h3, h4, h5, h6, h7, h8, h9, h10, h11, exec_ctAttach_fresh h hw hn hc hb (attachFresh_good hm rfl hgood)⟩
      · obtain ⟨h1, h2, h3, h4⟩ := ctSettled_bad q (attachWait k d false bad) b
        exact ⟨_, h1, h2, h3, h4, exec_ctAttach_fresh h hw hn hc hb (attachFresh_bad hm rfl hbad)⟩
  case flush =>
    intro s q k rq d h a cnt n hw hb
    refine ⟨exec_ctFlush_range h hw hb, fun hn h0 => ⟨exec_ctFlush_held h hw hn h0, exec_ctFlush_waits h hw hn h0, fun hh hd => ?_⟩⟩
    obtain ⟨hsram, hflash⟩ := (flushLeft_onlyCache q k d).memories
    exact ⟨_, exec_ctFlush_done h hw hb hn h0 hh hd, hsram, hflash, fun c l => flushLeft_hostMem, fun c l hl => line_flushLeft hl.1 hl.2⟩
  case invalidate =>
    intro s q k rq d h a n hw hb
    exact ⟨exec_ceInvalidate_range h hw hb, exec_ceInvalidate_held h hw, exec_ceInvalidate_waits h hw,
      fun hn hok => ⟨_, exec_ceInvalidate_done h hw hb hn hok, line_invalidated _ _, invalidated_sameBytes⟩⟩
  case update =>
    intro s q k rq d h hw
    refine ⟨fun hf tf bad => exec_ceUpdate_range h hw, fun hc => ⟨fun hf tf bad => exec_ceUpdate_held h hw hc,
      fun hf tf bad => exec_ceUpdate_waits h hw hc, fun hh hb => ⟨fun hf tf bad => exec_ceUpdate_barred h hw hh hb hc,
        fun tf bad => exec_ceUpdate_sourceFault h hw hh hb hc, fun bad => exec_ceUpdate_tableFault h hw hh hb hc, ?_, ?_⟩⟩⟩
    · intro tf bad l hp hl
      refine ⟨fun hsame => ?_, fun hid hsame => ?_⟩
      · have hline := line_updatedCached_self q (updateWait k q rq d false tf bad) l
        have hexcl := not_excluded_updatedCached q (updateWait k q rq d false tf bad) l
        have hexec := exec_ceUpdate_cached (bad := bad) (tf := tf) h hw hh hb hc hp hl hsame
        exact ⟨_, hline, fun j hj => line_updatedCached q _ l hj, updatedCached_sameBytes q _ l, hexcl, hexec⟩
      · have hexec := exec_ceUpdate_cached_refused h hw hh hb hc hp hl hid hsame (tf := tf) (bad := bad)
        exact ⟨_, line_lineUsed_data hl, lineUsed_sameBytes q _ _ l, hexec⟩
    · intro bad w hp hl ht hv hm e hsame
      have hline := line_updatedFull_self q (updateWait k q rq d false false bad) w
      have hexcl := not_excluded_updatedFull q (updateWait k q rq d false false bad) w hm
      have hexec := exec_ceUpdate_full (bad := bad)
        (l := { data := entryAt q (entryAddr q d.target.toNat), way := 0, dirty := false, pinned := false, reserved := false, used := 0 })
        h hw hh hb hc hp hl ht hv hm rfl hsame
      exact ⟨_, updatedFull_sameBytes q _ w, hexcl, hline, hexec⟩
  case pin =>
    intro s q k rq d h a n inSet hw
    refine ⟨fun tf bad hr => exec_cePin_range h hw hr, fun tf bad hn hb => ?_, fun hn hb => ?_, fun hn hb hh h1 he hd hr => ?_⟩
    · have hexec := exec_cePin_unpin (tf := tf) (bad := bad) h hw hn hb
      exact ⟨_, pinsTaken_sameBytes q _, fun c l hl => line_pinsTaken hl, hexec⟩
    · intro absent tf bad
      have habs : pinAbsent q (pinWait k d tf bad) = true ↔ absent := pinAbsent_iff
      exact ⟨fun ha => exec_cePin_absent h hw hn hb (habs.mpr ha),
        fun ha hh => exec_cePin_held h hw hn hb (eq_false_of_ne_true (mt habs.mp ha)) hh⟩
    · have hone : PinsOne q d := ⟨hw, hn, hb, hh, h1, he, hd, hr⟩
      refine ⟨fun tf bad l hl hp hc => ?_, fun tf bad hl hfull => exec_cePin_limit h hone hl hfull, fun hl hc hset ht =>
        ⟨fun bad => exec_cePin_fault h hone hl ⟨hc, hset⟩ ht, fun bad v hv => ?_⟩⟩
      · have hexec := exec_cePin_pinned (tf := tf) (bad := bad) h hone hl hp hc
        exact ⟨_, line_lineUsed_data hl, hexec⟩
      · intro e hread
        have hexec := exec_cePin_fetched h hone hl ⟨hc, hset⟩ ht hv hread
        exact ⟨_, pinFetched_sameBytes q _ v, line_pinFetched q (pinWait k d false bad) v, hexec⟩
  case rebuild =>
    intro s q k rq d h hw n m cs skew busy
    have hskew : ∀ hf, chunksSkew (rebuildWait k q rq d hf) = true ↔ skew := fun hf => chunksSkew_iff
    have hpass : ∀ hf, (hf = true ∨ ¬ skew) → ChunksPass (rebuildWait k q rq d hf) := fun hf hs =>
      chunksPass_of (hs.imp_right fun hs => eq_false_of_ne_true (mt (hskew hf).mp hs))
    refine ⟨fun hs => exec_ctRebuild_skew h hw ((hskew false).mpr hs), fun hf hs hr => exec_ctRebuild_range h hw (hpass hf hs) (rebuildRange_iff.mpr hr),
      fun hm0 hm hn0 hn hfit => ?_⟩
    have hrange : ∀ hf, rebuildRange (rebuildWait k q rq d hf) = false := fun hf => eq_false_of_ne_true fun hr => by
      have hout : m = 0 ∨ 32 < m ∨ n = 0 ∨ 262144 < n ∨ 8192 * m < n := rebuildRange_iff.mp hr
      omega
    have hbusy : ∀ hf, ¬ busy → rebuildBusy (ctBegun q (rebuildWait k q rq d hf)) = false := fun hf hb =>
      eq_false_of_ne_true (mt rebuildBusy_iff.mp hb)
    exact ⟨fun hf hs hb => exec_ctRebuild_busy h hw (hpass hf hs) (hrange hf) (rebuildBusy_iff.mpr hb),
      fun hb => exec_ctRebuild_fault h hw (hrange true) (hbusy true hb),
      fun hs hb => exec_ctRebuild_starts h hw (eq_false_of_ne_true (mt (hskew false).mp hs)) (hrange false) (hbusy false hb) hm⟩
  case detach =>
    intro s via v hs hv hd hr
    refine ⟨fun h0 => ⟨_, detach_runs hs hv hd hr, ?_⟩, fun h0 ha => ⟨_, detach_runs hs hv hd hr, ?_⟩⟩
    · unfold ctCtrlWrite
      rw [h0]
      exact ⟨flag_wr_self s v (by rfl), flag_wr_self s v (by rfl), rfl, fun _ => ⟨rfl, rfl, rfl⟩⟩
    · unfold ctCtrlWrite
      rw [h0]
      exact detach_dropped (s := wr s 0x2000 v 0x6) ha


end Sys2Proof.Machine
end

section
/-! PROOFS. The epochs of the Ox engine: what fetching and passing a batch leave of the cache and of the epoch's run. -/

namespace Sys2Proof.Machine

variable {s t u : State}

/-! ### What reading and writing entries leaves of the engine (R30, R123) -/

/-- The Ox engine's run, the link ports, the registers and the waiting commands are the same. -/
structure KeepsRun (s t : State) : Prop where
  ox : t.ox = s.ox
  lp : t.lp = s.lp
  regs : t.regs = s.regs
  waits : t.ct.waits = s.ct.waits

theorem KeepsRun.refl (s : State) : KeepsRun s s := ⟨rfl, rfl, rfl, rfl⟩

theorem KeepsRun.trans (h1 : KeepsRun s t) (h2 : KeepsRun t u) : KeepsRun s u :=
  ⟨h2.ox.trans h1.ox, h2.lp.trans h1.lp, h2.regs.trans h1.regs, h2.waits.trans h1.waits⟩

theorem OnlyReply.keepsRun (h : OnlyReply s t) : KeepsRun s t := by
  unfold OnlyReply at h
  rw [h]
  exact ⟨rfl, rfl, rfl, rfl⟩

theorem OnlyCache.keepsRun (h : OnlyCache s t) : KeepsRun s t := by
  unfold OnlyCache OnlyReply at h
  rw [h]
  exact ⟨rfl, rfl, rfl, rfl⟩

theorem raise_keepsRun (s : State) (k : Nat) (d : DWord) : KeepsRun s (raise s k d) := (raise_onlyEvents s k d).reply.keepsRun

theorem forEach_keepsRun {α : Type} {f : α → State → State} (l : List α) (s : State) (h : ∀ a q, KeepsRun q (f a q)) : KeepsRun s (forEach l f s) :=
  forEach_induct (P := KeepsRun s) (KeepsRun.refl s) fun a _ q hq => hq.trans (h a q)

theorem useLine_keepsRun (s : State) (c : Nat) (l : Line) : KeepsRun s (useLine s c l) := ⟨rfl, rfl, rfl, rfl⟩

theorem ct_keepsRun {ct : ChanTable} (h : ct.waits = s.ct.waits) : KeepsRun s { s with ct := ct } := ⟨rfl, rfl, rfl, h⟩

theorem excludeChannel_keepsRun (s : State) (c r : Nat) : KeepsRun s (excludeChannel s c r) := by
  unfold excludeChannel
  refine KeepsRun.trans ?_ (raise_keepsRun _ _ _)
  exact ct_keepsRun rfl

theorem takeWay_keepsRun {c v : Nat} (h : takeWay s c = some (t, v)) : KeepsRun s t := by
  unfold takeWay at h
  split at h
  · cases h
    exact KeepsRun.refl s
  · split at h
    · cases h
    · cases h
      exact (writeBack_onlyCache ..).keepsRun.trans (dropLine_onlyCache ..).keepsRun

theorem fetchChannel_keepsRun (s : State) (bad : List Nat) (c : Nat) (pinned reserved : Bool) :
    KeepsRun s (fetchChannel s bad c pinned reserved).1 := by
  unfold fetchChannel
  dsimp only
  split
  · exact useLine_keepsRun ..
  · split
    · exact KeepsRun.refl s
    · split
      · exact ⟨rfl, rfl, rfl, rfl⟩
      · split
        · exact KeepsRun.refl s
        next s1 w hw =>
          split
          · exact (takeWay_keepsRun hw).trans (useLine_keepsRun ..)
          · exact (takeWay_keepsRun hw).trans (excludeChannel_keepsRun ..)

theorem refetchPinned_keepsRun (s : State) : KeepsRun s (refetchPinned s) := by
  unfold refetchPinned
  split
  · exact KeepsRun.refl s
  · refine forEach_keepsRun _ _ fun c q => ?_
    have hq := fetchChannel_keepsRun q [] c true false
    split
    next heq => rwa [heq] at hq
    next heq =>
      rw [heq] at hq
      exact hq.trans ⟨rfl, rfl, rfl, rfl⟩

theorem assertLine_keepsRun (s : State) (k : Nat) (x : Word) : KeepsRun s (assertLine s k x) := by
  unfold assertLine
  split
  · exact KeepsRun.refl s
  · exact ⟨rfl, rfl, rfl, rfl⟩

theorem dropBadLine_keepsRun (tag : Bool) (c : Nat) (s : State) : KeepsRun s (dropBadLine tag c s) := by
  unfold dropBadLine
  split
  · exact KeepsRun.refl s
  next l hl =>
    extract_lets src s1 s2 s3
    have h1 : KeepsRun s s1 := ct_keepsRun rfl
    have h2 : KeepsRun s s2 := h1.trans (raise_keepsRun ..)
    have h3 : KeepsRun s s3 := by
      refine h2.trans (KeepsRun.trans ?_ (refetchPinned_keepsRun _))
      split
      · exact assertLine_keepsRun ..
      · exact KeepsRun.refl s2
    split
    · exact h3.trans (fetchChannel_keepsRun ..)
    · exact h3

theorem cacheErrors_keepsRun (s : State) (errs : List (Nat × Nat)) : KeepsRun s (cacheErrors s errs) := by
  refine forEach_keepsRun _ _ fun e q => ?_
  split
  · split
    · exact ⟨rfl, rfl, rfl, rfl⟩
    · exact KeepsRun.refl q
  · unfold cacheUncorrectable
    split
    · exact KeepsRun.refl q
    · split
      · exact forEach_keepsRun _ _ (dropBadLine_keepsRun true)
      · exact dropBadLine_keepsRun ..

/-! ### The Mule's copies (R147) -/

theorem shadowTake_keepsRun {s0 : State} {bad : List Nat} {h : Nat} {o : Option Entry} (hs : shadowTake s0 bad h = (s, o)) : KeepsRun s0 s := by
  unfold shadowTake at hs
  split at hs
  · cases hs
    exact KeepsRun.refl _
  · split at hs
    · cases hs
      exact ⟨rfl, rfl, rfl, rfl⟩
    · dsimp only at hs
      split at hs
      · cases hs
        exact KeepsRun.refl _
      · cases hs
        unfold shadowExclude
        refine KeepsRun.trans ?_ (raise_keepsRun _ _ _)
        exact ct_keepsRun rfl

theorem carryInto_keepsRun (bad : List Nat) (h : Nat) (src : Entry → Entry) (s : State) : KeepsRun s (carryInto bad h src s) := by
  unfold carryInto
  split
  next heq => exact shadowTake_keepsRun heq
  next s1 e heq =>
    extract_lets e1 a s2
    have h2 : KeepsRun s1 s2 := ((hostPost_onlyReply ..).trans (hostPost_onlyReply ..)).keepsRun
    exact ((shadowTake_keepsRun heq).trans h2).trans ⟨rfl, rfl, rfl, rfl⟩

theorem carryOne_keepsRun (bad : List Nat) (h : Nat) (s : State) : KeepsRun s (carryOne bad h s) := by
  unfold carryOne
  split
  · exact KeepsRun.refl s
  · split
    · exact carryInto_keepsRun ..
    next c hc =>
      have hf := fetchChannel_keepsRun s bad c false false
      split
      · exact carryInto_keepsRun ..
      · split
        next heq => rwa [heq] at hf
        next heq =>
          rw [heq] at hf
          exact hf.trans (carryInto_keepsRun ..)
        next heq =>
          rw [heq] at hf
          split
          · exact hf.trans (carryInto_keepsRun ..)
          · exact hf

theorem muleCopy_keepsRun (c : Nat) (s : State) : KeepsRun s (muleCopy c s) := by
  unfold muleCopy
  split
  · exact KeepsRun.refl s
  · split
    · exact KeepsRun.refl s
    · exact carryOne_keepsRun ..

theorem recopyLeft_keepsRun (s : State) (l : List Nat) :
    KeepsRun s { s with ct := { s.ct with mule := { s.ct.mule with recopy := l } } } := ct_keepsRun rfl

theorem muleRecopy_keepsRun (s : State) : KeepsRun s (muleRecopy s) := by
  unfold muleRecopy
  split
  · exact KeepsRun.refl s
  · refine forEach_keepsRun _ _ fun k q => ?_
    extract_lets q1
    have h1 : KeepsRun q q1 := forEach_keepsRun _ _ (carryOne_keepsRun [])
    split
    · exact h1.trans (recopyLeft_keepsRun q1 _)
    · exact h1

theorem passBack_keepsRun (x : Nat × Entry) (s : State) : KeepsRun s (passBack x s) := by
  unfold passBack
  split
  · exact KeepsRun.refl s
  · exact (((setLine_onlyCache ..).trans (writeBack_onlyCache ..)).keepsRun).trans (muleCopy_keepsRun ..)

/-! ### What a pass leaves (R268) -/

/-- The table, but for the copies on chip, and the run of the epoch are the same. -/
structure KeepsEpoch (s t : State) : Prop where
  cache : t.ct.cache = s.ct.cache
  waits : t.ct.waits = s.ct.waits
  mule : t.ct.mule = s.ct.mule
  inFlight : t.ox.inFlight = s.ox.inFlight
  epoch : t.ox.epoch = s.ox.epoch
  nextBatch : t.ox.nextBatch = s.ox.nextBatch

theorem KeepsEpoch.refl (s : State) : KeepsEpoch s s := ⟨rfl, rfl, rfl, rfl, rfl, rfl⟩

theorem KeepsEpoch.trans (h1 : KeepsEpoch s t) (h2 : KeepsEpoch t u) : KeepsEpoch s u :=
  ⟨h2.cache.trans h1.cache, h2.waits.trans h1.waits, h2.mule.trans h1.mule, h2.inFlight.trans h1.inFlight, h2.epoch.trans h1.epoch,
    h2.nextBatch.trans h1.nextBatch⟩

theorem forEach_keepsEpoch {α : Type} {f : α → State → State} (l : List α) (s : State) (h : ∀ a q, KeepsEpoch q (f a q)) :
    KeepsEpoch s (forEach l f s) :=
  forEach_induct (P := KeepsEpoch s) (KeepsEpoch.refl s) fun a _ q hq => hq.trans (h a q)

theorem OnlyEvents.keepsEpoch (h : OnlyEvents s t) : KeepsEpoch s t := by
  unfold OnlyEvents at h
  rw [h]
  exact ⟨rfl, rfl, rfl, rfl, rfl, rfl⟩

theorem putWork_keepsEpoch (s : State) (c : Nat) (w : GroupWork) : KeepsEpoch s (putWork s c w) := ⟨rfl, rfl, rfl, rfl, rfl, rfl⟩

theorem leaveParent_keepsEpoch (c p : Nat) (s : State) : KeepsEpoch s (leaveParent c p s) := by
  unfold leaveParent
  split
  · split
    · exact KeepsEpoch.refl s
    · split
      · exact putWork_keepsEpoch ..
      · exact KeepsEpoch.refl s
  · exact KeepsEpoch.refl s

theorem cellToGroup_keepsEpoch (c : Nat) (q : Rat) (h : ChanPend) (e : Entry) (s : State) : KeepsEpoch s (cellToGroup c q h e s) := by
  unfold cellToGroup
  extract_lets p s1 src s2
  have h2 : KeepsEpoch s s2 := (leaveParent_keepsEpoch c p s).trans ⟨rfl, rfl, rfl, rfl, rfl, rfl⟩
  split
  · exact h2.trans (putWork_keepsEpoch ..)
  · exact h2

theorem passEstimate_keepsEpoch (c : Nat) (e : Entry) (s : State) : KeepsEpoch s (passEstimate c e s).1 := by
  unfold passEstimate
  dsimp only
  split
  · exact ⟨rfl, rfl, rfl, rfl, rfl, rfl⟩
  · split
    · exact ⟨rfl, rfl, rfl, rfl, rfl, rfl⟩
    · exact KeepsEpoch.refl s

theorem parkPassed_keepsEpoch (c : Nat) (s : State) : KeepsEpoch s (parkPassed c s) := by
  unfold parkPassed
  split
  · exact KeepsEpoch.refl s
  · exact ⟨rfl, rfl, rfl, rfl, rfl, rfl⟩

theorem usedUp_keepsEpoch (s : State) (passed op shareUp : Bool) (c : Nat) : KeepsEpoch s (usedUp s passed op shareUp c) :=
  ⟨rfl, rfl, rfl, rfl, rfl, rfl⟩

/-! ### Where the entries of a batch come from -/

/-- The channels of a batch stay, and entries of which `C` holds are kept as they are. -/
structure Carries (C : Nat × Entry → Prop) (l m : Batch) : Prop where
  from_ : ∀ y ∈ m, ∃ x ∈ l, y.1 = x.1 ∧ (C x → y = x)
  kept : ∀ x ∈ l, C x → x ∈ m

theorem Carries.trans {C : Nat × Entry → Prop} {l m n : Batch} (h1 : Carries C l m) (h2 : Carries C m n) : Carries C l n where
  from_ y hy := by
    obtain ⟨z, hz, hyz, hCz⟩ := h2.from_ y hy
    obtain ⟨x, hx, hzx, hCx⟩ := h1.from_ z hz
    exact ⟨x, hx, hyz.trans hzx, fun hC => (hCz (hCx hC ▸ hC)).trans (hCx hC)⟩
  kept x hx hC := h2.kept x (h1.kept x hx hC) hC

theorem Carries.map {C : Nat × Entry → Prop} (l : Batch) (f : Nat × Entry → Nat × Entry) (hf : ∀ x, (f x).1 = x.1) (hC : ∀ x, C x → f x = x) :
    Carries C l (l.map f) where
  from_ y hy := by
    obtain ⟨x, hx, rfl⟩ := List.mem_map.mp hy
    exact ⟨x, hx, hf x, hC x⟩
  kept x hx h := List.mem_map.mpr ⟨x, hx, hC x h⟩

/-- The channel's node keeps its entry from being updated or estimated. -/
def Frozen (s : State) (x : Nat × Entry) : Prop := passes s x = false ∧ estimates s x = false

theorem onBatch_carries (s : State) (b : Batch) (f : Nat → Entry → Entry) : Carries (Frozen s) b (onBatch s b f) := by
  refine Carries.map _ _ (fun x => ?_) fun x hx => if_neg (ne_true_of_eq_false hx.1)
  split <;> rfl

theorem unparked_carries (s : State) (b : Batch) : Carries (Frozen s) b (unparked s b) := by
  refine Carries.map _ _ (fun x => ?_) fun x hx => if_neg (ne_true_of_eq_false hx.2)
  split <;> rfl

theorem passCells_carries (s : State) (b : Batch) : Carries (Frozen s) b (passCells s b) := by
  unfold passCells
  exact (((onBatch_carries s b _).trans (onBatch_carries s _ _)).trans (onBatch_carries s _ _)).trans (onBatch_carries s _ _)

/-- Orders 6 and 7 for one channel of a batch. -/
def passOne (s : State) (a : State × Batch) (x : Nat × Entry) : State × Batch :=
  if estimates s x then (parkPassed x.1 (passEstimate x.1 x.2 a.1).1, a.2 ++ [(x.1, (passEstimate x.1 x.2 a.1).2)]) else (a.1, a.2 ++ [x])

theorem passOne_entry (s : State) (a : State × Batch) (x : Nat × Entry) : ∃ y : Nat × Entry,
    (passOne s a x).2 = a.2 ++ [y] ∧ y.1 = x.1 ∧ (Frozen s x → y = x) := by
  unfold passOne
  split
  next h => exact ⟨_, rfl, rfl, fun hx => absurd h (ne_true_of_eq_false hx.2)⟩
  next => exact ⟨x, rfl, rfl, fun _ => rfl⟩

theorem passOne_carries (s : State) : ∀ (l : Batch) (a : State × Batch), ∃ m, (l.foldl (passOne s) a).2 = a.2 ++ m ∧ Carries (Frozen s) l m
  | [], a => ⟨[], (List.append_nil _).symm, ⟨fun _ h => absurd h List.not_mem_nil, fun _ h => absurd h List.not_mem_nil⟩⟩
  | x :: l, a => by
    obtain ⟨y, hy, hfst, hC⟩ := passOne_entry s a x
    obtain ⟨m, hm, hcarry⟩ := passOne_carries s l (passOne s a x)
    refine ⟨y :: m, ?_, fun z hz => ?_, fun z hz hCz => ?_⟩
    · rw [List.foldl_cons, hm, hy, List.append_assoc]
      rfl
    · rcases List.mem_cons.mp hz with rfl | hz
      · exact ⟨x, List.mem_cons_self, hfst, hC⟩
      · obtain ⟨w, hw, hrest⟩ := hcarry.from_ z hz
        exact ⟨w, List.mem_cons_of_mem _ hw, hrest⟩
    · rcases List.mem_cons.mp hz with rfl | hz
      · rw [hC hCz]
        exact List.mem_cons_self
      · exact List.mem_cons_of_mem _ (hcarry.kept z hz hCz)

theorem passOne_keepsEpoch (s : State) : ∀ (l : Batch) (a : State × Batch), KeepsEpoch a.1 (l.foldl (passOne s) a).1
  | [], a => KeepsEpoch.refl a.1
  | x :: l, a => by
    have h1 : KeepsEpoch a.1 (passOne s a x).1 := by
      unfold passOne
      split
      · exact (passEstimate_keepsEpoch ..).trans (parkPassed_keepsEpoch ..)
      · exact KeepsEpoch.refl _
    exact h1.trans (passOne_keepsEpoch s l (passOne s a x))

/-- The entry with which a channel leaves its pass. -/
def passedEntry (s : State) (x : Nat × Entry) : Nat × Entry :=
  if passes s x then (x.1, eSeal x.2)
  else if passFrozen s x = x.2 && !(estimates s x) then x else (x.1, eSeal (passFrozen s x))

theorem passedEntry_fst (s : State) (x : Nat × Entry) : (passedEntry s x).1 = x.1 := by
  unfold passedEntry
  split
  · rfl
  · split <;> rfl

theorem raiseFirst_keepsEpoch (l : Batch) (s : State) (k : Nat) (f : Nat × Entry → DWord) :
    KeepsEpoch s (match l with | x :: _ => raise s k (f x) | [] => s) := by
  cases l with
  | nil => exact KeepsEpoch.refl s
  | cons x l => exact (raise_onlyEvents ..).keepsEpoch

theorem pendModIf_keepsEpoch {b : Bool} {c : Nat} (f : ChanPend → ChanPend) (h : KeepsEpoch s t) :
    KeepsEpoch s (if b then pendMod t c f else t) := by
  split
  · exact h.trans ⟨rfl, rfl, rfl, rfl, rfl, rfl⟩
  · exact h

theorem batchPass_keepsEpoch (s : State) (b : Batch) : KeepsEpoch s (batchPass s b).1 := by
  unfold batchPass
  extract_lets b0 b1 day cells s1 level crossed s2 r s3 b2
  have h1 : KeepsEpoch s s1 := forEach_keepsEpoch _ _ fun x q => (cellToGroup_keepsEpoch ..).trans ⟨rfl, rfl, rfl, rfl, rfl, rfl⟩
  have h2 : KeepsEpoch s1 s2 := raiseFirst_keepsEpoch crossed s1 _ _
  have hr : KeepsEpoch s2 r.1 := passOne_keepsEpoch s b1 (s2, [])
  have h3 : KeepsEpoch r.1 s3 := forEach_keepsEpoch _ _ fun x q => by
    dsimp only
    split
    · exact KeepsEpoch.refl q
    · split
      · exact ⟨rfl, rfl, rfl, rfl, rfl, rfl⟩
      · split
        · exact ⟨rfl, rfl, rfl, rfl, rfl, rfl⟩
        · exact KeepsEpoch.refl q
  exact (((h1.trans h2).trans hr).trans h3).trans (forEach_keepsEpoch _ _ fun x q => pendModIf_keepsEpoch _ (usedUp_keepsEpoch ..))

/-- The new entries of a pass are those of its channels, sealed. -/
theorem batchPass_entries (s : State) (b : Batch) : ∃ m, (batchPass s b).2 = m.map (passedEntry s) ∧ Carries (Frozen s) b m := by
  obtain ⟨m, hm, hcarry⟩ := passOne_carries s (passCells s (unparked s b)) (_, [])
  refine ⟨m, ?_, ((unparked_carries s b).trans (passCells_carries s _)).trans hcarry⟩
  rw [← List.nil_append m, ← hm]
  rfl

end Sys2Proof.Machine
end

section
/-! PROOFS. The statement on the epochs of the Ox engine. -/

namespace Sys2Proof.Machine

variable {s t u : State}

theorem SameBytes.trans (h1 : SameBytes s t) (h2 : SameBytes t u) : SameBytes s u := fun a =>
  ⟨(h2 a).1.trans (h1 a).1, (h2 a).2.1.trans (h1 a).2.1, (h2 a).2.2.trans (h1 a).2.2⟩

/-! ### The pass of a batch (R125, R268) -/

theorem ctGo_idle (h : s.ct.waits = []) : ctGo s = s := by
  unfold ctGo
  rw [h]
  unfold ctProgress
  rw [h]

/-- The state that a step reads with. -/
def reading (fault : Bool) (s : State) : State := { s with ct := { s.ct with fails := fault } }

theorem withReads_waits (fault : Bool) (f : State → State) (s : State) : (withReads fault f s).ct.waits = (f (reading fault s)).ct.waits := rfl
theorem withReads_line (fault : Bool) (f : State → State) (s : State) (c : Nat) : line (withReads fault f s) c = line (f (reading fault s)) c := rfl

/-- The entries of a batch that are reserved. -/
def batchMine (s : State) (b : Nat) : Batch := (s.ct.cache.filter fun e => e.2.reserved && e.1 / 496 = b).map fun e => (e.1, e.2.data)

/-- The pass of a batch, with the entries put back. -/
def batchBack (s : State) (b : Nat) : State := forEach (batchPass s (batchMine s b)).2 passBack (batchPass s (batchMine s b)).1

/-- The oldest batch in flight passes. -/
def passRun (errs : List (Nat × Nat)) (b : Nat) (rest : List Nat) (q : State) : State :=
  let s1 := batchBack (cacheErrors q errs) b
  muleRecopy { s1 with ox := { s1.ox with inFlight := rest } }

theorem exec_batchPass {b : Nat} {rest : List Nat} (hr : oxRuns s = true) (ha : s.ox.active = true) (ht : tableReach s = true)
    (hb : s.ox.inFlight = b :: rest) (errs : List (Nat × Nat)) (f : Bool) :
    exec (.batchPass errs f) s = .next (ctGo (withReads f (passRun errs b rest) s)) := by
  show execBatchPass errs f s = _
  unfold execBatchPass
  rw [hb]
  dsimp only
  rw [hr, ht, ha]
  rfl

theorem passRun_kept (errs : List (Nat × Nat)) (b : Nat) (rest : List Nat) (q : State) : (passRun errs b rest q).ct.waits = q.ct.waits ∧
    (passRun errs b rest q).ox.inFlight = rest ∧ (passRun errs b rest q).ox.epoch = q.ox.epoch ∧
    (passRun errs b rest q).ox.nextBatch = q.ox.nextBatch := by
  have h0 := cacheErrors_keepsRun q errs
  have h1 := batchPass_keepsEpoch (cacheErrors q errs) (batchMine (cacheErrors q errs) b)
  have h2 : KeepsRun _ (batchBack (cacheErrors q errs) b) := forEach_keepsRun _ _ passBack_keepsRun
  have h3 := muleRecopy_keepsRun { batchBack (cacheErrors q errs) b with ox := { (batchBack (cacheErrors q errs) b).ox with inFlight := rest } }
  unfold passRun
  refine ⟨h3.waits.trans (h2.waits.trans (h1.waits.trans h0.waits)), ?_, ?_, ?_⟩
  · rw [h3.ox]
  · rw [h3.ox]
    exact (congrArg Ox.epoch h2.ox).trans (h1.epoch.trans (congrArg Ox.epoch h0.ox))
  · rw [h3.ox]
    exact (congrArg Ox.nextBatch h2.ox).trans (h1.nextBatch.trans (congrArg Ox.nextBatch h0.ox))

theorem exec_batchPass_idle {b : Nat} {rest : List Nat} (hr : oxRuns s = true) (ha : s.ox.active = true) (ht : tableReach s = true)
    (hb : s.ox.inFlight = b :: rest) (hw : s.ct.waits = []) (errs : List (Nat × Nat)) (f : Bool) :
    exec (.batchPass errs f) s = .next (withReads f (passRun errs b rest) s) := by
  rw [exec_batchPass hr ha ht hb, ctGo_idle]
  rw [withReads_waits, (passRun_kept errs b rest _).1]
  exact hw

/-! ### The entries of a batch that passes -/

theorem muleCopy_idle (c : Nat) (h : s.ct.mule.phase ≠ 3) : muleCopy c s = s := if_pos h

theorem muleRecopy_none (h : s.ct.mule.recopy = []) : muleRecopy s = s := by
  unfold muleRecopy
  rw [h]
  split <;> rfl

/-- A line as its pass puts it back. -/
def putBack (e : Entry) (l : Line) : Line := { l with data := e, dirty := false, reserved := false }

theorem passBack_cache (x : Nat × Entry) (h : s.ct.mule.phase ≠ 3) : (passBack x s).ct.mule = s.ct.mule ∧
    ∀ c, line (passBack x s) c = if c = x.1 then (line s c).map (putBack x.2) else line s c := by
  unfold passBack
  split
  next hn =>
    refine ⟨rfl, fun c => ?_⟩
    split
    next hc =>
      rw [hc, hn]
      rfl
    · rfl
  next l hl =>
    have hput := (setLine_onlyCache s x.1 { l with data := x.2, dirty := l.dirty || decide (l.data ≠ x.2), reserved := false }).trans
      (writeBack_onlyCache x.1 _)
    have hmule := congrArg ChanTable.mule hput.ct
    rw [muleCopy_idle _ (fun h3 => h ((congrArg Mule.phase hmule).symm.trans h3))]
    refine ⟨hmule, fun c => ?_⟩
    rw [line_writeBack]
    by_cases hc : c = x.1
    · subst hc
      rw [if_pos rfl, if_pos rfl, line_setLine_self, hl]
      rfl
    · rw [if_neg hc, if_neg hc, line_setLine_other _ _ _ _ hc]

/-- A channel of which no entry is put back keeps its line; one whose entries put back are all `e` takes it. -/
theorem line_passBacks (c : Nat) (e : Entry) : ∀ (m : Batch) (s : State), s.ct.mule.phase ≠ 3 →
    (∀ y ∈ m, y.1 = c → y = (c, e)) →
      line (forEach m passBack s) c = if (c, e) ∈ m then (line s c).map (putBack e) else line s c
  | [], s, _, _ => (if_neg List.not_mem_nil).symm
  | x :: m, s, hp, hm => by
    obtain ⟨hmule, hline⟩ := passBack_cache x hp
    show line (forEach m passBack (passBack x s)) c = _
    rw [line_passBacks c e m (passBack x s) (by rwa [hmule]) fun y hy => hm y (List.mem_cons_of_mem _ hy), hline c]
    by_cases hc : c = x.1
    · have hx : x = (c, e) := hm x List.mem_cons_self hc.symm
      subst hx
      rw [if_pos rfl, if_pos List.mem_cons_self, Option.map_map]
      split <;> rfl
    · have hx : (c, e) ∈ x :: m ↔ (c, e) ∈ m := by
        rw [List.mem_cons, or_iff_right]
        exact fun h => hc (congrArg Prod.fst h)
      rw [if_neg hc]
      simp only [hx]

theorem getLsbD_putBits {n : Nat} (w : BitVec n) (lo len v i : Nat) (hi : i < n) :
    (putBits w lo len v).getLsbD i = if lo ≤ i ∧ i < lo + len then v.testBit (i - lo) else w.getLsbD i := by
  have hmask : (maskOf n lo len).getLsbD i = (decide (lo ≤ i) && decide (i - lo < len)) := by
    unfold maskOf
    rw [BitVec.getLsbD_ofNat, Nat.testBit_mul_two_pow, Nat.testBit_two_pow_sub_one, decide_eq_true hi, Bool.true_and]
  unfold putBits
  rw [BitVec.getLsbD_or, BitVec.getLsbD_and, BitVec.getLsbD_not, hmask, BitVec.getLsbD_ofNat, Nat.testBit_mul_two_pow, Nat.testBit_mod_two_pow,
    decide_eq_true hi]
  by_cases h1 : lo ≤ i
  · by_cases h2 : i - lo < len
    · rw [if_pos ⟨h1, by omega⟩]
      simp [h1, h2]
    · rw [if_neg (by omega)]
      simp [h2]
  · rw [if_neg (by omega)]
    simp [h1]

theorem eStatus_eSetStatus_self (e : Entry) (v : Bool) {i : Nat} (hi : i < 32) : eStatus (eSetStatus e i v) i = v := by
  unfold eStatus eSetStatus bitOf
  rw [getLsbD_putBits _ _ _ _ _ (by omega), if_pos (by omega), Nat.sub_self]
  cases v <;> rfl

theorem eKind_eSetStatus (e : Entry) (v : Bool) {i : Nat} (hi : i < 32) : eKind (eSetStatus e i v) = eKind e := by
  unfold eKind bitsOf eSetStatus
  congr 1
  refine BitVec.eq_of_getLsbD_eq fun j hj => ?_
  rw [BitVec.getLsbD_extractLsb', BitVec.getLsbD_extractLsb', getLsbD_putBits _ _ _ _ _ (by omega), if_neg (by omega)]

/-- A CELL or TEMP channel of a quarantined node. -/
structure QuarantinedCell (s : State) (e : Entry) : Prop where
  included : eExclude e = false
  kind : eKind e = 1 ∨ eKind e = 3
  node : quarantined s (eNode e) = true

theorem QuarantinedCell.frozen {e : Entry} (h : QuarantinedCell s e) (c : Nat) : Frozen s (c, e) := by
  have hk : eKind e ≠ 2 := by
    have := h.kind
    omega
  constructor
  · simp [passes, chanQuarantined, h.node]
  · simp [estimates, chanQuarantined, h.node, hk]

/-- It only gets its status bit. -/
theorem QuarantinedCell.passed {e : Entry} (h : QuarantinedCell s e) (hs : eStatus e 1 = false) (c : Nat) :
    passedEntry s (c, e) = (c, eSeal (eSetStatus e 1 true)) := by
  have hk : eKind (eSetStatus e 1 true) ≠ 5 := by
    rw [eKind_eSetStatus e true (by omega)]
    have := h.kind
    omega
  have hfrozen : passFrozen s (c, e) = eSetStatus e 1 true := by
    simp [passFrozen, chanQuarantined, h.node, h.included, hk]
  have hne : eSetStatus e 1 true ≠ e := fun heq => by
    have hset := eStatus_eSetStatus_self e true (i := 1) (by omega)
    rw [heq, hs] at hset
    exact Bool.false_ne_true hset
  unfold passedEntry
  rw [if_neg (ne_true_of_eq_false (h.frozen c).1), hfrozen, if_neg (by simp [hne])]

theorem mem_batchMine {b : Nat} {x : Nat × Entry} (h : x ∈ batchMine s b) :
    ∃ l : Line, (x.1, l) ∈ s.ct.cache ∧ l.reserved = true ∧ x.1 / 496 = b ∧ x.2 = l.data := by
  obtain ⟨e, he, rfl⟩ := List.mem_map.mp h
  obtain ⟨hmem, hkeep⟩ := List.mem_filter.mp he
  simp only [Bool.and_eq_true, decide_eq_true_eq] at hkeep
  exact ⟨e.2, hmem, hkeep.1, hkeep.2, rfl⟩

/-- What the pass of a batch puts back has the channels of the batch. -/
theorem batchBack_from {b : Nat} {y : Nat × Entry} (h : y ∈ (batchPass s (batchMine s b)).2) :
    ∃ x ∈ batchMine s b, y.1 = x.1 ∧ (Frozen s x → y = passedEntry s x) := by
  obtain ⟨m, hm, hcarry⟩ := batchPass_entries s (batchMine s b)
  rw [hm] at h
  obtain ⟨z, hz, rfl⟩ := List.mem_map.mp h
  obtain ⟨x, hx, hzx, hC⟩ := hcarry.from_ z hz
  exact ⟨x, hx, (passedEntry_fst s z).trans hzx, fun hF => by rw [hC hF]⟩

theorem batchBack_frozen {b : Nat} {x : Nat × Entry} (hx : x ∈ batchMine s b) (hF : Frozen s x) :
    passedEntry s x ∈ (batchPass s (batchMine s b)).2 := by
  obtain ⟨m, hm, hcarry⟩ := batchPass_entries s (batchMine s b)
  rw [hm]
  exact List.mem_map_of_mem (hcarry.kept x hx hF)

section
variable {b c : Nat} {l : Line}

theorem mem_cache_of_line (hl : line s c = some l) : (c, l) ∈ s.ct.cache := Sparse.mem_of_get? hl

theorem batchBack_mule (hp : s.ct.mule.phase ≠ 3) : (batchBack s b).ct.mule = s.ct.mule := by
  have hkeep := batchPass_keepsEpoch s (batchMine s b)
  have hmules : ∀ q : State, q.ct.mule = s.ct.mule → ∀ x, (passBack x q).ct.mule = s.ct.mule := fun q hq x =>
    (passBack_cache x (by rwa [hq])).1.trans hq
  exact forEach_induct (P := fun q : State => q.ct.mule = s.ct.mule) hkeep.mule fun x _ q hq => hmules q hq x

/-- A line that the batch has not reserved stays. -/
theorem line_batchBack_other (hp : s.ct.mule.phase ≠ 3) (hone : ∀ e, e ∈ s.ct.cache → e.1 = c → e.2 = l) (hl : line s c = some l)
    (ho : c / 496 ≠ b ∨ l.reserved = false) : line (batchBack s b) c = some l := by
  have hkeep := batchPass_keepsEpoch s (batchMine s b)
  have hnone : ∀ y ∈ (batchPass s (batchMine s b)).2, y.1 ≠ c := by
    rintro y hy rfl
    obtain ⟨x, hx, hyx, -⟩ := batchBack_from hy
    obtain ⟨l', hl', hres, hb, -⟩ := mem_batchMine hx
    have heq : l' = l := hone _ hl' hyx.symm
    subst heq
    rcases ho with ho | ho
    · exact ho (hyx ▸ hb)
    · rw [ho] at hres
      exact Bool.false_ne_true hres
  refine (line_passBacks c l.data (batchPass s (batchMine s b)).2 (batchPass s (batchMine s b)).1 (by rwa [hkeep.mule])
    fun y hy hc => absurd hc (hnone y hy)).trans ?_
  rw [if_neg fun hm => hnone _ hm rfl]
  exact (congrArg (Sparse.get? · c) hkeep.cache).trans hl

/-- A CELL or TEMP channel of a quarantined node only gets its status bit. -/
theorem line_batchBack_quarantined (hp : s.ct.mule.phase ≠ 3) (hone : ∀ e, e ∈ s.ct.cache → e.1 = c → e.2 = l) (hl : line s c = some l)
    (hb : c / 496 = b) (hr : l.reserved = true) (hq : QuarantinedCell s l.data) (hs : eStatus l.data 1 = false) :
    line (batchBack s b) c = some (putBack (eSeal (eSetStatus l.data 1 true)) l) := by
  have hkeep := batchPass_keepsEpoch s (batchMine s b)
  have hmine : ∀ x ∈ batchMine s b, x.1 = c → x = (c, l.data) := by
    rintro ⟨x, e⟩ hx rfl
    obtain ⟨l', hl', -, -, rfl⟩ := mem_batchMine hx
    rw [show l' = l from hone _ hl' rfl]
  have hback : ∀ y ∈ (batchPass s (batchMine s b)).2, y.1 = c → y = (c, eSeal (eSetStatus l.data 1 true)) := by
    rintro y hy rfl
    obtain ⟨x, hx, hyx, hF⟩ := batchBack_from hy
    have hxe := hmine x hx hyx.symm
    rw [hxe] at hF
    exact (hF (hq.frozen _)).trans (hq.passed hs _)
  have hin : (c, l.data) ∈ batchMine s b := by
    refine List.mem_map.mpr ⟨(c, l), List.mem_filter.mpr ⟨mem_cache_of_line hl, ?_⟩, rfl⟩
    simp [hr, hb]
  refine (line_passBacks c (eSeal (eSetStatus l.data 1 true)) (batchPass s (batchMine s b)).2 (batchPass s (batchMine s b)).1
    (by rwa [hkeep.mule]) hback).trans ?_
  rw [if_pos (hq.passed hs c ▸ batchBack_frozen hin (hq.frozen c)),
    show line (batchPass s (batchMine s b)).1 c = some l from (congrArg (Sparse.get? · c) hkeep.cache).trans hl]
  rfl

end

/-- A step that reads nothing is the step itself. -/
theorem withReads_id (fault : Bool) (s : State) {f : State → State} (h : f (reading fault s) = reading fault s) : withReads fault f s = s := by
  unfold withReads
  rw [show ({ s with ct := { s.ct with fails := fault } } : State) = reading fault s from rfl, h]
  rfl

section
variable {b c : Nat} {rest : List Nat} {l : Line} {f : Bool}

theorem line_muleRecopy_inFlight (rest : List Nat) (h : s.ct.mule.recopy = []) (c : Nat) :
    line (muleRecopy { s with ox := { s.ox with inFlight := rest } }) c = line s c := by
  rw [muleRecopy_none (s := { s with ox := { s.ox with inFlight := rest } }) h]
  rfl

/-- Where the Mule copies nothing, the pass of a batch ends with the entries put back. -/
theorem line_passRun (hrec : (batchBack (reading f s) b).ct.mule.recopy = []) (c : Nat) :
    line (withReads f (passRun [] b rest) s) c = line (batchBack (reading f s) b) c := by
  rw [withReads_line]
  exact line_muleRecopy_inFlight rest hrec c

theorem line_passRun_other (hp : s.ct.mule.phase ≠ 3) (hrec : s.ct.mule.recopy = []) (hone : ∀ e, e ∈ s.ct.cache → e.1 = c → e.2 = l)
    (hl : line s c = some l) (ho : c / 496 ≠ b ∨ l.reserved = false) : line (withReads f (passRun [] b rest) s) c = some l := by
  rw [line_passRun ((congrArg Mule.recopy (batchBack_mule (s := reading f s) hp)).trans hrec)]
  exact line_batchBack_other (s := reading f s) hp hone hl ho

theorem line_passRun_quarantined (hp : s.ct.mule.phase ≠ 3) (hrec : s.ct.mule.recopy = []) (hone : ∀ e, e ∈ s.ct.cache → e.1 = c → e.2 = l)
    (hl : line s c = some l) (hb : c / 496 = b) (hr : l.reserved = true) (hq : QuarantinedCell s l.data) (hs : eStatus l.data 1 = false) :
    line (withReads f (passRun [] b rest) s) c = some (putBack (eSeal (eSetStatus l.data 1 true)) l) := by
  have hmule := batchBack_mule (s := reading f s) (b := b) hp
  rw [line_passRun ((congrArg Mule.recopy hmule).trans hrec)]
  exact line_batchBack_quarantined (s := reading f s) hp hone hl hb hr ⟨hq.included, hq.kind, hq.node⟩ hs

end

/-! ### The fetch of a batch (R30, R123) -/

/-- The channels `cs` are reserved, and the lines keep their entries. -/
structure Reserves (cs : List Nat) (s t : State) : Prop where
  only : OnlyTable s t
  lines : ∀ c l, line s c = some l → ∃ l', line t c = some l' ∧ l'.data = l.data ∧ l'.reserved = (l.reserved || cs.contains c)
  kept : ∀ c, (line s c).isSome = true → (line t c).isSome = true

/-- Fetching a channel that is cached reserves it. -/
theorem fetchChannel_reserves (bad : List Nat) {c : Nat} (h : (line s c).isSome = true) : Reserves [c] s (fetchChannel s bad c false true).1 := by
  obtain ⟨l, hl⟩ := Option.isSome_iff_exists.mp h
  have hf : (fetchChannel s bad c false true).1 = useLine s c { l with pinned := l.pinned || false, reserved := l.reserved || true } := by
    unfold fetchChannel
    rw [hl]
  rw [hf]
  have hlines : ∀ j m, line s j = some m → ∃ l', line (useLine s c { l with pinned := l.pinned || false, reserved := l.reserved || true }) j = some l' ∧
      l'.data = m.data ∧ l'.reserved = (m.reserved || [c].contains j) := by
    intro j m hm
    by_cases hj : j = c
    · subst hj
      rw [hl] at hm
      cases hm
      exact ⟨_, line_useLine_self .., rfl, by simp⟩
    · exact ⟨m, (line_useLine_other _ _ hj).trans hm, rfl, by simp [hj]⟩
  exact ⟨useLine_onlyTable .., hlines, fun j hj => by
    obtain ⟨m, hm⟩ := Option.isSome_iff_exists.mp hj
    obtain ⟨l', hl', -⟩ := hlines j m hm
    exact Option.isSome_iff_exists.mpr ⟨l', hl'⟩⟩

theorem fetchChannels_reserve (bad : List Nat) : ∀ (cs : List Nat) (s : State), (∀ c ∈ cs, (line s c).isSome = true) →
    Reserves cs s (forEach cs (fun c q => (fetchChannel q bad c false true).1) s)
  | [], s, _ => ⟨rfl, fun _ l hl => ⟨l, hl, rfl, (Bool.or_false _).symm⟩, fun _ h => h⟩
  | c :: cs, s, h => by
    have h1 := fetchChannel_reserves bad (h c List.mem_cons_self)
    have h2 := fetchChannels_reserve bad cs (fetchChannel s bad c false true).1 fun j hj => h1.kept j (h j (List.mem_cons_of_mem _ hj))
    refine ⟨h1.only.trans h2.only, fun j l hl => ?_, fun j hj => h2.kept j (h1.kept j hj)⟩
    obtain ⟨l1, hl1, hd1, hr1⟩ := h1.lines j l hl
    obtain ⟨l2, hl2, hd2, hr2⟩ := h2.lines j l1 hl1
    refine ⟨l2, hl2, hd2.trans hd1, ?_⟩
    rw [hr2, hr1]
    by_cases hj : j = c <;> simp [hj]

/-- The channels `cs` of a batch are fetched and reserved, those that are cached first. -/
def batchHeld (s : State) (bad : List Nat) (b : Nat) (cs : List Nat) (q : State) : State :=
  let held := forEach (cs.filter fun c => (line q c).isSome) (fun c q1 => (fetchChannel q1 bad c false true).1) q
  let s1 := forEach (cs.filter fun c => (line s c).isNone) (fun c q1 => (fetchChannel q1 bad c false true).1) held
  { s1 with ox := { s1.ox with nextBatch := b + 1, inFlight := s1.ox.inFlight ++ [b] } }

/-- Of the engine's run, the fetch of a batch changes the batches. -/
theorem batchHeld_run (bad : List Nat) (b : Nat) (cs : List Nat) (ht : t = withReads false (batchHeld s bad b cs) s) :
    t.ox.nextBatch = b + 1 ∧ t.ox.inFlight = s.ox.inFlight ++ [b] ∧ t.ox.epoch = s.ox.epoch ∧ t.lp = s.lp ∧ t.regs = s.regs := by
  have h : KeepsRun (reading false s) (forEach (cs.filter fun c => (line s c).isNone) (fun c q1 => (fetchChannel q1 bad c false true).1)
      (forEach (cs.filter fun c => (line (reading false s) c).isSome) (fun c q1 => (fetchChannel q1 bad c false true).1) (reading false s))) :=
    (forEach_keepsRun _ _ fun c p => fetchChannel_keepsRun p bad c false true).trans
      (forEach_keepsRun _ _ fun c p => fetchChannel_keepsRun p bad c false true)
  subst ht
  have hflight := congrArg (fun x : Ox => x.inFlight ++ [b]) h.ox
  have hepoch := congrArg Ox.epoch h.ox
  exact ⟨rfl, hflight, hepoch, h.lp, h.regs⟩

/-- Where every channel is cached, none is read. -/
theorem batchHeld_cached (bad : List Nat) (b : Nat) {cs : List Nat} {q : State} (h : ∀ c ∈ cs, (line s c).isSome = true) (hq : ∀ c, line q c = line s c) :
    ∃ t, Reserves cs q t ∧ batchHeld s bad b cs q = { t with ox := { t.ox with nextBatch := b + 1, inFlight := t.ox.inFlight ++ [b] } } := by
  have hsome : (cs.filter fun c => (line q c).isSome) = cs := List.filter_eq_self.mpr fun c hc => hq c ▸ h c hc
  have hnone : (cs.filter fun c => (line s c).isNone) = [] := List.filter_eq_nil_iff.mpr fun c hc hn => by
    have hc := h c hc
    rw [Option.isNone_iff_eq_none.mp hn] at hc
    exact Bool.false_ne_true hc
  refine ⟨_, fetchChannels_reserve bad cs q fun c hc => hq c ▸ h c hc, ?_⟩
  unfold batchHeld
  rw [hsome, hnone]
  rfl

/-- Then no byte changes, and the lines are reserved with their entries. -/
theorem batchHeld_keeps (bad : List Nat) (b : Nat) {cs : List Nat} (h : ∀ c ∈ cs, (line s c).isSome = true) :
    SameBytes s (withReads false (batchHeld s bad b cs) s) ∧ ∀ c l, c ∈ cs → line s c = some l →
      ∃ l', line (withReads false (batchHeld s bad b cs) s) c = some l' ∧ l'.reserved = true ∧ l'.data = l.data := by
  obtain ⟨t, hres, heq⟩ := batchHeld_cached bad b (q := reading false s) h fun c => rfl
  have hbytes : SameBytes t (batchHeld s bad b cs (reading false s)) := by
    rw [heq]
    exact .of_mem rfl rfl rfl
  have hreads : SameBytes (batchHeld s bad b cs (reading false s)) (withReads false (batchHeld s bad b cs) s) := .of_mem rfl rfl rfl
  have hfrom : SameBytes s t := hres.only.sameBytes
  refine ⟨hfrom.trans (hbytes.trans hreads), fun c l hc hl => ?_⟩
  obtain ⟨l', hl', hd, hr⟩ := hres.lines c l hl
  refine ⟨l', ?_, by rw [hr]; simp [hc], hd⟩
  rw [withReads_line, heq]
  exact hl'

/-- The engine has room for batch `nextBatch`. -/
structure BatchDue (s : State) : Prop where
  runs : oxRuns s = true
  active : s.ox.active = true
  reach : tableReach s = true
  left : 496 * s.ox.nextBatch < s.ct.count
  room : s.ox.inFlight.length < s.ox.maxBatches
  repin : s.ct.repin = []

theorem exec_batchFetch (h : BatchDue s) (f : Bool) (bad : List Nat) : exec (.batchFetch [] f bad) s = .next (
    if !batchFits s (batchChannels s s.ox.nextBatch) then s
    else if f then ctHostErr s
    else withReads false (batchHeld s bad s.ox.nextBatch (batchChannels s s.ox.nextBatch)) s) := by
  have hgo : ¬ ((!(oxRuns s && tableReach s && s.ox.active) || s.ct.count ≤ 496 * s.ox.nextBatch || s.ox.maxBatches ≤ s.ox.inFlight.length) = true) := by
    have h1 := h.left
    have h2 := h.room
    simp [h.runs, h.active, h.reach]
    omega
  have hreads : withReads false (fun q => refetchPinned (cacheErrors q [])) s = s := withReads_id false s (refetchPinned_none h.repin)
  show execBatchFetch [] f bad s = _
  unfold execBatchFetch
  rw [if_neg hgo, hreads]
  rfl

/-! ### The boundary, the end of an epoch, and a fit (R267, R271, R273) -/

/-- A boundary has passed: the waiting writes are in force and a LATCH is due. -/
def boundaryPassed (s : State) : State :=
  { s with regs := (s.regs.applyLate s.otp oxReg).applyCaptured s.otp oxReg, ox := { s.ox with commit := false }, lp := { s.lp with latchDue := true } }

theorem exec_epochBoundary (hr : oxRuns s = true) : exec .epochBoundary s = .next (
    if s.ox.active then { boundaryPassed s with ox := { (boundaryPassed s).ox with
      overruns := satInc s.ox.overruns, overran := true, paused := s.ox.paused || !tableReach s } }
    else if !s.ct.attached then boundaryPassed s
    else match muleBoundary (boundaryPassed s) with
    | some t => epochStart t
    | none => muleReplay (boundaryPassed s)) := by
  show execEpochBoundary s = _
  unfold execEpochBoundary
  rw [hr]
  rfl

theorem exec_epochBoundary_overruns (hr : oxRuns s = true) (ha : s.ox.active = true) : exec .epochBoundary s =
    .next { boundaryPassed s with ox := { (boundaryPassed s).ox with
      overruns := satInc s.ox.overruns, overran := true, paused := s.ox.paused || !tableReach s } } := by
  rw [exec_epochBoundary hr, ha]
  rfl

theorem exec_epochBoundary_detached (hr : oxRuns s = true) (hn : s.ox.active = false) (hd : s.ct.attached = false) :
    exec .epochBoundary s = .next (boundaryPassed s) := by
  rw [exec_epochBoundary hr, hn, hd]
  rfl

theorem muleBoundary_prepares (h : s.ct.mule.phase ≤ 1) : muleBoundary s = some s := by
  unfold muleBoundary
  dsimp only
  split
  next h2 => omega
  next h3 => omega
  next h4 => omega
  · rfl

theorem exec_epochBoundary_starts (hr : oxRuns s = true) (hn : s.ox.active = false) (ha : s.ct.attached = true) (hp : s.ct.mule.phase ≤ 1) :
    exec .epochBoundary s = .next (epochStart (boundaryPassed s)) := by
  rw [exec_epochBoundary hr, hn, ha, muleBoundary_prepares (s := boundaryPassed s) hp]
  rfl

theorem exec_epochEnd (hr : oxRuns s = true) (ha : s.ox.active = true) (ht : tableReach s = true) (hc : s.ct.count ≤ 496 * s.ox.nextBatch)
    (hi : s.ox.inFlight = []) (hp : s.ox.parkLeft = []) : exec .epochEnd s =
      .next (raise { s with ox := { s.ox with epoch := s.ox.epoch + 1, active := false } } 27
        (pack 64 [(0, 32, (s.ox.epoch + 1).toNat), (32, 16, sat16 s.ox.fitsApplied), (48, 1, b2n s.ox.overran), (49, 1, b2n s.ox.paused)])) := by
  have hskip : parkSkip s = s := by
    unfold parkSkip
    rw [hp]
    rfl
  show execEpochEnd s = _
  unfold execEpochEnd
  rw [hr, ht, ha, hi, decide_eq_true hc, hskip]
  rfl

theorem epochEnd_waits (h : s.ct.count > 496 * s.ox.nextBatch ∨ s.ox.inFlight ≠ [] ∨ tableReach s = false) : exec .epochEnd s = .next s := by
  show execEpochEnd s = _
  unfold execEpochEnd
  have hgo : (!(oxRuns s && tableReach s && s.ox.active && s.ct.count ≤ 496 * s.ox.nextBatch && s.ox.inFlight.isEmpty)) = true := by
    rcases h with h | h | h
    · have hc : ¬ s.ct.count ≤ 496 * s.ox.nextBatch := by omega
      simp [hc]
    · simp [h]
    · simp [h]
  exact congrArg Host.Outcome.next (if_pos hgo)

section
variable {j : FitJob} {rest : List FitJob} {tap : Nat} {ts : List Nat}

theorem exec_fitCompute (hr : oxRuns s = true) : exec .fitCompute s = .next (fitCompute s) := by
  show execFitCompute s = _
  unfold execFitCompute
  rw [hr]
  rfl

/-- The next waiting tap is taken. -/
def fitTaken (s : State) (j : FitJob) (rest : List FitJob) (ts : List Nat) : State :=
  { s with ox := { s.ox with fits := if ts = [] then rest else { j with taps := ts } :: rest } }

/-- What a fit of a channel leaves. -/
def fitLeft (s : State) (c : Nat) : Option (Fit × Bool) → State
  | none => s
  | some (_, true) => { s with ox := { s.ox with computed := s.ox.computed + 1, rejected := satInc s.ox.rejected } }
  | some (f, false) =>
    let s1 := pendMod { s with ox := { s.ox with computed := s.ox.computed + 1 } } c fun h => { h with fit := some f }
    { s1 with ox := { s1.ox with dropped := if (held s c).fit.isSome then satInc s1.ox.dropped else s1.ox.dropped } }

theorem fitTaken_empty (s : State) (j : FitJob) (rest : List FitJob) (ts : List Nat) : fitTaken s j rest ts =
    { s with ox := { s.ox with fits := if ts.isEmpty then rest else { j with taps := ts } :: rest } } := by
  cases ts <;> rfl

theorem fitCompute_unknown (hf : s.ox.fits = j :: rest) (ht : j.taps = tap :: ts) (hd : dirChannel s.ct.dir 1 j.node tap = none) :
    fitCompute s = fitTaken s j rest ts := by
  unfold fitCompute
  rw [hf]
  dsimp only
  rw [ht]
  dsimp only
  rw [hd]
  exact (fitTaken_empty s j rest ts).symm

theorem fitCompute_computes {c : Nat} {x : Int} {xs : List Int} (hf : s.ox.fits = j :: rest) (ht : j.taps = tap :: ts)
    (hd : dirChannel s.ct.dir 1 j.node tap = some c) (hg : capTap j.pieces (groupTap s j.node tap) = x :: xs) :
    fitCompute s = fitLeft (fitTaken s j rest ts) c
      (computeFit ((capTap j.pieces tap).map fun (x : Int) => (x : Rat) * 4 / 10000000) (0 :: xs.map fun (x : Int) => (x : Rat) / 100000)
        (natQ (fld s 0x280C 0 16) / 1000000) (if fld s 0x280C 16 10 < 1000 then fld s 0x280C 16 10 else 1000) j.capture j.refTs) := by
  unfold fitCompute
  rw [hf]
  dsimp only
  rw [ht]
  dsimp only
  rw [hd]
  dsimp only
  rw [hg]
  rw [List.map_cons]
  generalize computeFit _ _ _ _ _ _ = o
  cases ts <;> rcases o with _ | ⟨f, _ | _⟩ <;> rfl

end

/-- Settles O49: an epoch begins and ends as its guards say, and a pass puts back the entries of its batch. -/
theorem oxEpochs : Obligations.OxEpochs := by
  unfold Obligations.OxEpochs
  refine ⟨?stands, ?boundary, ?batches, ?fits⟩
  case stands =>
    intro s hr
    refine ⟨fun i hi => ?_, fun es f bad => ⟨?_, ?_⟩⟩
    · simp only [List.mem_cons, List.not_mem_nil, or_false] at hi
      rcases hi with rfl | rfl | rfl
      · show execEpochBoundary s = _
        unfold execEpochBoundary
        rw [hr]
        rfl
      · show execEpochEnd s = _
        unfold execEpochEnd
        rw [hr]
        rfl
      · show execFitCompute s = _
        unfold execFitCompute
        rw [hr]
        rfl
    · show execBatchFetch es f bad s = _
      unfold execBatchFetch
      rw [hr]
      rfl
    · show execBatchPass es f s = _
      unfold execBatchPass
      rw [hr]
      split <;> rfl
  case boundary =>
    exact fun s hr => ⟨exec_epochBoundary_overruns hr, exec_epochBoundary_detached hr, exec_epochBoundary_starts hr⟩
  case batches =>
    intro s hr ha b
    refine ⟨fun hn es f bad => ?_, fun ht hc hroom hrep bad => ?_, fun hi es f => ?_, fun hn es f => ?_, fun b rest ht hb hw => ⟨fun es f => ?_, fun hp hrec f => ?_⟩,
      fun ht hc hi hp => ?_, epochEnd_waits⟩
    · show execBatchFetch es f bad s = _
      unfold execBatchFetch
      refine congrArg Host.Outcome.next (if_pos ?_)
      rcases hn with hn | hn | hn
      · rw [hn]
        simp
      · rw [decide_eq_true hn]
        simp
      · rw [decide_eq_true hn]
        simp
    · intro cs
      have hdue : BatchDue s := ⟨hr, ha, ht, hc, hroom, hrep⟩
      refine ⟨fun hfit f => ?_, fun hfit => ⟨?_, ?_⟩⟩
      · rw [exec_batchFetch hdue f bad, hfit]
        rfl
      · rw [exec_batchFetch hdue true bad, hfit]
        rfl
      · obtain ⟨hnext, hflight, hepoch, hlp, hregs⟩ := batchHeld_run bad b cs rfl (s := s)
        refine ⟨withReads false (batchHeld s bad b cs) s, ?_, hnext, ?_, hepoch, hlp, hregs, batchHeld_keeps bad b⟩
        · rw [exec_batchFetch hdue false bad, hfit]
          rfl
        · exact hflight
    · show execBatchPass es f s = _
      unfold execBatchPass
      rw [hi]
    · show execBatchPass es f s = _
      unfold execBatchPass
      have hgo : (!(oxRuns s && tableReach s && s.ox.active)) = true := by
        rw [hn]
        simp
      split
      · rfl
      · rw [if_pos hgo]
    · obtain ⟨-, hflight, hepoch, hnext⟩ := passRun_kept es b rest (reading f s)
      exact ⟨_, exec_batchPass_idle hr ha ht hb hw es f, hflight, hepoch, hnext⟩
    · refine ⟨_, exec_batchPass_idle hr ha ht hb hw [] f, fun c l hl hone => ⟨fun ho => ?_, fun hb' hres hx hk hq hs => ?_⟩⟩
      · exact line_passRun_other (f := f) hp hrec hone hl ho
      · exact line_passRun_quarantined (f := f) hp hrec hone hl hb' hres ⟨hx, hk, hq⟩ hs
    · refine ⟨_, exec_epochEnd hr ha ht hc hi hp, raise_onlyEvents .., ?_⟩
      exact raise_eventRaised { s with ox := { s.ox with epoch := s.ox.epoch + 1, active := false } } 27 _
  case fits =>
    intro s hr
    refine ⟨fun hf => ?_, fun j rest t ts hf ht => ⟨fun hd => ?_, fun c x xs hd hg => ⟨fun hn => ?_, fun f hs => ?_, fun f hs => ?_⟩⟩⟩
    · rw [exec_fitCompute hr]
      unfold fitCompute
      rw [hf]
    · rw [exec_fitCompute hr, fitCompute_unknown hf ht hd]
      rfl
    · rw [exec_fitCompute hr, fitCompute_computes hf ht hd hg, hn]
      rfl
    · rw [exec_fitCompute hr, fitCompute_computes hf ht hd hg, hs]
      rfl
    · refine ⟨_, exec_fitCompute hr, ?_⟩
      rw [fitCompute_computes hf ht hd hg, hs]
      exact ⟨congrArg ChanPend.fit (Sparse.getD_set_self ..), rfl, rfl, rfl, rfl, .of_mem rfl rfl rfl, rfl⟩

end Sys2Proof.Machine
end

section
/-! PROOFS. What events and telemetry records leave: captures, and whether events are routed. -/

namespace Sys2Proof.Machine

variable {s t u : State}

/-- Events and records may be written: at most what a completion brings about differs, and neither the captures nor routing. -/
structure Writes (s t : State) : Prop where
  reply : OnlyReply s t
  mc : t.mc = s.mc
  routing : t.evr.routing = s.evr.routing

theorem Writes.refl (s : State) : Writes s s := ⟨rfl, rfl, rfl⟩

theorem Writes.trans (h1 : Writes s t) (h2 : Writes t u) : Writes s u :=
  ⟨h1.reply.trans h2.reply, h2.mc.trans h1.mc, h2.routing.trans h1.routing⟩

theorem OnlyEvents.writes (h : OnlyEvents s t) (hr : t.evr.routing = s.evr.routing) : Writes s t := by
  refine ⟨h.reply, ?_, hr⟩
  unfold OnlyEvents at h
  rw [h]

theorem forEach_writes {α : Type} {f : α → State → State} (l : List α) (s : State) (h : ∀ a q, Writes q (f a q)) : Writes s (forEach l f s) :=
  forEach_induct (P := Writes s) (Writes.refl s) fun a _ q hq => hq.trans (h a q)

/-! ### Events keep routing (R636) -/

theorem msixSend_evr (s : State) (v : Nat) : (msixSend s v).evr = s.evr := by
  unfold msixSend
  split
  · rfl
  · dsimp only
    split <;> rfl

theorem coalSend_routing (v : Nat) (s : State) : (coalSend v s).evr.routing = s.evr.routing := by
  unfold coalSend
  rw [msixSend_evr]

theorem coalCount_routing (s : State) (v : Nat) : (coalCount s v).evr.routing = s.evr.routing := by
  unfold coalCount
  dsimp only
  split
  · exact coalSend_routing v s
  · rfl

theorem evMsix_routing (s : State) (k : Nat) : (evMsix s k).evr.routing = s.evr.routing := by
  unfold evMsix
  split
  · exact coalCount_routing ..
  · rfl

theorem routeEv4_routing (s : State) (o : Occ) : (routeEv4 s o).evr.routing = s.evr.routing := by
  unfold routeEv4
  split
  · rfl
  · exact evMsix_routing ..

theorem eqPost_routing (s : State) (k : Nat) (o : Occ) : (eqPost s k o).evr.routing = s.evr.routing := by
  unfold eqPost
  split
  · rfl
  · split
    · rfl
    · split
      · exact routeEv4_routing ..
      · rfl

theorem evRoute_routing (s : State) (k : Nat) (o : Occ) : (evRoute s k o).evr.routing = s.evr.routing := by
  unfold evRoute
  split
  · rfl
  · refine (evMsix_routing ..).trans ?_
    split
    · exact eqPost_routing ..
    · rfl

theorem raise_writes (s : State) (k : Nat) (d : DWord) : Writes s (raise s k d) := by
  refine (raise_onlyEvents s k d).writes ?_
  unfold raise occur
  split
  · exact evRoute_routing ..
  · rfl

/-- What an event brings about tells of the states before it that differ in nothing that routes it. -/
theorem EventRaised.of_writes {k : Nat} {d : DWord} (hr : routes s = routes t) (hm : evMasked s k = evMasked t k) (h : EventRaised t u k d) :
    EventRaised s u k d := by
  unfold EventRaised at *
  rw [hr, hm]
  exact h

theorem Writes.routes (h : Writes s t) : routes s = routes t := by
  have hroot : rootAlive t = rootAlive s := by
    have hr := h.reply
    unfold OnlyReply at hr
    rw [hr]
    rfl
  unfold Machine.routes
  rw [h.routing, hroot]

/-! ### Records (R73, R74) -/

theorem hostPost_writes (s : State) (a : Nat) (bs : List Byte) : Writes s (hostPost s a bs) := by
  refine ⟨hostPost_onlyReply .., ?_, ?_⟩ <;> unfold hostPost <;> split <;> rfl

theorem setStrm_writes (s : State) (m : Nat) (x : Stream) : Writes s (setStrm s m x) := ⟨rfl, rfl, rfl⟩
theorem setWin_writes (s : State) (w : Nat) (x : QWin) : Writes s (setWin s w x) := ⟨rfl, rfl, rfl⟩

theorem tsFinish_writes (m : Nat) (l : LateBuf) (s : State) : Writes s (tsFinish m l s) := by
  unfold tsFinish
  dsimp only
  split
  · exact (hostPost_writes ..).trans ((coalCount_onlyEvents ..).writes (coalCount_routing ..))
  · exact hostPost_writes ..

theorem tsClose_writes (flushed : Bool) (m : Nat) (s : State) : Writes s (tsClose flushed m s) := by
  unfold tsClose
  split
  · exact Writes.refl s
  · dsimp only
    split
    · exact ((setWin_writes ..).trans (setStrm_writes ..)).trans (setStrm_writes ..)
    · exact ((setWin_writes ..).trans (setStrm_writes ..)).trans (tsFinish_writes ..)

theorem tsLate_writes (s : State) : Writes s (tsLate s) := (setStrm_writes s 16 _).trans (forEach_writes _ _ (tsFinish_writes 16))

theorem tsOpen_writes (s : State) (m : Nat) (ts : Stamp) : Writes s (tsOpen s m ts) := by
  unfold tsOpen
  dsimp only
  split
  · exact (setStrm_writes ..).trans (raise_writes ..)
  · exact setStrm_writes ..

theorem tsDiscard_writes (s : State) (m k : Nat) : Writes s (tsDiscard s m k) := (setWin_writes ..).trans (setStrm_writes ..)

theorem tsReserve_writes (s : State) (m n : Nat) (ts : Stamp) : Writes s (tsReserve s m n ts).1 := by
  unfold tsReserve
  split
  · exact Writes.refl s
  · extract_lets s1 s2
    have h1 : Writes s s1 := by
      unfold s1
      split
      · split
        · exact Writes.refl s
        · exact tsClose_writes ..
      · exact Writes.refl s
    have h2 : Writes s s2 := by
      unfold s2
      split
      · exact h1.trans (tsOpen_writes ..)
      · exact h1
    split
    · exact h2
    · exact h2.trans (setStrm_writes ..)

theorem tsRecord_writes (s : State) (m : Nat) (ts : Stamp) (bs : List Byte) : Writes s (tsRecord s m ts bs) := by
  have h := tsReserve_writes s m bs.length ts
  unfold tsRecord
  split
  · next s1 a he =>
    rw [he] at h
    exact h.trans (hostPost_writes ..)
  · next s1 he =>
    rw [he] at h
    exact h.trans (tsDiscard_writes ..)

end Sys2Proof.Machine
end

section
/-! PROOFS. What a detection, a capture's end and a sample of the PI stream leave. -/

namespace Sys2Proof.Machine

variable {s t u : State}

/-! ### The reach of captures (R249, R258) -/

/-- At most this differs: what records and events bring about, the captures with their counts, the node commands that wait at the ports,
and what is held for the Ox engine. -/
def DetLeft (s t : State) : Prop :=
  t = { s with evr := t.evr, held := t.held, qe := t.qe, hostMem := t.hostMem
               mc := { s.mc with captures := t.mc.captures, partialCount := t.mc.partialCount, lastSeq := t.mc.lastSeq, lastCapt := t.mc.lastCapt
                                 declined := t.mc.declined }
               pcie := { s.pcie with pba := t.pcie.pba, posted := t.pcie.posted }, free := t.free, ret := { s.ret with lastPending := t.ret.lastPending }
               mp := { s.mp with completions := t.mp.completions }, ox := t.ox, lp := { s.lp with ports := t.lp.ports } }

theorem DetLeft.trans (h1 : DetLeft s t) (h2 : DetLeft t u) : DetLeft s u := by
  unfold DetLeft at *
  rw [h2, h1]

/-- And no CAPT has gone out, nor was one declined. -/
structure CapLeft (s t : State) : Prop where
  left : DetLeft s t
  lastSeq : t.mc.lastSeq = s.mc.lastSeq
  lastCapt : t.mc.lastCapt = s.mc.lastCapt
  declined : t.mc.declined = s.mc.declined

theorem CapLeft.refl (s : State) : CapLeft s s := ⟨rfl, rfl, rfl, rfl⟩

theorem CapLeft.trans (h1 : CapLeft s t) (h2 : CapLeft t u) : CapLeft s u :=
  ⟨h1.left.trans h2.left, h2.lastSeq.trans h1.lastSeq, h2.lastCapt.trans h1.lastCapt, h2.declined.trans h1.declined⟩

theorem forEach_capLeft {α : Type} {f : α → State → State} (l : List α) (s : State) (h : ∀ a q, CapLeft q (f a q)) : CapLeft s (forEach l f s) :=
  forEach_induct (P := CapLeft s) (CapLeft.refl s) fun a _ q hq => hq.trans (h a q)

theorem OnlyReply.capLeft (h : OnlyReply s t) : CapLeft s t := by
  unfold OnlyReply at h
  rw [h]
  exact ⟨rfl, rfl, rfl, rfl⟩

theorem Writes.capLeft (h : Writes s t) : CapLeft s t := h.reply.capLeft

theorem ox_capLeft (s : State) (x : Ox) : CapLeft s { s with ox := x } := ⟨rfl, rfl, rfl, rfl⟩

theorem updCapture_capLeft (s : State) (seq : Word) (f : Capture → Capture) : CapLeft s (updCapture s seq f) := ⟨rfl, rfl, rfl, rfl⟩

theorem setPort_capLeft (s : State) (p : Nat) (x : Port) : CapLeft s (setPort s p x) := ⟨rfl, rfl, rfl, rfl⟩

theorem ite_ox {b : Bool} {x : Ox} : ∃ y, (if b then { s with ox := x } else s) = { s with ox := y } := by
  split
  · exact ⟨x, rfl⟩
  · exact ⟨s.ox, rfl⟩

theorem fitsDue_ox (s : State) (c : Capture) (k : CapNode) : ∃ x, fitsDue s c k = { s with ox := x } := by
  unfold fitsDue
  exact ite_ox

theorem capMark_ox (s : State) (a : Nat) (ks : List Nat) (ts : Stamp) : ∃ x, capMark s a ks ts = { s with ox := x } := by
  unfold capMark
  split
  · exact ⟨s.ox, rfl⟩
  · split
    · exact ⟨s.ox, rfl⟩
    · refine forEach_induct (P := fun q : State => ∃ x, q = { s with ox := x }) ⟨s.ox, rfl⟩ fun kind _ q hq => ?_
      refine forUpTo_induct (P := fun q : State => ∃ x, q = { s with ox := x }) _ hq fun i q _ hq => ?_
      obtain ⟨x, rfl⟩ := hq
      exact ⟨_, rfl⟩

theorem fitsDue_capLeft (s : State) (c : Capture) (k : CapNode) : CapLeft s (fitsDue s c k) := by
  obtain ⟨x, hx⟩ := fitsDue_ox s c k
  rw [hx]
  exact ox_capLeft s x

theorem capMark_capLeft (s : State) (a : Nat) (ks : List Nat) (ts : Stamp) : CapLeft s (capMark s a ks ts) := by
  obtain ⟨x, hx⟩ := capMark_ox s a ks ts
  rw [hx]
  exact ox_capLeft s x

/-- The bytes of a record that its node has not delivered are written. -/
def recordFilled (s : State) (c : Capture) (k : CapNode) (full : Bool) : State :=
  match k.place with
  | none => s
  | some p => forEach (capGaps k.pieces) (fun g q => hostPost q (p + 32 + g.1) (zeroBytes g.2)) (hostPost s p (capHead c k full))

theorem recordFilled_writes (s : State) (c : Capture) (k : CapNode) (full : Bool) : Writes s (recordFilled s c k full) := by
  unfold recordFilled
  split
  · exact Writes.refl s
  · exact (hostPost_writes ..).trans (forEach_writes _ _ fun g q => hostPost_writes ..)

theorem capWrite_eq (s : State) (c : Capture) (k : CapNode) (full : Bool) : capWrite s c k full =
    tsLate (capMark (fitsDue (updCapNode (recordFilled s c k full) c.seq k.node fun k => { k with done := true }) c k) k.node [1, 2] c.refTs) := rfl

theorem capWrite_capLeft (s : State) (c : Capture) (k : CapNode) (full : Bool) : CapLeft s (capWrite s c k full) := by
  rw [capWrite_eq]
  exact ((((recordFilled_writes s c k full).capLeft.trans (updCapture_capLeft ..)).trans (fitsDue_capLeft ..)).trans (capMark_capLeft ..)).trans
    (tsLate_writes _).capLeft

theorem enq_capLeft (s : State) (p : Nat) (cs : List NodeCmd) : CapLeft s (enq s p cs) := setPort_capLeft ..

theorem capEnd_capLeft (s : State) (c : Capture) : CapLeft s (capEnd s c) := by
  unfold capEnd
  extract_lets full part cut excl s1 s2 src s3 s4
  have h1 : CapLeft s s1 := forEach_capLeft _ _ fun k q => capWrite_capLeft ..
  have h2 : CapLeft s1 s2 := (capMark_capLeft ..).trans (tsRecord_writes ..).capLeft
  have h3 : CapLeft s2 s3 := ⟨rfl, rfl, rfl, rfl⟩
  have h4 : CapLeft s3 s4 := forEach_capLeft _ _ fun p q => enq_capLeft ..
  exact (((h1.trans h2).trans h3).trans h4).trans (raise_writes ..).capLeft

theorem capProgress_capLeft : ∀ (n : Nat) (s : State), CapLeft s (capProgress n s)
  | 0, s => CapLeft.refl s
  | n + 1, s => by
    unfold capProgress
    split
    · exact CapLeft.refl s
    · split
      · exact (capEnd_capLeft ..).trans (capProgress_capLeft n _)
      · exact CapLeft.refl s

/-! ### A detection (R249, R253, R254, R264) -/

theorem captPort_capLeft (us : Nat) (n : Byte) (p : Nat) (s : State) : CapLeft s (captPort us n p s) := by
  unfold captPort
  dsimp only
  split
  · exact setPort_capLeft ..
  · split
    · exact setPort_capLeft ..
    · exact setPort_capLeft ..

theorem takeFree_left (s : State) : DetLeft s (takeFree s) := rfl

/-- A CAPT goes out at `us`, with its capture. -/
def emitOne (us : Nat) (c : Capture) (s : State) : State :=
  { s with mc := { s.mc with captures := s.mc.captures ++ [c], lastSeq := s.mc.lastSeq + 1, lastCapt := some us } }

theorem emitOne_left (us : Nat) (c : Capture) (s : State) : DetLeft s (emitOne us c s) := rfl

/-- The four times of a CAPT are taken before. -/
def emitted (s : State) (us : Nat) (c : Capture) : State := emitOne us c (takeFree (takeFree (takeFree (takeFree s))))

theorem emitted_left (s : State) (us : Nat) (c : Capture) : DetLeft s (emitted s us c) :=
  ((((takeFree_left s).trans (takeFree_left _)).trans (takeFree_left _)).trans (takeFree_left _)).trans (emitOne_left us c _)

theorem captEmit_eq (s : State) (us d : Nat) (forced : Bool) : ∃ c, captEmit s us d forced =
    forEach (runningPorts s) (captPort us ((s.mc.lastSeq + 1).setWidth 8)) (emitted s us c) := ⟨_, rfl⟩

/-- CAPT takes the next number at its instant. -/
theorem captEmit_left (s : State) (us d : Nat) (forced : Bool) : DetLeft s (captEmit s us d forced) ∧
    (captEmit s us d forced).mc.lastSeq = s.mc.lastSeq + 1 ∧ (captEmit s us d forced).mc.lastCapt = some us ∧
    (captEmit s us d forced).mc.declined = s.mc.declined := by
  obtain ⟨c, hc⟩ := captEmit_eq s us d forced
  have h := forEach_capLeft (f := captPort us ((s.mc.lastSeq + 1).setWidth 8)) (runningPorts s) (emitted s us c) fun p q => captPort_capLeft ..
  rw [hc]
  exact ⟨(emitted_left s us c).trans h.left, h.lastSeq, h.lastCapt, h.declined⟩

theorem capDecline_left (s : State) (d reason : Nat) : DetLeft s (capDecline s d reason) ∧ (capDecline s d reason).mc.lastSeq = s.mc.lastSeq ∧
    (capDecline s d reason).mc.declined = satInc s.mc.declined := by
  unfold capDecline
  extract_lets ts body src s1
  have h1 : DetLeft s (takeFree s1) := rfl
  have h := (tsRecord_writes (takeFree s1) 16 ts (recHeader 10 0 32 ts ++ body)).capLeft
  exact ⟨h1.trans h.left, h.lastSeq, h.declined⟩

/-- The last CAPT is less than 96 ms old. -/
def captRecent (s : State) (t : Nat) : Bool :=
  match s.mc.lastCapt with
  | some u => decide (125 * t ≤ u + 96000)
  | none => false

theorem captRecent_iff {s : State} {t : Nat} : captRecent s t = true ↔ ∃ u, s.mc.lastCapt = some u ∧ 125 * t ≤ u + 96000 := by
  unfold captRecent
  cases s.mc.lastCapt <;> simp

theorem detection_eq (s : State) (t d delay : Nat) : detection s t d delay =
    if captRecent s t then updCapture s s.mc.lastSeq fun c => { c with steps := c.steps + 1 }
    else match captBarred s with
      | some r => capDecline s d r
      | none => captEmit s (125 * t + delay) d false := rfl

theorem detection_left (s : State) (t d delay : Nat) : DetLeft s (detection s t d delay) := by
  rw [detection_eq]
  split
  · exact (updCapture_capLeft ..).left
  · split
    · exact (capDecline_left ..).1
    · exact (captEmit_left ..).1

theorem detection_recent {s : State} {t d delay : Nat} (h : captRecent s t = true) : CapLeft s (detection s t d delay) := by
  rw [detection_eq, if_pos h]
  exact updCapture_capLeft ..

theorem detection_barred {s : State} {t d delay : Nat} (h : captRecent s t = false) (hb : (captBarred s).isSome = true) :
    (detection s t d delay).mc.lastSeq = s.mc.lastSeq ∧ (detection s t d delay).mc.declined = satInc s.mc.declined := by
  obtain ⟨r, hr⟩ := Option.isSome_iff_exists.mp hb
  rw [detection_eq, if_neg (ne_true_of_eq_false h), hr]
  exact (capDecline_left ..).2

theorem detection_emits {s : State} {t d delay : Nat} (h : captRecent s t = false) (hb : captBarred s = none) :
    (detection s t d delay).mc.lastSeq = s.mc.lastSeq + 1 ∧ (detection s t d delay).mc.lastCapt = some (125 * t + delay) ∧
      (detection s t d delay).mc.declined = s.mc.declined := by
  rw [detection_eq, if_neg (ne_true_of_eq_false h), hb]
  exact (captEmit_left ..).2

/-! ### A sample of the PI stream (R211, R241, R248) -/

/-- At most what records bring about differs, and the samples of the cycle that its pack-current record takes. -/
structure FlushLeft (s t : State) : Prop where
  only : t = { s with evr := t.evr, held := t.held, qe := t.qe, hostMem := t.hostMem
                      pcie := { s.pcie with pba := t.pcie.pba, posted := t.pcie.posted }, free := t.free
                      ret := { s.ret with lastPending := t.ret.lastPending }, mp := { s.mp with completions := t.mp.completions }
                      lp := { s.lp with piCycle := t.lp.piCycle, piDue := t.lp.piDue } }

theorem FlushLeft.trans (h1 : FlushLeft s t) (h2 : FlushLeft t u) : FlushLeft s u := by
  refine ⟨?_⟩
  have h1 := h1.only
  have h2 := h2.only
  rw [h2, h1]

theorem Writes.flushLeft (h : Writes s t) : FlushLeft s t := by
  refine ⟨?_⟩
  have hmc := h.mc
  have hr := h.reply
  unfold OnlyReply at hr
  rw [hmc] at hr
  rw [hr]

theorem piRecord_flushLeft (k : Tick) (s : State) : FlushLeft s (piRecord k s) := by
  unfold piRecord
  extract_lets n at_ lost len body src s1
  have h1 : FlushLeft s s1 := ⟨rfl⟩
  split
  · exact h1.trans (tsRecord_writes ..).flushLeft
  · exact h1

theorem piFlush_flushLeft (s : State) (ms : Nat) : FlushLeft s (piFlush s ms) := by
  unfold piFlush
  dsimp only
  refine FlushLeft.trans (t := { s with lp := { s.lp with piDue := s.lp.piDue.filter fun k => decide (ms < k.ms + k.len) } }) ⟨rfl⟩ ?_
  exact forEach_induct (P := FlushLeft _) ⟨rfl⟩ fun k _ q hq => hq.trans (piRecord_flushLeft k q)


/-- The counts missing before a sample. -/
def piGap (s : State) (k : Byte) : Nat := match s.mc.piLast with | some l => (k - l - 1).toNat | none => 0

/-- The stream is lost at a sample, or still is. -/
def piLostAt (s : State) (k : Byte) : Bool :=
  let run := if piGap s k = 0 && s.mc.piLast.isSome then s.mc.piRun + 1 else 1
  let bad := nodeMissing s (piNode s) || unsynced s (piNode s) || quarantined s (piNode s)
  if 8 ≤ piGap s k || bad then true else if 16 ≤ run then false else s.mc.piLost

/-- A sample as it is kept. -/
def piWord (k : Byte) (x : BitVec 20) : BitVec 32 := BitVec.ofNat 32 ((x.signExtend 24).toNat + k.toNat * 2 ^ 24)

/-- What the arrival of a sample leaves, the check of the pack current included. -/
structure PiTaken (s : State) (t : Nat) (k : Byte) (x : BitVec 20) (u : State) : Prop where
  hist : u.mc.hist = ((t, piWord k x) :: s.mc.hist).take 2048
  piLast : u.mc.piLast = some k
  piLost : u.mc.piLost = piLostAt s k
  now : u.mc.now = if s.mc.now < 125 * t then 125 * t else s.mc.now
  armed : u.mc.armed = s.mc.armed
  noPack : u.mc.noPack = s.mc.noPack
  threshCode : u.mc.threshCode = s.mc.threshCode
  captures : u.mc.captures.length = s.mc.captures.length
  lastSeq : u.mc.lastSeq = s.mc.lastSeq
  lastCapt : u.mc.lastCapt = s.mc.lastCapt
  declined : u.mc.declined = s.mc.declined
  cycle : u.lp.cycle = s.lp.cycle
  running : u.lp.running = s.lp.running
  ports : u.lp.ports = s.lp.ports
  nodes : u.lp.nodes = s.lp.nodes
  regs : u.regs = s.regs
  otp : u.otp = s.otp
  pwr : u.pwr = s.pwr

theorem piReceive_taken (s : State) (t : Nat) (k : Byte) (x : BitVec 20) : PiTaken s t k x (piReceive s t k x) := by
  have h := (piFlush_flushLeft s (t / 8)).only
  unfold piReceive
  rw [h]
  exact ⟨rfl, rfl, rfl, rfl, rfl, rfl, rfl, List.length_map _, rfl, rfl, rfl, rfl, rfl, rfl, rfl, rfl, rfl, rfl⟩

theorem packOcCheck_left (s : State) (x : BitVec 20) : ∃ n l, packOcCheck s x = { s with mc := { s.mc with ocRun := n }, flt := { s.flt with lines := l } } := by
  unfold packOcCheck assertLine
  dsimp only
  split
  · exact ⟨_, _, rfl⟩
  · split
    · exact ⟨_, _, rfl⟩
    · split
      · split
        · exact ⟨_, _, rfl⟩
        · exact ⟨_, _, rfl⟩
      · exact ⟨_, _, rfl⟩

/-- A sample has come and the pack current been looked at. -/
def piTaken (s : State) (t : Nat) (k : Byte) (x : BitVec 20) : State := packOcCheck (piReceive s t k x) x

theorem piTaken_taken (s : State) (t : Nat) (k : Byte) (x : BitVec 20) : PiTaken s t k x (piTaken s t k x) := by
  obtain ⟨n, l, h⟩ := packOcCheck_left (piReceive s t k x) x
  unfold piTaken
  rw [h]
  obtain ⟨h1, h2, h3, h4, h5, h6, h7, h8, h9, h10, h11, h12, h13, h14, h15, h16, h17, h18⟩ := piReceive_taken s t k x
  exact ⟨h1, h2, h3, h4, h5, h6, h7, h8, h9, h10, h11, h12, h13, h14, h15, h16, h17, h18⟩

end Sys2Proof.Machine
end

section
/-! PROOFS. The statement on captures: samples of the PI stream. -/

namespace Sys2Proof.Machine

variable {s t u : State}

/-- What the captures' work leaves of the stream, the cycle, the nodes and the registers. -/
theorem DetLeft.stream (h : DetLeft s u) : u.mc.hist = s.mc.hist ∧ u.mc.piLast = s.mc.piLast ∧ u.mc.piLost = s.mc.piLost ∧ u.mc.now = s.mc.now ∧
    u.lp.cycle = s.lp.cycle ∧ u.lp.nodes = s.lp.nodes ∧ u.regs = s.regs := by
  unfold DetLeft at h
  rw [h]
  exact ⟨rfl, rfl, rfl, rfl, rfl, rfl, rfl⟩

/-- The sample with which the step comes to reach the threshold. -/
def piAbove (s : State) (t : Nat) (x : BitVec 20) (code : Nat) : Bool :=
  (s.mc.hist.any fun e => decide (e.1 < t) && decide (t ≤ e.1 + 16)) && decide (code ≤ stepSize s t x)

/-- A sample that has come is compared with the threshold. -/
def piCompared (s q : State) (t delay : Nat) (x : BitVec 20) : State :=
  let above := piAbove s t x q.mc.threshCode.toNat
  let q1 := { q with mc := { q.mc with above := above } }
  if above && !s.mc.above && q1.mc.armed && !q1.mc.noPack && !q1.mc.piLost then detection q1 t (stepSize s t x) delay else q1

/-- The PI node's oldest sample is taken out. -/
def piPopped (s : State) (rest : List (BitVec 24 × Byte)) : State := setNode s (piNode s) { node s (piNode s) with pi := rest }

section
variable {at_ dly : Nat} {k : Byte} {code : BitVec 24} {rest : List (BitVec 24 × Byte)}

theorem exec_piSample (hr : rootAlive s = true) (hp : (node s (piNode s)).pi = (code, k) :: rest) (hs : (piEn s && delivers s (piNode s)) = true) :
    ∃ n, exec (.piSample at_ dly) s = .next (capProgress n
      (piCompared (piPopped s rest) (piTaken (piPopped s rest) at_ k (code.setWidth 20)) at_ (if dly ≤ 250 then dly else 250) (code.setWidth 20))) := by
  refine ⟨(piCompared (piPopped s rest) (piTaken (piPopped s rest) at_ k (code.setWidth 20)) at_ (if dly ≤ 250 then dly else 250)
    (code.setWidth 20)).mc.captures.length, ?_⟩
  show execPiSample at_ dly s = _
  unfold execPiSample
  dsimp only
  rw [hr, hp, hs]
  rfl

theorem exec_piSample_unused (hr : rootAlive s = true) (hp : (node s (piNode s)).pi = (code, k) :: rest)
    (hs : (piEn s && delivers s (piNode s)) = false) : exec (.piSample at_ dly) s = .next (piPopped s rest) := by
  show execPiSample at_ dly s = _
  unfold execPiSample
  dsimp only
  rw [hr, hp, hs]
  rfl

end

/-! ### Which detection a sample makes -/

section
variable {q : State} {k : Byte} {x : BitVec 20} {delay : Nat}

/-- The sample with the outcome of its comparison. -/
def piLooked (s q : State) (t : Nat) (x : BitVec 20) : State := { q with mc := { q.mc with above := piAbove s t x q.mc.threshCode.toNat } }

theorem PiTaken.looked {i : Nat} (h : PiTaken s i k x q) : PiTaken s i k x (piLooked s q i x) :=
  ⟨h.hist, h.piLast, h.piLost, h.now, h.armed, h.noPack, h.threshCode, h.captures, h.lastSeq, h.lastCapt, h.declined, h.cycle, h.running, h.ports,
    h.nodes, h.regs, h.otp, h.pwr⟩

/-- The device detects a step at this sample. -/
def piDetects (s q : State) (t : Nat) (x : BitVec 20) : Bool :=
  piAbove s t x q.mc.threshCode.toNat && !s.mc.above && q.mc.armed && !q.mc.noPack && !q.mc.piLost

theorem piCompared_left (s q : State) (i delay : Nat) (x : BitVec 20) : DetLeft (piLooked s q i x) (piCompared s q i delay x) := by
  unfold piCompared
  dsimp only
  split
  · exact detection_left ..
  · exact (CapLeft.refl _).left

theorem piCompared_idle {i : Nat} (h : piDetects s q i x = false) : piCompared s q i delay x = piLooked s q i x := if_neg (ne_true_of_eq_false h)

theorem piCompared_detects {i : Nat} (h : piDetects s q i x = true) :
    piCompared s q i delay x = detection (piLooked s q i x) i (stepSize s i x) delay := if_pos h

end

/-! ### Why no CAPT may go out (R253, R264) -/

/-- A key's value takes no part in a search that does not tell the new one from it. -/
theorem Sparse.any_set {β : Type} {p : Nat × β → Bool} {a : Nat} {v b : β} (hp : p (a, b) = p (a, v)) : ∀ {l : Sparse β},
    Sparse.get? l a = some v → (Sparse.set l a b).any p = l.any p
  | [], h => by cases h
  | (k, w) :: l, h => by
    unfold Sparse.set
    by_cases hk : k = a
    · have hv : w = v := by simpa [Sparse.get?, hk] using h
      rw [if_pos hk, List.any_cons, List.any_cons, hp, hk, hv]
    · have ht : Sparse.get? l a = some v := by simpa [Sparse.get?, hk] using h
      rw [if_neg hk]
      split
      · rw [List.any_cons, hp]
        have hmem : (a, v) ∈ (k, w) :: l := Sparse.mem_of_get? h
        by_cases hpv : p (a, v) = true
        · rw [hpv, Bool.true_or]
          exact (List.any_eq_true.mpr ⟨_, hmem, hpv⟩).symm
        · rw [eq_false_of_ne_true hpv, Bool.false_or]
      · rw [List.any_cons, List.any_cons, Sparse.any_set hp ht]

theorem captBarred_congr (h1 : t.mc.captures.length = s.mc.captures.length) (h2 : capFull t = capFull s) : captBarred t = captBarred s := by
  unfold captBarred
  rw [h1, h2]

/-- A state with the nodes, the ports and what puts them in service as another's has its CAP_FULL. -/
theorem capFull_congr (hn : t.lp.nodes = s.lp.nodes) (hp : t.lp.ports = s.lp.ports) (hr : t.lp.running = s.lp.running) (hregs : t.regs = s.regs)
    (hotp : t.otp = s.otp) (hpwr : t.pwr = s.pwr) : capFull t = capFull s := by
  unfold capFull portCycles portRuns portOn quarantined port flag rd domOn
  rw [hn, hp, hr, hregs, hotp, hpwr]

/-- A node of a running port reports CAP_FULL. -/
def reportsFull (s : State) (e : Nat × Node) : Bool := portCycles s (e.1 / 32) && e.2.present && !quarantined s e.1 && bitOf e.2.nstat 3

theorem capFull_piPopped {rest : List (BitVec 24 × Byte)} (h : (node s (piNode s)).pi ≠ []) : capFull (piPopped s rest) = capFull s := by
  have hget : ∃ n, Sparse.get? s.lp.nodes (piNode s) = some n ∧ node s (piNode s) = n := by
    cases hn : Sparse.get? s.lp.nodes (piNode s) with
    | none =>
      have hreset : node s (piNode s) = Node.reset := congrArg (Option.getD · Node.reset) hn
      rw [hreset] at h
      exact absurd rfl h
    | some n => exact ⟨n, rfl, congrArg (Option.getD · Node.reset) hn⟩
  obtain ⟨n, hn, hnode⟩ := hget
  unfold piPopped
  rw [hnode]
  show (Sparse.set s.lp.nodes (piNode s) { n with pi := rest }).any (reportsFull s) = s.lp.nodes.any (reportsFull s)
  have hsame : reportsFull s (piNode s, { n with pi := rest }) = reportsFull s (piNode s, n) := rfl
  exact Sparse.any_set hsame hn

/-! ### What a sample leaves (R211, R249) -/

section
variable {at_ dly n : Nat} {k : Byte} {code : BitVec 24} {rest : List (BitVec 24 × Byte)}

/-- The state of a sample that has been compared. -/
def piSeen (s : State) (i : Nat) (k : Byte) (code : BitVec 24) (dly : Nat) (rest : List (BitVec 24 × Byte)) : State :=
  piCompared (piPopped s rest) (piTaken (piPopped s rest) i k (code.setWidth 20)) i (if dly ≤ 250 then dly else 250) (code.setWidth 20)

theorem piSeen_stream (hu : u = capProgress n (piSeen s at_ k code dly rest)) :
    u.mc.hist = ((at_, piWord k (code.setWidth 20)) :: s.mc.hist).take 2048 ∧ u.mc.piLast = some k ∧ u.mc.piLost = piLostAt (piPopped s rest) k ∧
      u.mc.now = (if s.mc.now < 125 * at_ then 125 * at_ else s.mc.now) ∧ u.lp.cycle = s.lp.cycle ∧ u.regs = s.regs ∧ (node u (piNode s)).pi = rest := by
  have htaken := piTaken_taken (piPopped s rest) at_ k (code.setWidth 20)
  have hleft : DetLeft _ u := hu ▸ (piCompared_left (piPopped s rest) (piTaken (piPopped s rest) at_ k (code.setWidth 20)) at_
    (if dly ≤ 250 then dly else 250) (code.setWidth 20)).trans (capProgress_capLeft n _).left
  obtain ⟨hhist, hlast, hlost, hnow, hcycle, hnodes, hregs⟩ := hleft.stream
  refine ⟨hhist.trans htaken.hist, hlast.trans htaken.piLast, hlost.trans htaken.piLost, hnow.trans htaken.now, hcycle.trans htaken.cycle,
    hregs.trans htaken.regs, ?_⟩
  have hnode : node u (piNode s) = node (piPopped s rest) (piNode s) :=
    congrArg (fun l => Sparse.getD l (piNode s) Node.reset) (hnodes.trans htaken.nodes)
  rw [hnode]
  exact congrArg Node.pi (node_setNode_self ..)

/-- Without a detection no CAPT goes out. -/
theorem piSeen_idle (h : piDetects (piPopped s rest) (piTaken (piPopped s rest) at_ k (code.setWidth 20)) at_ (code.setWidth 20) = false)
    (hu : u = capProgress n (piSeen s at_ k code dly rest)) :
    u.mc.lastSeq = s.mc.lastSeq ∧ u.mc.lastCapt = s.mc.lastCapt ∧ u.mc.declined = s.mc.declined := by
  have htaken := piTaken_taken (piPopped s rest) at_ k (code.setWidth 20)
  have hleft := capProgress_capLeft n (piSeen s at_ k code dly rest)
  rw [← hu] at hleft
  unfold piSeen at hleft
  rw [piCompared_idle h] at hleft
  exact ⟨hleft.lastSeq.trans htaken.lastSeq, hleft.lastCapt.trans htaken.lastCapt, hleft.declined.trans htaken.declined⟩

/-- At a detection the sample's state goes to it. -/
theorem piSeen_detects (h : piDetects (piPopped s rest) (piTaken (piPopped s rest) at_ k (code.setWidth 20)) at_ (code.setWidth 20) = true)
    (hu : u = capProgress n (piSeen s at_ k code dly rest)) : ∃ q d, PiTaken (piPopped s rest) at_ k (code.setWidth 20) q ∧
      CapLeft (detection q at_ d (if dly ≤ 250 then dly else 250)) u := by
  refine ⟨_, stepSize (piPopped s rest) at_ (code.setWidth 20), (piTaken_taken (piPopped s rest) at_ k (code.setWidth 20)).looked, ?_⟩
  rw [hu, ← piCompared_detects h]
  exact capProgress_capLeft n _

/-- A step that comes to reach the threshold is detected. -/
structure StepReached (s : State) (i : Nat) (k : Byte) (x : BitVec 20) : Prop where
  armed : s.mc.armed = true
  noPack : s.mc.noPack = false
  above : s.mc.above = false
  piLost : s.mc.piLost = false
  piLast : s.mc.piLast = some (k - 1)
  present : nodeMissing s (piNode s) = false
  synced : unsynced s (piNode s) = false
  trusted : quarantined s (piNode s) = false
  reaches : s.mc.threshCode.toNat ≤ stepSize s i x
  seen : ∃ e, e ∈ s.mc.hist ∧ e.1 < i ∧ i ≤ e.1 + 16

theorem StepReached.lost {x : BitVec 20} (h : StepReached s at_ k x) : piLostAt (piPopped s rest) k = false := by
  have hgap : piGap (piPopped s rest) k = 0 := by
    have hlast : (piPopped s rest).mc.piLast = some (k - 1) := h.piLast
    unfold piGap
    rw [hlast]
    have hk : k - (k - 1) - 1 = 0 := by bv_omega
    exact congrArg BitVec.toNat hk
  have hbad : (nodeMissing (piPopped s rest) (piNode (piPopped s rest)) || unsynced (piPopped s rest) (piNode (piPopped s rest)) ||
      quarantined (piPopped s rest) (piNode (piPopped s rest))) = false := by
    have hbad : (nodeMissing s (piNode s) || unsynced s (piNode s) || quarantined s (piNode s)) = false := by
      rw [h.present, h.synced, h.trusted]
      rfl
    exact hbad
  unfold piLostAt
  rw [hgap, hbad]
  dsimp only
  rw [if_neg (by decide), show (piPopped s rest).mc.piLost = false from h.piLost]
  exact ite_self _

theorem StepReached.detects (h : StepReached s at_ k (code.setWidth 20)) :
    piDetects (piPopped s rest) (piTaken (piPopped s rest) at_ k (code.setWidth 20)) at_ (code.setWidth 20) = true := by
  have htaken := piTaken_taken (piPopped s rest) at_ k (code.setWidth 20)
  have habove : piAbove (piPopped s rest) at_ (code.setWidth 20) s.mc.threshCode.toNat = true := by
    obtain ⟨e, he, h1, h2⟩ := h.seen
    refine Bool.and_eq_true_iff.mpr ⟨List.any_eq_true.mpr ⟨e, he, ?_⟩, decide_eq_true h.reaches⟩
    simp [h1, h2]
  unfold piDetects
  rw [htaken.threshCode, htaken.armed, htaken.noPack, htaken.piLost, h.lost,
    show (piPopped s rest).mc.threshCode = s.mc.threshCode from rfl, habove, show (piPopped s rest).mc.above = s.mc.above from rfl, h.above,
    show (piPopped s rest).mc.armed = s.mc.armed from rfl, h.armed, show (piPopped s rest).mc.noPack = s.mc.noPack from rfl, h.noPack]
  rfl

/-- What bars a CAPT is not changed by the sample. -/
theorem PiTaken.barred {x : BitVec 20} {q : State} (h : PiTaken (piPopped s rest) at_ k x q) (hp : (node s (piNode s)).pi ≠ []) :
    captBarred q = captBarred s :=
  captBarred_congr h.captures ((capFull_congr h.nodes h.ports h.running h.regs h.otp h.pwr).trans (capFull_piPopped hp))

end

/-! ### The statement on a sample -/

section
variable {at_ dly : Nat} {k : Byte} {code : BitVec 24} {rest : List (BitVec 24 × Byte)}

theorem exec_piSample_seen (hr : rootAlive s = true) (hp : (node s (piNode s)).pi = (code, k) :: rest)
    (hs : piEn s = true ∧ delivers s (piNode s) = true) :
    ∃ n u, u = capProgress n (piSeen s at_ k code dly rest) ∧ exec (.piSample at_ dly) s = .next u := by
  obtain ⟨n, hn⟩ := exec_piSample (at_ := at_) (dly := dly) hr hp (Bool.and_eq_true_iff.mpr hs)
  exact ⟨n, _, rfl, hn⟩

theorem piLostAt_gap {l : Byte} (hl : s.mc.piLast = some l) (hg : 8 ≤ (k - l - 1).toNat) : piLostAt (piPopped s rest) k = true := by
  have hgap : piGap (piPopped s rest) k = (k - l - 1).toNat := by
    unfold piGap
    rw [show (piPopped s rest).mc.piLast = some l from hl]
  unfold piLostAt
  rw [hgap, decide_eq_true hg]
  rfl

/-- No detection: a sample that finds the device not armed, or does not come to reach the threshold. -/
theorem piDetects_not {q : State} {x : BitVec 20} (ht : PiTaken (piPopped s rest) at_ k x q)
    (h : s.mc.armed = false ∨ s.mc.noPack = true ∨ s.mc.above = true ∨ stepSize s at_ x < s.mc.threshCode.toNat) :
    piDetects (piPopped s rest) q at_ x = false := by
  unfold piDetects
  rw [ht.threshCode, ht.armed, ht.noPack, show (piPopped s rest).mc.threshCode = s.mc.threshCode from rfl,
    show (piPopped s rest).mc.above = s.mc.above from rfl, show (piPopped s rest).mc.armed = s.mc.armed from rfl,
    show (piPopped s rest).mc.noPack = s.mc.noPack from rfl]
  rcases h with h | h | h | h
  · simp [h]
  · simp [h]
  · simp [h]
  · have hbelow : piAbove (piPopped s rest) at_ x s.mc.threshCode.toNat = false := by
      unfold piAbove
      rw [decide_eq_false (by exact Nat.not_le.mpr h), Bool.and_false]
    rw [hbelow]
    rfl

theorem piDetects_lost {q : State} {x : BitVec 20} (h : q.mc.piLost = true) : piDetects s q at_ x = false := by
  unfold piDetects
  rw [h, Bool.not_true, Bool.and_false]

theorem delivers_trusted {a : Nat} (h : delivers s a = true) : quarantined s a = false := by
  unfold delivers nodeGood at h
  simp only [Bool.and_eq_true, Bool.not_eq_true'] at h
  exact h.1.1.1.2

theorem captRecent_taken {q : State} {x : BitVec 20} (ht : PiTaken (piPopped s rest) at_ k x q) : captRecent q at_ = captRecent s at_ := by
  unfold captRecent
  rw [ht.lastCapt]
  rfl

end

end Sys2Proof.Machine
end

section
/-! PROOFS. The statement on captures: pieces, the end of a capture, the flush of a buffer. -/

namespace Sys2Proof.Machine

variable {s t u : State}

/-! ### The pump, where nothing is complete (R258) -/

/-- No record is complete, and no capture. -/
structure NoneComplete (s : State) : Prop where
  gaps : ∀ x y, x ∈ s.mc.captures → y ∈ x.nodes → y.done = false → capGaps y.pieces ≠ []
  ready : ∀ x, x ∈ s.mc.captures → capReady s x = false

theorem capProgress_idle (n : Nat) (h : ∀ x, x ∈ s.mc.captures → capReady s x = false) : capProgress n s = s := by
  cases n with
  | zero => rfl
  | succ n =>
    unfold capProgress
    split
    · rfl
    next c cs hc => rw [h c (hc ▸ List.mem_cons_self), if_neg Bool.false_ne_true]

theorem capPump_idle (h : NoneComplete s) : capPump s = s := by
  have hfor : forEach s.mc.captures (fun c q => forEach c.nodes (fun k q1 =>
      if !k.done && (capGaps k.pieces).isEmpty then capWrite q1 c k true else q1) q) s = s := by
    refine forEach_induct (P := fun q : State => q = s) rfl fun c hc q hq => ?_
    refine forEach_induct (P := fun q : State => q = s) hq fun k hk q hq => ?_
    have hskip : (!k.done && (capGaps k.pieces).isEmpty) = false := by
      cases hd : k.done with
      | true => rfl
      | false => simp [h.gaps c k hc hk hd]
    rw [hskip]
    exact hq
  unfold capPump
  rw [hfor]
  exact capProgress_idle _ h.ready

theorem NoneComplete.congr (h : NoneComplete s) (hc : t.mc.captures = s.mc.captures) (hn : t.mc.now = s.mc.now) : NoneComplete t := by
  refine ⟨hc ▸ h.gaps, fun x hx => ?_⟩
  have hr := h.ready x (hc ▸ hx)
  unfold capReady at *
  rwa [hn]

/-! ### A piece of a record (R257, R261) -/

theorem exec_capturePiece {a : Fin 512} {num : Byte} {off : Nat} {bs : List Byte} {rest : List (Byte × Nat × List Byte)} (hr : rootAlive s = true)
    (hc : (node s a.val).caps = (num, off, bs) :: rest) : exec (.capturePiece a) s =
      .next (if delivers s a.val then capPiece (setNode s a.val { node s a.val with caps := rest }) a.val num off bs
        else setNode s a.val { node s a.val with caps := rest }) := by
  show execCapturePiece a s = _
  unfold execCapturePiece
  dsimp only
  rw [hr, hc]
  rfl

section
variable {a off : Nat} {num : Byte} {bs : List Byte} {c : Capture} {k : CapNode} {p : Nat}

/-- The capture and the node's part of it that a piece is for. -/
structure PieceFor (s : State) (a : Nat) (num : Byte) (c : Capture) (k : CapNode) : Prop where
  capture : s.mc.captures.find? (fun x => x.seq.setWidth 8 = num && x.nodes.any fun y => y.node = a && !y.done) = some c
  part : c.nodes.find? (fun y => y.node = a) = some k
  same : s.mc.captures.find? (fun x => x.seq = c.seq) = some c

/-- A piece is kept. -/
def pieceKept (s : State) (seq : Word) (a off : Nat) (bs : List Byte) : State :=
  updCapNode s seq a fun y => { y with pieces := y.pieces ++ [(off, bs)] }

/-- A piece of a record with its space goes to its place. -/
def pieceWritten (s : State) (seq : Word) (a off : Nat) (bs : List Byte) : State :=
  match (capPart s seq a).bind CapNode.place with
  | some p => hostPost s (p + 32 + off) bs
  | none => s

/-- What is missing is asked for at the last piece. -/
def pieceAsked (s : State) (seq : Word) (a : Nat) : State :=
  match s.mc.captures.find? (fun x => x.seq = seq) with
  | some c1 => askMissing s a c1
  | none => s

theorem capPiece_eq (h : PieceFor s a num c k) : capPiece s a num off bs =
    if bs.isEmpty || capLen < off + bs.length then s
    else
      let q := pieceKept (pieceWritten (if k.pieces.isEmpty then capReserve s c.seq k else s) c.seq a off bs) c.seq a off bs
      capPump (if off + bs.length = capLen then pieceAsked q c.seq a else q) := by
  unfold capPiece
  rw [h.capture]
  dsimp only
  rw [h.part]
  rfl

theorem capPart_of (h : PieceFor s a num c k) (hm : t.mc = s.mc) : capPart t c.seq a = some k := by
  unfold capPart
  rw [hm, h.same]
  exact h.part

theorem pieceWritten_placed (h : PieceFor s a num c k) (hp : k.place = some p) : pieceWritten s c.seq a off bs = hostPost s (p + 32 + off) bs := by
  unfold pieceWritten
  rw [capPart_of h rfl, Option.bind_some, hp]

theorem pieceWritten_unplaced (h : PieceFor s a num c k) (hm : t.mc = s.mc) (hp : k.place = none) : pieceWritten t c.seq a off bs = t := by
  unfold pieceWritten
  rw [capPart_of h hm, Option.bind_some, hp]

theorem pieceKept_mc (hm : t.mc = s.mc) (seq : Word) : (pieceKept t seq a off bs).mc = (pieceKept s seq a off bs).mc := by
  unfold pieceKept updCapNode updCapture
  rw [hm]

theorem askMissing_mc (s : State) (a : Nat) (c : Capture) : (askMissing s a c).mc = s.mc := by
  unfold askMissing
  split
  · split <;> rfl
  · rfl

theorem capReserve_refused (hf : winBuf s 25 < 2 ^ 18 ∨ tsMay s 16 129064 = false) (seq : Word) : capReserve s seq k = tsDiscard s 16 1 := by
  unfold capReserve
  split
  · rfl
  next hb =>
    have hmay := hf.resolve_left hb
    unfold tsReserve
    rw [hmay]
    rfl

/-- A piece of a record that has its space, and of which pieces have arrived. -/
theorem capPiece_placed (h : PieceFor s a num c k) (hb : bs ≠ []) (hl : off + bs.length ≤ capLen) (hn : NoneComplete (pieceKept s c.seq a off bs))
    (hk : k.pieces ≠ []) (hp : k.place = some p) :
    (off + bs.length < capLen → capPiece s a num off bs = pieceKept (hostPost s (p + 32 + off) bs) c.seq a off bs) ∧
      ∀ c1, off + bs.length = capLen → (pieceKept s c.seq a off bs).mc.captures.find? (fun x => x.seq = c.seq) = some c1 →
        capPiece s a num off bs = askMissing (pieceKept (hostPost s (p + 32 + off) bs) c.seq a off bs) a c1 := by
  have hmc := pieceKept_mc (a := a) (off := off) (bs := bs) (hostPost_writes s (p + 32 + off) bs).mc c.seq
  have hempty : k.pieces.isEmpty = false := by simpa using hk
  have hok : (bs.isEmpty || decide (capLen < off + bs.length)) = false := by
    simp only [Bool.or_eq_false_iff, decide_eq_false_iff_not, List.isEmpty_eq_false_iff]
    exact ⟨hb, by omega⟩
  rw [capPiece_eq h, hok, hempty, if_neg Bool.false_ne_true, if_neg Bool.false_ne_true, pieceWritten_placed h hp]
  refine ⟨fun hlt => ?_, fun c1 heq hfind => ?_⟩
  · dsimp only
    rw [if_neg (by omega)]
    exact capPump_idle (hn.congr (congrArg Measure.captures hmc) (congrArg Measure.now hmc))
  · dsimp only
    rw [if_pos heq]
    have hask : pieceAsked (pieceKept (hostPost s (p + 32 + off) bs) c.seq a off bs) c.seq a =
        askMissing (pieceKept (hostPost s (p + 32 + off) bs) c.seq a off bs) a c1 := by
      unfold pieceAsked
      rw [hmc, hfind]
    rw [hask]
    have hmc' := (askMissing_mc (pieceKept (hostPost s (p + 32 + off) bs) c.seq a off bs) a c1).trans hmc
    exact capPump_idle (hn.congr (congrArg Measure.captures hmc') (congrArg Measure.now hmc'))

/-- The first piece of a record without room. -/
theorem capPiece_roomless (h : PieceFor s a num c k) (hb : bs ≠ []) (hl : off + bs.length < capLen) (hn : NoneComplete (pieceKept s c.seq a off bs))
    (hk : k.pieces = []) (hp : k.place = none) (hf : winBuf s 25 < 2 ^ 18 ∨ tsMay s 16 129064 = false) :
    capPiece s a num off bs = pieceKept (tsDiscard s 16 1) c.seq a off bs := by
  have hmc := pieceKept_mc (a := a) (off := off) (bs := bs) (tsDiscard_writes s 16 1).mc c.seq
  have hok : (bs.isEmpty || decide (capLen < off + bs.length)) = false := by
    simp only [Bool.or_eq_false_iff, decide_eq_false_iff_not, List.isEmpty_eq_false_iff]
    exact ⟨hb, by omega⟩
  rw [capPiece_eq h, hok, hk, if_neg Bool.false_ne_true, List.isEmpty_nil, if_pos rfl, capReserve_refused hf,
    pieceWritten_unplaced h (tsDiscard_writes s 16 1).mc hp]
  dsimp only
  rw [if_neg (by omega)]
  exact capPump_idle (hn.congr (congrArg Measure.captures hmc) (congrArg Measure.now hmc))

/-- A piece that is empty or does not fit is ignored. -/
theorem capPiece_ignored (h : PieceFor s a num c k) (hx : bs = [] ∨ capLen < off + bs.length) : capPiece s a num off bs = s := by
  have hbad : (bs.isEmpty || decide (capLen < off + bs.length)) = true := by
    rcases hx with hx | hx
    · rw [hx]
      rfl
    · rw [decide_eq_true hx, Bool.or_true]
  rw [capPiece_eq h, if_pos hbad]

/-- A piece of no outstanding capture is ignored. -/
theorem capPiece_unknown (h : ∀ c k, c ∈ s.mc.captures → k ∈ c.nodes → k.node = a → k.done = false → c.seq.setWidth 8 ≠ num) :
    capPiece s a num off bs = s := by
  have hnone : s.mc.captures.find? (fun c => c.seq.setWidth 8 = num && c.nodes.any fun k => k.node = a && !k.done) = none := by
    refine List.find?_eq_none.mpr fun c hc hx => ?_
    simp only [Bool.and_eq_true, decide_eq_true_eq, List.any_eq_true, Bool.not_eq_true'] at hx
    obtain ⟨hnum, k, hk, ha, hd⟩ := hx
    exact h c k hc hk ha hd hnum
  unfold capPiece
  rw [hnone]

end

end Sys2Proof.Machine
end

section
/-! PROOFS. The statement on captures: the end of a capture, the flush of a buffer. -/

namespace Sys2Proof.Machine

variable {s t u : State}

/-! ### The end of a capture (R258, R263) -/

/-- Records of a capture were written: the other captures, the ports and the routing of events are the same. -/
structure CapWritten (seq : Word) (s t : State) : Prop where
  left : CapLeft s t
  lp : t.lp = s.lp
  others : (t.mc.captures.filter fun x => x.seq ≠ seq) = s.mc.captures.filter fun x => x.seq ≠ seq
  partials : t.mc.partialCount = s.mc.partialCount
  routing : t.evr.routing = s.evr.routing

variable {seq : Word}

theorem CapWritten.refl (s : State) : CapWritten seq s s := ⟨CapLeft.refl s, rfl, rfl, rfl, rfl⟩

theorem CapWritten.trans (h1 : CapWritten seq s t) (h2 : CapWritten seq t u) : CapWritten seq s u :=
  ⟨h1.left.trans h2.left, h2.lp.trans h1.lp, h2.others.trans h1.others, h2.partials.trans h1.partials, h2.routing.trans h1.routing⟩

theorem Writes.capWritten (h : Writes s t) : CapWritten seq s t := by
  have hlp : t.lp = s.lp := by
    have hr := h.reply
    unfold OnlyReply at hr
    rw [hr]
  exact ⟨h.capLeft, hlp, by rw [h.mc], by rw [h.mc], h.routing⟩

theorem ox_capWritten (s : State) (x : Ox) : CapWritten seq s { s with ox := x } := ⟨ox_capLeft s x, rfl, rfl, rfl, rfl⟩

theorem filter_map_same {f : Capture → Capture} (hf : ∀ c, (f c).seq = c.seq) : ∀ l : List Capture,
    ((l.map fun c => if c.seq = seq then f c else c).filter fun x => x.seq ≠ seq) = l.filter fun x => x.seq ≠ seq
  | [] => rfl
  | c :: l => by
    rw [List.map_cons, List.filter_cons, List.filter_cons, filter_map_same hf l]
    by_cases hc : c.seq = seq <;> simp [hc, hf]

theorem updCapNode_capWritten (s : State) (a : Nat) (f : CapNode → CapNode) : CapWritten seq s (updCapNode s seq a f) :=
  ⟨updCapture_capLeft .., rfl,
    filter_map_same (f := fun c => { c with nodes := c.nodes.map fun k => if k.node = a then f k else k }) (fun _ => rfl) s.mc.captures, rfl, rfl⟩

theorem capWrite_capWritten {c : Capture} (hc : c.seq = seq) (s : State) (k : CapNode) (full : Bool) : CapWritten seq s (capWrite s c k full) := by
  subst hc
  rw [capWrite_eq]
  obtain ⟨x, hx⟩ := fitsDue_ox (updCapNode (recordFilled s c k full) c.seq k.node fun k => { k with done := true }) c k
  rw [hx]
  obtain ⟨y, hy⟩ := capMark_ox { updCapNode (recordFilled s c k full) c.seq k.node fun k => { k with done := true } with ox := x } k.node [1, 2] c.refTs
  rw [hy]
  exact ((((recordFilled_writes s c k full).capWritten.trans (updCapNode_capWritten ..)).trans (ox_capWritten _ x)).trans (ox_capWritten _ y)).trans
    (tsLate_writes _).capWritten

/-- The nodes of a capture of whose records a part has arrived. -/
def capCut (c : Capture) : List CapNode := c.nodes.filter fun k => !k.done && !k.pieces.isEmpty

/-- The records cut off are written. -/
def capCutWritten (s : State) (c : Capture) : State := forEach (capCut c) (fun k q => capWrite q c k false) s

theorem capCutWritten_written (s : State) (c : Capture) : CapWritten c.seq s (capCutWritten s c) :=
  forEach_induct (P := CapWritten c.seq s) (CapWritten.refl s) fun k _ q hq => hq.trans (capWrite_capWritten rfl q k false)

/-- The summary record is written. -/
def capSummarized (s : State) (c : Capture) : State :=
  tsRecord (capMark s (piNode s) [4] c.refTs) 16 c.captTs (capSummary c (countIf (fun k : CapNode => k.done && k.place.isSome) c.nodes)
    (countIf (fun k : CapNode => k.place.isSome) (capCut c)) (c.excluded + countIf (fun k : CapNode => !k.done && k.pieces.isEmpty) c.nodes) c.captTs)

theorem capSummarized_written (s : State) (c : Capture) : CapWritten c.seq s (capSummarized s c) := by
  obtain ⟨x, hx⟩ := capMark_ox s (piNode s) [4] c.refTs
  unfold capSummarized
  rw [hx]
  exact (ox_capWritten s x).trans (tsRecord_writes ..).capWritten

/-- The capture is gone, and counted. -/
def capGone (s : State) (c : Capture) (cut : Nat) : State :=
  { s with mc := { s.mc with captures := capNext s (s.mc.captures.filter (fun x => x.seq ≠ c.seq)), partialCount := satAdd s.mc.partialCount cut } }

/-- Every port that carries the cycle's SYNC sends the release of a capture. -/
def capReleased (s : State) (seq : Word) : State :=
  forEach (cyclePorts s) (fun p q => enq q p (bcastAll q p 0x0A (leBytes 1 seq.toNat) 7)) s

theorem capEnd_eq (s : State) (c : Capture) : capEnd s c =
    raise (capReleased (capGone (capSummarized (capCutWritten s c) c) c (countIf (fun k : CapNode => k.place.isSome) (capCut c))) c.seq) 26
      (pack 64 [(0, 32, c.seq.toNat), (32, 10, countIf (fun k : CapNode => k.done && k.place.isSome) c.nodes),
        (42, 10, countIf (fun k : CapNode => k.place.isSome) (capCut c) +
          (c.excluded + countIf (fun k : CapNode => !k.done && k.pieces.isEmpty) c.nodes)), (52, 1, b2n c.forced)]) := rfl

/-! ### The ports at the end of a capture -/

theorem bcastAll_congr {p ncmd why : Nat} {param : List Byte} (h : port t p = port s p) : bcastAll t p ncmd param why = bcastAll s p ncmd param why := by
  unfold bcastAll
  rw [h]

theorem port_enq_other {p j : Nat} {cs : List NodeCmd} (h : j ≠ p) : port (enq s j cs) p = port s p := by
  unfold enq
  rw [port_setPort, if_neg fun hj => h hj.1]

theorem port_enq_self {p : Nat} {cs : List NodeCmd} (h : p < 16) : (port (enq s p cs) p).queue = (port s p).queue ++ cs := by
  unfold enq
  rw [port_setPort, if_pos ⟨rfl, h⟩]

theorem queue_released {p ncmd why : Nat} {param : List Byte} (hp : p < 16) : ∀ (l : List Nat) (s : State), l.Nodup →
    (port (forEach l (fun j q => enq q j (bcastAll q j ncmd param why)) s) p).queue =
      (port s p).queue ++ if p ∈ l then bcastAll s p ncmd param why else []
  | [], s, _ => by simp [forEach]
  | j :: l, s, h => by
    obtain ⟨hj, hl⟩ := List.nodup_cons.mp h
    have ih := queue_released (p := p) (ncmd := ncmd) (why := why) (param := param) hp l (enq s j (bcastAll s j ncmd param why)) hl
    rw [forEach, ih]
    by_cases hjp : p = j
    · subst hjp
      rw [if_neg hj, if_pos List.mem_cons_self, port_enq_self hp, List.append_nil]
    · have hport := port_enq_other (s := s) (cs := bcastAll s j ncmd param why) (Ne.symm hjp)
      rw [hport, bcastAll_congr hport]
      simp only [List.mem_cons, hjp, false_or]

theorem capReleased_queue {p : Nat} (hp : p < 16) : (port (capReleased s seq) p).queue =
    (port s p).queue ++ if portCycles s p then bcastAll s p 0x0A (leBytes 1 seq.toNat) 7 else [] := by
  refine (queue_released hp (cyclePorts s) s (List.nodup_range.filter _)).trans ?_
  have hmem : p ∈ cyclePorts s ↔ portCycles s p = true := by
    unfold cyclePorts
    rw [List.mem_filter, List.mem_range]
    exact ⟨fun h => h.2, fun h => ⟨hp, h⟩⟩
  simp only [hmem]

theorem capReleased_left (s : State) (seq : Word) : CapLeft s (capReleased s seq) ∧ (capReleased s seq).mc = s.mc ∧
    (capReleased s seq).evr = s.evr := by
  refine ⟨forEach_capLeft _ _ fun p q => enq_capLeft .., ?_, ?_⟩
  · exact forEach_induct (P := fun q : State => q.mc = s.mc) rfl fun p _ q hq => hq
  · exact forEach_induct (P := fun q : State => q.evr = s.evr) rfl fun p _ q hq => hq

/-! ### What the end of the oldest capture leaves -/

theorem DetLeft.frame (h : DetLeft s u) : u.regs = s.regs ∧ u.otp = s.otp ∧ u.pwr = s.pwr ∧ u.flt = s.flt ∧ u.mc.now = s.mc.now := by
  unfold DetLeft at h
  rw [h]
  exact ⟨rfl, rfl, rfl, rfl, rfl⟩

theorem portCycles_congr {p : Nat} (hlp : t.lp = s.lp) (hregs : t.regs = s.regs) (hotp : t.otp = s.otp) (hpwr : t.pwr = s.pwr) :
    portCycles t p = portCycles s p := by
  unfold portCycles portRuns portOn flag rd domOn port
  rw [hlp, hregs, hotp, hpwr]

theorem capNext_congr (h : t.mc.now = s.mc.now) (l : List Capture) : capNext t l = capNext s l := by
  unfold capNext
  rw [h]

theorem countIf_filter {α : Type} (p q : α → Bool) (l : List α) : countIf p (l.filter q) = countIf (fun x => q x && p x) l := by
  unfold countIf
  rw [List.filter_filter]
  simp only [Bool.and_comm]

theorem routes_congr (he : t.evr.routing = s.evr.routing) (hp : t.pwr = s.pwr) (hf : t.flt = s.flt) : routes t = routes s := by
  unfold routes rootAlive
  rw [he, hp, hf]

theorem evMasked_congr {k : Nat} (hr : t.regs = s.regs) (ho : t.otp = s.otp) : evMasked t k = evMasked s k := by
  unfold evMasked flag rd
  rw [hr, ho]

variable {c : Capture} {cs : List Capture}

/-- The capture is written out and gone. -/
def capOver (s : State) (c : Capture) : State :=
  capGone (capSummarized (capCutWritten s c) c) c (countIf (fun k : CapNode => k.place.isSome) (capCut c))

theorem capOver_left (hc : s.mc.captures = c :: cs) : CapLeft s (capOver s c) ∧ (capOver s c).lp = s.lp ∧
    (capOver s c).evr.routing = s.evr.routing ∧ (capOver s c).mc.captures = capNext s (cs.filter fun x => x.seq ≠ c.seq) ∧
    (capOver s c).mc.partialCount = satAdd s.mc.partialCount (countIf (fun k : CapNode => k.place.isSome) (capCut c)) := by
  have hw := (capCutWritten_written s c).trans (capSummarized_written (capCutWritten s c) c)
  unfold capOver
  generalize capSummarized (capCutWritten s c) c = w at hw ⊢
  have hgone : CapLeft w (capGone w c (countIf (fun k : CapNode => k.place.isSome) (capCut c))) := ⟨rfl, rfl, rfl, rfl⟩
  have hfilter : (w.mc.captures.filter fun x => x.seq ≠ c.seq) = cs.filter fun x => x.seq ≠ c.seq := by
    rw [hw.others, hc, List.filter_cons]
    simp
  refine ⟨hw.left.trans hgone, hw.lp, hw.routing, ?_, ?_⟩
  · show capNext w (w.mc.captures.filter fun x => x.seq ≠ c.seq) = _
    rw [hfilter, capNext_congr hw.left.left.frame.2.2.2.2]
  · show satAdd w.mc.partialCount _ = _
    rw [hw.partials]

/-- The oldest capture ends: it is gone and counted, released at every running port, and EV26 reports it. -/
theorem capEnd_over (hc : s.mc.captures = c :: cs) : (capEnd s c).mc.captures = capNext s (cs.filter fun x => x.seq ≠ c.seq) ∧
    (capEnd s c).mc.partialCount = satAdd s.mc.partialCount (countIf (fun k : CapNode => k.place.isSome) (capCut c)) ∧
    (∀ p, p < 16 → (port (capEnd s c) p).queue =
      (port s p).queue ++ if portCycles s p then bcastAll s p 0x0A (leBytes 1 c.seq.toNat) 7 else []) ∧
    EventRaised s (capEnd s c) 26 (pack 64 [(0, 32, c.seq.toNat), (32, 10, countIf (fun k : CapNode => k.done && k.place.isSome) c.nodes),
      (42, 10, countIf (fun k : CapNode => k.place.isSome) (capCut c) +
        (c.excluded + countIf (fun k : CapNode => !k.done && k.pieces.isEmpty) c.nodes)), (52, 1, b2n c.forced)]) := by
  obtain ⟨hleft, hlp, hrouting, hcaptures, hpartial⟩ := capOver_left hc
  obtain ⟨hrel, hmc, hevr⟩ := capReleased_left (capOver s c) c.seq
  obtain ⟨hregs, hotp, hpwr, hflt, -⟩ := (hleft.trans hrel).left.frame
  obtain ⟨hregs', hotp', hpwr', -, -⟩ := hleft.left.frame
  have heq : capEnd s c = raise (capReleased (capOver s c) c.seq) 26 (pack 64 [(0, 32, c.seq.toNat),
      (32, 10, countIf (fun k : CapNode => k.done && k.place.isSome) c.nodes), (42, 10, countIf (fun k : CapNode => k.place.isSome) (capCut c) +
        (c.excluded + countIf (fun k : CapNode => !k.done && k.pieces.isEmpty) c.nodes)), (52, 1, b2n c.forced)]) := capEnd_eq s c
  have hraise := raise_writes (capReleased (capOver s c) c.seq) 26 (pack 64 [(0, 32, c.seq.toNat),
      (32, 10, countIf (fun k : CapNode => k.done && k.place.isSome) c.nodes), (42, 10, countIf (fun k : CapNode => k.place.isSome) (capCut c) +
        (c.excluded + countIf (fun k : CapNode => !k.done && k.pieces.isEmpty) c.nodes)), (52, 1, b2n c.forced)])
  rw [heq, hraise.mc, hmc]
  refine ⟨hcaptures, hpartial, fun p hp => ?_, ?_⟩
  · have hport : ∀ q : State, q.lp = s.lp → port q p = port s p := fun q hq => congrArg (fun l : Links => vget l.ports p Port.reset) hq
    have hrport : port (raise (capReleased (capOver s c) c.seq) 26 _) p = port (capReleased (capOver s c) c.seq) p :=
      congrArg (fun l : Links => vget l.ports p Port.reset) (Writes.capWritten (seq := c.seq) hraise).lp
    rw [hrport, capReleased_queue hp, portCycles_congr hlp hregs' hotp' hpwr', hport _ hlp, bcastAll_congr (hport _ hlp)]
  · refine EventRaised.of_writes (routes_congr ?_ hpwr hflt).symm (evMasked_congr hregs hotp).symm (raise_eventRaised ..)
    rw [hevr, hrouting]

theorem exec_captureTimeout (hr : rootAlive s = true) (hc : s.mc.captures = c :: cs) : exec .captureTimeout s =
    .next (if capTimedOut s c then capProgress (capEnd s c).mc.captures.length (capEnd s c) else s) := by
  show execCaptureTimeout s = _
  unfold execCaptureTimeout
  rw [hr, hc]
  rfl

theorem capReady_now {x : Capture} (h : t.mc.now = s.mc.now) : capReady t x = capReady s x := by
  unfold capReady
  rw [h]

/-- Of captures that are not ready none is when the oldest becomes so. -/
theorem capReady_next {l : List Capture} (h : ∀ y ∈ l, capReady s y = false) {x : Capture} (hx : x ∈ capNext s l) : capReady s x = false := by
  cases l with
  | nil => exact absurd hx List.not_mem_nil
  | cons y l =>
    rcases List.mem_cons.mp hx with rfl | hx
    · exact h y List.mem_cons_self
    · exact h x (List.mem_cons_of_mem _ hx)

/-! ### The flush of a buffer (R74) -/

/-- The buffer being filled, as it is closed. -/
def closedBuf (s : State) (m : Nat) (b : OpenBuf) (flushed : Bool) : LateBuf :=
  { addr := tsAddr s m, phase := (win s (9 + m)).phase, seq := (strm s m).seq, buf := b, flushed := flushed }

/-- The stream goes on to its next buffer. -/
def streamMoved (s : State) (m : Nat) : State :=
  let nx := ringNext (winDepth s (9 + m)) (win s (9 + m)).head
  setStrm (setWin s (9 + m) { win s (9 + m) with head := nx, phase := if nx = 0 then !(win s (9 + m)).phase else (win s (9 + m)).phase }) m
    { strm s m with openBuf := none, seq := (strm s m).seq + 1 }

theorem tsClose_open {m : Nat} {b : OpenBuf} {flushed : Bool} (hb : (strm s m).openBuf = some b) : tsClose flushed m s =
    if m = 16 && capOwes s (tsAddr s m) (winBuf s (9 + m)) then
      setStrm (streamMoved s m) m { strm (streamMoved s m) m with late := (strm s m).late ++ [closedBuf s m b flushed] }
    else tsFinish m (closedBuf s m b flushed) (streamMoved s m) := by
  unfold tsClose
  rw [hb]
  rfl

theorem strm_streamMoved {m : Nat} (hm : m < 17) : (strm (streamMoved s m) m).openBuf = none ∧ (strm (streamMoved s m) m).seq = (strm s m).seq + 1 := by
  unfold streamMoved
  dsimp only
  rw [strm_setStrm, if_pos ⟨rfl, hm⟩]
  exact ⟨rfl, rfl⟩

theorem win_streamMoved {m : Nat} (hm : m < 17) : (win (streamMoved s m) (9 + m)).head = ringNext (winDepth s (9 + m)) (win s (9 + m)).head ∧
    ∀ j, j ≠ 9 + m → win (streamMoved s m) j = win s j := by
  unfold streamMoved
  refine ⟨?_, fun j hj => ?_⟩
  · rw [win_setStrm, win_setWin, if_pos ⟨rfl, by omega⟩]
  · rw [win_setStrm, win_setWin, if_neg fun h => hj h.1.symm]

/-- Writing a header and the stream's message touches neither the streams nor their windows. -/
theorem tsFinish_qe (m : Nat) (l : LateBuf) (s : State) : (tsFinish m l s).qe = s.qe ∧ (tsFinish m l s).regs = s.regs := by
  have hpost : ∀ bs, (hostPost s l.addr bs).qe = s.qe ∧ (hostPost s l.addr bs).regs = s.regs := fun bs => by
    unfold hostPost
    split <;> exact ⟨rfl, rfl⟩
  have hmsix : ∀ (q : State) v, (msixSend q v).qe = q.qe ∧ (msixSend q v).regs = q.regs := fun q v => by
    unfold msixSend
    split
    · exact ⟨rfl, rfl⟩
    · dsimp only
      split <;> exact ⟨rfl, rfl⟩
  have hcount : ∀ (q : State) v, (coalCount q v).qe = q.qe ∧ (coalCount q v).regs = q.regs := fun q v => by
    unfold coalCount
    dsimp only
    split
    · unfold coalSend
      exact hmsix _ v
    · exact ⟨rfl, rfl⟩
  unfold tsFinish
  dsimp only
  split
  · exact ⟨(hcount _ _).1.trans (hpost _).1, (hcount _ _).2.trans (hpost _).2⟩
  · exact hpost _

theorem tsHeader_length (phase : Bool) (m used records seq : Nat) (first : Stamp) (loss flushed : Bool) :
    (tsHeader phase m used records seq first loss flushed).length = 32 := by
  simp [tsHeader, zeroBytes, leBytes_length]

theorem Mem.read_of_get {d : Byte} {m : List Host.Cell} : ∀ {bs : List Byte} {a : Nat}, (∀ i (h : i < bs.length), Mem.get d m (a + i) = bs[i]) →
    Mem.read d m a bs.length = bs
  | [], _, _ => rfl
  | b :: bs, a, h => by
    have h0 : Mem.get d m a = b := h 0 (Nat.succ_pos _)
    have hrest : Mem.read d m (a + 1) bs.length = bs := Mem.read_of_get fun i hi => by
      have := h (i + 1) (Nat.succ_lt_succ hi)
      rwa [show a + (i + 1) = a + 1 + i by omega] at this
    show Mem.get d m a :: Mem.read d m (a + 1) bs.length = b :: bs
    rw [h0, hrest]

theorem hostRead_hostWrite (h : s.memWf) (a : Nat) (bs : List Byte) : hostRead (hostWrite s a bs) a bs.length = bs :=
  Mem.read_of_get fun _ hi => hostByte_hostWrite_at h hi

/-- The header of a closed buffer stands in host memory. -/
theorem hostRead_tsFinish {m : Nat} {l : LateBuf} (h : s.memWf) (hm : canMaster s = true) (hp : s.pcie.posted = [])
    (hf : flag s (winBase (9 + m) + 0xC) 8 = false) : hostRead (tsFinish m l s) l.addr 32 =
      tsHeader l.phase m l.buf.used l.buf.records l.seq.toNat l.buf.firstTs l.buf.lossBefore l.flushed := by
  have hpost : ∀ bs, hostPost s l.addr bs = hostWrite s l.addr bs := fun bs => by
    unfold hostPost
    rw [hm, hp]
    rfl
  unfold tsFinish
  dsimp only
  rw [hpost, show flag s (winBase (9 + m) + 0xC) 8 = false from hf, if_neg Bool.false_ne_true]
  have hread := hostRead_hostWrite h l.addr (tsHeader l.phase m l.buf.used l.buf.records l.seq.toNat l.buf.firstTs l.buf.lossBefore l.flushed)
  rwa [tsHeader_length] at hread

/-- Settles O46: what a sample, a piece, the end of a capture and the flush of a buffer leave. -/
theorem captures : Obligations.Captures := by
  unfold Obligations.Captures
  refine ⟨?stands, ?noSample, ?sample, ?noPiece, ?piece, ?timeout, ?flush⟩
  case stands =>
    intro s t dly a m hr i hi
    simp only [List.mem_cons, List.not_mem_nil, or_false] at hi
    rcases hi with rfl | rfl | rfl | rfl
    · show execPiSample t dly s = _
      unfold execPiSample
      rw [hr]
      rfl
    · show execCapturePiece a s = _
      unfold execCapturePiece
      rw [hr]
      rfl
    · show execCaptureTimeout s = _
      unfold execCaptureTimeout
      rw [hr]
      rfl
    · show execTsBufferFlush m s = _
      unfold execTsBufferFlush
      rw [hr, Bool.and_false]
      rfl
  case noSample =>
    intro s t dly hp
    show execPiSample t dly s = _
    unfold execPiSample
    dsimp only
    rw [hp]
    exact congrArg Host.Outcome.next (ite_self s)
  case sample =>
    intro s i k code dly rest a x word streams hr hp
    refine ⟨fun hs => exec_piSample_unused hr hp (eq_false_of_ne_true (mt Bool.and_eq_true_iff.mp hs)), fun hs => ?_⟩
    obtain ⟨n, u, hu, hexec⟩ := exec_piSample_seen (at_ := i) (dly := dly) hr hp hs
    obtain ⟨hhist, hlast, hlost, hnow, hcycle, hregs, hpi⟩ := piSeen_stream hu
    have htaken := piTaken_taken (piPopped s rest) i k (code.setWidth 20)
    refine ⟨⟨u, hexec, hhist, hlast, hnow, hcycle, hregs, hpi⟩, fun l hl hg => ⟨u, hexec, ?_⟩, fun hnot => ⟨u, hexec, ?_⟩,
      fun h1 h2 h3 h4 h5 h6 h7 h8 h9 => ?_⟩
    · have hgap := piLostAt_gap (rest := rest) hl hg
      exact ⟨hlost.trans hgap, (piSeen_idle (piDetects_lost (htaken.piLost.trans hgap)) hu).1⟩
    · exact piSeen_idle (piDetects_not htaken hnot) hu
    · have hreach : StepReached s i k (code.setWidth 20) := ⟨h1, h2, h3, h4, h5, h6, h7, delivers_trusted hs.2, h8, h9⟩
      obtain ⟨q, d, hq, hleft⟩ := piSeen_detects hreach.detects hu
      have hbarred := hq.barred (by rw [hp]; exact List.cons_ne_nil _ _)
      refine ⟨fun hold => ⟨fun hfree => ⟨u, hexec, ?_⟩, fun hbar => ⟨u, hexec, ?_⟩⟩, fun v hv hrecent => ⟨u, hexec, ?_⟩⟩
      · have hnot : captRecent q i = false := (captRecent_taken hq).trans (eq_false_of_ne_true fun hrec => by
          obtain ⟨v, hv, hle⟩ := captRecent_iff.mp hrec
          have := hold v hv
          omega)
        obtain ⟨hseq, hcapt, hdecl⟩ := detection_emits (d := d) (delay := if dly ≤ 250 then dly else 250) hnot (hbarred.trans hfree)
        exact ⟨hleft.lastSeq.trans (hseq.trans (congrArg (· + 1) hq.lastSeq)), hleft.lastCapt.trans hcapt,
          hleft.declined.trans (hdecl.trans hq.declined)⟩
      · have hnot : captRecent q i = false := (captRecent_taken hq).trans (eq_false_of_ne_true fun hrec => by
          obtain ⟨v, hv, hle⟩ := captRecent_iff.mp hrec
          have := hold v hv
          omega)
        obtain ⟨hseq, hdecl⟩ := detection_barred (d := d) (delay := if dly ≤ 250 then dly else 250) hnot (hbarred ▸ hbar)
        exact ⟨hleft.lastSeq.trans (hseq.trans hq.lastSeq), hleft.declined.trans (hdecl.trans (congrArg satInc hq.declined))⟩
      · have hrec : captRecent q i = true := (captRecent_taken hq).trans (captRecent_iff.mpr ⟨v, hv, hrecent⟩)
        have hdet := (detection_recent (d := d) (delay := if dly ≤ 250 then dly else 250) hrec).trans hleft
        exact ⟨hdet.lastSeq.trans hq.lastSeq, hdet.lastCapt.trans hq.lastCapt, hdet.declined.trans hq.declined⟩
  case noPiece =>
    intro s a hc
    show execCapturePiece a s = _
    unfold execCapturePiece
    dsimp only
    rw [hc]
    exact congrArg Host.Outcome.next (ite_self s)
  case piece =>
    intro s a num off bs rest hr hc u
    refine ⟨fun hd => ?_, fun hd => ?_⟩
    · rw [exec_capturePiece hr hc, hd]
      rfl
    · have hexec : exec (.capturePiece a) s = .next (capPiece u a.val num off bs) := by
        rw [exec_capturePiece hr hc, hd]
        rfl
      rw [hexec]
      refine ⟨fun hno => congrArg Host.Outcome.next (capPiece_unknown hno), fun c k hsame hpart hdone hfind => ?_⟩
      have hpiece : PieceFor u a.val num c k := ⟨hfind, hpart, hsame⟩
      intro keep
      refine ⟨fun hbad => congrArg Host.Outcome.next (capPiece_ignored hpiece hbad), fun hb hl hgaps hready => ⟨fun p hk hp => ?_, fun hk hp hf hlt => ?_⟩⟩
      · obtain ⟨hmid, hlast⟩ := capPiece_placed hpiece hb hl ⟨hgaps, hready⟩ hk hp
        exact ⟨fun hlt => congrArg Host.Outcome.next (hmid hlt), fun c1 heq hc1 => congrArg Host.Outcome.next (hlast c1 heq hc1)⟩
      · exact congrArg Host.Outcome.next (capPiece_roomless hpiece hb hlt ⟨hgaps, hready⟩ hk hp hf)
  case timeout =>
    intro s
    refine ⟨fun hc => ?_, fun c cs hr hc => ?_⟩
    · show execCaptureTimeout s = _
      unfold execCaptureTimeout
      rw [hc]
      exact congrArg Host.Outcome.next (ite_self s)
    · intro limit
      refine ⟨fun hlt => ?_, fun hle hready => ?_⟩
      · rw [exec_captureTimeout hr hc, if_neg (show ¬ capTimedOut s c = true from fun h => absurd (of_decide_eq_true h) (Nat.not_le.mpr hlt))]
      · intro part excl full
        obtain ⟨hcaps, hpartial, hqueue, hevent⟩ := capEnd_over hc
        have hleft := capEnd_capLeft s c
        have hpart : countIf (fun k : CapNode => k.place.isSome) (capCut c) = part := countIf_filter _ _ _
        rw [hpart] at hpartial hevent
        refine ⟨capEnd s c, ?_, hcaps, hpartial, hleft.lastSeq, hleft.left.frame.1, hqueue, hevent⟩
        rw [exec_captureTimeout hr hc, if_pos (show capTimedOut s c = true from decide_eq_true hle)]
        refine congrArg Host.Outcome.next (capProgress_idle _ fun x hx => ?_)
        rw [hcaps] at hx
        rw [capReady_now hleft.left.frame.2.2.2.2]
        exact capReady_next (fun y hy => hready y (List.mem_filter.mp hy).1) hx
  case flush =>
    intro s m hq hm hd hr
    have hexec : exec (.tsBufferFlush m) s = .next (tsClose true m.val s) := by
      show execTsBufferFlush m s = _
      unfold execTsBufferFlush
      rw [hq, hm, hd, hr]
      rfl
    rw [hexec]
    refine ⟨fun hb => ?_, fun b hb => ?_⟩
    · unfold tsClose
      rw [hb]
    · intro w late
      obtain ⟨hopen, hseq⟩ := strm_streamMoved (s := s) m.isLt
      obtain ⟨hhead, hothers⟩ := win_streamMoved (s := s) m.isLt
      by_cases hlate : late
      · have hcond : (decide (m.val = 16) && capOwes s (tsAddr s m.val) (winBuf s (9 + m.val))) = true := by
          rw [hlate.1]
          exact hlate.2
        have hstrm : ∀ x, strm (setStrm (streamMoved s m.val) m.val x) m.val = x := fun x => by
          rw [strm_setStrm, if_pos ⟨rfl, m.isLt⟩]
        refine ⟨_, hexec.trans (congrArg Host.Outcome.next ((tsClose_open hb).trans (if_pos hcond))), ?_⟩
        exact ⟨(congrArg Stream.openBuf (hstrm _)).trans hopen, (congrArg Stream.seq (hstrm _)).trans hseq, hhead, hothers, rfl, fun _ => .of_mem rfl rfl rfl, fun h => absurd hlate h⟩
      · have hcond : ¬ (decide (m.val = 16) && capOwes s (tsAddr s m.val) (winBuf s (9 + m.val))) = true := fun h => by
          obtain ⟨h16, howes⟩ := Bool.and_eq_true_iff.mp h
          have h16 := of_decide_eq_true h16
          rw [h16] at howes
          exact hlate ⟨h16, howes⟩
        obtain ⟨hqe, hregs⟩ := tsFinish_qe m.val (closedBuf s m.val b true) (streamMoved s m.val)
        have hstrm : strm (tsFinish m.val (closedBuf s m.val b true) (streamMoved s m.val)) m.val = strm (streamMoved s m.val) m.val :=
          congrArg (fun x : QueueEngine => vget x.streams m.val Stream.reset) hqe
        have hwin : ∀ j, win (tsFinish m.val (closedBuf s m.val b true) (streamMoved s m.val)) j = win (streamMoved s m.val) j := fun j =>
          congrArg (fun x : QueueEngine => vget x.win j QWin.reset) hqe
        refine ⟨_, hexec.trans (congrArg Host.Outcome.next ((tsClose_open hb).trans (if_neg hcond))), ?_⟩
        exact ⟨(congrArg Stream.openBuf hstrm).trans hopen, (congrArg Stream.seq hstrm).trans hseq, (congrArg QWin.head (hwin _)).trans hhead,
          fun j hj => (hwin j).trans (hothers j hj), hregs, fun h => absurd h hlate, fun _ hwf hp hf =>
          hostRead_tsFinish (s := streamMoved s m.val) hwf hm hp hf⟩

end Sys2Proof.Machine
end

section
/-! PROOFS. The statement on the link ports: what a cycle tick leaves. -/

namespace Sys2Proof.Machine

variable {s t u : State}

/-! ### What keeps the cycle (R162) -/

/-- The cycle that runs is the same, with the microframe of every port. -/
structure CycleKept (s t : State) : Prop where
  running : t.lp.running = s.lp.running
  cycle : t.lp.cycle = s.lp.cycle
  ms : t.lp.ms = s.lp.ms
  jobs : t.lp.jobs = s.lp.jobs
  mf : ∀ p, (port t p).mf = (port s p).mf

theorem CycleKept.refl (s : State) : CycleKept s s := ⟨rfl, rfl, rfl, rfl, fun _ => rfl⟩

theorem CycleKept.trans (h1 : CycleKept s t) (h2 : CycleKept t u) : CycleKept s u :=
  ⟨h2.running.trans h1.running, h2.cycle.trans h1.cycle, h2.ms.trans h1.ms, h2.jobs.trans h1.jobs, fun p => (h2.mf p).trans (h1.mf p)⟩

theorem cycleKept_of_lp (h : t.lp = s.lp) : CycleKept s t := by
  refine ⟨by rw [h], by rw [h], by rw [h], by rw [h], fun p => ?_⟩
  unfold port
  rw [h]

theorem forEach_cycleKept {α : Type} {f : α → State → State} (l : List α) (s : State) (h : ∀ a q, CycleKept q (f a q)) : CycleKept s (forEach l f s) :=
  forEach_induct (P := CycleKept s) (CycleKept.refl s) fun a _ q hq => hq.trans (h a q)

theorem setPort_cycleKept (s : State) (p : Nat) {x : Port} (h : x.mf = (port s p).mf) : CycleKept s (setPort s p x) := by
  refine ⟨rfl, rfl, rfl, rfl, fun j => ?_⟩
  rw [port_setPort]
  split
  next hj => rw [h, hj.1]
  · rfl

theorem OnlyReply.lp (h : OnlyReply s t) : t.lp = s.lp := by
  unfold OnlyReply at h
  rw [h]

theorem raise_lp (s : State) (k : Nat) (d : DWord) : (raise s k d).lp = s.lp := (raise_onlyEvents s k d).reply.lp

theorem enq_cycleKept (s : State) (p : Nat) (cs : List NodeCmd) : CycleKept s (enq s p cs) := setPort_cycleKept s p rfl

theorem FlushLeft.cycleKept (h : FlushLeft s t) : CycleKept s t := by
  rw [h.only]
  exact ⟨rfl, rfl, rfl, rfl, fun _ => rfl⟩

/-! ### The end of a cycle (R205, R229) -/

theorem syncCheck_lp (s : State) : ∃ n f, syncCheck s = { s with lp := { s.lp with syncRun := n }, flt := f } := by
  unfold syncCheck holdLine assertLine endLine
  dsimp only
  split
  · split
    · split
      · exact ⟨_, _, rfl⟩
      · exact ⟨_, _, rfl⟩
    · exact ⟨_, _, rfl⟩
  · exact ⟨_, _, rfl⟩

theorem cycleEvents_cycleKept (s : State) : CycleKept s (cycleEvents s) ∧ (cycleEvents s).regs = s.regs ∧ (cycleEvents s).otp = s.otp := by
  unfold cycleEvents
  extract_lets detail s1 s2
  have h1 : OnlyReply s s1 := by
    unfold s1
    split
    · exact (raise_onlyEvents ..).reply
    · exact OnlyReply.refl s
  have h2 : OnlyReply s s2 := by
    unfold s2
    split
    · exact h1.trans (raise_onlyEvents ..).reply
    · exact h1
  obtain ⟨hregs, hotp, -⟩ := h2.frame
  have hkeep : CycleKept s2 { s2 with lp := { s2.lp with viol := none, opens := none } } := ⟨rfl, rfl, rfl, rfl, fun _ => rfl⟩
  exact ⟨(cycleKept_of_lp h2.lp).trans hkeep, hregs, hotp⟩

theorem cycleEnd_cycleKept (s : State) : CycleKept s (cycleEnd s) ∧ (cycleEnd s).regs = s.regs ∧ (cycleEnd s).otp = s.otp := by
  obtain ⟨n, f, hsync⟩ := syncCheck_lp s
  have h1 : CycleKept s (syncCheck s) ∧ (syncCheck s).regs = s.regs ∧ (syncCheck s).otp = s.otp := by
    rw [hsync]
    exact ⟨⟨rfl, rfl, rfl, rfl, fun _ => rfl⟩, rfl, rfl⟩
  obtain ⟨h2, hregs, hotp⟩ := cycleEvents_cycleKept (syncCheck s)
  have h3 : CycleKept (cycleEvents (syncCheck s)) (cycleEnd s) := ⟨rfl, rfl, rfl, rfl, fun _ => rfl⟩
  exact ⟨(h1.1.trans h2).trans h3, hregs.trans h1.2.1, hotp.trans h1.2.2⟩

theorem flag_linkBoundary_congr (hr : t.regs = s.regs) (ho : t.otp = s.otp) (off i : Nat) : flag (linkBoundary t) off i = flag (linkBoundary s) off i := by
  unfold flag rd linkBoundary
  rw [hr, ho]

/-! ### The start of a cycle (R161, R231, R241) -/

theorem portRates_eq (p : Nat) (s : State) : ∃ qa qb r b, portRates p s =
    setPort s p { port s p with quotaA := qa, quotaB := qb, rdiv := r, rdivShort := b } := by
  unfold portRates
  dsimp only
  split
  · exact ⟨0, 0, 0, false, rfl⟩
  · exact ⟨_, _, _, _, rfl⟩

theorem portRates_cycleKept (p : Nat) (s : State) : CycleKept s (portRates p s) := by
  obtain ⟨qa, qb, r, b, h⟩ := portRates_eq p s
  rw [h]
  exact setPort_cycleKept s p rfl

/-- The first microframe of a cycle on the ports up to `n`. -/
theorem portCycles_mf (s : State) : ∀ n, (forUpTo n portCycle s).lp.running = s.lp.running ∧ (forUpTo n portCycle s).lp.cycle = s.lp.cycle ∧
    (forUpTo n portCycle s).lp.ms = s.lp.ms ∧ (forUpTo n portCycle s).lp.jobs = s.lp.jobs ∧ ∀ p, p < n → (port (forUpTo n portCycle s) p).mf = 0
  | 0 => ⟨rfl, rfl, rfl, rfl, fun _ h => absurd h (Nat.not_lt_zero _)⟩
  | n + 1 => by
    obtain ⟨h1, h2, h3, h4, h5⟩ := portCycles_mf s n
    have hk := portRates_cycleKept n (setPort (forUpTo n portCycle s) n { port (forUpTo n portCycle s) n with
      mf := 0, mfA := false, mfB := false, bounds := (port (forUpTo n portCycle s) n).bounds + 1 })
    refine ⟨hk.running.trans h1, hk.cycle.trans h2, hk.ms.trans h3, hk.jobs.trans h4, fun p hp => (hk.mf p).trans ?_⟩
    rw [port_setPort]
    split
    · rfl
    next hj =>
      by_cases hpn : p = n
      · subst hpn
        have : ¬ p < 16 := fun hlt => hj ⟨rfl, hlt⟩
        unfold port vget
        rw [dif_neg this]
        rfl
      · exact h5 p (by omega)

theorem portCycles_mf_all (s : State) (p : Nat) : (port (forUpTo 16 portCycle s) p).mf = 0 := by
  by_cases hp : p < 16
  · exact (portCycles_mf s 16).2.2.2.2 p hp
  · unfold port vget
    rw [dif_neg hp]
    rfl

theorem piJudge_cycleKept (s : State) (a : Nat) : CycleKept s (piJudge s a) := by
  unfold piJudge
  split
  · exact cycleKept_of_lp rfl
  · exact CycleKept.refl s

theorem shuntTell_cycleKept (s : State) : CycleKept s (shuntTell s) := by
  unfold shuntTell
  extract_lets old new tell s1 s2
  have htell : ∀ q a on, CycleKept q (tell q a on) := fun q a on => by
    unfold tell
    split
    · exact enq_cycleKept ..
    · exact CycleKept.refl q
  split
  · exact CycleKept.refl s
  · have h1 : CycleKept s s1 := by
      unfold s1
      split
      · exact htell ..
      · exact CycleKept.refl s
    have h2 : CycleKept s1 s2 := htell ..
    have h3 : CycleKept s2 { s2 with lp := { s2.lp with piSent := new } } := ⟨rfl, rfl, rfl, rfl, fun _ => rfl⟩
    exact ((h1.trans h2).trans h3).trans (piJudge_cycleKept ..)

theorem latchNow_cycleKept (s : State) (k : Tick) : CycleKept s (latchNow s k) := by
  unfold latchNow
  extract_lets lp mc s1
  have h1 : CycleKept s s1 := ⟨rfl, rfl, rfl, rfl, fun _ => rfl⟩
  exact h1.trans (forEach_cycleKept _ _ fun p q => setPort_cycleKept q p rfl)

theorem capEnd_cycleKept (s : State) (c : Capture) : CycleKept s (capEnd s c) := by
  have h1 : (capOver s c).lp = s.lp := ((capCutWritten_written s c).trans (capSummarized_written (capCutWritten s c) c)).lp
  have h2 : CycleKept (capOver s c) (capReleased (capOver s c) c.seq) := forEach_cycleKept _ _ fun p q => enq_cycleKept ..
  rw [capEnd_eq]
  exact ((cycleKept_of_lp h1).trans h2).trans (cycleKept_of_lp (raise_lp ..))

theorem capProgress_cycleKept : ∀ (n : Nat) (s : State), CycleKept s (capProgress n s)
  | 0, s => CycleKept.refl s
  | n + 1, s => by
    unfold capProgress
    split
    · exact CycleKept.refl s
    · split
      · exact (capEnd_cycleKept ..).trans (capProgress_cycleKept n _)
      · exact CycleKept.refl s

/-- Cycle `n` has started at `ms`: every port is in its first microframe. -/
structure CycleAt (s : State) (n : Word) (ms : Nat) (t : State) : Prop where
  running : t.lp.running = s.lp.running
  cycle : t.lp.cycle = n
  ms : t.lp.ms = ms
  jobs : t.lp.jobs = s.lp.jobs
  mf : ∀ p, (port t p).mf = 0

theorem CycleAt.kept {n : Word} {ms : Nat} (h1 : CycleAt s n ms t) (h2 : CycleKept t u) : CycleAt s n ms u :=
  ⟨h2.running.trans h1.running, h2.cycle.trans h1.cycle, h2.ms.trans h1.ms, h2.jobs.trans h1.jobs, fun p => (h2.mf p).trans (h1.mf p)⟩

theorem portCycles_at {q : State} {n : Word} {ms : Nat} (hrun : q.lp.running = s.lp.running) (hcycle : q.lp.cycle = n) (hms : q.lp.ms = ms)
    (hjobs : q.lp.jobs = s.lp.jobs) : CycleAt s n ms (forUpTo 16 portCycle q) := by
  obtain ⟨h1, h2, h3, h4, -⟩ := portCycles_mf q 16
  exact ⟨h1.trans hrun, h2.trans hcycle, h3.trans hms, h4.trans hjobs, portCycles_mf_all q⟩

theorem cycleStart_at (s : State) (n : Word) (ms before : Nat) : CycleAt s n ms (cycleStart s n ms before) := by
  unfold cycleStart
  extract_lets k lp mc s1 s2 lp3 s3 s4 s5 s6
  have h2 : CycleKept s1 s2 := (piFlush_flushLeft ..).cycleKept
  have h3 : CycleKept s2 s3 := ⟨rfl, rfl, rfl, rfl, fun _ => rfl⟩
  have h13 := h2.trans h3
  have h4 : CycleAt s n ms s4 := portCycles_at h13.running h13.cycle h13.ms h13.jobs
  have h6 : CycleKept s5 s6 := by
    unfold s6
    split
    · exact latchNow_cycleKept ..
    · exact CycleKept.refl s5
  exact ((h4.kept (shuntTell_cycleKept s4)).kept h6).kept (capProgress_cycleKept ..)

/-! ### A cycle tick (R162) -/

/-- The cycles stand before they start. -/
def linkReady (s : State) : State :=
  { s with
    lp := { s.lp with running := true, syncRun := 0, ticks := [], piDue := [], piCycle := [] }
    mc := { s.mc with hist := [], piLast := none, piRun := 0, above := false, ocRun := 0 }
    ox := { s.ox with work := s.ox.work.map fun e => (e.1, { e.2 with restFrom := none, restTaken := 0 }) } }

theorem linkStart_at (s : State) : CycleAt (linkReady s) 0 (s.mc.now / 1000 + 1) (linkStart s) := cycleStart_at (linkReady s) 0 _ 0

theorem bitOf_and_not_maskOf (w : Word) (k : Nat) (hk : k < 32) : bitOf (w &&& ~~~ maskOf 32 k 1) k = false := by
  have hmask : (maskOf 32 k 1).getLsbD k = true := by
    unfold maskOf
    rw [BitVec.getLsbD_ofNat, decide_eq_true hk, Nat.testBit_mul_two_pow]
    simp
  unfold bitOf
  rw [BitVec.getLsbD_and, BitVec.getLsbD_not, hmask]
  simp

theorem linkStop_stopped (s : State) : (linkStop s).lp.running = false ∧ (linkStop s).lp.cycle = s.lp.cycle ∧ (linkStop s).lp.jobs = s.lp.jobs ∧
    bitOf (linkStop s).flt.active 17 = false := by
  have h := (piFlush_flushLeft { s with lp := { s.lp with running := false, syncRun := 0 } } (s.lp.ms + 100)).cycleKept
  exact ⟨h.running, h.cycle, h.jobs, bitOf_and_not_maskOf _ 17 (by omega)⟩

/-- The length of the cycle that runs. -/
def tickLen (s : State) : Nat := match s.lp.ticks with | k :: _ => k.len | [] => cycleMs s

/-- At a cycle's end the run bit is that of the boundary. -/
theorem cycleTick_runs (hr : rootAlive s = true) (hl : s.lp.running = true) (hf : flag (linkBoundary s) 0x3000 0 = true) :
    cycleTick s = cycleStart (linkBoundary (cycleEnd s)) (s.lp.cycle + 1) (s.lp.ms + tickLen s) (tickLen s) := by
  obtain ⟨-, hregs, hotp⟩ := cycleEnd_cycleKept s
  have hflag := (flag_linkBoundary_congr hregs hotp 0x3000 0).trans hf
  unfold cycleTick
  rw [hr, hl]
  exact if_pos hflag

theorem cycleTick_stops (hr : rootAlive s = true) (hl : s.lp.running = true) (hf : flag (linkBoundary s) 0x3000 0 = false) :
    cycleTick s = linkStop (linkBoundary (cycleEnd s)) := by
  obtain ⟨-, hregs, hotp⟩ := cycleEnd_cycleKept s
  have hflag := (flag_linkBoundary_congr hregs hotp 0x3000 0).trans hf
  unfold cycleTick
  rw [hr, hl]
  exact if_neg (ne_true_of_eq_false hflag)

theorem cycleTick_standing (hr : rootAlive s = true) (hl : s.lp.running = false) :
    cycleTick s = if flag s 0x3000 0 then linkStart (linkBoundary s) else s := by
  unfold cycleTick
  rw [hr, hl, Bool.not_true, if_neg Bool.false_ne_true, Bool.not_false, if_pos rfl]

theorem exec_cycleTick (hj : (cycleTick s).lp.jobs = []) : exec .cycleTick s = .next (cycleTick s) := congrArg Host.Outcome.next (linkGo_idle hj)

/-- The statement on cycle ticks. -/
theorem cycleTick_cases (hr : rootAlive s = true) (hj : s.lp.jobs = []) :
    (s.lp.running = false → flag s 0x3000 0 = false → exec .cycleTick s = .next s) ∧
    (s.lp.running = false → flag s 0x3000 0 = true → Answers .cycleTick s fun t => t.lp.running = true ∧ t.lp.cycle = 0 ∧
      t.lp.ms = s.mc.now / 1000 + 1 ∧ ∀ p, (port t p).mf = 0) ∧
    (s.lp.running = true → flag (linkBoundary s) 0x3000 0 = true → Answers .cycleTick s fun t => t.lp.running = true ∧
      t.lp.cycle = s.lp.cycle + 1 ∧ (∀ k ks, s.lp.ticks = k :: ks → t.lp.ms = s.lp.ms + k.len) ∧ ∀ p, (port t p).mf = 0) ∧
    (s.lp.running = true → flag (linkBoundary s) 0x3000 0 = false → Answers .cycleTick s fun t => t.lp.running = false ∧
      t.lp.cycle = s.lp.cycle ∧ bitOf t.flt.active 17 = false) := by
  have hend := (cycleEnd_cycleKept s).1
  refine ⟨fun hl hf => ?_, fun hl hf => ?_, fun hl hf => ?_, fun hl hf => ?_⟩
  · have heq : cycleTick s = s := (cycleTick_standing hr hl).trans (if_neg (ne_true_of_eq_false hf))
    rw [exec_cycleTick (by rw [heq]; exact hj), heq]
  · have heq : cycleTick s = linkStart (linkBoundary s) := (cycleTick_standing hr hl).trans (if_pos hf)
    have hat := linkStart_at (linkBoundary s)
    rw [← heq] at hat
    exact ⟨_, exec_cycleTick (hat.jobs.trans hj), hat.running, hat.cycle, hat.ms, hat.mf⟩
  · have hat := cycleStart_at (linkBoundary (cycleEnd s)) (s.lp.cycle + 1) (s.lp.ms + tickLen s) (tickLen s)
    rw [← cycleTick_runs hr hl hf] at hat
    refine ⟨_, exec_cycleTick (hat.jobs.trans (hend.jobs.trans hj)), hat.running.trans (hend.running.trans hl), hat.cycle, fun k ks hk => ?_, hat.mf⟩
    rw [hat.ms, tickLen, hk]
  · obtain ⟨hrun, hcycle, hjobs, hactive⟩ := linkStop_stopped (linkBoundary (cycleEnd s))
    rw [← cycleTick_stops hr hl hf] at hrun hcycle hjobs hactive
    exact ⟨_, exec_cycleTick (hjobs.trans (hend.jobs.trans hj)), hrun, hcycle.trans hend.cycle, hactive⟩

end Sys2Proof.Machine
end

section
/-! PROOFS. The statement on the link ports: the train that goes out in a microframe. -/

namespace Sys2Proof.Machine

variable {s t u : State} {p : Nat} {b : Bool}

/-- The command of the next train, a fresh challenge noted. -/
def trainStart (s : State) (p : Nat) (b : Bool) : State × NodeCmd :=
  match nextCmd (port s p) b with
  | some k => cmdChallenge s p k
  | none => (s, bcastCmd b 0 [] 0)

/-- The bytes of the next train's command. -/
def trainBytes (s : State) (p : Nat) (b : Bool) : List Byte :=
  if (nextCmd (port s p) b).isSome then cmdBytes (trainStart s p b).2 (port s p).seq else []

/-- The command that awaits its response behind the next train. -/
def trainSent (s : State) (p : Nat) (b : Bool) : Option SentCmd :=
  if (nextCmd (port s p) b).isSome && !(trainStart s p b).2.bcast then
    some { cmd := { (trainStart s p b).2 with sends := (trainStart s p b).2.sends + 1 }, seq := (port s p).seq, trains := 0 : SentCmd }
  else (sentOn (port s p) b).map fun k => { k with trains := k.trains + 1 }

/-- The port behind its next train. -/
def trainPort (s : State) (p : Nat) (b : Bool) : Port :=
  let x := port s p
  let mf := trainMf s x b
  let moved := decide (mf ≠ x.mf)
  let c := nextCmd x b
  let q := quota (trainStart s p b).1 p b (trainBytes s p b).length
  let y := setSent (port (trainStart s p b).1 p) b (trainSent s p b)
  { y with
    train := trainHeader (trainMode x b c) (x.latch && mf = 0) x.rdiv mf q (trainBytes s p b).length (s.lp.cycle.toNat % 256) ++ trainBytes s p b
    lead := trainLead s p x b mf, tail := [], queue := x.queue.eraseP (fun k => c.isSome && k.chainB = b)
    seq := if c.isSome then x.seq + 1 else x.seq
    mf := mf, mfA := if b then y.mfA && !moved else true, mfB := if b then true else y.mfB && !moved
    askA := if b then y.askA else q, askB := if b then q else y.askB
    latch := x.latch && mf = 0, failRun := if x.trainOut then 0 else x.failRun, trainOut := true
    captA := if b then y.captA else none, captB := if b then none else y.captB }

theorem sendTrain_eq (s : State) (p : Nat) (b : Bool) : sendTrain s p b = setPort (trainStart s p b).1 p (trainPort s p b) := rfl

/-- Noting a challenge leaves ports and bytes. -/
theorem trainStart_kept (s : State) (p : Nat) (b : Bool) : (trainStart s p b).1.lp.ports = s.lp.ports ∧ SameBytes s (trainStart s p b).1 := by
  unfold trainStart
  split
  · unfold cmdChallenge
    split
    · exact ⟨rfl, .of_mem rfl rfl rfl⟩
    · exact ⟨rfl, .of_mem rfl rfl rfl⟩
  · exact ⟨rfl, .of_mem rfl rfl rfl⟩

theorem port_trainStart (s : State) (p : Nat) (b : Bool) (j : Nat) : port (trainStart s p b).1 j = port s j := by
  unfold port
  rw [(trainStart_kept s p b).1]

theorem port_sendTrain_self (hp : p < 16) : port (sendTrain s p b) p = trainPort s p b := by
  rw [sendTrain_eq, port_setPort, if_pos ⟨rfl, hp⟩]

theorem port_sendTrain_other {j : Nat} (hj : j ≠ p) : port (sendTrain s p b) j = port s j := by
  rw [sendTrain_eq, port_setPort, if_neg fun h => hj h.1.symm, port_trainStart]

theorem sentOn_setSent (x : Port) (b : Bool) (k : Option SentCmd) : sentOn (setSent x b k) b = k ∧ sentOn (setSent x b k) (!b) = sentOn x (!b) := by
  cases b <;> exact ⟨rfl, rfl⟩

theorem sentOn_trainPort (s : State) (p : Nat) (b : Bool) : sentOn (trainPort s p b) b = trainSent s p b ∧
    sentOn (trainPort s p b) (!b) = sentOn (port s p) (!b) := by
  have hport := port_trainStart s p b p
  have hset := sentOn_setSent (port (trainStart s p b).1 p) b (trainSent s p b)
  rw [hport] at hset
  have hsame : ∀ c, sentOn (trainPort s p b) c = sentOn (setSent (port (trainStart s p b).1 p) b (trainSent s p b)) c := fun c => by
    cases c <;> rfl
  rw [hsame, hsame, hport]
  exact hset

theorem trainHeader_length (mode : Nat) (latch : Bool) (rdiv mf q len cycle : Nat) : (trainHeader mode latch rdiv mf q len cycle).length = 8 := by
  simp [trainHeader, leBytes_length]

theorem train_bytes (s : State) (p : Nat) (b : Bool) : (trainPort s p b).train.drop 8 = trainBytes s p b ∧
    (trainPort s p b).train.length = 8 + (trainBytes s p b).length := by
  refine ⟨List.drop_left' (trainHeader_length ..), ?_⟩
  show (trainHeader _ _ _ _ _ _ _ ++ trainBytes s p b).length = _
  rw [List.length_append, trainHeader_length]

/-- The train begins with its header. -/
theorem train_header (s : State) (p : Nat) (b : Bool) : ∃ q, (trainPort s p b).train.take 8 =
    trainHeader (trainMode (port s p) b (nextCmd (port s p) b)) ((port s p).latch && (trainPort s p b).mf = 0) (port s p).rdiv (trainPort s p b).mf q
      ((trainPort s p b).train.length - 8) (s.lp.cycle.toNat % 256) := by
  refine ⟨quota (trainStart s p b).1 p b (trainBytes s p b).length, ?_⟩
  rw [(train_bytes s p b).2, Nat.add_sub_cancel_left]
  exact List.take_left' (trainHeader_length ..)

theorem nextCmd_free {x : Port} {c : NodeCmd} (h : nextCmd x b = some c) : sentOn x b = none := by
  unfold nextCmd at h
  split at h
  · cases h
  next hs => simpa using hs

/-- A train without a command. -/
theorem train_idle (h : nextCmd (port s p) b = none) : (trainPort s p b).train.length = 8 ∧ (trainPort s p b).queue = (port s p).queue ∧
    (trainPort s p b).seq = (port s p).seq ∧ (sendTrain s p b).lp.nodes = s.lp.nodes ∧
    sentOn (trainPort s p b) b = (sentOn (port s p) b).map fun k => { k with trains := k.trains + 1 } := by
  have hstart : trainStart s p b = (s, bcastCmd b 0 [] 0) := by
    unfold trainStart
    rw [h]
  have hbytes : trainBytes s p b = [] := by
    unfold trainBytes
    rw [h]
    rfl
  have hqueue : (trainPort s p b).queue = (port s p).queue.eraseP fun k => (nextCmd (port s p) b).isSome && decide (k.chainB = b) := rfl
  have hseq : (trainPort s p b).seq = if (nextCmd (port s p) b).isSome then (port s p).seq + 1 else (port s p).seq := rfl
  refine ⟨?_, ?_, ?_, ?_, ?_⟩
  · rw [(train_bytes s p b).2, hbytes]
    rfl
  · rw [hqueue, h]
    exact List.eraseP_of_forall_not fun _ _ => Bool.false_ne_true
  · rw [hseq, h]
    rfl
  · rw [sendTrain_eq, hstart]
    rfl
  · rw [(sentOn_trainPort s p b).1]
    unfold trainSent
    rw [h]
    rfl

/-- A challenge changes the command's parameter only. -/
theorem cmdChallenge_fresh {c : NodeCmd} (hn : c.ncmd = 6) (hs : c.sends = 0) : ∃ ch o,
    (node (cmdChallenge s p c).1 (32 * p + c.pos)).challenge = some (ch, o) ∧ (cmdChallenge s p c).2 = { c with param := leBytes 16 ch.toNat } := by
  unfold cmdChallenge
  rw [hn, hs]
  exact ⟨_, _, congrArg Node.challenge (node_setNode_self ..), rfl⟩

theorem cmdChallenge_other {c : NodeCmd} (h : c.ncmd ≠ 6 ∨ c.sends ≠ 0) : cmdChallenge s p c = (s, c) := by
  refine if_neg fun hx => ?_
  simp only [Bool.and_eq_true, decide_eq_true_eq] at hx
  omega

theorem cmdChallenge_bcast (s : State) (p : Nat) (c : NodeCmd) : (cmdChallenge s p c).2.bcast = c.bcast := by
  unfold cmdChallenge
  split <;> rfl

/-- A train with a command. -/
theorem train_command {c : NodeCmd} (h : nextCmd (port s p) b = some c) :
    (trainPort s p b).queue = (port s p).queue.eraseP (fun k => k.chainB = b) ∧ (trainPort s p b).seq = (port s p).seq + 1 ∧
    (c.bcast = true → sentOn (trainPort s p b) b = none) ∧
    ((c.ncmd ≠ 6 ∨ c.sends ≠ 0) → (trainPort s p b).train.drop 8 = cmdBytes c (port s p).seq ∧
      (c.bcast = false → sentOn (trainPort s p b) b = some { cmd := { c with sends := c.sends + 1 }, seq := (port s p).seq, trains := 0 })) ∧
    (c.ncmd = 6 → c.sends = 0 → ∃ ch o, (node (sendTrain s p b) (32 * p + c.pos)).challenge = some (ch, o) ∧
      (trainPort s p b).train.drop 8 = cmdBytes { c with param := leBytes 16 ch.toNat } (port s p).seq) := by
  have hstart : trainStart s p b = cmdChallenge s p c := by
    unfold trainStart
    rw [h]
  have hbytes : trainBytes s p b = cmdBytes (cmdChallenge s p c).2 (port s p).seq := by
    unfold trainBytes
    rw [h, hstart]
    rfl
  have hsent : trainSent s p b = if !c.bcast then
      some { cmd := { (cmdChallenge s p c).2 with sends := (cmdChallenge s p c).2.sends + 1 }, seq := (port s p).seq, trains := 0 } else none := by
    unfold trainSent
    rw [h, hstart, cmdChallenge_bcast, nextCmd_free h]
    rfl
  have hqueue : (trainPort s p b).queue = (port s p).queue.eraseP fun k => (nextCmd (port s p) b).isSome && decide (k.chainB = b) := rfl
  have hseq : (trainPort s p b).seq = if (nextCmd (port s p) b).isSome then (port s p).seq + 1 else (port s p).seq := rfl
  rw [(sentOn_trainPort s p b).1, (train_bytes s p b).1, hbytes, hsent]
  refine ⟨?_, ?_, fun hb => ?_, fun ho => ⟨?_, fun hb => ?_⟩, fun hn hs => ?_⟩
  · rw [hqueue, h]
    rfl
  · rw [hseq, h]
    rfl
  · rw [hb]
    rfl
  · rw [cmdChallenge_other ho]
  · rw [cmdChallenge_other ho]
    exact if_pos (by rw [hb]; rfl)
  · obtain ⟨ch, o, hch, hcmd⟩ := cmdChallenge_fresh (s := s) (p := p) hn hs
    refine ⟨ch, o, ?_, by rw [hcmd]⟩
    rw [sendTrain_eq, hstart]
    exact hch

/-- The statement on trains. -/
theorem microframeTrain_cases (s : State) (p : Fin 16) (b : Bool) (hr : rootAlive s = true) (hon : portOn s p.val = true)
    (hrun : portRuns s p.val = true ∨ (port s p.val).mode = 3 ∨ (port s p.val).mode = 4) (hstage : ∀ e, (port s p.val).enum = some e → e.stage ≠ 2)
    (htwo : b = true → twoChains (port s p.val) = true) : exec (.microframeTrain p b) s = .next (sendTrain s p.val b) := by
  have hmode : (portRuns s p.val || decide ((port s p.val).mode = 3) || decide ((port s p.val).mode = 4)) = true := by
    rcases hrun with h | h | h <;> simp [h]
  have hchain : (!b || twoChains (port s p.val)) = true := by
    cases b with
    | false => rfl
    | true => exact htwo rfl
  show execMicroframeTrain p b s = _
  unfold execMicroframeTrain
  dsimp only
  rw [hr, hon, hmode, hchain]
  refine congrArg Host.Outcome.next (if_pos ?_)
  cases he : (port s p.val).enum with
  | none => rfl
  | some e =>
    dsimp only
    rw [decide_eq_false (hstage e he)]
    rfl

end Sys2Proof.Machine
end

section
/-! PROOFS. The statement on the link ports: events of a port, and the returns that drive an enumeration. -/

namespace Sys2Proof.Machine

variable {s t u q : State} {p : Nat}

/-! ### Events of a port (Table 4-16) -/

/-- The detail of EV5 + port. -/
def portDet (t : State) (p kind : Nat) : DWord :=
  let x := port t p
  pack 64 [(0, 3, x.mode), (4, 4, kind), (8, 6, x.nodes), (14, 6, x.na), (20, 6, x.nb), (26, 1, b2n x.countMismatch),
    (27, 1, b2n x.hopLimit), (28, 1, b2n x.excess), (32, 32, x.missing.toNat)]

theorem port_of_lp (h : t.lp = s.lp) (p : Nat) : port t p = port s p := by
  unfold port
  rw [h]

theorem node_of_lp (h : t.lp = s.lp) (a : Nat) : node t a = node s a := by
  unfold node
  rw [h]

theorem ev5_lp (s : State) (p kind : Nat) : (ev5 s p kind).lp = s.lp := raise_lp ..

/-- At most the state of the link ports differs. -/
def OnlyLp (s t : State) : Prop := t = { s with lp := t.lp }

theorem OnlyLp.trans (h1 : OnlyLp s t) (h2 : OnlyLp t u) : OnlyLp s u := by
  unfold OnlyLp at *
  rw [h2, h1]

theorem OnlyLp.sameBytes (h : OnlyLp s t) : SameBytes s t := by
  unfold OnlyLp at h
  rw [h]
  exact .of_mem rfl rfl rfl

/-- An event of a port carries what the port then shows. -/
theorem ev5_told (h : OnlyLp s q) (p kind : Nat) : EventRaised s (ev5 q p kind) (5 + p) (portDet (ev5 q p kind) p kind) := by
  have hdet : portDet (ev5 q p kind) p kind = portDet q p kind := by
    unfold portDet
    rw [port_of_lp (ev5_lp q p kind)]
  have hq : q.evr = s.evr ∧ q.pwr = s.pwr ∧ q.flt = s.flt ∧ q.regs = s.regs ∧ q.otp = s.otp := by
    unfold OnlyLp at h
    rw [h]
    exact ⟨rfl, rfl, rfl, rfl, rfl⟩
  obtain ⟨hevr, hpwr, hflt, hregs, hotp⟩ := hq
  rw [hdet]
  exact EventRaised.of_writes (routes_congr (by rw [hevr]) hpwr hflt).symm (evMasked_congr hregs hotp).symm (raise_eventRaised ..)

/-! ### What leaves the commands of the ports -/

/-- The commands that wait at the link ports are the same, and other ports are. -/
structure LinkLeft (p : Nat) (s t : State) : Prop where
  jobs : t.lp.jobs = s.lp.jobs
  wait : t.lp.wait = s.lp.wait
  others : ∀ j, j ≠ p → port t j = port s j

theorem LinkLeft.refl (p : Nat) (s : State) : LinkLeft p s s := ⟨rfl, rfl, fun _ _ => rfl⟩

theorem LinkLeft.trans (h1 : LinkLeft p s t) (h2 : LinkLeft p t u) : LinkLeft p s u :=
  ⟨h2.jobs.trans h1.jobs, h2.wait.trans h1.wait, fun j hj => (h2.others j hj).trans (h1.others j hj)⟩

theorem setPort_linkLeft (s : State) (p : Nat) (x : Port) : LinkLeft p s (setPort s p x) :=
  ⟨rfl, rfl, fun j hj => by rw [port_setPort, if_neg fun h => hj h.1.symm]⟩

theorem port_setPort_self (hp : p < 16) (s : State) (x : Port) : port (setPort s p x) p = x := by rw [port_setPort, if_pos ⟨rfl, hp⟩]

theorem setPort_onlyLp (s : State) (p : Nat) (x : Port) : OnlyLp s (setPort s p x) := rfl

theorem portRates_left (p : Nat) (s : State) : OnlyLp s (portRates p s) ∧ LinkLeft p s (portRates p s) ∧ (portRates p s).lp.nodes = s.lp.nodes := by
  obtain ⟨qa, qb, r, b, h⟩ := portRates_eq p s
  rw [h]
  exact ⟨setPort_onlyLp .., setPort_linkLeft .., rfl⟩

/-- New rates leave the rest of the port. -/
theorem portRates_port (hp : p < 16) (s : State) : ∃ qa qb r b, port (portRates p s) p =
    { port s p with quotaA := qa, quotaB := qb, rdiv := r, rdivShort := b } := by
  obtain ⟨qa, qb, r, b, h⟩ := portRates_eq p s
  exact ⟨qa, qb, r, b, by rw [h, port_setPort_self hp]⟩

theorem enumDone_idle (h : s.lp.wait = none) : enumDone s p = s := by
  unfold enumDone
  rw [h]

/-! ### Returns (R158, R173, R187) -/

/-- What a return does to the ports. -/
def returned (s : State) (n : Nat) (r : LinkReturn) : State :=
  match r with
  | .lock whole => enumLock s n whole
  | .count k => enumCount s n k
  | .discovery na nb => discovered s n na nb
  | .echo chainB rt => echoReturn s n chainB rt
  | .segment rd syms => segmentIn s n rd syms
  | .silent pos => segmentMissing s (32 * n + pos.val)
  | .badHeader => setPort s n { port s n with crcErrs := satInc (port s n).crcErrs }

theorem exec_segmentReceived {p : Fin 16} {r : LinkReturn} (hr : rootAlive s = true) (hon : portOn s p.val = true) (hm : (port s p.val).mode ≠ 0)
    (hj : (returned s p.val r).lp.jobs = []) : exec (.segmentReceived p r) s = .next (returned s p.val r) := by
  have hgo : exec (.segmentReceived p r) s = .next (linkGo (returned s p.val r)) := by
    refine congrArg Host.Outcome.next (if_neg ?_)
    rw [hr, hon, decide_eq_false hm]
    exact Bool.false_ne_true
  rw [hgo, linkGo_idle hj]

/-- The form of an answer to a return. -/
theorem returned_answers {p : Fin 16} {r : LinkReturn} {P : State → Prop} (hr : rootAlive s = true) (hon : portOn s p.val = true)
    (hm : (port s p.val).mode ≠ 0) (hj : (returned s p.val r).lp.jobs = []) (h : P (returned s p.val r)) : Answers (.segmentReceived p r) s P :=
  ⟨_, exec_segmentReceived hr hon hm hj, h⟩

/-! ### The stages of an enumeration (Table 4-12) -/

theorem stageBusy_of_mem {x : Port} {c : NodeCmd} (hc : c ∈ x.queue) (hw : c.why = 1) : stageBusy x = true := by
  unfold stageBusy
  have hany : x.queue.any (fun c => decide (c.why = 1) || decide (c.why = 9)) = true := List.any_eq_true.mpr ⟨c, hc, by rw [hw]; rfl⟩
  dsimp only
  rw [hany]
  rfl

theorem stageNext_busy (h : stageBusy (port s p) = true) : stageNext s p = s := by
  unfold stageNext
  dsimp only
  cases (port s p).enum with
  | none => rfl
  | some e =>
    dsimp only
    exact if_pos h

theorem stageRun_busy (h : stageBusy (port s p) = true) : ∀ n, stageRun n p s = s
  | 0 => rfl
  | n + 1 => by
    unfold stageRun
    rw [stageNext_busy h]
    exact stageRun_busy h n

theorem stages_busy (h : stageBusy (port s p) = true) : stages s p = s := stageRun_busy h 5

/-- A node that has its address (R184). -/
def addressed (n : Node) : Option Bool → Node
  | none => n
  | some b => { n with present := true, chainB := b }

/-- One position is addressed. -/
def addressOne (p : Nat) (f : Nat → Option Bool) (k : Nat) (q : State) : State :=
  match f k with
  | none => q
  | some b => setNode q (32 * p + k) { node q (32 * p + k) with present := true, chainB := b }

theorem addressNodes_eq (s : State) (p : Nat) (f : Nat → Option Bool) : addressNodes s p f = forUpTo 32 (addressOne p f) s := rfl

theorem addressOne_node (q : State) (p : Nat) (f : Nat → Option Bool) (k a : Nat) : node (addressOne p f k q) a =
    if a = 32 * p + k then addressed (node q (32 * p + k)) (f k) else node q a := by
  unfold addressOne
  cases f k with
  | none =>
    dsimp only
    split
    next h =>
      rw [h]
      rfl
    · rfl
  | some b =>
    dsimp only
    split
    next h =>
      rw [h, node_setNode_self]
      rfl
    next h => rw [node_setNode_other _ _ _ _ h]

theorem addressNodes_node (s : State) (p : Nat) (f : Nat → Option Bool) {i : Nat} (hi : i < 32) :
    node (addressNodes s p f) (32 * p + i) = addressed (node s (32 * p + i)) (f i) := by
  have h := forUpTo_indexed (n := 32) (s := s) (f := addressOne p f)
    (P := fun m q => ∀ j, node q (32 * p + j) = if j < m then addressed (node s (32 * p + j)) (f j) else node s (32 * p + j))
    (fun _ => rfl) fun m q _ hq j => by
      rw [addressOne_node, hq m, hq j]
      by_cases hj : j = m
      · rw [hj, if_pos rfl, if_neg (Nat.lt_irrefl m), if_pos (Nat.lt_succ_self m)]
      · have hne : ¬ 32 * p + j = 32 * p + m := by omega
        have hlt : j < m + 1 ↔ j < m := by omega
        simp only [hne, hlt, if_false]
  rw [addressNodes_eq, h i, if_pos hi]

theorem addressNodes_left (s : State) (p : Nat) (f : Nat → Option Bool) : ∃ ns, addressNodes s p f = { s with lp := { s.lp with nodes := ns } } := by
  refine forUpTo_induct (P := fun q => ∃ ns, q = { s with lp := { s.lp with nodes := ns } }) 32 ⟨s.lp.nodes, rfl⟩ fun i q _ hq => ?_
  obtain ⟨ns, hq⟩ := hq
  cases f i with
  | none => exact ⟨ns, hq⟩
  | some b => exact ⟨Sparse.set q.lp.nodes (32 * p + i) { node q (32 * p + i) with present := true, chainB := b }, by rw [hq]; rfl⟩

theorem addressNodes_kept (s : State) (p : Nat) (f : Nat → Option Bool) : OnlyLp s (addressNodes s p f) ∧ LinkLeft p s (addressNodes s p f) ∧
    port (addressNodes s p f) p = port s p := by
  obtain ⟨ns, h⟩ := addressNodes_left s p f
  rw [h]
  exact ⟨rfl, ⟨rfl, rfl, fun _ _ => rfl⟩, rfl⟩

/-! ### A failed enumeration (R188) -/

theorem enumFail_fails (hp : p < 16) (hw : s.lp.wait = none) : let t := enumFail s p
    (port t p).mode = 0 ∧ (port t p).enum = none ∧ (port t p).countMismatch = (port s p).countMismatch ∧
    (port t p).hopLimit = (port s p).hopLimit ∧ (∀ b, sentOn (port t p) b = none) ∧ (∀ a, node t a = node s a) ∧
    t.lp.jobs = s.lp.jobs ∧ ∀ r, OnlyLp r s → EventRaised r t (5 + p) (portDet t p 2) := by
  intro t
  let y : Port := { port s p with mode := 0, enum := none, queue := [], sentA := none, sentB := none }
  let f : State := portRates p (setPort s p y)
  have hleft : LinkLeft p s f := (setPort_linkLeft s p y).trans (portRates_left p _).2.1
  have ht : t = ev5 f p 2 := enumDone_idle ((congrArg Links.wait (ev5_lp f p 2)).trans (hleft.wait.trans hw))
  have hlp : t.lp = f.lp := by
    rw [ht]
    exact ev5_lp f p 2
  have hport : ∃ qa qb r b, port t p = { y with quotaA := qa, quotaB := qb, rdiv := r, rdivShort := b } := by
    rw [port_of_lp hlp, ← port_setPort_self hp s y]
    exact portRates_port hp _
  have honly : OnlyLp s f := (setPort_onlyLp s p y).trans (portRates_left p _).1
  have hnodes : f.lp.nodes = s.lp.nodes := (portRates_left p (setPort s p y)).2.2
  obtain ⟨qa, qb, r, b, hport⟩ := hport
  refine ⟨?_, ?_, ?_, ?_, ?_, fun a => ?_, ?_, fun r hr => ?_⟩
  · rw [hport]
  · rw [hport]
  · rw [hport]
  · rw [hport]
  · intro c
    rw [hport]
    cases c <;> rfl
  · rw [node_of_lp hlp]
    unfold node
    rw [hnodes]
  · rw [hlp]
    exact hleft.jobs
  · rw [ht]
    exact ev5_told (hr.trans honly) p 2

end Sys2Proof.Machine
end

section
/-! PROOFS. The statement on the link ports: the returns of an enumeration. -/

namespace Sys2Proof.Machine

variable {s t u q : State} {p : Nat}

/-! ### Lock (Table 4-12 step 2) -/

theorem enumLock_waits {e : EnumState} (hp : p < 16) (w : Bool) (he : (port s p).enum = some e) (h2 : e.stage = 2) : let t := enumLock s p w
    (port t p).enum = some { e with stage := 4, whole := w } ∧ (port t p).queue = bcastCmd false 0x01 [] 1 ::
      [if w then cmdEnumerate false false 0 0 false 1 else bcastCmd true 0x01 [] 1] ∧ LinkLeft p s t ∧ SameBytes s t := by
  intro t
  have ht : t = setPort s p { port s p with
      enum := some { e with stage := 4, whole := w }
      queue := bcastCmd false 0x01 [] 1 :: [if w then cmdEnumerate false false 0 0 false 1 else bcastCmd true 0x01 [] 1] } := by
    unfold t enumLock
    dsimp only
    rw [he]
    dsimp only
    rw [if_neg (by rw [h2]; exact fun h => h rfl)]
    cases w <;> rfl
  rw [ht, port_setPort_self hp]
  exact ⟨rfl, rfl, setPort_linkLeft .., (setPort_onlyLp ..).sameBytes⟩

/-! ### COUNT (Table 4-12 step 4) -/

/-- The nodes that a port shows for a count. -/
def counted (c : Nat) : Nat := if c < 32 then c else 32

/-- The port that has its count. -/
def countPort (s : State) (p c : Nat) : Port :=
  let ex := fld s (0x3100 + 0x40 * p) 0 6
  { port s p with nodes := counted c, excess := decide (32 < c), countMismatch := decide (ex ≠ 0) && decide (ex ≠ counted c) }

/-- The nodes of a counted ring are addressed. -/
def countNodes (s : State) (p c : Nat) (e : EnumState) : State :=
  addressNodes (setPort s p { countPort s p c with na := counted c, span := counted c, enum := some { e with stage := 5 } }) p
    fun i => if i < counted c then some false else none

theorem enumCount_eq {e : EnumState} (c : Nat) (he : (port s p).enum = some e) (h4 : e.stage = 4) (hw : e.whole = true) : enumCount s p c =
    if (countPort s p c).countMismatch then enumFail (setPort s p (countPort s p c)) p
    else stages (enq (countNodes s p c e) p ((List.range (counted c)).map fun i => nodeCmd (countNodes s p c e) (32 * p + i) 0x03 [] 1)) p := by
  unfold enumCount
  extract_lets x
  split
  next hx => rw [he] at hx; cases hx
  next e' hx =>
    obtain rfl : e = e' := Option.some.inj (he.symm.trans hx)
    exact if_neg (by rw [h4, hw]; exact Bool.false_ne_true)

theorem enumCount_mismatch {e : EnumState} {c : Nat} (hp : p < 16) (hwait : s.lp.wait = none) (he : (port s p).enum = some e) (h4 : e.stage = 4)
    (hw : e.whole = true) (h0 : fld s (0x3100 + 0x40 * p) 0 6 ≠ 0) (hk : fld s (0x3100 + 0x40 * p) 0 6 ≠ counted c) : let t := enumCount s p c
    (port t p).mode = 0 ∧ (port t p).countMismatch = true ∧ (port t p).enum = none ∧ t.lp.jobs = s.lp.jobs ∧
    EventRaised s t (5 + p) (portDet t p 2) := by
  intro t
  have hmis : (countPort s p c).countMismatch = true := by
    show (decide _ && decide _) = true
    rw [decide_eq_true h0, decide_eq_true hk]
    rfl
  have ht : t = enumFail (setPort s p (countPort s p c)) p := (enumCount_eq c he h4 hw).trans (if_pos hmis)
  obtain ⟨hmode, henum, hcm, -, -, -, hjobs, hev⟩ := enumFail_fails (s := setPort s p (countPort s p c)) hp hwait
  rw [ht]
  refine ⟨hmode, ?_, henum, hjobs, hev s (setPort_onlyLp ..)⟩
  rw [hcm, port_setPort_self hp]
  exact hmis

theorem enumCount_counted {e : EnumState} {c : Nat} (hp : p < 16) (he : (port s p).enum = some e) (h4 : e.stage = 4) (hw : e.whole = true)
    (hk : fld s (0x3100 + 0x40 * p) 0 6 = 0 ∨ fld s (0x3100 + 0x40 * p) 0 6 = counted c) (hc : 0 < c) : let t := enumCount s p c
    (port t p).nodes = counted c ∧ (port t p).excess = decide (32 < c) ∧ (port t p).enum = some { e with stage := 5 } ∧
    (∀ i, i < counted c → (node t (32 * p + i)).present = true) ∧ SameBytes s t ∧ (port t p).queue = (port s p).queue ++
      (List.range (counted c)).map (fun i => { nodeCmd t (32 * p + i) 0x03 [] 1 with chainB := false }) ∧ t.lp.jobs = s.lp.jobs := by
  intro t
  let q := countNodes s p c e
  let x : Port := { countPort s p c with na := counted c, span := counted c, enum := some { e with stage := 5 } }
  have hlow : counted c ≤ 32 ∧ 0 < counted c := by
    unfold counted
    split <;> omega
  have hmis : (countPort s p c).countMismatch = false := by
    show (decide _ && decide _) = false
    rcases hk with h | h <;> rw [h] <;> simp
  obtain ⟨honly, hleft, hport⟩ := addressNodes_kept (setPort s p x) p fun i => if i < counted c then some false else none
  have hqport : port q p = x := hport.trans (port_setPort_self hp s x)
  have hnode : ∀ i, i < counted c → node q (32 * p + i) = { node s (32 * p + i) with present := true, chainB := false } := fun i hi => by
    refine (addressNodes_node (setPort s p x) p (fun i => if i < counted c then some false else none) (by omega)).trans ?_
    dsimp only
    rw [if_pos hi]
    rfl
  have hqueue : (port (enq q p ((List.range (counted c)).map fun i => nodeCmd q (32 * p + i) 0x03 [] 1)) p).queue =
      (port s p).queue ++ (List.range (counted c)).map fun i => nodeCmd q (32 * p + i) 0x03 [] 1 := by
    rw [port_enq_self hp, hqport]
    rfl
  have ht : t = enq q p ((List.range (counted c)).map fun i => nodeCmd q (32 * p + i) 0x03 [] 1) := by
    refine (enumCount_eq c he h4 hw).trans ((if_neg (ne_true_of_eq_false hmis)).trans (stages_busy ?_))
    refine stageBusy_of_mem (c := nodeCmd q (32 * p + 0) 0x03 [] 1) ?_ rfl
    refine hqueue ▸ List.mem_append_right _ ?_
    exact List.mem_map.mpr ⟨0, List.mem_range.mpr hlow.2, rfl⟩
  have hself : port (enq q p ((List.range (counted c)).map fun i => nodeCmd q (32 * p + i) 0x03 [] 1)) p =
      { x with queue := x.queue ++ (List.range (counted c)).map fun i => nodeCmd q (32 * p + i) 0x03 [] 1 } := by
    unfold enq
    rw [port_setPort_self hp, hqport]
  have hnodes : ∀ a, node t a = node q a := fun a => by
    rw [ht]
    rfl
  refine ⟨?_, ?_, ?_, fun i hi => ?_, ?_, ?_, ?_⟩
  · rw [ht, hself]
    rfl
  · rw [ht, hself]
    rfl
  · rw [ht, hself]
  · rw [hnodes, hnode i hi]
  · rw [ht]
    exact (((setPort_onlyLp s p x).trans honly).trans (setPort_onlyLp q p _)).sameBytes
  · rw [ht, hqueue]
    refine congrArg _ (List.map_congr_left fun i hi => ?_)
    have hchain : (node q (32 * p + i)).chainB = false := by rw [hnode i (List.mem_range.mp hi)]
    unfold nodeCmd
    rw [hchain]
  · rw [ht]
    exact hleft.jobs

/-! ### Discovery from both ends (Table 4-12 step 4) -/

/-- The nodes of both chains are addressed, `na` from pair A and `nb` from pair B. -/
def bothNodes (s : State) (p na nb : Nat) (e : EnumState) : State :=
  addressNodes (setPort s p { port s p with nodes := na + nb, na := na, nb := nb, span := na + nb, excess := decide (32 < na + nb), enum := some { e with stage := 5 } }) p
    fun i => if i < na then some false else if na + nb ≤ i + nb && i < na + nb then some true else none

theorem discovered_eq {e : EnumState} {na nb : Nat} (he : (port s p).enum = some e) (h4 : e.stage = 4) (hw : e.whole = false)
    (hr : e.recovery = false) (h0 : fld s (0x3100 + 0x40 * p) 0 6 = 0) (hn : na + nb ≤ 32) : discovered s p na nb =
    stages (enq (bothNodes s p na nb e) p (cmdEnumerate false false 0 0 false 1 :: cmdEnumerate false true 0 (na + nb) true 1 ::
      (measureOrder (bothNodes s p na nb e) p).map fun k => nodeCmd (bothNodes s p na nb e) (32 * p + k) 0x03 [] 1)) p := by
  have hclamp : clampN 0 32 (na + nb) = na + nb := by
    unfold clampN
    rw [if_neg (Nat.not_lt_zero _), if_neg (by omega)]
  have ha : (if na < na + nb then na else na + nb) = na := by split <;> omega
  have hb : (if nb < na + nb - na then nb else na + nb - na) = nb := by split <;> omega
  unfold discovered
  dsimp only
  generalize hx : port s p = x at he
  rw [he]
  dsimp only
  rw [if_neg (by rw [h4, hw]; exact Bool.false_ne_true), if_neg (by rw [hr]; exact Bool.false_ne_true)]
  simp only [h0, if_true, hclamp, ha, hb]
  rw [← hx]
  rfl

theorem discovered_counted {e : EnumState} {na nb : Nat} (hp : p < 16) (he : (port s p).enum = some e) (h4 : e.stage = 4) (hw : e.whole = false)
    (hr : e.recovery = false) (h0 : fld s (0x3100 + 0x40 * p) 0 6 = 0) (hn : na + nb ≤ 32) : let t := discovered s p na nb
    (port t p).na = na ∧ (port t p).nb = nb ∧ (port t p).nodes = na + nb ∧ (port t p).enum = some { e with stage := 5 } ∧
    (∀ i, i < na + nb → (node t (32 * p + i)).present = true ∧ (node t (32 * p + i)).chainB = decide (na ≤ i)) ∧ t.lp.jobs = s.lp.jobs := by
  intro t
  let q := bothNodes s p na nb e
  let cs := cmdEnumerate false false 0 0 false 1 :: cmdEnumerate false true 0 (na + nb) true 1 ::
    (measureOrder q p).map fun k => nodeCmd q (32 * p + k) 0x03 [] 1
  let x : Port := { port s p with nodes := na + nb, na := na, nb := nb, span := na + nb, excess := decide (32 < na + nb), enum := some { e with stage := 5 } }
  let f : Nat → Option Bool := fun i => if i < na then some false else if na + nb ≤ i + nb && i < na + nb then some true else none
  obtain ⟨-, hleft, hport⟩ := addressNodes_kept (setPort s p x) p f
  have hqport : port q p = x := hport.trans (port_setPort_self hp s x)
  have hself : port (enq q p cs) p = { x with queue := x.queue ++ cs } := by
    unfold enq
    rw [port_setPort_self hp, hqport]
  have ht : t = enq q p cs := by
    refine (discovered_eq he h4 hw hr h0 hn).trans (stages_busy (stageBusy_of_mem (c := cmdEnumerate false false 0 0 false 1) ?_ rfl))
    exact hself ▸ List.mem_append_right _ List.mem_cons_self
  have hf : ∀ i, i < na + nb → f i = some (decide (na ≤ i)) := fun i hi => by
    show (if i < na then some false else _) = _
    by_cases hlt : i < na
    · rw [if_pos hlt, decide_eq_false (Nat.not_le.mpr hlt)]
    · have hb : (decide (na + nb ≤ i + nb) && decide (i < na + nb)) = true := by simp only [Bool.and_eq_true, decide_eq_true_eq]; omega
      rw [if_neg hlt, if_pos hb, decide_eq_true (Nat.not_lt.mp hlt)]
  have hnode : ∀ i, i < na + nb → node t (32 * p + i) = { node s (32 * p + i) with present := true, chainB := decide (na ≤ i) } := fun i hi => by
    rw [ht]
    refine (addressNodes_node (setPort s p x) p f (by omega)).trans ?_
    rw [hf i hi]
    rfl
  rw [show port t p = _ from ht ▸ hself]
  refine ⟨rfl, rfl, rfl, rfl, fun i hi => ?_, ?_⟩
  · rw [hnode i hi]
    exact ⟨rfl, rfl⟩
  · rw [ht]
    exact hleft.jobs

end Sys2Proof.Machine
end

section
/-! PROOFS. The statement on the link ports: the turned-back train of an ECHO. -/

namespace Sys2Proof.Machine

variable {s t u q : State} {p : Nat}

/-! ### What the stages leave (Table 4-12) -/

/-- The measured delays and the commands that await a response on port `p` are the same. -/
structure SentKept (p : Nat) (s t : State) : Prop where
  jobs : t.lp.jobs = s.lp.jobs
  delay : ∀ a, (node t a).delay = (node s a).delay
  sent : ∀ b, sentOn (port t p) b = sentOn (port s p) b

theorem SentKept.refl (p : Nat) (s : State) : SentKept p s s := ⟨rfl, fun _ => rfl, fun _ => rfl⟩

theorem SentKept.trans (h1 : SentKept p s t) (h2 : SentKept p t u) : SentKept p s u :=
  ⟨h2.jobs.trans h1.jobs, fun a => (h2.delay a).trans (h1.delay a), fun b => (h2.sent b).trans (h1.sent b)⟩

theorem sentKept_of_lp (h : t.lp = s.lp) : SentKept p s t :=
  ⟨by rw [h], fun a => by rw [node_of_lp h], fun b => by rw [port_of_lp h]⟩

theorem setPort_sentKept (s : State) (p : Nat) {j : Nat} {x : Port} (h : ∀ b, sentOn x b = sentOn (port s j) b) : SentKept p s (setPort s j x) := by
  refine ⟨rfl, fun _ => rfl, fun b => ?_⟩
  rw [port_setPort]
  split
  next hj => rw [h, hj.1]
  · rfl

theorem enq_sentKept (s : State) (p j : Nat) (cs : List NodeCmd) : SentKept p s (enq s j cs) := setPort_sentKept s p fun b => by cases b <;> rfl

theorem takeEntry_lp (s : State) (c : Nat) : (takeEntry s c).1.lp = s.lp := by
  unfold takeEntry
  dsimp only
  split
  · rfl
  · split
    · rfl
    · split
      · rfl
      · split
        · rfl
        · exact raise_lp ..

theorem seeAll_lp (cs : List Nat) (s : State) : (seeAll cs s).lp = s.lp := forEach_same State.lp cs s fun c q => takeEntry_lp q c

theorem cmdTiming_sentKept (s : State) (p a why : Nat) : SentKept p s (cmdTiming s a why).1 := by
  refine ⟨rfl, fun b => ?_, fun _ => rfl⟩
  unfold cmdTiming
  dsimp only
  by_cases h : b = a
  · rw [h, node_setNode_self]
  · rw [node_setNode_other _ _ _ _ h]

/-- The timing commands of the positions `l`, behind those of `r`. -/
def timings (p why : Nat) (l : List Nat) (r : State × List NodeCmd) : State × List NodeCmd :=
  l.foldl (fun a k => ((cmdTiming a.1 (32 * p + k) why).1, a.2 ++ [(cmdTiming a.1 (32 * p + k) why).2])) r

theorem timings_sentKept (j why p : Nat) : ∀ (l : List Nat) (r : State × List NodeCmd), SentKept p r.1 (timings j why l r).1
  | [], r => SentKept.refl p r.1
  | k :: l, r => (cmdTiming_sentKept r.1 p (32 * j + k) why).trans (timings_sentKept j why p l ((cmdTiming r.1 (32 * j + k) why).1, r.2 ++ [(cmdTiming r.1 (32 * j + k) why).2]))

/-- The next stage is entered with its commands. -/
def stageGo (q : State) (p : Nat) (e : EnumState) (st : Nat) (cs : List NodeCmd) : State :=
  setPort q p { port q p with enum := some { e with stage := st }, queue := cs ++ (port q p).queue }

theorem stageGo_sentKept (q : State) (p j : Nat) (e : EnumState) (st : Nat) (cs : List NodeCmd) : SentKept p q (stageGo q j e st cs) :=
  setPort_sentKept q p fun b => by cases b <;> rfl

theorem stageNext_sentKept (s : State) (p : Nat) : SentKept p s (stageNext s p) := by
  unfold stageNext
  extract_lets x
  split
  · exact SentKept.refl p s
  next e _ =>
    extract_lets why go order
    split
    · exact SentKept.refl p s
    · split
      · exact stageGo_sentKept s p p e 6 _
      · exact (timings_sentKept p why p (measureOrder s p) (s, [])).trans (stageGo_sentKept _ p p e 7 _)
      · split
        · split
          · exact setPort_sentKept s p fun b => by cases b <;> rfl
          · exact stageGo_sentKept s p p e 9 []
        · exact (sentKept_of_lp (seeAll_lp ..)).trans (stageGo_sentKept _ p p e 8 _)
      · exact stageGo_sentKept s p p e 9 []
      · exact SentKept.refl p s

theorem stageRun_sentKept (p : Nat) : ∀ (n : Nat) (s : State), SentKept p s (stageRun n p s)
  | 0, s => SentKept.refl p s
  | n + 1, s => (stageNext_sentKept s p).trans (stageRun_sentKept p n (stageNext s p))

theorem stages_sentKept (s : State) (p : Nat) : SentKept p s (stages s p) := stageRun_sentKept p 5 s

theorem restoreRest_sentKept (s : State) (p a : Nat) : SentKept p s (restoreRest s a) :=
  ((sentKept_of_lp (seeAll_lp (tapChannels s a) s)).trans (cmdTiming_sentKept _ p a 2)).trans (enq_sentKept ..)

/-! ### ECHO (R190) -/

/-- The delay of half a round trip. -/
def echoDelay (rt : Nat) : Nat := (roundDiv ((rt : Int) - 320) 2).toNat

/-- The node's delay is known, and its command is answered. -/
def echoed (s : State) (p : Nat) (b : Bool) (k : SentCmd) (rt : Nat) : State :=
  setNode (setPort s p (setSent (port s p) b none)) (32 * p + k.cmd.pos)
    { node s (32 * p + k.cmd.pos) with delay := BitVec.ofNat 16 (echoDelay rt) }

/-- The delay of the node measured before `k` from the same end. -/
def delayBefore (s : State) (p k : Nat) : Nat :=
  match nodeBefore s p k with | some i => (node s (32 * p + i)).delay.toNat | none => 0

theorem echoReturn_eq {b : Bool} {k : SentCmd} (rt : Nat) (h : sentOn (port s p) b = some k) (hn : k.cmd.ncmd = 4) : echoReturn s p b rt =
    if k.cmd.why = 2 then restoreRest (echoed s p b k rt) (32 * p + k.cmd.pos)
    else if k.cmd.why = 1 && 125 < echoDelay rt - delayBefore (echoed s p b k rt) p k.cmd.pos then
      enumFail (setPort (echoed s p b k rt) p { port (echoed s p b k rt) p with hopLimit := true }) p
    else stages (echoed s p b k rt) p := by
  unfold echoReturn
  dsimp only
  rw [h]
  exact if_neg fun hne => hne hn

theorem echoed_facts {b : Bool} {k : SentCmd} (hp : p < 16) (rt : Nat) :
    (node (echoed s p b k rt) (32 * p + k.cmd.pos)).delay = BitVec.ofNat 16 (echoDelay rt) ∧ sentOn (port (echoed s p b k rt) p) b = none ∧
    (echoed s p b k rt).lp.jobs = s.lp.jobs ∧ (echoed s p b k rt).lp.wait = s.lp.wait := by
  refine ⟨?_, ?_, rfl, rfl⟩
  · unfold echoed
    rw [node_setNode_self]
  · unfold echoed
    rw [port_setNode, port_setPort_self hp]
    exact (sentOn_setSent ..).1

/-- A delay does not change the order of measurement. -/
theorem nodeBefore_echoed (s : State) {b : Bool} {k : SentCmd} (rt : Nat) (i : Nat) : nodeBefore (echoed s p b k rt) p i = nodeBefore s p i := by
  have hnode : ∀ a, (node (echoed s p b k rt) a).present = (node s a).present ∧ (node (echoed s p b k rt) a).chainB = (node s a).chainB := fun a => by
    unfold echoed
    by_cases h : a = 32 * p + k.cmd.pos
    · rw [h, node_setNode_self]
      exact ⟨rfl, rfl⟩
    · rw [node_setNode_other _ _ _ _ h]
      exact ⟨rfl, rfl⟩
  have hmiss : (port (echoed s p b k rt) p).missing = (port s p).missing := by
    unfold echoed
    rw [port_setNode, port_setPort]
    split
    · cases b <;> rfl
    · rfl
  unfold nodeBefore chainPositions positions
  simp only [(hnode _).1, (hnode _).2, hmiss]

theorem echoReturn_answers {b : Bool} {k : SentCmd} {rt : Nat} (hp : p < 16) (hw : s.lp.wait = none) (h : sentOn (port s p) b = some k)
    (hn : k.cmd.ncmd = 4) : let t := echoReturn s p b rt
    (node t (32 * p + k.cmd.pos)).delay = BitVec.ofNat 16 (echoDelay rt) ∧ sentOn (port t p) b = none ∧
    (k.cmd.why = 1 → nodeBefore s p k.cmd.pos = none → 125 < echoDelay rt → (port t p).mode = 0 ∧ (port t p).hopLimit = true) ∧
    t.lp.jobs = s.lp.jobs := by
  intro t
  obtain ⟨hdelay, hsent, hjobs, hwait⟩ := echoed_facts (s := s) (b := b) (k := k) hp rt
  have ht : t = _ := echoReturn_eq rt h hn
  have hkept : ∀ {t}, SentKept p (echoed s p b k rt) t → (node t (32 * p + k.cmd.pos)).delay = BitVec.ofNat 16 (echoDelay rt) ∧
      sentOn (port t p) b = none ∧ t.lp.jobs = s.lp.jobs := fun hk =>
    ⟨(hk.delay _).trans hdelay, (hk.sent b).trans hsent, hk.jobs.trans hjobs⟩
  rw [ht]
  split
  next h2 =>
    obtain ⟨h3, h4, h5⟩ := hkept (restoreRest_sentKept (echoed s p b k rt) p (32 * p + k.cmd.pos))
    exact ⟨h3, h4, fun h1 => absurd (h1.symm.trans h2) (by decide), h5⟩
  next h2 =>
    split
    next hlong =>
      obtain ⟨hmode, -, -, hhop, hnone, hnode, hj, -⟩ := enumFail_fails
        (s := setPort (echoed s p b k rt) p { port (echoed s p b k rt) p with hopLimit := true }) hp (hwait.trans hw)
      refine ⟨?_, hnone b, fun _ _ _ => ⟨hmode, ?_⟩, hj.trans hjobs⟩
      · rw [hnode]
        exact hdelay
      · rw [hhop, port_setPort_self hp]
    next hshort =>
      obtain ⟨h3, h4, h5⟩ := hkept (stages_sentKept (echoed s p b k rt) p)
      refine ⟨h3, h4, fun h1 hb hl => absurd ?_ hshort, h5⟩
      have hzero : delayBefore (echoed s p b k rt) p k.cmd.pos = 0 := by
        unfold delayBefore
        rw [nodeBefore_echoed, hb]
      rw [h1, hzero, Nat.sub_zero, decide_eq_true hl]
      rfl

end Sys2Proof.Machine
end

section
/-! PROOFS. The statement on the link ports: node segments on a returning train, and their absence. -/

namespace Sys2Proof.Machine

variable {s t u q : State} {p a : Nat}

/-! ### The maps of missing and unsynchronised nodes (R196, R242) -/

theorem nodeRecord_lp (s : State) (a : Nat) (r : Bool) : (nodeRecord s a r).lp = s.lp := by
  unfold nodeRecord
  split
  · exact (tsRecord_onlyReply ..).lp
  · rfl

theorem piJudge_lp (s : State) (a : Nat) : (piJudge s a).lp = s.lp := by
  unfold piJudge
  split <;> rfl

/-- The bit of a node in a map of its port. -/
def mapBit (x : Port) (which k : Nat) : Bool :=
  match which with | 0 => bitOf x.missing k | 1 => bitOf x.unsync k | _ => bitOf x.quarantine k

/-- A port with a node's bit set so. -/
def mapPut (x : Port) (which k : Nat) (v : Bool) : Port :=
  let put := fun (m : BitVec 32) => putBits m k 1 (b2n v)
  match which with
  | 0 => { x with missing := put x.missing }
  | 1 => { x with unsync := put x.unsync }
  | _ => { x with quarantine := put x.quarantine }

theorem setNodeBit_lp (s : State) (a which : Nat) (v : Bool) : (setNodeBit s a which v).lp =
    if mapBit (port s (a / 32)) which (a % 32) = v then s.lp else (setPort s (a / 32) (mapPut (port s (a / 32)) which (a % 32) v)).lp := by
  unfold setNodeBit
  show (if mapBit (port s (a / 32)) which (a % 32) = v then s else _).lp = _
  split
  · rfl
  · refine (nodeRecord_lp ..).trans ?_
    split
    · exact piJudge_lp ..
    · rfl

theorem setNodeBit_nodes (s : State) (a which : Nat) (v : Bool) : (setNodeBit s a which v).lp.nodes = s.lp.nodes ∧
    (setNodeBit s a which v).lp.jobs = s.lp.jobs := by
  rw [setNodeBit_lp]
  split <;> exact ⟨rfl, rfl⟩

theorem node_setNodeBit (s : State) (a which : Nat) (v : Bool) (b : Nat) : node (setNodeBit s a which v) b = node s b := by
  unfold node
  rw [(setNodeBit_nodes s a which v).1]

theorem bitOf_putBits_bit (w : BitVec 32) {k : Nat} (hk : k < 32) (v : Bool) : bitOf (putBits w k 1 (b2n v)) k = v := by
  unfold bitOf
  rw [getLsbD_putBits w k 1 (b2n v) k hk, if_pos ⟨Nat.le_refl k, Nat.lt_succ_self k⟩, Nat.sub_self]
  cases v <;> rfl

theorem mapBit_mapPut (x : Port) (which : Nat) {k : Nat} (hk : k < 32) (v : Bool) : mapBit (mapPut x which k v) which k = v := by
  match which with
  | 0 => exact bitOf_putBits_bit x.missing hk v
  | 1 => exact bitOf_putBits_bit x.unsync hk v
  | n + 2 => exact bitOf_putBits_bit x.quarantine hk v

theorem port_setNodeBit (ha : a / 32 < 16) (s : State) (which : Nat) (v : Bool) : port (setNodeBit s a which v) (a / 32) =
    if mapBit (port s (a / 32)) which (a % 32) = v then port s (a / 32) else mapPut (port s (a / 32)) which (a % 32) v := by
  have h := setNodeBit_lp s a which v
  by_cases hv : mapBit (port s (a / 32)) which (a % 32) = v
  · rw [if_pos hv] at h ⊢
    exact port_of_lp h _
  · rw [if_neg hv] at h ⊢
    exact (port_of_lp h _).trans (port_setPort_self ha ..)

theorem mapBit_setNodeBit (ha : a / 32 < 16) (s : State) (which : Nat) (v : Bool) :
    mapBit (port (setNodeBit s a which v) (a / 32)) which (a % 32) = v := by
  rw [port_setNodeBit ha]
  split
  next h => exact h
  · exact mapBit_mapPut _ which (Nat.mod_lt _ (by omega)) v

theorem nodeMissing_setNodeBit (ha : a / 32 < 16) (s : State) (v : Bool) : nodeMissing (setNodeBit s a 0 v) a = v := mapBit_setNodeBit ha s 0 v

theorem unsynced_setNodeBit (ha : a / 32 < 16) (s : State) (v : Bool) : unsynced (setNodeBit s a 1 v) a = v := mapBit_setNodeBit ha s 1 v

theorem nodeMissing_setNodeBit_unsync (ha : a / 32 < 16) (s : State) (v : Bool) : nodeMissing (setNodeBit s a 1 v) a = nodeMissing s a := by
  unfold nodeMissing
  rw [port_setNodeBit ha]
  split <;> rfl

/-! ### What the sub-blocks of a segment leave (Table 4-6) -/

/-- A node's status and run of absent segments are the same, with its place in the maps of its port. -/
structure SegLeft (a : Nat) (s t : State) : Prop where
  nstat : (node t a).nstat = (node s a).nstat
  silent : (node t a).silent = (node s a).silent
  missing : nodeMissing t a = nodeMissing s a
  unsync : unsynced t a = unsynced s a
  jobs : t.lp.jobs = s.lp.jobs

theorem SegLeft.refl (a : Nat) (s : State) : SegLeft a s s := ⟨rfl, rfl, rfl, rfl, rfl⟩

theorem SegLeft.trans (h1 : SegLeft a s t) (h2 : SegLeft a t u) : SegLeft a s u :=
  ⟨h2.nstat.trans h1.nstat, h2.silent.trans h1.silent, h2.missing.trans h1.missing, h2.unsync.trans h1.unsync, h2.jobs.trans h1.jobs⟩

theorem setNode_segLeft (s : State) (a : Nat) {x : Node} (h1 : x.nstat = (node s a).nstat) (h2 : x.silent = (node s a).silent) :
    SegLeft a s (setNode s a x) := by
  refine ⟨?_, ?_, rfl, rfl, rfl⟩
  · rw [node_setNode_self, h1]
  · rw [node_setNode_self, h2]

theorem setPort_segLeft (s : State) (a p : Nat) {x : Port} (h1 : x.missing = (port s p).missing) (h2 : x.unsync = (port s p).unsync) :
    SegLeft a s (setPort s p x) := by
  refine ⟨rfl, rfl, ?_, ?_, rfl⟩
  · unfold nodeMissing
    rw [port_setPort]
    split
    next h => rw [h1, h.1]
    · rfl
  · unfold unsynced
    rw [port_setPort]
    split
    next h => rw [h2, h.1]
    · rfl

theorem subBlockIn_segLeft (a : Nat) (b : Nat × List Byte) (s : State) : SegLeft a s (subBlockIn a b s) := by
  unfold subBlockIn
  extract_lets n body num
  split
  · split
    · exact setNode_segLeft s a rfl rfl
    · exact SegLeft.refl a s
  · split
    · exact SegLeft.refl a s
    · exact setNode_segLeft s a rfl rfl
  · split
    · exact SegLeft.refl a s
    · refine SegLeft.trans ?_ (setPort_segLeft _ a _ ?_ ?_)
      · exact setNode_segLeft s a rfl rfl
      · rfl
      · rfl
  · split
    · exact SegLeft.refl a s
    · exact setNode_segLeft s a rfl rfl
  · split
    · exact SegLeft.refl a s
    · exact setNode_segLeft s a rfl rfl
  · exact SegLeft.refl a s

theorem forEach_segLeft (l : List (Nat × List Byte)) (a : Nat) (s : State) : SegLeft a s (forEach l (subBlockIn a) s) :=
  forEach_induct (P := SegLeft a s) (SegLeft.refl a s) fun b _ q hq => hq.trans (subBlockIn_segLeft a b q)

/-- Asking for what is missing of a capture puts commands behind those of the port. -/
theorem askOldest_eq (s : State) (a : Nat) : ∃ cs, askOldest s a = enq s (a / 32) cs ∨ askOldest s a = s := by
  unfold askOldest askMissing
  split
  · split
    · split
      · exact ⟨[], .inr rfl⟩
      · exact ⟨_, .inl rfl⟩
    · exact ⟨[], .inr rfl⟩
  · exact ⟨[], .inr rfl⟩

theorem askOldest_left (s : State) (a : Nat) : SegLeft a s (askOldest s a) ∧ ∀ b, node (askOldest s a) b = node s b := by
  obtain ⟨cs, h | h⟩ := askOldest_eq s a
  · rw [h]
    exact ⟨setPort_segLeft s a _ rfl rfl, fun _ => rfl⟩
  · rw [h]
    exact ⟨SegLeft.refl a s, fun _ => rfl⟩

/-! ### A kept segment (Table 4-5) -/

/-- The state that a kept segment's status gives a node that is not quarantined. -/
def segStatus (s : State) (a : Nat) (ns : Byte) : State :=
  let s1 := setNode s a { node s a with silent := 0 }
  let s2 := setNode s1 a { node s1 a with
    nstat := ns, unrestored := (node s a).unrestored || (bitOf ns 1 && decide ((port s (a / 32)).mode = 1 || (port s (a / 32)).mode = 2)) }
  setNodeBit (setNodeBit s2 a 0 false) a 1 (bitOf ns 0)

theorem node_segStatus (s : State) (a : Nat) (ns : Byte) : (node (segStatus s a ns) a).nstat = ns ∧ (node (segStatus s a ns) a).silent = 0 ∧
    (node (segStatus s a ns) a).resp = (node s a).resp := by
  unfold segStatus
  dsimp only
  rw [node_setNodeBit, node_setNodeBit, node_setNode_self, node_setNode_self]
  exact ⟨rfl, rfl, rfl⟩

theorem segStatus_maps (ha : a / 32 < 16) (s : State) (ns : Byte) : nodeMissing (segStatus s a ns) a = false ∧
    unsynced (segStatus s a ns) a = bitOf ns 0 :=
  ⟨(nodeMissing_setNodeBit_unsync ha ..).trans (nodeMissing_setNodeBit ha ..), unsynced_setNodeBit ha ..⟩

theorem segStatus_jobs (s : State) (a : Nat) (ns : Byte) : (segStatus s a ns).lp.jobs = s.lp.jobs :=
  (setNodeBit_nodes ..).2.trans (setNodeBit_nodes ..).2

variable {chars : Nat} {b ns : Byte} {body : List Byte}

/-- The sub-blocks of a segment. -/
def segBlocks (b ns : Byte) (body : List Byte) : List (Nat × List Byte) := subBlocks (b :: ns :: body).length body

theorem segmentKept_quarantined (h : quarantined s a = true) : segmentKept s a chars (b :: ns :: body) =
    forEach ((segBlocks b ns body).filter fun e => e.1 = 2) (subBlockIn a) (setNode s a { node s a with silent := 0 }) := if_pos h

theorem segmentKept_trusted (h : quarantined s a = false) : segmentKept s a chars (b :: ns :: body) =
      forEach (segBlocks b ns body) (subBlockIn a) (segStatus s a ns) ∨
    segmentKept s a chars (b :: ns :: body) = askOldest (forEach (segBlocks b ns body) (subBlockIn a) (segStatus s a ns)) a := by
  have hask : ∃ c : Bool, segmentKept s a chars (b :: ns :: body) = if c then
      askOldest (forEach (segBlocks b ns body) (subBlockIn a) (segStatus s a ns)) a
    else forEach (segBlocks b ns body) (subBlockIn a) (segStatus s a ns) := by
    unfold segmentKept
    dsimp only
    rw [h, if_neg Bool.false_ne_true]
    exact ⟨_, rfl⟩
  obtain ⟨c, hc⟩ := hask
  cases c with
  | true => exact .inr hc
  | false => exact .inl hc

/-- Of a node that is not quarantined, what the sub-blocks bring it stands behind its status. -/
theorem segmentKept_left (h : quarantined s a = false) : SegLeft a (segStatus s a ns) (segmentKept s a chars (b :: ns :: body)) ∧
    node (segmentKept s a chars (b :: ns :: body)) a = node (forEach (segBlocks b ns body) (subBlockIn a) (segStatus s a ns)) a := by
  have hleft := forEach_segLeft (segBlocks b ns body) a (segStatus s a ns)
  rcases segmentKept_trusted (chars := chars) (b := b) (ns := ns) (body := body) h with hk | hk
  · rw [hk]
    exact ⟨hleft, rfl⟩
  · obtain ⟨h1, h2⟩ := askOldest_left (forEach (segBlocks b ns body) (subBlockIn a) (segStatus s a ns)) a
    rw [hk]
    exact ⟨hleft.trans h1, h2 a⟩

theorem segmentKept_jobs : (segmentKept s a chars (b :: ns :: body)).lp.jobs = s.lp.jobs := by
  cases h : quarantined s a with
  | true =>
    rw [segmentKept_quarantined h]
    exact (forEach_segLeft ..).jobs
  | false => exact (segmentKept_left h).1.jobs.trans (segStatus_jobs ..)

theorem segmentKept_status (ha : a / 32 < 16) (h : quarantined s a = false) : let t := segmentKept s a chars (b :: ns :: body)
    (node t a).nstat = ns ∧ (node t a).silent = 0 ∧ nodeMissing t a = false ∧ unsynced t a = bitOf ns 0 := by
  intro t
  obtain ⟨hleft, -⟩ := segmentKept_left (chars := chars) (b := b) (ns := ns) (body := body) h
  obtain ⟨h1, h2, -⟩ := node_segStatus s a ns
  obtain ⟨h3, h4⟩ := segStatus_maps ha s ns
  exact ⟨hleft.nstat.trans h1, hleft.silent.trans h2, hleft.missing.trans h3, hleft.unsync.trans h4⟩

variable {sq st : Byte} {dat : List Byte}

/-- A segment that holds one RESP sub-block. -/
theorem subBlocks_resp (hd : dat.length < 254) (n : Nat) :
    subBlocks (n + 1) ([2, BitVec.ofNat 8 (2 + dat.length), sq, st] ++ dat) = [(2, sq :: st :: dat)] := by
  have hlen : (BitVec.ofNat 8 (2 + dat.length)).toNat = 2 + dat.length := by
    rw [BitVec.toNat_ofNat]
    omega
  have hl : (sq :: st :: dat).length = 2 + dat.length := by
    simp only [List.length_cons]
    omega
  have hend : subBlocks n ([] : List Byte) = [] := by cases n <;> rfl
  show (if 16 ≤ (2 : Byte).toNat || (sq :: st :: dat).length < (BitVec.ofNat 8 (2 + dat.length)).toNat then []
    else ((2 : Byte).toNat, (sq :: st :: dat).take (BitVec.ofNat 8 (2 + dat.length)).toNat) ::
      subBlocks n ((sq :: st :: dat).drop (BitVec.ofNat 8 (2 + dat.length)).toNat)) = _
  rw [hlen, hl, if_neg (by simp), ← hl, List.take_length, List.drop_length, hend]
  rfl

theorem subBlockIn_resp (q : State) (a : Nat) : (node (subBlockIn a (2, sq :: st :: dat) q) a).resp = (node q a).resp ++ [(sq, st, dat)] := by
  have h : subBlockIn a (2, sq :: st :: dat) q = setNode q a { node q a with resp := (node q a).resp ++ [(sq, st, dat)] } :=
    if_neg (c := (sq :: st :: dat).length < 2) (t := q) (by simp)
  rw [h, node_setNode_self]

/-- A response is kept for its row, quarantined or not (R199). -/
theorem segmentKept_resp (hbody : body = [2, BitVec.ofNat 8 (2 + dat.length), sq, st] ++ dat) (hd : dat.length < 254) :
    (node (segmentKept s a chars (b :: ns :: body)) a).resp = (node s a).resp ++ [(sq, st, dat)] := by
  have hblocks : segBlocks b ns body = [(2, sq :: st :: dat)] := by
    unfold segBlocks
    rw [hbody]
    exact subBlocks_resp hd _
  cases h : quarantined s a with
  | true =>
    rw [segmentKept_quarantined h, hblocks]
    show (node (subBlockIn a (2, sq :: st :: dat) _) a).resp = _
    rw [subBlockIn_resp]
    rw [node_setNode_self]
  | false =>
    rw [(segmentKept_left h).2, hblocks]
    show (node (subBlockIn a (2, sq :: st :: dat) _) a).resp = _
    rw [subBlockIn_resp]
    rw [(node_segStatus s a ns).2.2]

/-! ### A segment on a returning train (R175) -/

/-- A discarded segment counts at its position, where there is one. -/
def segBad (p : Nat) (q : State) : Option Nat → State
  | some i => if (node q (32 * p + i)).present then
      setNode q (32 * p + i) { node q (32 * p + i) with linkErrs := (node q (32 * p + i)).linkErrs + 1, silent := 0 } else q
  | none => q

theorem segBad_port (q : State) (k : Option Nat) (p j : Nat) : port (segBad p q k) j = port q j ∧ OnlyLp q (segBad p q k) ∧
    (segBad p q k).lp.jobs = q.lp.jobs := by
  cases k with
  | none => exact ⟨rfl, rfl, rfl⟩
  | some i =>
    unfold segBad
    dsimp only
    split
    · exact ⟨rfl, rfl, rfl⟩
    · exact ⟨rfl, rfl, rfl⟩

variable {rd : Bool} {syms : List (BitVec 10)}

theorem segmentIn_code (h : segmentBytes rd syms = none) : segmentIn s p rd syms =
    segBad p (setPort s p { port s p with codeErrs := satInc (port s p).codeErrs, errTimes := (s.upSeconds :: (port s p).errTimes).take 101 })
      (segmentPos rd syms) := by
  unfold segmentIn
  dsimp only
  rw [h]
  cases segmentPos rd syms <;> rfl

/-- The position of a segment stands in its first byte. -/
theorem segmentPos_of_bytes {l : List Byte} (h : segmentBytes rd syms = some (b :: l)) : segmentPos rd syms = some (b.toNat % 32) := by
  unfold segmentBytes at h
  unfold segmentPos
  split at h
  next x hx =>
    rw [hx]
    match x, h with
    | .data c :: x', h =>
      have hc : ∃ r, dataBytes x' = some r ∧ c :: r = b :: l := by
        simpa [dataBytes] using h
      obtain ⟨r, -, hcb⟩ := hc
      rw [(List.cons.inj hcb).1]
  · cases h

theorem segmentIn_bytes {crc : List Byte} (h : segmentBytes rd syms = some (b :: ns :: body ++ crc)) (hlen : crc.length = 2) :
    segmentIn s p rd syms = if crc ≠ leBytes 2 (crc16 (b :: ns :: body)) then
      segBad p (setPort s p { port s p with crcErrs := satInc (port s p).crcErrs }) (some (b.toNat % 32))
    else if (node s (32 * p + b.toNat % 32)).present then
      segmentKept s (32 * p + b.toNat % 32) (segmentChars rd syms).length (b :: ns :: body) else s := by
  have hcut : (b :: ns :: body ++ crc).length - 2 = (b :: ns :: body).length := by
    rw [List.length_append, hlen, Nat.add_sub_cancel]
  have hlong : decide ((b :: ns :: body ++ crc).length < 4) = false := by
    rw [decide_eq_false_iff_not, List.length_append, hlen, List.length_cons, List.length_cons]
    omega
  unfold segmentIn
  dsimp only
  rw [segmentPos_of_bytes h, h]
  dsimp only
  rw [hlong, hcut, List.take_left, List.drop_left, Bool.false_or]
  simp only [decide_eq_true_eq]
  rfl

/-! ### A train without the segment of a position (R196) -/

theorem segmentMissing_counts (ha : a / 32 < 16) (h : (node s a).present = true) : let t := segmentMissing s a
    (node t a).silent = (node s a).silent + 1 ∧ (2 ≤ (node s a).silent → nodeMissing t a = true) ∧ t.lp.jobs = s.lp.jobs := by
  intro t
  let out := decide (3 ≤ (node s a).silent + 1)
  let q := setNode s a { node s a with silent := (node s a).silent + 1, unrestored := (node s a).unrestored || out }
  have ht : t = if out then setNodeBit q a 0 true else q := by
    unfold t segmentMissing
    exact if_neg (by rw [h]; exact Bool.false_ne_true)
  have hq : (node q a).silent = (node s a).silent + 1 := congrArg Node.silent (node_setNode_self ..)
  rw [ht]
  split
  · refine ⟨?_, fun _ => nodeMissing_setNodeBit ha q true, (setNodeBit_nodes ..).2⟩
    rw [node_setNodeBit]
    exact hq
  next hout =>
    refine ⟨hq, fun h2 => absurd ?_ hout, rfl⟩
    exact decide_eq_true (Nat.add_le_add_right h2 1)

end Sys2Proof.Machine
end

section
/-! PROOFS. The statement on the link ports: the end of an enumeration, failed trains and breaks. -/

namespace Sys2Proof.Machine

variable {s t u q : State} {p : Nat}

/-! ### The end of an enumeration (Table 4-12 step 9) -/

theorem latchJoin_left (hp : p < 16) (s : State) : OnlyLp s (latchJoin p s) ∧ LinkLeft p s (latchJoin p s) ∧
    (port (latchJoin p s) p).mode = (port s p).mode ∧ (port (latchJoin p s) p).enum = (port s p).enum ∧
    (port (latchJoin p s) p).failRun = (port s p).failRun := by
  unfold latchJoin
  split
  · refine ⟨rfl, ⟨rfl, rfl, fun j hj => ?_⟩, ?_⟩
    · exact (setPort_linkLeft _ p _).others j hj
    · rw [port_setPort_self hp]
      exact ⟨rfl, rfl, rfl⟩
  · exact ⟨rfl, LinkLeft.refl p s, rfl, rfl, rfl⟩

/-- The port that runs after its enumeration. -/
def enumEnded (s : State) (p : Nat) (e : EnumState) : State :=
  latchJoin p (portRates p (setPort s p { port s p with mode := if e.whole then 1 else 2, enum := none, failRun := 0 }))

theorem enumerationComplete_exec {p : Fin 16} {e : EnumState} (hr : rootAlive s = true) (hon : portOn s p.val = true)
    (he : (port s p.val).enum = some e) (h9 : e.stage = 9) (hrec : e.recovery = false) (h3 : (port s p.val).mode = 3)
    (hfirst : s.lp.running = false ∨ ((port s p.val).mf = 0 ∧ (port s p.val).mfA = false ∧ (port s p.val).mfB = false)) :
    exec (.enumerationComplete p) s = .next (linkGo (enumDone (ev5 (enumEnded s p.val e) p.val 1) p.val)) := by
  have hgate : (!s.lp.running || (decide ((port s p.val).mf = 0) && !(port s p.val).mfA && !(port s p.val).mfB)) = true := by
    rcases hfirst with h | ⟨h1, h2, h3⟩
    · rw [h]
      rfl
    · rw [h1, h2, h3, Bool.or_eq_true]
      exact .inr rfl
  show execEnumerationComplete p s = _
  unfold execEnumerationComplete
  extract_lets n x
  have hx : x.enum = some e := he
  split
  next e' he' =>
    obtain rfl : e = e' := Option.some.inj (hx.symm.trans he')
    refine congrArg Host.Outcome.next (if_pos ?_)
    show (rootAlive s && portOn s p.val && decide (e.stage = 9) && !e.recovery && decide ((port s p.val).mode = 3) && _) = true
    rw [hr, hon, h9, hrec, h3]
    exact hgate
  next he' => rw [hx] at he'; cases he'

theorem enumEnded_left (hp : p < 16) (s : State) (e : EnumState) : OnlyLp s (enumEnded s p e) ∧ LinkLeft p s (enumEnded s p e) ∧
    (port (enumEnded s p e) p).mode = (if e.whole then 1 else 2) ∧ (port (enumEnded s p e) p).enum = none ∧
    (port (enumEnded s p e) p).failRun = 0 := by
  let x : Port := { port s p with mode := if e.whole then 1 else 2, enum := none, failRun := 0 }
  obtain ⟨h1, h2, hmode, henum, hfail⟩ := latchJoin_left hp (portRates p (setPort s p x))
  obtain ⟨h3, h4, -⟩ := portRates_left p (setPort s p x)
  obtain ⟨qa, qb, r, b, hport⟩ := portRates_port hp (setPort s p x)
  rw [port_setPort_self hp] at hport
  refine ⟨((setPort_onlyLp s p x).trans h3).trans h1, ((setPort_linkLeft s p x).trans h4).trans h2, hmode.trans ?_, henum.trans ?_, hfail.trans ?_⟩
  · rw [hport]
  · rw [hport]
  · rw [hport]

theorem enumerationComplete_answers {p : Fin 16} {e : EnumState} (hr : rootAlive s = true) (hon : portOn s p.val = true) (hj : s.lp.jobs = [])
    (hw : s.lp.wait = none) (he : (port s p.val).enum = some e) (h9 : e.stage = 9) (hrec : e.recovery = false) (h3 : (port s p.val).mode = 3)
    (hfirst : s.lp.running = false ∨ ((port s p.val).mf = 0 ∧ (port s p.val).mfA = false ∧ (port s p.val).mfB = false)) :
    Answers (.enumerationComplete p) s fun t => (port t p.val).mode = (if e.whole then 1 else 2) ∧ (port t p.val).enum = none ∧
      (port t p.val).failRun = 0 ∧ (∀ j, j ≠ p.val → port t j = port s j) ∧ EventRaised s t (5 + p.val) (portDet t p.val 1) := by
  obtain ⟨honly, hleft, hmode, henum, hfail⟩ := enumEnded_left p.isLt s e
  have hlp := ev5_lp (enumEnded s p.val e) p.val 1
  have hdone : enumDone (ev5 (enumEnded s p.val e) p.val 1) p.val = ev5 (enumEnded s p.val e) p.val 1 :=
    enumDone_idle ((congrArg Links.wait hlp).trans (hleft.wait.trans hw))
  have hgo : linkGo (ev5 (enumEnded s p.val e) p.val 1) = ev5 (enumEnded s p.val e) p.val 1 :=
    linkGo_idle ((congrArg Links.jobs hlp).trans (hleft.jobs.trans hj))
  refine ⟨ev5 (enumEnded s p.val e) p.val 1, ?_, ?_, ?_, ?_, fun j h => ?_, ev5_told honly p.val 1⟩
  · rw [enumerationComplete_exec hr hon he h9 hrec h3 hfirst, hdone, hgo]
  · rw [port_of_lp hlp, hmode]
  · rw [port_of_lp hlp, henum]
  · rw [port_of_lp hlp, hfail]
  · rw [port_of_lp hlp, hleft.others j h]

/-! ### Failed trains (R192) -/

/-- The runs of absent segments of a port's nodes start over. -/
def quietNodes (p : Nat) (l : Sparse Node) : Sparse Node := l.map fun e => if e.1 / 32 = p then (e.1, { e.2 with silent := 0 }) else e

theorem silent_quietNodes {a : Nat} (h : a / 32 = p) : ∀ l : Sparse Node, (Sparse.getD (quietNodes p l) a Node.reset).silent = 0
  | [] => rfl
  | (k, n) :: l => by
    have ih := silent_quietNodes h l
    have hcons : quietNodes p ((k, n) :: l) = (k, if k / 32 = p then { n with silent := 0 } else n) :: quietNodes p l := by
      show (if k / 32 = p then (k, { n with silent := 0 }) else (k, n)) :: quietNodes p l = _
      split <;> rfl
    have hget : ∀ v : Node, Sparse.getD ((k, v) :: quietNodes p l) a Node.reset = if k = a then v else Sparse.getD (quietNodes p l) a Node.reset := fun v => by
      show (if k = a then some v else Sparse.get? (quietNodes p l) a).getD Node.reset = _
      split <;> rfl
    rw [hcons, hget]
    split
    next hk => rw [if_pos (by rw [hk, h])]
    · exact ih

/-- The port behind one more failed train. -/
def failedPort (s : State) (p : Nat) : Port :=
  let x := port s p
  { x with
    trainsLost := satInc x.trainsLost, failRun := x.failRun + 1, trainOut := false
    breakAt := if x.failRun = 0 then 8 * s.lp.ms + x.mf else x.breakAt, bounds := if x.failRun = 0 then 0 else x.bounds }

/-- A failed train is counted. -/
def failCounted (s : State) (p : Nat) : State :=
  let s1 := setPort s p (failedPort s p)
  { s1 with lp := { s1.lp with nodes := quietNodes p s1.lp.nodes } }

theorem trainFailed_eq (hm : (port s p).mode ≠ 0) : trainFailed s p =
    if (port s p).mode = 1 && 8 ≤ (port s p).failRun + 1 then breakStart (failCounted s p) p else failCounted s p := if_neg hm

theorem exec_trainFailed {p : Fin 16} (hr : rootAlive s = true) (hon : portOn s p.val = true) : exec (.trainFailed p) s = .next (trainFailed s p.val) :=
  congrArg Host.Outcome.next (if_pos (by rw [hr, hon]; rfl))

theorem port_failCounted (hp : p < 16) (s : State) : port (failCounted s p) p = failedPort s p := port_setPort_self hp ..

theorem others_failCounted (s : State) (p : Nat) : ∀ j, j ≠ p → port (failCounted s p) j = port s j := (setPort_linkLeft s p (failedPort s p)).others

theorem trainFailed_counts {p : Fin 16} (hr : rootAlive s = true) (hon : portOn s p.val = true) (hm : (port s p.val).mode ≠ 0)
    (h : (port s p.val).mode ≠ 1 ∨ (port s p.val).failRun < 7) : Answers (.trainFailed p) s fun t => (∀ j, j ≠ p.val → port t j = port s j) ∧
      SameBytes s t ∧ t.evr = s.evr ∧ (∀ a, a / 32 = p.val → (node t a).silent = 0) ∧ port t p.val = failedPort s p.val := by
  have ht : trainFailed s p.val = failCounted s p.val := by
    refine (trainFailed_eq hm).trans (if_neg fun hb => ?_)
    simp only [Bool.and_eq_true, decide_eq_true_eq] at hb
    omega
  refine ⟨failCounted s p.val, ?_, others_failCounted s p.val, .of_mem rfl rfl rfl, rfl, fun a ha => ?_, port_failCounted p.isLt s⟩
  · rw [exec_trainFailed hr hon, ht]
  · exact silent_quietNodes ha s.lp.nodes

/-! ### A break (R193) -/

/-- The port in its recovery. -/
def brokenPort (x : Port) : Port :=
  let again := match x.sentA with | some k => [k.cmd] | none => []
  { x with mode := 4, breakSeen := true, enum := some { recovery := true, stage := 4, whole := false }, sentA := none, queue := again ++ x.queue }

theorem breakStart_eq (s : State) (p : Nat) : breakStart s p = ev5 (portRates p (setPort s p (brokenPort (port s p)))) p 3 := rfl

/-- New rates and an event leave what the port was given. -/
theorem ratesTold (hp : p < 16) (s : State) (x : Port) (kind : Nat) : let t := ev5 (portRates p (setPort s p x)) p kind
    (∃ qa qb r b, port t p = { x with quotaA := qa, quotaB := qb, rdiv := r, rdivShort := b }) ∧ (∀ j, j ≠ p → port t j = port s j) ∧
    ∀ r, OnlyLp r s → EventRaised r t (5 + p) (portDet t p kind) := by
  intro t
  have hlp : t.lp = (portRates p (setPort s p x)).lp := ev5_lp ..
  obtain ⟨honly, hleft, -⟩ := portRates_left p (setPort s p x)
  obtain ⟨qa, qb, r, b, hport⟩ := portRates_port hp (setPort s p x)
  rw [port_setPort_self hp] at hport
  refine ⟨⟨qa, qb, r, b, ?_⟩, fun j hj => ?_, fun r hr => ev5_told ((hr.trans (setPort_onlyLp s p x)).trans honly) p kind⟩
  · rw [port_of_lp hlp, hport]
  · rw [port_of_lp hlp]
    exact ((setPort_linkLeft s p x).trans hleft).others j hj

theorem trainFailed_breaks {p : Fin 16} (hr : rootAlive s = true) (hon : portOn s p.val = true) (h1 : (port s p.val).mode = 1)
    (h7 : 7 ≤ (port s p.val).failRun) : Answers (.trainFailed p) s fun t => (port t p.val).mode = 4 ∧ (port t p.val).breakSeen = true ∧
      (port t p.val).enum = some { recovery := true, stage := 4, whole := false } ∧ (∀ j, j ≠ p.val → port t j = port s j) ∧
      EventRaised s t (5 + p.val) (portDet t p.val 3) := by
  have ht : trainFailed s p.val = breakStart (failCounted s p.val) p.val := by
    refine (trainFailed_eq (by rw [h1]; decide)).trans (if_pos ?_)
    simp only [Bool.and_eq_true, decide_eq_true_eq]
    omega
  obtain ⟨⟨qa, qb, r, b, hport⟩, hothers, hev⟩ := ratesTold p.isLt (failCounted s p.val) (brokenPort (port (failCounted s p.val) p.val)) 3
  refine ⟨breakStart (failCounted s p.val) p.val, by rw [exec_trainFailed hr hon, ht], ?_⟩
  rw [breakStart_eq]
  refine ⟨?_, ?_, ?_, fun j hj => (hothers j hj).trans (others_failCounted s p.val j hj), hev s rfl⟩
  · rw [hport]
    rfl
  · rw [hport]
    rfl
  · rw [hport]
    rfl

theorem dualChainStart_exec {p : Fin 16} {e : EnumState} (hr : rootAlive s = true) (hon : portOn s p.val = true)
    (he : (port s p.val).enum = some e) (hrec : e.recovery = true) (h4 : (port s p.val).mode = 4) : exec (.dualChainStart p) s =
    .next (if dualDue s (port s p.val) e then ev5 (portRates p.val (setPort s p.val { port s p.val with
      mode := 2, enum := if e.stage = 9 then none else some e, failRun := 0 })) p.val 4 else s) := by
  show execDualChainStart p s = _
  unfold execDualChainStart
  extract_lets n x
  have hx : x.enum = some e := he
  split
  next e' he' =>
    obtain rfl : e = e' := Option.some.inj (hx.symm.trans he')
    have hgate : (rootAlive s && portOn s n && e.recovery && decide (x.mode = 4) && dualDue s x e) = dualDue s x e := by
      show (rootAlive s && portOn s p.val && e.recovery && decide ((port s p.val).mode = 4) && _) = _
      rw [hr, hon, hrec, h4]
      rfl
    rw [hgate]
  next he' => rw [hx] at he'; cases he'

theorem dualChainStart_answers {p : Fin 16} {e : EnumState} (hr : rootAlive s = true) (hon : portOn s p.val = true)
    (he : (port s p.val).enum = some e) (hrec : e.recovery = true) (h4 : (port s p.val).mode = 4) (hrun : s.lp.running = true)
    (hfirst : (port s p.val).mf = 0 ∧ (port s p.val).mfA = false ∧ (port s p.val).mfB = false) :
    (((port s p.val).breakAt + 74 ≤ 8 * s.lp.ms ∧ e.stage = 9) ∨ 3 ≤ (port s p.val).bounds → Answers (.dualChainStart p) s fun t =>
      (port t p.val).mode = 2 ∧ (port t p.val).enum = (if e.stage = 9 then none else some e) ∧ (port t p.val).failRun = 0 ∧
      (∀ j, j ≠ p.val → port t j = port s j) ∧ EventRaised s t (5 + p.val) (portDet t p.val 4)) ∧
    ((8 * s.lp.ms < (port s p.val).breakAt + 74 ∨ e.stage ≠ 9) → (port s p.val).bounds < 3 → exec (.dualChainStart p) s = .next s) := by
  have hdue : dualDue s (port s p.val) e = (decide ((port s p.val).breakAt + 74 ≤ 8 * s.lp.ms) && decide (e.stage = 9) ||
      decide (3 ≤ (port s p.val).bounds)) := by
    obtain ⟨h1, h2, h3⟩ := hfirst
    unfold dualDue
    rw [hrun, h1, h2, h3]
    rfl
  have hexec := dualChainStart_exec hr hon he hrec h4
  rw [hdue] at hexec
  refine ⟨fun h => ?_, fun h hb => ?_⟩
  · obtain ⟨⟨qa, qb, r, b, hport⟩, hothers, hev⟩ := ratesTold p.isLt s
      { port s p.val with mode := 2, enum := if e.stage = 9 then none else some e, failRun := 0 } 4
    refine ⟨_, hexec.trans (congrArg Host.Outcome.next (if_pos ?_)), ?_, ?_, ?_, hothers, hev s rfl⟩
    · simpa only [Bool.or_eq_true, Bool.and_eq_true, decide_eq_true_eq] using h
    · rw [hport]
    · rw [hport]
    · rw [hport]
  · refine hexec.trans (congrArg Host.Outcome.next (if_neg fun hc => ?_))
    simp only [Bool.or_eq_true, Bool.and_eq_true, decide_eq_true_eq] at hc
    omega

/-! ### A healed ring, a lost clock (R50, R195) -/

theorem farLockHealed_answers {p : Fin 16} (hr : rootAlive s = true) (hon : portOn s p.val = true) (h2 : (port s p.val).mode = 2)
    (hh : (port s p.val).healed = false) : Answers (.farLockHealed p) s fun t =>
      OnlyEvents (setPort s p.val { port s p.val with healed := true }) t ∧ EventRaised s t (5 + p.val) (portDet t p.val 5) := by
  refine ⟨_, congrArg Host.Outcome.next (if_pos ?_), ev5_onlyEvents .., ev5_told (setPort_onlyLp ..) p.val 5⟩
  rw [h2, hr, hon, hh]
  rfl

theorem clkLrxLoss_answers {p : Fin 16} (hr : rootAlive s = true) (hon : portOn s p.val = true) (hm : (port s p.val).mode ≠ 0) :
    Answers (.clkLrxLoss p) s fun t => OnlyEvents s t ∧ EventRaised s t (5 + p.val) (portDet t p.val 6) := by
  refine ⟨_, congrArg Host.Outcome.next (if_pos ?_), ev5_onlyEvents .., ev5_told (s := s) (q := s) rfl p.val 6⟩
  rw [hr, hon, decide_eq_true hm]
  rfl

/-! ### Without the root-derived clocks (R47) -/

theorem links_stand (p : Fin 16) (hr : rootAlive s = false) : (∀ r, exec (.segmentReceived p r) s = .next s) ∧
    ∀ i ∈ [Instr.trainFailed p, .dualChainStart p, .farLockHealed p, .clkLrxLoss p, .enumerationComplete p], exec i s = .next s := by
  refine ⟨fun r => congrArg Host.Outcome.next (if_pos (by rw [hr]; rfl)), ?_⟩
  intro i hi
  simp only [List.mem_cons, List.not_mem_nil, or_false] at hi
  rcases hi with rfl | rfl | rfl | rfl | rfl
  · exact congrArg Host.Outcome.next (if_neg (by rw [hr]; exact Bool.false_ne_true))
  · show execDualChainStart p s = _
    unfold execDualChainStart
    refine congrArg Host.Outcome.next ?_
    split
    · exact if_neg (by rw [hr]; exact Bool.false_ne_true)
    · rfl
  · exact congrArg Host.Outcome.next (if_neg (by rw [hr]; simp))
  · exact congrArg Host.Outcome.next (if_neg (by rw [hr]; exact Bool.false_ne_true))
  · show execEnumerationComplete p s = _
    unfold execEnumerationComplete
    refine congrArg Host.Outcome.next ?_
    dsimp only
    split
    · exact if_neg (by rw [hr]; exact Bool.false_ne_true)
    · rfl

end Sys2Proof.Machine
end

section
/-! PROOFS. The statement on the link ports. -/

namespace Sys2Proof.Machine

variable {s : State}

/-- The statement on trains. -/
theorem microframeTrain_answers (p : Fin 16) (b : Bool) (hr : rootAlive s = true) (hon : portOn s p.val = true)
    (hrun : portRuns s p.val = true ∨ (port s p.val).mode = 3 ∨ (port s p.val).mode = 4) (hstage : ∀ e, (port s p.val).enum = some e → e.stage ≠ 2)
    (htwo : b = true → twoChains (port s p.val) = true) : Answers (.microframeTrain p b) s fun t => let x := port s p.val
      let y := port t p.val
      y.trainOut = true ∧ y.tail = [] ∧ y.failRun = (if x.trainOut then 0 else x.failRun) ∧ (∀ j, j ≠ p.val → port t j = port s j) ∧
      SameBytes s t ∧ y.mf = trainMf s x b ∧ sentOn y (!b) = sentOn x (!b) ∧ y.lead = trainLead s p.val x b y.mf ∧
      (∃ q, y.train.take 8 = trainHeader (trainMode x b (nextCmd x b)) (x.latch && y.mf = 0) x.rdiv y.mf q (y.train.length - 8)
        (s.lp.cycle.toNat % 256)) ∧
      (nextCmd x b = none → y.train.length = 8 ∧ y.queue = x.queue ∧ y.seq = x.seq ∧ t.lp.nodes = s.lp.nodes ∧
        sentOn y b = (sentOn x b).map fun k => { k with trains := k.trains + 1 }) ∧
      ∀ c, nextCmd x b = some c → y.queue = x.queue.eraseP (fun k => k.chainB = b) ∧ y.seq = x.seq + 1 ∧ (c.bcast = true → sentOn y b = none) ∧
        ((c.ncmd ≠ 6 ∨ c.sends ≠ 0) → y.train.drop 8 = cmdBytes c x.seq ∧
          (c.bcast = false → sentOn y b = some { cmd := { c with sends := c.sends + 1 }, seq := x.seq, trains := 0 })) ∧
        (c.ncmd = 6 → c.sends = 0 → ∃ ch o, (node t (32 * p.val + c.pos)).challenge = some (ch, o) ∧
          y.train.drop 8 = cmdBytes { c with param := leBytes 16 ch.toNat } x.seq) := by
  refine ⟨sendTrain s p.val b, microframeTrain_cases s p b hr hon hrun hstage htwo, ?_⟩
  have hy : port (sendTrain s p.val b) p.val = trainPort s p.val b := port_sendTrain_self p.isLt
  dsimp only
  rw [hy]
  have hbytes : SameBytes s (sendTrain s p.val b) := (trainStart_kept s p.val b).2.trans (setPort_onlyLp ..).sameBytes
  exact ⟨rfl, rfl, rfl, fun j hj => port_sendTrain_other hj, hbytes, rfl, (sentOn_trainPort s p.val b).2, rfl, train_header s p.val b,
    train_idle, fun c hc => train_command hc⟩

/-- The statement on code errors of segments. -/
theorem segment_code {p : Fin 16} {rd : Bool} {syms : List (BitVec 10)} (hr : rootAlive s = true) (hon : portOn s p.val = true)
    (hm : (port s p.val).mode ≠ 0) (hj : s.lp.jobs = []) (h : segmentBytes rd syms = none) :
    Answers (.segmentReceived p (.segment rd syms)) s fun t => port t p.val = { port s p.val with
      codeErrs := satInc (port s p.val).codeErrs, errTimes := (s.upSeconds :: (port s p.val).errTimes).take 101 } ∧ SameBytes s t := by
  have ht : returned s p.val (.segment rd syms) = _ := segmentIn_code (s := s) (p := p.val) h
  obtain ⟨hport, honly, hjobs⟩ := segBad_port (setPort s p.val { port s p.val with
    codeErrs := satInc (port s p.val).codeErrs, errTimes := (s.upSeconds :: (port s p.val).errTimes).take 101 }) (segmentPos rd syms) p.val p.val
  rw [← ht] at hport honly hjobs
  exact returned_answers hr hon hm (hjobs.trans hj) ⟨hport.trans (port_setPort_self p.isLt ..), ((setPort_onlyLp ..).trans honly).sameBytes⟩

/-- The statement on segments without a code error. -/
theorem segment_bytes {p : Fin 16} {rd : Bool} {syms : List (BitVec 10)} {b ns : Byte} {body crc : List Byte} (hr : rootAlive s = true)
    (hon : portOn s p.val = true) (hm : (port s p.val).mode ≠ 0) (hj : s.lp.jobs = [])
    (h : segmentBytes rd syms = some (b :: ns :: body ++ crc)) (hlen : crc.length = 2) : let a := 32 * p.val + b.toNat % 32
    let good := crc = leBytes 2 (crc16 (b :: ns :: body))
    (node s a).present = true →
    (¬ good → Answers (.segmentReceived p (.segment rd syms)) s fun t => port t p.val = { port s p.val with crcErrs := satInc (port s p.val).crcErrs } ∧
      (node t a).linkErrs = (node s a).linkErrs + 1 ∧ (node t a).silent = 0) ∧
    (good → quarantined s a = false → Answers (.segmentReceived p (.segment rd syms)) s fun t =>
      (node t a).nstat = ns ∧ (node t a).silent = 0 ∧ nodeMissing t a = false ∧ unsynced t a = bitOf ns 0) ∧
    (∀ sq st dat, good → body = [2, BitVec.ofNat 8 (2 + dat.length), sq, st] ++ dat → dat.length < 254 →
      Answers (.segmentReceived p (.segment rd syms)) s fun t => (node t a).resp = (node s a).resp ++ [(sq, st, dat)]) := by
  intro a good hpres
  have ha : a / 32 < 16 := by
    show (32 * p.val + b.toNat % 32) / 32 < 16
    omega
  have ht : returned s p.val (.segment rd syms) = _ := segmentIn_bytes (s := s) (p := p.val) h hlen
  have hkept : good → returned s p.val (.segment rd syms) = segmentKept s a (segmentChars rd syms).length (b :: ns :: body) := fun hg =>
    ht.trans ((if_neg fun hne => hne hg).trans (if_pos hpres))
  have hjobs : good → (returned s p.val (.segment rd syms)).lp.jobs = [] := fun hg => by
    rw [hkept hg]
    exact segmentKept_jobs.trans hj
  refine ⟨fun hbad => ?_, fun hg hq => ?_, fun sq st dat hg hbody hd => ?_⟩
  · let q := setPort s p.val { port s p.val with crcErrs := satInc (port s p.val).crcErrs }
    have hset : returned s p.val (.segment rd syms) = setNode q a { node q a with linkErrs := (node q a).linkErrs + 1, silent := 0 } :=
      (ht.trans (if_pos hbad)).trans (if_pos hpres)
    refine returned_answers hr hon hm (by rw [hset]; exact hj) ?_
    rw [hset, node_setNode_self]
    exact ⟨port_setPort_self p.isLt .., rfl, rfl⟩
  · refine returned_answers hr hon hm (hjobs hg) ?_
    rw [hkept hg]
    exact segmentKept_status ha hq
  · refine returned_answers hr hon hm (hjobs hg) ?_
    rw [hkept hg]
    exact segmentKept_resp hbody hd

/-- Settles O44: the cycle's start, the train, each return and each report are equations of their own functions; an event shows the port as
it then stands, and what follows in the same step (stages, captures, rates) leaves what the statement names. -/
theorem linkPorts : Obligations.LinkPorts := by
  unfold Obligations.LinkPorts
  intro det others
  refine ⟨fun s hr hj => cycleTick_cases hr hj, ?_, ?_⟩
  · intro s p b x hr hon hrun hstage htwo
    exact microframeTrain_answers p b hr hon hrun hstage htwo
  intro s p x n first
  refine ⟨links_stand p, fun hr hon hm => ⟨fun hj hw => ⟨?_, ?_, ?_, ?_, ?_, ?_, ?_, ?_, ?_⟩, ?_, ?_, ?_, ?_, ?_⟩⟩
  · exact exec_segmentReceived (r := .badHeader) hr hon hm hj
  · intro e w he h2
    obtain ⟨henum, hqueue, hleft, hbytes⟩ := enumLock_waits p.isLt w he h2
    exact returned_answers hr hon hm (hleft.jobs.trans hj) ⟨hleft.others, hbytes, henum, hqueue⟩
  · intro e c he h4 hwhole ex k
    refine ⟨fun h0 hk => ?_, fun hk hc => ?_⟩
    · obtain ⟨hmode, hmis, henum, hjobs, hev⟩ := enumCount_mismatch p.isLt hw he h4 hwhole h0 hk
      exact returned_answers hr hon hm (hjobs.trans hj) ⟨hmode, hmis, henum, hev⟩
    · obtain ⟨hnodes, hexcess, henum, hpres, hbytes, hqueue, hjobs⟩ := enumCount_counted p.isLt he h4 hwhole hk hc
      exact returned_answers hr hon hm (hjobs.trans hj) ⟨hnodes, hexcess, henum, hpres, hbytes, hqueue⟩
  · intro e na nb he h4 hwhole hrec h0 hn
    obtain ⟨hna, hnb, hnodes, henum, hpres, hjobs⟩ := discovered_counted p.isLt he h4 hwhole hrec h0 hn
    exact returned_answers hr hon hm (hjobs.trans hj) ⟨hna, hnb, hnodes, henum, hpres⟩
  · intro k b rt hk hn dl
    obtain ⟨hdelay, hsent, hhop, hjobs⟩ := echoReturn_answers (rt := rt) p.isLt hw hk hn
    exact returned_answers hr hon hm (hjobs.trans hj) ⟨hdelay, hsent, hhop⟩
  · intro rd syms h
    exact segment_code hr hon hm hj h
  · intro rd syms b ns body crc h hlen a good hpres
    exact segment_bytes hr hon hm hj h hlen hpres
  · intro k hpres
    obtain ⟨hsilent, hmiss, hjobs⟩ := segmentMissing_counts (s := s) (a := 32 * n + k.val) (by omega) hpres
    exact returned_answers hr hon hm (hjobs.trans hj) ⟨hsilent, hmiss⟩
  · intro e he h9 hrec h3 hfirst
    exact enumerationComplete_answers hr hon hj hw he h9 hrec h3 hfirst
  · exact fun h => trainFailed_counts hr hon hm h
  · exact fun h1 h7 => trainFailed_breaks hr hon h1 h7
  · exact fun e he hrec h4 hrun hfirst => dualChainStart_answers hr hon he hrec h4 hrun hfirst
  · exact fun h2 hh => farLockHealed_answers hr hon h2 hh
  · exact clkLrxLoss_answers hr hon hm

end Sys2Proof.Machine
end

section
/-! PROOFS. The statement on parking: what rail control and the sequencer leave of it. -/

namespace Sys2Proof.Machine

variable {s t u : State}

/-! ### What a scan looks at (R607–R609) -/

/-- What the MP keeps of parking and of wakes, with the register of parking's persistence. -/
structure ParkView where
  parking : Parking
  lastCode : Nat
  parkNode : Nat
  parkScans : BitVec 16
  wake : WakeRec
  wakeMp : Bool
  config : Word

def parkView (s : State) : ParkView where
  parking := s.mp.parking
  lastCode := s.mp.lastCode
  parkNode := s.mp.parkNode
  parkScans := s.mp.parkScans
  wake := s.pwr.wake
  wakeMp := s.wakeMp
  config := rd s 0xA010

theorem parkView_ite {c : Prop} [Decidable c] {a b : State} {v : ParkView} (ha : parkView a = v) (hb : parkView b = v) :
    parkView (if c then a else b) = v := by
  split
  · exact ha
  · exact hb

theorem OnlyReply.parkView (h : OnlyReply s t) : parkView t = parkView s := by
  unfold OnlyReply at h
  rw [h]
  rfl

theorem parkView_raise (s : State) (k : Nat) (d : DWord) : parkView (raise s k d) = parkView s := (raise_onlyEvents ..).reply.parkView
theorem parkView_complete (s : State) (t : Ticket) (st : Nat) (r : DWord) : parkView (complete s t st r) = parkView s := (complete_onlyReply ..).parkView
theorem parkView_completeAll (s : State) (ts : List Ticket) (st : Nat) (r : DWord) : parkView (completeAll s ts st r) = parkView s :=
  (completeAll_onlyReply ..).parkView
theorem parkView_assertLine (s : State) (k : Nat) (w : Word) : parkView (assertLine s k w) = parkView s := parkView_ite rfl rfl

/-! ### Rails (R315, R331, R335) -/

theorem parkView_drivePhases (s : State) (n : Nat) (v : Pwm) : parkView (drivePhases s n v) = parkView s := forEach_same parkView _ _ fun _ _ => rfl
theorem parkView_setRail (s : State) (n : Nat) (r : Rail) : parkView (setRail s n r) = parkView s := rfl
theorem parkView_rampTo (s : State) (n : Nat) (x : Slew) : parkView (rampTo s n x) = parkView s := rfl
theorem parkView_railQuiet (s : State) (n : Nat) : parkView (railQuiet s n) = parkView s := forEach_same parkView _ _ fun _ _ => rfl
theorem parkView_railEvent (s : State) (n kind sub phases : Nat) (m : Option RailMeas) : parkView (railEvent s n kind sub phases m) = parkView s :=
  (railEvent_onlyEvents ..).reply.parkView
theorem parkView_losePg (s : State) (n : Nat) (m : Option RailMeas) : parkView (losePg s n m) = parkView s :=
  parkView_ite (parkView_railEvent ..) rfl
theorem parkView_applyMode (s : State) (n : Nat) : parkView (applyMode s n) = parkView s :=
  forEach_same parkView _ _ fun _ _ => parkView_complete ..

/-- The register of parking is none of a rail's. -/
theorem railMine_park (s : State) {n : Nat} (hn : n < 8) : railMine s n 0xA010 = false := by
  have hrail : (decide (railBase n ≤ 0xA010) && decide (0xA010 < railBase n + 0x80)) = false := by
    have hlow : ¬ 0xA010 < railBase n + 0x80 := by
      unfold railBase
      omega
    rw [decide_eq_false hlow, Bool.and_false]
  have hphase : ((railPhases s n).any fun p => decide (phBase p ≤ 0xA010) && decide (0xA010 < phBase p + 0x20)) = false := by
    rw [List.any_eq_false]
    intro p hp
    have hlt : p < 12 := by
      unfold railPhases maskPhases at hp
      exact List.mem_range.mp (List.mem_filter.mp hp).1
    have hlow : ¬ 0xA010 < phBase p + 0x20 := by
      unfold phBase
      omega
    rw [decide_eq_false hlow, Bool.and_false]
    exact Bool.false_ne_true
  unfold railMine
  rw [hrail, hphase]
  rfl

theorem parkView_railBoundary (s : State) {n : Nat} (hn : n < 8) : parkView (railBoundary s n) = parkView s := by
  have hm := railMine_park s hn
  have hrd : rd (railBoundary s n) 0xA010 = rd s 0xA010 := (RegFile.applyCaptured_get _ _ hm).trans (RegFile.applyLate_get _ _ hm)
  unfold parkView
  rw [hrd]
  rfl

theorem parkView_railSettle (s : State) {n : Nat} (hn : n < 8) : parkView (railSettle s n) = parkView s :=
  parkView_ite rfl ((parkView_applyMode ..).trans (parkView_railBoundary s hn))

theorem parkView_railFaultToo (s : State) (n reason phases : Nat) (m : Option RailMeas) : parkView (railFaultToo s n reason phases m) = parkView s := by
  have hline := parkView_assertLine s (reasonLine reason n) (maskOf 32 n 1)
  exact parkView_ite ((parkView_drivePhases ..).trans (parkView_ite hline hline)) (parkView_ite hline hline)

theorem parkView_railFault (s : State) {n : Nat} (hn : n < 8) (reason phases : Nat) (m : Option RailMeas) (c : Option Nat) :
    parkView (railFault s n reason phases m c) = parkView s := by
  refine parkView_ite (parkView_railFaultToo ..) ((parkView_railSettle _ hn).trans ((parkView_completeAll ..).trans ((parkView_completeAll ..).trans ?_)))
  have hend : ∀ q, parkView q = parkView s → ∀ r v ph k w, parkView (assertLine (railEvent (railQuiet (drivePhases (losePg (setRail q n r) n m) n v) n)
      n 3 reason ph m) k w) = parkView s := fun q hq r v ph k w =>
    (parkView_assertLine ..).trans <| (parkView_railEvent ..).trans <| (parkView_railQuiet ..).trans <| (parkView_drivePhases ..).trans <|
      (parkView_losePg ..).trans hq
  have h0 : parkView (if m.isSome then s else takeFree s) = parkView s := parkView_ite rfl rfl
  split
  · exact (parkView_complete ..).trans (hend _ h0 ..)
  · exact hend _ h0 ..

theorem parkView_railBegin (s : State) {n : Nat} (hn : n < 8) (b : Bool) : parkView (railBegin s n b) = parkView s := by
  have h2 : ∀ r (ps : List Nat) (x : Nat → State → Phase), parkView (forEach ps (fun p q => setPhs q p (x p q)) (setRail s n r)) = parkView s :=
    fun r ps x => forEach_same parkView _ _ fun _ _ => rfl
  exact parkView_ite ((parkView_railFault _ hn ..).trans (h2 ..)) (h2 ..)

theorem parkView_railStart (s : State) {n : Nat} (hn : n < 8) (b : Bool) : parkView (railStart s n b).1 = parkView s := by
  unfold railStart
  split
  · exact parkView_ite rfl rfl
  · exact parkView_railBegin s hn b

theorem parkView_railOff (s : State) {n : Nat} (hn : n < 8) : parkView (railOff s n) = parkView s := by
  have hrest : parkView (railRested s n) = parkView s :=
    (parkView_railSettle _ hn).trans <| (parkView_completeAll ..).trans <| (parkView_railQuiet ..).trans (parkView_drivePhases ..)
  have hstart := (parkView_railStart (railRested s n) hn (rail s n).bySeq).trans hrest
  refine parkView_ite ?_ hrest
  change parkView (match railStart (railRested s n) n (rail s n).bySeq with | (s3, some st) => _ | (s3, none) => s3) = _
  generalize railStart (railRested s n) n (rail s n).bySeq = x at hstart
  obtain ⟨s3, st⟩ := x
  cases st with
  | none => exact hstart
  | some st => exact (parkView_completeAll ..).trans hstart

theorem parkView_railStop (s : State) {n : Nat} (hn : n < 8) : parkView (railStop s n) = parkView s := by
  unfold railStop
  dsimp only
  split
  · rfl
  · exact parkView_railOff _ hn
  · exact parkView_completeAll ..
  · have hdone : ∀ q ts, parkView q = parkView s → parkView (completeAll q ts stAborted 0) = parkView s := fun q ts h => (parkView_completeAll ..).trans h
    refine parkView_ite (hdone _ _ ?_) ((parkView_railOff _ hn).trans (hdone _ _ ?_))
    all_goals
      split
      · exact (parkView_complete ..).trans (parkView_losePg ..)
      · exact parkView_losePg ..

theorem parkView_railStgOff (s : State) {n : Nat} (hn : n < 8) : parkView (railStgOff s n) = parkView s :=
  (parkView_railOff _ hn).trans (parkView_losePg ..)

theorem parkView_railAbort (s : State) (n : Nat) : parkView (railAbort s n) = parkView s := parkView_completeAll ..

theorem parkView_railSafeNote (s : State) (n : Nat) : parkView (railSafeNote s n) = parkView s := parkView_railEvent ..

theorem parkView_railSafe {n : Nat} (hn : n < 8) (s : State) : parkView (railSafe n s) = parkView s := by
  have h0 : parkView (setRail (railAbort s n) n { rail (railAbort s n) n with after := .stay }) = parkView s := parkView_railAbort ..
  unfold railSafe
  extract_lets s1 src s0 r running boot
  have hs0 : parkView s0 = parkView s := h0
  refine parkView_ite (parkView_ite ((parkView_railStgOff _ hn).trans hs0) ((parkView_railSafeNote ..).trans ((parkView_railStgOff _ hn).trans hs0)))
    (parkView_ite hs0 ((parkView_railSafeNote ..).trans ?_))
  have hset : ∀ r, parkView (setRail s0 n r) = parkView s := fun r => (parkView_setRail ..).trans hs0
  have hramp : ∀ r x, parkView (rampTo (setRail s0 n r) n x) = parkView s := fun r x => (parkView_rampTo ..).trans (hset r)
  split
  · exact parkView_ite (hset _) hs0
  · exact parkView_ite (hramp ..) (parkView_ite (parkView_ite (hramp ..) (hset _)) hs0)
  · exact (parkView_railStop _ hn).trans hs0

/-! ### The sequencer in the fault state (R391, R495) -/

theorem parkView_wdiUpdate (s : State) : parkView (wdiUpdate s) = parkView s := parkView_ite rfl (parkView_ite rfl rfl)
theorem parkView_seqState (s : State) (x : SeqState) : parkView (seqState s x) = parkView s := parkView_wdiUpdate ..
theorem parkView_driveEn (s : State) (c : SeqRec) (active : Bool) : parkView (driveEn s c active) = parkView s := parkView_ite rfl rfl
theorem parkView_hostRstUpdate (s : State) : parkView (hostRstUpdate s) = parkView s := parkView_ite rfl (parkView_ite rfl (parkView_ite rfl rfl))
theorem parkView_seqHostRst (s : State) (v : Bool) : parkView (seqHostRst s v) = parkView s := parkView_hostRstUpdate ..

theorem parkView_memberDrivenOff (i : Nat) (s : State) : parkView (memberDrivenOff i s) = parkView s := by
  unfold memberDrivenOff
  split <;> rfl

theorem parkView_seqSafe (s : State) : parkView (seqSafe s) = parkView s := by
  unfold seqSafe
  refine (forUpTo_same parkView 16 _ fun i q => ?_).trans ((parkView_completeAll ..).trans (parkView_seqState ..))
  split
  · rfl
  · refine parkView_ite (parkView_ite rfl rfl) ?_
    split
    · exact (parkView_memberDrivenOff ..).trans (parkView_driveEn ..)
    · exact (parkView_memberDrivenOff ..).trans (parkView_seqHostRst ..)
    · rfl

theorem parkView_safeRailMembers (s : State) : parkView (safeRailMembers s) = parkView s := by
  refine parkView_ite rfl (forUpTo_same parkView 16 _ fun i q => ?_)
  split
  · exact parkView_ite rfl rfl
  · rfl

theorem parkView_chgFaultState (s : State) : parkView (chgFaultState s) = parkView s := by
  have hcancel : parkView (revCancel s stFaultState) = parkView s := parkView_ite rfl (parkView_completeAll ..)
  have hend : ∀ q, parkView (revEnd q 2) = parkView q := fun q => parkView_ite (parkView_raise ..) rfl
  exact (hend _).trans hcancel

theorem parkView_railsSafe (s : State) : parkView (forUpTo 8 railSafe s) = parkView s :=
  forUpTo_induct (P := fun q => parkView q = parkView s) 8 rfl fun _ q hn hq => (parkView_railSafe hn q).trans hq

theorem parkView_noted (q : State) (x : Shadows) (d : BitVec 128) :
    parkView (noteLog (noteCount { q with mp := { q.mp with shadows := x } } 6) 3 d) = parkView q := rfl

theorem parkView_faultEnter (s : State) : parkView (faultEnter s) = parkView s := by
  unfold faultEnter
  refine parkView_ite rfl ?_
  extract_lets f s1 s2 s3 s4 src mp sh s5
  have h2 : parkView s2 = parkView s := parkView_seqSafe s1
  have h3 : parkView s3 = parkView s2 := (parkView_safeRailMembers _).trans (parkView_ite (parkView_railsSafe s2) rfl)
  have h4 : parkView s4 = parkView s3 := parkView_ite (parkView_chgFaultState s3) rfl
  exact (parkView_noted s4 ..).trans (h4.trans (h3.trans h2))

theorem parkView_fltLatch (s : State) (k : Nat) (d : Word) (timed : Bool) : parkView (fltLatch s k d timed) = parkView s := by
  unfold fltLatch
  extract_lets f first wasSafe s1 s2
  split
  · rfl
  · exact parkView_raise s2 ..
  · exact parkView_faultEnter s2

/-! ### The start of the host sequence (R376, R437) -/

theorem parkView_flkArm (s : State) : parkView (flkArm s) = parkView s := parkView_ite rfl rfl

theorem parkView_flkUpCheck (s : State) : parkView (flkUpCheck s) = parkView s := parkView_ite (parkView_completeAll ..) rfl

theorem parkView_seqUpEnd (s : State) : parkView (seqUpEnd s) = parkView s := by
  unfold seqUpEnd
  refine parkView_ite ?_ rfl
  extract_lets src s1 s2
  have h1 : parkView s1 = parkView s := (parkView_seqState ..).trans (parkView_ite rfl rfl)
  have h2 : parkView s2 = parkView s := (parkView_raise ..).trans h1
  exact parkView_ite h2 (parkView_ite ((parkView_completeAll ..).trans h2) (parkView_ite ((parkView_flkUpCheck _).trans h2) ((parkView_completeAll ..).trans h2)))

theorem parkView_seqUpStart (s : State) (flock : Bool) : parkView (seqUpStart s flock) = parkView s :=
  (parkView_seqUpEnd _).trans (parkView_seqState ..)

theorem parkView_seqUpBegin (s : State) (ts : List Ticket) : parkView (seqUpBegin s ts) = parkView s :=
  parkView_ite (parkView_completeAll ..) (parkView_ite (parkView_flkArm _) (parkView_seqUpStart ..))

theorem parkView_seqUpReq (s : State) (ts : List Ticket) : parkView (seqUpReq s ts) = parkView s := by
  unfold seqUpReq
  split
  · exact parkView_completeAll ..
  · exact parkView_ite rfl (parkView_ite rfl (parkView_seqUpBegin ..))
  · rfl
  · exact parkView_ite rfl (parkView_completeAll ..)
  · rfl
  · exact parkView_completeAll ..

theorem parkView_mpSeqUp (s : State) : parkView (mpSeqUp s) = parkView s := parkView_ite (parkView_complete ..) (parkView_seqUpReq ..)

end Sys2Proof.Machine
end

section
/-! PROOFS. The statement on parking: what authentications, records and checks of a scan leave of it. -/

namespace Sys2Proof.Machine

variable {s t u : State}

/-! ### The channel table (R117, R201) -/

theorem OnlyCache.parkView (h : OnlyCache s t) : parkView t = parkView s := OnlyReply.parkView (s := { s with ct := { s.ct with cache := t.ct.cache } }) h

theorem parkView_excludeChannel (s : State) (c r : Nat) : parkView (excludeChannel s c r) = parkView s := parkView_raise ..

theorem parkView_takeEntry (s : State) (c : Nat) : parkView (takeEntry s c).1 = parkView s := by
  unfold takeEntry
  dsimp only
  split
  · rfl
  · split
    · rfl
    · split
      · rfl
      · split
        · rfl
        · exact parkView_excludeChannel ..

theorem parkView_seeAll (cs : List Nat) (s : State) : parkView (seeAll cs s) = parkView s := forEach_same parkView cs s fun c q => parkView_takeEntry q c

theorem parkView_takeWay {q : State} {c w : Nat} (h : takeWay s c = some (q, w)) : parkView q = parkView s := by
  unfold takeWay at h
  split at h
  · cases h
    rfl
  · split at h
    · cases h
    next v l _ =>
      cases h
      exact (writeBack_onlyCache v s).parkView

theorem parkView_putLine (s : State) (c w : Nat) (e : Entry) (d p r : Bool) : parkView (putLine s c w e d p r) = parkView s := rfl
theorem parkView_useLine (s : State) (c : Nat) (l : Line) : parkView (useLine s c l) = parkView s := rfl
theorem parkView_setLine (s : State) (c : Nat) (l : Line) : parkView (setLine s c l) = parkView s := rfl

theorem parkView_fetchChannel (s : State) (bad : List Nat) (c : Nat) (p r : Bool) : parkView (fetchChannel s bad c p r).1 = parkView s := by
  unfold fetchChannel
  split
  · exact parkView_useLine ..
  · split
    · rfl
    · split
      · rfl
      · split
        · rfl
        next s1 w hw =>
          have h1 := parkView_takeWay hw
          dsimp only
          split
          · exact (parkView_putLine ..).trans h1
          · exact (parkView_excludeChannel ..).trans h1

theorem parkView_ct (s : State) (x : ChanTable) : parkView { s with ct := x } = parkView s := rfl

theorem parkView_hostPost (s : State) (a : Nat) (bs : List Byte) : parkView (hostPost s a bs) = parkView s := (hostPost_onlyReply ..).parkView

theorem parkView_shadowTake (s : State) (bad : List Nat) (h : Nat) : parkView (shadowTake s bad h).1 = parkView s := by
  unfold shadowTake
  split
  · rfl
  · split
    · rfl
    · dsimp only
      split
      · rfl
      · exact parkView_raise ..

theorem parkView_carryInto (bad : List Nat) (h : Nat) (src : Entry → Entry) (s : State) : parkView (carryInto bad h src s) = parkView s := by
  have htake := parkView_shadowTake s bad h
  unfold carryInto
  generalize shadowTake s bad h = x at htake
  obtain ⟨q, e⟩ := x
  cases e with
  | none => exact htake
  | some e => exact (parkView_ct ..).trans (((parkView_hostPost ..).trans (parkView_hostPost ..)).trans htake)

theorem parkView_carryOne (bad : List Nat) (h : Nat) (s : State) : parkView (carryOne bad h s) = parkView s := by
  have hfresh : ∀ q, parkView (carryFresh bad h q) = parkView q := fun q => parkView_carryInto ..
  unfold carryOne
  split
  · rfl
  · split
    · exact hfresh s
    next c _ =>
      split
      · exact hfresh s
      · have hfetch := parkView_fetchChannel s bad c false false
        generalize fetchChannel s bad c false false = x at hfetch
        obtain ⟨q, r⟩ := x
        split
        next heq => cases heq; exact hfetch
        next heq => cases heq; exact (hfresh _).trans hfetch
        next heq =>
          cases heq
          split
          · exact (parkView_carryInto ..).trans hfetch
          · exact hfetch

theorem parkView_muleRecopy (s : State) : parkView (muleRecopy s) = parkView s := by
  refine parkView_ite rfl (forEach_same parkView _ _ fun k q => ?_)
  have hcarry : ∀ l, parkView (forEach l (carryOne []) q) = parkView q := fun l => forEach_same parkView l q fun h r => parkView_carryOne [] h r
  exact parkView_ite ((parkView_ct ..).trans (hcarry _)) (hcarry _)

theorem parkView_logChange (c : Nat) (s : State) : parkView (logChange c s) = parkView s := by
  unfold logChange
  dsimp only
  refine parkView_ite rfl ?_
  split
  · rfl
  · exact parkView_ite rfl (parkView_ite rfl (parkView_ite (parkView_ite (parkView_hostPost ..) rfl) (parkView_muleRecopy _)))

theorem parkView_reinitChannel (c : Nat) (s : State) : parkView (reinitChannel c s) = parkView s := by
  unfold reinitChannel
  extract_lets fresh hold ox s0 r
  have hr : parkView r.1 = parkView s := parkView_fetchChannel s0 [] c false false
  refine parkView_ite rfl ?_
  split
  · exact (parkView_logChange ..).trans ((parkView_setLine ..).trans hr)
  · exact hr

/-! ### Authentication (R197–R201) -/

theorem parkView_nodeRecord (s : State) (a : Nat) (r : Bool) : parkView (nodeRecord s a r) = parkView s :=
  parkView_ite (OnlyReply.parkView (s := takeFree s) (tsRecord_onlyReply ..)) rfl

theorem parkView_piJudge (s : State) (a : Nat) : parkView (piJudge s a) = parkView s := parkView_ite rfl rfl

theorem parkView_setNodeBit (s : State) (a which : Nat) (v : Bool) : parkView (setNodeBit s a which v) = parkView s := by
  unfold setNodeBit
  extract_lets p k x old put y s1
  exact parkView_ite rfl ((parkView_nodeRecord ..).trans (parkView_ite (parkView_piJudge ..) rfl))

theorem parkView_capExclude (a : Nat) (s : State) : parkView (capExclude a s) = parkView s := by
  refine forEach_same parkView _ _ fun seq q => ?_
  split
  · rfl
  · split
    · rfl
    · dsimp only
      split
      · exact (tsLate_onlyReply _).parkView
      · rfl

theorem parkView_authDone (s : State) (a status : Nat) (r : DWord) : parkView (authDone s a status r) = parkView s := by
  unfold authDone
  split
  · exact parkView_ite (parkView_complete ..) rfl
  · rfl

theorem parkView_enumNote (s : State) (p status : Nat) : parkView (enumNote s p status) = parkView s := by
  unfold enumNote
  split
  · exact parkView_ite rfl rfl
  · rfl

theorem parkView_authFail (s : State) (a reason status : Nat) (serial : BitVec 64) : parkView (authFail s a reason status serial) = parkView s := by
  unfold authFail
  extract_lets n occ s1 s2
  have h1 : parkView s1 = parkView s := (parkView_capExclude ..).trans (parkView_setNodeBit ..)
  have h2 : parkView s2 = parkView s := (parkView_raise ..).trans h1
  exact parkView_ite ((parkView_authDone ..).trans h2) h2

theorem parkView_logged (q : State) (ty k : Nat) (d : BitVec 128) : parkView (noteCount (noteLog q ty d) k) = parkView q := rfl

theorem parkView_serialChanged (s : State) (a : Nat) (old new : BitVec 64) : parkView (serialChanged s a old new) = parkView s :=
  (parkView_logged ..).trans ((forEach_same parkView _ _ fun c q => parkView_reinitChannel c q).trans (parkView_raise ..))

theorem parkView_authPass (s : State) (a : Nat) (serial : BitVec 64) : parkView (authPass s a serial) = parkView s := by
  unfold authPass
  extract_lets n own s0 occ accepted ts held s1 s2 s3
  have hseen : ∀ o : Option Nat, parkView (match o with | some c => seeAll [c] s | none => s) = parkView s := fun o => by
    cases o with
    | none => rfl
    | some c => exact parkView_seeAll ..
  have h0 : parkView s0 = parkView s := hseen own
  have h2 : parkView s2 = parkView s := parkView_ite h0 ((parkView_setNodeBit ..).trans h0)
  have h3 : parkView s3 = parkView s := parkView_ite h2 ((parkView_serialChanged ..).trans h2)
  exact parkView_ite ((parkView_authDone ..).trans h3) h3

theorem parkView_authAnswer (s : State) (a status : Nat) (data : List Byte) : parkView (authAnswer s a status data) = parkView s := by
  unfold authAnswer
  extract_lets n serial
  refine parkView_ite (parkView_authFail ..) (parkView_ite (parkView_authFail ..) ?_)
  split
  · rfl
  · exact parkView_ite (parkView_ite (parkView_authDone ..) (parkView_ite (parkView_enumNote ..) rfl))
      (parkView_ite (parkView_authPass ..) (parkView_authFail ..))

/-! ### A scan (R607) -/

theorem parkView_parkAuth (auths : List (Nat × BitVec 128)) (a : Nat) (s : State) : parkView (parkAuth auths a s) = parkView s := by
  unfold parkAuth
  extract_lets n s1
  refine parkView_ite ?_ rfl
  split
  · exact parkView_authAnswer s1 ..
  · exact parkView_authFail s1 ..

theorem parkView_parkSeen (recs : List (Nat × BitVec 11552)) (lost : List Nat) (a : Nat) (s : State) : parkView (parkSeen recs lost a s) = parkView s := by
  unfold parkSeen
  refine parkView_ite rfl ?_
  dsimp only
  split
  · exact (parkView_setNodeBit ..).trans (parkView_setNodeBit ..)
  · exact parkView_setNodeBit ..

theorem parkView_voltageCheck (s : State) (a : Nat) (counts : Bool) (r : BitVec 11552) : parkView (voltageCheck s a counts r) = parkView s := by
  refine forUpTo_same parkView 8 s fun i q => parkView_ite rfl ?_
  have hline : ∀ (c : Bool) r k w, parkView r = parkView q → parkView (if c then assertLine r k w else r) = parkView q := fun c r k w h =>
    parkView_ite ((parkView_assertLine ..).trans h) h
  exact hline _ _ _ _ (hline _ _ _ _ rfl)

theorem parkView_heatCheck (s : State) (a : Nat) (counts : Bool) (r : BitVec 11552) : parkView (heatCheck s a counts r) = parkView s :=
  parkView_ite rfl (forUpTo_same parkView 16 s fun _ _ => parkView_ite (parkView_assertLine ..) rfl)

theorem parkView_parkFaults (e : Nat × BitVec 11552) (s : State) : parkView (parkFaults e s) = parkView s :=
  (parkView_heatCheck ..).trans ((parkView_voltageCheck ..).trans (parkView_ite (parkView_assertLine ..) rfl))

theorem parkView_syncCheck (s : State) : parkView (syncCheck s) = parkView s := by
  obtain ⟨n, f, h⟩ := syncCheck_lp s
  rw [h]
  rfl

theorem parkView_parkLatch (g : Nat) (s : State) : parkView (parkLatch g s) = parkView s := by
  refine parkView_ite rfl (forEach_same parkView _ _ fun k q => ?_)
  split
  · exact parkView_ite rfl (parkView_fltLatch ..)
  · rfl

end Sys2Proof.Machine
end

section
/-! PROOFS. The statement on parking: requests to power domains, and the start of parking. -/

namespace Sys2Proof.Machine

variable {s t u : State} {k : Nat}

/-! ### A request to a domain (R424–R431) -/

/-- At most the records of the domains differ, and what a completion brings about. -/
def OnlyDoms (s t : State) : Prop := OnlyReply { s with pwr := { s.pwr with doms := t.pwr.doms } } t

theorem OnlyDoms.refl (s : State) : OnlyDoms s s := rfl

theorem OnlyDoms.trans (h1 : OnlyDoms s t) (h2 : OnlyDoms t u) : OnlyDoms s u := by
  unfold OnlyDoms OnlyReply at *
  rw [h2, h1]

theorem OnlyReply.doms (h : OnlyReply s t) : OnlyDoms s t := by
  unfold OnlyDoms OnlyReply at *
  rw [h]

theorem setDom_onlyDoms (s : State) (k : Nat) (d : Domain) : OnlyDoms s (setDom s k d) := rfl

theorem OnlyDoms.parkView (h : OnlyDoms s t) : parkView t = parkView s :=
  OnlyReply.parkView (s := { s with pwr := { s.pwr with doms := t.pwr.doms } }) h

theorem OnlyDoms.frame (h : OnlyDoms s t) : t.lp = s.lp ∧ t.regs = s.regs ∧ t.otp = s.otp ∧ t.mp.parking = s.mp.parking := by
  unfold OnlyDoms OnlyReply at h
  rw [h]
  exact ⟨rfl, rfl, rfl, rfl⟩

theorem domTicket_onlyDoms (s : State) (t : Option Ticket) (st : Nat) (r : DWord) : OnlyDoms s (domTicket s t st r) := by
  unfold domTicket
  split
  · exact .refl s
  · exact (complete_onlyReply ..).doms

theorem OnlyDoms.ite {a b : State} {c : Prop} [Decidable c] (ha : OnlyDoms s a) (hb : OnlyDoms s b) : OnlyDoms s (if c then a else b) := by
  split
  · exact ha
  · exact hb

/-- A start of a domain that is neither PD_CORE nor PD_PCIE. -/
theorem domStart_onlyDoms (h4 : k ≠ 4) (h5 : k ≠ 5) (s : State) (r : DomReq) (save : Bool) : OnlyDoms s (domStart s k r save) := by
  have hdown : ∀ q, domDownStart q k save = q := fun q => (if_neg h4).trans (if_neg h5)
  unfold domStart
  extract_lets early s1 r1 s2 d
  have h1 : OnlyDoms s s1 := .ite (domTicket_onlyDoms ..) (.refl s)
  have h2 : OnlyDoms s s2 := .ite h1 (by rw [hdown]; exact h1)
  exact .ite (domTicket_onlyDoms ..) (h2.trans (setDom_onlyDoms ..))

theorem domAsk_onlyDoms (h4 : k ≠ 4) (h5 : k ≠ 5) (s : State) (target : DomState) (byMp byHost : Bool) : OnlyDoms s (domAsk s k target byMp byHost) := by
  unfold domAsk domRequest
  split
  · exact (setDom_onlyDoms ..).trans (domTicket_onlyDoms ..)
  · extract_lets d s1 d2 s2
    have h1 : OnlyDoms s s1 := setDom_onlyDoms ..
    have h2 : OnlyDoms s s2 := by
      unfold s2
      split
      · exact h1.trans ((setDom_onlyDoms ..).trans (domTicket_onlyDoms ..))
      · exact h1
    exact .ite (h2.trans (setDom_onlyDoms ..)) (.ite (h1.trans (domTicket_onlyDoms ..)) (h1.trans (domStart_onlyDoms h4 h5 ..)))

theorem req_domStart (hk : k < 13) (s : State) (r : DomReq) (save : Bool) : (dom (domStart s k r save) k).req = (dom s k).req := by
  unfold domStart
  extract_lets early s1 r1 s2 d
  refine ite_of (P := fun q => (dom q k).req = (dom s k).req) (fun _ => by rw [dom_domTicket]) fun _ => ?_
  have h1 : dom s1 = dom s := ite_of (P := fun q => dom q = dom s) (fun _ => dom_domTicket) fun _ => rfl
  have h2 : dom s2 = dom s1 := ite_of (P := fun q => dom q = dom s1) (fun _ => rfl) fun _ => dom_domDownStart
  rw [dom_setDom_self hk]
  show (dom s2 k).req = _
  rw [h2, h1]

/-- A domain that is not refused is asked for the state. -/
theorem req_domAsk (hk : k < 13) {target : DomState} {byMp byHost : Bool} (h : domRefusal s k target byMp = none) :
    (dom (domAsk s k target byMp byHost) k).req = target := by
  unfold domAsk domRequest
  rw [h]
  extract_lets d s1 d2 s2
  have h1 : (dom s1 k).req = target := congrArg Domain.req (dom_setDom_self hk)
  have h2 : (dom s2 k).req = target := by
    unfold s2
    split
    · rw [dom_domTicket, dom_setDom_self hk]
      exact h1
    · exact h1
  refine ite_of (P := fun q => (dom q k).req = target) (fun _ => ?_) fun _ =>
    ite_of (P := fun q => (dom q k).req = target) (fun _ => by rw [dom_domTicket]; exact h1) fun _ => (req_domStart hk ..).trans h1
  rw [dom_setDom_self hk]
  exact h2

theorem domRefusal_group {g : Nat} (hg : g < 4) (s : State) (target : DomState) : domRefusal s (6 + g) target true = none := by
  have h10 : ∀ x : DomState, (decide (target = x) && decide (6 + g = 10)) = false := fun x => by
    rw [show decide (6 + g = 10) = false from decide_eq_false (by omega), Bool.and_false]
  have hlow : (decide (6 + g ≤ 2) && decide (target ≠ .on)) = false := by
    rw [show decide (6 + g ≤ 2) = false from decide_eq_false (by omega), Bool.false_and]
  unfold domRefusal
  rw [if_neg (by rw [h10]; exact Bool.false_ne_true), if_neg (by rw [hlow]; exact Bool.false_ne_true), if_neg (by simp), if_neg (by simp; omega)]

/-! ### The start of parking (R605) -/

/-- What a group is asked for as parking begins. -/
def groupAsked (gs : BitVec 4) (s : State) (g : Nat) (d : Domain) : Prop :=
  (bitOf gs g = false → (dom s (6 + g)).state ≠ .off → d.req = .off) ∧
  (bitOf gs g = true → domOff s (6 + g) = false → unenumerated s g = [] → d.req = .retention) ∧
  (bitOf gs g = true → (domOff s (6 + g) = true ∨ unenumerated s g ≠ []) → d.req = .on)

theorem parkGroup_onlyDoms {g : Nat} (hg : g < 4) (gs : BitVec 4) (s : State) : OnlyDoms s (parkGroup gs g s) := by
  have hask : ∀ t b c, OnlyDoms s (domAsk s (6 + g) t b c) := fun t b c => domAsk_onlyDoms (by omega) (by omega) ..
  exact .ite (.ite (.refl s) (hask ..)) (.ite (hask ..) (hask ..))

theorem dom_parkGroup_other {g j : Nat} (h : j ≠ 6 + g) (gs : BitVec 4) (s : State) : dom (parkGroup gs g s) j = dom s j := by
  have hask : ∀ t b c, dom (domAsk s (6 + g) t b c) j = dom s j := fun t b c => dom_domAsk_other (Ne.symm h)
  exact ite_of (P := fun q => dom q j = dom s j) (fun _ => ite_of (P := fun q => dom q j = dom s j) (fun _ => rfl) fun _ => hask ..)
    fun _ => ite_of (P := fun q => dom q j = dom s j) (fun _ => hask ..) fun _ => hask ..

theorem parkGroup_asked {g : Nat} (hg : g < 4) (gs : BitVec 4) (s : State) : groupAsked gs s g (dom (parkGroup gs g s) (6 + g)) := by
  have hask : ∀ t, (dom (domAsk s (6 + g) t true false) (6 + g)).req = t := fun t => req_domAsk (by omega) (domRefusal_group hg s t)
  unfold groupAsked parkGroup
  dsimp only
  cases hb : bitOf gs g with
  | false =>
    refine ⟨fun _ hoff => ?_, fun h => absurd h Bool.false_ne_true, fun h => absurd h Bool.false_ne_true⟩
    have hd : domOff s (6 + g) = false := decide_eq_false hoff
    rw [if_pos (by rfl), hd, if_neg Bool.false_ne_true]
    exact hask .off
  | true =>
    refine ⟨fun h => absurd h.symm Bool.false_ne_true, fun _ hoff hnone => ?_, fun _ hor => ?_⟩
    · rw [if_neg (by exact Bool.false_ne_true), hoff, hnone, if_neg (by exact Bool.false_ne_true)]
      exact hask .retention
    · have hor' : (domOff s (6 + g) || !(unenumerated s g).isEmpty) = true := by
        rcases hor with h | h
        · rw [h]
          rfl
        · rw [Bool.or_eq_true]
          right
          simpa using h
      rw [if_neg (by exact Bool.false_ne_true), hor', if_pos rfl]
      exact hask .on

theorem unenumerated_congr (hlp : t.lp = s.lp) (hr : t.regs = s.regs) (ho : t.otp = s.otp) (g : Nat) : unenumerated t g = unenumerated s g := by
  unfold unenumerated groupPorts flag rd port
  rw [hlp, hr, ho]

theorem groupAsked_congr {gs : BitVec 4} {g : Nat} {d : Domain} (hd : dom t (6 + g) = dom s (6 + g)) (hu : unenumerated t g = unenumerated s g)
    (h : groupAsked gs t g d) : groupAsked gs s g d := by
  have hoff : domOff t (6 + g) = domOff s (6 + g) := by
    show decide ((dom t (6 + g)).state = .off) = decide ((dom s (6 + g)).state = .off)
    rw [hd]
  unfold groupAsked at *
  rw [hd, hoff, hu] at h
  exact h

/-- Every group has been asked. -/
theorem parkGroups_asked (gs : BitVec 4) (s : State) : let t := forUpTo 4 (parkGroup gs) s
    (∀ g, g < 4 → groupAsked gs s g (dom t (6 + g))) ∧ OnlyDoms s t := by
  have h := forUpTo_indexed (n := 4) (s := s) (f := parkGroup gs)
    (P := fun m q => (∀ g, g < m → groupAsked gs s g (dom q (6 + g))) ∧ (∀ g, m ≤ g → dom q (6 + g) = dom s (6 + g)) ∧ OnlyDoms s q)
    ⟨fun _ hg => absurd hg (Nat.not_lt_zero _), fun _ _ => rfl, .refl s⟩ fun m q hm hq => by
      obtain ⟨hlow, hhigh, honly⟩ := hq
      obtain ⟨hlp, hregs, hotp, -⟩ := honly.frame
      refine ⟨fun g hg => ?_, fun g hg => ?_, honly.trans (parkGroup_onlyDoms hm gs q)⟩
      · by_cases hgm : g = m
        · rw [hgm]
          exact groupAsked_congr (hhigh m (Nat.le_refl m)) (unenumerated_congr hlp hregs hotp m) (parkGroup_asked hm gs q)
        · rw [dom_parkGroup_other (by omega)]
          exact hlow g (by omega)
      · rw [dom_parkGroup_other (by omega)]
        exact hhigh g (by omega)
  exact ⟨h.1, h.2.2⟩

/-- Asking PD_PCIE leaves what the MP keeps of parking. -/
theorem parking_domAsk_pcie (s : State) (target : DomState) (byMp byHost : Bool) : (domAsk s 5 target byMp byHost).mp.parking = s.mp.parking := by
  have hup : ∀ q : State, (evUpdate q).mp.parking = q.mp.parking := fun q => by
    have h := (evUpdate_onlyEvents q).reply.parkView
    exact congrArg ParkView.parking h
  have hqueue : ∀ q : State, (queueStateReset q).mp.parking = q.mp.parking := fun _ => rfl
  have hdown : ∀ (q : State) save, (domDownStart q 5 save).mp.parking = q.mp.parking := fun q save => by
    unfold domDownStart
    rw [if_neg (by decide), if_pos rfl]
    exact ite_of (P := fun r : State => r.mp.parking = q.mp.parking) (fun _ => (hup _).trans (hqueue _)) fun _ => (hup _).trans (hqueue _)
  have hticket : ∀ (q : State) t st r, (domTicket q t st r).mp.parking = q.mp.parking := fun q t st r => (domTicket_onlyDoms q t st r).frame.2.2.2
  have hstart : ∀ (q : State) r save, (domStart q 5 r save).mp.parking = q.mp.parking := fun q r save => by
    unfold domStart
    extract_lets early s1 r1 s2 d
    have h1 : s1.mp.parking = q.mp.parking := ite_of (P := fun r : State => r.mp.parking = q.mp.parking) (fun _ => hticket ..) fun _ => rfl
    have h2 : s2.mp.parking = q.mp.parking := ite_of (P := fun r : State => r.mp.parking = q.mp.parking) (fun _ => h1) fun _ => (hdown ..).trans h1
    exact ite_of (P := fun r : State => r.mp.parking = q.mp.parking) (fun _ => hticket ..) fun _ => h2
  unfold domAsk domRequest
  split
  · exact hticket ..
  · extract_lets d s1 d2 s2
    have h1 : s1.mp.parking = s.mp.parking := rfl
    have h2 : s2.mp.parking = s.mp.parking := by
      unfold s2
      split
      · exact (hticket ..).trans h1
      · exact h1
    exact ite_of (P := fun r : State => r.mp.parking = s.mp.parking) (fun _ => h2) fun _ =>
      ite_of (P := fun r : State => r.mp.parking = s.mp.parking) (fun _ => hticket ..) fun _ => hstart ..

/-- The statement on the start of parking. -/
theorem parkingStart_answers (hr : mpRuns s = true) (h4 : (dom s 4).state ≠ .on) (hg : parkGroups s ≠ 0) (ha : s.mp.parking.active = false) :
    Answers .parkingStart s fun t => t.mp.parking.active = true ∧ t.mp.parking.groups = parkGroups s ∧ t.mp.parking.scans = 0 ∧
      t.mp.parking.charge = 0 ∧ t.mp.parking.runs = List.replicate 16 0 ∧ t.mp.parking.dueMs = [0, 0, 0, 0] ∧
      ∀ g, g < 4 → groupAsked (parkGroups s) s g (dom t (6 + g)) := by
  have hexec : exec .parkingStart s = .next (parkStart s) := by
    refine congrArg Host.Outcome.next (if_pos ?_)
    rw [hr, decide_eq_true h4, decide_eq_true hg, ha]
    rfl
  refine ⟨parkStart s, hexec, ?_⟩
  unfold parkStart
  extract_lets gs p s1 s2
  obtain ⟨hasked, honly⟩ := parkGroups_asked gs s1
  obtain ⟨-, -, -, hpark⟩ := honly.frame
  have hlast : ∀ c : Bool, (if c then domAsk s2 5 .off true false else s2).mp.parking = s2.mp.parking := fun c =>
    ite_of (P := fun r : State => r.mp.parking = s2.mp.parking) (fun _ => parking_domAsk_pcie ..) fun _ => rfl
  have hdom : ∀ (c : Bool) g, dom (if c then domAsk s2 5 .off true false else s2) (6 + g) = dom s2 (6 + g) := fun c g =>
    ite_of (P := fun r : State => dom r (6 + g) = dom s2 (6 + g)) (fun _ => dom_domAsk_other (by omega)) fun _ => rfl
  rw [hlast, show s2.mp.parking = s1.mp.parking from hpark]
  refine ⟨rfl, rfl, rfl, rfl, rfl, rfl, fun g hg => ?_⟩
  rw [hdom]
  exact groupAsked_congr (t := s1) rfl rfl (hasked g hg)

end Sys2Proof.Machine
end

section
/-! PROOFS. The statement on parking: the checks of a scan and the wake of the host. -/

namespace Sys2Proof.Machine

variable {s t u q : State} {g k : Nat}

/-! ### The wake of the host (R38, R437, R609) -/

theorem dom_wakeHost (hk : k ≠ 10) (s : State) (code : Nat) : dom (wakeHost s code) k = dom s k := by
  have hup : ∀ q, dom (mpSeqUp q) k = dom q k := fun q => mpSeqUp_kept (K := domAt_kept k _) rfl
  exact ite_of (P := fun q => dom q k = dom s k) (fun _ => rfl) fun _ =>
    ite_of (P := fun q => dom q k = dom s k) (fun _ => dom_domAsk_other (Ne.symm hk)) fun _ => hup _

/-- The wake is recorded with its code; of parking only that it waits for PD_REGC may change. -/
theorem wakeHost_wakes (s : State) (code : Nat) : let t := wakeHost s code
    (∃ w, t.mp.parking = { s.mp.parking with wakeWait := w }) ∧ t.mp.lastCode = s.mp.lastCode ∧ t.mp.parkNode = s.mp.parkNode ∧
    t.mp.parkScans = s.mp.parkScans ∧ t.pwr.wake.host = true ∧ t.pwr.wake.code = BitVec.ofNat 8 code ∧ (s.seq.state = .up → t.wakeMp = true) := by
  intro t
  have hview : ∀ {q r : State}, parkView r = parkView q → r.mp.parking = q.mp.parking ∧ r.mp.lastCode = q.mp.lastCode ∧ r.mp.parkNode = q.mp.parkNode ∧
      r.mp.parkScans = q.mp.parkScans ∧ r.pwr.wake = q.pwr.wake := fun h =>
    ⟨congrArg ParkView.parking h, congrArg ParkView.lastCode h, congrArg ParkView.parkNode h, congrArg ParkView.parkScans h, congrArg ParkView.wake h⟩
  by_cases hup : s.seq.state = .up
  · have ht : t = { recordWake s true code with wakeMp := true } := if_pos hup
    rw [ht]
    exact ⟨⟨_, rfl⟩, rfl, rfl, rfl, rfl, rfl, fun _ => rfl⟩
  · have ht : t = if hasRailMember (recordWake s true code) && !domOn (recordWake s true code) 10 then
        domAsk (setPark (recordWake s true code) { (recordWake s true code).mp.parking with wakeWait := true }) 10 .on true false
      else mpSeqUp (recordWake s true code) := if_neg hup
    rw [ht]
    split
    · obtain ⟨h1, h2, h3, h4, h5⟩ := hview (domAsk_onlyDoms (k := 10) (by decide) (by decide)
        (setPark (recordWake s true code) { (recordWake s true code).mp.parking with wakeWait := true }) .on true false).parkView
      rw [h1, h2, h3, h4, h5]
      exact ⟨⟨true, rfl⟩, rfl, rfl, rfl, rfl, rfl, fun h => absurd h hup⟩
    · obtain ⟨h1, h2, h3, h4, h5⟩ := hview (parkView_mpSeqUp (recordWake s true code))
      rw [h1, h2, h3, h4, h5]
      exact ⟨⟨s.mp.parking.wakeWait, rfl⟩, rfl, rfl, rfl, rfl, rfl, fun h => absurd h hup⟩

/-! ### The checks (Table 14-4) -/

/-- The scans in a row in which check `c` of group `g` has held, with this one. -/
def checkRun (p : Parking) (g : Nat) (hit : Nat → Option Nat) (c : Nat) : Nat :=
  if (hit c).isSome then ((p.runs[4 * g + c]?).getD 0) + 1 else 0

/-- The check wakes the host now. -/
def checkDue (s : State) (g : Nat) (hit : Nat → Option Nat) (c : Nat) : Prop :=
  parkPersist s ≤ checkRun s.mp.parking g hit c ∧ (s.mp.parking.woken[4 * g + c]?).getD false = false

/-- Values put into a row of places of a list. -/
theorem getElem?_rowSet {α : Type} (b : Nat) (f : Nat → α) (l : List α) : ∀ n, let r := (List.range n).foldl (fun t c => listSet t (b + c) (f c)) l
    r.length = l.length ∧ ∀ c, c < n → b + c < l.length → r[b + c]? = some (f c)
  | 0 => ⟨rfl, fun _ h => absurd h (Nat.not_lt_zero _)⟩
  | n + 1 => by
    obtain ⟨hlen, hget⟩ := getElem?_rowSet b f l n
    rw [List.range_succ, List.foldl_append, List.foldl_cons, List.foldl_nil]
    refine ⟨(listSet_length ..).trans hlen, fun c hc hb => ?_⟩
    rw [listSet_getElem?]
    by_cases hcn : c = n
    · rw [hcn, if_pos ⟨rfl, by rw [hlen]; omega⟩]
    · rw [if_neg (by omega)]
      exact hget c (by omega) hb

/-- The state in which a check's wake is reported. -/
def wakeNoted (q : State) (c a : Nat) : State :=
  noteLog (noteCount (setMp q { q.mp with lastCode := 0x30 + c, parkNode := a, parking := { q.mp.parking with lastCode := 0x30 + c, node := a } }) 13)
    11 (pack 128 [(0, 32, 0x30 + c), (32, 32, a)])

theorem dom_wakeNoted (q : State) (c a k : Nat) : dom (wakeNoted q c a) k = dom q k := rfl

theorem parking_wakeNoted (q : State) (c a : Nat) : (wakeNoted q c a).mp.parking = { q.mp.parking with lastCode := 0x30 + c, node := a } := rfl

theorem dom_setPark (q : State) (p : Parking) (k : Nat) : dom (setPark q p) k = dom q k := rfl

/-- The runs and the woken checks after a scan. -/
theorem parkJudge_cases (q : State) (g : Nat) (recs : List (Nat × BitVec 11552)) (lost : List Nat) :
    ∃ runs woken, (q.mp.parking.runs.length = 16 → g < 4 → ∀ c, c < 4 →
        (runs[4 * g + c]?).getD 0 = checkRun q.mp.parking g (parkCheck q g recs lost) c) ∧
      (((∀ c, c < 4 → ¬ checkDue q g (parkCheck q g recs lost) c) ∧ parkJudge q g recs lost = setPark q { q.mp.parking with runs := runs, woken := woken }) ∨
      ∃ c, c < 4 ∧ checkDue q g (parkCheck q g recs lost) c ∧ (∀ j, j < c → ¬ checkDue q g (parkCheck q g recs lost) j) ∧
        parkJudge q g recs lost = wakeHost (wakeNoted (setPark q { q.mp.parking with runs := runs, woken := woken }) c
          ((parkCheck q g recs lost c).getD 0)) (0x30 + c)) := by
  unfold parkJudge
  extract_lets hits run due runs woken p s1
  have hhit : ∀ c, c < 4 → (hits[c]?).getD none = parkCheck q g recs lost c := fun c hc => by
    show (((List.range 4).map (parkCheck q g recs lost))[c]?).getD none = _
    rw [List.getElem?_map, List.getElem?_range hc]
    rfl
  have hrun : ∀ c, c < 4 → run c = checkRun q.mp.parking g (parkCheck q g recs lost) c := fun c hc => by
    unfold run checkRun
    rw [hhit c hc]
    cases parkCheck q g recs lost c <;> rfl
  have hdue : ∀ c, c ∈ due ↔ c < 4 ∧ checkDue q g (parkCheck q g recs lost) c := fun c => by
    unfold due checkDue
    rw [List.mem_filter, List.mem_range]
    refine and_congr_right fun hc => ?_
    rw [hrun c hc, Bool.and_eq_true, decide_eq_true_eq, Bool.not_eq_true']
  have hsorted : due.Pairwise (· < ·) := List.pairwise_lt_range.filter _
  refine ⟨runs, woken, fun hlen hg c hc => ?_, ?_⟩
  · have hrow := (getElem?_rowSet (4 * g) run q.mp.parking.runs 4).2 c hc (by omega)
    rw [show runs[4 * g + c]? = some (run c) from hrow, ← hrun c hc]
    rfl
  · clear_value due
    cases due with
    | nil => exact .inl ⟨fun c hc hd => List.not_mem_nil ((hdue c).mpr ⟨hc, hd⟩), rfl⟩
    | cons c l =>
      obtain ⟨hc, hd⟩ := (hdue c).mp List.mem_cons_self
      refine .inr ⟨c, hc, hd, fun j hj hjd => ?_, ?_⟩
      · have hmem := (hdue j).mpr ⟨by omega, hjd⟩
        rcases List.mem_cons.mp hmem with h | h
        · omega
        · have := (List.pairwise_cons.mp hsorted).1 j h
          omega
      · dsimp only
        rw [hhit c hc]
        rfl

/-- What a scan's checks leave and bring about. -/
theorem parkJudge_judges (q : State) {g : Nat} (hg : g < 4) (recs : List (Nat × BitVec 11552)) (lost : List Nat) : let t := parkJudge q g recs lost
    let hit := parkCheck q g recs lost
    t.mp.parkScans = q.mp.parkScans ∧ t.mp.parking.scans = q.mp.parking.scans ∧ t.mp.parking.active = q.mp.parking.active ∧
    t.mp.parking.dueMs = q.mp.parking.dueMs ∧
    (∀ c, c < 4 → q.mp.parking.runs.length = 16 → (t.mp.parking.runs[4 * g + c]?).getD 0 = checkRun q.mp.parking g hit c) ∧
    (∀ k, k ≠ 10 → dom t k = dom q k) ∧
    (∀ c a, c < 4 → hit c = some a → checkDue q g hit c → (∀ j, j < c → ¬ checkDue q g hit j) → t.mp.lastCode = 0x30 + c ∧ t.mp.parkNode = a ∧
      t.pwr.wake.code = BitVec.ofNat 8 (0x30 + c) ∧ t.pwr.wake.host = true ∧ (q.seq.state = .up → t.wakeMp = true)) ∧
    ((∀ c, c < 4 → ¬ checkDue q g hit c) → t.mp.lastCode = q.mp.lastCode ∧ t.mp.parkNode = q.mp.parkNode ∧ t.pwr.wake = q.pwr.wake ∧
      t.wakeMp = q.wakeMp) := by
  intro t hit
  obtain ⟨runs, woken, hruns, hcases⟩ := parkJudge_cases q g recs lost
  have ht : t = parkJudge q g recs lost := rfl
  rw [← ht] at hcases
  clear_value t
  rcases hcases with ⟨hnone, ht⟩ | ⟨c, hc, hdue, hfirst, ht⟩
  · rw [ht]
    exact ⟨rfl, rfl, rfl, rfl, fun c hc hlen => hruns hlen hg c hc, fun _ _ => rfl, fun c _ hc _ hd _ => absurd hd (hnone c hc), fun _ => ⟨rfl, rfl, rfl, rfl⟩⟩
  · obtain ⟨⟨w, hpark⟩, hcode, hnode, hscans, hhost, hwake, hmp⟩ := wakeHost_wakes
      (wakeNoted (setPark q { q.mp.parking with runs := runs, woken := woken }) c ((parkCheck q g recs lost c).getD 0)) (0x30 + c)
    have hdom : ∀ k, k ≠ 10 → dom t k = dom q k := fun k hk => by
      rw [ht, dom_wakeHost hk, dom_wakeNoted, dom_setPark]
    rw [← ht] at hpark hcode hnode hscans hhost hwake hmp
    rw [parking_wakeNoted, setPark_parking] at hpark
    refine ⟨hscans, by rw [hpark], by rw [hpark], by rw [hpark], fun j hj hlen => ?_, hdom,
      fun j a hj ha hd hf => ?_, fun h => absurd hdue (h c hc)⟩
    · rw [hpark]
      exact hruns hlen hg j hj
    · have hjc : j = c := by
        rcases Nat.lt_trichotomy j c with h | h | h
        · exact absurd hd (hfirst j h)
        · exact h
        · exact absurd hdue (hf c h)
      have hget : (parkCheck q g recs lost c).getD 0 = a := by
        rw [← hjc, show parkCheck q g recs lost j = some a from ha]
        rfl
      rw [hjc]
      exact ⟨hcode, hnode.trans hget, hwake, hhost, hmp⟩

end Sys2Proof.Machine
end

section
/-! PROOFS. The statement on parking: a scan. -/

namespace Sys2Proof.Machine

variable {s t u : State} {g : Nat} {recs : List (Nat × BitVec 11552)} {lost : List Nat} {auths : List (Nat × BitVec 128)} {acc : Option (BitVec 48 × Nat)}

/-! ### A scan (R607) -/

/-- The scan is taken: the group's next one is due in the next second. -/
def scanTaken (s : State) (g ms : Nat) : State :=
  setPark s { s.mp.parking with dueMs := listSet s.mp.parking.dueMs g (1000 * (ms / 1000 + 1)) }

/-- The due authentications are made. -/
def scanAuthed (q : State) (g : Nat) (auths : List (Nat × BitVec 128)) : State :=
  forEach ((q.lp.nodes.map Prod.fst).filter fun a => a / 128 = g) (parkAuth auths) q

/-- The nodes found missing or unsynchronised are marked. -/
def scanSeen (z : State) (g : Nat) (recs : List (Nat × BitVec 11552)) (lost : List Nat) : State :=
  forEach ((z.lp.nodes.map Prod.fst).filter fun a => a / 128 = g) (parkSeen recs lost) z

/-- The records that count. -/
def scanMine (v : State) (g : Nat) (recs : List (Nat × BitVec 11552)) : List (Nat × BitVec 11552) :=
  recs.filter fun e => e.1 / 128 = g && nodeGood v e.1 && !(node v e.1).unrestored && !(node v e.1).restoring

/-- The fault checks are made, and what they assert latches. -/
def scanChecked (v : State) (g : Nat) (mine : List (Nat × BitVec 11552)) : State :=
  parkLatch g (forUpTo 3 (fun _ q => syncCheck q) (forEach mine parkFaults v))

/-- The state in which the checks of parking are read. -/
def scanJudged (q : State) (g : Nat) (recs : List (Nat × BitVec 11552)) (lost : List Nat) (auths : List (Nat × BitVec 128)) : State :=
  let v := scanSeen (scanAuthed q g auths) g recs lost
  scanChecked v g (scanMine v g recs)

theorem parkView_scanJudged (q : State) (g : Nat) (recs : List (Nat × BitVec 11552)) (lost : List Nat) (auths : List (Nat × BitVec 128)) :
    parkView (scanJudged q g recs lost auths) = parkView q := by
  have hauth : parkView (scanAuthed q g auths) = parkView q := forEach_same parkView _ _ fun a r => parkView_parkAuth auths a r
  have hseen : ∀ z, parkView (scanSeen z g recs lost) = parkView z := fun z => forEach_same parkView _ _ fun a r => parkView_parkSeen recs lost a r
  have hcheck : ∀ v mine, parkView (scanChecked v g mine) = parkView v := fun v mine =>
    (parkView_parkLatch ..).trans ((forUpTo_same parkView 3 _ fun _ r => parkView_syncCheck r).trans
      (forEach_same parkView mine v fun e r => parkView_parkFaults e r))
  exact (hcheck ..).trans ((hseen _).trans hauth)

/-- The scan is counted. -/
def scanCounted (y : State) : State :=
  setMp y { y.mp with parkScans := satInc y.mp.parkScans, parking := { y.mp.parking with scans := y.mp.parking.scans + 1 } }

/-- Charge is recorded in the parking state and the parking block alone (R608). -/
theorem parkAcc_records (s : State) (acc : Option (BitVec 48 × Nat)) : ∃ p al ch rm, parkAcc s acc =
    { s with park := p, mp := { s.mp with parking := { s.mp.parking with accLast := al, charge := ch, rem := rm } } } := by
  unfold parkAcc
  cases acc with
  | none => exact ⟨s.park, s.mp.parking.accLast, s.mp.parking.charge, s.mp.parking.rem, rfl⟩
  | some x =>
    obtain ⟨v, ms⟩ := x
    dsimp only
    split
    · split
      · exact ⟨s.park, some (v, ms), s.mp.parking.charge, s.mp.parking.rem, rfl⟩
      · exact ⟨_, some (v, ms), _, _, rfl⟩
    · exact ⟨s.park, some (v, ms), s.mp.parking.charge, s.mp.parking.rem, rfl⟩

/-- The state before the checks of parking: counted, and with its charge. -/
def scanCharged (q : State) (g : Nat) (recs : List (Nat × BitVec 11552)) (acc : Option (BitVec 48 × Nat)) (lost : List Nat) (auths : List (Nat × BitVec 128)) : State :=
  if bitsOf (scanSeen (scanAuthed q g auths) g recs lost).mp.parking.consts 80 9 / 128 = g then
    parkAcc (scanCounted (scanJudged q g recs lost auths)) acc else scanCounted (scanJudged q g recs lost auths)

theorem parkScan_eq (q : State) (g : Nat) (recs : List (Nat × BitVec 11552)) (acc : Option (BitVec 48 × Nat)) (lost : List Nat) (auths : List (Nat × BitVec 128)) :
    parkScan q g recs acc lost auths =
      parkJudge (scanCharged q g recs acc lost auths) g (scanMine (scanSeen (scanAuthed q g auths) g recs lost) g recs) lost := by
  have hauth : forEach ((q.lp.nodes.map Prod.fst).filter fun a => a / 128 = g) (parkAuth auths) q = scanAuthed q g auths := rfl
  have hseen : ∀ z : State, forEach ((z.lp.nodes.map Prod.fst).filter fun a => a / 128 = g) (parkSeen recs lost) z = scanSeen z g recs lost := fun _ => rfl
  unfold parkScan scanCharged scanJudged
  dsimp only
  rw [hauth, hseen]
  generalize scanSeen (scanAuthed q g auths) g recs lost = v
  unfold scanCounted scanChecked scanMine
  with_reducible rfl

/-- A counted scan with its charge. -/
def scanRecorded (y : State) (p : Option ParkState) (al : Option (BitVec 48 × Nat)) (ch : Int) (rm : Sparse Int) : State :=
  { y with
    park := p
    mp := { y.mp with parkScans := satInc y.mp.parkScans
                      parking := { y.mp.parking with scans := y.mp.parking.scans + 1, accLast := al, charge := ch, rem := rm } } }

theorem parkAcc_scanCounted (y : State) (acc : Option (BitVec 48 × Nat)) : ∃ p al ch rm, parkAcc (scanCounted y) acc = scanRecorded y p al ch rm := by
  obtain ⟨p, al, ch, rm, h⟩ := parkAcc_records (scanCounted y) acc
  exact ⟨p, al, ch, rm, h⟩

theorem scanCounted_eq (y : State) : scanCounted y = scanRecorded y y.park y.mp.parking.accLast y.mp.parking.charge y.mp.parking.rem := rfl

theorem scanCharged_eq (q : State) (g : Nat) (recs : List (Nat × BitVec 11552)) (acc : Option (BitVec 48 × Nat)) (lost : List Nat) (auths : List (Nat × BitVec 128)) :
    ∃ p al ch rm, scanCharged q g recs acc lost auths = scanRecorded (scanJudged q g recs lost auths) p al ch rm := by
  unfold scanCharged
  split
  · exact parkAcc_scanCounted ..
  · exact ⟨_, _, _, _, scanCounted_eq _⟩

theorem parkCheck_scanRecorded (y : State) (p : Option ParkState) (al : Option (BitVec 48 × Nat)) (ch : Int) (rm : Sparse Int) (g : Nat)
    (recs : List (Nat × BitVec 11552)) (lost : List Nat) : parkCheck (scanRecorded y p al ch rm) g recs lost = parkCheck y g recs lost := rfl

theorem parkPersist_congr (h : rd t 0xA010 = rd s 0xA010) : parkPersist t = parkPersist s := by
  unfold parkPersist fld
  rw [h]

/-- A check is due by the persistence, the runs and the woken checks from before the scan. -/
theorem checkDue_scanRecorded {y q : State} (h : parkView y = parkView q) (p : Option ParkState) (al : Option (BitVec 48 × Nat)) (ch : Int)
    (rm : Sparse Int) (g : Nat) (hit : Nat → Option Nat) (c : Nat) : checkDue (scanRecorded y p al ch rm) g hit c ↔ checkDue q g hit c := by
  have hpersist : parkPersist (scanRecorded y p al ch rm) = parkPersist q :=
    parkPersist_congr ((show rd (scanRecorded y p al ch rm) 0xA010 = rd y 0xA010 from rfl).trans (congrArg ParkView.config h))
  have hruns : (scanRecorded y p al ch rm).mp.parking.runs = q.mp.parking.runs := congrArg (fun v => v.parking.runs) h
  have hwoken : (scanRecorded y p al ch rm).mp.parking.woken = q.mp.parking.woken := congrArg (fun v => v.parking.woken) h
  unfold checkDue checkRun
  rw [hpersist, hruns, hwoken]

/-- What the checks of a scan leave and bring about, told of the state before the scan. -/
theorem scanRecorded_judges {y q : State} (h : parkView y = parkView q) {g : Nat} (hg : g < 4) (p : Option ParkState) (al : Option (BitVec 48 × Nat))
    (ch : Int) (rm : Sparse Int) (recs : List (Nat × BitVec 11552)) (lost : List Nat) : let t := parkJudge (scanRecorded y p al ch rm) g recs lost
    let hit := parkCheck y g recs lost
    t.mp.parking.scans = q.mp.parking.scans + 1 ∧ t.mp.parkScans = satInc q.mp.parkScans ∧ t.mp.parking.active = q.mp.parking.active ∧
    t.mp.parking.dueMs = q.mp.parking.dueMs ∧
    (∀ c, c < 4 → q.mp.parking.runs.length = 16 → (t.mp.parking.runs[4 * g + c]?).getD 0 = checkRun q.mp.parking g hit c) ∧
    (∀ k, k ≠ 10 → dom t k = dom y k) ∧
    (∀ c a, c < 4 → hit c = some a → checkDue q g hit c → (∀ j, j < c → ¬ checkDue q g hit j) → t.mp.lastCode = 0x30 + c ∧ t.mp.parkNode = a ∧
      t.pwr.wake.code = BitVec.ofNat 8 (0x30 + c) ∧ t.pwr.wake.host = true ∧ (y.seq.state = .up → t.wakeMp = true)) ∧
    ((∀ c, c < 4 → ¬ checkDue q g hit c) → t.mp.lastCode = q.mp.lastCode ∧ t.mp.parkNode = q.mp.parkNode ∧ t.pwr.wake = q.pwr.wake ∧
      t.wakeMp = q.wakeMp) := by
  have hpark : y.mp.parking = q.mp.parking := congrArg ParkView.parking h
  have hscans : y.mp.parkScans = q.mp.parkScans := congrArg ParkView.parkScans h
  obtain ⟨h1, h2, h3, h4, h5, h6, h7, h8⟩ := parkJudge_judges (scanRecorded y p al ch rm) hg recs lost
  rw [parkCheck_scanRecorded] at h5 h7 h8
  simp only [checkDue_scanRecorded h] at h7 h8
  intro t hit
  refine ⟨h2.trans ?_, h1.trans (congrArg satInc hscans), h3.trans (congrArg (fun v => v.parking.active) h), h4.trans (congrArg (fun v => v.parking.dueMs) h),
    fun c hc hlen => ?_, h6, h7, fun hnone => ?_⟩
  · exact congrArg (fun v => v.scans + 1) hpark
  · have hruns : (scanRecorded y p al ch rm).mp.parking.runs = q.mp.parking.runs := congrArg (fun v => v.parking.runs) h
    refine (h5 c hc (by rw [hruns]; exact hlen)).trans ?_
    unfold checkRun
    rw [hruns]
  · obtain ⟨e1, e2, e3, e4⟩ := h8 hnone
    exact ⟨e1.trans (congrArg ParkView.lastCode h), e2.trans (congrArg ParkView.parkNode h), e3.trans (congrArg ParkView.wake h),
      e4.trans (congrArg ParkView.wakeMp h)⟩

/-- What a scan leaves and brings about. -/
theorem parkScan_scans (q : State) {g : Nat} (hg : g < 4) (recs : List (Nat × BitVec 11552)) (acc : Option (BitVec 48 × Nat)) (lost : List Nat)
    (auths : List (Nat × BitVec 128)) : let t := parkScan q g recs acc lost auths
    let y := scanJudged q g recs lost auths
    let hit := parkCheck y g (scanMine (scanSeen (scanAuthed q g auths) g recs lost) g recs) lost
    t.mp.parking.scans = q.mp.parking.scans + 1 ∧ t.mp.parkScans = satInc q.mp.parkScans ∧ t.mp.parking.active = q.mp.parking.active ∧
    t.mp.parking.dueMs = q.mp.parking.dueMs ∧
    (∀ c, c < 4 → q.mp.parking.runs.length = 16 → (t.mp.parking.runs[4 * g + c]?).getD 0 = checkRun q.mp.parking g hit c) ∧
    (∀ k, k ≠ 10 → dom t k = dom y k) ∧
    (∀ c a, c < 4 → hit c = some a → checkDue q g hit c → (∀ j, j < c → ¬ checkDue q g hit j) → t.mp.lastCode = 0x30 + c ∧ t.mp.parkNode = a ∧
      t.pwr.wake.code = BitVec.ofNat 8 (0x30 + c) ∧ t.pwr.wake.host = true ∧ (y.seq.state = .up → t.wakeMp = true)) ∧
    ((∀ c, c < 4 → ¬ checkDue q g hit c) → t.mp.lastCode = q.mp.lastCode ∧ t.mp.parkNode = q.mp.parkNode ∧ t.pwr.wake = q.pwr.wake ∧
      t.wakeMp = q.wakeMp) := by
  obtain ⟨p, al, ch, rm, hc⟩ := scanCharged_eq q g recs acc lost auths
  rw [parkScan_eq, hc]
  exact scanRecorded_judges (parkView_scanJudged q g recs lost auths) hg p al ch rm _ lost

/-! ### The row -/

theorem parkingScan_skips {g : Fin 4} {ms : Nat} (h : s.glb.mpRunning = false ∨ s.mp.parking.active = false ∨ bitOf s.mp.parking.groups g.val = false ∨
    (dom s (6 + g.val)).move.isSome = true ∨ ms < (s.mp.parking.dueMs[g.val]?).getD 0) : exec (.parkingScan g recs acc lost auths ms) s = .next s := by
  show execParkingScan g recs acc lost auths ms s = _
  unfold execParkingScan
  refine congrArg Host.Outcome.next ?_
  dsimp only
  by_cases hms : ms < (s.mp.parking.dueMs[g.val]?).getD 0
  · exact if_pos hms
  · rw [if_neg hms]
    refine if_pos ?_
    rcases h with h | h | h | h | h
    · rw [h]
      rfl
    · rw [h, Bool.and_false]
      rfl
    · rw [h, Bool.and_false]
      rfl
    · rw [h, Bool.or_true]
    · exact absurd h hms

theorem parkingScan_exec {g : Fin 4} {ms : Nat} (hms : (s.mp.parking.dueMs[g.val]?).getD 0 ≤ ms) (hrun : s.glb.mpRunning = true)
    (hact : s.mp.parking.active = true) (hbit : bitOf s.mp.parking.groups g.val = true) (hmove : (dom s (6 + g.val)).move = none)
    (hoff : domOff s (6 + g.val) = false) (hon : domOn s (6 + g.val) = true → unenumerated s g.val = [] ∧ s.lp.jobs = [] ∧ s.lp.wait = none) :
    exec (.parkingScan g recs acc lost auths ms) s = .next (if domOn (parkScan (scanTaken s g.val ms) g.val recs acc lost auths) (6 + g.val) then
      domAsk (parkScan (scanTaken s g.val ms) g.val recs acc lost auths) (6 + g.val) .retention true false
    else parkScan (scanTaken s g.val ms) g.val recs acc lost auths) := by
  show execParkingScan g recs acc lost auths ms s = _
  unfold execParkingScan
  refine congrArg Host.Outcome.next ?_
  dsimp only
  have henum : (domOn s (6 + g.val) && !(unenumerated s g.val).isEmpty && !bitOf s.mp.parking.tried g.val) = false := by
    cases h : domOn s (6 + g.val) with
    | false => rfl
    | true =>
      rw [(hon h).1]
      rfl
  have hidle : (domOn s (6 + g.val) && !(s.lp.jobs.isEmpty && s.lp.wait.isNone)) = false := by
    cases h : domOn s (6 + g.val) with
    | false => rfl
    | true =>
      rw [(hon h).2.1, (hon h).2.2]
      rfl
  rw [if_neg (Nat.not_lt.mpr hms), if_neg (by rw [hrun, hact, hbit, hmove]; exact Bool.false_ne_true), henum, if_neg Bool.false_ne_true, hidle,
    if_neg Bool.false_ne_true, hoff, if_neg Bool.false_ne_true]
  rfl

/-- A group that is on behind its scan goes back to retention, and nothing else changes of parking. -/
theorem backToRetention {g : Nat} (hg : g < 4) (q : State) : let t := if domOn q (6 + g) then domAsk q (6 + g) .retention true false else q
    parkView t = parkView q ∧ (domOn q (6 + g) = true → (dom t (6 + g)).req = .retention) := by
  intro t
  have ht : t = if domOn q (6 + g) then domAsk q (6 + g) .retention true false else q := rfl
  rw [ht]
  cases domOn q (6 + g) with
  | false => exact ⟨rfl, fun h => absurd h Bool.false_ne_true⟩
  | true => exact ⟨(domAsk_onlyDoms (by omega) (by omega) ..).parkView, fun _ => req_domAsk (by omega) (domRefusal_group hg q .retention)⟩

/-- Settles O59: what a scan does before its checks leaves parking's own record (`parkView`), the checks are those of `parkJudge_cases`,
and a request to a domain changes no more than its record. -/
theorem parkingRuns : Obligations.ParkingRuns := by
  unfold Obligations.ParkingRuns
  refine ⟨fun s h => ?_, fun s hr h4 hg ha => parkingStart_answers hr h4 hg ha, fun s g recs acc lost auths ms h => parkingScan_skips h, ?_⟩
  · refine congrArg Host.Outcome.next (if_neg fun hc => ?_)
    simp only [Bool.and_eq_true, decide_eq_true_eq, Bool.not_eq_true'] at hc
    obtain ⟨⟨⟨hrun, hcore⟩, hgroups⟩, hact⟩ := hc
    rcases h with h | h | h | h
    · rw [h] at hrun
      exact Bool.false_ne_true hrun
    · exact hcore h
    · exact hgroups h
    · rw [h] at hact
      exact Bool.false_ne_true hact.symm
  · intro s g recs acc lost auths ms hms hrun hact hbit hmove hoff hon z v mine y hit run due
    obtain ⟨h1, h2, h3, h4, h5, h6, h7, h8⟩ := parkScan_scans (scanTaken s g.val ms) g.isLt recs acc lost auths
    obtain ⟨hview, hreq⟩ := backToRetention g.isLt (parkScan (scanTaken s g.val ms) g.val recs acc lost auths)
    have hexec := parkingScan_exec (recs := recs) (acc := acc) (lost := lost) (auths := auths) hms hrun hact hbit hmove hoff hon
    generalize (if domOn (parkScan (scanTaken s g.val ms) g.val recs acc lost auths) (6 + g.val) then
      domAsk (parkScan (scanTaken s g.val ms) g.val recs acc lost auths) (6 + g.val) .retention true false
    else parkScan (scanTaken s g.val ms) g.val recs acc lost auths) = t at hview hreq hexec
    have hpark : t.mp.parking = _ := congrArg ParkView.parking hview
    have hcode : t.mp.lastCode = _ := congrArg ParkView.lastCode hview
    have hnode : t.mp.parkNode = _ := congrArg ParkView.parkNode hview
    have hscans : t.mp.parkScans = _ := congrArg ParkView.parkScans hview
    have hwake : t.pwr.wake = _ := congrArg ParkView.wake hview
    have hmp : t.wakeMp = _ := congrArg ParkView.wakeMp hview
    refine ⟨t, hexec, ?_⟩
    dsimp only
    rw [hpark, hcode, hnode, hscans, hwake, hmp]
    refine ⟨h1, h2, h3.trans hact, fun hlt => ?_, h5, fun hy => ?_, h7, h8⟩
    · exact (congrArg (fun l => l[g.val]?) h4).trans ((listSet_getElem? ..).trans (if_pos ⟨rfl, hlt⟩))
    · refine hreq ?_
      have hdom := h6 (6 + g.val) (by omega)
      unfold dom at hdom
      unfold domOn at hy ⊢
      rw [hdom]
      exact hy

end Sys2Proof.Machine
end
